-- ==== Sys2Proof/Word.lean ====
section
/-! DEFINITION. The word and byte types. -/

namespace Sys2Proof

/-- A 32-bit register word (R39 of spec/03_register_model.md). -/
abbrev Word := BitVec 32

/-- A byte of DRAM, flash, OTP or retention RAM. -/
abbrev Byte := BitVec 8

end Sys2Proof
end

