-- ==== Sys2Proof/Types.lean ====
section
/-! DEFINITION. The types of the commands' operands: initiators, pages, and the packets and messages that the spec's protocols carry. -/

namespace Sys2Proof

/-- Who makes a register access (R56 of spec/03_register_model.md). An adapter engine writes the pages of its own block
only; `jtag` writes the debug registers of the SEC page (R419). (log 12, DESIGN CHOICE) -/
inductive Initiator where
  | host0 | host1 | marionette | smbus | remote | engineOwn | engineOther | ngunov | jtag
  deriving DecidableEq, Repr

/-- The kinds of page and of table window in the register space (R37). -/
inductive PageKind where
  | glb | aon | safe | sec | bist | lane | pelane | dplane | ulane | elane | link | linkCnt | path | pathctl | sw
  | alm | almSh | shaper | shpctl | pcie | pca | bridge | disp | dout | uhub | eth | mem | pd | mbx | mbch
  deriving DecidableEq, Repr

/-- One page, or one entry of a table window. -/
structure Page where
  kind : PageKind
  inst : Nat
  deriving DecidableEq, Repr

/-! ### Lanes -/

/-- What a training stage measured when it completed (R60, R63, R65, R66, R70). `coefs` are CTLE, VGA and DFE1 of each
pad; each marker is T1, T4 and TURN_NS. -/
inductive StageOut where
  | detect
  | orient (inv lmap : Nat) (ccValid ccFlip mismatch : Bool)
  | eqLoad (cableClass : Nat)
  | adapt (coefs : List (Nat × Nat × Nat))
  | rtt (markers : List (Nat × Nat × Nat)) (farPipe : Nat) (farFollows : Bool)
  | tsync
  deriving DecidableEq, Repr

/-- One entry of the board equalisation table (R64); `clean` says that no reserved code or bit is set. -/
structure EqEntry where
  lane : Nat
  rate : Nat
  cls : Nat
  pre2 : Nat
  pre1 : Nat
  main : Nat
  post1 : Nat
  clean : Bool
  deriving DecidableEq, Repr

/-- What REGISTER_WRITE writes: a word of the register space, or the mask bit or the enable of a host domain's MSI-X
(R55), which the management function keeps outside the pages. -/
inductive WriteTarget where
  | word (addr : Fin 16777216) (be : Fin 16) (value : Fin 4294967296)
  | msixMask (dom : Fin 2) (entry : Fin 512) (masked : Bool)
  | msixEnable (dom : Fin 2) (on : Bool)
  deriving DecidableEq, Repr

/-- A USB4 configuration-space access of a connection manager (R116, R120): router enumeration; a read or a write of the
hub register that backs the word; or the host interface adapter's enable, which Uhlok writes. -/
inductive Usb4Access where
  | enumerate
  | read (addr : Fin 16777216)
  | write (addr : Fin 16777216) (be : Fin 16) (value : Fin 4294967296)
  | hostInterface (on : Bool)
  deriving DecidableEq, Repr

/-! ### Packets -/

/-- A control packet (R87, R142): the header words it uses and its payload words. -/
structure Ctrl where
  dest : Nat
  src : Nat
  cop : Nat
  ttl : Nat
  rsp : Bool
  dom : Nat
  status : Nat
  tag : Nat
  words : List Nat
  deriving DecidableEq, Repr

/-- What a packet carries: tunnel data of a path, or a control packet (R87). `ctr` is bits [31:0] of the seal counter. -/
inductive Body where
  | data (pathId adapt ctr : Nat) (bytes : List Byte)
  | ctrl (c : Ctrl)
  deriving DecidableEq, Repr

/-- A DATA or CTRL packet (R87). LEN counts payload bytes. -/
structure Pkt where
  cls : Nat
  seald : Bool
  len : Nat
  seq : Nat
  body : Body
  deriving DecidableEq, Repr

/-- A LINK packet's command (R90, R91). -/
inductive LinkMsg where
  | ack
  | credit (entries : List (Nat × Nat))
  | pair (cmd newSet lmask dir fromCw target set : Nat)
  | lp (cmd depth : Nat)
  deriving DecidableEq, Repr

/-- A write of a USB4 path hop entry (R121 to R124 of spec/06_usb4_router_mode.md): its adapter and input HopID, whether it
sets or clears Valid, the output adapter and HopID, Priority, Weight, and Initial Credits in bytes. -/
structure HopWrite where
  adapter : Nat
  hop : Nat
  valid : Bool
  outAdapter : Nat
  outHop : Nat
  prio : Nat
  weight : Nat
  creditBytes : Nat
  deriving DecidableEq, Repr

/-- A memory fault of the switch buffer that shows in a cell slot (R192), with the output it concerns. -/
inductive CellFault where
  /-- A correctable error, in the cell that the output reads. -/
  | ce (out : Nat)
  /-- An uncorrectable error in the data of the cell that the output reads. -/
  | ue (out : Nat)
  /-- An uncorrectable error in a pointer queue or reference count of the output. -/
  | ptr (out : Nat)
  deriving DecidableEq, Repr

/-! ### PCI Express -/

/-- The kinds of TLP that R235 to R238 tell apart. -/
inductive TlpKind where
  | posted | mrd | mrdLk | ioRd | ioWr | cfgRd | cfgWr | atomicOp | cpl | unlock
  deriving DecidableEq, Repr

/-- A TLP (R233): what it is, its Requester ID and Tag, the bytes of completion data it asks for or of data it carries,
whether it is the last completion of its request, what its checks showed, and its bytes. -/
structure Tlp where
  kind : TlpKind
  req : Nat
  tag : Nat
  len : Nat
  last : Bool
  ecrcBad : Bool
  poisoned : Bool
  malformed : Bool
  bytes : List Byte
  deriving DecidableEq, Repr

/-! ### Displays -/

/-- A stream's main stream attributes (R263, R283), its bits per component and captured form. -/
structure Msa where
  htotal : Nat
  hactive : Nat
  hstart : Nat
  hsp : Nat
  hsw : Nat
  vtotal : Nat
  vactive : Nat
  vstart : Nat
  vsp : Nat
  vsw : Nat
  pclk : Nat
  bpc : Nat
  dsc : Bool
  mst : Bool
  deriving DecidableEq, Repr

/-- What a packet of a pass-through path brings: the MSA with which a stream frame begins, or the next line of active
data, whole or not. -/
inductive StreamEvt where
  | msa (m : Msa)
  | line (whole : Bool) (bytes : List Byte)
  deriving DecidableEq, Repr

/-- A rectangle of a surface. -/
structure Rect where
  x : Nat
  y : Nat
  w : Nat
  h : Nat
  deriving DecidableEq, Repr

/-- A command of the retained path (R268, R269), with its CMD_ID. -/
inductive DispCmd where
  | write (id surf : Nat) (r : Rect) (data : List Byte)
  | fill (id surf : Nat) (r : Rect) (colour : Nat)
  | copy (id surf src : Nat) (r : Rect) (sx sy : Nat)
  | commit (id mask : Nat)
  | fence (id : Nat)
  | read (id surf : Nat) (cap : Bool) (r : Rect)
  | bad (id op : Nat)
  deriving DecidableEq, Repr

/-- An AUX request (R291): whether it is the host's, and its bytes. -/
structure AuxReq where
  host : Bool
  bytes : List Byte
  deriving DecidableEq, Repr

/-! ### Ethernet and memory -/

/-- A TX descriptor as the queue half fetches it (R330), with the bytes of its buffer. -/
structure TxDesc where
  eop : Bool
  tsReq : Bool
  csum : Bool
  vlanIns : Bool
  vlan : Nat
  data : List Byte
  deriving DecidableEq, Repr

/-- A request of a DRAM client (R337): client, address, bytes asked for, and the data of a write. -/
structure MemReq where
  client : Nat
  addr : Nat
  len : Nat
  write : Option (List Byte)
  deriving DecidableEq, Repr

/-- What the ECC of a DRAM access shows (R333, R342). -/
inductive EccEvt where
  | clean | ce | ue | link
  deriving DecidableEq, Repr

/-! ### Power Delivery -/

/-- A USB PD message, by name; `raw` is one of the expert level, as its header and objects stand in the transmit buffer. -/
inductive PdMsg where
  | sourceCaps (epr : Bool) (pdos : List Nat)
  | request (rdo : Nat)
  | accept | reject | psRdy | notSupported
  | prSwap | drSwap | vconnSwap | frSwap
  | softReset | hardReset
  | eprMode (action : Nat)
  | eprKeepAlive (ack : Bool)
  | discoverIdentity | discoverSvids | discoverModes (svid : Nat)
  | enterMode (vdo : Nat) | enterModeAns (ack : Bool)
  | enterUsb (mode : Nat)
  | raw (words : List Nat)
  deriving DecidableEq, Repr

/-! ### USB -/

/-- A control request of the embedded device (R318), named by what it does. Reads and other writes carry nothing the hub
acts on. -/
inductive UsbReq where
  | read
  | setAddress (a : Nat)
  | setConfig (c : Nat)
  /-- An interface (0 playback, 1 capture, 2 HID), its alternate setting, and the channels that the setting has. -/
  | setInterface (i alt ch : Nat)
  | remoteWake (on : Bool)
  /-- UAC 2.0 SET_CUR of the sample rate, coded as UH_AUD_CFG.RATE. -/
  | setRate (r : Nat)
  | write
  deriving DecidableEq, Repr

/-- The fields that give a port, or a logical hub's upstream, its owner (R305). -/
inductive UsbOwner where
  | port (n : Nat) (present dom hsPin tdom : Bool)
  | up (d src3 up2 : Nat)
  deriving DecidableEq, Repr

/-- A hub-class request to a port (R306). -/
inductive PortFeature where
  | setPower | clearPower | reset | suspend | resume | disable | clearConnect | clearOc
  deriving DecidableEq, Repr

/-! ### SPDM -/

/-- What the SPDM responder answers (R409 to R411). -/
inductive SpdmRsp where
  | version | capabilities | algorithms
  | digests (slots digest : Nat)
  | certificate (bytes : List Byte)
  | challengeAuth (sig : List Byte)
  /-- Indices and digests, and the signature where one was asked for. -/
  | measurements (blocks : List (Nat × Nat)) (sig : Option (List Byte))
  | keyExchange (session : Nat) (sig : List Byte)
  | finish | heartbeat | keyUpdate | endSession
  /-- ERROR, with its error code. -/
  | error (code : Nat)
  deriving DecidableEq, Repr

/-! ### Messages -/

/-- A message that the hub sends to the outside. -/
inductive Out where
  /-- An MSI-X message of a host domain (R55). -/
  | msix (dom entry : Nat)
  /-- A LINK packet on a tunnel port, with its acknowledgement word (R94). -/
  | linkMsg (port : Nat) (ackV nak : Bool) (ackSeq : Nat) (m : LinkMsg)
  /-- A DATA or CTRL packet on a tunnel port, with its PB_ACK in KH520 legacy mode (R110). -/
  | pkt (port : Nat) (p : Pkt) (pb : Option Nat)
  /-- The DONE training sequence (R75). -/
  | trainDone (port : Nat)
  /-- An SBU timing frame (R73). -/
  | sbu (port type hops epoch trx : Nat)
  /-- The 1 µs wake burst of a sleeping link (R109). -/
  | wake (port : Nat)
  /-- A packet handed to an internal end by its port code. -/
  | deliver (code : Nat) (pathId : Nat) (p : Pkt)
  /-- A TLP issued to the local side of a PCA (R234). -/
  | tlp (pca : Nat) (t : Tlp)
  /-- A UR completion that a PCA returns to a requester (R237, R239). -/
  | ur (pca req tag : Nat)
  /-- The HOST-mode port of a PCA reports Surprise Down, and DPC where the host has enabled it (R239). -/
  | surpriseDown (pca : Nat)
  /-- An Unlock message issued by a PCA itself (R238). -/
  | unlock (pca : Nat)
  /-- A PME to the host of a domain, with PE_WAKE_N in role 0b01 (R243). -/
  | pme (dom : Nat)
  /-- A line of a frame leaves an output: pixel words, or bytes for a compressed stream (R284). -/
  | line (n y : Nat) (data : List Nat)
  /-- An AUX request to the sink of an output (R291). -/
  | aux (n : Nat) (bytes : List Byte)
  /-- Training of an output starts at a rate and lane count (R288). -/
  | dpTrain (n rate lanes : Nat)
  /-- A frame leaves on the line of an Ethernet port, without its FCS (R329). -/
  | ethTx (n : Nat) (bytes : List Byte)
  /-- A PAUSE frame leaves, with its quanta (R327). -/
  | ethPause (n quanta : Nat)
  /-- A transmit completion is written into descriptor `idx`: STATUS and timestamp (R329, R330). -/
  | ethTxDone (n q idx status ts : Nat)
  /-- A received frame is written into `cnt` RX descriptors from `idx` on: byte 10 of the last, VLAN tag, RSS hash, timestamp
  and bytes (R328, R330). -/
  | ethRx (n q idx cnt flags vlan hash ts : Nat) (bytes : List Byte)
  /-- An MSI-X message of an Ethernet function (R323). -/
  | ethIrq (n entry : Nat)
  /-- The data of a DRAM read, to its client; `bad` flags an uncorrectable read (R342). -/
  | memData (client : Nat) (bad : Bool) (bytes : List Byte)
  /-- A USB PD message on a port: SOP type, message (R348). -/
  | pd (port sop : Nat) (m : PdMsg)
  /-- The Fast Role Swap signal driven on CC of a port (R355). -/
  | frsSignal (port : Nat)
  /-- The voltage, in mV, that the board's source supply of a port is set to (R352, R355, R359). -/
  | supply (port mv : Nat)
  /-- The answer of the Ngunov island to an initiator: word 0 with STATUS (R374). -/
  | safeRsp (who : Initiator) (word : Nat)
  /-- A packet of the embedded device answers an IN token of an endpoint (R310); empty for a zero-length packet. -/
  | usbData (ep : Nat) (bytes : List Byte)
  /-- The handshake of an OUT packet, or NAK of an IN token: accepted or not (R310). -/
  | usbHandshake (ep : Nat) (inTok ack : Bool)
  /-- A sample frame leaves on I2S0_DOUT (R311, R313). -/
  | i2s (bytes : List Byte)
  /-- Resume signalling towards the host of a domain (R315, R316). -/
  | usbResume (dom : Nat)
  /-- An answer of the SPDM responder on an MCTP endpoint (R409). -/
  | spdm (ep : Nat) (r : SpdmRsp)
  /-- The answer to router enumeration by a connection manager of a host domain (R116). -/
  | router (dom : Nat)
  /-- What the SMBus target returns to a read, and whether PEC follows (R250, R251). -/
  | smbus (bytes : List Byte) (pec : Bool)
  /-- The SMBus target's answer at the Alert Response Address: its own address (R250). -/
  | smbAlert (addr : Nat)
  /-- The data of a register read, to its initiator. -/
  | readData (who : Initiator) (data : Nat)
  deriving DecidableEq, Repr

end Sys2Proof
end

