-- ==== Sys2Proof/Syntax.lean ====
section
/-! DEFINITION. The commands of the KH960: one constructor per row of spec/opcode_table.json. The table gives no operands; the operands are what the rule of each row needs to act. -/

namespace Sys2Proof

/-- The commands and events, in the order of spec/opcode_table.json. Each docstring names the row, its rule, and what the operands are. (log 117, DESIGN CHOICE) -/
inductive Instr where
  /-- POWER_ON_RESET (R392). The strap levels, the supplies in range as in AON_SUPPLY_STS.IN_RANGE, whether VCONN_IN is present, and whether RESET_N is low. -/
  | powerOnReset (role : Fin 4) (boot dbat : Bool) (inRange : Fin 2048) (vconnIn low : Bool)
  /-- PIN_RESET (R394). -/
  | pinReset
  /-- RESET_N_RELEASE (R1). The strap levels. -/
  | resetNRelease (role : Fin 4) (boot dbat : Bool)
  /-- SUPPLY_LOSS (R393). The supply: 0 to 10 as the bits of AON_SUPPLY_STS.IN_RANGE, 11 VCONN_IN. -/
  | supplyLoss (supply : Fin 12)
  /-- CHIP_SOFTWARE_RESET (R394). A write of KEY with CHIP = 1 by `who`. -/
  | chipSoftwareReset (who : Initiator) (key : Fin 256)
  /-- MGMT_RESET (R394). A write of KEY with MGMT = 1 and CHIP = 0 by `who`. -/
  | mgmtReset (who : Initiator) (key : Fin 256)
  /-- AON_WDT_EXPIRY (R394). -/
  | aonWdtExpiry
  /-- WATCHDOG_KICK (R399). A write of `key` by `who`. -/
  | watchdogKick (who : Initiator) (key : Fin 4294967296)
  /-- GATED_ACCESS (R14). The initiator, the byte address and the direction of the access. -/
  | gatedAccess (who : Initiator) (addr : Fin 33554432) (write : Bool)
  /-- REFCLK_LOSS (R17). The LINK islands that run from the reference: bits 0 to 5 LINK_0 to LINK_5, bit 6 LINK_PE. -/
  | refclkLoss (islands : Fin 128)
  /-- TURNOVER (R49). -/
  | turnover
  /-- CELL_SLOT (R166). `held` is a mask of the outputs whose internal end takes no cell (R181); `faults` are the memory errors that show in this slot. -/
  | cellSlot (held : Nat) (faults : List CellFault)
  /-- CALENDAR_SLOT (R200). -/
  | calendarSlot
  /-- REGISTER_WRITE (R44). The writer, and what it writes. -/
  | registerWrite (who : Initiator) (t : WriteTarget)
  /-- POP_READ (R42). The reader, and the byte address; the read of any word is carried out alike. -/
  | popRead (who : Initiator) (addr : Fin 16777216)
  /-- BLOCK_SOFT_RESET (R470). A write of 1 by `who`. -/
  | blockSoftReset (who : Initiator) (p : Page)
  /-- SOFT_RESET_COMPLETE (R470). -/
  | softResetComplete (p : Page)
  /-- ENABLE (R469). A write of ENABLE by `who`. -/
  | enable (who : Initiator) (p : Page) (on : Bool)
  /-- LEVEL_CHANGE (R45). A write of EXPERT by `who`. -/
  | levelChange (who : Initiator) (p : Page) (expert : Bool)
  /-- DERIVATION_DONE (R45). The page, and the words that Moabeuc derives: word number in the page, and value. -/
  | derivationDone (p : Page) (vals : List (Nat × Nat))
  /-- INT_FORCE (R41). A write of `mask` by `who`. -/
  | intForce (who : Initiator) (p : Page) (mask : Fin 4294967296)
  /-- INT_ENABLE_WRITE (R55). A write of `mask` by `who`. -/
  | intEnableWrite (who : Initiator) (p : Page) (mask : Fin 4294967296)
  /-- INT_ACK (R55). A write of `mask` by `who`. -/
  | intAck (who : Initiator) (p : Page) (mask : Fin 4294967296)
  /-- ERR_ACK (R52). A write of `mask` by `who`. -/
  | errAck (who : Initiator) (p : Page) (mask : Fin 65536)
  /-- GRACE_EXPIRY (R53). -/
  | graceExpiry (p : Page)
  /-- ARM (R48). A write of ARM = 1 and TARGET by `who`; `pair` says that it goes to LK_PAIR_SCTRL. -/
  | arm (who : Initiator) (p : Page) (pair : Bool) (target : Fin 65536)
  /-- CANCEL (R50). A write of CANCEL = 1 by `who`, in the same way. -/
  | cancel (who : Initiator) (p : Page) (pair : Bool)
  /-- EXT_LOCK (R46). A write of 1 by `who`. -/
  | extLock (who : Initiator) (p : Page)
  /-- ALL_LOCK (R46). A write of 1 by `who`. -/
  | allLock (who : Initiator) (p : Page)
  /-- REMOTE_ACCESS (R472). The initiator, the byte offset in the REMOTE window, and for a write its byte enables and value. -/
  | remoteAccess (who : Initiator) (off : Fin 16777216) (write : Bool) (be : Fin 16) (value : Fin 4294967296)
  /-- MODE_CHANGE (R79). A write of MODE by `who`. -/
  | modeChange (who : Initiator) (port : Fin 6) (mode : Nat)
  /-- RETRAIN (R79). A write of 1 by `who` on a lane page. -/
  | retrain (who : Initiator) (p : Page)
  /-- LN_CNT_CLR (R79). A write of 1 by `who` on a lane page. -/
  | lnCntClr (who : Initiator) (p : Page)
  /-- TRAIN_STAGE_DONE (R60). The stage that completed, with what it found. -/
  | trainStageDone (port : Fin 6) (out : StageOut)
  /-- TRAIN_STAGE_FAIL (R61). `pads` is the mask of receiving pads that failed ADAPT, when the stage is ADAPT. -/
  | trainStageFail (port : Fin 6) (pads : Nat)
  /-- RETRY_WAIT_EXPIRY (R61). -/
  | retryWaitExpiry (port : Fin 6)
  /-- LOS (R69). The lane page, and the pad or lane. -/
  | los (p : Page) (pad : Nat)
  /-- LOL (R69). The lane page, and the pad or lane. -/
  | lol (p : Page) (pad : Nat)
  /-- CODEWORD_FRAMING_LOST (R68). -/
  | codewordFramingLost (port : Fin 6) (pad : Fin 4)
  /-- LOS_RELEASE (R68). The lane page, and the pad or lane. -/
  | losRelease (p : Page) (pad : Nat)
  /-- FAR_END_RETRAIN (R69). -/
  | farEndRetrain (port : Fin 6)
  /-- PAD_RECHECK_DONE (R62). -/
  | padRecheckDone (port : Fin 6) (pad : Fin 4) (pass : Bool)
  /-- MARGIN_START (R77). A write of 1 by `who`. -/
  | marginStart (who : Initiator) (p : Page) (pad : Nat)
  /-- MARGIN_DONE (R77). -/
  | marginDone (p : Page) (pad : Nat) (aborted : Bool) (errors : Nat)
  /-- EYE_REFRESH (R78). The measured values. -/
  | eyeRefresh (p : Page) (pad : Nat) (height width worst : Nat)
  /-- SBU_SERVE_FRAME (R74). `stamp` is the arrival of its timing edge, in 0.25 ns of hub time. -/
  | sbuServeFrame (port : Fin 6) (type hops epoch tRx stamp : Nat) (crcOk : Bool)
  /-- SBU_FOLLOW_EDGE (R74). `stamp` is the arrival of the edge, in 0.25 ns of hub time. -/
  | sbuFollowEdge (port : Fin 6) (stamp : Nat) (crcOk : Bool)
  /-- FOLLOW_EDGE_SEND (R74). -/
  | followEdgeSend (port : Fin 6)
  /-- TSYNC_STEP_REQ (R75). A write of 1 by `who`. -/
  | tsyncStepReq (who : Initiator) (port : Fin 6)
  /-- CODEWORD_RX (R86). `bad` says that it is uncorrectable, `symErrs` is the number of symbols corrected, `hasHeader` that a packet header begins in it. -/
  | codewordRx (port : Fin 6) (cwNum lane setId : Nat) (standby : Bool) (symErrs : Nat) (bad hasHeader : Bool)
  /-- PACKET_RX (R93). `ty` is TYPE, `hcrc` says that the HCRC passed, `pb` is PB_ACK when PB_VALID = 1. -/
  | packetRx (port : Fin 6) (ty : Nat) (hcrc : Bool) (p : Pkt) (pb : Option Nat)
  /-- ACK_RX (R96). `seq` is ACK_SEQ of an acknowledgement word with ACK_V = 1 and NAK = 0. -/
  | ackRx (port : Fin 6) (seq : Nat)
  /-- NAK_RX (R96). The acknowledgement word's ACK_V and ACK_SEQ; its NAK bit is 1. -/
  | nakRx (port : Fin 6) (ackV : Bool) (seq : Nat)
  /-- CREDIT_RX (R98). The PATH_ID and CUM of each entry. -/
  | creditRx (port : Fin 6) (entries : List (Nat × Nat))
  /-- PAIR_DROP_RX (R103). LMASK and DIR. -/
  | pairDropRx (port : Fin 6) (lmask dir : Nat)
  /-- ADD_REQ_RX (R104). LMASK and DIR. -/
  | addReqRx (port : Fin 6) (lmask dir : Nat)
  /-- ADD_READY_RX (R104). LMASK and DIR. -/
  | addReadyRx (port : Fin 6) (lmask dir : Nat)
  /-- PAIR_SET_RX (R91). NEW_SET_ID, LMASK and FROM_CW. -/
  | pairSetRx (port : Fin 6) (newSet lmask fromCw : Nat)
  /-- TURN_PREP (R105). TARGET and SET. -/
  | turnPrep (port : Fin 6) (target set : Nat)
  /-- TURN_OK (R105). TARGET. -/
  | turnOk (port : Fin 6) (target : Nat)
  /-- TURN_NAK (R105). -/
  | turnNak (port : Fin 6)
  /-- JOIN_FAIL (R105). -/
  | joinFail (port : Fin 6)
  /-- LP_REQ (R108). DEPTH. -/
  | lpReq (port : Fin 6) (depth : Nat)
  /-- LP_ACK (R108). DEPTH. -/
  | lpAck (port : Fin 6) (depth : Nat)
  /-- LP_NAK (R108). -/
  | lpNak (port : Fin 6)
  /-- TX_PACKET_BOUNDARY (R198). -/
  | txPacketBoundary (port : Fin 6)
  /-- ACK_DUE (R94). -/
  | ackDue (port : Fin 6)
  /-- NAK_REPEAT (R93). -/
  | nakRepeat (port : Fin 6)
  /-- REPLAY_TIMEOUT (R96). -/
  | replayTimeout (port : Fin 6)
  /-- CREDIT_TIMER (R99). -/
  | creditTimer (port : Fin 6)
  /-- CREDIT_REFRESH (R99). -/
  | creditRefresh (port : Fin 6)
  /-- TURN_PAD_LOCK (R105). `locked` is false when lane data arrives before the pad has locked. -/
  | turnPadLock (port : Fin 6) (locked : Bool)
  /-- TURN_WIDEN (R105). -/
  | turnWiden (port : Fin 6)
  /-- LP_IDLE_EXPIRY (R108). -/
  | lpIdleExpiry (port : Fin 6)
  /-- LINK_WAKE (R109). -/
  | linkWake (port : Fin 6)
  /-- LP_WAKE_DETECT (R109). -/
  | lpWakeDetect (port : Fin 6)
  /-- LP_EXIT_DONE (R109). -/
  | lpExitDone (port : Fin 6)
  /-- LK_CNT_CLR (R113). A write of 1 by `who`. -/
  | lkCntClr (who : Initiator) (port : Fin 6)
  /-- USB4_CONFIG_ACCESS (R120). The host domain that owns the presentation, and the access. -/
  | usb4ConfigAccess (dom : Fin 2) (a : Usb4Access)
  /-- HOP_ENTRY_WRITE (R123). The host domain of the presentation and the written hop entry. -/
  | hopEntryWrite (dom : Fin 2) (w : HopWrite)
  /-- PATH_ENTRY_WRITE (R136). A write by `who` to word `word` of entry `k`, with byte enables. -/
  | pathEntryWrite (who : Initiator) (k : Fin 8192) (word : Fin 8) (be : Fin 16) (value : Nat)
  /-- CTRL_PACKET_RX (R144). The oldest CTRL packet waiting at a tunnel port is handled. -/
  | ctrlPacketRx
  /-- IDENTIFY (R468). The oldest one delivered to this hub is handled; so for every control opcode. -/
  | identify
  /-- SET_HUB_ID (R159). -/
  | setHubId
  /-- REG_READ (R246). -/
  | regRead
  /-- REG_WRITE (R143). -/
  | regWrite
  /-- PORT_EVENT (R143). -/
  | portEvent
  /-- RELAY (R145). -/
  | relay
  /-- PATH_SETUP (R149). -/
  | pathSetup
  /-- PATH_RELEASE (R149). -/
  | pathRelease
  /-- PATH_DOWN (R156). -/
  | pathDown
  /-- TURN_ARM (R218). -/
  | turnArm
  /-- TURN_CANCEL (R219). -/
  | turnCancel
  /-- ISO_SHORT (R225). -/
  | isoShort
  /-- ISO_OK (R225). -/
  | isoOk
  /-- CTRL_BAD_REQ (R143). -/
  | ctrlBadReq
  /-- CTRL_RESPONSE_RX (R146). -/
  | ctrlResponseRx
  /-- CTRL_TIMEOUT (R146). The slot and TAG of the request. -/
  | ctrlTimeout (dom : Fin 2) (tag : Fin 1024)
  /-- ADD_HOLD_EXPIRY (R149). -/
  | addHoldExpiry (k : Fin 8192)
  /-- DEL_ENTRY_FREE (R138). -/
  | delEntryFree (k : Fin 8192)
  /-- UP_PORT_DOWN_TIMEOUT (R161). -/
  | upPortDownTimeout (slot : Fin 2)
  /-- PC_CNT_CLR (R163). A write of 1 by `who`. -/
  | pcCntClr (who : Initiator)
  /-- FRAME_TIMEOUT (R172). The flow of an input towards a target (an output, or 32 + group) in a class. -/
  | frameTimeout (inp : Fin 20) (tgt : Fin 544) (cls : Fin 4)
  /-- SW_OUT_RESTART (R192). A write of `mask` by `who`. -/
  | swOutRestart (who : Initiator) (mask : Fin 1048576)
  /-- CAPTURE_DRAIN (R188). -/
  | captureDrain
  /-- SW_CAP_RD (R188). A write of `value` by `who`. -/
  | swCapRd (who : Initiator) (value : Fin 4294967296)
  /-- SW_CNT_CLR (R194). A write of 1 by `who`. -/
  | swCntClr (who : Initiator)
  /-- SHAPER_ELIGIBLE (R206). The shaper. -/
  | shaperEligible (k : Fin 4096)
  /-- ALM_CNT_CLR (R209). A write of 1 by `who` to the page of an egress. -/
  | almCntClr (who : Initiator) (e : Fin 26)
  /-- PORT_RST (R229). A write of 1 by `who`. -/
  | portRst (who : Initiator)
  /-- PE_LINK_RESET (R229). A write of 1 by `who` for link `l`. -/
  | peLinkReset (who : Initiator) (l : Fin 4)
  /-- PE_CNT_CLR (R254). A write of 1 by `who`. -/
  | peCntClr (who : Initiator)
  /-- PCA_CNT_CLR (R256). A write of 1 by `who`. -/
  | pcaCntClr (who : Initiator) (n : Fin 8)
  /-- BR_CNT_CLR (R258). A write of 1 by `who`. -/
  | brCntClr (who : Initiator)
  /-- TLP_FROM_LOCAL (R235). The PCA and the TLP. -/
  | tlpFromLocal (n : Fin 8) (t : Tlp)
  /-- TLP_FROM_TUNNEL (R234). KIND and MORE of the packet's ADAPT field, and the TLP with this packet's bytes. -/
  | tlpFromTunnel (n : Fin 8) (kind : Fin 4) (more : Bool) (t : Tlp)
  /-- NP_ISSUE (R236). -/
  | npIssue (n : Fin 8)
  /-- COMPLETION_FROM_TUNNEL (R237). -/
  | completionFromTunnel (n : Fin 8) (t : Tlp)
  /-- CPL_TIMEOUT (R237). The request table entry, by Requester ID and Tag. -/
  | cplTimeout (n : Fin 8) (req : Fin 65536) (tag : Fin 1024)
  /-- LOCKED_REQUEST (R238). An MRdLk from the tunnel, or from the local side. -/
  | lockedRequest (n : Fin 8) (tunnel : Bool) (t : Tlp)
  /-- UNLOCK (R238). -/
  | unlock (n : Fin 8)
  /-- LOCK_TIMEOUT (R238). -/
  | lockTimeout (n : Fin 8)
  /-- PCA_RELEASE (R239). A write of 1 by `who`. -/
  | pcaRelease (who : Initiator) (n : Fin 8)
  /-- PCA_MODE_WRITE (R232). MODE, DOM, TX_HANDLE and RX_HANDLE as `who` writes them. -/
  | pcaModeWrite (who : Initiator) (n : Fin 8) (mode : Fin 4) (dom : Fin 2) (tx rx : Fin 65536)
  /-- SIDEBAND_UPDATE_SEND (R241). The levels of the local side, in the places of the state word. -/
  | sidebandUpdateSend (n : Fin 8) (levels : Fin 32)
  /-- SIDEBAND_UPDATE_RX (R242). -/
  | sidebandUpdateRx (n : Fin 8) (seq : Fin 256) (word : Fin 4294967296)
  /-- SIDEBAND_PULSE_END (R242). -/
  | sidebandPulseEnd (n : Fin 8)
  /-- HOST_WARM_RESET (R244). `none`: PE_PERST_N is asserted in role 0b01; else a USB4 router reset of that domain's presentation (R394). -/
  | hostWarmReset (router : Option (Fin 2))
  /-- SET_ADDR (R251). Whether the PEC byte, if the target checks it, is good; so for every SMBus write. -/
  | setAddr (pecOk : Bool) (addr : Fin 33554432)
  /-- SMB_WRITE (R251). -/
  | smbWrite (pecOk : Bool) (words : List Nat)
  /-- READ_START (R251). -/
  | readStart (pecOk : Bool) (n : Fin 256)
  /-- SMB_READ_DONE (R245). -/
  | smbReadDone
  /-- READ_DATA (R252). Whether the controller clocks the last byte. -/
  | readData (collected : Bool)
  /-- SMB_STATUS (R251). -/
  | smbStatus
  /-- SELECT (R251). -/
  | select (pecOk : Bool) (hub : Fin 65536)
  /-- SMB_PROTO (R251). -/
  | smbProto
  /-- ALERT_RESPONSE (R250). -/
  | alertResponse
  /-- SMB_DISCARD (R248). -/
  | smbDiscard
  /-- BR_RSEL_WRITE (R245). HUB_ID as `who` writes it. -/
  | brRselWrite (who : Initiator) (hub : Fin 65536)
  /-- PREFETCH_EXPIRY (R247). -/
  | prefetchExpiry
  /-- VBLANK_START (R279). The output. -/
  | vblankStart (n : Fin 4)
  /-- LINE_START (R282). The output, and the skew measured if the line starts a frame of a locked pair. -/
  | lineStart (n : Fin 4) (skew : Fin 65536)
  /-- STREAM_PACKET_RX (R263). The output, the egress handle of the packet, and what it brings. -/
  | streamPacketRx (n : Fin 4) (handle : Fin 65536) (e : StreamEvt)
  /-- STREAM_TIMEOUT (R265). -/
  | streamTimeout (n : Fin 4)
  /-- HOLD_REQ (R275). A write of 1 by `who`; `resume` says that the same write sets RESUME_REQ. -/
  | holdReq (who : Initiator) (n : Fin 4) (resume : Bool)
  /-- RESUME_REQ (R275). A write of 1 by `who`. -/
  | resumeReq (who : Initiator) (n : Fin 4)
  /-- DISP_CNT_CLR (R284). A write of 1 by `who`. -/
  | dispCntClr (who : Initiator) (n : Fin 4)
  /-- WRITE_RECT (R269). The output, the egress handle, CMD_ID, SURF, the rectangle, and the data of the chain. -/
  | writeRect (n : Fin 4) (handle id : Fin 65536) (surf : Fin 8) (r : Rect) (data : List Byte)
  /-- FILL_RECT (R269). -/
  | fillRect (n : Fin 4) (handle id : Fin 65536) (surf : Fin 8) (r : Rect) (colour : Fin 4294967296)
  /-- COPY_RECT (R269). -/
  | copyRect (n : Fin 4) (handle id : Fin 65536) (surf src : Fin 8) (r : Rect) (sx sy : Fin 65536)
  /-- COMMIT (R270). -/
  | commit (n : Fin 4) (handle id : Fin 65536) (mask : Fin 256)
  /-- FENCE (R269). -/
  | fence (n : Fin 4) (handle id : Fin 65536)
  /-- READ_RECT (R271). -/
  | readRect (n : Fin 4) (handle id : Fin 65536) (surf : Fin 8) (cap : Bool) (r : Rect)
  /-- BAD_OP (R269). -/
  | badOp (n : Fin 4) (handle id : Fin 65536) (op : Fin 256)
  /-- COPY_FORWARD_DONE (R270). -/
  | copyForwardDone (n : Fin 4) (surf : Fin 8)
  /-- AUX_REQUEST (R291). `host`: a request of the host on `handle`, else one of Moabeuc. -/
  | auxRequest (n : Fin 4) (handle : Fin 65536) (host : Bool) (bytes : List Byte)
  /-- AUX_REPLY (R291). -/
  | auxReply (n : Fin 4) (bytes : List Byte)
  /-- AUX_TIMEOUT (R291). -/
  | auxTimeout (n : Fin 4)
  /-- PLUG (R292). The largest lane count of the sink. -/
  | plug (n : Fin 4) (lanes : Fin 5)
  /-- UNPLUG (R292). -/
  | unplug (n : Fin 4)
  /-- IRQ_HPD (R292). `retrain`: the sink requests retraining, or has lost lock. -/
  | irqHpd (n : Fin 4) (retrain : Bool)
  /-- DP_TRAIN_DONE (R288). Whether training at the configuration tried succeeded, and the LTTPRs found. -/
  | dpTrainDone (n : Fin 4) (ok : Bool) (lttpr : Fin 9)
  /-- READBACK_FRAME_END (R295). The pixel words of each line as read back, or the bytes of a compressed stream. -/
  | readbackFrameEnd (n : Fin 4) (rows : List (List Nat))
  /-- RB_LOSS (R296). -/
  | rbLoss (n : Fin 4)
  /-- DOUT_RESTART (R299). A write of 1 by `who`. -/
  | doutRestart (who : Initiator) (n : Fin 4)
  /-- DOUT_RETRAIN (R300). A write of 1 by `who`. -/
  | doutRetrain (who : Initiator) (n : Fin 4)
  /-- DOUT_CNT_CLR (R300). A write of 1 by `who`. -/
  | doutCntClr (who : Initiator) (n : Fin 4)
  /-- OVERCURRENT (R306). -/
  | overcurrent (n : Fin 6)
  /-- PORT_OWNER_CHANGE (R305). A write of `who`: the fields of a port, or those of a logical hub's upstream. -/
  | portOwnerChange (who : Initiator) (o : UsbOwner)
  /-- USB_OUT_PACKET (R310). -/
  | usbOutPacket (ep : Fin 16) (crcOk : Bool) (bytes : List Byte)
  /-- USB_IN_TOKEN (R310). Whether the host acknowledges what the device sends. -/
  | usbInToken (ep : Fin 16) (acked : Bool)
  /-- MICROFRAME_START (R312). -/
  | microframeStart
  /-- FB_REFRESH (R314). MCLK cycles of the window. -/
  | fbRefresh (count : Fin 4294967296)
  /-- MCLK_LOSS (R311). -/
  | mclkLoss
  /-- WAKE_REQ (R315). A write of 1 by `who`; Moabeuc requests a wake on a HID event so as well. -/
  | wakeReq (who : Initiator)
  /-- REMOTE_WAKE_SIGNAL (R315). -/
  | remoteWakeSignal
  /-- HOST_RESUME (R316). The domain, and whether its SuperSpeed upstream leaves U3. -/
  | hostResume (d : Fin 2) (ss : Bool)
  /-- USB_BUS_RESET (R317). As HOST_RESUME. -/
  | usbBusReset (d : Fin 2) (ss : Bool)
  /-- STATUS_STAGE (R318). -/
  | statusStage
  /-- SETUP (R318). The request, and the length of its data stage. -/
  | setup (r : UsbReq) (len : Fin 65536)
  /-- UH_CNT_CLR (R319). A write of 1 by `who`. -/
  | uhCntClr (who : Initiator)
  /-- ETH_FRAME_RX (R326). Whether the FCS checks, whether the destination passes the filters, and the frame without FCS. -/
  | ethFrameRx (n : Fin 2) (fcsOk accept : Bool) (bytes : List Byte)
  /-- PAUSE_RX (R322). -/
  | pauseRx (n : Fin 2) (quanta : Fin 65536)
  /-- ETH_TUNNEL_FRAME (R328). A packet of KIND 0: its direction, its path, MORE, and its payload. -/
  | ethTunnelFrame (n : Fin 2) (toMac g more : Bool) (bytes : List Byte)
  /-- ETH_STATUS_UPDATE (R325). -/
  | ethStatusUpdate (n : Fin 2) (w0 w1 w2 w3 : Fin 4294967296)
  /-- LINK_STATE_TIMER (R325). Whether the line is up. -/
  | linkStateTimer (n : Fin 2) (up : Bool)
  /-- TX_TAIL (R329). A write of `tail` by `who`, and the descriptors that the queue half fetches for it. -/
  | txTail (who : Initiator) (n : Fin 2) (q : Fin 32) (tail : Fin 65536) (descs : List TxDesc)
  /-- RX_TAIL (R328). A write of `tail` by `who`, and the buffer sizes of the descriptors posted. -/
  | rxTail (who : Initiator) (n : Fin 2) (q : Fin 32) (tail : Fin 65536) (sizes : List Nat)
  /-- TS_COMPLETION_TIMEOUT (R329). -/
  | tsCompletionTimeout (n : Fin 2) (q : Fin 32) (idx : Fin 65536)
  /-- ETH_DMA_ERROR (R331). -/
  | ethDmaError (n : Fin 2) (q : Fin 32)
  /-- ETH_BIND_CHANGE (R324). A write of Q_BIND and MAC_BIND by `who`. -/
  | ethBindChange (who : Initiator) (n : Fin 2) (q m : Fin 4)
  /-- IRQ_MOD_EXPIRY (R330). -/
  | irqModExpiry (n : Fin 2) (entry : Fin 33)
  /-- ETH_CNT_CLR (R339). A write of 1 by `who`. -/
  | ethCntClr (who : Initiator) (n : Fin 2)
  /-- DRAM_TRAINING (R334). Whether the stored results pass their check, and the mask of channels on which full training fails. -/
  | dramTraining (stored : Bool) (failed : Fin 256)
  /-- DQS_CHECK (R334). -/
  | dqsCheck
  /-- DRAM_REQUEST (R337). The requests that arrive in this clock, and what the ECC of the access served shows. -/
  | dramRequest (new : List MemReq) (ecc : EccEvt)
  /-- SR_ENTRY (R338). -/
  | srEntry
  /-- PD_ENTRY (R338). -/
  | pdEntry
  /-- SR_EXIT (R338). -/
  | srExit
  /-- MEM_CNT_CLR (R341). A write of 1 by `who`. -/
  | memCntClr (who : Initiator)
  /-- CC_ATTACH (R347). The port, the CC state ([5:3] CC2, [2:0] CC1: 0 open, 1 Ra, 2 Rd, 3 to 5 Rp Default, 1.5 A, 3.0 A), and VBUS in mV. -/
  | ccAttach (n : Fin 6) (cc : Fin 64) (vbus : Fin 65536)
  /-- DETACH (R359). The port and VBUS in mV. -/
  | detach (n : Fin 6) (vbus : Fin 65536)
  /-- CC_OV (R343). -/
  | ccOv (n : Fin 6)
  /-- SOURCE_CAPABILITIES (R350). The message: header and data objects. -/
  | sourceCapabilities (n : Fin 6) (raw : List Nat)
  /-- REQUEST (R351). The message: header and data objects. -/
  | request (n : Fin 6) (raw : List Nat)
  /-- ACCEPT (R352). -/
  | accept (n : Fin 6) (raw : List Nat)
  /-- REJECT (R352). -/
  | reject (n : Fin 6) (raw : List Nat)
  /-- WAIT (R352). -/
  | wait (n : Fin 6) (raw : List Nat)
  /-- WAIT_RETRY (R352). -/
  | waitRetry (n : Fin 6)
  /-- PS_RDY (R352). `frs`: the Sink_Capabilities of the partner ask for Fast Role Swap. -/
  | psRdy (n : Fin 6) (raw : List Nat) (frs : Bool)
  /-- PR_SWAP (R355). -/
  | prSwap (n : Fin 6) (raw : List Nat)
  /-- DR_SWAP (R355). -/
  | drSwap (n : Fin 6) (raw : List Nat)
  /-- VCONN_SWAP (R355). -/
  | vconnSwap (n : Fin 6) (raw : List Nat)
  /-- FR_SWAP (R355). -/
  | frSwap (n : Fin 6) (raw : List Nat)
  /-- FRS_SIGNAL (R355). -/
  | frsSignal (n : Fin 6) (vbus : Fin 65536)
  /-- SUPPLY_FAIL_GPIO (R355). -/
  | supplyFailGpio
  /-- HARD_RESET_RX (R356). -/
  | hardResetRx (n : Fin 6)
  /-- SOFT_RESET_RX (R361). -/
  | softResetRx (n : Fin 6) (raw : List Nat)
  /-- EPR_KEEPALIVE (R350). -/
  | eprKeepalive (n : Fin 6) (raw : List Nat)
  /-- DISCOVER_IDENTITY (R348). The SOP type, whether it was answered, and the answer. -/
  | discoverIdentity (n : Fin 6) (sop : Fin 3) (answered : Bool) (raw : List Nat)
  /-- DISCOVER_MODES (R348). The SOP type, whether it was answered, and the answer: its last word is the mode VDO. -/
  | discoverModes (n : Fin 6) (sop : Fin 3) (answered : Bool) (raw : List Nat)
  /-- ENTER_MODE (R348). The message, whose last word is the VDO; where the hub sent Enter Mode, `ack` is the answer. -/
  | enterMode (n : Fin 6) (ack : Bool) (raw : List Nat)
  /-- ENTER_USB (R348). -/
  | enterUsb (n : Fin 6) (raw : List Nat)
  /-- AUTHENTICATION_MSG (R346). -/
  | authenticationMsg (n : Fin 6) (sop : Fin 3)
  /-- HARD_RESET (R349). A write of 1 by `who`. -/
  | hardReset (who : Initiator) (n : Fin 6)
  /-- SOFT_RESET (R349). A write of 1 by `who`. -/
  | softReset (who : Initiator) (n : Fin 6)
  /-- ERR_RECOVERY (R356). A write of 1 by `who`. -/
  | errRecovery (who : Initiator) (n : Fin 6)
  /-- SWAP_PR (R349). A write of 1 by `who`. -/
  | swapPr (who : Initiator) (n : Fin 6)
  /-- SWAP_DR (R349). A write of 1 by `who`. -/
  | swapDr (who : Initiator) (n : Fin 6)
  /-- SWAP_VCONN (R349). A write of 1 by `who`. -/
  | swapVconn (who : Initiator) (n : Fin 6)
  /-- EPR_ENTER (R349). A write of 1 by `who`. -/
  | eprEnter (who : Initiator) (n : Fin 6)
  /-- EPR_EXIT (R349). A write of 1 by `who`. -/
  | eprExit (who : Initiator) (n : Fin 6)
  /-- PD_SEQUENCE_START (R349). -/
  | pdSequenceStart (n : Fin 6)
  /-- SINKTX_EXPIRY (R349). -/
  | sinktxExpiry (n : Fin 6)
  /-- EPR_KA_TIMER (R350). -/
  | eprKaTimer (n : Fin 6)
  /-- EPR_KA_LOST (R350). -/
  | eprKaLost (n : Fin 6)
  /-- PPS_REQ_TIMER (R350). -/
  | ppsReqTimer (n : Fin 6)
  /-- PPS_TIMEOUT (R350). -/
  | ppsTimeout (n : Fin 6)
  /-- SENDER_RESPONSE_TIMEOUT (R362). -/
  | senderResponseTimeout (n : Fin 6)
  /-- SRC_RECOVER (R356). -/
  | srcRecover (n : Fin 6)
  /-- ERROR_RECOVERY_DONE (R356). -/
  | errorRecoveryDone (n : Fin 6)
  /-- DR_SWAP_WAIT (R348). -/
  | drSwapWait (n : Fin 6)
  /-- PD_TX_SEND (R363). A write of 1 by `who`. -/
  | pdTxSend (who : Initiator) (n : Fin 6)
  /-- PD_CNT_CLR (R363). A write of 1 by `who`. -/
  | pdCntClr (who : Initiator) (n : Fin 6)
  /-- DBAT_START (R360). The lowest-numbered port whose VBUS has been within vSafe5V for 10 ms, and VBUS in mV. -/
  | dbatStart (n : Fin 6) (vbus : Fin 65536)
  /-- OV_TRIP (R371). The port, VBUS in mV and the current in mA, signed. -/
  | ovTrip (n : Fin 6) (vbus ibus : Fin 65536)
  /-- OC_TRIP (R371). The port, VBUS in mV and the current in mA, signed, held for the filter time. -/
  | ocTrip (n : Fin 6) (vbus ibus : Fin 65536)
  /-- RC_TRIP (R371). -/
  | rcTrip (n : Fin 6) (vbus ibus : Fin 65536)
  /-- VCONN_OC (R371). -/
  | vconnOc (n : Fin 6)
  /-- THERM_WARN (R371). The hottest sensor, °C, signed. -/
  | thermWarn (tj : Fin 256)
  /-- THERM_TRIP (R371). The hottest sensor, °C, signed. -/
  | thermTrip (tj : Fin 256)
  /-- THERM_RELEASE (R372). The hottest sensor, °C, signed. -/
  | thermRelease (tj : Fin 256)
  /-- DISCH_FAIL (R371). -/
  | dischFail (n : Fin 6) (vbus : Fin 65536)
  /-- TRANS_TIMEOUT (R371). -/
  | transTimeout (n : Fin 6) (vbus ibus : Fin 65536)
  /-- DISCHARGE_COMPLETE (R359). -/
  | dischargeComplete (n : Fin 6) (vbus : Fin 65536)
  /-- PATH_CLOSE (R354). VBUS in mV, as it has been for the time the interlock asks for. -/
  | pathClose (n : Fin 6) (vbus : Fin 65536)
  /-- CLOSE_WAIT_TIMEOUT (R374). -/
  | closeWaitTimeout (n : Fin 6)
  /-- SET_CONTRACT (R374). The request's initiator, PORT, TAG and arguments. -/
  | setContract (who : Initiator) (port : Fin 256) (tag : Fin 65536) (lo hi ic : Fin 65536) (phase : Fin 2)
  /-- CLOSE_PATH (R374). -/
  | closePath (who : Initiator) (port : Fin 256) (tag : Fin 65536) (sink : Bool)
  /-- OPEN_PATH (R374). -/
  | openPath (who : Initiator) (port : Fin 256) (tag : Fin 65536) (sink : Bool)
  /-- DISCHARGE (R374). -/
  | discharge (who : Initiator) (port : Fin 256) (tag : Fin 65536)
  /-- VCONN_REQ (R374). -/
  | vconnReq (who : Initiator) (port : Fin 256) (tag : Fin 65536) (on : Bool)
  /-- FRS_ARM (R374). -/
  | frsArm (who : Initiator) (port : Fin 256) (tag : Fin 65536) (armed : Bool)
  /-- CLEAR_TRIP (R374). -/
  | clearTrip (who : Initiator) (port : Fin 256) (tag : Fin 65536)
  /-- SET_LIMIT (R373). -/
  | setLimit (who : Initiator) (port : Fin 256) (tag : Fin 65536) (limit : Fin 65536) (pct : Fin 256)
  /-- SAFE_RESET (R374). -/
  | safeReset (who : Initiator) (tag : Fin 65536)
  /-- PATCH (R369). The location of the patch. -/
  | patch (who : Initiator) (tag : Fin 65536) (w1 w2 w3 : Fin 4294967296)
  /-- LOCKSTEP_MISMATCH (R368). -/
  | lockstepMismatch
  /-- SAFE_CLOCK_FAULT (R368). -/
  | safeClockFault
  /-- SAFE_WATCHDOG (R368). -/
  | safeWatchdog
  /-- SAFE_SRAM_UE (R368). -/
  | safeSramUe
  /-- SAFE_SUPPLY_LOW (R368). -/
  | safeSupplyLow
  /-- SAFETY_RESET_COMPLETE (R375). -/
  | safetyResetComplete
  /-- ENTER_D2 (R380). A write of TARGET = 2 and GO = 1 by `who`. -/
  | enterD2 (who : Initiator)
  /-- ENTER_YOYO (R381). A write of TARGET = 3 and GO = 1 by `who`. -/
  | enterYoyo (who : Initiator)
  /-- ENTER_OFF (R384). A write of TARGET = 4 and GO = 1 by `who`. -/
  | enterOff (who : Initiator)
  /-- DRAIN_TIMEOUT (R380). -/
  | drainTimeout
  /-- D1_ENTRY (R379). The USB4 links in CL0s, CL1 or CL2, and the LTSSM states of the four PCIe links, a nibble each. -/
  | d1Entry (usb4 : Fin 64) (pcie : Fin 65536)
  /-- D1_EXIT (R379). As D1_ENTRY. -/
  | d1Exit (usb4 : Fin 64) (pcie : Fin 65536)
  /-- YOYO_SAMPLE (R382). For each port [5:3] CC2 and [2:0] CC1 as R383 codes them, and VBUS in mV; the hottest sensor in °C, signed; the levels of the wake GPIOs. -/
  | yoyoSample (cc vbus : List Nat) (temp gpio : Fin 256)
  /-- FORCED_OFF (R384). -/
  | forcedOff
  /-- PWR_BTN_WAKE (R386). -/
  | pwrBtnWake
  /-- DBAT_WAKE (R386). DBAT_VIN in mV. -/
  | dbatWake (mv : Fin 65536)
  /-- GPIO_EDGE_WAKE (R383). The wake GPIO and its new level. -/
  | gpioEdgeWake (g : Fin 8) (level : Bool)
  /-- ALARM_EXPIRY (R386). -/
  | alarmExpiry
  /-- GROUP_IN_RANGE (R387). -/
  | groupInRange
  /-- EXIT_TIMEOUT (R387). -/
  | exitTimeout
  /-- EXIT_RETRY (R387). -/
  | exitRetry
  /-- PAD_RELEASE (R389). A write of 1 by `who`. -/
  | padRelease (who : Initiator)
  /-- RETENTION_RAM_ACCESS (R397). The word address of a direct access of Marionette or the Ngunov island, none for one through AON_RAM_DATA; the word written, none for a read; byte enables; whether the word read has an uncorrectable error. -/
  | retentionRamAccess (who : Initiator) (addr : Option (Fin 16384)) (write : Option (Fin 4294967296)) (be : Fin 16) (ue : Bool)
  /-- AON_CNT_CLR (R399). A write of 1 by `who`. -/
  | aonCntClr (who : Initiator)
  /-- BOOT_ROM_START (R406). Whether the PUF correction succeeds, whether the identity key equals that of the device certificate, TEST_EN as sampled, the raw bits corrected, and the mask of copies that the flash fails to read. -/
  | bootRomStart (idOk idMatch testEn : Bool) (pufErr : Fin 65536) (flashErr : Fin 4)
  /-- RECOVERY_IMAGE_RX (R407). -/
  | recoveryImageRx (who : Initiator) (bytes : List Byte)
  /-- OTP_PROGRAM (R402). The word, and the bits that the read-back lacks. -/
  | otpProgram (who : Initiator) (word : Fin 512) (lost : Fin 4294967296)
  /-- MEAS_EXTEND (R408). -/
  | measExtend (who : Initiator) (bank : Fin 8)
  /-- SIGN (R411). -/
  | sign (who : Initiator)
  /-- LOAD (R413). -/
  | load (who : Initiator) (slot : Fin 64) (salt : Fin 65536)
  /-- DERIVE (R412). -/
  | derive (who : Initiator) (slot : Fin 64) (salt : Fin 65536)
  /-- ZEROISE (R413). -/
  | zeroise (who : Initiator) (slot : Fin 64)
  /-- ZEROISE_ALL (R413). -/
  | zeroiseAll (who : Initiator)
  /-- CHALLENGE (R417). -/
  | challenge (who : Initiator) (level : Fin 4)
  /-- DBG_RESP_PUSH (R417). -/
  | dbgRespPush (who : Initiator) (word : Fin 4294967296)
  /-- VERIFY (R417). -/
  | verify (who : Initiator) (level : Fin 4)
  /-- NONCE_EXPIRY (R417). -/
  | nonceExpiry
  /-- KEY_GRACE_END (R416). -/
  | keyGraceEnd (entry : Fin 8192)
  /-- GET_VERSION (R409). The MCTP endpoint of the requester. -/
  | getVersion (ep : Fin 256)
  /-- GET_CAPABILITIES (R409). -/
  | getCapabilities (ep : Fin 256)
  /-- NEGOTIATE_ALGORITHMS (R409). Whether the requester offers the hub's algorithms. -/
  | negotiateAlgorithms (ep : Fin 256) (common : Bool)
  /-- GET_DIGESTS (R409). -/
  | getDigests (ep : Fin 256)
  /-- GET_CERTIFICATE (R409). -/
  | getCertificate (ep : Fin 256) (slot : Fin 8) (off len : Fin 65536)
  /-- SPDM_CHALLENGE (R411). The digest of the transcript. -/
  | spdmChallenge (ep : Fin 256) (slot : Fin 8) (digest : Nat)
  /-- GET_MEASUREMENTS (R410). The index, 0xFF for all; whether a signature is asked for, and the digest of the transcript. -/
  | getMeasurements (ep index : Fin 256) (signed : Bool) (digest : Nat)
  /-- KEY_EXCHANGE (R409). -/
  | keyExchange (ep : Fin 256) (slot : Fin 8) (session : Fin 65536) (digest : Nat)
  /-- FINISH (R409). -/
  | finish (ep : Fin 256)
  /-- HEARTBEAT (R409). -/
  | heartbeat (ep : Fin 256)
  /-- KEY_UPDATE (R409). -/
  | keyUpdate (ep : Fin 256)
  /-- END_SESSION (R409). -/
  | endSession (ep : Fin 256)
  /-- SPDM_UNSUPPORTED (R409). -/
  | spdmUnsupported (ep : Fin 256)
  /-- SLICE_COPY_DONE (R429). -/
  | sliceCopyDone
  /-- SLICE_COPY_TIMEOUT (R429). -/
  | sliceCopyTimeout
  /-- SLICE_MARCH_DONE (R430). Whether March C- finds the slice faulty. -/
  | sliceMarchDone (fail : Bool)
  /-- SLICE_RESTORE_DONE (R429). -/
  | sliceRestoreDone
  /-- BIST_RUN_GO (R428). A write of GO = 1 with SLICE by `who`. -/
  | bistRunGo (who : Initiator) (slice : Fin 8192)
  /-- LOGIC_BIST_DONE (R433). The islands that fail each run, in the order of R16. -/
  | logicBistDone (fail1 fail2 : Fin 131072)
  /-- BIST_CNT_CLR (R434). A write of 1 by `who`. -/
  | bistCntClr (who : Initiator)
  /-- FW_READY (R441). -/
  | fwReady
  /-- ENGINE_HALT (R19). The engine, in the order of the allotment table of spec/01_architecture.md. -/
  | engineHalt (e : Fin 24)
  /-- ENGINE_RESTART (R438). As ENGINE_HALT. -/
  | engineRestart (e : Fin 24)
  /-- GO (R443). The channel, and CMD, LEN and TAG as written with GO = 1. -/
  | go (who : Initiator) (c : Fin 16) (cmd len tag : Fin 256)
  /-- REQUEST_TAKEN (R443). The channel. -/
  | requestTaken (c : Fin 16)
  /-- ABORT (R443). -/
  | abort (who : Initiator) (c : Fin 16)
  /-- DONE (R443). -/
  | done (who : Initiator) (c : Fin 16)
  /-- GET_INFO (R444). The channel. -/
  | getInfo (c : Fin 16)
  /-- POWER (R444). -/
  | power (c : Fin 16)
  /-- DP_GRANT (R444). -/
  | dpGrant (c : Fin 16)
  /-- KEY_BIND (R444). The channel, and the key that the session has delivered under the key ID. -/
  | keyBind (c : Fin 16) (key : Option Nat)
  /-- LOG_READ (R444). The channel, and the words of the log from the offset on. -/
  | logRead (c : Fin 16) (words : List Nat)
  /-- CTRL_SEND (R444). -/
  | ctrlSend (c : Fin 16)
  /-- FW_BEGIN (R445). The channel, and whether the flash passes its read-back. -/
  | fwBegin (c : Fin 16) (ok : Bool)
  /-- FW_DATA (R445). As FW_BEGIN. -/
  | fwData (c : Fin 16) (ok : Bool)
  /-- FW_END (R445). -/
  | fwEnd (c : Fin 16)
  /-- FW_ACTIVATE (R445). As FW_BEGIN. -/
  | fwActivate (c : Fin 16) (ok : Bool)
  /-- FW_COMMIT (R445). -/
  | fwCommit (c : Fin 16)
  /-- FW_ROLLBACK (R445). As FW_BEGIN. -/
  | fwRollback (c : Fin 16) (ok : Bool)
  /-- SVN_COMMIT (R445). -/
  | svnCommit (c : Fin 16)
  /-- FW_UPDATE_TIMEOUT (R445). -/
  | fwUpdateTimeout
  /-- MB_CNT_CLR (R446). A write of 1 by `who`. -/
  | mbCntClr (who : Initiator)
  /-- STD_LINK_TRAINED (R156). The directions of the four pads as the standard's training leaves them, two bits each as in PR_STATUS.DIR. -/
  | stdLinkTrained (port : Fin 6) (dirs : Fin 256)
  /-- STD_LINK_DOWN (R156). -/
  | stdLinkDown (port : Fin 6)
  /-- PCIE_LINK_UP (R254). The link, and the width and generation it trained to. -/
  | pcieLinkUp (l : Fin 4) (width : Fin 9) (gen : Fin 6)
  /-- PCIE_LINK_DOWN (R255). -/
  | pcieLinkDown (l : Fin 4)
  /-- PE_PERST_N_DEASSERT (R244). -/
  | pePerstNDeassert
  /-- PCIE_WAKE (R386). The link; whether its PE_CLKREQn_N is asserted, else PE_WAKE_N is low. -/
  | pcieWake (l : Fin 4) (clkreq : Bool)
  /-- USB_PORT_CONNECT (R386). USB port n + 1 of the SuperSpeed or the USB 2.0 hub. -/
  | usbPortConnect (n : Fin 12) (ss connected : Bool)
  /-- DOWNSTREAM_WAKE (R316). The USB port, as in USB_PORT_CONNECT. -/
  | downstreamWake (n : Fin 12) (ss : Bool)
  /-- USB_SUSPEND (R315). What suspends: 0 the USB 2.0 upstream, 1 the SuperSpeed upstream, 2 the embedded device. -/
  | usbSuspend (d : Fin 2) (what : Fin 3)
  /-- SET_PORT_FEATURE (R306). The USB port as numbered in R302. -/
  | setPortFeature (d : Fin 2) (port : Fin 13) (ss : Bool) (f : PortFeature)
  /-- MCLK_RETURN (R311). -/
  | mclkReturn
  /-- SAMPLE_FRAME (R313). The sample frame that comes in on I2S1_DIN. -/
  | sampleFrame (samples : List Byte)
  /-- PAUSE_QUANTA_EXPIRY (R322). -/
  | pauseQuantaExpiry (n : Fin 2)
  /-- PAD_READD (R104). -/
  | padReadd (port : Fin 6) (pad : Fin 4)
  /-- REFCLK_RESTORE (R17). -/
  | refclkRestore
  /-- SAFE_SUPPLY_RETURN (R368). -/
  | safeSupplyReturn
  /-- BOARD_INPUT_CHANGE (R390). The level of the board input, and the supplies in range then, as in AON_SUPPLY_STS.IN_RANGE. -/
  | boardInputChange (present : Bool) (inRange : Fin 2048)
  /-- RP_CHANGE (R349). The partner's Rp, as PD_STATUS.PARTNER_RP. -/
  | rpChange (n : Fin 6) (rp : Fin 4)
  /-- EPR_MODE (R350). -/
  | eprMode (n : Fin 6) (raw : List Nat)
  /-- SRC_TRANSITION (R355). -/
  | srcTransition (n : Fin 6)
  /-- PS_RDY_TIMEOUT (R362). -/
  | psRdyTimeout (n : Fin 6)
  /-- SOURCE_CAPABILITIES_REPEAT (R362). -/
  | sourceCapabilitiesRepeat (n : Fin 6)
  /-- NO_RESPONSE_TIMEOUT (R362). -/
  | noResponseTimeout (n : Fin 6)
  /-- GOODCRC_MISSING (R364). -/
  | goodcrcMissing (n : Fin 6)
  /-- RNG_HEALTH_FAIL (R420). -/
  | rngHealthFail
  deriving DecidableEq, Repr

end Sys2Proof
end

