-- ==== Sys2Proof/Decode.lean ====
section
/-! DEFINITION. The decoder of opcode-table words. Every row of spec/opcode_table.json gives no bits: a command comes to the block as an event or an access, not as a word. -/

namespace Sys2Proof

/-- The command that a word spells by the table's bits: none, since no row of the table gives any. (log 1, DESIGN CHOICE) -/
def decodeTableWord (_nbits _w : Nat) : Option Instr := none

end Sys2Proof
end

