-- ==== Sys2Proof/Machine/Fields.lean ====
section
/-! DEFINITION. What a register field is: its place, width, access type, reset value, level and retention class (R42, R44 of spec/03_register_model.md and R396 of spec/17_power_states_and_reset.md). -/

namespace Sys2Proof

/-- Access types (R42 of spec/03_register_model.md). -/
inductive Access where
  | ro | rw | sh | sx | w1c | w1s | wo | pop
  deriving DecidableEq, Repr

/-- Levels of a field: `b` basic, `x` expert (R44). -/
inductive Lvl where
  | b | x
  deriving DecidableEq, Repr

/-- Retention classes, the rows of R396. `boot` is what each start of the boot ROM rewrites (R421). -/
inductive Cls where
  | aon | safeCfg | sticky | ordinary | block | link | meas | keySlot | boot
  deriving DecidableEq, Repr

/-- A register field. `bit` is its lowest bit's place counted in bits from the start of its page; `cnt` and `stride`
(in bits) describe an array of equal fields. -/
structure Field where
  bit : Nat
  len : Nat
  acc : Access
  rst : Nat
  lvl : Lvl
  cls : Cls
  cnt : Nat
  stride : Nat
  deriving DecidableEq, Repr

/-- One field at byte offset `off`, lowest bit `lo`. -/
def Field.one (off lo len : Nat) (acc : Access) (rst : Nat) (lvl : Lvl) (cls : Cls) : Field :=
  ⟨8 * off + lo, len, acc, rst, lvl, cls, 1, 0⟩

/-- An array of `cnt` fields, `stride` bits apart. -/
def Field.arr (off lo len : Nat) (acc : Access) (rst : Nat) (lvl : Lvl) (cls : Cls) (cnt stride : Nat) : Field :=
  ⟨8 * off + lo, len, acc, rst, lvl, cls, cnt, stride⟩

/-- Element `i` of an array of fields. -/
def Field.nth (f : Field) (i : Nat) : Field := { f with bit := f.bit + i * f.stride, cnt := 1 }

/-- A field of the block's own state that no register shows. Its place lies past the 32 MiB register space (R37), so
no access reaches it. `n` numbers the 32-bit words of internal state of a page. -/
def Field.int (n len rst : Nat) (cls : Cls) : Field :=
  ⟨0x10000000 + 32 * n, len, .ro, rst, .b, cls, 1, 0⟩

/-- An internal field of a second bank, for table entries whose own words leave little room. -/
def Field.int2 (n len rst : Nat) (cls : Cls) : Field :=
  ⟨0x20000000 + 32 * n, len, .ro, rst, .b, cls, 1, 0⟩

/-- An array of internal fields, one 32-bit word each. -/
def Field.ints (n len rst : Nat) (cls : Cls) (cnt : Nat) : Field :=
  ⟨0x10000000 + 32 * n, len, .ro, rst, .b, cls, cnt, 32⟩

/-- An array of one-bit internal fields, packed. -/
def Field.intBits (n rst : Nat) (cls : Cls) (cnt : Nat) : Field :=
  ⟨0x10000000 + 32 * n, 1, .ro, rst, .b, cls, cnt, 1⟩

/-- A field as a page shows it that software cannot write: the active ALM pages reject writes to their allocation
fields. -/
def Field.readOnly (f : Field) : Field := if f.acc = .sh then { f with acc := .ro } else f

end Sys2Proof
end

