-- ==== Sys2Proof/Machine/Internal.lean ====
section
/-! DEFINITION. The internal fields of each block: state the spec gives the block that no register shows, each with its width, its value at reset and its retention class. -/

namespace Sys2Proof.Reg

/-! ### Every page -/

/-- The effective severity of each raised source (R51, R53). -/
def PG_EFF_SEV : Field := .ints 0 2 0 .ordinary 16

/-- When the grace timer was started, clock ns (R53). -/
def PG_GRACE_TIME : Field := .int 1000 64 0 .ordinary

/-! ### GLB -/

/-- The management function of a host domain has MSI-X enabled (R55). (log 20, PRESUMED) -/
def GLB_MSIX_ENABLED : Field := .intBits 16 0 .ordinary 2
/-- The mask bit of each of the 512 MSI-X entries of each domain (R55). (log 3, DESIGN CHOICE; log 20, PRESUMED) -/
def GLB_MSIX_MASKED : Field := .intBits 17 1 .ordinary 1024
/-- The pending bit of each MSI-X entry (R55). (log 20, PRESUMED) -/
def GLB_MSIX_PENDING : Field := .intBits 49 0 .ordinary 1024
/-- The logic BIST is running (R425, R432). -/
def GLB_LBIST_RUNNING : Field := .int 81 1 0 .ordinary
/-- Moabeuc has halted, or the MGMT island is in reset (R18). -/
def GLB_MOABEUC_HALTED : Field := .int 82 1 0 .ordinary
/-- The hub's rate correction in ppb, signed, kept when the following port loses its link (R72). -/
def GLB_FREQ_ADJ : Field := .int 83 20 0 .ordinary
/-- The LINK islands held in link reset by the loss of the 38.4 MHz reference: bits 0-5 LINK_0-LINK_5, bit 6 LINK_PE (R17). -/
def GLB_REFCLK_LOST : Field := .int 84 7 0 .aon
/-- RESET_N is low (R394). -/
def GLB_RESET_N_LOW : Field := .int 85 1 0 .aon
/-- The board source supply reports ready for a Fast Role Swap (R355). (log 3, DESIGN CHOICE) -/
def GLB_SUPPLY_OK : Field := .int 86 1 1 .aon
/-- The USB4 host interface adapter of the domain is enabled (R119, R120). -/
def GLB_HIA_EN : Field := .intBits 87 0 .ordinary 2
/-- The GPIO of each board function of the configuration image, 255 none (R439): 0-7 HID buttons, 8-11 HID indicators, 12 MCLK family select, 13 FRS supply ready, 14 supply fail. (log 3, DESIGN CHOICE) -/
def GLB_GPIO : Field := .ints 88 8 255 .ordinary 16
/-- KLOYR_SVID of the configuration image (R348, R439). -/
def GLB_KLOYR_SVID : Field := .int 104 16 0 .ordinary
/-- The epoch whose turnover has been carried out (R49). -/
def GLB_TURN_EPOCH : Field := .int 105 48 0 .ordinary

/-! ### LANE -/

/-- The epoch of the last serve frame, whose start is T1 (R74). -/
def LN_T1_EPOCH : Field := .int 16 48 0 .link
/-- The stamp of the last serve frame's timing edge, in 0.25 ns (R74). -/
def LN_T2 : Field := .int 17 66 0 .link
/-- The last serve frame was accepted (R74). -/
def LN_PREV_OK : Field := .int 18 1 0 .link
/-- The follow edge last sent, T3, in 0.25 ns (R74). -/
def LN_T3 : Field := .int 19 66 0 .link
/-- The follow edge sent before the last (R74). -/
def LN_T3_PREV : Field := .int 20 66 0 .link
/-- The stamp of the follow edge last received, T4, in 0.25 ns (R74). -/
def LN_T4 : Field := .int 21 66 0 .link
/-- A follow edge was received in the epoch that is ending (R74). -/
def LN_T4_NEW : Field := .int 22 1 0 .link
/-- An exchange has completed since the last follow edge was sent (R75). -/
def LN_EXCH : Field := .int 23 1 0 .link
/-- When LOS last fired on the pad, clock ns plus one; 0 never (R69). -/
def LN_LOS_TIME : Field := .ints 24 65 0 .link 8
/-- When LOL last fired on the pad, as LN_LOS_TIME (R69). -/
def LN_LOL_TIME : Field := .ints 32 65 0 .link 8
/-- Consecutive exchanges with OFFSET within 2 ns (R75). -/
def LN_STREAK : Field := .int 40 3 0 .link
/-- Consecutive missing exchanges (R75). -/
def LN_MISSING : Field := .int 41 3 0 .link
/-- A valid exchange has completed since the last step or entry to ACTIVE (R75). -/
def LN_OFFSET_VALID : Field := .int 42 1 0 .link
/-- The one step of TSYNC has been taken (R75). -/
def LN_TSYNC_STEPPED : Field := .int 43 1 0 .link
/-- The far end of the link follows as well (R76). -/
def LN_FAR_FOLLOWS : Field := .int 44 1 0 .link
/-- Pads that have failed ADAPT in each of the present run of failures (R61). -/
def LN_ADAPT_FAILS : Field := .int 45 4 0 .ordinary
/-- Every failure of the present run was an ADAPT failure of one pad (R61). -/
def LN_ADAPT_ONLY : Field := .int 46 1 1 .ordinary
/-- In STD, the standard's link is trained (R468). -/
def LN_STD_UP : Field := .int 47 1 0 .link
/-- The stored receiver coefficients of each pad, per direction, in the layout of PR_RXEQ (R67). -/
def LN_COEF : Field := .ints 48 32 0 .link 8
/-- Coefficients are stored for the pad and direction (R67). -/
def LN_COEF_VALID : Field := .intBits 56 0 .link 8
/-- PR_TXEQ of the pad was written at the expert level (R65). -/
def LN_EXPERT_EQ : Field := .intBits 57 0 .ordinary 8
/-- The pad is dropped, changing direction or in a low-power state, so its detectors are masked (R69). -/
def LN_MASKED : Field := .intBits 58 0 .link 4

/-! ### LINK -/

/-- The link is between a link reset and its return to ACTIVE (R425). -/
def LK_IN_RESET : Field := .int 16 1 0 .link
/-- Some packet has been accepted since the link came up (R94). -/
def LK_RX_ANY : Field := .int 17 1 0 .link
/-- Accepted packets not yet acknowledged (R94). -/
def LK_UNACK_RX : Field := .int 18 12 0 .link
/-- An acknowledgement is due (R93, R94). -/
def LK_ACK_DUE : Field := .int 19 1 0 .link
/-- A NAK is to be sent (R93). -/
def LK_NAK_DUE : Field := .int 20 1 0 .link
/-- The expected packet has not arrived since a NAK (R93). -/
def LK_GAP : Field := .int 21 1 0 .link
/-- The LINK packet budget in thousandths of a byte (R92). -/
def LK_TOKENS : Field := .int 22 32 1024000 .link
/-- When the budget was last filled, clock ns (R92). -/
def LK_TOKEN_TIME : Field := .int 23 64 0 .link
/-- GRANT of the control pool at this receiver (R98). -/
def LK_CP_GRANT : Field := .int 24 32 0 .link
/-- Credits of the control pool that accepted packets have taken (R98). -/
def LK_CP_RXD : Field := .int 25 32 0 .link
/-- Control pool credits freed since the last update (R99). -/
def LK_CP_FREED : Field := .int 26 32 0 .link
/-- Bytes held in the isochronous region (R97). -/
def LK_ISO_USED : Field := .int 27 32 0 .link
/-- Consecutive replays of the oldest packet without progress (R96). -/
def LK_REPLAYS : Field := .int 28 8 0 .link
/-- SET_ID of the receive direction (R84). -/
def LK_RX_SET : Field := .int 29 4 0 .link
/-- CW_NUM expected next (R86). -/
def LK_CW_RX : Field := .int 30 24 0 .link
/-- CW_NUM of the next codeword sent (R84). -/
def LK_CW_TX : Field := .int 31 24 0 .link
/-- The receiver waits for the FIRST_PKT of the next codeword that decodes (R86). -/
def LK_RESYNC : Field := .int 32 1 0 .link
/-- Receive lanes for which DROP is repeated until a new SET_ID arrives (R103). -/
def LK_DROP_SENT : Field := .int 33 4 0 .link
/-- When the fault report or the first DROP arrived, clock ns (R103). -/
def LK_DROP_TIME : Field := .int 34 64 0 .link
/-- Absorption under way: 1 at the detecting end, 2 at the other end (R103). -/
def LK_DROP_OPEN : Field := .int 35 2 0 .link
/-- Pads out of the set by a drop (R103, R104). -/
def LK_OUT_PADS : Field := .int 36 4 0 .link
/-- Pads for which an add is under way (R104). -/
def LK_ADD_PADS : Field := .int 37 4 0 .link
/-- A TURN_PREP of the far end waits for its answer (R105). -/
def LK_PREP_VALID : Field := .int 38 1 0 .link
/-- TARGET of that TURN_PREP. -/
def LK_PREP_TARGET : Field := .int 39 16 0 .link
/-- SET of that TURN_PREP. -/
def LK_PREP_SET : Field := .int 40 2 0 .link
/-- The pad that is turning (R105). -/
def LK_TURN_PAD : Field := .int 41 4 0 .link
/-- 0 no turnaround under way, 1 narrowing, 2 widening (R105). -/
def LK_TURN_STEP : Field := .int 42 2 0 .link
/-- The pair set in force (R83). -/
def LK_CUR_SET : Field := .int 43 2 0 .link
/-- The depth of the LP_REQ sent and not yet answered, 0 none (R108). -/
def LK_LP_SENT : Field := .int 44 2 0 .link
/-- The depth agreed for the low-power entry under way (R108). -/
def LK_LP_DEPTH : Field := .int 45 2 0 .link
/-- This end's own low-power exit is under way (R109). -/
def LK_OWN_WAKE : Field := .int 46 1 0 .link
/-- The control pool size in KiB in force since the last entry to ACTIVE (R97). -/
def LK_CTRL_POOL_ACT : Field := .int 47 8 4 .link
/-- The isochronous region size in KiB in force (R97). -/
def LK_ISO_RGN_ACT : Field := .int 48 8 16 .link

/-! ### One path table entry -/

/-- Credits that accepted packets of the path have taken at the ingress link (R98). -/
def PT_RXD : Field := .int 0 32 0 .ordinary
/-- Credits freed since the last update (R99). -/
def PT_FREED : Field := .int 1 32 0 .ordinary
/-- The entry was created by Moabeuc and falls under ADD_HOLD (R149). -/
def PT_MOAB : Field := .int 2 1 0 .ordinary
/-- The DEL has been applied at a turnover (R136, R138). -/
def PT_APPLIED_DEL : Field := .int 3 1 0 .ordinary
/-- The path's DRR deficit at its egress, bytes (R202). -/
def PT_DEFICIT : Field := .int 4 32 0 .block
/-- The head-end has used the backup of this working entry (R154). -/
def PT_FAILED_OVER : Field := .int 5 1 0 .ordinary
/-- The seal counter of the next sealed packet (R415). -/
def PT_SEAL_TX : Field := .int 6 64 0 .ordinary
/-- The seal counter expected next (R415). -/
def PT_SEAL_RX : Field := .int 7 64 0 .ordinary
/-- The previous KEY_IN while its grace epoch runs (R416). -/
def PT_KEY_PREV : Field := .int2 0 6 0 .ordinary
/-- The previous key is still tried (R416). -/
def PT_KEY_GRACE : Field := .int2 1 1 0 .ordinary
/-- The counter expected under the previous key (R416). -/
def PT_SEAL_PREV : Field := .int2 2 64 0 .ordinary
/-- The epoch in which the grace began (R416). -/
def PT_GRACE_EPOCH : Field := .int2 3 48 0 .ordinary

/-! ### PATHCTL -/

/-- The tunnel port is a refused port (R160). -/
def PC_REFUSED : Field := .intBits 16 0 .ordinary 6
/-- The port on which the last CTRL packet of an unassigned slot arrived (R145). -/
def PC_LAST_CTRL : Field := .ints 17 5 31 .ordinary 2
/-- The slot is being released (R161): 1 it is unbound at the turnover for which PATHCTL is armed, 2 its release waits for PATHCTL to be disarmed. -/
def PC_RELEASING : Field := .ints 19 2 0 .ordinary 2
/-- The port policy marks the tunnel port as a ring port (R440). -/
def PC_RING : Field := .intBits 21 0 .ordinary 6

/-! ### SW -/

/-- The target last served by each input in each class (R172). -/
def SW_RR_IN : Field := .ints 16 10 0 .block 80
/-- The input that last started a frame towards each output (R180). -/
def SW_RR_OUT : Field := .ints 96 5 0 .block 20
/-- The number of the next frame. -/
def SW_FID : Field := .int 116 32 0 .block
/-- When each output last lacked room under ok_out, clock ns. -/
def SW_ATCAP_TIME : Field := .ints 117 64 0 .block 20
/-- The output, or for MC_REJECT the group, that each raised source concerns (R471). -/
def SW_SRC_OUT : Field := .ints 137 9 0 .block 8
/-- The group is halted by a Contain of MC_REJECT (R471). -/
def SW_MC_HALTED : Field := .intBits 145 0 .block 512
/-- The path of a group member has been declared down (R185), at 20 × group + member. -/
def SW_MC_DOWN : Field := .intBits 161 0 .block 10240
/-- Header capture is halted by a Contain of CAP_LOST (R471). -/
def SW_CAP_HALTED : Field := .int 481 1 0 .block
/-- The sample count of each capture filter (R186). -/
def SW_CAP_MATCH : Field := .ints 482 16 0 .block 16
/-- The slot of the last capture at each point, plus one (R189). -/
def SW_CAP_SLOT : Field := .ints 498 64 0 .block 2

/-! ### ALM active pages -/

/-- Control tokens, signed, thousandths of a byte (R199). -/
def ALM_TOKENS : Field := .int 16 32 2048000 .block
/-- When the control tokens were last filled, clock ns (R199). -/
def ALM_TOKEN_TIME : Field := .int 17 64 0 .block
/-- The credit of each row in bytes, signed; row 0 is the class 1 credit of a fabric egress (R200). -/
def ALM_CREDIT : Field := .ints 18 32 0 .block 64
/-- The row served last (R198). -/
def ALM_LAST_ROW : Field := .int 82 6 63 .block
/-- The class 2 deficit, bytes (R202). -/
def ALM_DEF2 : Field := .int 83 32 0 .block
/-- The class 3 deficit, bytes (R202). -/
def ALM_DEF3 : Field := .int 84 32 0 .block
/-- The class whose DRR turn it is: 0 class 2, 1 class 3 (R202). -/
def ALM_TURN : Field := .int 85 1 0 .block
/-- Control bytes served in this epoch. -/
def ALM_ACC_CTRL : Field := .int 86 32 0 .block
/-- Class 1 data bytes served in this epoch. -/
def ALM_ACC_ISO : Field := .int 87 32 0 .block
/-- Class 2 data bytes served in this epoch. -/
def ALM_ACC_GUAR : Field := .int 88 32 0 .block
/-- Class 3 data bytes served in this epoch. -/
def ALM_ACC_BE : Field := .int 89 32 0 .block
/-- Bytes of retransmitted packets and LINK packets sent in this epoch (R223). -/
def ALM_ACC_CAP : Field := .int 90 32 0 .block
/-- Payload-stream thousandths of a bit that the direction has sent in the epoch (R223). -/
def ALM_ACC_SENT : Field := .int 91 64 0 .block
/-- When ALM_ACC_SENT was last brought up to date, clock ns. -/
def ALM_ACC_TIME : Field := .int 92 64 0 .block
/-- The link was outside ACTIVE for part of this epoch (R223). -/
def ALM_ACC_BROKEN : Field := .int 93 1 0 .block
/-- Consecutive epochs out of SHORTFALL (R225). -/
def ALM_RECOVERED : Field := .int 94 9 0 .block
/-- The row is ignored: it does not match the path table (R214). -/
def ALM_ROW_BAD : Field := .intBits 95 0 .block 64

/-! ### One shaper -/

/-- When the tokens were last filled, hub time in ns (R205). -/
def SH_TIME : Field := .int 0 64 0 .block
/-- The shaper is on the timing wheel (R205). -/
def SH_WAIT : Field := .int 1 1 0 .block

/-! ### SHPCTL -/

/-- The epoch of the domain arm of each slot (R219). -/
def DA_EPOCH : Field := .ints 16 48 0 .ordinary 2

/-! ### PD -/

/-- The step of the sequence in progress; 0 none (R349). -/
def PD_ST : Field := .int 16 5 0 .block
/-- Queued requests in the order of R349: 0 hard reset, 1 soft reset, 2 contract, 3 VCONN_Swap, 4 DR_Swap, 5 PR_Swap, 6 EPR entry, 7 EPR exit. -/
def PD_Q : Field := .int 17 8 0 .block
/-- The request that waits for SINKTX after SinkTxNG, plus one; 9 the message of the transmit buffer; 0 none (R349). -/
def PD_PEND : Field := .int 18 4 0 .block
/-- When the present step began, clock ns (R362). -/
def PD_TIME : Field := .int 19 64 0 .block
/-- When the last hard reset was, clock ns plus one; 0 never (R356). -/
def PD_HR_TIME : Field := .int 20 65 0 .block
/-- How often Source_Capabilities have been sent since the attach (R362). -/
def PD_CAPS_N : Field := .int 21 6 0 .block
/-- The objects of the Source_Capabilities sent last (R351). -/
def PD_OFFER : Field := .ints 22 32 0 .block 11
/-- The objects of the Source_Capabilities received last (R350). -/
def PD_CAPS : Field := .ints 33 32 0 .block 11
/-- The object of the negotiation in progress. -/
def PD_PICK : Field := .int 44 4 0 .block
/-- The lowest voltage of its contract, mV. -/
def PD_PLO : Field := .int 45 16 0 .block
/-- The highest voltage of its contract, mV (R351). -/
def PD_PHI : Field := .int 46 16 0 .block
/-- The voltage it asks for, mV. -/
def PD_PV : Field := .int 47 16 0 .block
/-- The current it asks for, mA. -/
def PD_PI : Field := .int 48 16 0 .block
/-- Its kind, as PD_STATUS.KIND. -/
def PD_PKIND : Field := .int 49 3 0 .block
/-- The Request sent last (R350). -/
def PD_RDO : Field := .int 50 32 0 .block
/-- Waits received in this negotiation (R352). -/
def PD_WAITS : Field := .int 51 2 0 .block
/-- When EPR_KeepAlive last passed, clock ns (R350). -/
def PD_KA_TIME : Field := .int 52 64 0 .block
/-- When a Request last passed, clock ns (R350). -/
def PD_PPS_TIME : Field := .int 53 64 0 .block
/-- What the board source supply of the port is set to, mV. -/
def PD_SUPPLY : Field := .int 54 16 5000 .ordinary
/-- The discovery of R348 has begun. -/
def PD_DISC : Field := .int 55 1 0 .block
/-- The modes that the port policy allows (R440). -/
def PD_MODES : Field := .int 56 7 0 .ordinary
/-- The modes that have ended in FAILED since the attach (R117). -/
def PD_STRUCK : Field := .int 57 7 0 .block
/-- The mode being entered (R117, R348). -/
def PD_TRY : Field := .int 58 4 0 .block
/-- The mode of the lanes is the one Moabeuc chose. -/
def PD_CHOSEN : Field := .int 59 1 0 .block
/-- The USB rate of the cable identity (R117). -/
def PD_SPEED : Field := .int 60 3 0 .block
/-- The one DR_Swap of R348 has been sent. -/
def PD_DRS_DONE : Field := .int 61 1 0 .block
/-- A swap has completed since the attach (R357). -/
def PD_SWAPPED : Field := .int 62 1 0 .block
/-- Retries of the message sent last (R362). -/
def PD_TXFAIL : Field := .int 63 2 0 .block
/-- At the expert level, a message has arrived that the host may answer at once. -/
def PD_RESP : Field := .int 64 1 0 .block
/-- The offer of the port was lowered for another port (R353). -/
def PD_LOWERED : Field := .int 65 1 0 .block
/-- The negotiation in progress is that of the armed page (R352). -/
def PD_ARMNEG : Field := .int 66 1 0 .block
/-- The port is between a hard reset and the next PS_RDY (R425). -/
def PD_RECOVERY : Field := .int 67 1 0 .block

/-! ### SEC -/

/-- The AES-256 key of each slot (R413). -/
def KS_KEY : Field := .ints 16 256 0 .keySlot 64
/-- The boot ROM waits in recovery: 1 by strap, 2 after failure (R407). -/
def SEC_RECOVERY : Field := .int 80 2 0 .boot
/-- The regenerated identity key equals that of the device certificate (R411). -/
def SEC_MATCH : Field := .int 81 1 0 .boot
/-- The debug nonce is valid (R417). -/
def SEC_NONCE_OK : Field := .int 82 1 0 .keySlot
/-- When it was made, clock ns. -/
def SEC_NONCE_TIME : Field := .int 83 64 0 .keySlot

/-! ### DOUT -/

/-- A DisplayPort grant has been set for the output (R127, R444). -/
def DOUT_GRANT_V : Field := .int 16 1 0 .ordinary
/-- The granted reservation in units (R127). -/
def DOUT_GRANT : Field := .int 17 13 0 .ordinary
/-- The trained payload is below what is needed, so idle pattern is sent (R288). -/
def DOUT_UNFIT : Field := .int 18 1 0 .block
/-- The host has written the sink's link configuration since hot plug (R288). -/
def DOUT_HOST_V : Field := .int 19 1 0 .block
/-- The rate it wrote. -/
def DOUT_HOST_RATE : Field := .int 20 3 0 .block
/-- The lane count it wrote. -/
def DOUT_HOST_LANES : Field := .int 21 3 0 .block
/-- The sink's largest lane count (R288). -/
def DOUT_SINK_LANES : Field := .int 22 3 4 .ordinary
/-- The rate being trained. -/
def DOUT_WANT_RATE : Field := .int 23 3 0 .block
/-- The lane count being trained. -/
def DOUT_WANT_LANES : Field := .int 24 3 0 .block
/-- Training is under way. -/
def DOUT_TRAINING : Field := .int 25 1 0 .block
/-- No complete frame has passed since the last training (R296). -/
def DOUT_FIRST : Field := .int 26 1 0 .block
/-- The read-back receiver was out of lock during this frame (R296). -/
def DOUT_RB_OUT : Field := .int 27 1 0 .block
/-- Consecutive mismatches of each region (R297). -/
def DOUT_REG_RUN : Field := .ints 28 16 0 .block 8
/-- LOCK has been applied since the last check of the pair (R293). -/
def DOUT_LOCK_NEW : Field := .int 36 1 0 .ordinary
/-- When the page was last applied, clock ns plus one (R293). -/
def DOUT_LOCK_TIME : Field := .int 37 65 0 .ordinary
/-- Training waits for Moabeuc (R292). -/
def DOUT_TRAIN_DUE : Field := .int 38 1 0 .block
/-- Retries of the AUX request being served (R291). -/
def DOUT_AUX_TRY : Field := .int 39 4 0 .block
/-- When the AUX request being served went to the sink, clock ns (R291). -/
def DOUT_AUX_TIME : Field := .int 40 64 0 .block
/-- A sink is plugged in: the level of HPD (R292). -/
def DOUT_HPD_PIN : Field := .int 41 1 0 .ordinary

/-! ### PCIE port -/

/-- PE_PERST_N is deasserted, in role 0b01 (R244). -/
def PE_PERST_N : Field := .int 16 1 0 .aon
/-- BIFUR as the last port reset took it (R229). -/
def PE_BIFUR_ACT : Field := .int 17 2 0 .ordinary
/-- MAX_GEN as the last port reset took it (R229). -/
def PE_GEN_ACT : Field := .int 18 3 5 .ordinary
/-- When the reset of each link has lasted 100 µs, clock ns (R229). -/
def PE_RST_END : Field := .ints 19 64 0 .ordinary 4

/-! ### PCA -/

/-- When the locked state was entered, clock ns (R238). -/
def PCA_LOCK_TIME : Field := .int 16 64 0 .block
/-- SEQ of the next sideband update (R240). -/
def PCA_SB_SEQ : Field := .int 17 8 0 .block
/-- The word of the last update sent (R241). -/
def PCA_SB_SENT : Field := .int 18 32 0 .block
/-- When the last update was sent, clock ns plus one; 0 none since the path became ACTIVE (R241). -/
def PCA_SB_TIME : Field := .int 19 65 0 .block
/-- An update has been applied (R242). -/
def PCA_SB_RXV : Field := .int 20 1 0 .block
/-- SEQ of the last update applied (R242). -/
def PCA_SB_RXSEQ : Field := .int 21 8 0 .block
/-- The levels applied to the local side (R242, R243). -/
def PCA_LV : Field := .int 22 5 0 .block
/-- Pulses under way: PERST, WAKE (R242). -/
def PCA_PULSE : Field := .int 23 2 0 .block
/-- Pulses that wait for the present levels to have held: PERST, WAKE (R242). -/
def PCA_PEND : Field := .int 24 2 0 .block
/-- Until when the levels and pulses hold, clock ns (R242). -/
def PCA_HOLD : Field := .int 25 65 0 .block

/-! ### PCIE bridges -/

/-- BR_RSEL.HUB_ID of each initiator, by the code of PG_STATUS.DROP_SRC (R245). -/
def BR_RSEL_BANK : Field := .ints 16 16 0 .ordinary 8

/-! ### MEM -/

/-- Installed MiB as the last full training found them, 0 before it (R333, R341). -/
def MEM_INSTALLED : Field := .int 16 16 0 .aon
/-- INLINE_ECC as the last full training took it (R341). -/
def MEM_ECC_ACT : Field := .int 17 1 0 .aon
/-- Training results of the present devices are stored (R334). -/
def MEM_TRAINED : Field := .int 18 1 0 .aon
/-- When each client last reported a tolerance, clock ns (R337, R338). -/
def MEM_LT_TIME : Field := .ints 19 64 0 .block 8
/-- When a request was last served, clock ns (R338). -/
def MEM_BUSY : Field := .int 27 64 0 .block
/-- The DRR deficit of each client in units of 64 B (R337). -/
def MEM_DEFICIT : Field := .ints 28 32 0 .block 8
/-- The client whose DRR turn it is (R337). -/
def MEM_RR : Field := .int 36 3 0 .block
/-- The millisecond of hub time that MEM_BW and MEM_RES are being measured in (R341). -/
def MEM_WINDOW : Field := .int 37 48 0 .block
/-- Units moved by each client in the present millisecond (R341). -/
def MEM_MOVED : Field := .ints 38 32 0 .block 8
/-- Nanoseconds in self-refresh in the present millisecond (R341). -/
def MEM_SR_NS : Field := .int 46 32 0 .block
/-- Nanoseconds in power-down in the present millisecond (R341). -/
def MEM_PD_NS : Field := .int 47 32 0 .block
/-- Up to when self-refresh and power-down time is counted, clock ns (R341). -/
def MEM_SINCE : Field := .int 48 64 0 .block

/-! ### DISP -/

/-- The pending hold: 0 none, 1 requested, 2 automatic (R275). -/
def DISP_HOLD_RQ : Field := .int 16 2 0 .block
/-- Frames at whose end the pending hold found no complete capture (R275). -/
def DISP_HOLD_FAILS : Field := .int 17 9 0 .block
/-- The forced cause that waits for vertical blanking: 3, 4, 5, or 0 (R275). -/
def DISP_FORCED : Field := .int 18 3 0 .block
/-- The output is in vertical blanking. -/
def DISP_VB : Field := .int 19 1 1 .block
/-- Lines begun in the present active part or blanking. -/
def DISP_LINE : Field := .int 20 17 0 .block
/-- Lines that the present blanking lasts (R280). -/
def DISP_BLANK : Field := .int 21 17 0 .block
/-- The number of the stream frame arriving. -/
def DISP_SFRAME : Field := .int 22 32 0 .block
/-- Lines of it that have arrived. -/
def DISP_SLINE : Field := .int 23 17 0 .block
/-- Every one of them arrived whole (R272). -/
def DISP_SOK : Field := .int 24 1 0 .block
/-- The stream frame arriving has not been started by the output. -/
def DISP_SVALID : Field := .int 25 1 0 .block
/-- The stream frame that the output shows in PASS. -/
def DISP_OFRAME : Field := .int 26 32 0 .block
/-- When stream data last arrived, or a resume began, clock ns (R265, R275). -/
def DISP_STIME : Field := .int 27 64 0 .block
/-- The stream frame arriving is being written to DRAM (R272, R274). -/
def DISP_CAPWR : Field := .int 28 1 0 .block
/-- The buffer it is written to (R272). -/
def DISP_CAPTO : Field := .int 29 1 0 .block
/-- What has been written of it fitted and reached DRAM (R272). -/
def DISP_CAPFIT : Field := .int 30 1 0 .block
/-- The running CRC-32 of the stream frame arriving (R273). -/
def DISP_CAPCRC : Field := .int 31 32 4294967295 .block
/-- Consecutive complete frames with equal CRC (R273). -/
def DISP_RUN : Field := .int 32 9 0 .block
/-- The buffer being scanned in HELD and RESUMING. -/
def DISP_SCAN : Field := .int 33 1 0 .block
/-- The frame in progress shows the same content as the one before it (R280). -/
def DISP_REPEAT : Field := .int 34 1 0 .block
/-- The blanking before this frame was lengthened (R280). -/
def DISP_WASLONG : Field := .int 35 1 0 .block
/-- The running CRC-32 of the frame leaving the pipeline (R284). -/
def DISP_RUNCRC : Field := .int 36 32 4294967295 .block
/-- Bytes held ahead of the scan position in HELD and RETAINED (R281). -/
def DISP_FILL : Field := .int 37 20 0 .block
/-- The lowest tolerance reported in this frame (R284). -/
def DISP_LTCUR : Field := .int 38 20 1048575 .block
/-- MODE has been written since the output was contained (R285). -/
def DISP_MODE_WR : Field := .int 39 1 0 .ordinary
/-- A resume passes through IDLE to take new timing (R277). -/
def DISP_VIA : Field := .int 40 1 0 .block
/-- As slave of a locked pair the output waits for the master's next frame (R293). -/
def DISP_ALIGN : Field := .int 41 1 0 .block
/-- The state in which the last frame left the pipeline (R296). -/
def DISP_ENDST : Field := .int 42 3 0 .block
/-- A COMMIT flipped at the latest start of vertical blanking (R280). -/
def DISP_FLIPPED : Field := .int 43 1 0 .block

/-! ### SAFE -/

/-- VBUS of each port as last measured, mV (R344). -/
def SP_VBUS : Field := .ints 16 16 0 .aon 6
/-- Current of each port as last measured, mA, signed (R344). -/
def SP_IBUS : Field := .ints 22 16 0 .aon 6
/-- What the port is attached as: 0 detached, 1 source, 2 sink (R359). -/
def SP_ROLE : Field := .ints 28 2 0 .safeCfg 6
/-- An explicit contract governs the limits (R370). -/
def SP_EXPL : Field := .intBits 34 0 .safeCfg 6
/-- The lowest voltage of the contract, mV. -/
def SP_VLO : Field := .ints 35 16 5000 .safeCfg 6
/-- The highest voltage of the contract, mV (R370). -/
def SP_VHI : Field := .ints 41 16 5000 .safeCfg 6
/-- The contract current, mA (R370). -/
def SP_IC : Field := .ints 47 16 900 .safeCfg 6
/-- The lowest voltage of the contract that a transition leads to, mV (R374). -/
def SP_NLO : Field := .ints 53 16 0 .safeCfg 6
/-- Its highest voltage, mV. -/
def SP_NHI : Field := .ints 59 16 0 .safeCfg 6
/-- Its current, mA. -/
def SP_NIC : Field := .ints 65 16 0 .safeCfg 6
/-- When the transition window opened, clock ns (R374). -/
def SP_TRANS_TIME : Field := .ints 71 64 0 .safeCfg 6
/-- When the port tripped, clock ns (R372). -/
def SP_TRIP_TIME : Field := .ints 77 64 0 .safeCfg 6
/-- Until when a detached port raises no trip, clock ns (R372). -/
def SP_QUIET : Field := .ints 83 64 0 .safeCfg 6
/-- When the discharge began, clock ns (R359). -/
def SP_DISCH_TIME : Field := .ints 89 64 0 .safeCfg 6
/-- The present discharge has run past 265 ms (R371). -/
def SP_DISCH_FAILED : Field := .intBits 95 0 .safeCfg 6
/-- When the waiting close was requested, clock ns (R374). -/
def SP_CLOSE_TIME : Field := .ints 96 64 0 .safeCfg 6
/-- The Fast Role Swap signal has been seen, and the source switch may close (R355). -/
def SP_FRS_SEEN : Field := .intBits 102 0 .safeCfg 6
/-- The cause of the safety reset in progress (R375). -/
def SF_RST_CAUSE : Field := .int 103 3 0 .aon
/-- A verified patch is held in the patch region (R369). -/
def SF_PATCH_HELD : Field := .int 104 1 0 .aon
/-- Its version. -/
def SF_PATCH_HVER : Field := .int 105 8 0 .aon
/-- The hottest sensor is at or above WARN_C (R371). -/
def SF_WARNED : Field := .int 106 1 0 .safeCfg
/-- Both supplies of the island are below 3.0 V (R368). -/
def SF_CLK_BAD : Field := .int 107 1 0 .aon

/-! ### AON -/

/-- The test mode of R418 is in force. -/
def AON_TEST : Field := .int 16 1 0 .aon
/-- The state that the entry in progress leads to (R380). -/
def AON_ENT_TARGET : Field := .int 17 3 0 .aon
/-- The entry was forced by the button (R384). -/
def AON_ENT_FORCED : Field := .int 18 1 0 .aon
/-- The entry is a thermal entry (R385). -/
def AON_ENT_THERM : Field := .int 19 1 0 .aon
/-- How far the entry is: 0 none, 1 draining the switch, 2 waiting for the ports to discharge, 3 waiting for THERM_TRIP_N, 4 waiting for the slice test (R380, R384, R385, R428). -/
def AON_ENT_STEP : Field := .int 20 3 0 .aon
/-- When that step began, clock ns. -/
def AON_ENT_TIME : Field := .int 21 64 0 .aon
/-- The state that the exit in progress leaves (R387). -/
def AON_EXIT_FROM : Field := .int 22 3 0 .aon
/-- The group whose enable the exit has driven on last: 1 safety, 2 I/O and memory, 3 core. -/
def AON_EXIT_GROUP : Field := .int 23 2 0 .aon
/-- When it was driven on, or when the exit timed out, clock ns. -/
def AON_EXIT_TIME : Field := .int 24 64 0 .aon
/-- The exit has timed out and waits 100 ms (R387). -/
def AON_EXIT_WAIT : Field := .int 25 1 0 .aon
/-- The exit has been retried. -/
def AON_EXIT_TRIED : Field := .int 26 1 0 .aon
/-- The level of EN_SAFE (R390). -/
def AON_LVL_SAFE : Field := .int 27 1 1 .aon
/-- The level of EN_IO. -/
def AON_LVL_IO : Field := .int 28 1 1 .aon
/-- The level of EN_CORE. -/
def AON_LVL_CORE : Field := .int 29 1 1 .aon
/-- The PIXEL islands that were powered when D2 was entered (R380). -/
def AON_PIX : Field := .int 30 4 0 .aon
/-- Whether D2 was entered from D1. -/
def AON_WAS_D1 : Field := .int 31 1 0 .aon
/-- The CC state of each port as last seen before entry, [5:3] CC2 and [2:0] CC1, coded in the order of R383. -/
def AON_CC : Field := .ints 32 6 0 .aon 6
/-- In how many consecutive samples the CC state has differed from the recorded one (R383). -/
def AON_CC_CNT : Field := .ints 38 3 0 .aon 6
/-- When the Marionette watchdog was last restarted, clock ns (R394, R399). -/
def AON_WDT_TIME : Field := .int 44 64 0 .aon
/-- The Sticky image in the retention RAM is valid (R384). -/
def AON_IMG_OK : Field := .int 45 1 0 .aon
/-- The retention RAM holds a resume record (R381). -/
def AON_RESUME : Field := .int 46 1 0 .aon
/-- The port policy marks the tunnel port present (R34, R440). -/
def AON_PRESENT : Field := .intBits 47 0 .aon 6
/-- VCONN_IN is present (R32, R345). -/
def AON_VCONN_IN : Field := .int 48 1 0 .aon
/-- The DRAM contents are lost (R393). -/
def AON_DRAM_LOST : Field := .int 49 1 0 .aon
/-- THERM_TRIP_N and SAFE_FAULT_N float (R384). -/
def AON_PINS_FLOAT : Field := .int 50 1 0 .aon
/-- FAN0_PWM and FAN1_PWM are held low (R381). -/
def AON_FANS_LOW : Field := .int 51 1 0 .aon
/-- The port whose cable powers the dead board (R360). -/
def AON_DBAT_PORT : Field := .int 52 3 0 .aon
/-- The hub has started from the cable and waits for R360 step 7. -/
def AON_DBAT : Field := .int 53 1 0 .aon
/-- When the present sample period began, clock ns (R382). -/
def AON_YY_TIME : Field := .int 54 64 0 .aon
/-- When AON_ALARM was written, clock ns (R399). -/
def AON_ALARM_TIME : Field := .int 55 64 0 .aon
/-- The logic BIST is due once the islands are powered (R432). -/
def AON_LBIST_DUE : Field := .int 56 1 0 .aon
/-- The retention RAM holds an open trial record (R445). -/
def AON_TRIAL_OPEN : Field := .int 57 1 0 .aon

/-! ### ETH -/

/-- The line of the MAC half is up. -/
def ETH_LINE : Field := .int 16 1 0 .ordinary
/-- When the MAC half last sent its link state, clock ns (R325). -/
def ETH_LS_TIME : Field := .int 17 64 0 .ordinary
/-- When the pause in force runs out, clock ns (R322). -/
def ETH_PAUSE_END : Field := .int 18 64 0 .ordinary
/-- An interrupt of the entry is pending under moderation (R330). -/
def ETH_IRQ_PEND : Field := .intBits 19 0 .block 33
/-- When the entry last raised its interrupt, clock ns plus one (R330). -/
def ETH_IRQ_TIME : Field := .ints 21 64 0 .block 33
/-- Where the next spilled frame is written in the spill ring (R327). -/
def ETH_SPILL_WR : Field := .int 54 40 0 .block

/-! ### UHUB -/

/-- Microframes counted (R312). -/
def UH_MF : Field := .int 16 64 0 .block
/-- The device address of the embedded device (R317). -/
def UH_ADDR : Field := .int 17 7 0 .block
/-- UH_STATUS.EMB as it was when the device was suspended. -/
def UH_EMB_PREV : Field := .int 18 4 0 .block
/-- When the embedded device entered suspend, clock ns (R315). -/
def UH_SUSP_TIME : Field := .int 19 64 0 .block
/-- Until when the device drives resume K, clock ns plus one; 0 it has not started (R315). -/
def UH_K_END : Field := .int 20 65 0 .block
/-- Logical hub d passes a downstream wake on (R316). -/
def UH_DOWN_WAKE : Field := .intBits 21 0 .block 2
/-- The alternate setting of the HID interface. -/
def UH_HID_ALT : Field := .int 22 8 0 .block
/-- The sample rate that waits to be armed, plus one (R311). -/
def UH_WANT_RATE : Field := .int 23 4 0 .block
/-- The playback channels that wait to be armed. -/
def UH_WANT_OUT : Field := .int 24 4 0 .block
/-- The capture channels that wait to be armed. -/
def UH_WANT_IN : Field := .int 25 4 0 .block
/-- The microframe at which the feedback value was refreshed last (R314). -/
def UH_FB_MF : Field := .int 26 64 0 .block
/-- The changes of each USB 2.0 port reported and not cleared: bit 0 connection, bit 1 over-current (R306). -/
def UH_CHG_HS : Field := .ints 27 2 0 .block 6
/-- The same of each SuperSpeed port. -/
def UH_CHG_SS : Field := .ints 33 2 0 .block 12
/-- Until when the power of port n of UD_n (0-5) or of tunnel port n - 6 stays off after a change of owner, clock ns (R305). -/
def UH_OFF_UNTIL : Field := .ints 45 64 0 .block 12
/-- The state of each tunnel downstream SuperSpeed port, coded as SS_STATE (R302). -/
def UH_TSS_STATE : Field := .ints 57 4 0 .block 6

/-! ### MBX control page -/

/-- The channel that runs an update, plus one; 0 none (R445). -/
def FW_CH : Field := .int 16 2 0 .block
/-- The length of the image being updated, bytes. -/
def FW_LEN : Field := .int 17 32 0 .block
/-- When FW_BEGIN or FW_DATA was last carried out, clock ns. -/
def FW_TIME : Field := .int 18 64 0 .block
/-- FW_END has found the staged copy good. -/
def FW_CHECKED : Field := .int 19 1 0 .block
/-- When the MGMT reset of FW_ACTIVATE or FW_ROLLBACK falls due, clock ns plus one; 0 none. -/
def FW_RESET : Field := .int 20 65 0 .block
/-- When each adapter engine last halted, clock ns plus one; 0 never (R438). -/
def ENG_H1 : Field := .ints 21 65 0 .ordinary 24
/-- When it halted before that. -/
def ENG_H2 : Field := .ints 45 65 0 .ordinary 24
/-- The engine has halted 3 times within 1 s and stays halted. -/
def ENG_DEAD : Field := .intBits 69 0 .ordinary 24

/-! ### MBX channel -/

/-- ABORT was written after TAKEN (R443). -/
def MBC_ABORT : Field := .int 16 1 0 .block
/-- The request came through the embedded management function (R442). -/
def MBC_USB : Field := .int 17 1 0 .block
/-- The initiator of the request, by its code (R442). -/
def MBC_WHO : Field := .int 18 3 0 .block

/-! ### BIST -/

/-- The next slice of the sweep (R428). -/
def BIST_POS : Field := .int 16 13 0 .block
/-- The slice under test was named by BIST_RUN. -/
def BIST_IS_RUN : Field := .int 17 1 0 .block
/-- When the slice under test began, clock ns. -/
def BIST_START : Field := .int 18 64 0 .block
/-- Turnovers since the last slice start. -/
def BIST_TURNS : Field := .int 19 8 0 .block
/-- A deferred slice is tried again at the next turnover (R429). -/
def BIST_RETRY : Field := .int 20 1 0 .block
/-- A sweep is under way. -/
def BIST_OPEN : Field := .int 21 1 0 .block
/-- When it began, clock ns. -/
def BIST_T0 : Field := .int 22 64 0 .block
/-- Slices tested in it. -/
def BIST_TESTED : Field := .int 23 13 0 .block
/-- Slices skipped in it. -/
def BIST_SKIPPED : Field := .int 24 13 0 .block
/-- Its slowest slice. -/
def BIST_MAX_SLICE : Field := .int 25 13 0 .block
/-- The duration of that slice, ns. -/
def BIST_MAX_NS : Field := .int 26 16 0 .block
/-- A block soft reset of the page waits for the slice under test (R431). -/
def BIST_RESET_DUE : Field := .int 27 1 0 .ordinary

end Sys2Proof.Reg

namespace Sys2Proof

/-- The internal fields of a page kind. -/
def PageKind.intFields : PageKind → List Field
  | .glb =>
   [Reg.PG_EFF_SEV, Reg.PG_GRACE_TIME, Reg.GLB_MSIX_ENABLED, Reg.GLB_MSIX_MASKED, Reg.GLB_MSIX_PENDING,
    Reg.GLB_LBIST_RUNNING, Reg.GLB_MOABEUC_HALTED, Reg.GLB_FREQ_ADJ, Reg.GLB_REFCLK_LOST, Reg.GLB_RESET_N_LOW,
    Reg.GLB_SUPPLY_OK, Reg.GLB_HIA_EN, Reg.GLB_GPIO, Reg.GLB_KLOYR_SVID, Reg.GLB_TURN_EPOCH]
  | .lane =>
   [Reg.PG_EFF_SEV, Reg.PG_GRACE_TIME, Reg.LN_T1_EPOCH, Reg.LN_T2, Reg.LN_PREV_OK, Reg.LN_T3, Reg.LN_T3_PREV,
    Reg.LN_T4, Reg.LN_T4_NEW, Reg.LN_EXCH, Reg.LN_LOS_TIME, Reg.LN_LOL_TIME, Reg.LN_STREAK, Reg.LN_MISSING,
    Reg.LN_OFFSET_VALID, Reg.LN_TSYNC_STEPPED, Reg.LN_FAR_FOLLOWS, Reg.LN_ADAPT_FAILS, Reg.LN_ADAPT_ONLY,
    Reg.LN_STD_UP, Reg.LN_COEF, Reg.LN_COEF_VALID, Reg.LN_EXPERT_EQ, Reg.LN_MASKED]
  | .link =>
   [Reg.PG_EFF_SEV, Reg.PG_GRACE_TIME, Reg.LK_IN_RESET, Reg.LK_RX_ANY, Reg.LK_UNACK_RX, Reg.LK_ACK_DUE,
    Reg.LK_NAK_DUE, Reg.LK_GAP, Reg.LK_TOKENS, Reg.LK_TOKEN_TIME, Reg.LK_CP_GRANT, Reg.LK_CP_RXD,
    Reg.LK_CP_FREED, Reg.LK_ISO_USED, Reg.LK_REPLAYS, Reg.LK_RX_SET, Reg.LK_CW_RX, Reg.LK_CW_TX, Reg.LK_RESYNC,
    Reg.LK_DROP_SENT, Reg.LK_DROP_TIME, Reg.LK_DROP_OPEN, Reg.LK_OUT_PADS, Reg.LK_ADD_PADS, Reg.LK_PREP_VALID,
    Reg.LK_PREP_TARGET, Reg.LK_PREP_SET, Reg.LK_TURN_PAD, Reg.LK_TURN_STEP, Reg.LK_CUR_SET, Reg.LK_LP_SENT,
    Reg.LK_LP_DEPTH, Reg.LK_OWN_WAKE, Reg.LK_CTRL_POOL_ACT, Reg.LK_ISO_RGN_ACT]
  | .path =>
   [Reg.PT_RXD, Reg.PT_FREED, Reg.PT_MOAB, Reg.PT_APPLIED_DEL, Reg.PT_DEFICIT, Reg.PT_FAILED_OVER,
    Reg.PT_SEAL_TX, Reg.PT_SEAL_RX, Reg.PT_KEY_PREV, Reg.PT_KEY_GRACE, Reg.PT_SEAL_PREV, Reg.PT_GRACE_EPOCH]
  | .pathctl =>
   [Reg.PG_EFF_SEV, Reg.PG_GRACE_TIME, Reg.PC_REFUSED, Reg.PC_LAST_CTRL, Reg.PC_RELEASING, Reg.PC_RING]
  | .sw =>
   [Reg.PG_EFF_SEV, Reg.PG_GRACE_TIME, Reg.SW_RR_IN, Reg.SW_RR_OUT, Reg.SW_FID, Reg.SW_ATCAP_TIME,
    Reg.SW_SRC_OUT, Reg.SW_MC_HALTED, Reg.SW_MC_DOWN, Reg.SW_CAP_HALTED, Reg.SW_CAP_MATCH, Reg.SW_CAP_SLOT]
  | .alm =>
   [Reg.PG_EFF_SEV, Reg.PG_GRACE_TIME, Reg.ALM_TOKENS, Reg.ALM_TOKEN_TIME, Reg.ALM_CREDIT, Reg.ALM_LAST_ROW,
    Reg.ALM_DEF2, Reg.ALM_DEF3, Reg.ALM_TURN, Reg.ALM_ACC_CTRL, Reg.ALM_ACC_ISO, Reg.ALM_ACC_GUAR,
    Reg.ALM_ACC_BE, Reg.ALM_ACC_CAP, Reg.ALM_ACC_SENT, Reg.ALM_ACC_TIME, Reg.ALM_ACC_BROKEN, Reg.ALM_RECOVERED,
    Reg.ALM_ROW_BAD]
  | .shaper =>
   [Reg.SH_TIME, Reg.SH_WAIT]
  | .shpctl =>
   [Reg.PG_EFF_SEV, Reg.PG_GRACE_TIME, Reg.DA_EPOCH]
  | .pd =>
   [Reg.PG_EFF_SEV, Reg.PG_GRACE_TIME, Reg.PD_ST, Reg.PD_Q, Reg.PD_PEND, Reg.PD_TIME, Reg.PD_HR_TIME,
    Reg.PD_CAPS_N, Reg.PD_OFFER, Reg.PD_CAPS, Reg.PD_PICK, Reg.PD_PLO, Reg.PD_PHI, Reg.PD_PV, Reg.PD_PI,
    Reg.PD_PKIND, Reg.PD_RDO, Reg.PD_WAITS, Reg.PD_KA_TIME, Reg.PD_PPS_TIME, Reg.PD_SUPPLY, Reg.PD_DISC,
    Reg.PD_MODES, Reg.PD_STRUCK, Reg.PD_TRY, Reg.PD_CHOSEN, Reg.PD_SPEED, Reg.PD_DRS_DONE, Reg.PD_SWAPPED,
    Reg.PD_TXFAIL, Reg.PD_RESP, Reg.PD_LOWERED, Reg.PD_ARMNEG, Reg.PD_RECOVERY]
  | .sec =>
   [Reg.PG_EFF_SEV, Reg.PG_GRACE_TIME, Reg.KS_KEY, Reg.SEC_RECOVERY, Reg.SEC_MATCH, Reg.SEC_NONCE_OK,
    Reg.SEC_NONCE_TIME]
  | .dout =>
   [Reg.PG_EFF_SEV, Reg.PG_GRACE_TIME, Reg.DOUT_GRANT_V, Reg.DOUT_GRANT, Reg.DOUT_UNFIT, Reg.DOUT_HOST_V,
    Reg.DOUT_HOST_RATE, Reg.DOUT_HOST_LANES, Reg.DOUT_SINK_LANES, Reg.DOUT_WANT_RATE, Reg.DOUT_WANT_LANES,
    Reg.DOUT_TRAINING, Reg.DOUT_FIRST, Reg.DOUT_RB_OUT, Reg.DOUT_REG_RUN, Reg.DOUT_LOCK_NEW,
    Reg.DOUT_LOCK_TIME, Reg.DOUT_TRAIN_DUE, Reg.DOUT_AUX_TRY, Reg.DOUT_AUX_TIME, Reg.DOUT_HPD_PIN]
  | .pcie =>
   [Reg.PG_EFF_SEV, Reg.PG_GRACE_TIME, Reg.PE_PERST_N, Reg.PE_BIFUR_ACT, Reg.PE_GEN_ACT, Reg.PE_RST_END]
  | .pca =>
   [Reg.PG_EFF_SEV, Reg.PG_GRACE_TIME, Reg.PCA_LOCK_TIME, Reg.PCA_SB_SEQ, Reg.PCA_SB_SENT, Reg.PCA_SB_TIME,
    Reg.PCA_SB_RXV, Reg.PCA_SB_RXSEQ, Reg.PCA_LV, Reg.PCA_PULSE, Reg.PCA_PEND, Reg.PCA_HOLD]
  | .bridge =>
   [Reg.PG_EFF_SEV, Reg.PG_GRACE_TIME, Reg.BR_RSEL_BANK]
  | .mem =>
   [Reg.PG_EFF_SEV, Reg.PG_GRACE_TIME, Reg.MEM_INSTALLED, Reg.MEM_ECC_ACT, Reg.MEM_TRAINED, Reg.MEM_LT_TIME,
    Reg.MEM_BUSY, Reg.MEM_DEFICIT, Reg.MEM_RR, Reg.MEM_WINDOW, Reg.MEM_MOVED, Reg.MEM_SR_NS, Reg.MEM_PD_NS,
    Reg.MEM_SINCE]
  | .disp =>
   [Reg.PG_EFF_SEV, Reg.PG_GRACE_TIME, Reg.DISP_HOLD_RQ, Reg.DISP_HOLD_FAILS, Reg.DISP_FORCED, Reg.DISP_VB,
    Reg.DISP_LINE, Reg.DISP_BLANK, Reg.DISP_SFRAME, Reg.DISP_SLINE, Reg.DISP_SOK, Reg.DISP_SVALID,
    Reg.DISP_OFRAME, Reg.DISP_STIME, Reg.DISP_CAPWR, Reg.DISP_CAPTO, Reg.DISP_CAPFIT, Reg.DISP_CAPCRC,
    Reg.DISP_RUN, Reg.DISP_SCAN, Reg.DISP_REPEAT, Reg.DISP_WASLONG, Reg.DISP_RUNCRC, Reg.DISP_FILL,
    Reg.DISP_LTCUR, Reg.DISP_MODE_WR, Reg.DISP_VIA, Reg.DISP_ALIGN, Reg.DISP_ENDST, Reg.DISP_FLIPPED]
  | .safe =>
   [Reg.PG_EFF_SEV, Reg.PG_GRACE_TIME, Reg.SP_VBUS, Reg.SP_IBUS, Reg.SP_ROLE, Reg.SP_EXPL, Reg.SP_VLO,
    Reg.SP_VHI, Reg.SP_IC, Reg.SP_NLO, Reg.SP_NHI, Reg.SP_NIC, Reg.SP_TRANS_TIME, Reg.SP_TRIP_TIME,
    Reg.SP_QUIET, Reg.SP_DISCH_TIME, Reg.SP_DISCH_FAILED, Reg.SP_CLOSE_TIME, Reg.SP_FRS_SEEN, Reg.SF_RST_CAUSE,
    Reg.SF_PATCH_HELD, Reg.SF_PATCH_HVER, Reg.SF_WARNED, Reg.SF_CLK_BAD]
  | .aon =>
   [Reg.PG_EFF_SEV, Reg.PG_GRACE_TIME, Reg.AON_TEST, Reg.AON_ENT_TARGET, Reg.AON_ENT_FORCED, Reg.AON_ENT_THERM,
    Reg.AON_ENT_STEP, Reg.AON_ENT_TIME, Reg.AON_EXIT_FROM, Reg.AON_EXIT_GROUP, Reg.AON_EXIT_TIME,
    Reg.AON_EXIT_WAIT, Reg.AON_EXIT_TRIED, Reg.AON_LVL_SAFE, Reg.AON_LVL_IO, Reg.AON_LVL_CORE, Reg.AON_PIX,
    Reg.AON_WAS_D1, Reg.AON_CC, Reg.AON_CC_CNT, Reg.AON_WDT_TIME, Reg.AON_IMG_OK, Reg.AON_RESUME,
    Reg.AON_PRESENT, Reg.AON_VCONN_IN, Reg.AON_DRAM_LOST, Reg.AON_PINS_FLOAT, Reg.AON_FANS_LOW,
    Reg.AON_DBAT_PORT, Reg.AON_DBAT, Reg.AON_YY_TIME, Reg.AON_ALARM_TIME, Reg.AON_LBIST_DUE, Reg.AON_TRIAL_OPEN]
  | .eth =>
   [Reg.PG_EFF_SEV, Reg.PG_GRACE_TIME, Reg.ETH_LINE, Reg.ETH_LS_TIME, Reg.ETH_PAUSE_END, Reg.ETH_IRQ_PEND,
    Reg.ETH_IRQ_TIME, Reg.ETH_SPILL_WR]
  | .uhub =>
   [Reg.PG_EFF_SEV, Reg.PG_GRACE_TIME, Reg.UH_MF, Reg.UH_ADDR, Reg.UH_EMB_PREV, Reg.UH_SUSP_TIME, Reg.UH_K_END,
    Reg.UH_DOWN_WAKE, Reg.UH_HID_ALT, Reg.UH_WANT_RATE, Reg.UH_WANT_OUT, Reg.UH_WANT_IN, Reg.UH_FB_MF,
    Reg.UH_CHG_HS, Reg.UH_CHG_SS, Reg.UH_OFF_UNTIL, Reg.UH_TSS_STATE]
  | .mbx =>
   [Reg.PG_EFF_SEV, Reg.PG_GRACE_TIME, Reg.FW_CH, Reg.FW_LEN, Reg.FW_TIME, Reg.FW_CHECKED, Reg.FW_RESET,
    Reg.ENG_H1, Reg.ENG_H2, Reg.ENG_DEAD]
  | .mbch =>
   [Reg.PG_EFF_SEV, Reg.PG_GRACE_TIME, Reg.MBC_ABORT, Reg.MBC_USB, Reg.MBC_WHO]
  | .bist =>
   [Reg.PG_EFF_SEV, Reg.PG_GRACE_TIME, Reg.BIST_POS, Reg.BIST_IS_RUN, Reg.BIST_START, Reg.BIST_TURNS,
    Reg.BIST_RETRY, Reg.BIST_OPEN, Reg.BIST_T0, Reg.BIST_TESTED, Reg.BIST_SKIPPED, Reg.BIST_MAX_SLICE,
    Reg.BIST_MAX_NS, Reg.BIST_RESET_DUE]
  | .pelane =>
   [Reg.PG_EFF_SEV, Reg.PG_GRACE_TIME, Reg.LN_LOS_TIME, Reg.LN_LOL_TIME, Reg.LN_EXPERT_EQ, Reg.LN_MASKED]
  | .dplane =>
   [Reg.PG_EFF_SEV, Reg.PG_GRACE_TIME, Reg.LN_LOS_TIME, Reg.LN_LOL_TIME, Reg.LN_EXPERT_EQ, Reg.LN_MASKED]
  | .ulane =>
   [Reg.PG_EFF_SEV, Reg.PG_GRACE_TIME, Reg.LN_LOS_TIME, Reg.LN_LOL_TIME, Reg.LN_EXPERT_EQ, Reg.LN_MASKED]
  | .elane =>
   [Reg.PG_EFF_SEV, Reg.PG_GRACE_TIME, Reg.LN_LOS_TIME, Reg.LN_LOL_TIME, Reg.LN_EXPERT_EQ, Reg.LN_MASKED]
  | _ => [Reg.PG_EFF_SEV, Reg.PG_GRACE_TIME]

end Sys2Proof
end

