-- ==== Sys2Proof/Machine/RegsA.lean ====
section
/-! DEFINITION. The register fields of the common page header, the GLB page, the AON page, the SAFE page, the SEC page, the BIST page, the LANE pages, the LINK control pages, the LINK counter pages, as the register tables of spec/ give them: offset, lowest bit, width, access, reset value, level, retention class, and for an array the count and the stride in bits. -/

namespace Sys2Proof.Reg

/-! ### The common page header (R41 of spec/03_register_model.md) -/

def PG_ID_BLOCK : Field := .one 0x000 16 16 .ro 0 .b .ordinary
def PG_ID_INSTANCE : Field := .one 0x000 8 8 .ro 0 .b .ordinary
def PG_ID_PAGE : Field := .one 0x000 0 8 .ro 0 .b .ordinary
def PG_VER_MAJOR : Field := .one 0x004 8 8 .ro 1 .b .ordinary
def PG_VER_MINOR : Field := .one 0x004 0 8 .ro 0 .b .ordinary
def PG_CAP_SEF : Field := .one 0x008 16 16 .ro 0 .b .ordinary
def PG_CAP_BASIC : Field := .one 0x008 15 1 .ro 0 .b .ordinary
def PG_CAP_EXPERT : Field := .one 0x008 14 1 .ro 0 .b .ordinary
def PG_CAP_SH : Field := .one 0x008 13 1 .ro 0 .b .ordinary
def PG_CAP_SXPG : Field := .one 0x008 12 1 .ro 0 .b .ordinary
def PG_CAP_NSRC : Field := .one 0x008 6 5 .ro 0 .b .ordinary
def PG_CTRL_SRST : Field := .one 0x00C 2 1 .w1s 0 .b .ordinary
def PG_CTRL_EXPERT : Field := .one 0x00C 1 1 .rw 0 .b .ordinary
def PG_CTRL_ENABLE (on : Nat) : Field := .one 0x00C 0 1 .rw on .b .ordinary
def PG_STATUS_BLK : Field := .one 0x010 16 16 .ro 0 .b .ordinary
def PG_STATUS_DROP_WHY : Field := .one 0x010 12 4 .ro 0 .b .ordinary
def PG_STATUS_DROP_SRC : Field := .one 0x010 9 3 .ro 0 .b .ordinary
def PG_STATUS_DERIVING : Field := .one 0x010 3 1 .ro 0 .b .ordinary
def PG_STATUS_IN_RESET : Field := .one 0x010 2 1 .ro 0 .b .ordinary
def PG_STATUS_CONTAINED : Field := .one 0x010 1 1 .ro 0 .b .ordinary
def PG_STATUS_READY : Field := .one 0x010 0 1 .ro 0 .b .ordinary
def PG_INT_STATUS_BLK : Field := .arr 0x014 8 1 .w1c 0 .b .ordinary 24 1
def PG_INT_STATUS_LEVEL_DONE : Field := .one 0x014 4 1 .w1c 0 .b .ordinary
def PG_INT_STATUS_WR_DROP : Field := .one 0x014 3 1 .w1c 0 .b .ordinary
def PG_INT_STATUS_ARM_LATE : Field := .one 0x014 2 1 .w1c 0 .b .ordinary
def PG_INT_STATUS_APPLIED : Field := .one 0x014 1 1 .w1c 0 .b .ordinary
def PG_INT_STATUS_ERR : Field := .one 0x014 0 1 .w1c 0 .b .ordinary
def PG_INT_ENABLE_EN : Field := .arr 0x018 0 1 .rw 0 .b .ordinary 32 1
def PG_INT_FORCE_FORCE : Field := .arr 0x01C 0 1 .wo 0 .b .ordinary 32 1
def PG_ERR_STATUS_ESC : Field := .arr 0x020 16 1 .ro 0 .b .ordinary 16 1
def PG_ERR_STATUS_SRC : Field := .arr 0x020 0 1 .w1c 0 .b .ordinary 16 1
def PG_ERR_SEV_SEV (n dflt : Nat) : Field := .one 0x024 (2 * n) 2 .rw dflt .b .ordinary
def PG_ERR_GRACE_REMAIN : Field := .one 0x028 16 16 .ro 0 .b .ordinary
def PG_ERR_GRACE_GRACE : Field := .one 0x028 0 16 .rw 1000 .b .ordinary
def PG_ERR_FIRST_VALID : Field := .one 0x02C 31 1 .ro 0 .b .ordinary
def PG_ERR_FIRST_MERGED : Field := .one 0x02C 30 1 .ro 0 .b .ordinary
def PG_ERR_FIRST_EFF_SEV : Field := .one 0x02C 28 2 .ro 0 .b .ordinary
def PG_ERR_FIRST_SOURCE : Field := .one 0x02C 24 4 .ro 0 .b .ordinary
def PG_ERR_FIRST_COUNT : Field := .one 0x02C 16 8 .ro 0 .b .ordinary
def PG_ERR_FIRST_EPOCH_LO : Field := .one 0x02C 0 16 .ro 0 .b .ordinary
def PG_SHADOW_CTRL_ARM : Field := .one 0x030 31 1 .w1s 0 .b .block
def PG_SHADOW_CTRL_CANCEL : Field := .one 0x030 30 1 .w1s 0 .b .block
def PG_SHADOW_CTRL_ARMED : Field := .one 0x030 29 1 .ro 0 .b .block
def PG_SHADOW_CTRL_APPLIED : Field := .one 0x030 28 1 .w1c 0 .b .block
def PG_SHADOW_CTRL_LATE : Field := .one 0x030 27 1 .w1c 0 .b .block
def PG_SHADOW_CTRL_BOUND : Field := .one 0x030 24 3 .ro 0 .b .block
def PG_SHADOW_CTRL_VIEW : Field := .one 0x030 23 1 .rw 0 .b .block
def PG_SHADOW_CTRL_TARGET : Field := .one 0x030 0 16 .rw 0 .b .block
def PG_VECTOR_MGMT : Field := .one 0x034 31 1 .rw 1 .b .ordinary
def PG_VECTOR_HOST : Field := .one 0x034 30 1 .rw 0 .b .ordinary
def PG_VECTOR_LINE : Field := .one 0x034 16 7 .rw 0 .b .ordinary
def PG_VECTOR_MSIX : Field := .one 0x034 0 9 .rw 0 .b .ordinary
def PG_LOCK_ALL_LOCK : Field := .one 0x038 1 1 .w1s 0 .b .ordinary
def PG_LOCK_EXT_LOCK : Field := .one 0x038 0 1 .w1s 0 .b .ordinary

/-! ### The GLB page (R15 of spec/01_architecture.md, R16 of spec/01_architecture.md, R398 of spec/17_power_states_and_reset.md) -/

def GLB_CHIP_ID_PART_NUM : Field := .one 0x080 16 16 .ro 2400 .b .aon
def GLB_CHIP_ID_VARIANT : Field := .one 0x080 8 8 .ro 0 .b .aon
def GLB_CHIP_ID_STEP_MAJOR : Field := .one 0x080 4 4 .ro 0 .b .aon
def GLB_CHIP_ID_STEP_MINOR : Field := .one 0x080 0 4 .ro 0 .b .aon
def GLB_STRAP_STRAP_ERR : Field := .one 0x084 4 1 .ro 0 .b .aon
def GLB_STRAP_DBAT : Field := .one 0x084 3 1 .ro 0 .b .aon
def GLB_STRAP_BOOT : Field := .one 0x084 2 1 .ro 0 .b .aon
def GLB_STRAP_ROLE : Field := .one 0x084 0 2 .ro 0 .b .aon
def GLB_ISL_PWR_PWR : Field := .one 0x088 0 17 .ro 63 .b .ordinary
def GLB_ISL_CLK_CLK_OK : Field := .one 0x08C 0 17 .ro 3 .b .ordinary
def GLB_ISL_RST_IN_RESET : Field := .one 0x090 0 17 .ro 0x1fffc .b .ordinary
def GLB_GATED_ADDR_WRITE : Field := .one 0x094 31 1 .ro 0 .b .ordinary
def GLB_GATED_ADDR_ADDR : Field := .one 0x094 0 25 .ro 0 .b .ordinary
def GLB_GATED_CNT : Field := .one 0x098 0 16 .ro 0 .b .ordinary
def GLB_TIME_LO_TIME_LO : Field := .one 0x09C 0 32 .ro 0 .b .ordinary
def GLB_TIME_HI_TIME_HI : Field := .one 0x0A0 0 32 .ro 0 .b .ordinary
def GLB_RST_CAUSE_VALID : Field := .one 0x0C0 31 1 .ro 0 .b .sticky
def GLB_RST_CAUSE_SRC : Field := .one 0x0C0 8 3 .ro 0 .b .sticky
def GLB_RST_CAUSE_LAST : Field := .one 0x0C0 0 4 .ro 0 .b .sticky
def GLB_RST_CNT_PIN : Field := .one 0x0C4 24 8 .ro 0 .b .sticky
def GLB_RST_CNT_BROWN : Field := .one 0x0C4 16 8 .ro 0 .b .sticky
def GLB_RST_CNT_CHIP : Field := .one 0x0C4 8 8 .ro 0 .b .sticky
def GLB_RST_CNT_MGMT : Field := .one 0x0C4 0 8 .ro 0 .b .sticky
def GLB_SRST_KEY : Field := .one 0x0C8 24 8 .wo 0 .b .sticky
def GLB_SRST_MGMT : Field := .one 0x0C8 1 1 .wo 0 .b .sticky
def GLB_SRST_CHIP : Field := .one 0x0C8 0 1 .wo 0 .b .sticky

/-! ### The AON page (R399 of spec/17_power_states_and_reset.md) -/

def AON_PS_CTRL_TARGET : Field := .one 0x080 29 3 .rw 0 .b .aon
def AON_PS_CTRL_GO : Field := .one 0x080 28 1 .w1s 0 .b .aon
def AON_PS_STATUS_STATE : Field := .one 0x084 29 3 .ro 0 .b .aon
def AON_PS_STATUS_REFUSE : Field := .one 0x084 25 4 .ro 0 .b .aon
def AON_PS_STATUS_THERM_OFF : Field := .one 0x084 24 1 .ro 0 .b .aon
def AON_WAKE_CAUSE_VALID : Field := .one 0x088 31 1 .ro 0 .b .aon
def AON_WAKE_CAUSE_FROM : Field := .one 0x088 28 3 .ro 0 .b .aon
def AON_WAKE_CAUSE_CAUSE : Field := .one 0x088 23 5 .ro 0 .b .aon
def AON_WAKE_CAUSE_ABORTED : Field := .one 0x088 22 1 .ro 0 .b .aon
def AON_WAKE_CAUSE_INDEX : Field := .one 0x088 16 4 .ro 0 .b .aon
def AON_WAKE_CAUSE_VALUE : Field := .one 0x088 0 16 .ro 0 .b .aon
def AON_WAKE_HIST_ENTRY : Field := .arr 0x08C 0 32 .ro 0 .b .aon 8 32
def AON_WAKE_EN_EN : Field := .one 0x0AC 1 12 .rw 8062 .b .aon
def AON_YY_CFG_PERIOD : Field := .one 0x0B0 18 14 .rw 100 .b .aon
def AON_YY_CFG_CC_CONFIRM : Field := .one 0x0B0 16 2 .rw 1 .b .aon
def AON_YY_CFG_PORTS : Field := .one 0x0B0 0 6 .rw 63 .b .aon
def AON_YY_TEMP_HI_C : Field := .one 0x0B4 24 8 .rw 95 .b .aon
def AON_YY_TEMP_LO_C : Field := .one 0x0B4 16 8 .rw 216 .b .aon
def AON_YY_VBUS_HI_MV : Field := .arr 0x0C0 16 16 .rw 4000 .b .aon 6 32
def AON_YY_VBUS_LO_MV : Field := .arr 0x0C0 0 16 .rw 0 .b .aon 6 32
def AON_GPIO_WAKE_GPIO : Field := .arr 0x0E0 0 4 .rw 0 .b .aon 8 4
def AON_SUPPLY_CORE_USE : Field := .one 0x0E4 31 1 .rw 0 .b .aon
def AON_SUPPLY_CORE_GPIO : Field := .one 0x0E4 28 3 .rw 0 .b .aon
def AON_SUPPLY_IO_USE : Field := .one 0x0E4 27 1 .rw 0 .b .aon
def AON_SUPPLY_IO_GPIO : Field := .one 0x0E4 24 3 .rw 0 .b .aon
def AON_SUPPLY_SAFE_USE : Field := .one 0x0E4 23 1 .rw 0 .b .aon
def AON_SUPPLY_SAFE_GPIO : Field := .one 0x0E4 20 3 .rw 0 .b .aon
def AON_SUPPLY_BRD_USE : Field := .one 0x0E4 19 1 .rw 0 .b .aon
def AON_SUPPLY_BRD_GPIO : Field := .one 0x0E4 16 3 .rw 0 .b .aon
def AON_SUPPLY_STS_BRD : Field := .one 0x0E8 16 1 .ro 0 .b .aon
def AON_SUPPLY_STS_IN_RANGE : Field := .one 0x0E8 0 11 .ro 0 .b .aon
def AON_PAD_HELD : Field := .one 0x0EC 31 1 .ro 0 .b .aon
def AON_PAD_RELEASE : Field := .one 0x0EC 0 1 .w1s 0 .b .aon
def AON_ALARM_MS : Field := .one 0x0F0 0 32 .rw 0 .b .aon
def AON_BTN_FORCE_S : Field := .one 0x0F4 8 8 .rw 8 .b .aon
def AON_BTN_DEB_MS : Field := .one 0x0F4 0 8 .rw 20 .b .aon
def AON_WDT_EN : Field := .one 0x0F8 31 1 .rw 0 .b .aon
def AON_WDT_TIMEOUT : Field := .one 0x0F8 0 16 .rw 1000 .b .aon
def AON_WDT_KICK_KEY : Field := .one 0x0FC 0 32 .wo 0 .b .aon
def AON_DRAIN_DRAIN_US : Field := .one 0x100 0 16 .rw 1000 .b .aon
def AON_CNT_D1 : Field := .one 0x104 0 32 .ro 0 .b .aon
def AON_CNT_D2 : Field := .one 0x108 0 32 .ro 0 .b .aon
def AON_CNT_YOYO : Field := .one 0x10C 0 32 .ro 0 .b .aon
def AON_RAM_ADDR_ADDR : Field := .one 0x110 2 14 .rw 0 .b .aon
def AON_RAM_DATA_DATA : Field := .one 0x114 0 32 .rw 0 .b .aon
def AON_CNT_SAMPLE : Field := .one 0x118 0 32 .ro 0 .b .aon
def AON_CNT_CLR_CLR : Field := .one 0x11C 0 1 .w1s 0 .b .aon

/-! ### The SAFE page (R376 of spec/16_ngunov_safety_island.md) -/

def SF_STATUS_PATCH_VER : Field := .one 0x080 24 8 .sx 0 .b .safeCfg
def SF_STATUS_PATCH_OK : Field := .one 0x080 23 1 .sx 0 .b .safeCfg
def SF_STATUS_THERM : Field := .one 0x080 22 1 .sx 0 .b .safeCfg
def SF_STATUS_TRIPPED : Field := .one 0x080 16 6 .sx 0 .b .safeCfg
def SF_THERM_TRIP_C : Field := .one 0x084 24 8 .ro 115 .b .safeCfg
def SF_THERM_WARN_C : Field := .one 0x084 16 8 .sx 105 .b .safeCfg
def SF_THERM_TJ_MAX : Field := .one 0x084 8 8 .sx 0 .b .safeCfg
def SF_WD_ADDR_SRC : Field := .one 0x088 29 3 .sx 0 .b .safeCfg
def SF_WD_ADDR_ADDR : Field := .one 0x088 0 25 .sx 0 .b .safeCfg
def SF_WD_CNT : Field := .one 0x08C 0 32 .sx 0 .b .safeCfg
def SF_LAST_RST_CAUSE : Field := .one 0x090 0 3 .sx 0 .b .safeCfg
def SF_CNT_RST : Field := .one 0x094 0 32 .sx 0 .b .safeCfg
def SP_CFG_LIMIT_MJ : Field := .arr 0x100 16 16 .sx 0 .b .safeCfg 6 512
def SP_CFG_CBULK_UF : Field := .arr 0x100 0 16 .sx 0 .b .safeCfg 6 512
def SP_SENSE_VS_DIV : Field := .arr 0x104 16 16 .sx 0 .b .safeCfg 6 512
def SP_SENSE_IS_GAIN : Field := .arr 0x104 0 16 .sx 0 .b .safeCfg 6 512
def SP_WIN_WIN_HI_MV : Field := .arr 0x108 16 16 .sx 5500 .b .safeCfg 6 512
def SP_WIN_WIN_LO_MV : Field := .arr 0x108 0 16 .sx 4750 .b .safeCfg 6 512
def SP_LIM_OV_MV : Field := .arr 0x10C 16 16 .sx 6000 .b .safeCfg 6 512
def SP_LIM_OC_MA : Field := .arr 0x10C 0 16 .sx 1125 .b .safeCfg 6 512
def SP_OCCFG_OC_PCT : Field := .arr 0x110 24 8 .sx 125 .b .safeCfg 6 512
def SP_OCCFG_OC_T : Field := .arr 0x110 16 8 .sx 10 .b .safeCfg 6 512
def SP_OCCFG_IMAX_MA : Field := .arr 0x110 0 16 .sx 6500 .b .safeCfg 6 512
def SP_RC_RC_MA : Field := .arr 0x114 0 16 .sx 150 .b .safeCfg 6 512
def SP_STATE_SRC_CLOSED : Field := .arr 0x118 31 1 .sx 0 .b .safeCfg 6 512
def SP_STATE_SNK_CLOSED : Field := .arr 0x118 30 1 .sx 0 .b .safeCfg 6 512
def SP_STATE_DISCH : Field := .arr 0x118 29 1 .sx 0 .b .safeCfg 6 512
def SP_STATE_VCONN : Field := .arr 0x118 28 1 .sx 0 .b .safeCfg 6 512
def SP_STATE_TRIPPED : Field := .arr 0x118 27 1 .sx 0 .b .safeCfg 6 512
def SP_STATE_TRIP : Field := .arr 0x118 23 4 .sx 0 .b .safeCfg 6 512
def SP_STATE_CLOSE_WAIT : Field := .arr 0x118 22 1 .sx 0 .b .safeCfg 6 512
def SP_STATE_TRANS : Field := .arr 0x118 21 1 .sx 0 .b .safeCfg 6 512
def SP_STATE_FRS : Field := .arr 0x118 20 1 .sx 0 .b .safeCfg 6 512
def SP_TRIP_VAL_VBUS_MV : Field := .arr 0x11C 16 16 .sx 0 .b .safeCfg 6 512
def SP_TRIP_VAL_IBUS_MA : Field := .arr 0x11C 0 16 .sx 0 .b .safeCfg 6 512
def SP_CNT_TRIP : Field := .arr 0x120 0 32 .sx 0 .b .safeCfg 6 512

/-! ### The SEC page (R419 of spec/18_security.md) -/

def SEC_BOOT_RESULT : Field := .one 0x080 28 4 .ro 0 .b .boot
def SEC_BOOT_COPY : Field := .one 0x080 27 1 .ro 0 .b .boot
def SEC_BOOT_ENC : Field := .one 0x080 26 1 .ro 0 .b .boot
def SEC_BOOT_KEY_IDX : Field := .one 0x080 25 1 .ro 0 .b .boot
def SEC_BOOT_IMG_SVN : Field := .one 0x080 16 8 .ro 0 .b .boot
def SEC_BOOT_OTP_SVN : Field := .one 0x080 8 8 .ro 0 .b .boot
def SEC_BOOT_FAIL_A : Field := .one 0x080 4 4 .ro 0 .b .boot
def SEC_BOOT_FAIL_B : Field := .one 0x080 0 4 .ro 0 .b .boot
def SEC_BOOT_SEQ_SEQ : Field := .one 0x084 0 32 .ro 0 .b .boot
def SEC_ID_ID_OK : Field := .one 0x088 31 1 .ro 0 .b .boot
def SEC_ID_IMGKEY_OK : Field := .one 0x088 30 1 .ro 0 .b .boot
def SEC_ID_PUF_OFF : Field := .one 0x088 29 1 .ro 0 .b .boot
def SEC_ID_PUF_ERR : Field := .one 0x088 0 16 .ro 0 .b .boot
def SEC_LOCKS_CTRL : Field := .one 0x08C 0 6 .ro 0 .b .aon
def SEC_OTP_CMD_GO : Field := .one 0x090 31 1 .w1s 0 .b .ordinary
def SEC_OTP_CMD_BUSY : Field := .one 0x090 30 1 .ro 0 .b .ordinary
def SEC_OTP_CMD_RESULT : Field := .one 0x090 28 2 .ro 0 .b .ordinary
def SEC_OTP_CMD_WORD : Field := .one 0x090 0 9 .rw 0 .b .ordinary
def SEC_OTP_WDATA_DATA : Field := .one 0x094 0 32 .rw 0 .b .ordinary
def SEC_MEAS_CMD_GO : Field := .one 0x098 31 1 .w1s 0 .b .ordinary
def SEC_MEAS_CMD_REFUSED : Field := .one 0x098 30 1 .ro 0 .b .ordinary
def SEC_MEAS_CMD_BANK : Field := .one 0x098 0 3 .rw 0 .b .ordinary
def SEC_SIGN_CMD_GO : Field := .one 0x09C 31 1 .w1s 0 .b .keySlot
def SEC_SIGN_CMD_BUSY : Field := .one 0x09C 30 1 .ro 0 .b .keySlot
def SEC_SIGN_CMD_FAIL : Field := .one 0x09C 29 1 .ro 0 .b .keySlot
def SEC_KS_CMD_GO : Field := .one 0x0A0 31 1 .w1s 0 .b .keySlot
def SEC_KS_CMD_OP : Field := .one 0x0A0 28 3 .rw 0 .b .keySlot
def SEC_KS_CMD_SLOT : Field := .one 0x0A0 16 6 .rw 0 .b .keySlot
def SEC_KS_CMD_SALT : Field := .one 0x0A0 0 16 .rw 0 .b .keySlot
def SEC_KS_STATUS_BUSY : Field := .one 0x0A4 31 1 .ro 0 .b .keySlot
def SEC_KS_STATUS_RESULT : Field := .one 0x0A4 28 3 .ro 0 .b .keySlot
def SEC_DBG_CTRL_CHALLENGE : Field := .one 0x0A8 31 1 .w1s 0 .b .keySlot
def SEC_DBG_CTRL_VERIFY : Field := .one 0x0A8 30 1 .w1s 0 .b .keySlot
def SEC_DBG_CTRL_LEVEL : Field := .one 0x0A8 28 2 .rw 0 .b .keySlot
def SEC_DBG_CTRL_GRANTED : Field := .one 0x0A8 26 2 .ro 0 .b .meas
def SEC_DBG_CTRL_BUSY : Field := .one 0x0A8 25 1 .ro 0 .b .keySlot
def SEC_DBG_CTRL_RESULT : Field := .one 0x0A8 23 2 .ro 0 .b .keySlot
def SEC_DBG_CTRL_FAILS : Field := .one 0x0A8 0 8 .ro 0 .b .aon
def KS_STAGE_KEY : Field := .arr 0x100 0 32 .wo 0 .b .keySlot 8 32
def SEC_KDF_INFO_INFO : Field := .arr 0x120 0 32 .rw 0 .b .keySlot 12 32
def SEC_DIGEST_DIGEST : Field := .arr 0x150 0 32 .rw 0 .b .keySlot 12 32
def SEC_SIG_SIG : Field := .arr 0x180 0 32 .ro 0 .b .keySlot 24 32
def SEC_DBG_RESP_DATA : Field := .one 0x1E0 0 32 .wo 0 .b .ordinary
def KS_SLOT_VALID : Field := .arr 0x200 31 1 .ro 0 .b .keySlot 64 32
def KS_SLOT_BUSY : Field := .arr 0x200 30 1 .ro 0 .b .keySlot 64 32
def KS_SLOT_ORIGIN : Field := .arr 0x200 29 1 .ro 0 .b .keySlot 64 32
def KS_SLOT_SALT : Field := .arr 0x200 0 16 .ro 0 .b .keySlot 64 32
def MEAS_VALUE : Field := .arr 0x300 0 32 .ro 0 .b .meas 96 32
def SEC_DBG_NONCE_NONCE : Field := .arr 0x480 0 32 .ro 0 .b .keySlot 12 32
def SEC_RNG_DATA : Field := .one 0x500 0 32 .pop 0 .b .ordinary
def SEC_OTP_WIN_DATA : Field := .arr 0x800 0 32 .ro 0 .b .ordinary 512 32

/-! ### The BIST page (R434 of spec/19_faults_and_selftest.md) -/

def BIST_CFG_SLICE_EN : Field := .one 0x080 31 1 .rw 1 .b .ordinary
def BIST_CFG_EVERY : Field := .one 0x080 16 8 .rw 1 .x .ordinary
def BIST_RUN_GO : Field := .one 0x084 31 1 .w1s 0 .b .ordinary
def BIST_RUN_SLICE : Field := .one 0x084 0 13 .rw 0 .b .ordinary
def BIST_SLICE_STS_RUNNING : Field := .one 0x088 31 1 .ro 0 .b .block
def BIST_SLICE_STS_PHASE : Field := .one 0x088 28 3 .ro 0 .b .block
def BIST_SLICE_STS_RUN_BUSY : Field := .one 0x088 27 1 .ro 0 .b .block
def BIST_SLICE_STS_SLICE : Field := .one 0x088 0 13 .ro 0 .b .block
def BIST_SWEEP_CNT : Field := .one 0x08C 0 32 .ro 0 .b .ordinary
def BIST_SWEEP_TIME_US : Field := .one 0x090 0 32 .ro 0 .b .ordinary
def BIST_SWEEP_COV_TESTED : Field := .one 0x094 16 13 .ro 0 .b .ordinary
def BIST_SWEEP_COV_SKIPPED : Field := .one 0x094 0 13 .ro 0 .b .ordinary
def BIST_SLICE_MAX_SLICE : Field := .one 0x098 16 13 .ro 0 .b .ordinary
def BIST_SLICE_MAX_NS : Field := .one 0x098 0 16 .ro 0 .b .ordinary
def BIST_FAIL_VALID : Field := .one 0x09C 31 1 .ro 0 .b .sticky
def BIST_FAIL_REPAIRED : Field := .one 0x09C 30 1 .ro 0 .b .sticky
def BIST_FAIL_GROUP : Field := .one 0x09C 16 7 .ro 0 .b .sticky
def BIST_FAIL_SLICE : Field := .one 0x09C 0 13 .ro 0 .b .sticky
def BIST_SPARE_USED : Field := .arr 0x0A0 0 32 .ro 0 .b .sticky 4 32
def BIST_CNT_FAIL : Field := .one 0x0B0 0 32 .ro 0 .b .ordinary
def BIST_CNT_DEFER : Field := .one 0x0B4 0 32 .ro 0 .b .ordinary
def BIST_CNT_ABORT : Field := .one 0x0B8 0 32 .ro 0 .b .ordinary
def BIST_CNT_SKIP : Field := .one 0x0BC 0 32 .ro 0 .b .ordinary
def BIST_CNT_CLR_CLR : Field := .one 0x0C0 0 1 .w1s 0 .b .ordinary
def BIST_LB_STS_RAN : Field := .one 0x0D0 31 1 .ro 0 .b .sticky
def BIST_LB_STS_PASS : Field := .one 0x0D0 30 1 .ro 0 .b .sticky
def BIST_LB_STS_RETRIED : Field := .one 0x0D0 29 1 .ro 0 .b .sticky
def BIST_LB_STS_SKIP_DBAT : Field := .one 0x0D0 28 1 .ro 0 .b .sticky
def BIST_LB_STS_FAIL : Field := .one 0x0D0 0 17 .ro 0 .b .sticky
def BIST_LB_RES_COV : Field := .one 0x0D4 16 16 .ro 0 .b .sticky
def BIST_LB_RES_US : Field := .one 0x0D4 0 16 .ro 0 .b .sticky

/-! ### The LANE pages (R79 of spec/04_serial_lanes.md, R80 of spec/04_serial_lanes.md) -/

def LN_CTRL_MODE : Field := .one 0x080 28 4 .rw 0 .x .ordinary
def LN_CTRL_ASYM_PREP : Field := .one 0x080 27 1 .rw 0 .x .ordinary
def LN_CTRL_ADAPT_FREEZE : Field := .one 0x080 26 1 .rw 0 .x .ordinary
def LN_CTRL_RETRAIN : Field := .one 0x080 25 1 .w1s 0 .b .ordinary
def LN_CTRL_CNT_CLR : Field := .one 0x080 24 1 .w1s 0 .b .ordinary
def LN_CTRL_RETRY_MAX : Field := .one 0x080 8 8 .rw 8 .x .ordinary
def LN_CTRL_RETRY_WAIT : Field := .one 0x080 0 8 .rw 10 .x .ordinary
def LN_STATUS_STATE : Field := .one 0x084 28 4 .ro 0 .b .link
def LN_STATUS_FAIL_STAGE : Field := .one 0x084 24 4 .ro 0 .b .link
def LN_STATUS_ASYM_READY : Field := .one 0x084 23 1 .ro 0 .b .link
def LN_STATUS_PAD_FAIL : Field := .one 0x084 16 4 .ro 0 .b .link
def LN_STATUS_RETRIES : Field := .one 0x084 8 8 .ro 0 .b .link
def LN_ORIENT_VALID : Field := .one 0x088 31 1 .ro 0 .b .link
def LN_ORIENT_CC_FLIP : Field := .one 0x088 30 1 .ro 0 .b .link
def LN_ORIENT_MISMATCH : Field := .one 0x088 29 1 .ro 0 .b .link
def LN_ORIENT_CC_VALID : Field := .one 0x088 28 1 .ro 0 .b .link
def LN_ORIENT_INV : Field := .one 0x088 8 4 .ro 0 .b .link
def LN_ORIENT_LMAP : Field := .one 0x088 0 8 .ro 0 .b .link
def LN_RTT_VALID : Field := .one 0x08C 31 1 .ro 0 .b .link
def LN_RTT_LONG : Field := .one 0x08C 30 1 .ro 0 .b .link
def LN_RTT_CABLE_NS : Field := .one 0x08C 16 14 .ro 0 .b .link
def LN_RTT_RTT_NS : Field := .one 0x08C 0 16 .ro 0 .b .link
def LN_TSYNC_CTRL_ROLE : Field := .one 0x090 30 2 .rw 1 .b .ordinary
def LN_TSYNC_CTRL_STEP : Field := .one 0x090 29 1 .w1s 0 .x .ordinary
def LN_TSYNC_CTRL_SLEW_MAX : Field := .one 0x090 16 8 .rw 4 .x .ordinary
def LN_TSYNC_CTRL_LOST_TH : Field := .one 0x090 8 8 .rw 16 .x .ordinary
def LN_TSYNC_CTRL_ASYM_CORR : Field := .one 0x090 0 8 .rw 0 .x .ordinary
def LN_TSYNC_STATUS_LOCKED : Field := .one 0x094 31 1 .ro 0 .b .link
def LN_TSYNC_STATUS_LOST : Field := .one 0x094 30 1 .ro 0 .b .link
def LN_TSYNC_STATUS_HOPS : Field := .one 0x094 20 4 .ro 0 .b .link
def LN_TSYNC_STATUS_FREQ_ADJ : Field := .one 0x094 0 20 .ro 0 .b .link
def LN_TSYNC_OFFSET_OFFSET : Field := .one 0x098 0 32 .ro 0 .b .link
def LN_LOS_CFG_LOS_TH : Field := .one 0x09C 16 8 .rw 30 .x .ordinary
def LN_LOS_CFG_LOS_HYST : Field := .one 0x09C 8 8 .rw 10 .x .ordinary
def LN_LOS_CFG_LOS_FILT : Field := .one 0x09C 0 8 .rw 64 .x .ordinary
def LN_EQ_SRC_CLASS : Field := .one 0x0A0 8 4 .ro 0 .b .link
def LN_EQ_SRC_SRC : Field := .one 0x0A0 0 8 .ro 0 .b .link
def PR_STATUS_DIR : Field := .arr 0x100 30 2 .ro 0 .b .link 8 2048
def PR_STATUS_LP : Field := .arr 0x100 26 1 .ro 0 .b .link 8 2048
def PR_STATUS_SIG : Field := .arr 0x100 25 1 .ro 0 .b .link 8 2048
def PR_STATUS_LOCK : Field := .arr 0x100 24 1 .ro 0 .b .link 8 2048
def PR_STATUS_LANE : Field := .arr 0x100 22 2 .ro 0 .b .link 8 2048
def PR_STATUS_INV : Field := .arr 0x100 21 1 .ro 0 .b .link 8 2048
def PR_STATUS_FAILED : Field := .arr 0x100 20 1 .ro 0 .b .link 8 2048
def PR_TXEQ_PRE2 : Field := .arr 0x104 18 6 .rw 0 .x .ordinary 8 2048
def PR_TXEQ_PRE1 : Field := .arr 0x104 12 6 .rw 60 .x .ordinary 8 2048
def PR_TXEQ_MAIN : Field := .arr 0x104 6 6 .rw 51 .x .ordinary 8 2048
def PR_TXEQ_POST1 : Field := .arr 0x104 0 6 .rw 56 .x .ordinary 8 2048
def PR_RXEQ_CTLE : Field := .arr 0x108 28 4 .ro 0 .b .link 8 2048
def PR_RXEQ_VGA : Field := .arr 0x108 20 8 .ro 0 .b .link 8 2048
def PR_RXEQ_DFE1 : Field := .arr 0x108 12 8 .ro 0 .b .link 8 2048
def PR_EYE_EYE_H : Field := .arr 0x10C 16 8 .ro 0 .b .link 8 2048
def PR_EYE_EYE_W : Field := .arr 0x10C 8 8 .ro 0 .b .link 8 2048
def PR_EYE_WORST : Field := .arr 0x10C 0 2 .ro 0 .b .link 8 2048
def PR_MARGIN_CTRL_START : Field := .arr 0x110 31 1 .w1s 0 .b .link 8 2048
def PR_MARGIN_CTRL_BUSY : Field := .arr 0x110 30 1 .ro 0 .b .link 8 2048
def PR_MARGIN_CTRL_EYE : Field := .arr 0x110 24 2 .rw 1 .b .link 8 2048
def PR_MARGIN_CTRL_AXIS : Field := .arr 0x110 23 1 .rw 0 .b .link 8 2048
def PR_MARGIN_CTRL_OFFSET : Field := .arr 0x110 16 7 .rw 0 .b .link 8 2048
def PR_MARGIN_CTRL_DWELL : Field := .arr 0x110 8 4 .rw 0 .b .link 8 2048
def PR_MARGIN_RESULT_DONE : Field := .arr 0x114 31 1 .ro 0 .b .link 8 2048
def PR_MARGIN_RESULT_ABORTED : Field := .arr 0x114 30 1 .ro 0 .b .link 8 2048
def PR_MARGIN_RESULT_ERRORS : Field := .arr 0x114 0 24 .ro 0 .b .link 8 2048
def PR_ERR_CNT_SYM_ERR : Field := .arr 0x118 0 32 .ro 0 .b .link 8 2048
def PR_EVENT_CNT_LOS_CNT : Field := .arr 0x11C 16 16 .ro 0 .b .link 8 2048
def PR_EVENT_CNT_LOL_CNT : Field := .arr 0x11C 0 16 .ro 0 .b .link 8 2048

/-! ### The LINK control pages (R111 of spec/05_fysoelo_link_layer.md) -/

def LK_CTRL_LP_IDLE : Field := .one 0x080 24 8 .rw 20 .x .ordinary
def LK_CTRL_LP_MAX : Field := .one 0x080 16 2 .rw 2 .b .ordinary
def LK_CTRL_REPLAY_MAX : Field := .one 0x080 12 4 .rw 4 .x .ordinary
def LK_CTRL_REPLAY_TO : Field := .one 0x080 0 12 .rw 0 .x .ordinary
def LK_STATUS_STATE : Field := .one 0x084 28 4 .ro 0 .b .link
def LK_STATUS_SET_ID : Field := .one 0x084 24 4 .ro 0 .b .link
def LK_STATUS_TX_PADS : Field := .one 0x084 20 4 .ro 0 .b .link
def LK_STATUS_RX_PADS : Field := .one 0x084 16 4 .ro 0 .b .link
def LK_STATUS_LEGACY : Field := .one 0x084 15 1 .ro 0 .b .link
def LK_STATUS_TURN_OK : Field := .one 0x084 14 1 .ro 0 .b .link
def LK_STATUS_JOINING : Field := .one 0x084 13 1 .ro 0 .b .link
def LK_SET_SET : Field := .one 0x088 0 2 .sh 0 .b .ordinary
def LK_PAIR_PAD_EN : Field := .one 0x08C 0 4 .sh 15 .b .ordinary
def LK_SEQ_NEXT_TX : Field := .one 0x094 16 12 .ro 0 .b .link
def LK_SEQ_NEXT_RX : Field := .one 0x094 0 12 .ro 0 .b .link
def LK_REPLAY_USED : Field := .one 0x098 16 13 .ro 0 .b .link
def LK_REPLAY_UNACKED : Field := .one 0x098 0 11 .ro 0 .b .link
def LK_BUF_CTRL_POOL : Field := .one 0x09C 24 8 .rw 4 .x .ordinary
def LK_BUF_ISO_RGN : Field := .one 0x09C 16 8 .rw 16 .x .ordinary
def LK_BUF_GBE : Field := .one 0x09C 8 8 .ro 108 .b .ordinary
def LK_CREDIT_CR_TIMER : Field := .one 0x0A0 24 8 .rw 10 .x .ordinary
def LK_CREDIT_CR_FREE : Field := .one 0x0A0 16 8 .rw 4 .x .ordinary
def LK_CREDIT_REFRESH : Field := .one 0x0A0 0 16 .rw 1000 .x .ordinary
def LK_CPOOL_TX_LIMIT : Field := .one 0x0A4 0 32 .ro 0 .b .link
def LK_CPOOL_USED_TX_USED : Field := .one 0x0A8 0 32 .ro 0 .b .link
def LK_LAST_DROP_VALID : Field := .one 0x0AC 31 1 .ro 0 .b .link
def LK_LAST_DROP_CAUSE : Field := .one 0x0AC 28 3 .ro 0 .b .link
def LK_LAST_DROP_PADS : Field := .one 0x0AC 24 4 .ro 0 .b .link
def LK_LAST_DROP_ABSORB_NS : Field := .one 0x0AC 0 16 .ro 0 .b .link
def LK_PAIR_SCTRL_ARM : Field := .one 0x090 31 1 .w1s 0 .b .block
def LK_PAIR_SCTRL_CANCEL : Field := .one 0x090 30 1 .w1s 0 .b .block
def LK_PAIR_SCTRL_ARMED : Field := .one 0x090 29 1 .ro 0 .b .block
def LK_PAIR_SCTRL_APPLIED : Field := .one 0x090 28 1 .w1c 0 .b .block
def LK_PAIR_SCTRL_LATE : Field := .one 0x090 27 1 .w1c 0 .b .block
def LK_PAIR_SCTRL_VIEW : Field := .one 0x090 23 1 .rw 0 .b .block
def LK_PAIR_SCTRL_TARGET : Field := .one 0x090 0 16 .rw 0 .b .block

/-! ### The LINK counter pages (R113 of spec/05_fysoelo_link_layer.md) -/

def LK_CNT_TX_PKT : Field := .one 0x080 0 32 .ro 0 .b .ordinary
def LK_CNT_RX_PKT : Field := .one 0x084 0 32 .ro 0 .b .ordinary
def LK_CNT_REPLAY_PKT : Field := .one 0x088 0 32 .ro 0 .b .ordinary
def LK_CNT_NAK_TX : Field := .one 0x08C 0 32 .ro 0 .b .ordinary
def LK_CNT_NAK_RX : Field := .one 0x090 0 32 .ro 0 .b .ordinary
def LK_CNT_DUP_DISCARD : Field := .one 0x094 0 32 .ro 0 .b .ordinary
def LK_CNT_GAP_DISCARD : Field := .one 0x098 0 32 .ro 0 .b .ordinary
def LK_CNT_FEC_CORR : Field := .one 0x09C 0 32 .ro 0 .b .ordinary
def LK_CNT_FEC_UNCORR : Field := .one 0x0A0 0 32 .ro 0 .b .ordinary
def LK_CNT_MALFORMED : Field := .one 0x0A4 0 32 .ro 0 .b .ordinary
def LK_CNT_ISO_OVERRUN : Field := .one 0x0A8 0 32 .ro 0 .b .ordinary
def LK_CNT_CREDIT_OVER : Field := .one 0x0AC 0 32 .ro 0 .b .ordinary
def LK_CNT_TAG_FAIL : Field := .one 0x0B0 0 32 .ro 0 .b .ordinary
def LK_CNT_PAIR_DROP : Field := .one 0x0B4 0 32 .ro 0 .b .ordinary
def LK_CNT_PAIR_ADD : Field := .one 0x0B8 0 32 .ro 0 .b .ordinary
def LK_CNT_TURN : Field := .one 0x0BC 0 32 .ro 0 .b .ordinary
def LK_CNT_LP_ENTRY : Field := .one 0x0C0 0 32 .ro 0 .b .ordinary
def LK_CNT_WAKE_MERGED : Field := .one 0x0C4 0 32 .ro 0 .b .ordinary
def LK_CNT_CR_DEFER : Field := .one 0x0C8 0 32 .ro 0 .b .ordinary
def LK_CNT_REPLAY_DISCARD : Field := .one 0x0CC 0 32 .ro 0 .b .ordinary
def LK_CNT_SEQ_STALL : Field := .one 0x0D0 0 32 .ro 0 .b .ordinary
def LK_CNT_BUF_STALL : Field := .one 0x0D4 0 32 .ro 0 .b .ordinary
def LK_CNT_CLR_CLR : Field := .one 0x0FC 0 1 .w1s 0 .b .ordinary

end Sys2Proof.Reg
end

