-- ==== Sys2Proof/Machine/RegsB.lean ====
section
/-! DEFINITION. The register fields of one path table entry, the PATHCTL page, the SW page, the ALM pages, active and shadow, one shaper table entry, the SHPCTL page, the PCIe port page, the PCA pages, the bridge page, as the register tables of spec/ give them: offset, lowest bit, width, access, reset value, level, retention class, and for an array the count and the stride in bits. -/

namespace Sys2Proof.Reg

/-! ### One path table entry (R134 of spec/07_tunnels_and_paths.md) -/

def PT_W0_STATE : Field := .one 0x000 30 2 .rw 0 .x .ordinary
def PT_W0_DOM : Field := .one 0x000 29 1 .rw 0 .x .ordinary
def PT_W0_IN_PORT : Field := .one 0x000 24 5 .rw 0 .x .ordinary
def PT_W0_CLASS : Field := .one 0x000 22 2 .rw 0 .x .ordinary
def PT_W0_SEAL_IN : Field := .one 0x000 21 1 .rw 0 .x .ordinary
def PT_W0_SEAL_OUT : Field := .one 0x000 20 1 .rw 0 .x .ordinary
def PT_W0_PROT : Field := .one 0x000 18 2 .rw 0 .x .ordinary
def PT_W0_DOWN : Field := .one 0x000 17 1 .ro 0 .b .ordinary
def PT_W0_IN_PATH_ID : Field := .one 0x000 0 16 .rw 0 .x .ordinary
def PT_W1_OUT_PORT : Field := .one 0x004 27 5 .rw 0 .x .ordinary
def PT_W1_MC_EN : Field := .one 0x004 26 1 .rw 0 .x .ordinary
def PT_W1_MC_GROUP : Field := .one 0x004 17 9 .rw 0 .x .ordinary
def PT_W1_OUT_PATH_ID : Field := .one 0x004 0 16 .rw 0 .x .ordinary
def PT_W2_SHP_EN : Field := .one 0x008 31 1 .rw 0 .x .ordinary
def PT_W2_SHAPER : Field := .one 0x008 19 12 .rw 0 .x .ordinary
def PT_W2_QUANTUM : Field := .one 0x008 0 16 .rw 0 .x .ordinary
def PT_W3_ALLOC : Field := .one 0x00C 20 12 .rw 0 .x .ordinary
def PT_W3_KEY_IN : Field := .one 0x00C 14 6 .rw 0 .x .ordinary
def PT_W3_KEY_OUT : Field := .one 0x00C 8 6 .rw 0 .x .ordinary
def PT_W4_PARTNER : Field := .one 0x010 19 13 .rw 0 .x .ordinary
def PT_W4_PV : Field := .one 0x010 18 1 .rw 0 .x .ordinary
def PT_W4_RSV_UNITS : Field := .one 0x010 0 13 .rw 0 .x .ordinary
def PT_W5_GRANT : Field := .one 0x014 0 32 .ro 0 .b .ordinary
def PT_W6_USED : Field := .one 0x018 0 32 .ro 0 .b .ordinary
def PT_W7_LIMIT : Field := .one 0x01C 0 32 .ro 0 .b .ordinary

/-! ### The PATHCTL page (R163 of spec/07_tunnels_and_paths.md) -/

def PC_DOM_BOUND : Field := .arr 0x080 31 1 .rw 0 .x .ordinary 2 32
def PC_DOM_HUB_ID : Field := .arr 0x080 0 16 .rw 0 .x .ordinary 2 32
def PC_TAG_DOM_TAG : Field := .arr 0x088 0 32 .rw 0 .x .ordinary 2 32
def PC_ROOT_ROOT_ID : Field := .arr 0x090 16 16 .rw 0 .x .ordinary 2 32
def PC_ROOT_UP_PORT : Field := .arr 0x090 0 5 .rw 31 .x .ordinary 2 32
def PC_BCAST_MASK_1 : Field := .one 0x098 8 6 .rw 0 .b .ordinary
def PC_BCAST_MASK_0 : Field := .one 0x098 0 6 .rw 0 .b .ordinary
def PC_CFG_CTRL_TO : Field := .one 0x09C 16 16 .rw 100 .b .ordinary
def PC_CFG_ADD_HOLD : Field := .one 0x09C 0 16 .rw 500 .b .ordinary
def PC_HOP_HOP_U4 : Field := .one 0x0A0 20 10 .ro 400 .b .ordinary
def PC_HOP_HOP_LEG : Field := .one 0x0A0 10 10 .ro 320 .b .ordinary
def PC_HOP_HOP_FY : Field := .one 0x0A0 0 10 .ro 260 .b .ordinary
def PC_USE_PENDING : Field := .one 0x0A4 16 14 .ro 0 .b .ordinary
def PC_USE_ACTIVE : Field := .one 0x0A4 0 14 .ro 0 .b .ordinary
def PC_LAST_REFUSE_VALID : Field := .one 0x0A8 31 1 .ro 0 .b .ordinary
def PC_LAST_REFUSE_DOM : Field := .one 0x0A8 30 1 .ro 0 .b .ordinary
def PC_LAST_REFUSE_CODE : Field := .one 0x0A8 26 4 .ro 0 .b .ordinary
def PC_LAST_REFUSE_COP : Field := .one 0x0A8 16 8 .ro 0 .b .ordinary
def PC_LAST_REFUSE_SRC_HUB : Field := .one 0x0A8 0 16 .ro 0 .b .ordinary
def PC_LAST_DOWN_VALID : Field := .one 0x0AC 31 1 .ro 0 .b .ordinary
def PC_LAST_DOWN_REASON : Field := .one 0x0AC 28 3 .ro 0 .b .ordinary
def PC_LAST_DOWN_PORT : Field := .one 0x0AC 16 5 .ro 0 .b .ordinary
def PC_LAST_DOWN_COUNT : Field := .one 0x0AC 0 14 .ro 0 .b .ordinary
def PC_LAST_FAILOVER_VALID : Field := .one 0x0B0 31 1 .ro 0 .b .ordinary
def PC_LAST_FAILOVER_ENTRY : Field := .one 0x0B0 0 13 .ro 0 .b .ordinary
def PC_CNT_NO_PATH : Field := .one 0x0B4 0 32 .ro 0 .b .ordinary
def PC_CNT_DOWN_DISCARD : Field := .one 0x0B8 0 32 .ro 0 .b .ordinary
def PC_CNT_TTL : Field := .one 0x0BC 0 32 .ro 0 .b .ordinary
def PC_CNT_CTRL_TO : Field := .one 0x0C0 0 32 .ro 0 .b .ordinary
def PC_CNT_SEAL : Field := .one 0x0C4 0 32 .ro 0 .b .ordinary
def PC_CNT_FAILOVER : Field := .one 0x0C8 0 32 .ro 0 .b .ordinary
def PC_CNT_CLR_CLR : Field := .one 0x0CC 0 1 .w1s 0 .b .ordinary
def CFT_0_VALID : Field := .arr 0x800 31 1 .rw 0 .b .ordinary 256 32
def CFT_0_PORT : Field := .arr 0x800 16 5 .rw 0 .b .ordinary 256 32
def CFT_0_HUB_ID : Field := .arr 0x800 0 16 .rw 0 .b .ordinary 256 32
def CFT_1_VALID : Field := .arr 0xC00 31 1 .rw 0 .b .ordinary 256 32
def CFT_1_PORT : Field := .arr 0xC00 16 5 .rw 0 .b .ordinary 256 32
def CFT_1_HUB_ID : Field := .arr 0xC00 0 16 .rw 0 .b .ordinary 256 32

/-! ### The SW page (R194 of spec/08_switch_core.md) -/

def SW_CFG_EARLY_PAD : Field := .one 0x080 16 1 .rw 1 .x .ordinary
def SW_CFG_FRAME_TO : Field := .one 0x080 0 16 .rw 250 .x .ordinary
def SW_BUF_CFG_OUT_MIN : Field := .one 0x084 0 7 .rw 32 .x .ordinary
def SW_BUF_STATUS_FREE_MIN : Field := .one 0x088 16 13 .ro 4096 .b .block
def SW_BUF_STATUS_POOL_MIN : Field := .one 0x088 0 13 .ro 3456 .b .block
def SW_CNT_CLR_CLR : Field := .one 0x08C 0 1 .w1s 0 .b .ordinary
def SW_CNT_RESET_DISCARD : Field := .one 0x090 0 32 .ro 0 .b .ordinary
def SW_CNT_UE : Field := .one 0x094 0 32 .ro 0 .b .ordinary
def SW_MC_SEL_GROUP : Field := .one 0x098 16 9 .rw 0 .x .ordinary
def SW_MC_SEL_WORD : Field := .one 0x098 0 6 .rw 0 .x .ordinary
def SW_MC_STATUS_GROUPS : Field := .one 0x0A0 0 10 .ro 0 .b .ordinary
def SW_CNT_MC_SKIP : Field := .one 0x0A4 0 32 .ro 0 .b .ordinary
def SW_OUT_RESTART_RESTART : Field := .one 0x0A8 0 20 .w1s 0 .b .ordinary
def SW_OUT_CFG_OUT_CAP : Field := .arr 0x100 0 17 .rw 0x2800 .x .ordinary 20 32
def SW_OUT_RES_RES_2 : Field := .arr 0x150 16 8 .rw 16 .x .ordinary 20 32
def SW_OUT_RES_RES_1 : Field := .arr 0x150 8 8 .rw 16 .x .ordinary 20 32
def SW_OUT_RES_RES_0 : Field := .arr 0x150 0 8 .rw 16 .x .ordinary 20 32
def SW_OUT_OCC_AT_CAP : Field := .arr 0x1A0 31 1 .ro 0 .b .block 20 32
def SW_OUT_OCC_HALTED : Field := .arr 0x1A0 30 1 .ro 0 .b .block 20 32
def SW_OUT_OCC_OCC : Field := .arr 0x1A0 0 17 .ro 0 .b .block 20 32
def SW_CNT_CELL : Field := .arr 0x200 0 32 .ro 0 .b .ordinary 20 32
def SW_CNT_PAD : Field := .arr 0x250 0 32 .ro 0 .b .ordinary 20 32
def SW_CNT_WAIT : Field := .arr 0x2A0 0 32 .ro 0 .b .ordinary 20 32
def SW_CNT_FRM : Field := .arr 0x2F0 0 32 .ro 0 .b .ordinary 20 32
def SW_CNT_TFRM : Field := .arr 0x340 0 32 .ro 0 .b .ordinary 20 32
def SW_CAP_CFG_EN : Field := .one 0x400 31 1 .rw 0 .b .ordinary
def SW_CAP_CFG_MODE : Field := .one 0x400 30 1 .rw 0 .b .ordinary
def SW_CAP_CFG_SPILL : Field := .one 0x400 29 1 .rw 0 .x .ordinary
def SW_CAP_CFG_SPILL_LOG2 : Field := .one 0x400 16 5 .rw 12 .x .ordinary
def SW_CAP_DRAM_LO_ADDR_LO : Field := .one 0x404 7 25 .rw 0 .x .ordinary
def SW_CAP_DRAM_HI_ADDR_HI : Field := .one 0x408 0 3 .rw 0 .x .ordinary
def SW_CAP_WR_WR : Field := .one 0x40C 0 32 .ro 0 .b .block
def SW_CAP_RD_RD : Field := .one 0x410 0 32 .rw 0 .b .ordinary
def SW_CAP_LOST : Field := .one 0x414 0 32 .ro 0 .b .ordinary
def SW_CAP_FLT_A_EN : Field := .arr 0x440 31 1 .rw 0 .b .ordinary 16 64
def SW_CAP_FLT_A_POINT : Field := .arr 0x440 30 1 .rw 0 .b .ordinary 16 64
def SW_CAP_FLT_A_PORT : Field := .arr 0x440 25 5 .rw 31 .b .ordinary 16 64
def SW_CAP_FLT_A_ANY_CLASS : Field := .arr 0x440 24 1 .rw 1 .b .ordinary 16 64
def SW_CAP_FLT_A_CLASS : Field := .arr 0x440 22 2 .rw 0 .b .ordinary 16 64
def SW_CAP_FLT_A_SAMPLE : Field := .arr 0x440 18 4 .rw 0 .b .ordinary 16 64
def SW_CAP_FLT_B_PATH_HI : Field := .arr 0x444 16 16 .rw 0xffff .b .ordinary 16 64
def SW_CAP_FLT_B_PATH_LO : Field := .arr 0x444 0 16 .rw 0 .b .ordinary 16 64
def SW_CAP_ENTRY_DATA : Field := .arr 0x500 0 32 .ro 0 .b .ordinary 32 32
def SW_MC_DATA_DATA : Field := .one 0x09C 0 32 .rw 0 .x .ordinary

/-! ### The ALM pages, active and shadow (R209 of spec/09_almanac.md) -/

def ALM_CLASS_Q3 : Field := .one 0x080 16 16 .sh 16 .x .ordinary
def ALM_CLASS_Q2 : Field := .one 0x080 0 16 .sh 48 .x .ordinary
def ALM_ISO_G_UNITS : Field := .one 0x084 16 13 .sh 0 .x .ordinary
def ALM_ISO_ISO_UNITS : Field := .one 0x084 0 13 .sh 0 .x .ordinary
def ALM_PROT_PROTECT_EN : Field := .one 0x088 31 1 .sh 1 .b .ordinary
def ALM_PROT_RECOVER : Field := .one 0x088 0 8 .sh 64 .b .ordinary
def ALM_ROW_V : Field := .arr 0x100 31 1 .sh 0 .x .ordinary 64 32
def ALM_ROW_ENTRY : Field := .arr 0x100 13 13 .sh 0 .x .ordinary 64 32
def ALM_ROW_UNITS : Field := .arr 0x100 0 13 .sh 0 .x .ordinary 64 32
def ALM_STATUS_MODE : Field := .one 0x200 30 2 .ro 0 .b .block
def ALM_STATUS_SHORT_SENT : Field := .one 0x200 29 1 .ro 0 .b .block
def ALM_STATUS_CTRL_UNITS : Field := .one 0x200 0 13 .ro 0 .b .block
def ALM_MEAS_CAP_UNITS : Field := .one 0x204 16 13 .ro 0 .b .block
def ALM_MEAS_P_UNITS : Field := .one 0x204 0 13 .ro 0 .b .block
def ALM_SERV_A_CTRL : Field := .one 0x208 16 13 .ro 0 .b .block
def ALM_SERV_A_ISO : Field := .one 0x208 0 13 .ro 0 .b .block
def ALM_SERV_B_BE : Field := .one 0x20C 16 13 .ro 0 .b .block
def ALM_SERV_B_GUAR : Field := .one 0x20C 0 13 .ro 0 .b .block
def ALM_CNT_TURN : Field := .one 0x210 0 32 .ro 0 .b .ordinary
def ALM_CNT_PROTECT : Field := .one 0x214 0 32 .ro 0 .b .ordinary
def ALM_CNT_SHORT : Field := .one 0x218 0 32 .ro 0 .b .ordinary
def ALM_CNT_NOROW : Field := .one 0x21C 0 32 .ro 0 .b .ordinary
def ALM_CNT_CLR_CLR : Field := .one 0x220 0 1 .w1s 0 .b .ordinary
def ALM_CHECK_FAIL : Field := .one 0x200 31 1 .ro 0 .b .ordinary
def ALM_CHECK_CAUSE : Field := .one 0x200 28 3 .ro 0 .b .ordinary
def ALM_CHECK_ROW : Field := .one 0x200 0 6 .ro 0 .b .ordinary

/-! ### One shaper table entry (R208 of spec/09_almanac.md) -/

def SH_W0_RATE : Field := .one 0x000 15 17 .sh 0 .x .ordinary
def SH_W0_BURST : Field := .one 0x000 0 15 .sh 5 .x .ordinary
def SH_W1_RATE_ACT : Field := .one 0x004 15 17 .ro 0 .b .ordinary
def SH_W1_BURST_ACT : Field := .one 0x004 0 15 .ro 5 .b .ordinary
def SH_W2_TOKENS : Field := .one 0x008 0 32 .ro 0 .b .block
def SH_W3_NEXT_ELIG : Field := .one 0x00C 0 32 .ro 0 .b .block

/-! ### The SHPCTL page (R226 of spec/09_almanac.md) -/

def SC_USE_ACTIVE : Field := .one 0x080 0 13 .ro 0 .b .ordinary
def DA_STATE_STATE : Field := .arr 0x100 30 2 .ro 0 .b .ordinary 2 256
def DA_STATE_REASON : Field := .arr 0x100 16 8 .ro 0 .b .ordinary 2 256
def DA_STATE_ARM_ID : Field := .arr 0x100 0 16 .ro 0 .b .ordinary 2 256
def DA_EPOCH_LO_EPOCH_LO : Field := .arr 0x104 0 32 .ro 0 .b .ordinary 2 256
def DA_EPOCH_HI_EPOCH_HI : Field := .arr 0x108 0 16 .ro 0 .b .ordinary 2 256
def DA_MASK_LO_MASK_LO : Field := .arr 0x10C 0 32 .ro 0 .b .ordinary 2 256
def DA_MASK_HI_MASK_HI : Field := .arr 0x110 0 32 .ro 0 .b .ordinary 2 256
def DA_SRC_SRC_HUB : Field := .arr 0x114 0 16 .ro 0 .b .ordinary 2 256

/-! ### The PCIe port page (R254 of spec/10_pcie_and_bridging.md) -/

def PE_CFG_ROLE : Field := .one 0x080 30 2 .ro 0 .b .ordinary
def PE_CFG_MAX_GEN : Field := .one 0x080 24 3 .rw 5 .x .ordinary
def PE_CFG_BIFUR : Field := .one 0x080 16 2 .rw 0 .x .ordinary
def PE_CFG_TAG10 : Field := .one 0x080 9 1 .rw 1 .x .ordinary
def PE_CFG_PORT_RST : Field := .one 0x080 0 1 .w1s 0 .b .ordinary
def PE_REQ_PEAK : Field := .one 0x084 16 13 .ro 0 .b .ordinary
def PE_REQ_OUT : Field := .one 0x084 0 13 .ro 0 .b .block
def PE_POOL_FREE_MIN : Field := .one 0x088 16 13 .ro 5120 .b .ordinary
def PE_POOL_FREE : Field := .one 0x088 0 13 .ro 5120 .b .block
def PE_LINK_CFG_ATTACH : Field := .arr 0x090 30 2 .rw 0 .x .ordinary 4 64
def PE_LINK_CFG_DOM : Field := .arr 0x090 29 1 .rw 0 .x .ordinary 4 64
def PE_LINK_CFG_PCA : Field := .arr 0x090 24 3 .rw 0 .x .ordinary 4 64
def PE_LINK_CFG_RESET : Field := .arr 0x090 0 1 .w1s 0 .b .ordinary 4 64
def PE_LINK_STS_LTSSM : Field := .arr 0x094 28 4 .ro 0 .b .ordinary 4 64
def PE_LINK_STS_WIDTH : Field := .arr 0x094 24 4 .ro 0 .b .ordinary 4 64
def PE_LINK_STS_GEN : Field := .arr 0x094 20 4 .ro 0 .b .ordinary 4 64
def PE_LINK_STS_DL_ACTIVE : Field := .arr 0x094 19 1 .ro 0 .b .ordinary 4 64
def PE_LINK_STS_RST_N : Field := .arr 0x094 18 1 .ro 0 .b .ordinary 4 64
def PE_LINK_STS_CLKREQ_N : Field := .arr 0x094 17 1 .ro 1 .b .ordinary 4 64
def PE_CNT_RX_ERR : Field := .one 0x0B0 0 32 .ro 0 .b .ordinary
def PE_CNT_ECRC : Field := .one 0x0B4 0 32 .ro 0 .b .ordinary
def PE_CNT_POISON : Field := .one 0x0B8 0 32 .ro 0 .b .ordinary
def PE_CNT_CLR_CLR : Field := .one 0x0BC 0 1 .w1s 0 .b .ordinary

/-! ### The PCA pages (R256 of spec/10_pcie_and_bridging.md) -/

def PCA_CTRL_MODE : Field := .one 0x080 30 2 .rw 0 .x .ordinary
def PCA_CTRL_DOM : Field := .one 0x080 29 1 .rw 0 .x .ordinary
def PCA_CTRL_PKT240 : Field := .one 0x080 1 1 .rw 0 .x .ordinary
def PCA_CTRL_RELEASE : Field := .one 0x080 0 1 .w1s 0 .b .ordinary
def PCA_TUN_TX_HANDLE : Field := .one 0x084 16 16 .rw 0 .x .ordinary
def PCA_TUN_RX_HANDLE : Field := .one 0x084 0 16 .rw 0 .x .ordinary
def PCA_CFG_CPL_TO : Field := .one 0x088 16 16 .rw 5000 .x .ordinary
def PCA_CFG_LOCK_TO : Field := .one 0x088 8 8 .rw 10 .x .ordinary
def PCA_REQ_PEAK : Field := .one 0x08C 16 11 .ro 0 .b .ordinary
def PCA_REQ_OUT : Field := .one 0x08C 0 11 .ro 0 .b .block
def PCA_STATE_PATH_UP : Field := .one 0x090 31 1 .ro 0 .b .block
def PCA_STATE_LOCKED : Field := .one 0x090 30 1 .ro 0 .b .block
def PCA_STATE_TAG_WAIT : Field := .one 0x090 29 1 .ro 0 .b .block
def PCA_STATE_CPL_WAIT : Field := .one 0x090 28 1 .ro 0 .b .block
def PCA_SB_LOCAL_WORD : Field := .one 0x094 0 32 .ro 0 .b .block
def PCA_SB_FAR_WORD : Field := .one 0x098 0 32 .ro 0 .b .block
def PCA_CNT_UR_GEN : Field := .one 0x0A0 0 32 .ro 0 .b .ordinary
def PCA_CNT_UNEXP_CPL : Field := .one 0x0A4 0 32 .ro 0 .b .ordinary
def PCA_CNT_POSTED_DROP : Field := .one 0x0A8 0 32 .ro 0 .b .ordinary
def PCA_CNT_UP_DROP : Field := .one 0x0AC 0 32 .ro 0 .b .ordinary
def PCA_CNT_TIMEOUT : Field := .one 0x0B0 0 32 .ro 0 .b .ordinary
def PCA_CNT_SB_TX : Field := .one 0x0B4 0 32 .ro 0 .b .ordinary
def PCA_CNT_CLR_CLR : Field := .one 0x0B8 0 1 .w1s 0 .b .ordinary

/-! ### The bridge page (R258 of spec/10_pcie_and_bridging.md) -/

def BR_RSEL_HUB_ID : Field := .one 0x080 0 16 .rw 0 .b .ordinary
def BR_CFG_PF_EN : Field := .one 0x084 31 1 .rw 1 .b .ordinary
def BR_CFG_PF_LIFE : Field := .one 0x084 16 8 .rw 10 .x .ordinary
def BR_CFG_DISC_TO : Field := .one 0x084 0 12 .rw 125 .x .ordinary
def BR_SMB_CFG_PEC : Field := .one 0x088 8 1 .rw 0 .b .ordinary
def BR_SMB_CFG_ALERT_EN : Field := .one 0x088 7 1 .rw 1 .b .ordinary
/-- log 3, DESIGN CHOICE. -/
def BR_SMB_CFG_ADDR : Field := .one 0x088 0 7 .rw 90 .b .ordinary
def BR_SMB_STATUS_NWORDS : Field := .one 0x08C 8 3 .ro 0 .b .block
def BR_SMB_STATUS_STATE : Field := .one 0x08C 0 4 .ro 0 .b .block
def BR_SMB_PTR_ADDR : Field := .one 0x090 0 25 .ro 0 .b .ordinary
def BR_LD_STATUS_VALID : Field := .one 0x094 31 1 .w1c 0 .b .ordinary
def BR_LD_STATUS_OVF : Field := .one 0x094 30 1 .w1c 0 .b .ordinary
def BR_LD_STATUS_SRC : Field := .one 0x094 27 3 .ro 0 .b .ordinary
def BR_LD_STATUS_REMOTE : Field := .one 0x094 26 1 .ro 0 .b .ordinary
def BR_LD_STATUS_HUB_ID : Field := .one 0x094 0 16 .ro 0 .b .ordinary
def BR_LD_ADDR_ADDR : Field := .one 0x098 0 25 .ro 0 .b .ordinary
def BR_LD_DATA_DATA : Field := .one 0x09C 0 32 .ro 0 .b .ordinary
def BR_CNT_DISCARD : Field := .one 0x0A0 0 32 .ro 0 .b .ordinary
def BR_CNT_POP_LOST : Field := .one 0x0A4 0 32 .ro 0 .b .ordinary
def BR_CNT_PF_HIT : Field := .one 0x0A8 0 32 .ro 0 .b .ordinary
def BR_CNT_CLR_CLR : Field := .one 0x0AC 0 1 .w1s 0 .b .ordinary

end Sys2Proof.Reg
end

