-- ==== Sys2Proof/Machine/RegsC.lean ====
section
/-! DEFINITION. The register fields of the DISP pages, the DOUT pages, the UHUB page, the ETH pages, the MEM page, the PD pages, the MBX control page, the mailbox channel pages, as the register tables of spec/ give them: offset, lowest bit, width, access, reset value, level, retention class, and for an array the count and the stride in bits. -/

namespace Sys2Proof.Reg

/-! ### The DISP pages (R284 of spec/11_display_pipeline.md) -/

def DISP_MODE_MODE : Field := .one 0x080 30 2 .sh 0 .b .ordinary
def DISP_MODE_CAP_EN : Field := .one 0x080 29 1 .sh 1 .b .ordinary
def DISP_MODE_CAP_ONSTATIC : Field := .one 0x080 28 1 .sh 0 .b .ordinary
def DISP_MODE_HOLD_AUTO : Field := .one 0x080 27 1 .sh 0 .b .ordinary
def DISP_MODE_RESUME_AUTO : Field := .one 0x080 26 1 .sh 1 .b .ordinary
def DISP_MODE_VRR_EN : Field := .one 0x080 25 1 .sh 0 .b .ordinary
def DISP_CTRL_HOLD_REQ : Field := .one 0x084 31 1 .w1s 0 .b .ordinary
def DISP_CTRL_RESUME_REQ : Field := .one 0x084 30 1 .w1s 0 .b .ordinary
def DISP_CTRL_CNT_CLR : Field := .one 0x084 0 1 .w1s 0 .b .ordinary
def DISP_CFG_STATIC_N : Field := .one 0x088 24 8 .rw 8 .b .ordinary
def DISP_CFG_HOLD_WAIT : Field := .one 0x088 16 8 .rw 4 .b .ordinary
def DISP_CFG_PT_FILL : Field := .one 0x088 12 4 .rw 2 .x .ordinary
def DISP_CFG_LT_GUARD : Field := .one 0x088 0 12 .rw 8 .x .ordinary
def DISP_LB_CFG_GANG : Field := .one 0x08C 24 1 .rw 1 .x .ordinary
def DISP_LB_CFG_LB_HIGH : Field := .one 0x08C 16 8 .rw 240 .x .ordinary
def DISP_LB_CFG_LB_LOW : Field := .one 0x08C 8 8 .rw 64 .x .ordinary
def DISP_PATH_A_PT_HANDLE : Field := .one 0x090 16 16 .rw 0 .x .ordinary
def DISP_PATH_A_RC_HANDLE : Field := .one 0x090 0 16 .rw 0 .x .ordinary
def DISP_PATH_B_CPL_HANDLE : Field := .one 0x094 0 16 .rw 0 .x .ordinary
def DISP_HTIME_HTOTAL : Field := .one 0x0A0 16 16 .sh 0 .x .ordinary
def DISP_HTIME_HACTIVE : Field := .one 0x0A0 0 16 .sh 0 .x .ordinary
def DISP_HSYNC_HSTART : Field := .one 0x0A4 16 16 .sh 0 .x .ordinary
def DISP_HSYNC_HSP : Field := .one 0x0A4 15 1 .sh 0 .x .ordinary
def DISP_HSYNC_HSW : Field := .one 0x0A4 0 15 .sh 0 .x .ordinary
def DISP_VTIME_VTOTAL : Field := .one 0x0A8 16 16 .sh 0 .x .ordinary
def DISP_VTIME_VACTIVE : Field := .one 0x0A8 0 16 .sh 0 .x .ordinary
def DISP_VSYNC_VSTART : Field := .one 0x0AC 16 16 .sh 0 .x .ordinary
def DISP_VSYNC_VSP : Field := .one 0x0AC 15 1 .sh 0 .x .ordinary
def DISP_VSYNC_VSW : Field := .one 0x0AC 0 15 .sh 0 .x .ordinary
def DISP_VRR_VTOTAL_MAX : Field := .one 0x0B0 0 16 .sh 0 .x .ordinary
def DISP_PCLK_PCLK_KHZ : Field := .one 0x0B4 0 22 .sh 0 .x .ordinary
def DISP_BG_COLOUR : Field := .one 0x0B8 0 30 .sh 0 .b .ordinary
def DISP_FMT_BPC : Field := .one 0x0BC 0 2 .sh 1 .x .ordinary
def DISP_STATUS_STATE : Field := .one 0x0C0 28 4 .ro 0 .b .block
def DISP_STATUS_STATIC : Field := .one 0x0C0 27 1 .ro 0 .b .block
def DISP_STATUS_CAP_VALID : Field := .one 0x0C0 26 1 .ro 0 .b .block
def DISP_STATUS_CAP_BUF : Field := .one 0x0C0 25 1 .ro 0 .b .block
def DISP_STATUS_HOLD_PEND : Field := .one 0x0C0 24 1 .ro 0 .b .block
def DISP_STATUS_LOW_RATE : Field := .one 0x0C0 23 1 .ro 0 .b .block
def DISP_STATUS_STREAM : Field := .one 0x0C0 22 1 .ro 0 .b .block
def DISP_STATUS_DSC : Field := .one 0x0C0 21 1 .ro 0 .b .block
def DISP_STATUS_MST : Field := .one 0x0C0 20 1 .ro 0 .b .block
def DISP_STATUS_HOLD_CAUSE : Field := .one 0x0C0 16 4 .ro 0 .b .block
def DISP_FRAME : Field := .one 0x0C4 0 32 .ro 0 .b .block
def DISP_HEAD_CRC_CRC : Field := .one 0x0C8 0 32 .ro 0 .b .block
def DISP_IN_CRC_CRC : Field := .one 0x0CC 0 32 .ro 0 .b .block
def DISP_LT_TOL : Field := .one 0x0D0 0 20 .ro 0xfffff .b .block
def DISP_LT_MIN_TOL : Field := .one 0x0D4 0 20 .ro 0xfffff .b .block
def DISP_STREAM_HACTIVE : Field := .one 0x0D8 16 16 .ro 0 .b .ordinary
def DISP_STREAM_VACTIVE : Field := .one 0x0D8 0 16 .ro 0 .b .ordinary
def DISP_CHECK_FAIL : Field := .one 0x0DC 31 1 .ro 0 .b .ordinary
def DISP_CHECK_CAUSE : Field := .one 0x0DC 28 3 .ro 0 .b .ordinary
def DISP_CHECK_SURF : Field := .one 0x0DC 0 3 .ro 0 .b .ordinary
def DISP_CAP_LO_ADDR_LO : Field := .arr 0x0E0 12 20 .rw 0 .x .ordinary 2 64
def DISP_CAP_HI_ADDR_HI : Field := .arr 0x0E4 0 3 .rw 0 .x .ordinary 2 64
def DISP_CAP_SIZE_SIZE : Field := .one 0x0F0 0 16 .rw 0 .x .ordinary
def DISP_CNT_UNDERRUN : Field := .one 0x100 0 32 .ro 0 .b .ordinary
def DISP_CNT_SUBST : Field := .one 0x104 0 32 .ro 0 .b .ordinary
def DISP_CNT_HOLD : Field := .one 0x108 0 32 .ro 0 .b .ordinary
def DISP_CNT_RESUME : Field := .one 0x10C 0 32 .ro 0 .b .ordinary
def DISP_CNT_CAP_BAD : Field := .one 0x110 0 32 .ro 0 .b .ordinary
def DISP_CNT_CMD : Field := .one 0x114 0 32 .ro 0 .b .ordinary
def DISP_CNT_CMD_ERR : Field := .one 0x118 0 32 .ro 0 .b .ordinary
def SURF_BASE_LO_ADDR_LO : Field := .arr 0x200 12 20 .sh 0 .x .ordinary 8 256
def SURF_BASE_HI_ADDR_HI : Field := .arr 0x204 0 3 .sh 0 .x .ordinary 8 256
def SURF_GEOM_W : Field := .arr 0x208 16 16 .sh 0 .b .ordinary 8 256
def SURF_GEOM_H : Field := .arr 0x208 0 16 .sh 0 .b .ordinary 8 256
def SURF_POS_X : Field := .arr 0x20C 16 16 .sh 0 .b .ordinary 8 256
def SURF_POS_Y : Field := .arr 0x20C 0 16 .sh 0 .b .ordinary 8 256
def SURF_CFG_EN : Field := .arr 0x210 31 1 .sh 0 .b .ordinary 8 256
def SURF_CFG_DBUF : Field := .arr 0x210 30 1 .sh 1 .b .ordinary 8 256
def SURF_CFG_FMT : Field := .arr 0x210 28 2 .sh 0 .b .ordinary 8 256
def SURF_CFG_STRIDE : Field := .arr 0x210 0 16 .sh 0 .x .ordinary 8 256
def SURF_STATE_FRONT : Field := .arr 0x214 31 1 .ro 0 .b .block 8 256
def SURF_STATE_COPYING : Field := .arr 0x214 30 1 .ro 0 .b .block 8 256
def SURF_STATE_COMMIT_PEND : Field := .arr 0x214 29 1 .ro 0 .b .block 8 256
def SURF_STATE_NDAMAGE : Field := .arr 0x214 0 5 .ro 0 .b .block 8 256

/-! ### The DOUT pages (R300 of spec/12_display_outputs_and_checks.md) -/

def DOUT_CTRL_RESTART : Field := .one 0x080 2 1 .w1s 0 .b .ordinary
def DOUT_CTRL_RETRAIN : Field := .one 0x080 1 1 .w1s 0 .b .ordinary
def DOUT_CTRL_CNT_CLR : Field := .one 0x080 0 1 .w1s 0 .b .ordinary
def DOUT_LINK_CFG_MAX_RATE : Field := .one 0x084 4 3 .rw 4 .x .ordinary
def DOUT_LINK_CFG_MAX_LANES : Field := .one 0x084 0 4 .rw 4 .x .ordinary
def DOUT_LINK_STS_TRAINED : Field := .one 0x088 31 1 .ro 0 .b .block
def DOUT_LINK_STS_HPD : Field := .one 0x088 30 1 .ro 0 .b .block
def DOUT_LINK_STS_IDLE_PAT : Field := .one 0x088 29 1 .ro 0 .b .block
def DOUT_LINK_STS_RATE : Field := .one 0x088 24 3 .ro 0 .b .block
def DOUT_LINK_STS_LANES : Field := .one 0x088 20 4 .ro 0 .b .block
def DOUT_LINK_STS_LTTPR : Field := .one 0x088 16 4 .ro 0 .b .block
def DOUT_AUX_CFG_DEB_PLUG : Field := .one 0x08C 4 4 .rw 2 .x .ordinary
def DOUT_AUX_CFG_RETRY : Field := .one 0x08C 0 4 .rw 3 .x .ordinary
def DOUT_PAIR_LOCK : Field := .one 0x090 0 1 .sh 0 .b .ordinary
def DOUT_PAIR_STS_LOCKED : Field := .one 0x094 31 1 .ro 0 .b .block
def DOUT_PAIR_STS_MASTER : Field := .one 0x094 30 1 .ro 0 .b .block
def DOUT_PAIR_STS_DEGRADED : Field := .one 0x094 29 1 .ro 0 .b .block
def DOUT_PAIR_STS_SKEW : Field := .one 0x094 0 16 .ro 0 .b .block
def DOUT_CHK_CFG_CRC_EN : Field := .one 0x098 31 1 .sh 0 .b .ordinary
def DOUT_CHK_CFG_MIS_N : Field := .one 0x098 0 8 .sh 2 .b .ordinary
def DOUT_CHK_STS_CMP : Field := .one 0x09C 31 1 .ro 0 .b .block
def DOUT_CHK_STS_MATCH : Field := .one 0x09C 30 1 .ro 0 .b .block
def DOUT_CHK_STS_RUN : Field := .one 0x09C 0 16 .ro 0 .b .block
def DOUT_PIN_CRC_CRC : Field := .one 0x0A0 0 32 .ro 0 .b .block
def DOUT_PIN_FRAME_FRAME : Field := .one 0x0A4 0 32 .ro 0 .b .block
def DOUT_REG_CFG_ON_COMMIT : Field := .one 0x0A8 8 1 .sh 0 .b .ordinary
def DOUT_REG_CFG_EN : Field := .one 0x0A8 0 8 .sh 0 .b .ordinary
def DOUT_REG_STS_NA : Field := .one 0x0AC 16 8 .ro 0 .b .block
def DOUT_REG_STS_MISMATCH : Field := .one 0x0AC 8 8 .ro 0 .b .block
def DOUT_REG_STS_MATCH : Field := .one 0x0AC 0 8 .ro 0 .b .block
def DOUT_CNT_TRAIN : Field := .one 0x0B0 0 32 .ro 0 .b .ordinary
def DOUT_CNT_CRC_MIS : Field := .one 0x0B4 0 32 .ro 0 .b .ordinary
def DOUT_CNT_REG_MIS : Field := .one 0x0B8 0 32 .ro 0 .b .ordinary
def DOUT_CNT_AUX_TO : Field := .one 0x0BC 0 32 .ro 0 .b .ordinary
def DOUT_CNT_HPD : Field := .one 0x0C0 0 32 .ro 0 .b .ordinary
def REG_POS_X : Field := .arr 0x100 16 16 .sh 0 .b .ordinary 8 128
def REG_POS_Y : Field := .arr 0x100 0 16 .sh 0 .b .ordinary 8 128
def REG_SIZE_W : Field := .arr 0x104 16 16 .sh 0 .b .ordinary 8 128
def REG_SIZE_H : Field := .arr 0x104 0 16 .sh 0 .b .ordinary 8 128
def REG_EXPECT_CRC : Field := .arr 0x108 0 32 .sh 0 .b .ordinary 8 128
def REG_CRC_CRC : Field := .arr 0x10C 0 32 .ro 0 .b .block 8 128

/-! ### The UHUB page (R319 of spec/13_usb_hub.md) -/

def UH_CFG_H0_EN : Field := .one 0x080 31 1 .rw 0 .x .ordinary
def UH_CFG_H1_EN : Field := .one 0x080 30 1 .rw 0 .x .ordinary
def UH_CFG_EMB_EN : Field := .one 0x080 29 1 .rw 1 .b .ordinary
def UH_CFG_EMB_DOM : Field := .one 0x080 28 1 .rw 0 .x .ordinary
def UH_CFG_UP2_0 : Field := .one 0x080 24 4 .rw 15 .x .ordinary
def UH_CFG_UP2_1 : Field := .one 0x080 20 4 .rw 15 .x .ordinary
def UH_CFG_SRC3_0 : Field := .one 0x080 18 2 .rw 0 .x .ordinary
def UH_CFG_SRC3_1 : Field := .one 0x080 16 2 .rw 0 .x .ordinary
def UH_STATUS_SS_0 : Field := .one 0x084 28 4 .ro 0 .b .block
def UH_STATUS_SS_1 : Field := .one 0x084 24 4 .ro 0 .b .block
def UH_STATUS_HS_0 : Field := .one 0x084 20 4 .ro 0 .b .block
def UH_STATUS_HS_1 : Field := .one 0x084 16 4 .ro 0 .b .block
def UH_STATUS_EMB : Field := .one 0x084 12 4 .ro 0 .b .block
def UH_PORT_PRESENT : Field := .arr 0x088 31 1 .rw 0 .x .ordinary 6 32
def UH_PORT_DOM : Field := .arr 0x088 30 1 .rw 0 .x .ordinary 6 32
def UH_PORT_HS_PIN : Field := .arr 0x088 29 1 .rw 0 .x .ordinary 6 32
def UH_PORT_TDOM : Field := .arr 0x088 28 1 .rw 0 .x .ordinary 6 32
def UH_PORT_SS_STATE : Field := .arr 0x088 20 4 .ro 0 .b .block 6 32
def UH_PORT_HS_STATE : Field := .arr 0x088 16 4 .ro 0 .b .block 6 32
def UH_PORT_PWR : Field := .arr 0x088 2 1 .ro 0 .b .block 6 32
def UH_PORT_OC : Field := .arr 0x088 1 1 .ro 0 .b .block 6 32
def UH_PORT_CFG_OC_FILT : Field := .one 0x0A0 8 8 .rw 5 .x .ordinary
def UH_PORT_CFG_PWR_GOOD : Field := .one 0x0A0 0 8 .rw 50 .x .ordinary
def UH_AUD_CFG_RATE : Field := .one 0x0A4 29 3 .sh 1 .b .ordinary
def UH_AUD_CFG_MCLK_X2 : Field := .one 0x0A4 28 1 .sh 0 .b .ordinary
def UH_AUD_CFG_OUT_CH : Field := .one 0x0A4 24 4 .sh 8 .b .ordinary
def UH_AUD_CFG_IN_CH : Field := .one 0x0A4 20 4 .sh 4 .b .ordinary
def UH_AUD_CFG_FB_P : Field := .one 0x0A4 16 4 .sh 10 .x .ordinary
def UH_AUD_CFG_MUTE_OUT : Field := .one 0x0A4 0 1 .sh 0 .b .ordinary
def UH_AUD_STATUS_MCLK_OK : Field := .one 0x0A8 31 1 .ro 0 .b .block
def UH_AUD_STATUS_OUT_ALT : Field := .one 0x0A8 30 1 .ro 0 .b .block
def UH_AUD_STATUS_IN_ALT : Field := .one 0x0A8 29 1 .ro 0 .b .block
def UH_AUD_STATUS_OUT_FILL : Field := .one 0x0A8 0 15 .ro 0 .b .block
def UH_FB_FB : Field := .one 0x0AC 0 32 .ro 0 .b .block
def UH_WAKE_WAKE_REQ : Field := .one 0x0B0 31 1 .w1s 0 .b .ordinary
def UH_WAKE_PEND : Field := .one 0x0B0 30 1 .ro 0 .b .ordinary
def UH_WAKE_RWE : Field := .one 0x0B0 29 1 .ro 0 .b .ordinary
def UH_CNT_ISO_DROP : Field := .one 0x0B4 0 32 .ro 0 .b .ordinary
def UH_CNT_AUD_UNDER : Field := .one 0x0B8 0 32 .ro 0 .b .ordinary
def UH_CNT_AUD_OVER : Field := .one 0x0BC 0 32 .ro 0 .b .ordinary
def UH_CNT_WAKE_MERGED : Field := .one 0x0C0 0 32 .ro 0 .b .ordinary
def MGMT_CTL_ABORT : Field := .one 0x0C4 0 32 .ro 0 .b .ordinary
def UH_CNT_OC : Field := .one 0x0C8 0 32 .ro 0 .b .ordinary
def UH_CNT_CLR_CLR : Field := .one 0x0CC 0 1 .w1s 0 .b .ordinary
def UH_TUN_TX_HANDLE : Field := .arr 0x0D0 16 16 .rw 0 .x .ordinary 2 32
def UH_TUN_RX_HANDLE : Field := .arr 0x0D0 0 16 .rw 0 .x .ordinary 2 32
def UH_EP_EN : Field := .arr 0x100 31 1 .ro 0 .b .ordinary 16 32
def UH_EP_DIR : Field := .arr 0x100 30 1 .ro 0 .b .ordinary 16 32
def UH_EP_TYPE : Field := .arr 0x100 28 2 .ro 0 .b .ordinary 16 32
def UH_EP_EPNUM : Field := .arr 0x100 24 4 .ro 0 .b .ordinary 16 32
def UH_EP_MAXPKT : Field := .arr 0x100 13 11 .ro 0 .b .ordinary 16 32
def UH_EP_BUF_KIB : Field := .arr 0x100 8 5 .ro 0 .b .ordinary 16 32
def UH_EP_FILL_FILL : Field := .arr 0x140 0 15 .ro 0 .b .block 16 32

/-! ### The ETH pages (R339 of spec/14_ethernet_and_memory.md) -/

def ETH_CFG_Q_BIND : Field := .one 0x080 30 2 .rw 0 .x .ordinary
def ETH_CFG_MAC_BIND : Field := .one 0x080 28 2 .rw 0 .x .ordinary
def ETH_CFG_MODE : Field := .one 0x080 24 4 .rw 0 .x .ordinary
def ETH_CFG_FEC : Field := .one 0x080 22 2 .rw 2 .x .ordinary
def ETH_CFG_PAUSE_EN : Field := .one 0x080 21 1 .rw 0 .b .ordinary
def ETH_CFG_DOM : Field := .one 0x080 20 1 .rw 0 .x .ordinary
def ETH_CFG_TS_ALL : Field := .one 0x080 19 1 .rw 0 .b .ordinary
def ETH_CFG_VLAN_STRIP : Field := .one 0x080 18 1 .rw 0 .b .ordinary
def ETH_CFG_SPILL_EN : Field := .one 0x080 17 1 .rw 0 .x .ordinary
def ETH_CFG_MTU : Field := .one 0x080 0 14 .rw 1518 .b .ordinary
def ETH_STATUS_LINK : Field := .one 0x084 31 1 .ro 0 .b .ordinary
def ETH_STATUS_SPEED : Field := .one 0x084 27 4 .ro 0 .b .ordinary
def ETH_STATUS_RX_PAUSED : Field := .one 0x084 26 1 .ro 0 .b .ordinary
def ETH_STATUS_TX_XOFF : Field := .one 0x084 25 1 .ro 0 .b .ordinary
def ETH_STATUS_LAST_Q : Field := .one 0x084 0 5 .ro 0 .b .ordinary
def ETH_TUN_TX_HANDLE : Field := .arr 0x088 16 16 .rw 0 .x .ordinary 2 32
def ETH_TUN_RX_HANDLE : Field := .arr 0x088 0 16 .rw 0 .x .ordinary 2 32
def ETH_QSET_GQ_MASK : Field := .one 0x090 0 32 .rw 0 .b .ordinary
def ETH_RSS_RSS_EN : Field := .one 0x094 31 1 .rw 0 .b .ordinary
def ETH_RSS_PCP_G : Field := .one 0x094 0 8 .rw 0 .b .ordinary
def ETH_IRQ_MOD : Field := .one 0x098 0 16 .rw 0 .b .ordinary
def ETH_BUF_XOFF : Field := .one 0x09C 24 8 .rw 144 .x .ordinary
def ETH_BUF_XON : Field := .one 0x09C 16 8 .rw 96 .x .ordinary
def ETH_BUF_RXQ_CAP : Field := .one 0x09C 8 8 .rw 40 .x .ordinary
def ETH_RSS_KEY_KEY : Field := .arr 0x0A0 0 32 .rw 0 .b .ordinary 10 32
def ETH_SPILL_LO_ADDR_LO : Field := .one 0x0C8 16 16 .rw 0 .x .ordinary
def ETH_SPILL_HI_ADDR_HI : Field := .one 0x0CC 16 3 .rw 0 .x .ordinary
def ETH_SPILL_HI_SIZE : Field := .one 0x0CC 0 16 .rw 0 .x .ordinary
def ETH_CNT_RX_FRM : Field := .one 0x0D0 0 32 .ro 0 .b .ordinary
def ETH_CNT_TX_FRM : Field := .one 0x0D4 0 32 .ro 0 .b .ordinary
def ETH_CNT_RX_DROP : Field := .one 0x0D8 0 32 .ro 0 .b .ordinary
def ETH_CNT_RX_FCS : Field := .one 0x0DC 0 32 .ro 0 .b .ordinary
def ETH_CNT_SPILL : Field := .one 0x0E0 0 32 .ro 0 .b .ordinary
def ETH_CNT_PAUSE_RX : Field := .one 0x0E4 16 16 .ro 0 .b .ordinary
def ETH_CNT_PAUSE_TX : Field := .one 0x0E4 0 16 .ro 0 .b .ordinary
def ETH_CNT_PATH_DROP : Field := .one 0x0E8 0 32 .ro 0 .b .ordinary
def ETH_CNT_CLR_CLR : Field := .one 0x0EC 0 1 .w1s 0 .b .ordinary
def ETH_RSS_IND_Q3 : Field := .arr 0x100 24 5 .rw 0 .b .ordinary 32 32
def ETH_RSS_IND_Q2 : Field := .arr 0x100 16 5 .rw 0 .b .ordinary 32 32
def ETH_RSS_IND_Q1 : Field := .arr 0x100 8 5 .rw 0 .b .ordinary 32 32
def ETH_RSS_IND_Q0 : Field := .arr 0x100 0 5 .rw 0 .b .ordinary 32 32
def ETH_Q_TX_BASE_LO_ADDR_LO : Field := .arr 0x400 6 26 .rw 0 .b .block 32 256
def ETH_Q_TX_BASE_HI_ADDR_HI : Field := .arr 0x404 0 32 .rw 0 .b .block 32 256
def ETH_Q_TX_RING_EN : Field := .arr 0x408 31 1 .rw 0 .b .block 32 256
def ETH_Q_TX_RING_SIZE : Field := .arr 0x408 0 16 .rw 0 .b .block 32 256
def ETH_Q_TX_PTR_TAIL : Field := .arr 0x40C 16 16 .rw 0 .b .block 32 256
def ETH_Q_TX_PTR_HEAD : Field := .arr 0x40C 0 16 .ro 0 .b .block 32 256
def ETH_Q_RX_BASE_LO_ADDR_LO : Field := .arr 0x410 6 26 .rw 0 .b .block 32 256
def ETH_Q_RX_BASE_HI_ADDR_HI : Field := .arr 0x414 0 32 .rw 0 .b .block 32 256
def ETH_Q_RX_RING_EN : Field := .arr 0x418 31 1 .rw 0 .b .block 32 256
def ETH_Q_RX_RING_SIZE : Field := .arr 0x418 0 16 .rw 0 .b .block 32 256
def ETH_Q_RX_PTR_TAIL : Field := .arr 0x41C 16 16 .rw 0 .b .block 32 256
def ETH_Q_RX_PTR_HEAD : Field := .arr 0x41C 0 16 .ro 0 .b .block 32 256

/-! ### The MEM page (R341 of spec/14_ethernet_and_memory.md) -/

def MEM_CFG_CAP : Field := .one 0x080 30 2 .rw 0 .x .ordinary
def MEM_CFG_INLINE_ECC : Field := .one 0x080 29 1 .rw 0 .b .ordinary
def MEM_CFG_SCRUB_EN : Field := .one 0x080 28 1 .rw 0 .b .ordinary
def MEM_CFG_SCRUB_S : Field := .one 0x080 0 16 .rw 3600 .x .ordinary
def MEM_STATUS_STATE : Field := .one 0x084 28 4 .ro 0 .b .block
def MEM_STATUS_RESTORED : Field := .one 0x084 27 1 .ro 0 .b .block
def MEM_STATUS_FAIL_CH : Field := .one 0x084 0 8 .ro 0 .b .block
def MEM_CAP_USABLE : Field := .one 0x088 0 16 .ro 0 .b .ordinary
def MEM_SR_CFG_SR_EN : Field := .one 0x08C 31 1 .rw 1 .b .ordinary
def MEM_SR_CFG_PD_EN : Field := .one 0x08C 30 1 .rw 1 .b .ordinary
def MEM_SR_CFG_SR_EXIT : Field := .one 0x08C 12 12 .rw 3000 .x .ordinary
def MEM_SR_CFG_SR_ENTER : Field := .one 0x08C 0 12 .rw 500 .x .ordinary
def MEM_ARB_URG : Field := .one 0x090 8 12 .rw 16 .x .ordinary
def MEM_ARB_MGMT_AGE : Field := .one 0x090 0 8 .rw 10 .x .ordinary
def MEM_RES_SR_US : Field := .one 0x094 16 16 .ro 0 .b .ordinary
def MEM_RES_PD_US : Field := .one 0x094 0 16 .ro 0 .b .ordinary
def MEM_CLIENT_WEIGHT : Field := .arr 0x0A0 24 8 .rw 16 .x .ordinary 8 32
def MEM_CLIENT_TOL : Field := .arr 0x0A0 0 20 .ro 0xfffff .b .ordinary 8 32
def MEM_BW_UNITS : Field := .arr 0x0C0 0 32 .ro 0 .b .ordinary 8 32
def MEM_CNT_CE : Field := .one 0x0E0 0 32 .ro 0 .b .ordinary
def MEM_CNT_UE : Field := .one 0x0E4 0 32 .ro 0 .b .ordinary
def MEM_CNT_LINK : Field := .one 0x0E8 0 32 .ro 0 .b .ordinary
def MEM_LAST_UE_LO_ADDR_LO : Field := .one 0x0EC 6 26 .ro 0 .b .ordinary
def MEM_LAST_UE_LO_CLIENT : Field := .one 0x0EC 0 3 .ro 0 .b .ordinary
def MEM_LAST_UE_HI_ADDR_HI : Field := .one 0x0F0 0 3 .ro 0 .b .ordinary
def MEM_CNT_CLR_CLR : Field := .one 0x0F4 0 1 .w1s 0 .b .ordinary

/-! ### The PD pages (R363 of spec/15_power_delivery.md) -/

def PD_CTRL_HARD_RESET : Field := .one 0x080 31 1 .w1s 0 .b .ordinary
def PD_CTRL_SOFT_RESET : Field := .one 0x080 30 1 .w1s 0 .b .ordinary
def PD_CTRL_ERR_RECOVERY : Field := .one 0x080 29 1 .w1s 0 .b .ordinary
def PD_CTRL_SWAP_PR : Field := .one 0x080 28 1 .w1s 0 .b .ordinary
def PD_CTRL_SWAP_DR : Field := .one 0x080 27 1 .w1s 0 .b .ordinary
def PD_CTRL_SWAP_VCONN : Field := .one 0x080 26 1 .w1s 0 .b .ordinary
def PD_CTRL_EPR_ENTER : Field := .one 0x080 25 1 .w1s 0 .b .ordinary
def PD_CTRL_EPR_EXIT : Field := .one 0x080 24 1 .w1s 0 .b .ordinary
def PD_POLICY_ROLE : Field := .one 0x084 29 3 .rw 0 .x .ordinary
def PD_POLICY_RP : Field := .one 0x084 27 2 .rw 2 .x .ordinary
def PD_POLICY_ACC_PR : Field := .one 0x084 26 1 .rw 1 .b .ordinary
def PD_POLICY_ACC_DR : Field := .one 0x084 25 1 .rw 1 .b .ordinary
def PD_POLICY_ACC_VCONN : Field := .one 0x084 24 1 .rw 1 .b .ordinary
def PD_POLICY_FRS_EN : Field := .one 0x084 22 1 .rw 0 .x .ordinary
def PD_POLICY_EPR_EN : Field := .one 0x084 21 1 .rw 0 .x .ordinary
def PD_POLICY_PPS_EN : Field := .one 0x084 20 1 .rw 1 .x .ordinary
def PD_POLICY_AVS_EN : Field := .one 0x084 19 1 .rw 1 .x .ordinary
def PD_POLICY_VCONN_EN : Field := .one 0x084 18 1 .rw 1 .x .ordinary
def PD_POLICY_DBAT_MIN_W : Field := .one 0x084 8 8 .rw 15 .x .ordinary
def PD_STATUS_STATE : Field := .one 0x088 28 4 .ro 0 .b .block
def PD_STATUS_ORIENT : Field := .one 0x088 27 1 .ro 0 .b .block
def PD_STATUS_PR : Field := .one 0x088 26 1 .ro 0 .b .block
def PD_STATUS_DR : Field := .one 0x088 25 1 .ro 0 .b .block
def PD_STATUS_VCONN : Field := .one 0x088 24 1 .ro 0 .b .block
def PD_STATUS_CONTRACT : Field := .one 0x088 23 1 .ro 0 .b .block
def PD_STATUS_EPR : Field := .one 0x088 22 1 .ro 0 .b .block
def PD_STATUS_KIND : Field := .one 0x088 19 3 .ro 0 .b .block
def PD_STATUS_SINKTX : Field := .one 0x088 17 2 .ro 0 .b .block
def PD_STATUS_FRS_ARMED : Field := .one 0x088 16 1 .ro 0 .b .block
def PD_STATUS_PHASE : Field := .one 0x088 12 4 .ro 0 .b .block
def PD_STATUS_PARTNER_RP : Field := .one 0x088 10 2 .ro 0 .b .block
def PD_ATTACH_VALID : Field := .one 0x08C 31 1 .ro 0 .b .block
def PD_ATTACH_ATT_PR : Field := .one 0x08C 30 1 .ro 0 .b .block
def PD_ATTACH_ATT_DR : Field := .one 0x08C 29 1 .ro 0 .b .block
def PD_ATTACH_ATT_VCONN : Field := .one 0x08C 28 1 .ro 0 .b .block
def PD_ATTACH_PD : Field := .one 0x08C 23 1 .ro 0 .b .block
def PD_ATTACH_DRP : Field := .one 0x08C 22 1 .ro 0 .b .block
def PD_ATTACH_KLOYR : Field := .one 0x08C 21 1 .ro 0 .b .block
def PD_ATTACH_KH520 : Field := .one 0x08C 20 1 .ro 0 .b .block
def PD_ATTACH_USB4 : Field := .one 0x08C 19 1 .ro 0 .b .block
def PD_ATTACH_EMARKED : Field := .one 0x08C 18 1 .ro 0 .b .block
def PD_ATTACH_EPR_CABLE : Field := .one 0x08C 17 1 .ro 0 .b .block
def PD_ATTACH_CABLE_5A : Field := .one 0x08C 16 1 .ro 0 .b .block
def PD_ATTACH_RATE32 : Field := .one 0x08C 15 1 .ro 0 .b .block
def PD_CONTRACT_VOLT : Field := .one 0x090 20 12 .ro 0 .b .block
def PD_CONTRACT_CURR : Field := .one 0x090 10 10 .ro 0 .b .block
def PD_CONTRACT_OBJ : Field := .one 0x090 6 4 .ro 0 .b .block
def PD_VBUS_VBUS_MV : Field := .one 0x094 16 16 .ro 0 .b .block
def PD_VBUS_IBUS_MA : Field := .one 0x094 0 16 .ro 0 .b .block
def PD_ENERGY_LIMIT_MJ : Field := .one 0x098 16 16 .ro 0 .b .ordinary
def PD_ENERGY_CBULK_UF : Field := .one 0x098 0 16 .ro 0 .b .ordinary
def PD_BUDGET_ALLOT_W : Field := .one 0x09C 24 8 .ro 0 .b .ordinary
def PD_BUDGET_GUAR_W : Field := .one 0x09C 16 8 .rw 15 .x .ordinary
def PD_BUDGET_USE_W : Field := .one 0x09C 8 8 .ro 0 .b .ordinary
def PD_BOARD_TOTAL_W : Field := .one 0x0A0 0 16 .rw 0 .x .ordinary
def PD_TMR_PPS_REQ : Field := .one 0x0A4 16 16 .rw 8000 .x .ordinary
def PD_TMR_EPR_KA : Field := .one 0x0A4 8 8 .rw 40 .x .ordinary
def PD_TMR_SINKTX : Field := .one 0x0A4 0 8 .rw 18 .x .ordinary
def PD_SNK_REQ_VOLT : Field := .one 0x0A8 20 12 .sh 250 .b .ordinary
def PD_SNK_REQ_CURR : Field := .one 0x0A8 10 10 .sh 300 .b .ordinary
def PD_SNK_REQ_PPS_OK : Field := .one 0x0A8 9 1 .sh 1 .b .ordinary
def PD_SNK_REQ_AVS_OK : Field := .one 0x0A8 8 1 .sh 1 .b .ordinary
def PD_CNT_HR_RX : Field := .one 0x0C0 16 16 .ro 0 .b .ordinary
def PD_CNT_HR_TX : Field := .one 0x0C0 0 16 .ro 0 .b .ordinary
def PD_CNT_SR_RX : Field := .one 0x0C4 16 16 .ro 0 .b .ordinary
def PD_CNT_SR_TX : Field := .one 0x0C4 0 16 .ro 0 .b .ordinary
def PD_CNT_MSG_FAIL : Field := .one 0x0C8 0 32 .ro 0 .b .ordinary
def PD_CNT_SWAP_PR : Field := .one 0x0CC 24 8 .ro 0 .b .ordinary
def PD_CNT_SWAP_DR : Field := .one 0x0CC 16 8 .ro 0 .b .ordinary
def PD_CNT_SWAP_VC : Field := .one 0x0CC 8 8 .ro 0 .b .ordinary
def PD_CNT_SWAP_FR : Field := .one 0x0CC 0 8 .ro 0 .b .ordinary
def PD_CNT_DETACH_TR : Field := .one 0x0D0 0 32 .ro 0 .b .ordinary
def PD_CNT_CLR_CLR : Field := .one 0x0D4 0 1 .w1s 0 .b .ordinary
def PD_LAST_HR_VALID : Field := .one 0x0D8 31 1 .ro 0 .b .block
def PD_LAST_HR_PHASE : Field := .one 0x0D8 27 4 .ro 0 .b .block
def PD_LAST_HR_SENT : Field := .one 0x0D8 26 1 .ro 0 .b .block
def PD_SRC_PDO_PDO : Field := .arr 0x100 0 32 .sh 0 .x .ordinary 11 32
def PD_SNK_PDO_PDO : Field := .arr 0x140 0 32 .sh 0 .x .ordinary 11 32
def PD_RX_STATUS_NONEMPTY : Field := .one 0x800 31 1 .ro 0 .b .block
def PD_RX_STATUS_WORDS : Field := .one 0x800 0 9 .ro 0 .b .block
def PD_RX_POP_DATA : Field := .one 0x804 0 32 .pop 0 .x .ordinary
def PD_TX_BUF_DATA : Field := .arr 0x900 0 32 .rw 0 .x .ordinary 8 32
def PD_TX_CTRL_SEND : Field := .one 0x920 31 1 .w1s 0 .x .ordinary
def PD_TX_CTRL_SOP : Field := .one 0x920 28 3 .rw 0 .x .ordinary
def PD_TX_CTRL_RESULT : Field := .one 0x920 26 2 .ro 0 .x .ordinary
def PD_TX_CTRL_WORDS : Field := .one 0x920 0 4 .rw 0 .x .ordinary

/-! ### The MBX control page (R446 of spec/20_firmware_and_host_interface.md) -/

def MB_FW_FW_READY : Field := .one 0x080 31 1 .ro 0 .b .block
def MB_FW_PHASE : Field := .one 0x080 28 3 .ro 0 .b .block
def MB_FW_COPY : Field := .one 0x080 27 1 .ro 0 .b .block
def MB_FW_TRIAL : Field := .one 0x080 26 1 .ro 0 .b .block
def MB_FW_VERSION : Field := .one 0x080 0 16 .ro 0 .b .block
def MB_SEQ_SEQ : Field := .one 0x084 0 32 .ro 0 .b .block
def MB_CFG_STS_DEFAULTED : Field := .one 0x088 0 16 .ro 0 .b .block
def MB_ENG_RUN : Field := .one 0x08C 0 24 .ro 0 .b .ordinary
def MB_CNT_RESTART : Field := .one 0x090 0 32 .ro 0 .b .ordinary
def MB_CNT_PROTO : Field := .one 0x094 0 32 .ro 0 .b .ordinary
def MB_CNT_CLR_CLR : Field := .one 0x098 0 1 .w1s 0 .b .ordinary

/-! ### The mailbox channel pages (R447 of spec/20_firmware_and_host_interface.md) -/

def MB_DOORBELL_GO : Field := .one 0x080 31 1 .w1s 0 .b .block
def MB_DOORBELL_ABORT : Field := .one 0x080 30 1 .w1s 0 .b .block
def MB_DOORBELL_CMD : Field := .one 0x080 16 8 .rw 0 .b .block
def MB_DOORBELL_LEN : Field := .one 0x080 8 8 .rw 0 .b .block
def MB_DOORBELL_TAG : Field := .one 0x080 0 8 .rw 0 .b .block
def MB_RESULT_DONE : Field := .one 0x084 31 1 .w1c 0 .b .block
def MB_RESULT_BUSY : Field := .one 0x084 30 1 .ro 0 .b .block
def MB_RESULT_TAKEN : Field := .one 0x084 29 1 .ro 0 .b .block
def MB_RESULT_STATUS : Field := .one 0x084 16 8 .ro 0 .b .block
def MB_RESULT_LEN : Field := .one 0x084 8 8 .ro 0 .b .block
def MB_RESULT_TAG : Field := .one 0x084 0 8 .ro 0 .b .block
def MB_EVT_STS_OVF : Field := .one 0x088 31 1 .w1c 0 .b .block
def MB_EVT_STS_COUNT : Field := .one 0x088 0 7 .ro 0 .b .block
def MB_REQ_DATA : Field := .arr 0x400 0 32 .rw 0 .b .block 256 32
def MB_RSP_DATA : Field := .arr 0x800 0 32 .ro 0 .b .block 256 32
def MB_EVT_DATA : Field := .one 0xC00 0 32 .pop 0 .b .block

end Sys2Proof.Reg
end

