-- ==== Sys2Proof/Machine/RegMap.lean ====
section
/-! DEFINITION. The pages of the register space: where each lies (R37 of spec/03_register_model.md), what its header fixes (R41), its error severities, its island (R16) and its list of fields. -/

namespace Sys2Proof

/-- Where the pages of a kind begin, how far apart they lie and how large each is (R37, R40, R253, R447). -/
def PageKind.place : PageKind → Nat × Nat × Nat
  | .glb => (0x00000000, 0x1000, 0x1000)
  | .aon => (0x00010000, 0x1000, 0x1000)
  | .safe => (0x00020000, 0x1000, 0x1000)
  | .sec => (0x00030000, 0x1000, 0x1000)
  | .bist => (0x00040000, 0x1000, 0x1000)
  | .lane => (0x00100000, 0x1000, 0x1000)
  | .pelane => (0x00106000, 0x1000, 0x1000)
  | .dplane => (0x00107000, 0x1000, 0x1000)
  | .ulane => (0x0010B000, 0x1000, 0x1000)
  | .elane => (0x00111000, 0x1000, 0x1000)
  | .link => (0x00200000, 0x2000, 0x1000)
  | .linkCnt => (0x00201000, 0x2000, 0x1000)
  | .path => (0x00300000, 32, 32)
  | .pathctl => (0x00340000, 0x1000, 0x1000)
  | .sw => (0x00400000, 0x1000, 0x1000)
  | .alm => (0x00500000, 0x2000, 0x1000)
  | .almSh => (0x00501000, 0x2000, 0x1000)
  | .shaper => (0x00580000, 16, 16)
  | .shpctl => (0x00590000, 0x1000, 0x1000)
  | .pcie => (0x00600000, 0x1000, 0x1000)
  | .pca => (0x00601000, 0x1000, 0x1000)
  | .bridge => (0x00609000, 0x1000, 0x1000)
  | .disp => (0x00700000, 0x20000, 0x1000)
  | .dout => (0x00710000, 0x20000, 0x1000)
  | .uhub => (0x00800000, 0x1000, 0x1000)
  | .eth => (0x00900000, 0x80000, 0x1000)
  | .mem => (0x00A00000, 0x1000, 0x1000)
  | .pd => (0x00B00000, 0x10000, 0x1000)
  | .mbx => (0x00C00000, 0x1000, 0x1000)
  | .mbch => (0x00C01000, 0x1000, 0x1000)

/-- How many pages (or table entries) of a kind there are (R37, R40). -/
def PageKind.count : PageKind → Nat
  | .lane | .ulane | .link | .linkCnt | .pd => 6
  | .dplane | .disp | .dout => 4
  | .elane | .eth => 2
  | .path => 8192
  | .alm | .almSh => 26
  | .shaper => 4096
  | .pca => 8
  | .mbch => 16
  | _ => 1

/-- The base address of a page, or of an entry of a table window. -/
def Page.base (p : Page) : Nat := p.kind.place.1 + p.inst * p.kind.place.2.1

/-- Every kind of page. -/
def PageKind.all : List PageKind :=
  [.glb, .aon, .safe, .sec, .bist, .lane, .pelane, .dplane, .ulane, .elane, .link, .linkCnt, .path, .pathctl, .sw,
   .alm, .almSh, .shaper, .shpctl, .pcie, .pca, .bridge, .disp, .dout, .uhub, .eth, .mem, .pd, .mbx, .mbch]

/-- The page, or table entry, that holds byte address `a`; `none` where nothing is assigned (R38). (log 29, DESIGN CHOICE) -/
def pageAt (a : Nat) : Option Page :=
  (PageKind.all.find? fun k =>
    let (b, st, sz) := k.place
    b ≤ a && (a - b) / st < k.count && (a - b) % st < sz).map fun k => ⟨k, (a - k.place.1) / k.place.2.1⟩

/-- What the header of a page of a kind fixes (R41 and the page's own chapter): PG_ID.BLOCK and PAGE, the instance
offset, PG_CAP.SEF, BASIC and EXPERT, PG_SHADOW_CTRL.BOUND (R47), NSRC, the default severities packed two bits a source,
whether Notify is the highest level that acts (R422), and the reset value of PG_CTRL.ENABLE. -/
structure PageInfo where
  block : Nat
  page : Nat
  instBase : Nat
  sef : Nat
  basic : Nat
  expert : Nat
  bound : Nat
  nsrc : Nat
  sevs : Nat
  notifyCap : Bool
  enable : Nat
  deriving DecidableEq, Repr

/-- The fixed part of each page kind's header (R41, R47, R422; the severities from the source table of its chapter). -/
def PageKind.info : PageKind → PageInfo
  | .glb => ⟨0x0001, 0, 0, 0xFFFF, 1, 0, 0, 3, 0x11, true, 1⟩  -- R17
  | .aon => ⟨0x0002, 0, 0, 0xFFFD, 1, 0, 0, 7, 0x1150, true, 1⟩  -- R400
  | .safe => ⟨0x0003, 0, 0, 0xFFFF, 1, 0, 0, 12, 0x445554, true, 1⟩  -- R377
  | .sec => ⟨0x0004, 0, 0, 0xFFDF, 1, 0, 0, 8, 0x5114, true, 1⟩  -- R420
  | .bist => ⟨0x0005, 0, 0, 0xFFFF, 1, 1, 0, 4, 0x41, false, 0⟩  -- R435
  | .lane => ⟨0x0010, 0, 0, 0xFFFF, 1, 1, 0, 6, 0x55, false, 0⟩  -- R81
  | .pelane => ⟨0x0011, 0, 0, 0xFFFF, 1, 1, 0, 6, 0x55, false, 0⟩  -- R82
  | .dplane => ⟨0x0012, 0, 0, 0xFFFF, 1, 1, 0, 6, 0x55, false, 0⟩  -- R82
  | .ulane => ⟨0x0013, 0, 0, 0xFFFF, 1, 1, 0, 6, 0x55, false, 0⟩  -- R82
  | .elane => ⟨0x0014, 0, 0, 0xFFFF, 1, 1, 0, 6, 0x55, false, 0⟩  -- R82
  | .link => ⟨0x0020, 0, 0, 0xFFFF, 1, 1, 1, 11, 0x41555, false, 0⟩  -- R112
  | .linkCnt => ⟨0x0020, 1, 0, 0xFFFF, 1, 1, 0, 0, 0x0, false, 0⟩  -- R113
  | .path => ⟨0x0000, 0, 0, 0xFFFF, 1, 1, 0, 0, 0x0, false, 0⟩  -- R134
  | .pathctl => ⟨0x0030, 0, 0, 0xFFFF, 1, 1, 1, 12, 0x550400, false, 0⟩  -- R164
  | .sw => ⟨0x0040, 0, 0, 0xFFFF, 1, 1, 1, 7, 0x124, false, 0⟩  -- R195
  | .alm => ⟨0x0050, 0, 0, 0xFFFF, 1, 1, 0, 4, 0x1, false, 0⟩  -- R210
  | .almSh => ⟨0x0050, 1, 0, 0xFFFF, 1, 1, 1, 1, 0x1, false, 0⟩  -- R210
  | .shaper => ⟨0x0000, 0, 0, 0xFFFF, 1, 1, 0, 0, 0x0, false, 0⟩  -- R208
  | .shpctl => ⟨0x0051, 0, 0, 0xFFFF, 1, 1, 1, 3, 0x10, false, 0⟩  -- R227
  | .pcie => ⟨0x0060, 0, 0, 0xFFFF, 1, 1, 0, 7, 0x111, false, 0⟩  -- R255
  | .pca => ⟨0x0060, 0, 1, 0xFFFF, 1, 1, 0, 6, 0x19, false, 0⟩  -- R257
  | .bridge => ⟨0x0060, 0, 9, 0xFFFF, 1, 1, 0, 3, 0x1, false, 0⟩  -- R259
  | .disp => ⟨0x0070, 0, 0, 0xFFFF, 1, 1, 2, 7, 0x455, false, 0⟩  -- R285
  | .dout => ⟨0x0071, 0, 0, 0xFFFF, 1, 1, 2, 9, 0x4155, false, 0⟩  -- R299
  | .uhub => ⟨0x0080, 0, 0, 0xFFFF, 1, 1, 3, 8, 0x5, false, 0⟩  -- R320
  | .eth => ⟨0x0090, 0, 0, 0xFFFF, 1, 1, 0, 5, 0x105, false, 0⟩  -- R340
  | .mem => ⟨0x00A0, 0, 0, 0xFFFF, 1, 1, 0, 5, 0x44, false, 0⟩  -- R342
  | .pd => ⟨0x00B0, 0, 0, 0xFEFF, 1, 1, 5, 10, 0x15405, false, 0⟩  -- R364
  | .mbx => ⟨0x00C0, 0, 0, 0xFFFF, 1, 0, 0, 6, 0x154, false, 1⟩  -- R448
  | .mbch => ⟨0x00C0, 0, 1, 0xEFFF, 1, 0, 0, 0, 0x0, false, 1⟩  -- R447

/-- The clock island a page lies in, as a bit number of R16; `none` for a page the model never treats as gated. (log 28, DEDUCED) -/
def Page.island (p : Page) : Option Nat :=
  let n := p.inst
  match p.kind with
  | .glb => none
  | .aon => none
  | .safe => some 1
  | .sec => some 2
  | .bist => none
  | .lane => some (6 + n)
  | .pelane => some 12
  | .dplane => some (13 + n)
  | .ulane => some 5
  | .elane => some 5
  | .link => some (6 + n)
  | .linkCnt => some (6 + n)
  | .path => some 3
  | .pathctl => some 3
  | .sw => some 3
  | .alm => some 3
  | .almSh => some 3
  | .shaper => some 3
  | .shpctl => some 3
  | .pcie => some 12
  | .pca => some 12
  | .bridge => some 12
  | .disp => some (13 + n)
  | .dout => some (13 + n)
  | .uhub => some 5
  | .eth => some 5
  | .mem => some 4
  | .pd => some 5
  | .mbx => some 2
  | .mbch => some 2

namespace Reg

/-- The header fields of R41 other than ENABLE and the severities, whose reset values differ by page. -/
def hdrFields : List Field :=
  [PG_ID_BLOCK, PG_ID_INSTANCE, PG_ID_PAGE, PG_VER_MAJOR, PG_VER_MINOR, PG_CAP_SEF, PG_CAP_BASIC,
   PG_CAP_EXPERT, PG_CAP_SH, PG_CAP_SXPG, PG_CAP_NSRC, PG_CTRL_SRST, PG_CTRL_EXPERT, PG_STATUS_BLK,
   PG_STATUS_DROP_WHY, PG_STATUS_DROP_SRC, PG_STATUS_DERIVING, PG_STATUS_IN_RESET, PG_STATUS_CONTAINED,
   PG_STATUS_READY, PG_INT_STATUS_BLK, PG_INT_STATUS_LEVEL_DONE, PG_INT_STATUS_WR_DROP,
   PG_INT_STATUS_ARM_LATE, PG_INT_STATUS_APPLIED, PG_INT_STATUS_ERR, PG_INT_ENABLE_EN,
   PG_INT_FORCE_FORCE, PG_ERR_STATUS_ESC, PG_ERR_STATUS_SRC, PG_ERR_GRACE_REMAIN, PG_ERR_GRACE_GRACE,
   PG_ERR_FIRST_VALID, PG_ERR_FIRST_MERGED, PG_ERR_FIRST_EFF_SEV, PG_ERR_FIRST_SOURCE,
   PG_ERR_FIRST_COUNT, PG_ERR_FIRST_EPOCH_LO, PG_SHADOW_CTRL_ARM, PG_SHADOW_CTRL_CANCEL,
   PG_SHADOW_CTRL_ARMED, PG_SHADOW_CTRL_APPLIED, PG_SHADOW_CTRL_LATE, PG_SHADOW_CTRL_BOUND,
   PG_SHADOW_CTRL_VIEW, PG_SHADOW_CTRL_TARGET, PG_VECTOR_MGMT, PG_VECTOR_HOST, PG_VECTOR_LINE,
   PG_VECTOR_MSIX, PG_LOCK_ALL_LOCK, PG_LOCK_EXT_LOCK]

def glbFields : List Field :=
  [GLB_CHIP_ID_PART_NUM, GLB_CHIP_ID_VARIANT, GLB_CHIP_ID_STEP_MAJOR, GLB_CHIP_ID_STEP_MINOR,
   GLB_STRAP_STRAP_ERR, GLB_STRAP_DBAT, GLB_STRAP_BOOT, GLB_STRAP_ROLE, GLB_ISL_PWR_PWR,
   GLB_ISL_CLK_CLK_OK, GLB_ISL_RST_IN_RESET, GLB_GATED_ADDR_WRITE, GLB_GATED_ADDR_ADDR, GLB_GATED_CNT,
   GLB_TIME_LO_TIME_LO, GLB_TIME_HI_TIME_HI, GLB_RST_CAUSE_VALID, GLB_RST_CAUSE_SRC, GLB_RST_CAUSE_LAST,
   GLB_RST_CNT_PIN, GLB_RST_CNT_BROWN, GLB_RST_CNT_CHIP, GLB_RST_CNT_MGMT, GLB_SRST_KEY, GLB_SRST_MGMT,
   GLB_SRST_CHIP]

def aonFields : List Field :=
  [AON_PS_CTRL_TARGET, AON_PS_CTRL_GO, AON_PS_STATUS_STATE, AON_PS_STATUS_REFUSE,
   AON_PS_STATUS_THERM_OFF, AON_WAKE_CAUSE_VALID, AON_WAKE_CAUSE_FROM, AON_WAKE_CAUSE_CAUSE,
   AON_WAKE_CAUSE_ABORTED, AON_WAKE_CAUSE_INDEX, AON_WAKE_CAUSE_VALUE, AON_WAKE_HIST_ENTRY,
   AON_WAKE_EN_EN, AON_YY_CFG_PERIOD, AON_YY_CFG_CC_CONFIRM, AON_YY_CFG_PORTS, AON_YY_TEMP_HI_C,
   AON_YY_TEMP_LO_C, AON_YY_VBUS_HI_MV, AON_YY_VBUS_LO_MV, AON_GPIO_WAKE_GPIO, AON_SUPPLY_CORE_USE,
   AON_SUPPLY_CORE_GPIO, AON_SUPPLY_IO_USE, AON_SUPPLY_IO_GPIO, AON_SUPPLY_SAFE_USE,
   AON_SUPPLY_SAFE_GPIO, AON_SUPPLY_BRD_USE, AON_SUPPLY_BRD_GPIO, AON_SUPPLY_STS_BRD,
   AON_SUPPLY_STS_IN_RANGE, AON_PAD_HELD, AON_PAD_RELEASE, AON_ALARM_MS, AON_BTN_FORCE_S,
   AON_BTN_DEB_MS, AON_WDT_EN, AON_WDT_TIMEOUT, AON_WDT_KICK_KEY, AON_DRAIN_DRAIN_US, AON_CNT_D1,
   AON_CNT_D2, AON_CNT_YOYO, AON_RAM_ADDR_ADDR, AON_RAM_DATA_DATA, AON_CNT_SAMPLE, AON_CNT_CLR_CLR]

def safeFields : List Field :=
  [SF_STATUS_PATCH_VER, SF_STATUS_PATCH_OK, SF_STATUS_THERM, SF_STATUS_TRIPPED, SF_THERM_TRIP_C,
   SF_THERM_WARN_C, SF_THERM_TJ_MAX, SF_WD_ADDR_SRC, SF_WD_ADDR_ADDR, SF_WD_CNT, SF_LAST_RST_CAUSE,
   SF_CNT_RST, SP_CFG_LIMIT_MJ, SP_CFG_CBULK_UF, SP_SENSE_VS_DIV, SP_SENSE_IS_GAIN, SP_WIN_WIN_HI_MV,
   SP_WIN_WIN_LO_MV, SP_LIM_OV_MV, SP_LIM_OC_MA, SP_OCCFG_OC_PCT, SP_OCCFG_OC_T, SP_OCCFG_IMAX_MA,
   SP_RC_RC_MA, SP_STATE_SRC_CLOSED, SP_STATE_SNK_CLOSED, SP_STATE_DISCH, SP_STATE_VCONN,
   SP_STATE_TRIPPED, SP_STATE_TRIP, SP_STATE_CLOSE_WAIT, SP_STATE_TRANS, SP_STATE_FRS,
   SP_TRIP_VAL_VBUS_MV, SP_TRIP_VAL_IBUS_MA, SP_CNT_TRIP]

def secFields : List Field :=
  [SEC_BOOT_RESULT, SEC_BOOT_COPY, SEC_BOOT_ENC, SEC_BOOT_KEY_IDX, SEC_BOOT_IMG_SVN, SEC_BOOT_OTP_SVN,
   SEC_BOOT_FAIL_A, SEC_BOOT_FAIL_B, SEC_BOOT_SEQ_SEQ, SEC_ID_ID_OK, SEC_ID_IMGKEY_OK, SEC_ID_PUF_OFF,
   SEC_ID_PUF_ERR, SEC_LOCKS_CTRL, SEC_OTP_CMD_GO, SEC_OTP_CMD_BUSY, SEC_OTP_CMD_RESULT,
   SEC_OTP_CMD_WORD, SEC_OTP_WDATA_DATA, SEC_MEAS_CMD_GO, SEC_MEAS_CMD_REFUSED, SEC_MEAS_CMD_BANK,
   SEC_SIGN_CMD_GO, SEC_SIGN_CMD_BUSY, SEC_SIGN_CMD_FAIL, SEC_KS_CMD_GO, SEC_KS_CMD_OP, SEC_KS_CMD_SLOT,
   SEC_KS_CMD_SALT, SEC_KS_STATUS_BUSY, SEC_KS_STATUS_RESULT, SEC_DBG_CTRL_CHALLENGE,
   SEC_DBG_CTRL_VERIFY, SEC_DBG_CTRL_LEVEL, SEC_DBG_CTRL_GRANTED, SEC_DBG_CTRL_BUSY,
   SEC_DBG_CTRL_RESULT, SEC_DBG_CTRL_FAILS, KS_STAGE_KEY, SEC_KDF_INFO_INFO, SEC_DIGEST_DIGEST,
   SEC_SIG_SIG, SEC_DBG_RESP_DATA, KS_SLOT_VALID, KS_SLOT_BUSY, KS_SLOT_ORIGIN, KS_SLOT_SALT,
   MEAS_VALUE, SEC_DBG_NONCE_NONCE, SEC_RNG_DATA, SEC_OTP_WIN_DATA]

def bistFields : List Field :=
  [BIST_CFG_SLICE_EN, BIST_CFG_EVERY, BIST_RUN_GO, BIST_RUN_SLICE, BIST_SLICE_STS_RUNNING,
   BIST_SLICE_STS_PHASE, BIST_SLICE_STS_RUN_BUSY, BIST_SLICE_STS_SLICE, BIST_SWEEP_CNT,
   BIST_SWEEP_TIME_US, BIST_SWEEP_COV_TESTED, BIST_SWEEP_COV_SKIPPED, BIST_SLICE_MAX_SLICE,
   BIST_SLICE_MAX_NS, BIST_FAIL_VALID, BIST_FAIL_REPAIRED, BIST_FAIL_GROUP, BIST_FAIL_SLICE,
   BIST_SPARE_USED, BIST_CNT_FAIL, BIST_CNT_DEFER, BIST_CNT_ABORT, BIST_CNT_SKIP, BIST_CNT_CLR_CLR,
   BIST_LB_STS_RAN, BIST_LB_STS_PASS, BIST_LB_STS_RETRIED, BIST_LB_STS_SKIP_DBAT, BIST_LB_STS_FAIL,
   BIST_LB_RES_COV, BIST_LB_RES_US]

def laneFields0 : List Field :=
  [LN_CTRL_MODE, LN_CTRL_ASYM_PREP, LN_CTRL_ADAPT_FREEZE, LN_CTRL_RETRAIN, LN_CTRL_CNT_CLR,
   LN_CTRL_RETRY_MAX, LN_CTRL_RETRY_WAIT, LN_STATUS_STATE, LN_STATUS_FAIL_STAGE, LN_STATUS_ASYM_READY,
   LN_STATUS_PAD_FAIL, LN_STATUS_RETRIES, LN_ORIENT_VALID, LN_ORIENT_CC_FLIP, LN_ORIENT_MISMATCH,
   LN_ORIENT_CC_VALID, LN_ORIENT_INV, LN_ORIENT_LMAP, LN_RTT_VALID, LN_RTT_LONG, LN_RTT_CABLE_NS,
   LN_RTT_RTT_NS, LN_TSYNC_CTRL_ROLE, LN_TSYNC_CTRL_STEP, LN_TSYNC_CTRL_SLEW_MAX, LN_TSYNC_CTRL_LOST_TH,
   LN_TSYNC_CTRL_ASYM_CORR, LN_TSYNC_STATUS_LOCKED, LN_TSYNC_STATUS_LOST, LN_TSYNC_STATUS_HOPS,
   LN_TSYNC_STATUS_FREQ_ADJ, LN_TSYNC_OFFSET_OFFSET, LN_LOS_CFG_LOS_TH, LN_LOS_CFG_LOS_HYST,
   LN_LOS_CFG_LOS_FILT, LN_EQ_SRC_CLASS, LN_EQ_SRC_SRC, PR_STATUS_DIR, PR_STATUS_LP, PR_STATUS_SIG,
   PR_STATUS_LOCK, PR_STATUS_LANE, PR_STATUS_INV, PR_STATUS_FAILED, PR_TXEQ_PRE2, PR_TXEQ_PRE1,
   PR_TXEQ_MAIN, PR_TXEQ_POST1, PR_RXEQ_CTLE, PR_RXEQ_VGA, PR_RXEQ_DFE1, PR_EYE_EYE_H, PR_EYE_EYE_W,
   PR_EYE_WORST, PR_MARGIN_CTRL_START, PR_MARGIN_CTRL_BUSY, PR_MARGIN_CTRL_EYE, PR_MARGIN_CTRL_AXIS,
   PR_MARGIN_CTRL_OFFSET, PR_MARGIN_CTRL_DWELL]

def laneFields1 : List Field :=
  [PR_MARGIN_RESULT_DONE, PR_MARGIN_RESULT_ABORTED, PR_MARGIN_RESULT_ERRORS, PR_ERR_CNT_SYM_ERR,
   PR_EVENT_CNT_LOS_CNT, PR_EVENT_CNT_LOL_CNT]

def laneFields : List Field :=
  laneFields0 ++ laneFields1

def linkFields : List Field :=
  [LK_CTRL_LP_IDLE, LK_CTRL_LP_MAX, LK_CTRL_REPLAY_MAX, LK_CTRL_REPLAY_TO, LK_STATUS_STATE,
   LK_STATUS_SET_ID, LK_STATUS_TX_PADS, LK_STATUS_RX_PADS, LK_STATUS_LEGACY, LK_STATUS_TURN_OK,
   LK_STATUS_JOINING, LK_SET_SET, LK_PAIR_PAD_EN, LK_SEQ_NEXT_TX, LK_SEQ_NEXT_RX, LK_REPLAY_USED,
   LK_REPLAY_UNACKED, LK_BUF_CTRL_POOL, LK_BUF_ISO_RGN, LK_BUF_GBE, LK_CREDIT_CR_TIMER,
   LK_CREDIT_CR_FREE, LK_CREDIT_REFRESH, LK_CPOOL_TX_LIMIT, LK_CPOOL_USED_TX_USED, LK_LAST_DROP_VALID,
   LK_LAST_DROP_CAUSE, LK_LAST_DROP_PADS, LK_LAST_DROP_ABSORB_NS, LK_PAIR_SCTRL_ARM,
   LK_PAIR_SCTRL_CANCEL, LK_PAIR_SCTRL_ARMED, LK_PAIR_SCTRL_APPLIED, LK_PAIR_SCTRL_LATE,
   LK_PAIR_SCTRL_VIEW, LK_PAIR_SCTRL_TARGET]

def linkCntFields : List Field :=
  [LK_CNT_TX_PKT, LK_CNT_RX_PKT, LK_CNT_REPLAY_PKT, LK_CNT_NAK_TX, LK_CNT_NAK_RX, LK_CNT_DUP_DISCARD,
   LK_CNT_GAP_DISCARD, LK_CNT_FEC_CORR, LK_CNT_FEC_UNCORR, LK_CNT_MALFORMED, LK_CNT_ISO_OVERRUN,
   LK_CNT_CREDIT_OVER, LK_CNT_TAG_FAIL, LK_CNT_PAIR_DROP, LK_CNT_PAIR_ADD, LK_CNT_TURN, LK_CNT_LP_ENTRY,
   LK_CNT_WAKE_MERGED, LK_CNT_CR_DEFER, LK_CNT_REPLAY_DISCARD, LK_CNT_SEQ_STALL, LK_CNT_BUF_STALL,
   LK_CNT_CLR_CLR]

def pathFields : List Field :=
  [PT_W0_STATE, PT_W0_DOM, PT_W0_IN_PORT, PT_W0_CLASS, PT_W0_SEAL_IN, PT_W0_SEAL_OUT, PT_W0_PROT,
   PT_W0_DOWN, PT_W0_IN_PATH_ID, PT_W1_OUT_PORT, PT_W1_MC_EN, PT_W1_MC_GROUP, PT_W1_OUT_PATH_ID,
   PT_W2_SHP_EN, PT_W2_SHAPER, PT_W2_QUANTUM, PT_W3_ALLOC, PT_W3_KEY_IN, PT_W3_KEY_OUT, PT_W4_PARTNER,
   PT_W4_PV, PT_W4_RSV_UNITS, PT_W5_GRANT, PT_W6_USED, PT_W7_LIMIT]

def pathctlFields : List Field :=
  [PC_DOM_BOUND, PC_DOM_HUB_ID, PC_TAG_DOM_TAG, PC_ROOT_ROOT_ID, PC_ROOT_UP_PORT, PC_BCAST_MASK_1,
   PC_BCAST_MASK_0, PC_CFG_CTRL_TO, PC_CFG_ADD_HOLD, PC_HOP_HOP_U4, PC_HOP_HOP_LEG, PC_HOP_HOP_FY,
   PC_USE_PENDING, PC_USE_ACTIVE, PC_LAST_REFUSE_VALID, PC_LAST_REFUSE_DOM, PC_LAST_REFUSE_CODE,
   PC_LAST_REFUSE_COP, PC_LAST_REFUSE_SRC_HUB, PC_LAST_DOWN_VALID, PC_LAST_DOWN_REASON,
   PC_LAST_DOWN_PORT, PC_LAST_DOWN_COUNT, PC_LAST_FAILOVER_VALID, PC_LAST_FAILOVER_ENTRY,
   PC_CNT_NO_PATH, PC_CNT_DOWN_DISCARD, PC_CNT_TTL, PC_CNT_CTRL_TO, PC_CNT_SEAL, PC_CNT_FAILOVER,
   PC_CNT_CLR_CLR, CFT_0_VALID, CFT_0_PORT, CFT_0_HUB_ID, CFT_1_VALID, CFT_1_PORT, CFT_1_HUB_ID]

def swFields : List Field :=
  [SW_CFG_EARLY_PAD, SW_CFG_FRAME_TO, SW_BUF_CFG_OUT_MIN, SW_BUF_STATUS_FREE_MIN,
   SW_BUF_STATUS_POOL_MIN, SW_CNT_CLR_CLR, SW_CNT_RESET_DISCARD, SW_CNT_UE, SW_MC_SEL_GROUP,
   SW_MC_SEL_WORD, SW_MC_STATUS_GROUPS, SW_CNT_MC_SKIP, SW_OUT_RESTART_RESTART, SW_OUT_CFG_OUT_CAP,
   SW_OUT_RES_RES_2, SW_OUT_RES_RES_1, SW_OUT_RES_RES_0, SW_OUT_OCC_AT_CAP, SW_OUT_OCC_HALTED,
   SW_OUT_OCC_OCC, SW_CNT_CELL, SW_CNT_PAD, SW_CNT_WAIT, SW_CNT_FRM, SW_CNT_TFRM, SW_CAP_CFG_EN,
   SW_CAP_CFG_MODE, SW_CAP_CFG_SPILL, SW_CAP_CFG_SPILL_LOG2, SW_CAP_DRAM_LO_ADDR_LO,
   SW_CAP_DRAM_HI_ADDR_HI, SW_CAP_WR_WR, SW_CAP_RD_RD, SW_CAP_LOST, SW_CAP_FLT_A_EN, SW_CAP_FLT_A_POINT,
   SW_CAP_FLT_A_PORT, SW_CAP_FLT_A_ANY_CLASS, SW_CAP_FLT_A_CLASS, SW_CAP_FLT_A_SAMPLE,
   SW_CAP_FLT_B_PATH_HI, SW_CAP_FLT_B_PATH_LO, SW_CAP_ENTRY_DATA, SW_MC_DATA_DATA]

def almFields : List Field :=
  [ALM_CLASS_Q3, ALM_CLASS_Q2, ALM_ISO_G_UNITS, ALM_ISO_ISO_UNITS, ALM_PROT_PROTECT_EN,
   ALM_PROT_RECOVER, ALM_ROW_V, ALM_ROW_ENTRY, ALM_ROW_UNITS, ALM_STATUS_MODE, ALM_STATUS_SHORT_SENT,
   ALM_STATUS_CTRL_UNITS, ALM_MEAS_CAP_UNITS, ALM_MEAS_P_UNITS, ALM_SERV_A_CTRL, ALM_SERV_A_ISO,
   ALM_SERV_B_BE, ALM_SERV_B_GUAR, ALM_CNT_TURN, ALM_CNT_PROTECT, ALM_CNT_SHORT, ALM_CNT_NOROW,
   ALM_CNT_CLR_CLR]

def shaperFields : List Field :=
  [SH_W0_RATE, SH_W0_BURST, SH_W1_RATE_ACT, SH_W1_BURST_ACT, SH_W2_TOKENS, SH_W3_NEXT_ELIG]

def shpctlFields : List Field :=
  [SC_USE_ACTIVE, DA_STATE_STATE, DA_STATE_REASON, DA_STATE_ARM_ID, DA_EPOCH_LO_EPOCH_LO,
   DA_EPOCH_HI_EPOCH_HI, DA_MASK_LO_MASK_LO, DA_MASK_HI_MASK_HI, DA_SRC_SRC_HUB]

def pcieFields : List Field :=
  [PE_CFG_ROLE, PE_CFG_MAX_GEN, PE_CFG_BIFUR, PE_CFG_TAG10, PE_CFG_PORT_RST, PE_REQ_PEAK, PE_REQ_OUT,
   PE_POOL_FREE_MIN, PE_POOL_FREE, PE_LINK_CFG_ATTACH, PE_LINK_CFG_DOM, PE_LINK_CFG_PCA,
   PE_LINK_CFG_RESET, PE_LINK_STS_LTSSM, PE_LINK_STS_WIDTH, PE_LINK_STS_GEN, PE_LINK_STS_DL_ACTIVE,
   PE_LINK_STS_RST_N, PE_LINK_STS_CLKREQ_N, PE_CNT_RX_ERR, PE_CNT_ECRC, PE_CNT_POISON, PE_CNT_CLR_CLR]

def pcaFields : List Field :=
  [PCA_CTRL_MODE, PCA_CTRL_DOM, PCA_CTRL_PKT240, PCA_CTRL_RELEASE, PCA_TUN_TX_HANDLE, PCA_TUN_RX_HANDLE,
   PCA_CFG_CPL_TO, PCA_CFG_LOCK_TO, PCA_REQ_PEAK, PCA_REQ_OUT, PCA_STATE_PATH_UP, PCA_STATE_LOCKED,
   PCA_STATE_TAG_WAIT, PCA_STATE_CPL_WAIT, PCA_SB_LOCAL_WORD, PCA_SB_FAR_WORD, PCA_CNT_UR_GEN,
   PCA_CNT_UNEXP_CPL, PCA_CNT_POSTED_DROP, PCA_CNT_UP_DROP, PCA_CNT_TIMEOUT, PCA_CNT_SB_TX,
   PCA_CNT_CLR_CLR]

def bridgeFields : List Field :=
  [BR_RSEL_HUB_ID, BR_CFG_PF_EN, BR_CFG_PF_LIFE, BR_CFG_DISC_TO, BR_SMB_CFG_PEC, BR_SMB_CFG_ALERT_EN,
   BR_SMB_CFG_ADDR, BR_SMB_STATUS_NWORDS, BR_SMB_STATUS_STATE, BR_SMB_PTR_ADDR, BR_LD_STATUS_VALID,
   BR_LD_STATUS_OVF, BR_LD_STATUS_SRC, BR_LD_STATUS_REMOTE, BR_LD_STATUS_HUB_ID, BR_LD_ADDR_ADDR,
   BR_LD_DATA_DATA, BR_CNT_DISCARD, BR_CNT_POP_LOST, BR_CNT_PF_HIT, BR_CNT_CLR_CLR]

def dispFields0 : List Field :=
  [DISP_MODE_MODE, DISP_MODE_CAP_EN, DISP_MODE_CAP_ONSTATIC, DISP_MODE_HOLD_AUTO, DISP_MODE_RESUME_AUTO,
   DISP_MODE_VRR_EN, DISP_CTRL_HOLD_REQ, DISP_CTRL_RESUME_REQ, DISP_CTRL_CNT_CLR, DISP_CFG_STATIC_N,
   DISP_CFG_HOLD_WAIT, DISP_CFG_PT_FILL, DISP_CFG_LT_GUARD, DISP_LB_CFG_GANG, DISP_LB_CFG_LB_HIGH,
   DISP_LB_CFG_LB_LOW, DISP_PATH_A_PT_HANDLE, DISP_PATH_A_RC_HANDLE, DISP_PATH_B_CPL_HANDLE,
   DISP_HTIME_HTOTAL, DISP_HTIME_HACTIVE, DISP_HSYNC_HSTART, DISP_HSYNC_HSP, DISP_HSYNC_HSW,
   DISP_VTIME_VTOTAL, DISP_VTIME_VACTIVE, DISP_VSYNC_VSTART, DISP_VSYNC_VSP, DISP_VSYNC_VSW,
   DISP_VRR_VTOTAL_MAX, DISP_PCLK_PCLK_KHZ, DISP_BG_COLOUR, DISP_FMT_BPC, DISP_STATUS_STATE,
   DISP_STATUS_STATIC, DISP_STATUS_CAP_VALID, DISP_STATUS_CAP_BUF, DISP_STATUS_HOLD_PEND,
   DISP_STATUS_LOW_RATE, DISP_STATUS_STREAM, DISP_STATUS_DSC, DISP_STATUS_MST, DISP_STATUS_HOLD_CAUSE,
   DISP_FRAME, DISP_HEAD_CRC_CRC, DISP_IN_CRC_CRC, DISP_LT_TOL, DISP_LT_MIN_TOL, DISP_STREAM_HACTIVE,
   DISP_STREAM_VACTIVE, DISP_CHECK_FAIL, DISP_CHECK_CAUSE, DISP_CHECK_SURF, DISP_CAP_LO_ADDR_LO,
   DISP_CAP_HI_ADDR_HI, DISP_CAP_SIZE_SIZE, DISP_CNT_UNDERRUN, DISP_CNT_SUBST, DISP_CNT_HOLD,
   DISP_CNT_RESUME]

def dispFields1 : List Field :=
  [DISP_CNT_CAP_BAD, DISP_CNT_CMD, DISP_CNT_CMD_ERR, SURF_BASE_LO_ADDR_LO, SURF_BASE_HI_ADDR_HI,
   SURF_GEOM_W, SURF_GEOM_H, SURF_POS_X, SURF_POS_Y, SURF_CFG_EN, SURF_CFG_DBUF, SURF_CFG_FMT,
   SURF_CFG_STRIDE, SURF_STATE_FRONT, SURF_STATE_COPYING, SURF_STATE_COMMIT_PEND, SURF_STATE_NDAMAGE]

def dispFields : List Field :=
  dispFields0 ++ dispFields1

def doutFields : List Field :=
  [DOUT_CTRL_RESTART, DOUT_CTRL_RETRAIN, DOUT_CTRL_CNT_CLR, DOUT_LINK_CFG_MAX_RATE,
   DOUT_LINK_CFG_MAX_LANES, DOUT_LINK_STS_TRAINED, DOUT_LINK_STS_HPD, DOUT_LINK_STS_IDLE_PAT,
   DOUT_LINK_STS_RATE, DOUT_LINK_STS_LANES, DOUT_LINK_STS_LTTPR, DOUT_AUX_CFG_DEB_PLUG,
   DOUT_AUX_CFG_RETRY, DOUT_PAIR_LOCK, DOUT_PAIR_STS_LOCKED, DOUT_PAIR_STS_MASTER,
   DOUT_PAIR_STS_DEGRADED, DOUT_PAIR_STS_SKEW, DOUT_CHK_CFG_CRC_EN, DOUT_CHK_CFG_MIS_N,
   DOUT_CHK_STS_CMP, DOUT_CHK_STS_MATCH, DOUT_CHK_STS_RUN, DOUT_PIN_CRC_CRC, DOUT_PIN_FRAME_FRAME,
   DOUT_REG_CFG_ON_COMMIT, DOUT_REG_CFG_EN, DOUT_REG_STS_NA, DOUT_REG_STS_MISMATCH, DOUT_REG_STS_MATCH,
   DOUT_CNT_TRAIN, DOUT_CNT_CRC_MIS, DOUT_CNT_REG_MIS, DOUT_CNT_AUX_TO, DOUT_CNT_HPD, REG_POS_X,
   REG_POS_Y, REG_SIZE_W, REG_SIZE_H, REG_EXPECT_CRC, REG_CRC_CRC]

def uhubFields : List Field :=
  [UH_CFG_H0_EN, UH_CFG_H1_EN, UH_CFG_EMB_EN, UH_CFG_EMB_DOM, UH_CFG_UP2_0, UH_CFG_UP2_1, UH_CFG_SRC3_0,
   UH_CFG_SRC3_1, UH_STATUS_SS_0, UH_STATUS_SS_1, UH_STATUS_HS_0, UH_STATUS_HS_1, UH_STATUS_EMB,
   UH_PORT_PRESENT, UH_PORT_DOM, UH_PORT_HS_PIN, UH_PORT_TDOM, UH_PORT_SS_STATE, UH_PORT_HS_STATE,
   UH_PORT_PWR, UH_PORT_OC, UH_PORT_CFG_OC_FILT, UH_PORT_CFG_PWR_GOOD, UH_AUD_CFG_RATE,
   UH_AUD_CFG_MCLK_X2, UH_AUD_CFG_OUT_CH, UH_AUD_CFG_IN_CH, UH_AUD_CFG_FB_P, UH_AUD_CFG_MUTE_OUT,
   UH_AUD_STATUS_MCLK_OK, UH_AUD_STATUS_OUT_ALT, UH_AUD_STATUS_IN_ALT, UH_AUD_STATUS_OUT_FILL, UH_FB_FB,
   UH_WAKE_WAKE_REQ, UH_WAKE_PEND, UH_WAKE_RWE, UH_CNT_ISO_DROP, UH_CNT_AUD_UNDER, UH_CNT_AUD_OVER,
   UH_CNT_WAKE_MERGED, MGMT_CTL_ABORT, UH_CNT_OC, UH_CNT_CLR_CLR, UH_TUN_TX_HANDLE, UH_TUN_RX_HANDLE,
   UH_EP_EN, UH_EP_DIR, UH_EP_TYPE, UH_EP_EPNUM, UH_EP_MAXPKT, UH_EP_BUF_KIB, UH_EP_FILL_FILL]

def ethFields : List Field :=
  [ETH_CFG_Q_BIND, ETH_CFG_MAC_BIND, ETH_CFG_MODE, ETH_CFG_FEC, ETH_CFG_PAUSE_EN, ETH_CFG_DOM,
   ETH_CFG_TS_ALL, ETH_CFG_VLAN_STRIP, ETH_CFG_SPILL_EN, ETH_CFG_MTU, ETH_STATUS_LINK, ETH_STATUS_SPEED,
   ETH_STATUS_RX_PAUSED, ETH_STATUS_TX_XOFF, ETH_STATUS_LAST_Q, ETH_TUN_TX_HANDLE, ETH_TUN_RX_HANDLE,
   ETH_QSET_GQ_MASK, ETH_RSS_RSS_EN, ETH_RSS_PCP_G, ETH_IRQ_MOD, ETH_BUF_XOFF, ETH_BUF_XON,
   ETH_BUF_RXQ_CAP, ETH_RSS_KEY_KEY, ETH_SPILL_LO_ADDR_LO, ETH_SPILL_HI_ADDR_HI, ETH_SPILL_HI_SIZE,
   ETH_CNT_RX_FRM, ETH_CNT_TX_FRM, ETH_CNT_RX_DROP, ETH_CNT_RX_FCS, ETH_CNT_SPILL, ETH_CNT_PAUSE_RX,
   ETH_CNT_PAUSE_TX, ETH_CNT_PATH_DROP, ETH_CNT_CLR_CLR, ETH_RSS_IND_Q3, ETH_RSS_IND_Q2, ETH_RSS_IND_Q1,
   ETH_RSS_IND_Q0, ETH_Q_TX_BASE_LO_ADDR_LO, ETH_Q_TX_BASE_HI_ADDR_HI, ETH_Q_TX_RING_EN,
   ETH_Q_TX_RING_SIZE, ETH_Q_TX_PTR_TAIL, ETH_Q_TX_PTR_HEAD, ETH_Q_RX_BASE_LO_ADDR_LO,
   ETH_Q_RX_BASE_HI_ADDR_HI, ETH_Q_RX_RING_EN, ETH_Q_RX_RING_SIZE, ETH_Q_RX_PTR_TAIL, ETH_Q_RX_PTR_HEAD]

def memFields : List Field :=
  [MEM_CFG_CAP, MEM_CFG_INLINE_ECC, MEM_CFG_SCRUB_EN, MEM_CFG_SCRUB_S, MEM_STATUS_STATE,
   MEM_STATUS_RESTORED, MEM_STATUS_FAIL_CH, MEM_CAP_USABLE, MEM_SR_CFG_SR_EN, MEM_SR_CFG_PD_EN,
   MEM_SR_CFG_SR_EXIT, MEM_SR_CFG_SR_ENTER, MEM_ARB_URG, MEM_ARB_MGMT_AGE, MEM_RES_SR_US, MEM_RES_PD_US,
   MEM_CLIENT_WEIGHT, MEM_CLIENT_TOL, MEM_BW_UNITS, MEM_CNT_CE, MEM_CNT_UE, MEM_CNT_LINK,
   MEM_LAST_UE_LO_ADDR_LO, MEM_LAST_UE_LO_CLIENT, MEM_LAST_UE_HI_ADDR_HI, MEM_CNT_CLR_CLR]

def pdFields0 : List Field :=
  [PD_CTRL_HARD_RESET, PD_CTRL_SOFT_RESET, PD_CTRL_ERR_RECOVERY, PD_CTRL_SWAP_PR, PD_CTRL_SWAP_DR,
   PD_CTRL_SWAP_VCONN, PD_CTRL_EPR_ENTER, PD_CTRL_EPR_EXIT, PD_POLICY_ROLE, PD_POLICY_RP,
   PD_POLICY_ACC_PR, PD_POLICY_ACC_DR, PD_POLICY_ACC_VCONN, PD_POLICY_FRS_EN, PD_POLICY_EPR_EN,
   PD_POLICY_PPS_EN, PD_POLICY_AVS_EN, PD_POLICY_VCONN_EN, PD_POLICY_DBAT_MIN_W, PD_STATUS_STATE,
   PD_STATUS_ORIENT, PD_STATUS_PR, PD_STATUS_DR, PD_STATUS_VCONN, PD_STATUS_CONTRACT, PD_STATUS_EPR,
   PD_STATUS_KIND, PD_STATUS_SINKTX, PD_STATUS_FRS_ARMED, PD_STATUS_PHASE, PD_STATUS_PARTNER_RP,
   PD_ATTACH_VALID, PD_ATTACH_ATT_PR, PD_ATTACH_ATT_DR, PD_ATTACH_ATT_VCONN, PD_ATTACH_PD,
   PD_ATTACH_DRP, PD_ATTACH_KLOYR, PD_ATTACH_KH520, PD_ATTACH_USB4, PD_ATTACH_EMARKED,
   PD_ATTACH_EPR_CABLE, PD_ATTACH_CABLE_5A, PD_ATTACH_RATE32, PD_CONTRACT_VOLT, PD_CONTRACT_CURR,
   PD_CONTRACT_OBJ, PD_VBUS_VBUS_MV, PD_VBUS_IBUS_MA, PD_ENERGY_LIMIT_MJ, PD_ENERGY_CBULK_UF,
   PD_BUDGET_ALLOT_W, PD_BUDGET_GUAR_W, PD_BUDGET_USE_W, PD_BOARD_TOTAL_W, PD_TMR_PPS_REQ,
   PD_TMR_EPR_KA, PD_TMR_SINKTX, PD_SNK_REQ_VOLT, PD_SNK_REQ_CURR]

def pdFields1 : List Field :=
  [PD_SNK_REQ_PPS_OK, PD_SNK_REQ_AVS_OK, PD_CNT_HR_RX, PD_CNT_HR_TX, PD_CNT_SR_RX, PD_CNT_SR_TX,
   PD_CNT_MSG_FAIL, PD_CNT_SWAP_PR, PD_CNT_SWAP_DR, PD_CNT_SWAP_VC, PD_CNT_SWAP_FR, PD_CNT_DETACH_TR,
   PD_CNT_CLR_CLR, PD_LAST_HR_VALID, PD_LAST_HR_PHASE, PD_LAST_HR_SENT, PD_SRC_PDO_PDO, PD_SNK_PDO_PDO,
   PD_RX_STATUS_NONEMPTY, PD_RX_STATUS_WORDS, PD_RX_POP_DATA, PD_TX_BUF_DATA, PD_TX_CTRL_SEND,
   PD_TX_CTRL_SOP, PD_TX_CTRL_RESULT, PD_TX_CTRL_WORDS]

def pdFields : List Field :=
  pdFields0 ++ pdFields1

def mbxFields : List Field :=
  [MB_FW_FW_READY, MB_FW_PHASE, MB_FW_COPY, MB_FW_TRIAL, MB_FW_VERSION, MB_SEQ_SEQ,
   MB_CFG_STS_DEFAULTED, MB_ENG_RUN, MB_CNT_RESTART, MB_CNT_PROTO, MB_CNT_CLR_CLR]

def mbchFields : List Field :=
  [MB_DOORBELL_GO, MB_DOORBELL_ABORT, MB_DOORBELL_CMD, MB_DOORBELL_LEN, MB_DOORBELL_TAG, MB_RESULT_DONE,
   MB_RESULT_BUSY, MB_RESULT_TAKEN, MB_RESULT_STATUS, MB_RESULT_LEN, MB_RESULT_TAG, MB_EVT_STS_OVF,
   MB_EVT_STS_COUNT, MB_REQ_DATA, MB_RSP_DATA, MB_EVT_DATA]

/-- log 34, DEDUCED. -/
def almShFields : List Field :=
  [ALM_CLASS_Q3, ALM_CLASS_Q2, ALM_ISO_G_UNITS, ALM_ISO_ISO_UNITS, ALM_PROT_PROTECT_EN,
   ALM_PROT_RECOVER, ALM_ROW_V, ALM_ROW_ENTRY, ALM_ROW_UNITS, ALM_CHECK_FAIL, ALM_CHECK_CAUSE,
   ALM_CHECK_ROW]

/-- The pads or lanes that a lane page has (R80, R82). -/
def padCount : PageKind → Nat
  | .pelane => 8
  | .ulane | .elane => 1
  | _ => 4

/-- The per-pad fields that DPLANE has: it only transmits (R82). -/
def txPadFields : List Field :=
  [PR_STATUS_DIR, PR_STATUS_LP, PR_STATUS_SIG, PR_STATUS_LOCK, PR_STATUS_LANE, PR_STATUS_INV, PR_STATUS_FAILED,
   PR_TXEQ_PRE2, PR_TXEQ_PRE1, PR_TXEQ_MAIN, PR_TXEQ_POST1]

/-- The page-wide fields of the lane pages other than LANE_n (R82). -/
def otherLaneFields : List Field :=
  [LN_CTRL_RETRAIN, LN_CTRL_CNT_CLR, LN_STATUS_STATE, LN_LOS_CFG_LOS_TH, LN_LOS_CFG_LOS_HYST, LN_LOS_CFG_LOS_FILT,
   LN_EQ_SRC_CLASS, LN_EQ_SRC_SRC]

/-- The fields of a lane page: R79 and R80 for LANE_n, cut down as R82 says for the others. -/
def laneFieldsOf (k : PageKind) : List Field :=
  let pads := laneFields.filter fun f => f.cnt = 8
  let page := laneFields.filter fun f => f.cnt = 1
  let cut := fun f : Field => { f with cnt := padCount k }
  match k with
  | .lane => page ++ pads.map cut
  | .dplane => otherLaneFields ++ txPadFields.map cut
  | _ => otherLaneFields ++ pads.map cut

/-- The allocation registers of an ALM page (R208). -/
def almAllocFields : List Field :=
  [ALM_CLASS_Q3, ALM_CLASS_Q2, ALM_ISO_G_UNITS, ALM_ISO_ISO_UNITS, ALM_PROT_PROTECT_EN, ALM_PROT_RECOVER, ALM_ROW_V,
   ALM_ROW_ENTRY, ALM_ROW_UNITS]

/-- The LK_PAIR page fields that BOUND = 4 arms (R104): LK_PAIR.PAD_EN. -/
def pairFields : List Field := [LK_PAIR_PAD_EN]

end Reg

/-- PG_CTRL.ENABLE of a page, with the reset value of its kind (R41). -/
def Page.enableField (p : Page) : Field := Reg.PG_CTRL_ENABLE p.kind.info.enable

/-- PG_ERR_SEV of source `n` of a page, with the block's default severity as its reset value (R41, R51). -/
def Page.sevField (p : Page) (n : Nat) : Field := Reg.PG_ERR_SEV_SEV n ((p.kind.info.sevs >>> (2 * n)) % 4)

/-- The block registers of a page kind; the fields of R82's lane pages are those of the LANE layout. -/
def PageKind.blockFields : PageKind → List Field

  | .glb => Reg.glbFields
  | .aon => Reg.aonFields
  | .safe => Reg.safeFields
  | .sec => Reg.secFields
  | .bist => Reg.bistFields
  | .lane => Reg.laneFieldsOf .lane
  | .pelane => Reg.laneFieldsOf .pelane
  | .dplane => Reg.laneFieldsOf .dplane
  | .ulane => Reg.laneFieldsOf .ulane
  | .elane => Reg.laneFieldsOf .elane
  | .link => Reg.linkFields
  | .linkCnt => Reg.linkCntFields
  | .path => Reg.pathFields
  | .pathctl => Reg.pathctlFields
  | .sw => Reg.swFields
  | .alm => Reg.almFields.map Field.readOnly
  | .almSh => Reg.almShFields
  | .shaper => Reg.shaperFields
  | .shpctl => Reg.shpctlFields
  | .pcie => Reg.pcieFields
  | .pca => Reg.pcaFields
  | .bridge => Reg.bridgeFields
  | .disp => Reg.dispFields
  | .dout => Reg.doutFields
  | .uhub => Reg.uhubFields
  | .eth => Reg.ethFields
  | .mem => Reg.memFields
  | .pd => Reg.pdFields
  | .mbx => Reg.mbxFields
  | .mbch => Reg.mbchFields

/-- Does a page of this kind carry the common header? Table windows do not (R40). -/
def PageKind.hasHeader : PageKind → Bool
  | .path | .shaper => false
  | _ => true

/-- Does bit address `b` of a page fall on this field's lowest bit, or on that of an element of the array? -/
def Field.hit (f : Field) (b : Nat) : Bool :=
  f.bit ≤ b && (if f.cnt = 1 then b = f.bit else (b - f.bit) % f.stride = 0 && (b - f.bit) / f.stride < f.cnt)

/-- Every register field of a page: the header (R41) and the block registers. -/
def Page.fields (p : Page) : List Field :=
  if p.kind.hasHeader then
    p.enableField :: (List.range p.kind.info.nsrc).map p.sevField ++ Reg.hdrFields ++ p.kind.blockFields
  else p.kind.blockFields

/-- The retention class of the field at bit address `b` of a page, registers and internal fields alike (R396). (log 24, DEDUCED) -/
def Page.clsAt (p : Page) (b : Nat) : Option Cls :=
  ((p.fields ++ p.kind.intFields).find? fun f => f.hit b).map fun f => f.cls

/-- The page and the class of a key of the register tables. -/
def clsOfKey (k : Nat) : Option (Page × Cls) :=
  match pageAt (k % 0x10000000 / 8) with
  | some p => (p.clsAt (k - 8 * p.base)).map fun c => (p, c)
  | none => none

end Sys2Proof
end

