-- ==== Sys2Proof/Config.lean ====
section
/-! DEFINITION. What an implementation fixes and the spec leaves open: values with no body, so that no proof rests on one (assumption log entries name each). -/

namespace Sys2Proof.Config

/-- A value the spec leaves open, the `n`th one taken in a run. (log 5, DESIGN CHOICE) -/
opaque freeValue : Nat → Nat

/-- GLB_CHIP_ID.VARIANT, fused: 1 or 2 once taken modulo 2 and raised by one (R5). (log 115, DEDUCED) -/
opaque variant : Nat

/-- GLB_CHIP_ID.STEP_MAJOR and STEP_MINOR, in one byte. (log 115, DEDUCED) -/
opaque stepping : Nat

/-! AES-256-GCM (R89, R415): the spec names the algorithm and does not define its bytes. -/

/-- Byte `i` of the sealed payload, ciphertext then tag, from key, nonce, additional data and plain bytes. (log 100, DESIGN CHOICE) -/
opaque sealByte : Nat → Nat → List Byte → List Byte → Nat → Byte

/-- Does the tag at the end of a sealed payload check under key, nonce and additional data? (log 100, DESIGN CHOICE) -/
opaque tagOk : Nat → Nat → List Byte → List Byte → Bool

/-- Byte `i` of the plain payload. (log 100, DESIGN CHOICE) -/
opaque openByte : Nat → Nat → List Byte → List Byte → Nat → Byte

/-! DisplayPort (R284, R295): the packing of stream pixels is the standard's. -/

/-- Pixel `i` of a line of an uncompressed stream, from bits per component and bytes: a word of 30 bits. (log 69, DESIGN CHOICE) -/
opaque streamPixel : Nat → List Byte → Nat → Nat

/-! The Ngunov patch (R369): the spec gives neither its form nor that of its location words. -/

/-- Does the signature of the patch at location words W1 to W3 in these DRAM contents check against the fused key hash? (log 79, DESIGN CHOICE) -/
opaque patchOk : Nat → Nat → Nat → List (Nat × Byte) → Bool

/-- The version of that patch. (log 79, DESIGN CHOICE) -/
opaque patchVersion : Nat → Nat → Nat → List (Nat × Byte) → Nat


/-! ### Cryptography (R401 to R417). FIPS 180-4, FIPS 186-5, FIPS 197, RFC 3394 and RFC 5869 define these; no rule depends on
more of them than that they are functions of their arguments. -/

/-- SHA-384 of some bytes. (log 100, DESIGN CHOICE) -/
opaque sha384 : List Byte → Nat

/-- Does an ECDSA P-384 signature (public key, digest, signature) hold? (log 100, DESIGN CHOICE) -/
opaque ecdsaOk : List Byte → Nat → List Byte → Bool

/-- Byte `i` of the identity key's signature over a digest; the second argument stands for the signature's random part. (log 100, DESIGN CHOICE) -/
opaque signByte : Nat → Nat → Nat → Byte

/-- Byte `i` of a component decrypted under the content key that is wrapped in the first argument, with the IV second. (log 100, DESIGN CHOICE) -/
opaque decryptByte : List Byte → List Byte → Nat → Byte → Byte

/-- HKDF-SHA-384 of a root secret, with 48 zero bytes of salt and the info bytes second, as a 256-bit number (R412). (log 100, DESIGN CHOICE) -/
opaque hkdf : List Byte → List Byte → Nat

/-- The version of the boot ROM, as bytes (R406). (log 115, DEDUCED) -/
opaque romVersion : List Byte

/-- The version of Moabeuc in its component (MB_FW.VERSION). (log 115, DEDUCED) -/
opaque fwVersion : List Byte → Nat

/-- Does the signature of a Ngunov patch hold against the fused key hash (R369), and which version is it? (log 79, DESIGN CHOICE) -/
opaque patchGood : List Byte → Bool

/-- The version of a Ngunov patch (R376). (log 79, DESIGN CHOICE) -/
opaque patchNumber : List Byte → Nat

end Sys2Proof.Config
end

