-- ==== Sys2Proof/Machine/Tab.lean ====
section
/-! DEFINITION. Sparse tables keyed by a number, kept sorted, and the byte memories built on them. Register contents, queues by port and path, and the contents of DRAM, flash, OTP and retention RAM are such tables. -/

namespace Sys2Proof

/-- A sparse table: key and value pairs, keys rising. -/
abbrev Tab (α : Type) := List (Nat × α)

/-- The entry at key `k`. -/
def Tab.find {α : Type} : Tab α → Nat → Option α
  | [], _ => none
  | (a, b) :: t, k => if a = k then some b else Tab.find t k

/-- Set the entry at key `k`. -/
def Tab.put {α : Type} : Tab α → Nat → α → Tab α
  | [], k, v => [(k, v)]
  | (a, b) :: t, k, v =>
    if k < a then (k, v) :: (a, b) :: t
    else if k = a then (k, v) :: t
    else (a, b) :: Tab.put t k v

/-- Remove the entry at key `k`. -/
def Tab.del {α : Type} (t : Tab α) (k : Nat) : Tab α := t.filter fun e => e.1 != k

/-- Keep the entries whose key meets `q`. -/
def Tab.keep {α : Type} (t : Tab α) (q : Nat → Bool) : Tab α := t.filter fun e => q e.1

/-- Keys strictly rising. -/
def Tab.sorted {α : Type} : Tab α → Bool
  | [] => true
  | [_] => true
  | a :: b :: t => (a.1 < b.1 : Bool) && Tab.sorted (b :: t)

/-- A list held at key `k`; nothing listed is the empty list. -/
def Tab.list {α : Type} (t : Tab (List α)) (k : Nat) : List α := (t.find k).getD []

/-- Set the list at key `k`; an empty list is not listed. -/
def Tab.setList {α : Type} (t : Tab (List α)) (k : Nat) (l : List α) : Tab (List α) :=
  match l with
  | [] => t.del k
  | _ => t.put k l

/-- A byte memory: address and byte pairs, addresses rising, no entry equal to what an unlisted address reads as. -/
abbrev Mem := List Host.Cell

/-- The byte at `a`; `d` is what an unlisted address reads as. (log 4, DESIGN CHOICE) -/
def Mem.read (d : Byte) (m : Mem) (a : Nat) : Byte := (Tab.find m a).getD d

/-- Write the byte at `a`, keeping the canonical form. -/
def Mem.write (d : Byte) (m : Mem) (a : Nat) (v : Byte) : Mem :=
  if v = d then Tab.del m a else Tab.put m a v

/-- The canonical form: addresses strictly rising, and no byte equal to the unlisted value. -/
def Mem.wf (d : Byte) (m : Mem) : Bool := Tab.sorted m && m.all fun e => e.2 != d

/-- Write the bytes of a list from `a` on. -/
def Mem.writeList (d : Byte) (m : Mem) (a : Nat) : List Byte → Mem
  | [] => m
  | b :: t => Mem.writeList d (Mem.write d m a b) (a + 1) t

/-- Read `n` bytes from `a` on. -/
def Mem.readList (d : Byte) (m : Mem) (a : Nat) : Nat → List Byte
  | 0 => []
  | n + 1 => Mem.read d m a :: Mem.readList d m (a + 1) n

/-- Set `n` bytes from `a` on to the unlisted value. -/
def Mem.clear (m : Mem) (a n : Nat) : Mem := m.filter fun e => !(a ≤ e.1 && e.1 < a + n)

end Sys2Proof
end

