-- ==== Sys2Proof/Machine/State.lean ====
section
/-! DEFINITION. The state of the hub: registers, active copies of shadowed settings, queues, buffers, memories and the commands waiting. -/

namespace Sys2Proof.Machine

/-- Reasons to stop with a fault. None is raised: the spec gives every command an effect. -/
inductive Fault where
  /-- Nobody raises it: no rule of the spec stops the hub. Safe. -/
  | unused
  deriving DecidableEq, Repr

/-- Reasons to refuse a command. -/
inductive Refusal where
  /-- Raised by the dispatch of a command that has no meaning yet. Safe: the model stops where the hub goes on. -/
  | notModelled (mnemonic : String)
  deriving DecidableEq, Repr

/-! ### Links -/

/-- A packet in a replay buffer (R95): its PB_ACK in KH520 legacy mode (R110), its units of 16 B, and whether it waits to
be sent again (R96). -/
structure Held where
  pkt : Pkt
  pb : Option Nat
  units : Nat
  due : Bool
  deriving DecidableEq, Repr

/-! ### Switch -/

/-- A packet inside the hub: its path table entry (8192 for a CTRL packet forwarded by hub ID), the port codes of its
ends (31 with the group in `outPath` for multicast) and its egress path ID, its class, the credits it holds at its
ingress link and will cost at its egress link, its bytes in the fabric, and the hub time at which it became ready. -/
structure QPkt where
  uid : Nat
  entry : Nat
  inPort : Nat
  outPort : Nat
  outPath : Nat
  cls : Nat
  icost : Nat
  cost : Nat
  size : Nat
  time : Nat
  pkt : Pkt
  deriving DecidableEq, Repr

/-- A cell (R168, R169): the packets that begin in it, those whose last byte it holds, and the numbers of all packets
with bytes in it. -/
structure Cell where
  entry : Nat
  cls : Nat
  used : Nat
  time : Nat
  begins : List QPkt
  ends : List QPkt
  uids : List Nat
  deriving DecidableEq, Repr

/-- A flow (R171): input, target (an output 0–19, or 32 + group), class, and its packed cells. -/
structure Flow where
  inp : Nat
  tgt : Nat
  cls : Nat
  cells : List Cell
  deriving DecidableEq, Repr

/-- One entry of a frame in one bank: a pad or a cell, and whether this output has taken it. -/
structure Ent where
  pad : Bool
  taken : Bool
  cell : Option Cell
  deriving DecidableEq, Repr

/-- A frame in the queue of one output and class (R171 to R174). `fid` numbers it; `slot` is its first slot; it is
visible from slot `slot + 20` on. -/
structure Frame where
  fid : Nat
  inp : Nat
  slot : Nat
  opened : Bool
  ents : List Ent
  deriving DecidableEq, Repr

/-- A frame that an input is writing. -/
structure Prog where
  inp : Nat
  tgt : Nat
  cls : Nat
  slot : Nat
  fid : Nat
  deriving DecidableEq, Repr

/-- A place in an output's reorder stage (R176): a cell read, or one awaited. -/
structure Rel where
  fid : Nat
  pos : Nat
  cell : Option Cell
  deriving DecidableEq, Repr

/-- The staged packets of one path at a tunnel port (R203). -/
structure StQ where
  entry : Nat
  cls : Nat
  pkts : List QPkt
  deriving DecidableEq, Repr

/-! ### PCI Express -/

/-- An entry of a PCA's request table (R235): Requester ID, Tag, and when it was taken, clock ns. -/
structure NpReq where
  req : Nat
  tag : Nat
  time : Nat
  deriving DecidableEq, Repr

/-- Completion units reserved for a request issued to the local side (R236). -/
structure Resv where
  req : Nat
  tag : Nat
  units : Nat
  deriving DecidableEq, Repr

/-- The tables and queues of one PCA (R234 to R236): its request table, the requests held at its ingress, the first
packets of a TLP that arrives in several, the queues from the tunnel, and its completion reservations. -/
structure Pca where
  reqs : List NpReq
  held : List Tlp
  join : List Byte
  np : List Tlp
  posted : List Tlp
  resv : List Resv
  deriving DecidableEq, Repr

/-! ### Displays -/

/-- A capture in one of the two buffers (R272): the stream frame, its lines, their pitch and length in bytes, its bits
per component, whether it is compressed, and its CRC. -/
structure Cap where
  frame : Nat
  lines : Nat
  pitch : Nat
  len : Nat
  bpc : Nat
  dsc : Bool
  crc : Nat
  deriving DecidableEq, Repr

/-- What an output holds besides its registers: the MSA of the stream, the stream lines in the line buffer (stream
frame, line, bytes), the captures by buffer, the retained commands waiting, the COMMITs pending (CMD_ID and mask), the
damage of each surface, the surfaces whose next copy-forward is whole, the copies running, and the AUX queue. -/
structure Disp where
  msa : Option Msa
  lines : List (Nat × Nat × List Byte)
  caps : Tab Cap
  cmds : List DispCmd
  commits : List (Nat × Nat)
  damage : Tab (List Rect)
  whole : List Nat
  copies : Tab (List Rect)
  aux : List AuxReq
  deriving DecidableEq, Repr

/-! ### Control -/

/-- A control request this hub has originated and not yet ended (R146): its slot, TAG, opcode and destination; how many
responses are still expected, 0 for a request whose number of responses is not known; whose it is (0 Uhlok's, else the
code of the initiator whose remote access it carries, plus one); the address it reads, and when it was sent, clock ns. -/
structure Req where
  dom : Nat
  tag : Nat
  cop : Nat
  dest : Nat
  expect : Nat
  use : Nat
  addr : Nat
  time : Nat
  deriving DecidableEq, Repr

/-- An access to the REMOTE window that waits its turn (R245, R472): its initiator, the hub ID and slot it uses, its
address, how many words it reads (0 for a write), and byte enables and words of a write. -/
structure RemAcc where
  who : Initiator
  hub : Nat
  dom : Nat
  addr : Nat
  n : Nat
  be : Nat
  words : List Nat
  deriving DecidableEq, Repr

/-- A prefetched block (R247): whose it is, the hub ID it came from (0 for this hub), its first address, its words, and
when it was fetched, clock ns. -/
structure PfBlock where
  who : Initiator
  hub : Nat
  dom : Nat
  addr : Nat
  words : List Nat
  time : Nat
  deriving DecidableEq, Repr

/-- The delayed read of the SMBus target (R248, R251, R252): its first address, its words so far, the words that a peer
hub still has to give (index of the first, and how many), that hub's ID, whether a word of the peer lies outside its
side-effect-free ranges, and when the result was held, clock ns. -/
structure SmbRead where
  addr : Nat
  words : List Nat
  first : Nat
  miss : Nat
  far : Nat
  hub : Nat
  nsef : Bool
  time : Nat
  deriving DecidableEq, Repr

/-! ### Ethernet and memory -/

/-- A received frame that waits (R327, R328): its queue, whether it lies in the DRAM spill ring, its RSS hash, its
timestamp where it has one, and its bytes without FCS. -/
structure EthFrame where
  q : Nat
  spilled : Bool
  hash : Nat
  ts : Option Nat
  bytes : List Byte
  deriving DecidableEq, Repr

/-- A frame to send that waits in the MAC half (R322): queue, descriptor index, TS_REQ and bytes. -/
structure EthSend where
  q : Nat
  idx : Nat
  tsReq : Bool
  bytes : List Byte
  deriving DecidableEq, Repr

/-- What an Ethernet port holds: received frames in the MAC half in arrival order, frames that wait in the queue half,
frames to send, the posted RX buffer sizes and the fetched TX descriptors of each queue, the completions that wait for a
timestamp (queue, index, since when), and the packets of a frame that arrives in several, by path and direction. -/
structure Eth where
  rx : List EthFrame
  qwait : List EthFrame
  txq : List EthSend
  rxd : Tab (List Nat)
  txd : Tab (List TxDesc)
  stamps : List (Nat × Nat × Nat)
  join : Tab (List Byte)
  deriving DecidableEq, Repr

/-! ### Safety island -/

/-- A request to the Ngunov island (R374): its initiator, CMD, PORT, TAG and argument words, and whether it came through
mailbox channel 15. -/
structure SafeReq where
  who : Initiator
  cmd : Nat
  port : Nat
  tag : Nat
  w1 : Nat
  w2 : Nat
  w3 : Nat
  mbx : Bool
  deriving DecidableEq, Repr

/-! ### USB -/

/-- A control transfer of the embedded device (R318): its request and the bytes of its data stage still to come. -/
structure CtlXfer where
  req : UsbReq
  left : Nat
  deriving DecidableEq, Repr

/-- The embedded device's endpoint memory and transfers: the packets in each endpoint buffer by its row in R309, playback
data with the microframe it arrived in, captured data with the microframe it was captured in, the control transfer under
way, the alternate settings that wait for a microframe (interface and setting), and the bytes of a partly received EP1
transfer. -/
structure Usb where
  bufs : Tab (List (List Byte))
  play : List (Nat × List Byte)
  cap : List (Nat × List Byte)
  ctl : Option CtlXfer
  alts : List (Nat × Nat)
  ep1 : List Byte
  deriving DecidableEq, Repr

/-- A device that holds nothing. -/
def Usb.empty : Usb := ⟨[], [], [], none, [], []⟩

/-! ### SPDM -/

/-- A connection of the SPDM responder (R409): how far the negotiation is (1 version, 2 capabilities, 3 algorithms), and
its secure session (0 none, 1 handshake, 2 established) with its number. -/
structure Spdm where
  st : Nat
  sess : Nat
  id : Nat
  deriving DecidableEq, Repr

/-- The hub's state. -/
structure State where
  /-- Commands waiting, first in first out. -/
  pending : List Instr
  /-- Register fields and internal fields that differ from their reset values, keyed by bit address. -/
  regs : Tab Nat
  /-- Active values of SH fields that differ from their reset values (R47). -/
  act : Tab Nat
  /-- Hub time in ns (R15). -/
  time : BitVec 64
  /-- Nanoseconds passed, as every clock but hub time counts them; no synchronisation steps it (the model's own field). -/
  clock : Nat
  /-- How many free values have been taken (the model's own field). -/
  fresh : Nat
  /-- Messages the hub has sent, oldest first (the model's own field). -/
  out : List Out
  /-- The next packet number (the model's own field). -/
  uid : Nat
  /-- The replay buffer of each tunnel port, oldest first (R95). -/
  replay : Tab (List Held)
  /-- LINK packets waiting at each tunnel port (R92): PAIR and LP. -/
  linkq : Tab (List LinkMsg)
  /-- Path IDs whose credit update is due at each tunnel port, 0 for the control pool (R99). -/
  creditDue : Tab (List Nat)
  /-- Packets that have passed path lookup and are not yet ready for their flow (R178, R204). -/
  waiting : List QPkt
  /-- The flows that hold cells (R171). -/
  flows : List Flow
  /-- The frames in progress (R171). -/
  progs : List Prog
  /-- The frames queued for each output and class, keyed 4 × output + class (R174). -/
  queues : Tab (List Frame)
  /-- The reorder stage of each output and class, same key (R176). -/
  rel : Tab (List Rel)
  /-- The classes with a releasable cell at each output, in the order they became so (R176). -/
  relOrder : Tab (List Nat)
  /-- The packets a cell error has discarded at an output and whose last byte is still to come (R192), keyed
32 × packet number + output. -/
  dead : List Nat
  /-- The staged packets of each tunnel port (R203), paths in the order in which they became backlogged. -/
  staged : Tab (List StQ)
  /-- The group table's shadow words, keyed 64 × group + word (R183). -/
  mcSh : Tab Nat
  /-- The group table's active words. -/
  mcAct : Tab Nat
  /-- The capture ring's entries, keyed by capture number (R188), as bytes. -/
  capture : Tab (List Byte)
  /-- Capture entries on chip that still have to drain into the DRAM ring. -/
  capDrain : List Nat
  /-- CTRL packets accepted at a tunnel port and waiting to be handled under R144: port and packet. -/
  ctrlIn : List (Nat × Ctrl)
  /-- CTRL packets delivered to this hub and not yet handled: arrival port code and packet. -/
  ctrlLocal : List (Nat × Ctrl)
  /-- Control requests this hub has sent and not yet ended. -/
  reqs : List Req
  /-- Remote reads that ended before their response came (R249). -/
  endedReads : List Req
  /-- Accesses to the REMOTE window that wait their turn, oldest first (R245). -/
  remq : List RemAcc
  /-- The bridges' prefetched blocks (R247). -/
  prefetch : List PfBlock
  /-- The delayed read of the SMBus target that runs or is held (R248). -/
  smb : Option SmbRead
  /-- PATH_SETUP and PATH_RELEASE requests held while PATHCTL is armed (R149). -/
  heldReqs : List (Nat × Ctrl)
  /-- Hop entry writes that wait while an arm of PATHCTL is pending (R123): host domain and write. -/
  hopq : List (Nat × HopWrite)
  /-- The event FIFO of each domain's control channel, as words (R444, R447). -/
  events : Tab (List (List Nat))
  /-- The tables and queues of each PCA that hold something. -/
  pcas : Tab Pca
  /-- What each output holds, where it holds something. -/
  disps : Tab Disp
  /-- What each Ethernet port holds, where it holds something. -/
  eths : Tab Eth
  /-- The DRAM requests that wait, with the clock at which each arrived (R337). -/
  memq : List (Nat × MemReq)
  /-- Requests to the Ngunov island that wait during a safety reset (R374). -/
  safeq : List SafeReq
  /-- The CLOSE_PATH request of each port that waits for the interlock (R354). -/
  closers : Tab SafeReq
  /-- The receive FIFO of each PD port, in words (R363). -/
  pdRx : Tab (List Nat)
  /-- The message each PD port has sent last: SOP type and message (R362). -/
  pdLast : Tab (Nat × PdMsg)
  /-- The Sticky image in the AON retention RAM (R381, R397), as register fields. -/
  stickyImg : Tab Nat
  /-- The board equalisation table in use (R64); empty when it is bad. -/
  eqTable : List EqEntry
  /-- The embedded USB device's buffers and transfers (R309 to R318). -/
  usb : Usb
  /-- The plaintext configuration component of the image run (R405, R439). -/
  cfg : List Byte
  /-- The words of the debug response pushed since the last challenge (R417). -/
  dbgResp : List Nat
  /-- The SPDM connections by MCTP endpoint (R409). -/
  spdm : Tab Spdm
  /-- LPDDR5X contents that differ from 0 (R333). -/
  dram : Mem
  /-- Boot flash contents that differ from 0xFF, erased (R404). -/
  flash : Mem
  /-- OTP contents that differ from 0 (R401). -/
  otp : Mem
  /-- AON retention RAM contents that differ from 0 (R397). -/
  aonRam : Mem
  deriving DecidableEq, Repr

/-- The machine right after reset. (log 3, DESIGN CHOICE; log 4, DESIGN CHOICE) -/
def State.reset : State :=
  { pending := [], regs := [], act := [], time := 0, clock := 0, fresh := 0, out := [], uid := 0, replay := [], linkq := [],
    creditDue := [], waiting := [], flows := [], progs := [], queues := [], rel := [], relOrder := [], dead := [],
    staged := [], mcSh := [], mcAct := [], capture := [], capDrain := [], ctrlIn := [], ctrlLocal := [], reqs := [],
    endedReads := [], remq := [], prefetch := [], smb := none, heldReqs := [], hopq := [], events := [], pcas := [], disps := [], eths := [], memq := [], safeq := [], closers := [], pdRx := [], pdLast := [], stickyImg := [],
    eqTable := [], usb := Usb.empty, cfg := [], dbgResp := [], spdm := [], dram := [], flash := [], otp := [], aonRam := [] }

end Sys2Proof.Machine
end

