-- ==== Sys2Proof/Machine/Ops.lean ====
section
/-! DEFINITION. The named operations over registers, active copies, counters and the free value. -/

namespace Sys2Proof.Machine

/-- The outcome of a command that has an effect. -/
abbrev Res := Host.Outcome State Fault Refusal

/-- The key of a field of a page: its bit address. -/
def key (p : Page) (f : Field) : Nat := 8 * p.base + f.bit

/-- Read a field: what was written last, or its reset value. -/
def State.rd (s : State) (p : Page) (f : Field) : Nat := (Tab.find s.regs (key p f)).getD f.rst

/-- Store a value in a table of fields; a field at its reset value is not listed. -/
def putField (t : Tab Nat) (k v rst : Nat) : Tab Nat := if v = rst then t.del k else t.put k v

/-- Set a field, cut to its width. -/
def State.wr (s : State) (p : Page) (f : Field) (v : Nat) : State :=
  { s with regs := putField s.regs (key p f) (v % 2 ^ f.len) f.rst }

/-- Read the active value of an SH field (R47). -/
def State.rdA (s : State) (p : Page) (f : Field) : Nat := (Tab.find s.act (key p f)).getD f.rst

/-- Set the active value of an SH field. -/
def State.wrA (s : State) (p : Page) (f : Field) (v : Nat) : State :=
  { s with act := putField s.act (key p f) (v % 2 ^ f.len) f.rst }

/-- Read bit `i` of a field. -/
def State.rdBit (s : State) (p : Page) (f : Field) (i : Nat) : Bool := (s.rd p f).testBit i

/-- Is a field not 0? -/
def State.is (s : State) (p : Page) (f : Field) : Bool := s.rd p f != 0

/-- A number with bit `i` set or cleared. -/
def setBit (v i : Nat) (b : Bool) : Nat :=
  match b, v.testBit i with
  | true, false => v + 2 ^ i
  | false, true => v - 2 ^ i
  | _, _ => v

/-- Set or clear bit `i` of a field. -/
def State.wrBit (s : State) (p : Page) (f : Field) (i : Nat) (b : Bool) : State :=
  s.wr p f (setBit (s.rd p f) i b)

/-- Add to a field, saturating at the largest value it holds. -/
def State.sat (s : State) (p : Page) (f : Field) (n : Nat) : State :=
  s.wr p f (min (s.rd p f + n) (2 ^ f.len - 1))

/-- Count one event in a saturating counter. -/
def State.count (s : State) (p : Page) (f : Field) : State := s.sat p f 1

/-- Take a free value: a number nothing constrains. (log 5, DESIGN CHOICE) -/
def State.freeNat (s : State) : Nat := Config.freeValue s.fresh

/-- Mark the present free value as taken. (log 5, DESIGN CHOICE) -/
def State.tookFree (s : State) : State := { s with fresh := s.fresh + 1 }

/-- Send a message. (log 11, DESIGN CHOICE) -/
def State.send (s : State) (m : Out) : State := { s with out := s.out ++ [m] }

/-- Apply an action if a condition holds. -/
def State.when (s : State) (b : Bool) (f : State → State) : State := if b then f s else s

/-- Clear a list of fields to their reset values. -/
def State.clearFields (s : State) (p : Page) (fs : List Field) : State := fs.foldl (fun s f => s.wr p f f.rst) s

/-- The epoch number, bits [61:14] of hub time (R15). -/
def State.epoch (s : State) : Nat := (s.time.toNat / 2 ^ 14) % 2 ^ 48

/-- A field's bits read as a signed number. -/
def signed (len v : Nat) : Int := if v < 2 ^ (len - 1) then v else (v : Int) - 2 ^ len

/-- A signed number as the bits of a field. -/
def unsigned (len : Nat) (v : Int) : Nat := (v % (2 ^ len : Int)).toNat

/-! Page names. -/

def glb : Page := ⟨.glb, 0⟩
def aon : Page := ⟨.aon, 0⟩
def safe : Page := ⟨.safe, 0⟩
def sec : Page := ⟨.sec, 0⟩
def bist : Page := ⟨.bist, 0⟩
def pathctl : Page := ⟨.pathctl, 0⟩
def sw : Page := ⟨.sw, 0⟩
def shpctl : Page := ⟨.shpctl, 0⟩
def pcie : Page := ⟨.pcie, 0⟩
def bridge : Page := ⟨.bridge, 0⟩
def uhub : Page := ⟨.uhub, 0⟩
def memp : Page := ⟨.mem, 0⟩
def mbx : Page := ⟨.mbx, 0⟩
def lane (n : Nat) : Page := ⟨.lane, n⟩
def link (n : Nat) : Page := ⟨.link, n⟩
def linkCnt (n : Nat) : Page := ⟨.linkCnt, n⟩
def path (k : Nat) : Page := ⟨.path, k⟩
def alm (e : Nat) : Page := ⟨.alm, e⟩
def almSh (e : Nat) : Page := ⟨.almSh, e⟩
def shaper (k : Nat) : Page := ⟨.shaper, k⟩
def pca (n : Nat) : Page := ⟨.pca, n⟩
def disp (n : Nat) : Page := ⟨.disp, n⟩
def dout (n : Nat) : Page := ⟨.dout, n⟩
def eth (n : Nat) : Page := ⟨.eth, n⟩
def pd (n : Nat) : Page := ⟨.pd, n⟩
def mbch (c : Nat) : Page := ⟨.mbch, c⟩

end Sys2Proof.Machine
end

