-- ==== Sys2Proof/Machine/Reset.lean ====
section
/-! DEFINITION. What a block soft reset and a halt do to the queues and buffers that no register holds: the switch's frames and cells (R192, R193, R471), and the freeing of ingress credit buffers (R98). -/

namespace Sys2Proof.Machine

open Reg

/-! ### Ingress credit buffers -/

/-- A credit update for a path ID, 0 for the control pool, falls due at a port (R99). -/
def State.dueCredit (s : State) (port id : Nat) : State :=
  let l := s.creditDue.list port
  if l.contains id then s else { s with creditDue := s.creditDue.setList port (l ++ [id]) }

/-- CR_FREE as it acts, in credits (R99, R111). -/
def State.crFree (s : State) (port : Nat) : Nat := 16 * min 4 (max 1 (s.rd (link port) LK_CREDIT_CR_FREE))

/-- A packet leaves the ingress credit buffer of its tunnel port (R98): GRANT of its path, or of the control pool,
grows by the credits it held; a class 1 packet gives its bytes back to the isochronous region. An update falls due as
soon as CR_FREE has been freed (R99). -/
def State.freeBuf (s : State) (q : QPkt) : State :=
  if 5 < q.inPort || q.icost = 0 then s
  else
    let l := link q.inPort
    match q.cls with
    | 0 =>
      let s := s.wr l LK_CP_GRANT (s.rd l LK_CP_GRANT + q.icost)
      let s := s.wr l LK_CP_FREED (s.rd l LK_CP_FREED + q.icost)
      s.when (s.crFree q.inPort ≤ s.rd l LK_CP_FREED) fun s => s.dueCredit q.inPort 0
    | 1 => s.wr l LK_ISO_USED (s.rd l LK_ISO_USED - 64 * q.icost)
    | _ =>
      let p := path q.entry
      let s := s.wr p PT_W5_GRANT (s.rd p PT_W5_GRANT + q.icost)
      let s := s.wr p PT_FREED (s.rd p PT_FREED + q.icost)
      s.when (s.rd (lane q.inPort) LN_CTRL_MODE < 3 && s.crFree q.inPort ≤ s.rd p PT_FREED) fun s => s.dueCredit q.inPort (s.rd p PT_W0_IN_PATH_ID)

/-! ### The switch -/

/-- Cells of a frame that its output has not taken. -/
def Frame.untaken (f : Frame) : List Cell := f.ents.filterMap fun e => if e.taken then none else e.cell

/-- The four (output, class) keys of an output. -/
def outKeys (k : Nat) : List Nat := [4 * k, 4 * k + 1, 4 * k + 2, 4 * k + 3]

/-- The packets with bytes in some cells. -/
def cellUids (cs : List Cell) : List Nat := (cs.flatMap fun c => c.uids).eraseDups

/-- The packets whose last byte lies in some cells. -/
def cellEnds (cs : List Cell) : List Nat := cs.flatMap fun c => c.ends.map fun q => q.uid

/-- Discard the packets with bytes in some cells at output `k`: those whose last byte is still to come are remembered. -/
def State.killCells (s : State) (k : Nat) (cs : List Cell) : State :=
  let open' := (cellUids cs).filter fun u => !(cellEnds cs).contains u
  { s with dead := s.dead ++ open'.map fun u => 32 * u + k }

/-- Discard every entry queued for output `k` (R192): the cells are counted in SW_CNT_UE, frames being written to the
output end, and its reorder stage keeps only the cells already read. -/
def State.discardOutput (s : State) (k : Nat) : State :=
  let cs := (outKeys k).flatMap fun i => (s.queues.list i).flatMap Frame.untaken
  let s := (s.sat sw SW_CNT_UE cs.length).killCells k cs
  { s with
    queues := s.queues.keep fun i => !(outKeys k).contains i
    progs := s.progs.filter fun g => g.tgt != k
    rel := (outKeys k).foldl (fun r i => r.setList i ((r.list i).filter fun x => x.cell.isSome)) s.rel }

/-- Halt output `k` (R192, R471). -/
def State.haltOutput (s : State) (k : Nat) : State := (s.discardOutput k).wr sw (SW_OUT_OCC_HALTED.nth k) 1

/-- Halt the function that source `n` of the SW page names (R471). -/
def State.haltSwitch (s : State) (n : Nat) : State :=
  let x := s.rd sw (SW_SRC_OUT.nth n)
  if n ≤ 4 then s.haltOutput x
  else if n = 5 then s.wr sw (SW_MC_HALTED.nth x) 1
  else s.wr sw SW_CAP_HALTED 1

/-- Is some function of the switch halted (R471)? -/
def State.swHalted (s : State) : Bool :=
  (List.range 20).any (fun k => s.is sw (SW_OUT_OCC_HALTED.nth k)) || s.is sw SW_CAP_HALTED ||
  (List.range 512).any fun g => s.is sw (SW_MC_HALTED.nth g)

/-- The cells in the buffer, each once: those no target has taken. -/
def State.bufferCells (s : State) : List Cell :=
  let fs := s.queues.flatMap fun e => e.2
  let ids := (fs.map fun f => f.fid).eraseDups
  ids.flatMap fun i =>
    let same := fs.filter fun f => f.fid = i
    (List.range 20).filterMap fun j =>
      same.findSome? fun f => match f.ents[j]? with
        | some e => if e.taken then none else e.cell
        | none => none

/-- A reset of the switch empties it (R193): every cell in the buffer, in a reorder stage or packed at an input is
discarded and counted; packets whose last byte had not entered a frame free their buffers; the capture ring is
emptied. Packets of which nothing was packed keep waiting. -/
def State.emptySwitch (s : State) : State :=
  let packed := s.flows.flatMap fun f => f.cells
  let stage := s.rel.flatMap fun e => e.2.filterMap fun r => r.cell
  let s := s.sat sw SW_CNT_RESET_DISCARD (s.bufferCells.length + packed.length + stage.length)
  let s := (packed.flatMap fun c => c.ends).foldl State.freeBuf s
  { s with flows := [], progs := [], queues := [], rel := [], relOrder := [], dead := [], capture := [], capDrain := [] }

/-! ### PCIe adapters -/

/-- A PCA that holds nothing. -/
def Pca.empty : Pca := ⟨[], [], [], [], [], []⟩

/-- The tables and queues of PCA `n`. -/
def State.pcaOf (s : State) (n : Nat) : Pca := (Tab.find s.pcas n).getD Pca.empty

/-- Set the tables and queues of PCA `n`; an empty PCA is not listed. -/
def State.putPca (s : State) (n : Nat) (p : Pca) : State :=
  { s with pcas := if p = Pca.empty then s.pcas.del n else s.pcas.put n p }

/-- PCA_REQ.OUT, TAG_WAIT, PE_REQ.OUT and PE_POOL.FREE as the tables stand (R234 to R236). -/
def State.pcieTotals (s : State) (n : Nat) : State :=
  let p := s.pcaOf n
  let s := s.wr (pca n) PCA_REQ_OUT p.reqs.length
  let s := s.wr (pca n) PCA_STATE_TAG_WAIT (if 1024 ≤ p.reqs.length && !p.held.isEmpty then 1 else 0)
  let s := s.wr pcie PE_REQ_OUT (s.pcas.map fun e => e.2.reqs.length).sum
  s.wr pcie PE_POOL_FREE (5120 - (s.pcas.map fun e => (e.2.resv.map fun r => r.units).sum).sum)

/-- A UR completion to a requester (R256). -/
def State.urTo (s : State) (n req tag : Nat) : State := (s.send (.ur n req tag)).count (pca n) PCA_CNT_UR_GEN

/-- Discard request table and queues of a PCA (R232): UR completions to every local requester, posted TLPs counted. -/
def State.pcaDiscard (s : State) (n : Nat) : State :=
  let p := s.pcaOf n
  let s := p.reqs.foldl (fun s r => s.urTo n r.req r.tag) s
  let s := p.held.foldl (fun s t => s.urTo n t.req t.tag) s
  let s := ((s.sat (pca n) PCA_CNT_POSTED_DROP p.posted.length).putPca n Pca.empty).pcieTotals n
  (s.wr (pca n) PCA_STATE_CPL_WAIT 0).wr (pca n) PCA_STATE_LOCKED 0

/-! ### Displays -/

/-- An output that holds nothing. -/
def Disp.empty : Disp := ⟨none, [], [], [], [], [], [], [], []⟩

/-- What output `n` holds. -/
def State.dispOf (s : State) (n : Nat) : Disp := (Tab.find s.disps n).getD Disp.empty

/-- Set what output `n` holds; an empty output is not listed. -/
def State.setDisp (s : State) (n : Nat) (d : Disp) : State :=
  { s with disps := if d = Disp.empty then s.disps.del n else s.disps.put n d }

/-! ### Ethernet -/

/-- A port that holds nothing. -/
def Eth.empty : Eth := ⟨[], [], [], [], [], [], []⟩

/-- What Ethernet port `n` holds. -/
def State.ethOf (s : State) (n : Nat) : Eth := (Tab.find s.eths n).getD Eth.empty

/-- Set what port `n` holds; an empty port is not listed. -/
def State.setEth (s : State) (n : Nat) (e : Eth) : State :=
  { s with eths := if e = Eth.empty then s.eths.del n else s.eths.put n e }

/-! ### The embedded USB device -/

/-- Buffer sizes in KiB, in the row order of R309. -/
def epKib (k : Nat) : Nat := [1, 1, 12, 12, 1, 16, 1, 8, 1, 1, 1, 2, 2, 2, 2, 1].getD k 0

/-- Maximum packets in bytes, in the row order of R309. -/
def epMax (k : Nat) : Nat := [64, 64, 512, 512, 64, 800, 4, 400, 16, 64, 64, 512, 512, 0, 0, 0].getD k 0

/-- Bytes of some packets. -/
def packBytes (l : List (List Byte)) : Nat := (l.map fun b => b.length).sum

/-- UH_EP_FILL of a row: bytes held. -/
def State.epFill (s : State) (k : Nat) : Nat :=
  if k = 5 then packBytes (s.usb.play.map fun e => e.2)
  else if k = 7 then packBytes (s.usb.cap.map fun e => e.2)
  else packBytes (s.usb.bufs.list k)

/-- Does an endpoint's buffer have room for `n` bytes? -/
def State.epRoom (s : State) (k n : Nat) : Bool := s.epFill k + n ≤ 1024 * epKib k

/-- A packet enters an endpoint's buffer. -/
def State.usbPush (s : State) (k : Nat) (bs : List Byte) : State :=
  { s with usb := { s.usb with bufs := s.usb.bufs.setList k (s.usb.bufs.list k ++ [bs]) } }

/-- Is the embedded device configured, suspended or not? -/
def State.embConfigured (s : State) : Bool :=
  s.rd uhub UH_STATUS_EMB = 3 || (s.rd uhub UH_STATUS_EMB = 4 && s.rd uhub UH_EMB_PREV = 3)

/-- SRC3_d (R304); 3 acts as 0. -/
def State.src3 (s : State) (d : Nat) : Nat := s.rd uhub (if d = 0 then UH_CFG_SRC3_0 else UH_CFG_SRC3_1) % 3

/-- Is the management function of domain `d` the embedded one (R129, R308)? -/
def State.embMgmt (s : State) (d : Nat) : Bool :=
  s.is uhub UH_CFG_EMB_EN && s.rd uhub UH_CFG_EMB_DOM = d && s.src3 d = 2

/-! ### Block soft reset -/

/-- A block soft reset empties the block's queues and buffers (R470 and the retention rule of each chapter). -/
def State.resetBlockData (s : State) (p : Page) : State :=
  match p.kind with
  | .sw => s.emptySwitch
  | .pca => s.pcaDiscard p.inst
  | .pcie => s.pcieTotals 0
  | .disp => s.setDisp p.inst { Disp.empty with
      cmds := (s.dispOf p.inst).cmds, commits := (s.dispOf p.inst).commits, aux := (s.dispOf p.inst).aux }
  | .eth => s.setEth p.inst Eth.empty
  | .mem => { s with memq := [] }
  | .uhub => { s with usb := Usb.empty }
  | .mbx => { s with events := [] }
  | .bridge => { s with prefetch := [], smb := none }
  | .pd => { s with pdRx := s.pdRx.del p.inst, pdLast := s.pdLast.del p.inst }
  | .dout => s.setDisp p.inst { s.dispOf p.inst with aux := [] }
  | _ => s

end Sys2Proof.Machine
end

