-- ==== Sys2Proof/Machine/BistMap.lean ====
section
/-! DEFINITION. The slices of the field SRAM test (R427 of spec/19_faults_and_selftest.md): the group, the island and the page of the block that each belongs to, and the adapter engines' pages and islands (spec/01_architecture.md). -/

namespace Sys2Proof.Machine

open Reg

/-! ### Adapter engines -/

/-- The page of the block that engine `e` works for, in the order of the allotment table: 8 PCAs, 6 tunnel ports, 4
outputs, 2 retained-command decoders, 2 USB3 domains, 2 Ethernet ports. -/
def enginePage (e : Nat) : Page :=
  if e < 8 then pca e
  else if e < 14 then link (e - 8)
  else if e < 18 then disp (e - 14)
  else if e < 20 then disp (2 * (e - 18))
  else if e < 22 then uhub
  else eth (e - 22)

/-- The island of engine `e`. -/
def engineIsland (e : Nat) : Nat :=
  if e < 8 then 12
  else if e < 14 then 6 + (e - 8)
  else if e < 18 then 13 + (e - 14)
  else if e < 20 then 13 + 2 * (e - 18)
  else 5

/-! ### Slices -/

/-- The group of a slice (R427). -/
def sliceGroup (n : Nat) : Nat :=
  if n < 2560 then n / 64
  else if n < 2704 then 40 + (n - 2560) / 24
  else if n < 2896 then 46 + (n - 2704) / 32
  else if n < 2960 then 52
  else if n < 2976 then 53
  else if n < 3232 then 54 + (n - 2976) / 64
  else if n < 4256 then 58 + (n - 3232) / 64
  else if n < 4448 then 74 + (n - 4256) / 8
  else if n < 4464 then 98
  else if n < 4528 then 99
  else if n < 4656 then 100 + (n - 4528) / 64
  else if n < 4720 then 102
  else if n < 4848 then 103 + (n - 4720) / 64
  else if n < 4880 then 105
  else 106 + (n - 4880) / 30

/-- The island of a group. -/
def groupIsland (g : Nat) : Nat :=
  if g < 40 then 3
  else if g < 46 then 6 + (g - 40)
  else if g < 52 then 6 + (g - 46)
  else if g < 54 then 3
  else if g < 58 then 13 + (g - 54)
  else if g < 74 then 2
  else if g < 98 then engineIsland (g - 74)
  else if g = 98 then 5
  else if g = 99 then 3
  else if g < 102 then 12
  else if g = 102 then 1
  else if g < 105 then 5
  else if g = 105 then 4
  else if g < 113 then 6 + (g - 106)
  else 3

/-- The page of the block that a group belongs to. -/
def groupPage (g : Nat) : Page :=
  if g < 40 then sw
  else if g < 46 then link (g - 40)
  else if g < 52 then link (g - 46)
  else if g = 52 then pathctl
  else if g = 53 then shpctl
  else if g < 58 then disp (g - 54)
  else if g < 74 then mbx
  else if g < 98 then enginePage (g - 74)
  else if g = 98 then uhub
  else if g = 99 then sw
  else if g < 102 then pcie
  else if g = 102 then safe
  else if g < 105 then eth (g - 103)
  else if g = 105 then memp
  else if g < 112 then lane (g - 106)
  else if g = 112 then ⟨.pelane, 0⟩
  else sw

end Sys2Proof.Machine
end

