-- ==== Sys2Proof/Machine/Flags.lean ====
section
/-! DEFINITION. Every flag the common header gives: interrupt status and requests (R55), error sources with their severities, first-fault capture, escalation and grace timer (R51 to R54, R422 to R425), dropped writes (R43, R50), and the block soft reset that a Fatal source starts (R470). -/

namespace Sys2Proof.Machine

open Reg

/-! ### Interrupts -/

/-- Bit `i` of PG_INT_STATUS (R41): 0 ERR, 1 APPLIED, 2 ARM_LATE, 3 WR_DROP, 4 LEVEL_DONE, 8 and up the block's own. -/
def PG_INT (i : Nat) : Field := .one 0x014 i 1 .w1c 0 .b .ordinary

def intErr : Nat := 0
def intApplied : Nat := 1
def intArmLate : Nat := 2
def intWrDrop : Nat := 3
def intLevelDone : Nat := 4

/-- Does the page hold an enabled cause? Its Marionette line stays asserted while it does (R55). -/
def State.intActive (s : State) (p : Page) : Bool :=
  (List.range 32).any fun i => s.is p (PG_INT i) && s.is p (PG_INT_ENABLE_EN.nth i)

/-- The level of Marionette interrupt line `l` (R55): asserted while any page routed to it has an enabled cause. -/
def State.irqLine (s : State) (l : Nat) : Bool :=
  PageKind.all.any fun k => k.hasHeader && (List.range k.count).any fun n =>
    s.is ⟨k, n⟩ PG_VECTOR_MGMT && s.rd ⟨k, n⟩ PG_VECTOR_LINE == l && s.intActive ⟨k, n⟩

/-- Send the message of MSI-X entry `e` of domain `d`'s management function, or set its pending bit (R55). With the
embedded function a 4 B message on EP2 IN replaces it (R308). With no host attached nothing is sent. (log 20, PRESUMED) -/
def State.sendMsix (s : State) (d e : Nat) : State :=
  let masked := s.is glb (GLB_MSIX_MASKED.nth (512 * d + e))
  let pend := s.wr glb (GLB_MSIX_PENDING.nth (512 * d + e)) 1
  if s.embMgmt d then
    if !s.embConfigured then s
    else if masked || !s.epRoom 4 4 then pend
    else s.usbPush 4 [BitVec.ofNat 8 e, BitVec.ofNat 8 (e / 256), 0, 0]
  else if !s.is pathctl (PC_DOM_BOUND.nth d) then s
  else if s.is glb (GLB_MSIX_ENABLED.nth d) && !masked then s.send (.msix d e)
  else pend

/-- Request the page's interrupt (R55). With MGMT = 1 the line's level follows the status bits and nothing is sent. -/
def State.request (s : State) (p : Page) : State :=
  if s.is p PG_VECTOR_MGMT then s else s.sendMsix (s.rd p PG_VECTOR_HOST % 2) (s.rd p PG_VECTOR_MSIX % 512)

/-- The pending messages that the present masks and enable let out go (R55). (log 20, PRESUMED) -/
def State.releaseMsix (s : State) (d : Nat) : State :=
  (List.range 512).foldl (fun s e =>
    s.when (s.is glb (GLB_MSIX_PENDING.nth (512 * d + e)) && !s.is glb (GLB_MSIX_MASKED.nth (512 * d + e)) &&
      (s.embMgmt d || s.is glb (GLB_MSIX_ENABLED.nth d))) fun s =>
      (s.wr glb (GLB_MSIX_PENDING.nth (512 * d + e)) 0).sendMsix d e) s

/-- Set bit `i` of PG_INT_STATUS; a bit that becomes set while enabled requests the interrupt (R55). -/
def State.setInt (s : State) (p : Page) (i : Nat) : State :=
  let fresh := !s.is p (PG_INT i) && s.is p (PG_INT_ENABLE_EN.nth i)
  (s.wr p (PG_INT i) 1).when fresh fun s => s.request p

/-! ### Block soft reset -/

/-- Return to their reset values the registers and internal fields whose page and class meet `q`. -/
def State.resetWhere (s : State) (q : Page → Cls → Bool) : State :=
  let stay := fun k => match clsOfKey k with
    | some (p, c) => !q p c
    | none => true
  { s with regs := s.regs.keep stay, act := s.act.keep stay }

/-- The SH fields that a page's PG_SHADOW_CTRL arms (R47): all of the page, but LK_PAIR, which LK_PAIR_SCTRL arms. -/
def shFields (p : Page) : List Field :=
  p.kind.blockFields.filter fun f => f.acc = .sh && f != LK_PAIR_PAD_EN

/-- Copy the shadow copies of some fields into their active values (R49). -/
def State.applyFields (s : State) (p : Page) (fs : List Field) : State :=
  fs.foldl (fun s f => (List.range f.cnt).foldl (fun s i => s.wrA p (f.nth i) (s.rd p (f.nth i))) s) s

/-- Give shadow copies and active values of some fields their reset values (R50). -/
def State.resetShadow (s : State) (p : Page) (fs : List Field) : State :=
  fs.foldl (fun s f => (List.range f.cnt).foldl
    (fun s i => (s.wr p (f.nth i) f.rst).wrA p (f.nth i) f.rst) s) s

/-- The page on which an ALM shadow page's settings govern; other pages govern themselves. -/
def activeOf (p : Page) : Page := if p.kind = .almSh then ⟨.alm, p.inst⟩ else p

/-- Disarm a page as a reset does (R50): if it was armed, shadow copies and active values take their reset values. -/
def State.resetArm (s : State) (p : Page) : State :=
  let s := s.when (s.is p PG_SHADOW_CTRL_ARMED) fun s =>
    let s := s.resetShadow p (shFields p)
    s.when (p.kind = .almSh) fun s => s.clearFields ⟨.alm, p.inst⟩ almAllocFields
  let s := s.when (p.kind = .link && s.is p LK_PAIR_SCTRL_ARMED) fun s => s.resetShadow p pairFields
  (s.wr p PG_SHADOW_CTRL_ARMED 0).when (p.kind = .link) fun s => s.wr p LK_PAIR_SCTRL_ARMED 0

/-- A block soft reset begins (R470): the page is disarmed, its Block class takes its reset values, and the block's
queues are emptied. (log 24, DEDUCED) -/
def State.resetPage (s : State) (p : Page) : State :=
  if s.is p PG_STATUS_IN_RESET then s
  else
    let s := s.resetArm p
    let s := (s.resetWhere fun q c => q = p && c = .block).resetBlockData p
    (s.wr p PG_STATUS_IN_RESET 1).wr p PG_CTRL_SRST 1

/-! ### Error sources -/

/-- The highest severity that acts on a page (R422). -/
def capSev (p : Page) : Nat := if p.kind.info.notifyCap then 1 else 3

/-- Does a page merge a repeat rather than escalate it (R54, R425)? -/
def State.merging (s : State) (p : Page) : Bool :=
  !s.is mbx MB_FW_FW_READY || s.is p PG_STATUS_IN_RESET || s.is glb GLB_LBIST_RUNNING ||
  match p.kind with
  | .lane => let st := s.rd p LN_STATUS_STATE; (1 ≤ st && st ≤ 6) || st = 8
  | .link => s.is p LK_IN_RESET
  | .pd => s.is p PD_RECOVERY
  | _ => false

/-- Halt the affected function of source `n` of a page (R51): CONTAINED reads 1, an output page goes idle (R285), and
the switch halts what R471 names. (log 22, DEDUCED) -/
def State.contain (s : State) (p : Page) (n : Nat) : State :=
  let s := s.wr p PG_STATUS_CONTAINED 1
  match p.kind with
  | .disp => s.wr p DISP_STATUS_STATE 5
  | .sw => s.haltSwitch n
  | _ => s

/-- The effect of source `n` at effective severity `v` (R51); `reset` is how a block soft reset starts. -/
def State.sevEffect (s : State) (reset : State → Page → State) (p : Page) (n v : Nat) : State :=
  let s := s.when (1 ≤ v) fun s => s.setInt p intErr
  if v = 2 then s.contain p n else if v = 3 then reset s p else s

/-- Is some unacknowledged source of the page at Notify or Contain (R53)? -/
def State.graceNeeded (s : State) (p : Page) : Bool :=
  (List.range p.kind.info.nsrc).any fun n =>
    s.is p (PG_ERR_STATUS_SRC.nth n) && (s.rd p (PG_EFF_SEV.nth n) = 1 || s.rd p (PG_EFF_SEV.nth n) = 2)

/-- Start the grace timer if it is stopped and needed; stop it when nothing needs it (R53). -/
def State.graceUpdate (s : State) (p : Page) : State :=
  if s.graceNeeded p then
    if s.is p PG_ERR_GRACE_REMAIN then s
    else (s.wr p PG_ERR_GRACE_REMAIN (s.rd p PG_ERR_GRACE_GRACE)).wr p PG_GRACE_TIME s.clock
  else s.wr p PG_ERR_GRACE_REMAIN 0

/-- Is source `n` the one captured in PG_ERR_FIRST (R52)? -/
def State.captured (s : State) (p : Page) (n : Nat) : Bool :=
  s.is p PG_ERR_FIRST_VALID && s.rd p PG_ERR_FIRST_SOURCE = n

/-- Capture source `n` as the page's first fault (R52). -/
def State.captureErr (s : State) (p : Page) (n v : Nat) : State :=
  ((((((s.wr p PG_ERR_FIRST_VALID 1).wr p PG_ERR_FIRST_MERGED 0).wr p PG_ERR_FIRST_EFF_SEV v).wr p
    PG_ERR_FIRST_SOURCE n).wr p PG_ERR_FIRST_COUNT 1).wr p PG_ERR_FIRST_EPOCH_LO (s.epoch % 65536))

/-- Source `n` escalates one level (R53, R54): ESC is set, and below the highest level its effect moves up (R423). -/
def State.escalateBy (s : State) (reset : State → Page → State) (p : Page) (n : Nat) : State :=
  let v := s.rd p (PG_EFF_SEV.nth n)
  let s := s.wr p (PG_ERR_STATUS_ESC.nth n) 1
  if (capSev p) ≤ v then s
  else
    let s := s.wr p (PG_EFF_SEV.nth n) (v + 1)
    let s := s.when (s.captured p n) fun s => s.wr p PG_ERR_FIRST_EFF_SEV (v + 1)
    (s.sevEffect reset p n (v + 1)).graceUpdate p

/-- Raise error source `n` of a page (R51, R52, R54). -/
def State.raiseBy (s : State) (reset : State → Page → State) (p : Page) (n : Nat) : State :=
  if s.is p (PG_ERR_STATUS_SRC.nth n) then
    let s := s.when (s.captured p n) fun s => s.count p PG_ERR_FIRST_COUNT
    if s.merging p then s.when (s.captured p n) fun s => s.wr p PG_ERR_FIRST_MERGED 1
    else s.escalateBy reset p n
  else
    let v := min (s.rd p (p.sevField n)) (capSev p)
    let s := (s.wr p (PG_ERR_STATUS_SRC.nth n) 1).wr p (PG_EFF_SEV.nth n) v
    let s := s.when (!s.is p PG_ERR_FIRST_VALID) fun s => s.captureErr p n v
    (s.sevEffect reset p n v).graceUpdate p

/-! ### A slice test that is cut short (R431) -/

/-- The test of the slice ends: nothing is under test, and the next slice of the sweep shows. -/
def State.sliceIdle (s : State) : State :=
  let s := s.when (s.is bist BIST_IS_RUN) fun s => s.wr bist BIST_SLICE_STS_RUN_BUSY 0
  let s := (s.clearFields bist [BIST_SLICE_STS_RUNNING, BIST_SLICE_STS_PHASE, BIST_IS_RUN])
  s.wr bist BIST_SLICE_STS_SLICE (s.rd bist BIST_POS)

/-- Is a slice under test whose group meets `q`? -/
def State.sliceIn (s : State) (q : Nat → Bool) : Bool :=
  s.is bist BIST_SLICE_STS_RUNNING && q (sliceGroup (s.rd bist BIST_SLICE_STS_SLICE))

/-- A reset of a slice's island or block ends its test at once: it is counted, and SLICE_ABORT is raised, merged. (log 110, DEDUCED) -/
def State.sliceAbort (s : State) : State :=
  let s := s.sliceIdle.count bist BIST_CNT_ABORT
  if s.is bist (PG_ERR_STATUS_SRC.nth 2) then
    s.when (s.captured bist 2) fun s => (s.count bist PG_ERR_FIRST_COUNT).wr bist PG_ERR_FIRST_MERGED 1
  else s.raiseBy State.resetPage bist 2

/-- A block soft reset (R470). A slice test of the block is cut short; that of the BIST page waits for the slice under
test (R431). -/
def State.softReset (s : State) (p : Page) : State :=
  if p = bist && s.is bist BIST_SLICE_STS_RUNNING then s.wr bist BIST_RESET_DUE 1
  else if s.is p PG_STATUS_IN_RESET then s
  else (s.when (s.sliceIn fun g => groupPage g = p) State.sliceAbort).resetPage p

/-- Source `n` escalates one level. -/
def State.escalate (s : State) (p : Page) (n : Nat) : State := s.escalateBy State.softReset p n

/-- Raise error source `n` of a page. -/
def State.raise (s : State) (p : Page) (n : Nat) : State := s.raiseBy State.softReset p n

/-- Acknowledge source `n` (R52, R53): its SRC and ESC bits clear, and the capture if it is the captured source. -/
def State.ackErr (s : State) (p : Page) (n : Nat) : State :=
  let s := s.when (s.captured p n) fun s => s.wr p PG_ERR_FIRST_VALID 0
  let s := ((s.wr p (PG_ERR_STATUS_SRC.nth n) 0).wr p (PG_ERR_STATUS_ESC.nth n) 0).wr p (PG_EFF_SEV.nth n) 0
  s.graceUpdate p

/-! ### Dropped writes -/

/-- PG_STATUS.DROP_SRC of an initiator (R41); the Ngunov island takes the code that BR_LD_STATUS gives it, and JTAG
counts as Marionette. (log 12, DESIGN CHOICE; log 55, DEDUCED) -/
def initCode : Initiator → Nat
  | .host0 => 0
  | .host1 => 1
  | .marionette => 2
  | .smbus => 3
  | .remote => 4
  | .engineOwn | .engineOther => 5
  | .ngunov => 6
  | .jtag => 2

/-- A refused write is dropped: cause and initiator are recorded and WR_DROP is set (R43, R50). A write to an SX page
also raises WRITE_DENIED and records where it came from (R43, R367). (log 14, DEDUCED) -/
def State.drop (s : State) (p : Page) (who : Initiator) (why addr : Nat) : State :=
  let s := ((s.wr p PG_STATUS_DROP_WHY why).wr p PG_STATUS_DROP_SRC (initCode who)).setInt p intWrDrop
  s.when (why = 4) fun s =>
    let s := (s.wr safe SF_WD_ADDR_ADDR addr).wr safe SF_WD_ADDR_SRC (initCode who)
    (s.count safe SF_WD_CNT).raise safe 0

end Sys2Proof.Machine
end

