-- ==== Sys2Proof/Machine/Operands.lean ====
section
/-! DEFINITION. The operand forms of register accesses: which write is accepted (R43 to R46, R50), what a word reads as (R6, R38, R39, R41), and the ranges outside which a setting acts as another value. -/

namespace Sys2Proof.Machine

open Reg

/-! ### Settings that act as another value -/

/-- A setting whose 0 acts as 1. -/
def orOne (v : Nat) : Nat := if v = 0 then 1 else v

/-- A setting that acts as `lo` below its range and as `hi` above it. -/
def clamp (lo hi v : Nat) : Nat := if v < lo then lo else if hi < v then hi else v

/-- Does Moabeuc carry out requests (R18, R441)? (log 9, DESIGN CHOICE) -/
def State.moabeuc (s : State) : Bool := s.is mbx MB_FW_FW_READY && !s.is glb GLB_MOABEUC_HALTED

/-! ### Which write is accepted -/

/-- Is bit address `b` of a page one of its block's, not of its header (R40, R41)? A table window carries no header. (log 13, DEDUCED) -/
def blockBit (p : Page) (b : Nat) : Bool := !p.kind.hasHeader || decide (0x080 * 8 ≤ b)

/-- The values of an island mask (R16): bit `i` of GLB_ISL_PWR, CLK and RST. -/
def State.islandUp (s : State) (i : Nat) : Bool :=
  s.rdBit glb GLB_ISL_PWR_PWR i && s.rdBit glb GLB_ISL_CLK_CLK_OK i && !s.rdBit glb GLB_ISL_RST_IN_RESET i

/-- Does the page lie in an island that is powered down, clock-stopped or in reset (R14)? (log 28, DEDUCED) -/
def State.gated (s : State) (p : Page) : Bool :=
  match p.island with
  | some i => !s.islandUp i
  | none => false

/-- An access to a gated island (R14): its address and direction are stored, it is counted, and GATED_ACCESS raised. -/
def State.gatedAccess (s : State) (addr : Nat) (write : Bool) : State :=
  let s := (s.wr glb GLB_GATED_ADDR_WRITE (if write then 1 else 0)).wr glb GLB_GATED_ADDR_ADDR addr
  (s.count glb GLB_GATED_CNT).raise glb 0

/-- External initiators of R46: EXT_LOCK drops their writes. -/
def isExternal : Initiator → Bool
  | .host0 | .host1 | .smbus | .remote | .engineOwn | .engineOther => true
  | _ => false

/-- Fields that a locked page leaves writable (R46): W1C fields, PG_INT_ENABLE, and the ARM and CANCEL bits. (log 16, DEDUCED) -/
def lockExempt (f : Field) : Bool :=
  f.acc = .w1c || f.bit / 32 = 6 || f.acc = .wo ||
  f = PG_SHADOW_CTRL_ARM || f = PG_SHADOW_CTRL_CANCEL || f = LK_PAIR_SCTRL_ARM || f = LK_PAIR_SCTRL_CANCEL

/-- Do the page's lock bits drop this initiator's write (R46)? -/
def State.locked (s : State) (p : Page) (who : Initiator) : Bool :=
  p.kind.hasHeader && (s.is p PG_LOCK_ALL_LOCK || (s.is p PG_LOCK_EXT_LOCK && isExternal who))

/-- The page whose level, locks and arm govern a table window (R40). (log 13, DEDUCED) -/
def headerOf (p : Page) : Page :=
  match p.kind with
  | .path => pathctl
  | .shaper => shpctl
  | _ => p

/-- PG_CTRL.EXPERT as it stands: fixed at 0 without an expert level, at 1 without a basic one (R41). -/
def State.expert (s : State) (p : Page) : Bool :=
  let h := headerOf p
  if h.kind.info.expert = 0 then false else if h.kind.info.basic = 0 then true else s.is h PG_CTRL_EXPERT

/-- Does R44 refuse this initiator the field at the page's level? -/
def State.levelRefused (s : State) (p : Page) (who : Initiator) (f : Field) : Bool :=
  let mar := who = .marionette || who = .jtag
  who = .engineOther || (f.lvl = .x && (if s.expert p then mar else !mar))

/-- Is the field one of the debug registers of the SEC page, which JTAG may write (R419)? -/
def isDbgField (f : Field) : Bool := f.bit / 8 = 0x0A8 || f.bit / 8 = 0x1E0 || f.bit / 32 = 0x0A8 / 4

/-- Who may write the request registers of mailbox channel `c` (R442). -/
def channelWriter (c : Nat) (who : Initiator) : Bool :=
  match who with
  | .host0 => c = 0 || c = 4 || c = 15
  | .host1 => c = 1 || c = 5 || c = 15
  | .smbus => c = 2 || c = 15
  | .marionette => (6 ≤ c && c ≤ 15)
  | _ => false

/-- Rights that a page's own chapter sets (R399, R419, R442); a write against them is dropped with DROP_WHY = 2. (log 32, DEDUCED) -/
def rightsRefused (p : Page) (who : Initiator) (f : Field) : Bool :=
  match p.kind with
  | .aon => f.bit / 32 = 0x080 / 4 && who != .marionette
  | .sec => 0x080 * 8 ≤ f.bit && !(who = .marionette || (who = .jtag && isDbgField f))
  | .mbch => 0x080 * 8 ≤ f.bit && f.bit < 0x800 * 8 && !channelWriter p.inst who
  | _ => false

/-- Is the shadow that field `f` belongs to armed (R50)? -/
def State.shadowArmed (s : State) (p : Page) (f : Field) : Bool :=
  if p.kind = .link && (f = LK_PAIR_PAD_EN || f.bit / 32 = 0x090 / 4) then s.is p LK_PAIR_SCTRL_ARMED
  else s.is (headerOf p) PG_SHADOW_CTRL_ARMED

/-- Why a write of one field is refused; 0 when it is accepted. The highest cause that holds is the one recorded (R50):
4 SX, 3 lock, 2 level or rights, 1 armed shadow. (log 14, DEDUCED) -/
def State.refusal (s : State) (p : Page) (who : Initiator) (f : Field) : Nat :=
  let armedHere := s.shadowArmed p f &&
    (f.acc = .sh || f = PG_SHADOW_CTRL_TARGET || f = LK_PAIR_SCTRL_TARGET || f = PG_SHADOW_CTRL_ARM || f = LK_PAIR_SCTRL_ARM)
  if p.kind = .safe && who != .ngunov then 4
  else if s.locked (headerOf p) who && !lockExempt f then 3
  else if s.levelRefused p who f || rightsRefused p who f then 2
  else if armedHere then 1
  else 0

/-! ### Words and their fields -/

/-- The bits of a word that a byte-enable mask lets through (R39). -/
def enableMask (be : Nat) : Nat :=
  ((List.range 4).map fun b => if be.testBit b then 255 * 256 ^ b else 0).sum

/-- A field of a word after a write: enabled bits come from the written word, the others from the old value (R39). -/
def mergeBits (lo len be old word : Nat) : Nat :=
  let m := enableMask be >>> lo % 2 ^ len
  Nat.lor (Nat.land old (2 ^ len - 1 - m)) (Nat.land (word >>> lo) m)

/-- Does a write touch some bit of a field? -/
def touches (lo len be : Nat) : Bool := enableMask be >>> lo % 2 ^ len != 0

/-! ### What a word reads as -/

/-- The number of indices `i` of an array whose element lies in the 32-bit word at bit `32 * w` of the page. -/
def elemsIn (f : Field) (w : Nat) : List Nat :=
  if f.cnt = 1 then (if f.bit / 32 = w then [0] else [])
  else (List.range f.cnt).filter fun i => (f.bit + i * f.stride) / 32 = w

end Sys2Proof.Machine
end

