-- ==== Sys2Proof/Machine/MemOps.lean ====
section
/-! DEFINITION. The LPDDR5X memory's shared operations (R333 to R341 of spec/14_ethernet_and_memory.md): reads and writes of its clients, tolerance reports, and the figures measured over each millisecond. -/

namespace Sys2Proof.Machine

open Reg

/-- Is a page's block at work: its island is not gated (R14), it is enabled (R469) and not in a block soft reset? (log 9, DESIGN CHOICE) -/
def State.works (s : State) (p : Page) : Bool :=
  !s.gated p && s.is p p.enableField && !s.is p PG_STATUS_IN_RESET

/-- The DRAM answers accesses: it is not off, training or failed (R334, R341). -/
def State.dramUp (s : State) : Bool :=
  !s.gated memp && 2 ≤ s.rd memp MEM_STATUS_STATE && s.rd memp MEM_STATUS_STATE ≤ 4

/-- Bytes below USABLE (R333). -/
def State.usable (s : State) : Nat := s.rd memp MEM_CAP_USABLE * 2 ^ 20

/-- ADDR_ERR (R333, R342). -/
def State.addrErr (s : State) : State := s.raise memp 4

/-! ### Figures of the last millisecond -/

/-- Count the time since MEM_SINCE, up to `t`, in self-refresh or power-down. -/
def State.memAccrue (s : State) (t : Nat) : State :=
  let st := s.rd memp MEM_STATUS_STATE
  let d := t - s.rd memp MEM_SINCE
  let s := s.when (st = 4) fun s => s.sat memp MEM_SR_NS d
  let s := s.when (st = 3) fun s => s.sat memp MEM_PD_NS d
  s.wr memp MEM_SINCE t

/-- Bring MEM_BW_k and MEM_RES up to the present time (R341); the milliseconds are those of the clock. (log 90, DEDUCED) -/
def State.memRoll (s : State) : State :=
  let now := s.clock
  let w := s.rd memp MEM_WINDOW
  if now / 1000000 = w then s.memAccrue now
  else
    let st := s.rd memp MEM_STATUS_STATE
    let next := now / 1000000 = w + 1
    let s := s.memAccrue ((w + 1) * 1000000)
    let sr := if next then s.rd memp MEM_SR_NS / 1000 else if st = 4 then 1000 else 0
    let pdn := if next then s.rd memp MEM_PD_NS / 1000 else if st = 3 then 1000 else 0
    let s := (s.wr memp MEM_RES_SR_US sr).wr memp MEM_RES_PD_US pdn
    let s := (List.range 8).foldl (fun s k =>
      (s.wr memp (MEM_BW_UNITS.nth k) (if next then s.rd memp (MEM_MOVED.nth k) else 0)).wr memp (MEM_MOVED.nth k) 0) s
    let s := ((s.wr memp MEM_SR_NS 0).wr memp MEM_PD_NS 0).wr memp MEM_WINDOW (now / 1000000)
    (s.wr memp MEM_SINCE (now / 1000000 * 1000000)).memAccrue now

/-- The controller's state changes. -/
def State.memState (s : State) (st : Nat) : State := s.memRoll.wr memp MEM_STATUS_STATE st

/-- A request is served: the controller is active (R338), and the units it moves count for its client. -/
def State.memTouch (s : State) (k n : Nat) : State :=
  let s := s.memRoll
  let s := s.when (3 ≤ s.rd memp MEM_STATUS_STATE && s.rd memp MEM_STATUS_STATE ≤ 4) fun s => s.wr memp MEM_STATUS_STATE 2
  (s.sat memp (MEM_MOVED.nth k) ((n + 63) / 64)).wr memp MEM_BUSY s.clock

/-! ### Accesses -/

/-- Client `k` writes bytes from address `a` on: what lies at or above USABLE, or meets a failed controller, is dropped
with ADDR_ERR (R333, R334). -/
def State.memWrite (s : State) (k a : Nat) (bs : List Byte) : State :=
  if s.dramUp then
    let room := s.usable - a
    let s := s.memTouch k bs.length
    let s := { s with dram := Mem.writeList 0 s.dram a (bs.take room) }
    s.when (room < bs.length) State.addrErr
  else s.when (s.rd memp MEM_STATUS_STATE = 5) State.addrErr

/-- The bytes that a client reads: zeros at or above USABLE, and from a controller that is not up (R333, R334). -/
def State.memBytes (s : State) (a n : Nat) : List Byte :=
  if s.dramUp then
    let room := min n (s.usable - a)
    Mem.readList 0 s.dram a room ++ List.replicate (n - room) 0
  else List.replicate n 0

/-- What a read by client `k` does besides returning `memBytes`. -/
def State.memRead (s : State) (k a n : Nat) : State :=
  if s.dramUp then (s.memTouch k n).when (s.usable < a + n) State.addrErr
  else s.when (s.rd memp MEM_STATUS_STATE = 5) State.addrErr

/-- Client `k` reports a latency tolerance in units of 128 ns (R282, R336). -/
def State.memReport (s : State) (k tol : Nat) : State :=
  (s.wr memp (MEM_CLIENT_TOL.nth k) (min tol 0xFFFFF)).wr memp (MEM_LT_TIME.nth k) s.clock

/-- The deadline of client `k` (R338); none for a saturated report. -/
def State.memDeadline (s : State) (k : Nat) : Option Nat :=
  let t := s.rd memp (MEM_CLIENT_TOL.nth k)
  if t = 0xFFFFF then none else some (s.rd memp (MEM_LT_TIME.nth k) + 128 * t)

/-- How far away the earliest deadline is, in ns; `none` when no client has one. -/
def State.memSlack (s : State) : Option Nat :=
  (List.range 8).foldl (fun m k => match s.memDeadline k, m with
    | none, m => m
    | some d, none => some (d - s.clock)
    | some d, some x => some (min x (d - s.clock))) none

/-- Is the earliest deadline at least `n` ns away? -/
def State.slackAtLeast (s : State) (n : Nat) : Bool :=
  match s.memSlack with
  | none => true
  | some d => n ≤ d

/-- CRC-32 of IEEE 802.3, one bit at a time, reflected. (log 68, PRESUMED) -/
def crc32Byte (c : Nat) (b : Byte) : Nat :=
  (List.range 8).foldl (fun c _ => if c % 2 = 1 then Nat.xor (c / 2) 0xEDB88320 else c / 2) (Nat.xor c b.toNat)

/-- Take bytes into a running CRC-32, which starts at all ones and is complemented at the end. (log 68, PRESUMED) -/
def crc32Run (c : Nat) (bs : List Byte) : Nat := bs.foldl crc32Byte c

/-- The value of a running CRC-32. -/
def crc32End (c : Nat) : Nat := 0xFFFFFFFF - c % 2 ^ 32

end Sys2Proof.Machine
end

