-- ==== Sys2Proof/Machine/SwitchOps.lean ====
section
/-! DEFINITION. The path table lookup, the switch core and header capture: how a packet finds its entry (R139, R154), becomes ready (R178, R204), is packed into cells and frames (R168 to R174), is read, released and staged (R175, R176, R203), and how captures are written (R186 to R189). -/

namespace Sys2Proof.Machine

open Reg

/-! ### Ends, links and paths -/

/-- The fabric port of an end (R7, R8). -/
def fpOf (code pathId : Nat) : Nat :=
  if code ≤ 5 then 2 * code + pathId % 2
  else if code ≤ 0x0B then 12
  else if code ≤ 0x0F then 13
  else if code ≤ 0x13 then code - 2
  else if code = 0x14 then 18
  else 19

/-- Credits a packet costs (R97). -/
def creditsOf (len : Nat) : Nat := (16 + len + 63) / 64

/-- Units of 16 B a packet takes in the replay buffer (R95). -/
def unitsOf (len : Nat) : Nat := (16 + len + 15) / 16

/-- LN_CTRL.MODE of a tunnel port. -/
def State.mode (s : State) (port : Nat) : Nat := s.rd (lane port) LN_CTRL_MODE

/-- Does the port run a Kloyr link, Fysoelo or KH520 legacy? -/
def State.kloyr (s : State) (port : Nat) : Bool := s.mode port = 1 || s.mode port = 2

/-- Is the port in a USB4 mode? (log 47, DEDUCED) -/
def State.usb4 (s : State) (port : Nat) : Bool := 3 ≤ s.mode port && s.mode port ≤ 5

/-- Is the port's link up (R468)? -/
def State.linkUp (s : State) (port : Nat) : Bool :=
  let st := s.rd (lane port) LN_STATUS_STATE
  st = 7 || (st = 10 && s.is (lane port) LN_STD_UP)

/-- Path table entries that are not FREE, by rising index. -/
def State.entries (s : State) : List Nat :=
  s.regs.filterMap fun e =>
    if 8 * 0x300000 ≤ e.1 && e.1 < 8 * 0x340000 && e.1 % 256 = 30 then some ((e.1 - 8 * 0x300000) / 256) else none

/-- The entries in ACTIVE or DEL with a key (R139). -/
def State.keyed (s : State) (port pathId : Nat) : List Nat :=
  s.entries.filter fun k =>
    (s.rd (path k) PT_W0_STATE = 1 || s.rd (path k) PT_W0_STATE = 3) &&
    s.rd (path k) PT_W0_IN_PORT = port && s.rd (path k) PT_W0_IN_PATH_ID = pathId

/-- The entry that a key finds: a backup is found only where no other entry shares its key (R138, R153). -/
def State.lookup (s : State) (port pathId : Nat) : Option Nat :=
  let ks := s.keyed port pathId
  match ks.find? fun k => s.rd (path k) PT_W0_PROT != 2 with
  | some k => some k
  | none => ks.head?

/-- Do two entries have the same key? -/
def State.sameKey (s : State) (a b : Nat) : Bool :=
  s.rd (path a) PT_W0_IN_PORT = s.rd (path b) PT_W0_IN_PORT &&
  s.rd (path a) PT_W0_IN_PATH_ID = s.rd (path b) PT_W0_IN_PATH_ID

/-- Do two entries have the same egress? -/
def State.sameEgress (s : State) (a b : Nat) : Bool :=
  s.rd (path a) PT_W1_OUT_PORT = s.rd (path b) PT_W1_OUT_PORT &&
  s.rd (path a) PT_W1_OUT_PATH_ID = s.rd (path b) PT_W1_OUT_PATH_ID

/-- The usable backup of a working head-end entry (R153, R154). -/
def State.backupOf (s : State) (k : Nat) : Option Nat :=
  let b := s.rd (path k) PT_W4_PARTNER
  if s.rd (path k) PT_W0_PROT = 1 && s.is (path k) PT_W4_PV && s.rd (path b) PT_W0_STATE = 1 &&
      s.rd (path b) PT_W0_PROT = 2 && s.is (path b) PT_W4_PV && s.rd (path b) PT_W4_PARTNER = k &&
      s.sameKey k b && !s.is (path b) PT_W0_DOWN then some b else none

/-- The entry whose sender counters a packet of entry `k` uses: at a tail-end, the working entry's (R153). -/
def State.creditEntry (s : State) (k : Nat) : Nat :=
  let w := s.rd (path k) PT_W4_PARTNER
  if s.rd (path k) PT_W0_PROT = 2 && s.is (path k) PT_W4_PV && s.rd (path w) PT_W0_PROT = 1 && s.sameEgress k w
  then w else k

/-- May `cost` be sent under cumulative counters (R98)? All comparisons are modulo 2^32. -/
def creditOk (used cost limit : Nat) : Bool := (limit + 2 ^ 33 - used - cost) % 2 ^ 32 < 2 ^ 31

/-! ### Multicast groups -/

/-- A word of a group's active copy (R183). -/
def State.mcWord (s : State) (g w : Nat) : Nat := (Tab.find s.mcAct (64 * g + w)).getD 0

/-- Set a word of a group's active copy. -/
def State.setMc (s : State) (g w v : Nat) : State := { s with mcAct := putField s.mcAct (64 * g + w) (v % 2 ^ 32) 0 }

/-- The applied members of a group: number, port code and egress path ID (R183). -/
def State.members (s : State) (g : Nat) : List (Nat × Nat × Nat) :=
  (List.range 20).filterMap fun m =>
    let w := s.mcWord g (4 + 3 * m)
    if w / 2 ^ 31 = 1 then some (m, w / 2 ^ 26 % 32, w % 65536) else none

/-- Is the group in use, with an applied member, and not halted (R184, R471)? -/
def State.groupOk (s : State) (g : Nat) : Bool :=
  s.mcWord g 0 / 2 ^ 31 = 1 && !(s.members g).isEmpty && !s.is sw (SW_MC_HALTED.nth g)

/-- The members that are not skipped (R185). (log 45, DEDUCED) -/
def State.liveMembers (s : State) (g : Nat) : List (Nat × Nat × Nat) :=
  (s.members g).filter fun m => !s.is sw (SW_MC_DOWN.nth (20 * g + m.1)) && (5 < m.2.1 || s.linkUp m.2.1)

/-- The outputs that a flow's target stands for: an output, or 32 + group (R171). -/
def State.targets (s : State) (tgt : Nat) : List Nat :=
  if tgt < 32 then [tgt] else (s.liveMembers (tgt - 32)).map fun m => fpOf m.2.1 m.2.2

/-! ### Header capture -/

/-- The low `n` bytes of a number, lowest first. -/
def leBytes (n v : Nat) : List Byte := (List.range n).map fun i => BitVec.ofNat 8 (v / 256 ^ i)

/-- The low `n` bytes of a number, highest first. -/
def beBytes (n v : Nat) : List Byte := (leBytes n v).reverse

/-- A number from bytes, the first the least significant. -/
def leNat : List Byte → Nat
  | [] => 0
  | b :: t => b.toNat + 256 * leNat t

/-- One bit of CRC-16 (R87). -/
def crcBit (c : Nat) (b : Bool) : Nat :=
  if (c.testBit 15) != b then Nat.xor (2 * c % 65536) 0x1021 else 2 * c % 65536

/-- CRC-16 of header bytes, most significant bit first (R87). -/
def crc16 (bs : List Byte) : Nat :=
  bs.foldl (fun c b => (List.range 8).foldl (fun c i => crcBit c (b.toNat.testBit (7 - i))) c) 0xFFFF

/-- The 16 B header of a packet (R87); `pb` is PB_ACK in KH520 legacy mode. -/
def header (p : Pkt) (pb : Option Nat) : List Byte :=
  let ty := match p.body with | .data .. => 1 | .ctrl _ => 2
  let dw0 := ty * 2 ^ 28 + p.cls * 2 ^ 26 + (if p.seald then 2 ^ 25 else 0) + p.len * 2 ^ 16 +
    (if pb.isSome then 2 ^ 15 else 0) + p.seq
  let (dw1, dw2) := match p.body with
    | .data pid ad ctr _ => (pid * 65536 + ad, if p.seald then ctr else 0)
    | .ctrl c => (c.dest * 65536 + c.src, c.cop * 2 ^ 24 + c.ttl * 65536 + (if c.rsp then 2 ^ 15 else 0) +
        c.dom * 2 ^ 14 + c.status * 2 ^ 10 + c.tag)
  let b := beBytes 4 dw0 ++ beBytes 4 dw1 ++ beBytes 4 dw2 ++ beBytes 2 (pb.getD 0)
  b ++ beBytes 2 (crc16 b)

/-- The payload bytes of a packet. -/
def payload (p : Pkt) : List Byte :=
  match p.body with
  | .data _ _ _ bs => bs
  | .ctrl c => c.words.flatMap fun w => beBytes 4 w

/-- Entries in the capture ring (R188). -/
def State.ringSize (s : State) : Nat :=
  if s.is sw SW_CAP_CFG_SPILL then
    let n := s.rd sw SW_CAP_CFG_SPILL_LOG2
    if 12 ≤ n && n ≤ 24 then 2 ^ n else 4096
  else 2048

/-- Count a lost capture; one lost for want of a slot or of the on-chip ring raises CAP_LOST (R189). -/
def State.capLost (s : State) (raised : Bool) : State :=
  (s.count sw SW_CAP_LOST).when raised fun s => s.raise sw 6

/-- The tolerance that the capture ring reports as a DRAM client (R336): until its front buffer fills at two entries per
8 ns. -/
def State.capReport (s : State) : State :=
  s.memReport 6 (if s.is sw SW_CAP_CFG_SPILL then (2048 - s.capDrain.length) * 4 / 128 else 0xFFFFF)

/-- Write a capture entry (R188). (log 58, DESIGN CHOICE) -/
def State.capWrite (s : State) (bytes : Nat → List Byte) : State :=
  let w := s.rd sw SW_CAP_WR_WR
  let held := (w + 2 ^ 32 - s.rd sw SW_CAP_RD_RD) % 2 ^ 32
  let full := s.ringSize ≤ held && held < 2 ^ 31
  let spill := s.is sw SW_CAP_CFG_SPILL
  if full && !s.is sw SW_CAP_CFG_MODE then s.capLost false
  else if spill && 2048 ≤ s.capDrain.length then s.capLost true
  else
    let s := s.when full fun s => s.capLost false
    let c := s.capture.put w (bytes w)
    let c := if spill then c else c.del ((w + 2 ^ 32 - 2048) % 2 ^ 32)
    (({ s with capture := c, capDrain := if spill then s.capDrain ++ [w] else [] }).wr sw SW_CAP_WR_WR (w + 1)).capReport

/-- Does filter `f` match a packet at a point (R186)? -/
def State.capMatches (s : State) (f point port cls pathId : Nat) : Bool :=
  s.is sw (SW_CAP_FLT_A_EN.nth f) && s.rd sw (SW_CAP_FLT_A_POINT.nth f) = point &&
  (s.rd sw (SW_CAP_FLT_A_PORT.nth f) = 0x1F || s.rd sw (SW_CAP_FLT_A_PORT.nth f) = port) &&
  (s.is sw (SW_CAP_FLT_A_ANY_CLASS.nth f) || s.rd sw (SW_CAP_FLT_A_CLASS.nth f) = cls) &&
  s.rd sw (SW_CAP_FLT_B_PATH_LO.nth f) ≤ pathId && pathId ≤ s.rd sw (SW_CAP_FLT_B_PATH_HI.nth f)

/-- Every matching filter advances its sample count; the lowest-numbered that elects is answered (R186). -/
def State.capElect (s : State) (point port cls pathId : Nat) : State × Option Nat :=
  (List.range 16).foldl (fun r f =>
    if r.1.capMatches f point port cls pathId then
      let n := (r.1.rd sw (SW_CAP_MATCH.nth f) + 1) % 2 ^ r.1.rd sw (SW_CAP_FLT_A_SAMPLE.nth f)
      (r.1.wr sw (SW_CAP_MATCH.nth f) n, if n = 0 then r.2.orElse (fun _ => some f) else r.2)
    else r) (s, none)

/-- Places that output `k` holds, in all banks (R179). -/
def State.occ (s : State) (k : Nat) : Nat :=
  ((outKeys k).map fun i => ((s.queues.list i).map fun f => f.ents.countP fun e => !e.taken).sum).sum

/-- A packet passes a capture point (R186, R187, R189). `hdr` is its header there, empty for an internal end. -/
def State.capturePoint (s : State) (point : Nat) (hdr : List Byte) (p : Pkt) (inPort outPort cls entry : Nat)
    (inPath outPath : Nat) (mc secret : Bool) : State :=
  if !s.is sw SW_CAP_CFG_EN || s.is sw SW_CAP_HALTED then s
  else
    let port := if point = 0 then inPort else outPort
    let pid := if point = 0 then inPath else outPath
    match s.capElect point port cls pid with
    | (s, none) => s
    | (s, some f) =>
      let slot := s.time.toNat / 8 + 1
      if s.rd sw (SW_CAP_SLOT.nth point) = slot then s.capLost true
      else
        let s := s.wr sw (SW_CAP_SLOT.nth point) slot
        let h := if hdr.isEmpty then List.replicate 16 0 else hdr
        let pay := if secret then List.replicate 48 0 else ((payload p).take 48 ++ List.replicate 48 0).take 48
        let ty := match p.body with | .data .. => 1 | .ctrl _ => 2
        let meta1 := inPort % 32 * 2 ^ 27 + outPort % 32 * 2 ^ 22 + cls * 2 ^ 20 + f * 2 ^ 16 + point * 2 ^ 15 +
          (if mc then 2 ^ 14 else 0) + (if p.seald then 2 ^ 13 else 0) + entry % 8192
        let meta2 := inPath * 65536 + outPath
        let meta3 := ty * 2 ^ 28 + p.len * 65536 + (if point = 0 then p.seq else 0)
        let occ := s.occ (fpOf outPort outPath)
        s.capWrite fun n => h ++ pay ++ leBytes 8 s.time.toNat ++ leBytes 4 meta1 ++ leBytes 4 meta2 ++
          leBytes 4 meta3 ++ leBytes 4 occ ++ leBytes 4 n ++ List.replicate 36 0

/-! ### Entering the switch -/

/-- A packet of entry `k` enters the hub's fabric side: it waits until it is ready (R178, R204). -/
def State.enter (s : State) (k inPort inPath icost adapt : Nat) (bytes : List Byte) : State :=
  let p := path k
  let mc := s.is p PT_W1_MC_EN
  let out := if mc then 0x1F else s.rd p PT_W1_OUT_PORT
  let oid := if mc then s.rd p PT_W1_MC_GROUP else s.rd p PT_W1_OUT_PATH_ID
  let cls := s.rd p PT_W0_CLASS
  let n := bytes.length
  let len := if s.is p PT_W0_SEAL_OUT then n + 16 else n
  let q : QPkt := ⟨s.uid, k, inPort, out, oid, cls, icost, creditsOf len, if cls = 0 then 16 + n else n,
    s.time.toNat, ⟨cls, false, n, 0, .data inPath adapt 0 bytes⟩⟩
  { s with uid := s.uid + 1, waiting := s.waiting ++ [q] }

/-- A CTRL packet crosses the fabric whole, in class 0, under path ID 0 (R170). -/
def State.enterCtrl (s : State) (inPort outPort icost : Nat) (c : Ctrl) : State :=
  let n := 4 * c.words.length
  let q : QPkt := ⟨s.uid, 8192, inPort, outPort, 0, 0, icost, creditsOf n, 16 + n, s.time.toNat,
    ⟨0, false, n, 0, .ctrl c⟩⟩
  { s with uid := s.uid + 1, waiting := s.waiting ++ [q] }

/-- The packet's path ID at its ingress. -/
def QPkt.inPath (q : QPkt) : Nat := match q.pkt.body with | .data p _ _ _ => p | .ctrl _ => 0

/-- A packet with no usable entry is discarded (R139). -/
def State.noPath (s : State) : State := (s.count pathctl PC_CNT_NO_PATH).raise pathctl 7

/-- The path a packet takes through the table (R139, R154): its entry, with the record of a failover. -/
def State.route (s : State) (port pathId : Nat) : State × Option Nat :=
  match s.lookup port pathId with
  | none => (s.noPath, none)
  | some k =>
    let mcBad := s.is (path k) PT_W1_MC_EN && !s.groupOk (s.rd (path k) PT_W1_MC_GROUP)
    if mcBad then (s.noPath, none)
    else if !s.is (path k) PT_W0_DOWN then (s, some k)
    else match s.backupOf k with
      | none => (s.count pathctl PC_CNT_DOWN_DISCARD, none)
      | some b =>
        let first := !s.is (path k) PT_FAILED_OVER
        let s := s.when first fun s =>
          (((s.wr (path k) PT_FAILED_OVER 1).wr pathctl PC_LAST_FAILOVER_VALID 1).wr pathctl PC_LAST_FAILOVER_ENTRY k
            |>.count pathctl PC_CNT_FAILOVER).raise pathctl 9
        (s, some b)

/-- An internal end hands a packet to the fabric on one of its paths. A DEL entry takes none from an internal end
(R138). -/
def State.inject (s : State) (port pathId adapt : Nat) (bytes : List Byte) : State :=
  match s.route port pathId with
  | (s, none) => s
  | (s, some k) =>
    if s.is (path k) PT_APPLIED_DEL then s.noPath
    else
      let p := path k
      let pk : Pkt := ⟨s.rd p PT_W0_CLASS, false, bytes.length, 0, .data pathId adapt 0 bytes⟩
      let mc := s.is p PT_W1_MC_EN
      let out := if mc then 0x1F else s.rd p PT_W1_OUT_PORT
      let s := s.capturePoint 0 [] pk port out (s.rd p PT_W0_CLASS) k pathId (s.rd p PT_W1_OUT_PATH_ID) mc
        (s.is p PT_W0_SEAL_OUT)
      s.enter k port pathId 0 adapt bytes

/-! ### Readiness -/

/-- The packets on their way to output `k` that have not left staging. -/
def State.fabricPkts (s : State) (k : Nat) : List QPkt :=
  ((s.flows.filter fun f => (s.targets f.tgt).contains k).flatMap fun f => f.cells.flatMap fun c => c.ends) ++
  ((outKeys k).flatMap fun i => ((s.queues.list i).flatMap Frame.untaken).flatMap fun c => c.ends) ++
  ((outKeys k).flatMap fun i => (s.rel.list i).flatMap fun r => match r.cell with
    | some c => c.ends
    | none => []) ++
  ((s.staged.list (k / 2)).flatMap fun q => q.pkts)

/-- PEND towards an egress path, `g` being the multicast group it may be a member of (R178). -/
def State.pend (s : State) (port pathId : Nat) (g : Option Nat) : Nat :=
  (((s.fabricPkts (fpOf port pathId)).filter fun q =>
    (q.outPort = port && q.outPath = pathId) || (q.outPort = 0x1F && g = some q.outPath)).map fun q => q.cost).sum

/-- Can the packet's egress take it (R178)? -/
def State.credited (s : State) (q : QPkt) : Bool :=
  if q.cls < 2 || 8192 ≤ q.entry then true
  else if q.outPort = 0x1F then
    (s.liveMembers q.outPath).all fun m =>
      5 < m.2.1 || !s.kloyr m.2.1 ||
      creditOk (s.mcWord q.outPath (5 + 3 * m.1) + s.pend m.2.1 m.2.2 (some q.outPath)) q.cost
        (s.mcWord q.outPath (6 + 3 * m.1))
  else if q.outPort ≤ 5 && s.kloyr q.outPort then
    let e := path (s.creditEntry q.entry)
    creditOk (s.rd e PT_W6_USED + s.pend q.outPort q.outPath none) q.cost (s.rd e PT_W7_LIMIT)
  else true

/-! ### Shapers -/

/-- The shaper of the packet's entry, if one limits it (R204, R205). -/
def State.shaperOf (s : State) (q : QPkt) : Option Nat :=
  if 8192 ≤ q.entry || !s.is (path q.entry) PT_W2_SHP_EN then none
  else
    let h := s.rd (path q.entry) PT_W2_SHAPER
    if s.rd (shaper h) SH_W1_RATE_ACT = 0 then none else some h

/-- RATE_ACT as it acts, Mbit/s (R208). -/
def State.shRate (s : State) (h : Nat) : Nat := min (s.rd (shaper h) SH_W1_RATE_ACT) 128000

/-- BURST_ACT as it acts, in 1/64 B (R208). -/
def State.shBurst (s : State) (h : Nat) : Int := (max (s.rd (shaper h) SH_W1_BURST_ACT) 5 * 64 * 64 : Nat)

/-- The tokens of a shaper at the present time, in 1/64 B: it fills at RATE up to BURST (R205). -/
def State.shTokens (s : State) (h : Nat) : Int :=
  let dt := s.time.toNat - s.rd (shaper h) SH_TIME
  min (s.shBurst h) (signed 32 (s.rd (shaper h) SH_W2_TOKENS) + (s.shRate h * dt / 125 : Nat))

/-- Set the tokens of a shaper, and put it on the timing wheel when they are negative (R205, R206). -/
def State.setTokens (s : State) (h : Nat) (t : Int) : State :=
  let s := (s.wr (shaper h) SH_W2_TOKENS (unsigned 32 t)).wr (shaper h) SH_TIME s.time.toNat
  if t < 0 && s.shRate h != 0 then
    let wait := ((-t).toNat * 125 + s.shRate h - 1) / s.shRate h
    (s.wr (shaper h) SH_W3_NEXT_ELIG (s.time.toNat + wait)).wr (shaper h) SH_WAIT 1
  else (s.wr (shaper h) SH_W3_NEXT_ELIG 0).wr (shaper h) SH_WAIT 0

/-- Is the packet's shaper eligible (R204)? -/
def State.shaped (s : State) (q : QPkt) : Bool :=
  match s.shaperOf q with
  | none => true
  | some h => !s.is (shaper h) SH_WAIT

/-- The packet passes its shaper (R205). -/
def State.passShaper (s : State) (q : QPkt) : State :=
  match s.shaperOf q with
  | none => s
  | some h => s.setTokens h (s.shTokens h - (64 * q.pkt.len : Nat))

/-! ### Packing -/

/-- Fill cells with the last `n` bytes of a packet, the first of them going into `c` (R168). -/
def fillCells : Nat → Cell → QPkt → Nat → List Cell
  | 0, c, _, _ => [c]
  | fuel + 1, c, q, n =>
    let c := { c with uids := c.uids ++ [q.uid] }
    if n ≤ 128 - c.used then [{ c with used := c.used + n, ends := c.ends ++ [q] }]
    else { c with used := 128 } :: fillCells fuel ⟨q.entry, q.cls, 0, q.time, [], [], []⟩ q (n - (128 - c.used))

/-- Pack a packet behind the cells of its flow: it starts in the open cell of its path and class, if there is one with
room and fewer than four packets beginning in it (R168). -/
def packCells (cs : List Cell) (q : QPkt) : List Cell :=
  let fresh : Cell := ⟨q.entry, q.cls, 0, q.time, [q], [], []⟩
  match cs.getLast? with
  | none => fillCells 4 fresh q q.size
  | some c =>
    if c.entry = q.entry && c.cls = q.cls && c.used < 128 && c.begins.length < 4 then
      cs.dropLast ++ fillCells 4 { c with begins := c.begins ++ [q] } q q.size
    else cs ++ fillCells 4 fresh q q.size

/-- The target of a packet's flow: its output, or 32 + group (R171). -/
def QPkt.tgt (q : QPkt) : Nat := if q.outPort = 0x1F then 32 + q.outPath else fpOf q.outPort q.outPath

/-- Change the cells of one flow; a flow without cells is not listed. -/
def State.setFlow (s : State) (inp tgt cls : Nat) (f : List Cell → List Cell) : State :=
  let same := fun (g : Flow) => g.inp = inp && g.tgt = tgt && g.cls = cls
  let old := match s.flows.find? same with | some g => g.cells | none => []
  let new := f old
  let rest := s.flows.filter fun g => !same g
  { s with flows := if new.isEmpty then rest else rest ++ [⟨inp, tgt, cls, new⟩] }

/-- Packets that can go enter their flows, each path in its own order (R178, R204); a packet whose group is no longer
in use is handled as one with no path (R184). -/
def State.promote (s : State) : State :=
  let r := s.waiting.foldl (fun (r : State × List Nat × List QPkt) q =>
    let (s, blocked, kept) := r
    if q.outPort = 0x1F && !s.groupOk q.outPath then (s.noPath, blocked, kept)
    else if q.entry < 8192 && (blocked.contains q.entry || !s.shaped q || !s.credited q) then
      (s, q.entry :: blocked, kept ++ [q])
    else
      let q := { q with time := s.time.toNat }
      ((s.passShaper q).setFlow (fpOf q.inPort q.inPath) q.tgt q.cls fun cs => packCells cs q, blocked, kept))
    (s, [], [])
  { r.1 with waiting := r.2.2 }

/-! ### Room -/

/-- The position of a frame that lies in bank `b` (R171). -/
def Frame.posIn (f : Frame) (b : Nat) : Nat := (b + 40 - f.inp % 20 - f.slot % 20) % 20

/-- Does the frame still hold a place in bank `b`? -/
def Frame.holds (f : Frame) (b : Nat) : Bool :=
  match f.ents[f.posIn b]? with
  | some e => !e.taken
  | none => false

/-- Places of output `k` and class `c` in bank `b` (R179). -/
def State.places (s : State) (k c b : Nat) : Nat := (s.queues.list (4 * k + c)).countP fun f => f.holds b

/-- Places of output `k` in bank `b`. -/
def State.placesOut (s : State) (k b : Nat) : Nat := ((List.range 4).map fun c => s.places k c b).sum

/-- Used places of bank `b`, a multicast place counted once (R179, R182). -/
def State.usedIn (s : State) (b : Nat) : Nat :=
  (((s.queues.flatMap fun e => e.2).filter fun f => f.holds b).map fun f => f.fid).eraseDups.length

/-- OUT_MIN as it acts (R194). -/
def State.outMin (s : State) : Nat := min (s.rd sw SW_BUF_CFG_OUT_MIN) 100

/-- OUT_CAP / 20 of output `k` as it acts (R194). -/
def State.capOf (s : State) (k : Nat) : Nat :=
  min 4096 (max (s.rd sw (SW_OUT_CFG_OUT_CAP.nth k) / 20) s.outMin)

/-- The reserve of class `c` at output `k` (R179, R194). -/
def State.resOf (s : State) (k c : Nat) : Nat :=
  let r0 := s.rd sw (SW_OUT_RES_RES_0.nth k)
  let r1 := s.rd sw (SW_OUT_RES_RES_1.nth k)
  let r2 := s.rd sw (SW_OUT_RES_RES_2.nth k)
  if s.capOf k < r0 + r1 + r2 then 0
  else match c with | 0 => r0 | 1 => r1 | 2 => r2 | _ => 0

/-- ok_out of output `k` and class `c` in bank `b` (R179). -/
def State.okOut (s : State) (k c b : Nat) : Bool :=
  let occc := s.places k c b
  let owed := ((List.range 4).map fun c' => if c' = c then 0 else s.resOf k c' - s.places k c' b).sum
  occc < s.resOf k c || s.placesOut k b + owed + 1 ≤ s.capOf k

/-- Free places of bank `b` less the OUT_MIN reserves still owed (R179); below 0 reads as 0. -/
def State.poolIn (s : State) (b : Nat) : Nat :=
  4096 - s.usedIn b - ((List.range 20).map fun x => s.outMin - s.placesOut x b).sum

/-- Does some bank lack room under ok_out for class `c` at output `k`? -/
def State.outFull (s : State) (k c : Nat) : Bool := (List.range 20).any fun b => !s.okOut k c b

/-- Is there room for a frame of a flow (R179)? A halted output has none (R192). -/
def State.room (s : State) (tgt c : Nat) : Bool :=
  (s.targets tgt).all fun k =>
    !s.is sw (SW_OUT_OCC_HALTED.nth k) && !s.outFull k c &&
    (List.range 20).all fun b => (s.placesOut k b < s.outMin && tgt < 32) || 1 ≤ s.poolIn b

/-! ### Frames -/

/-- When the oldest ready packet of a flow became ready. -/
def Flow.since (f : Flow) : Nat := match f.cells with | c :: _ => c.time | [] => 0

/-- The flow of a list that has been ready longest. -/
def oldest (fs : List Flow) : Option Flow :=
  fs.foldl (fun r f => match r with
    | none => some f
    | some g => if f.since < g.since then some f else some g) none

/-- How far target `t` lies behind the one served last, in round robin. -/
def rrDist (last t n : Nat) : Nat := (t + n - last % n - 1) % n

/-- The nearest flow after the target served last in its class (R172). -/
def rrFirst (last : Nat) (fs : List Flow) : Option Flow :=
  fs.foldl (fun r f => match r with
    | none => some f
    | some g => if rrDist last f.tgt 1024 < rrDist last g.tgt 1024 then some f else some g) none

/-- The flow for which input `i` starts a frame, and whether it is a timer frame (R172). -/
def State.choose (s : State) (i : Nat) : Option (Flow × Bool) :=
  let fs := s.flows.filter fun f => f.inp = i && !f.cells.isEmpty && s.room f.tgt f.cls
  let age := orOne (s.rd sw SW_CFG_FRAME_TO) * 8
  let old := fs.filter fun f => f.since + age ≤ s.time.toNat
  let full := fs.filter fun f => 2560 ≤ (f.cells.map fun c => c.used).sum
  let early := fs.filter fun f => s.is sw SW_CFG_EARLY_PAD &&
    (s.targets f.tgt).all fun k => (s.queues.list (4 * k + f.cls)).isEmpty
  match oldest old with
  | some f => some (f, true)
  | none =>
    match (List.range 4).findSome? fun c => rrFirst (s.rd sw (SW_RR_IN.nth (4 * i + c))) (full.filter fun f => f.cls = c) with
    | some f => some (f, false)
    | none => (oldest early).map fun f => (f, false)

/-- Queue a frame at an output in the order of R174: by first slot, then by input. -/
def insertFrame (f : Frame) : List Frame → List Frame
  | [] => [f]
  | g :: t => if f.slot = g.slot && f.inp < g.inp then f :: g :: t else g :: insertFrame f t

/-- Input `i` starts a frame of a flow (R171, R182). (log 45, DEDUCED) -/
def State.startFrame (s : State) (i : Nat) (f : Flow) (timer : Bool) : State :=
  let slot := s.time.toNat / 8
  let fid := s.rd sw SW_FID
  let fr : Frame := ⟨fid, i, slot, false, List.replicate 20 ⟨false, false, none⟩⟩
  let ks := s.targets f.tgt
  let skipped := if f.tgt < 32 then 0 else (s.members (f.tgt - 32)).length - (s.liveMembers (f.tgt - 32)).length
  let s := { s with
    progs := s.progs ++ [Prog.mk i f.tgt f.cls slot fid]
    queues := ks.foldl (fun q k => q.setList (4 * k + f.cls) (insertFrame fr (q.list (4 * k + f.cls)))) s.queues }
  let s := ((s.wr sw SW_FID (fid + 1)).wr sw (SW_RR_IN.nth (4 * i + f.cls)) f.tgt).sat sw SW_CNT_MC_SKIP skipped
  let s := ks.foldl (fun s k => s.wr sw (SW_RR_OUT.nth k) i) s
  (s.count sw (SW_CNT_FRM.nth i)).when timer fun s => s.count sw (SW_CNT_TFRM.nth i)

/-- Frame starts of one slot: inputs that want the same output are granted in round robin, and an input refused goes on
to its next flow (R180). A frame of a group whose members are all skipped is written for none of them (R182, R185).
`todo` is the inputs still to decide. -/
def State.startFrames : Nat → State → List Nat → State
  | 0, s, _ => s
  | fuel + 1, s, todo =>
    let wants := todo.filterMap fun i => (s.choose i).map fun c => (i, c)
    match wants with
    | [] => s
    | (i0, c0) :: _ =>
      if (s.targets c0.1.tgt).isEmpty then State.startFrames fuel (s.startFrame i0 c0.1 c0.2) (todo.filter fun j => j != i0)
      else
      let k := (s.targets c0.1.tgt).headD 0
      let rivals := wants.filter fun w => (s.targets w.2.1.tgt).contains k
      let last := s.rd sw (SW_RR_OUT.nth k)
      let win := rivals.foldl (fun (r : Option (Nat × Flow × Bool)) w => match r with
        | none => some w
        | some v => if rrDist last w.1 20 < rrDist last v.1 20 then some w else some v) none
      match win with
      | none => s
      | some (i, f, timer) => State.startFrames fuel (s.startFrame i f timer) (todo.filter fun j => j != i)

/-- Count the outputs at which a ready flow was refused room, and watch AT_CAP (R180, R194). (log 57, DEDUCED) -/
def State.watchRoom (s : State) (idle : List Nat) : State :=
  let refused := s.flows.filter fun f => idle.contains f.inp && !f.cells.isEmpty && !s.room f.tgt f.cls
  (List.range 20).foldl (fun s k =>
    let mine := refused.filter fun f => (s.targets f.tgt).contains k
    let s := s.when (!mine.isEmpty) fun s => s.count sw (SW_CNT_WAIT.nth k)
    if mine.any fun f => s.outFull k f.cls then
      let fresh := !s.is sw (SW_OUT_OCC_AT_CAP.nth k)
      let s := (s.wr sw (SW_OUT_OCC_AT_CAP.nth k) 1).wr sw (SW_ATCAP_TIME.nth k) s.clock
      s.when fresh fun s => (s.wr sw (SW_SRC_OUT.nth 3) k).raise sw 3
    else if s.is sw (SW_OUT_OCC_AT_CAP.nth k) && s.rd sw (SW_ATCAP_TIME.nth k) + 1000 ≤ s.clock then
      s.wr sw (SW_OUT_OCC_AT_CAP.nth k) 0
    else s) s

/-- The output that holds the most places in bank `b`, the lowest-numbered of equal ones (R471). -/
def State.fullest (s : State) (b : Nat) : Nat :=
  (List.range 20).foldl (fun r k => if s.placesOut r b < s.placesOut k b then k else r) 0

/-- Track the fewest free places; a bank with none outside the OUT_MIN reserves raises POOL_LOW (R194, R195). -/
def State.watchPool (s : State) : State :=
  let free := (List.range 20).foldl (fun m b => min m (4096 - s.usedIn b)) 4096
  let low := (List.range 20).foldl (fun r b => if s.poolIn b < s.poolIn r then b else r) 0
  let was := s.rd sw SW_BUF_STATUS_POOL_MIN
  let pool := s.poolIn low
  let s := (s.wr sw SW_BUF_STATUS_FREE_MIN (min free 4096)).wr sw SW_BUF_STATUS_POOL_MIN pool
  s.when (pool = 0 && was != 0) fun s => (s.wr sw (SW_SRC_OUT.nth 4) (s.fullest low)).raise sw 4

/-- Set the entry at a position of a frame in the queues of some outputs. -/
def setEnts (q : Tab (List Frame)) (ks : List Nat) (cls fid pos : Nat) (e : Ent) : Tab (List Frame) :=
  ks.foldl (fun q k => q.setList (4 * k + cls) ((q.list (4 * k + cls)).map fun f =>
    if f.fid = fid then { f with ents := f.ents.set pos e } else f)) q

/-- An input inside a frame writes the position of this slot: the flow's next cell, or a pad (R171, R173). The packets
whose last byte is written free their ingress buffers (R98). -/
def State.writePos (s : State) (g : Prog) : State :=
  let pos := s.time.toNat / 8 - g.slot
  let s := if 19 ≤ pos then { s with progs := s.progs.filter fun h => h.fid != g.fid } else s
  if 20 ≤ pos then s
  else
    let cell := match s.flows.find? fun f => f.inp = g.inp && f.tgt = g.tgt && f.cls = g.cls with
      | some f => f.cells.head?
      | none => none
    let s := s.setFlow g.inp g.tgt g.cls List.tail
    let s := { s with queues := setEnts s.queues (List.range 20) g.cls g.fid pos ⟨cell.isNone, false, cell⟩ }
    match cell with
    | none => s
    | some c => c.ends.foldl State.freeBuf s

/-! ### Reading and release -/

/-- Serve classes 2 and 3 by deficit round robin (R202): which class is served, whose turn it then is, and both
deficits. `turn` 0 is class 2. -/
def classDrr : Nat → (Bool × Nat × Nat) → (Bool × Nat × Nat) → Nat → Nat → Nat → Option (Nat × Nat × Nat × Nat)
  | 0, _, _, _, _, _ => none
  | fuel + 1, (h2, c2, q2), (h3, c3, q3), turn, d2, d3 =>
    if !h2 && !h3 then none
    else if turn = 0 then
      if h2 && c2 ≤ d2 then some (2, 0, d2 - c2, d3)
      else classDrr fuel (h2, c2, q2) (h3, c3, q3) 1 (if h2 then d2 else 0) (d3 + q3)
    else
      if h3 && c3 ≤ d3 then some (3, 1, d2, d3 - c3)
      else classDrr fuel (h2, c2, q2) (h3, c3, q3) 0 (d2 + q2) (if h3 then d3 else 0)

/-- Payload rate of an egress in Mbit/s (R125, R151, R197), a tunnel port's direction counted by its transmitting
lanes. -/
def State.rateOf (s : State) (e : Nat) : Nat :=
  if 6 ≤ e then 128000
  else
    let lanes := ((List.range 4).filter fun p => s.rdBit (link e) LK_STATUS_TX_PADS p).length
    let std := ((List.range 4).filter fun p => s.rd (lane e) (PR_STATUS_DIR.nth p) = 1).length
    match s.mode e with
    | 1 => 58000 * lanes
    | 2 => 23200 * lanes
    | 3 => 38400 * std
    | 4 => 19200 * std
    | 5 => 9600 * std
    | _ => 0

/-- Bring up to date what a tunnel port's direction has sent in the epoch (R223), in thousandths of a bit. -/
def State.accSent (s : State) (e : Nat) : State :=
  let dt := s.clock - s.rd (alm e) ALM_ACC_TIME
  (s.wr (alm e) ALM_ACC_SENT (s.rd (alm e) ALM_ACC_SENT + s.rateOf e * dt)).wr (alm e) ALM_ACC_TIME s.clock

/-- Fill the control tokens of an egress, kept in thousandths of a byte: P/50, at most 2 KiB (R199). -/
def State.fillCtrl (s : State) (e : Nat) : State :=
  let dt := s.clock - s.rd (alm e) ALM_TOKEN_TIME
  let t := min (2048000 : Int) (signed 32 (s.rd (alm e) ALM_TOKENS) + (s.rateOf e * dt / 400 : Nat))
  (s.wr (alm e) ALM_TOKENS (unsigned 32 t)).wr (alm e) ALM_TOKEN_TIME s.clock

/-- Is the control bucket above 0 (R199)? -/
def State.ctrlOk (s : State) (e : Nat) : Bool := 0 < signed 32 (s.rd (alm e) ALM_TOKENS)

/-- Take control tokens, in bytes. -/
def State.payCtrl (s : State) (e n : Nat) : State :=
  s.wr (alm e) ALM_TOKENS (unsigned 32 (signed 32 (s.rd (alm e) ALM_TOKENS) - (1000 * n : Nat)))

/-- Is the credit of row `r` above 0 (R198)? -/
def State.rowOk (s : State) (e r : Nat) : Bool := 0 < signed 32 (s.rd (alm e) (ALM_CREDIT.nth r))

/-- Take row credit, in bytes. -/
def State.payRow (s : State) (e r n : Nat) : State :=
  s.wr (alm e) (ALM_CREDIT.nth r) (unsigned 32 (signed 32 (s.rd (alm e) (ALM_CREDIT.nth r)) - (n : Nat)))

/-- The class DRR of an egress (R202); `f2` and `f3` say whether each class has something and what it costs. -/
def State.almDrr (s : State) (e : Nat) (f2 f3 : Bool × Nat) : State × Option Nat :=
  let q2 := 64 * orOne (s.rd (alm e) ALM_CLASS_Q2)
  let q3 := 64 * orOne (s.rd (alm e) ALM_CLASS_Q3)
  match classDrr 16 (f2.1, f2.2, q2) (f3.1, f3.2, q3) (s.rd (alm e) ALM_TURN) (s.rd (alm e) ALM_DEF2) (s.rd (alm e) ALM_DEF3) with
  | none => (s, none)
  | some (c, t, d2, d3) => (((s.wr (alm e) ALM_TURN t).wr (alm e) ALM_DEF2 d2).wr (alm e) ALM_DEF3 d3, some c)

/-- The entry that output `k` meets this slot in the open frame of class `c`: the frame and the position. -/
def State.metEntry (s : State) (k c : Nat) : Option (Frame × Nat × Ent) :=
  let b := (k + 20 - s.time.toNat / 8 % 20) % 20
  match s.queues.list (4 * k + c) with
  | f :: _ => if f.opened then (f.ents[f.posIn b]?).map fun e => (f, f.posIn b, e) else none
  | [] => none

/-- Open the head frame of a class when it is visible (R174, R175): its cells get their places in the reorder stage. -/
def State.openFrame (s : State) (k c : Nat) : State :=
  let i := 4 * k + c
  match s.queues.list i with
  | [] => s
  | f :: t =>
    if f.opened || s.time.toNat / 8 < f.slot + 20 then s
    else
      let ps := (List.range 20).filter fun j => match f.ents[j]? with
        | some e => e.cell.isSome
        | none => false
      { s with
        queues := s.queues.setList i ({ f with opened := true } :: t)
        rel := s.rel.setList i (s.rel.list i ++ ps.map fun j => Rel.mk f.fid j none) }

/-- The output takes an entry; a frame with nothing left is complete and leaves the queue (R175). -/
def State.takeEntry (s : State) (k c : Nat) (f : Frame) (pos : Nat) (e : Ent) : State :=
  let i := 4 * k + c
  let f := { f with ents := f.ents.set pos { e with taken := true } }
  let t := (s.queues.list i).tail
  { s with queues := s.queues.setList i (if f.ents.all fun e => e.taken then t else f :: t) }

/-- Pop the pad that output `k` meets in class `c` (R173, R175). (log 56, DESIGN CHOICE) -/
def State.popPad (s : State) (k c : Nat) : State :=
  match s.metEntry k c with
  | some (f, pos, e) =>
    if e.pad && !e.taken then (s.takeEntry k c f pos e).count sw (SW_CNT_PAD.nth k) else s
  | none => s

/-- Note that a class has become releasable at an output (R176). -/
def State.noteRel (s : State) (k c : Nat) : State :=
  let l := s.relOrder.list k
  match s.rel.list (4 * k + c) with
  | r :: _ => if r.cell.isSome && !l.contains c then { s with relOrder := s.relOrder.setList k (l ++ [c]) } else s
  | [] => s

/-- Read the cell that output `k` meets in class `c` into the reorder stage (R175, R192). -/
def State.readCell (s : State) (k c : Nat) (faults : List CellFault) : State :=
  match s.metEntry k c with
  | none => s
  | some (f, pos, e) =>
    match e.cell with
    | none => s
    | some cell =>
      let bad := faults.contains (.ue k)
      let s := (s.takeEntry k c f pos e).count sw (SW_CNT_CELL.nth k)
      let kept := if bad then { cell with begins := [], ends := [] } else cell
      let i := 4 * k + c
      let s := { s with rel := s.rel.setList i ((s.rel.list i).map fun (r : Rel) =>
        if r.fid = f.fid && r.pos = pos then { r with cell := some kept } else r) }
      let s := s.when (faults.contains (.ce k)) fun s => (s.wr sw (SW_SRC_OUT.nth 0) k).raise sw 0
      let s := s.when bad fun s =>
        (((s.killCells k [cell]).sat sw SW_CNT_UE cell.uids.length).wr sw (SW_SRC_OUT.nth 1) k).raise sw 1
      s.noteRel k c

/-- The class that output `k` reads this slot (R198): control under its cap, class 1 under its credit, then the class
DRR with cells counted at 128 B. -/
def State.readClass (s : State) (k : Nat) : State × Option Nat :=
  let e := 6 + k
  let has := fun c => match s.metEntry k c with
    | some (_, _, e) => e.cell.isSome && !e.taken
    | none => false
  let used := fun c => match s.metEntry k c with
    | some (_, _, ⟨_, _, some cell⟩) => cell.used
    | _ => 0
  let s := s.fillCtrl e
  if has 0 && s.ctrlOk e then (s.payCtrl e (used 0), some 0)
  else if has 1 && s.rowOk e 0 then (s.payRow e 0 (used 1), some 1)
  else s.almDrr e (has 2, 128) (has 3, 128)

/-- Bytes staged in the area of a class at a tunnel port, and the size of that area (R203). (log 55, DEDUCED) -/
def State.stagedBytes (s : State) (port cls : Nat) : Nat × Nat :=
  let area := fun c => if c = 3 then 2 else c
  let b := ((s.staged.list port).filter fun q => area q.cls = area cls).map fun q => (q.pkts.map fun p => p.size).sum
  (b.sum, if cls = 0 then 2048 else if cls = 1 then 8192 else 14336)

/-- Stage a packet at a tunnel port, its path joining the backlogged paths if it was idle (R202, R203). -/
def State.stage (s : State) (port : Nat) (q : QPkt) : State :=
  let l := s.staged.list port
  let same := fun (x : StQ) => x.entry = q.entry && x.cls = q.cls
  let l := if l.any same then l.map fun x => if same x then { x with pkts := x.pkts ++ [q] } else x
    else l ++ [⟨q.entry, q.cls, [q]⟩]
  { s with staged := s.staged.setList port l }

/-- Does an applied row of a tunnel-port egress name the entry (R201)? -/
def State.rowOf (s : State) (e entry : Nat) : Option Nat :=
  (List.range 64).find? fun r => s.is (alm e) (ALM_ROW_V.nth r) && !s.is (alm e) (ALM_ROW_BAD.nth r) &&
    s.rd (alm e) (ALM_ROW_ENTRY.nth r) = entry

/-- A packet leaves output `k` (R176): into a tunnel port's staging, or to its internal end. A multicast packet takes
the member's path ID. -/
def State.leave (s : State) (k : Nat) (q : QPkt) : State :=
  let q := if q.outPort = 0x1F then
      match (s.members q.outPath).find? fun m => fpOf m.2.1 m.2.2 = k with
      | some m => { q with outPort := m.2.1, outPath := m.2.2 }
      | none => q
    else q
  if q.outPort ≤ 5 then
    if q.cls = 1 && (s.rowOf q.outPort q.entry).isNone then
      (s.count (alm q.outPort) ALM_CNT_NOROW).raise (alm q.outPort) 2
    else s.stage q.outPort q
  else match q.pkt.body with
    | .ctrl c => { s with ctrlLocal := s.ctrlLocal ++ [(q.inPort, c)] }
    | .data _ ad ctr bs => s.send (.deliver q.outPort q.outPath { q.pkt with body := .data q.outPath ad ctr bs })

/-- The first byte of a packet leaves the reorder stage: the egress capture point (R186, R187). -/
def State.egressCapture (s : State) (k : Nat) (q : QPkt) : State :=
  let (out, oid) := if q.outPort = 0x1F then
      match (s.members q.outPath).find? fun m => fpOf m.2.1 m.2.2 = k with
      | some m => (m.2.1, m.2.2)
      | none => (0x1F, 0)
    else (q.outPort, q.outPath)
  let sealOut := q.entry < 8192 && s.is (path q.entry) PT_W0_SEAL_OUT
  let secret := q.entry < 8192 && (s.is (path q.entry) PT_W0_SEAL_IN || sealOut)
  let body := match q.pkt.body with
    | .data _ ad _ bs => Body.data oid ad (s.rd (path q.entry) PT_SEAL_TX % 2 ^ 32) bs
    | .ctrl c => .ctrl c
  let p := { q.pkt with body := body, seald := sealOut, len := if sealOut then q.pkt.len + 16 else q.pkt.len, seq := 0 }
  let hdr := if out ≤ 5 then header p (if s.mode out = 2 then some 0 else none) else []
  s.capturePoint 1 hdr p q.inPort out q.cls q.entry q.inPath oid (q.outPort = 0x1F) secret

/-- The cell that output `k` releases next. -/
def State.nextRel (s : State) (k : Nat) : Option (Nat × Cell) :=
  match s.relOrder.list k with
  | c :: _ => match s.rel.list (4 * k + c) with
    | r :: _ => r.cell.map fun x => (c, x)
    | [] => none
  | [] => none

/-- The block of output `k` cannot take its next cell (R181, R203). `held` is a mask of internal ends that are full. -/
def State.stalled (s : State) (k held : Nat) : Bool :=
  if k < 12 then
    let port := k / 2
    let full := match s.nextRel k with
      | some (c, x) => let (b, a) := s.stagedBytes port c; a < b + (x.ends.map fun q => q.size).sum
      | none => false
    full || (s.kloyr port && s.rd (link port) LK_STATUS_STATE != 1)
  else held.testBit k

/-- Release the next cell of output `k` (R176): captures at its first bytes, and its finished packets leave, but those
a cell error has discarded (R192). -/
def State.release (s : State) (k : Nat) : State :=
  match s.nextRel k with
  | none => s
  | some (c, cell) =>
    let i := 4 * k + c
    let s := { s with rel := s.rel.setList i (s.rel.list i).tail, relOrder := s.relOrder.setList k (s.relOrder.list k).tail }
    let s := s.noteRel k c
    let s := cell.begins.foldl (fun s q => s.egressCapture k q) s
    cell.ends.foldl (fun s q =>
      if s.dead.contains (32 * q.uid + k) then { s with dead := s.dead.filter fun d => d != 32 * q.uid + k }
      else s.leave k q) s

/-- One output in one slot (R175, R176, R181). -/
def State.outputSlot (s : State) (k held : Nat) (faults : List CellFault) : State :=
  let s := s.when (faults.contains (.ptr k)) fun s => (s.wr sw (SW_SRC_OUT.nth 2) k).raise sw 2
  let s := (List.range 4).foldl (fun s c => (s.openFrame k c).popPad k c) s
  if s.stalled k held then s
  else
    let s := match s.readClass k with
      | (s, some c) => s.readCell k c faults
      | (s, none) => s
    if s.stalled k held then s else s.release k

/-- May frames start: the switch is enabled, runs, and no entry drains it (R380)? -/
def State.framesStart (s : State) : Bool :=
  s.is sw (PG_CTRL_ENABLE 0) && s.islandUp 3 && s.rd aon AON_ENT_STEP != 1

/-- One cell slot (R166): packets that have become ready are packed; outputs read and release; inputs inside a frame
write their position; the others may start a frame and write its first position. (log 56, DESIGN CHOICE) -/
def State.cellSlot (s : State) (held : Nat) (faults : List CellFault) : State :=
  let s := s.promote
  let s := (List.range 20).foldl (fun s k => s.outputSlot k held faults) s
  let idle := (List.range 20).filter fun i => !s.progs.any fun g => g.inp = i
  let s := s.progs.foldl State.writePos s
  let before := s.rd sw SW_FID
  let s := if s.framesStart then State.startFrames 20 s idle else s
  let s := (s.progs.filter fun g => before ≤ g.fid).foldl State.writePos s
  (s.watchRoom (idle.filter fun i => !s.progs.any fun g => g.inp = i)).watchPool

end Sys2Proof.Machine
end

