-- ==== Sys2Proof/Machine/PcieOps.lean ====
section
/-! DEFINITION. The PCIe adapters' shared operations: their queues and request tables (R234 to R237), locked transactions (R238), containment (R239), and sideband mirroring (R240 to R243). -/

namespace Sys2Proof.Machine

open Reg

/-! ### Tables -/

/-- PCA_REQ.OUT, PE_REQ.OUT, the completion pool and their peaks (R254, R256); reaching 4,096 raises HUB_FULL (R255). -/
def State.pcaCounts (s : State) (n : Nat) : State :=
  let was := s.rd pcie PE_REQ_OUT
  let s := s.pcieTotals n
  let s := (s.wr (pca n) PCA_REQ_PEAK (max (s.rd (pca n) PCA_REQ_OUT) (s.rd (pca n) PCA_REQ_PEAK))).wr pcie PE_REQ_PEAK
    (max (s.rd pcie PE_REQ_OUT) (s.rd pcie PE_REQ_PEAK))
  let s := s.wr pcie PE_POOL_FREE_MIN (min (s.rd pcie PE_POOL_FREE) (s.rd pcie PE_POOL_FREE_MIN))
  s.when (was < 4096 && 4096 ≤ s.rd pcie PE_REQ_OUT) fun s => s.raise pcie 5

/-- Set the tables and queues of PCA `n`. -/
def State.setPca (s : State) (n : Nat) (p : Pca) : State := (s.putPca n p).pcaCounts n

/-- PCA_CTRL.MODE: 0 off, 1 HOST, 2 UP, 3 LINK (R230). -/
def State.pcaMode (s : State) (n : Nat) : Nat := s.rd (pca n) PCA_CTRL_MODE

/-- The PCIe port is an endpoint: role 0b01 (R228). -/
def State.endpointRole (s : State) : Bool := s.rd glb GLB_STRAP_ROLE = 1

/-- Are both paths of a PCA ACTIVE with DOWN = 0 (R256)? -/
def State.pcaPathUp (s : State) (n : Nat) : Bool :=
  let ok := fun k => s.rd (path k) PT_W0_STATE = 1 && !s.is (path k) PT_W0_DOWN
  (s.entries.any fun k => ok k && s.rd (path k) PT_W0_IN_PORT = 8 + n &&
    s.rd (path k) PT_W0_IN_PATH_ID = s.rd (pca n) PCA_TUN_TX_HANDLE) &&
  s.entries.any fun k => ok k && s.rd (path k) PT_W1_OUT_PORT = 8 + n &&
    s.rd (path k) PT_W1_OUT_PATH_ID = s.rd (pca n) PCA_TUN_RX_HANDLE

/-- ATTACH of a link as it acts (R254): fixed 1 on link 0 in role 0b01, and 3 acts as 0. -/
def State.attach (s : State) (l : Nat) : Nat :=
  if s.endpointRole then (if l = 0 then 1 else 0)
  else
    let a := s.rd pcie (PE_LINK_CFG_ATTACH.nth l)
    if a = 3 then 0 else a

/-- The physical link of a LINK-mode PCA (R230). -/
def State.pcaLink (s : State) (n : Nat) : Option Nat :=
  (List.range 4).find? fun l => s.attach l = 2 && s.rd pcie (PE_LINK_CFG_PCA.nth l) = n

/-- Can the local side of a PCA take TLPs? -/
def State.localUp (s : State) (n : Nat) : Bool :=
  if s.pcaMode n = 3 then match s.pcaLink n with
    | some l => s.is pcie (PE_LINK_STS_DL_ACTIVE.nth l)
    | none => false
  else if s.endpointRole then s.is pcie (PE_LINK_STS_DL_ACTIVE.nth 0)
  else true

/-- Does the PCA answer with UR: it is contained, or its paths are not up (R239)? (log 60, DEDUCED) -/
def State.pcaShut (s : State) (n : Nat) : Bool := s.is (pca n) PG_STATUS_CONTAINED || !s.pcaPathUp n

/-- The PCA issues an Unlock itself if it is locked (R238). -/
def State.unlockNow (s : State) (n : Nat) : State :=
  if s.is (pca n) PCA_STATE_LOCKED then (s.send (.unlock n)).wr (pca n) PCA_STATE_LOCKED 0 else s

/-- A path of the PCA is declared down (R158, R239): UR for what is outstanding, posted TLPs dropped, the lock released;
a HOST-mode port reports Surprise Down, and a LINK-mode or UP-mode PCA is contained. (log 22, DEDUCED; log 61, DESIGN CHOICE) -/
def State.pcaDown (s : State) (n : Nat) : State :=
  let p := s.pcaOf n
  let s := (s.unlockNow n).pcaDiscard n
  let s := s.when (!p.posted.isEmpty) fun s => s.raise (pca n) 5
  if s.pcaMode n = 1 then s.send (.surpriseDown n) else s.when (2 ≤ s.pcaMode n) fun s => s.raise (pca n) 1

/-! ### Into the tunnel -/

/-- Cut a TLP into the payloads of consecutive packets (R233). -/
def pieces (size : Nat) : Nat → List Byte → List (List Byte)
  | 0, _ => []
  | fuel + 1, bs => if bs.length ≤ size then [bs] else bs.take size :: pieces size fuel (bs.drop size)

/-- Send packets of a TLP on the PCA's path: all but the last carry MORE = 1 (R233). -/
def State.sendPieces (s : State) (n : Nat) : List (List Byte) → State
  | [] => s
  | [b] => s.inject (8 + n) (s.rd (pca n) PCA_TUN_TX_HANDLE) 0 b
  | b :: t => State.sendPieces (s.inject (8 + n) (s.rd (pca n) PCA_TUN_TX_HANDLE) 0x2000 b) n t

/-- Send a TLP into the tunnel (R233). -/
def State.tlpOut (s : State) (n : Nat) (t : Tlp) : State :=
  s.sendPieces n (pieces (if s.is (pca n) PCA_CTRL_PKT240 then 240 else 256) (t.bytes.length + 1) t.bytes)

/-- Has the request table room (R235)? -/
def State.tableRoom (s : State) (n : Nat) : Bool :=
  (s.pcaOf n).reqs.length < 1024 && (s.pcas.map fun e => e.2.reqs.length).sum < 4096

/-- Requests held at the ingress of a PCA go ahead while there is room (R235). -/
def State.admitHeld : Nat → State → Nat → State
  | 0, s, _ => s
  | fuel + 1, s, n =>
    let p := s.pcaOf n
    match p.held with
    | [] => s
    | t :: rest =>
      if s.tableRoom n then
        let s := s.setPca n { p with held := rest, reqs := p.reqs ++ [NpReq.mk t.req t.tag s.clock] }
        State.admitHeld fuel (s.tlpOut n t) n
      else s

/-- An entry has freed somewhere: held requests of every PCA may go ahead. -/
def State.admitAll (s : State) : State :=
  (List.range 8).foldl (fun s n => State.admitHeld ((s.pcaOf n).held.length + 1) s n) s

/-- Does a TLP ask for completions? (log 60, DEDUCED) -/
def nonPosted (t : Tlp) : Bool :=
  match t.kind with
  | .posted | .cpl | .unlock => false
  | _ => true

/-- A completion releases its units as it enters the tunnel, the last one of its request the remainder (R236). -/
def State.releaseUnits (s : State) (n : Nat) (t : Tlp) : State :=
  let p := s.pcaOf n
  match p.resv.find? fun r => r.req = t.req && r.tag = t.tag with
  | none => s
  | some r =>
    let u := min r.units ((t.len + 63) / 64)
    let rest := p.resv.filter fun x => x != r
    s.setPca n { p with resv := if t.last then rest else rest ++ [Resv.mk r.req r.tag (r.units - u)] }

/-- What the port notes of a TLP it received (R255): ECRC failures and poisoned TLPs are counted, and pass. -/
def State.noteTlp (s : State) (t : Tlp) : State :=
  let s := s.when t.ecrcBad fun s => (s.count pcie PE_CNT_ECRC).raise pcie 2
  s.when t.poisoned fun s => (s.count pcie PE_CNT_POISON).raise pcie 3

/-- A PCA receives a TLP from its local side (R235, R238, R239). (log 60, DEDUCED) -/
def State.fromLocal (s : State) (n : Nat) (t : Tlp) : State :=
  let m := s.pcaMode n
  let s := s.noteTlp t
  if m = 0 then s
  else if t.malformed then s.raise pcie 4
  else if t.kind = .mrdLk && m != 1 then (s.urTo n t.req t.tag).raise (pca n) 4
  else if s.pcaShut n then
    if nonPosted t then s.urTo n t.req t.tag
    else if t.kind = .cpl then s
    else (s.count (pca n) (if m = 1 then PCA_CNT_POSTED_DROP else PCA_CNT_UP_DROP)).raise (pca n) 5
  else if nonPosted t then
    let p := s.pcaOf n
    State.admitHeld (p.held.length + 1) (s.setPca n { p with held := p.held ++ [t] }) n
  else (s.when (t.kind = TlpKind.cpl) fun s => s.releaseUnits n t).tlpOut n t

/-! ### From the tunnel -/

/-- Posted TLPs from the tunnel are issued while the local side takes them (R234). -/
def State.issuePosted (s : State) (n : Nat) : State :=
  let p := s.pcaOf n
  if s.localUp n then (p.posted.foldl (fun s t => s.send (.tlp n t)) (s.setPca n { p with posted := [] })) else s

/-- The units that a request needs (R236). -/
def unitsFor (t : Tlp) : Nat :=
  let l := match t.kind with | .mrd | .mrdLk | .atomicOp | .ioRd | .cfgRd => t.len | _ => 4
  (l + 63) / 64 + 1

/-- Are completions reserved for on this PCA's local side: a physical link, or the host link in role 0b01 (R236)? -/
def State.reserves (s : State) (n : Nat) : Bool := s.pcaMode n = 3 || s.endpointRole

/-- Issue the oldest non-posted request from the tunnel, if its completion space can be reserved (R236); an MRdLk enters
the locked state in LINK and UP mode (R238). -/
def State.npIssue (s : State) (n : Nat) : State :=
  let p := s.pcaOf n
  match p.np with
  | [] => s
  | t :: rest =>
    if !s.localUp n then s
    else
      let u := if s.reserves n then unitsFor t else 0
      if s.rd pcie PE_POOL_FREE < u then s.wr (pca n) PCA_STATE_CPL_WAIT 1
      else
        let resv := if u = 0 then p.resv else p.resv ++ [Resv.mk t.req t.tag u]
        let s := ((s.setPca n { p with np := rest, resv := resv }).wr (pca n) PCA_STATE_CPL_WAIT 0).send (.tlp n t)
        s.when (t.kind = .mrdLk && 2 ≤ s.pcaMode n) fun s =>
          (s.wr (pca n) PCA_STATE_LOCKED 1).wr (pca n) PCA_LOCK_TIME s.clock

/-- CPL_TO of a PCA in ns (R256). -/
def State.cplTo (s : State) (n : Nat) : Nat := max 5 (s.rd (pca n) PCA_CFG_CPL_TO) * 10000

/-- Has a request table entry waited CPL_TO? -/
def State.timedOut (s : State) (n : Nat) (r : NpReq) : Bool := r.time + s.cplTo n ≤ s.clock

/-- An entry of the request table times out (R237). -/
def State.cplTimeout (s : State) (n : Nat) (r : NpReq) : State :=
  let p := s.pcaOf n
  let s := s.setPca n { p with reqs := p.reqs.filter fun x => x != r }
  (((s.urTo n r.req r.tag).count (pca n) PCA_CNT_TIMEOUT).raise (pca n) 0).admitAll

/-- A completion that matches no entry (R237). -/
def State.unexpected (s : State) (n : Nat) : State := (s.count (pca n) PCA_CNT_UNEXP_CPL).raise (pca n) 3

/-- A completion from the tunnel (R237). -/
def State.cplIn (s : State) (n : Nat) (t : Tlp) : State :=
  let p := s.pcaOf n
  match p.reqs.find? fun r => r.req = t.req && r.tag = t.tag with
  | none => s.unexpected n
  | some r =>
    if s.timedOut n r then (s.cplTimeout n r).unexpected n
    else
      let s := s.send (.tlp n t)
      if t.last then (s.setPca n { p with reqs := p.reqs.filter fun x => x != r }).admitAll else s

/-- A TLP from the tunnel, joined from its packets, goes into the queue of its type (R233, R234). (log 60, DEDUCED) -/
def State.fromTunnel (s : State) (n kind : Nat) (more : Bool) (t : Tlp) : State :=
  let p := s.pcaOf n
  if s.pcaMode n = 0 || !s.pcaPathUp n then s
  else if 2 ≤ kind then s.raise pcie 4
  else if s.is (pca n) PG_STATUS_CONTAINED then
    if more then s
    else if nonPosted t then s.urTo n t.req t.tag
    else if t.kind = .cpl then s.unexpected n
    else (s.count (pca n) PCA_CNT_POSTED_DROP).raise (pca n) 5
  else if more then s.setPca n { p with join := p.join ++ t.bytes }
  else
    let t := { t with bytes := p.join ++ t.bytes }
    let p := { p with join := [] }
    let s := (s.setPca n p).noteTlp t
    if t.malformed then s.raise pcie 4
    else match t.kind with
      | .cpl => s.cplIn n t
      | .unlock => (s.send (.tlp n t)).wr (pca n) PCA_STATE_LOCKED 0
      | .posted => (s.setPca n { p with posted := p.posted ++ [t] }).issuePosted n
      | _ => s.setPca n { p with np := p.np ++ [t] }

/-! ### Sideband mirroring -/

/-- The sender's own apply interval in µs (R240). -/
def State.applyUs (s : State) (n : Nat) : Nat := if s.pcaMode n = 3 then 100 else 1

/-- The levels of R240 that a PCA sends, from those of its local side (R243). -/
def State.sentLevels (s : State) (n lv : Nat) : Nat :=
  match s.pcaMode n with
  | 1 => (if lv.testBit 0 then 1 else 0) + 4
  | 2 => if lv.testBit 1 then 2 else 0
  | 3 => lv / 2 % 16 * 2
  | _ => 0

/-- The local state word with new levels (R240): an assertion of PERST or WAKE advances its generation count. -/
def State.sample (s : State) (n lv : Nat) : State :=
  let old := s.rd (pca n) PCA_SB_LOCAL_WORD
  let new := s.sentLevels n lv
  let rise := fun b => new.testBit b && !old.testBit b
  let pg := (old / 2 ^ 24 + if rise 0 then 1 else 0) % 256
  let wg := (old / 2 ^ 16 + if rise 1 then 1 else 0) % 256
  s.wr (pca n) PCA_SB_LOCAL_WORD (pg * 2 ^ 24 + wg * 2 ^ 16 + s.applyUs n * 256 + new)

/-- Send a sideband update if one is due (R241). (log 59, DEDUCED) -/
def State.sbSend (s : State) (n : Nat) : State :=
  let p := pca n
  let w := s.rd p PCA_SB_LOCAL_WORD
  let far := s.rd p PCA_SB_FAR_WORD / 256 % 256
  let last := s.rd p PCA_SB_TIME
  let gap := s.clock + 1 - last
  let due := last = 0 || (w != s.rd p PCA_SB_SENT && 1000 * max far 1 ≤ gap) || 1000000 ≤ gap
  if s.pcaMode n = 0 || !s.pcaPathUp n || !due then s
  else
    let seq := s.rd p PCA_SB_SEQ
    let s := s.inject (8 + n) (s.rd p PCA_TUN_TX_HANDLE) 0x4000 (beBytes 4 (seq * 2 ^ 24) ++ beBytes 4 w)
    (((s.wr p PCA_SB_SEQ (seq + 1)).wr p PCA_SB_SENT w).wr p PCA_SB_TIME (s.clock + 1)).count p PCA_CNT_SB_TX

/-- Assert or release the reset of a physical link (R228, R229). -/
def State.linkRst (s : State) (l : Nat) (on : Bool) : State :=
  if on then ((s.wr pcie (PE_LINK_STS_RST_N.nth l) 0).wr pcie (PE_LINK_STS_DL_ACTIVE.nth l) 0).wr pcie (PE_LINK_STS_LTSSM.nth l) 0
  else s.when (s.rd pcie (PE_RST_END.nth l) ≤ s.clock) fun s => s.wr pcie (PE_LINK_STS_RST_N.nth l) 1

/-- Does a mirrored PERST reset link `l` through PCA `n` (R243)? (log 59, DEDUCED) -/
def State.perstTo (s : State) (n l : Nat) : Bool :=
  match s.pcaMode n with
  | 3 => s.pcaLink n = some l
  | 2 => !s.endpointRole && s.attach l = 1 && s.rd pcie (PE_LINK_CFG_DOM.nth l) = s.rd (pca n) PCA_CTRL_DOM
  | _ => false

/-- Is link `l` held in reset by a PERST that some PCA mirrors (R242, R243)? (log 59, DEDUCED) -/
def State.perstHeld (s : State) (l : Nat) : Bool :=
  (List.range 8).any fun n => s.perstTo n l && (s.rdBit (pca n) PCA_LV 0 || s.rdBit (pca n) PCA_PULSE 0)

/-- A mirrored PERST level or pulse at a PCA (R243, R244): the reset of its physical link, or of each switch-attached
link of its domain; only the PCA and its local side are reset. -/
def State.applyPerst (s : State) (n : Nat) (on : Bool) : State :=
  let s := s.when on fun s => s.pcaDiscard n
  (List.range 4).foldl (fun s l => s.when (s.perstTo n l) fun s => s.linkRst l on) s

/-- Put levels and pulses on the local side and hold them for APPLY_US (R242, R243). -/
def State.applyLevels (s : State) (n lv pulse : Nat) : State :=
  let p := pca n
  let old := Nat.lor (s.rd p PCA_LV) (s.rd p PCA_PULSE)
  let new := Nat.lor lv pulse
  let s := s.when (s.pcaMode n != 1 && old.testBit 0 != new.testBit 0) fun s => s.applyPerst n (new.testBit 0)
  let s := s.when (s.pcaMode n = 1 && !old.testBit 1 && new.testBit 1) fun s => s.send (.pme (s.rd p PCA_CTRL_DOM))
  ((s.wr p PCA_LV lv).wr p PCA_PULSE pulse).wr p PCA_HOLD (s.clock + 1000 * s.applyUs n)

/-- Bits of `a` that are not in `b`, of four. -/
def minus4 (a b : Nat) : Nat := (List.range 4).foldl (fun m p => setBit m p (a.testBit p && !b.testBit p)) 0

/-- A sideband update arrives (R242): the far word is taken, its levels are applied once the present ones have held for
APPLY_US, and a generation count that moved while its level is deasserted gives one pulse. -/
def State.sbRx (s : State) (n seq word : Nat) : State :=
  let p := pca n
  let d := (seq + 256 - s.rd p PCA_SB_RXSEQ) % 256
  if s.is p PCA_SB_RXV && !(1 ≤ d && d ≤ 127) then s
  else
    let old := s.rd p PCA_SB_FAR_WORD
    let first := !s.is p PCA_SB_RXV
    let pulse := fun (b sh : Nat) => !first && old / 2 ^ sh % 256 != word / 2 ^ sh % 256 && !word.testBit b
    let pu := (if pulse 0 24 then 1 else 0) + if pulse 1 16 then 2 else 0
    let s := ((s.wr p PCA_SB_RXV 1).wr p PCA_SB_RXSEQ seq).wr p PCA_SB_FAR_WORD word
    let lv := word % 32
    if s.rd p PCA_HOLD ≤ s.clock then
      if lv = s.rd p PCA_LV && pu = 0 then s else s.applyLevels n lv pu
    else s.wr p PCA_PEND (Nat.lor (s.rd p PCA_PEND) (minus4 pu (s.rd p PCA_PULSE)))

/-- The hold of a PCA's levels ends (R242): pulses deassert, and levels and pulses that came meanwhile are
applied. (log 59, DEDUCED) -/
def State.sbPulseEnd (s : State) (n : Nat) : State :=
  let p := pca n
  let lv := s.rd p PCA_SB_FAR_WORD % 32
  if s.clock < s.rd p PCA_HOLD then s
  else if s.is p PCA_PULSE || !s.is p PCA_PEND then
    if s.is p PCA_PULSE || lv != s.rd p PCA_LV then s.applyLevels n lv 0 else s
  else (s.applyLevels n lv (s.rd p PCA_PEND)).wr p PCA_PEND 0

end Sys2Proof.Machine
end

