-- ==== Sys2Proof/Machine/DispOps.lean ====
section
/-! DEFINITION. The display pipelines' shared operations: surfaces and commands (R266 to R271 of spec/11_display_pipeline.md), capture and the static picture (R272 to R274), holding and resuming (R275 to R279), refresh, line buffer and latency tolerance (R280 to R282). -/

namespace Sys2Proof.Machine

open Reg

/-! ### What an output holds -/

/-- STATE of an output (R261): 0 OFF, 1 PASS, 2 HELD, 3 RESUMING, 4 RETAINED, 5 IDLE. -/
def State.dst (s : State) (n : Nat) : Nat := s.rd (disp n) DISP_STATUS_STATE

/-- The active MODE; 3 acts as 0 (R284). -/
def State.dmode (s : State) (n : Nat) : Nat :=
  let m := s.rdA (disp n) DISP_MODE_MODE
  if m = 3 then 0 else m

/-- PT_FILL: 1 to 6, other values act as 2. -/
def State.ptFill (s : State) (n : Nat) : Nat :=
  let v := s.rd (disp n) DISP_CFG_PT_FILL
  if 1 ≤ v && v ≤ 6 then v else 2

/-- STATIC_N: below 2 acts as 2. -/
def State.staticN (s : State) (n : Nat) : Nat := max 2 (s.rd (disp n) DISP_CFG_STATIC_N)

/-- PCLK_KHZ as it acts. -/
def State.pclk (s : State) (n : Nat) : Nat := min 4000000 (s.rdA (disp n) DISP_PCLK_PCLK_KHZ)

/-- The other output of a pair (R293). -/
def partner (n : Nat) : Nat := if n % 2 = 0 then n + 1 else n - 1

/-- Is output `n` in a locked pair (R293)? (log 73, DEDUCED) -/
def State.paired (s : State) (n : Nat) : Bool := s.is (dout n) DOUT_PAIR_STS_LOCKED

/-- The outputs that a trigger on output `n` acts for (R279). -/
def State.both (s : State) (n : Nat) : List Nat := if s.paired n then [n, partner n] else [n]

/-- Do an output's rows run with its own timing: it is no slave that follows its master (R294)? -/
def State.ownTiming (s : State) (n : Nat) : Bool := !(s.paired n && n % 2 = 1 && !s.is (disp n) DISP_ALIGN)

/-- The outputs whose lines and frames advance with output `n` (R294). -/
def State.inStep (s : State) (n : Nat) : List Nat :=
  if s.paired n && n % 2 = 0 && !s.is (disp (n + 1)) DISP_ALIGN then [n, n + 1] else [n]

/-! ### Pixels -/

/-- A colour component of `a` bits widened or rounded to `b` bits (R266). (log 68, PRESUMED) -/
def widen (a b v : Nat) : Nat :=
  match a, b with
  | 10, 8 => min 255 ((v + 2) / 4)
  | 8, 10 => v * 4 + v / 64
  | 5, 10 => v * 32 + v
  | 6, 10 => v * 16 + v / 4
  | 5, 8 => v * 8 + v / 4
  | 6, 8 => v * 4 + v / 16
  | _, _ => v

/-- A pixel as one word (R284): red, green and blue in 10 bits each, 8 bpc values shifted left by 2. -/
def word30 (b r g bl : Nat) : Nat := let k := if b = 8 then 4 else 1; k * r * 2 ^ 20 + k * g * 2 ^ 10 + k * bl

/-- Bytes per pixel of a format (R266). (log 68, PRESUMED) -/
def fmtBytes (f : Nat) : Nat := if f = 2 then 2 else 4

/-- A stored pixel at an output depth of `b` bits per component (R266). (log 69, DESIGN CHOICE) -/
def pixelOut (fmt b v : Nat) : Nat :=
  match fmt with
  | 0 => word30 b (widen 10 b (v / 2 ^ 20 % 1024)) (widen 10 b (v / 2 ^ 10 % 1024)) (widen 10 b (v % 1024))
  | 1 => word30 b (widen 8 b (v / 2 ^ 16 % 256)) (widen 8 b (v / 2 ^ 8 % 256)) (widen 8 b (v % 256))
  | _ => word30 b (widen 5 b (v / 2 ^ 11 % 32)) (widen 6 b (v / 2 ^ 5 % 64)) (widen 5 b (v % 32))

/-! ### Surfaces -/

/-- The bytes of one copy of surface `f`. (log 68, PRESUMED) -/
def State.copyBytes (s : State) (n f : Nat) : Nat :=
  s.rdA (disp n) (SURF_CFG_STRIDE.nth f) * 64 * s.rdA (disp n) (SURF_GEOM_H.nth f)

/-- Is a surface double-buffered? -/
def State.dbuf (s : State) (n f : Nat) : Bool := s.rdA (disp n) (SURF_CFG_DBUF.nth f) != 0

/-- Is a surface shown and addressable? -/
def State.surfOn (s : State) (n f : Nat) : Bool := s.rdA (disp n) (SURF_CFG_EN.nth f) != 0

/-- The format of a surface. -/
def State.fmt (s : State) (n f : Nat) : Nat := s.rdA (disp n) (SURF_CFG_FMT.nth f)

/-- The address of pixel (x, y) of the copy of a surface that is shown, or of its back copy; without DBUF there is one
copy (R266, R269). -/
def State.surfAddr (s : State) (n f : Nat) (back : Bool) (x y : Nat) : Nat :=
  let p := disp n
  let base := s.rdA p (SURF_BASE_HI_ADDR_HI.nth f) * 2 ^ 32 + s.rdA p (SURF_BASE_LO_ADDR_LO.nth f) * 4096
  let second := s.dbuf n f && (s.is p (SURF_STATE_FRONT.nth f) != back)
  base + (if second then s.copyBytes n f else 0) + y * s.rdA p (SURF_CFG_STRIDE.nth f) * 64 +
    x * fmtBytes (s.fmt n f)

/-- Does a rectangle lie within a surface (R271)? -/
def State.inSurf (s : State) (n f : Nat) (r : Rect) : Bool :=
  r.x + r.w ≤ s.rdA (disp n) (SURF_GEOM_W.nth f) && r.y + r.h ≤ s.rdA (disp n) (SURF_GEOM_H.nth f)

/-- What a surface fails of R267 in its shadow copies: causes 1 to 4. -/
def State.surfCause (s : State) (n f : Nat) : Nat :=
  let p := disp n
  let w := s.rd p (SURF_GEOM_W.nth f)
  let h := s.rd p (SURF_GEOM_H.nth f)
  let fm := s.rd p (SURF_CFG_FMT.nth f)
  let pitch := s.rd p (SURF_CFG_STRIDE.nth f) * 64
  let base := s.rd p (SURF_BASE_HI_ADDR_HI.nth f) * 2 ^ 32 + s.rd p (SURF_BASE_LO_ADDR_LO.nth f) * 4096
  let size := pitch * h * (if s.is p (SURF_CFG_DBUF.nth f) then 2 else 1)
  if !s.is p (SURF_CFG_EN.nth f) then 0
  else if w = 0 || h = 0 || 8192 < w || 8192 < h then 1
  else if fm != 3 && pitch < w * fmtBytes fm then 2
  else if fm = 3 then 3
  else if s.rd memp MEM_INSTALLED * 2 ^ 20 < base + size then 4
  else 0

/-- The check made on accepting an arm of a DISP page (R267): a page that fails is disarmed. -/
def State.dispCheck (s : State) (n : Nat) : State :=
  let p := disp n
  match (List.range 8).find? fun f => s.surfCause n f != 0 with
  | none => ((s.wr p DISP_CHECK_FAIL 0).wr p DISP_CHECK_CAUSE 0).wr p DISP_CHECK_SURF 0
  | some f =>
    let s := ((s.wr p DISP_CHECK_FAIL 1).wr p DISP_CHECK_CAUSE (s.surfCause n f)).wr p DISP_CHECK_SURF f
    (s.wr p PG_SHADOW_CTRL_ARMED 0).raise p 5

/-- The smallest rectangle around two. -/
def Rect.join (a b : Rect) : Rect :=
  let x := min a.x b.x
  let y := min a.y b.y
  ⟨x, y, max (a.x + a.w) (b.x + b.w) - x, max (a.y + a.h) (b.y + b.h) - y⟩

/-- Track damage (R270): up to 16 rectangles; a 17th merges all into one. -/
def addDamage (l : List Rect) (r : Rect) : List Rect := if l.length < 16 then l ++ [r] else [l.foldl Rect.join r]

/-- The damage of a surface grows by a rectangle. -/
def State.damage (s : State) (n f : Nat) (r : Rect) : State :=
  if s.dbuf n f then
    let d := s.dispOf n
    let l := addDamage (d.damage.list f) r
    (s.setDisp n { d with damage := d.damage.setList f l }).wr (disp n) (SURF_STATE_NDAMAGE.nth f) l.length
  else s

/-- Write the rows of a rectangle into the back copy of a surface, or its only copy. -/
def State.putRows (s : State) (n f : Nat) (r : Rect) (row : Nat → List Byte) : State :=
  (List.range r.h).foldl (fun s i => s.memWrite n (s.surfAddr n f true r.x (r.y + i)) (row i)) s

/-- The bytes of row `i` of a rectangle of a surface. -/
def State.getRow (s : State) (n f : Nat) (back : Bool) (r : Rect) (i : Nat) : List Byte :=
  s.memBytes (s.surfAddr n f back r.x (r.y + i)) (r.w * fmtBytes (s.fmt n f))

/-! ### Completions -/

/-- Send a completion of 8 B, and the data of a read, on the completion path (R271). -/
def State.complete (s : State) (n id status op frame : Nat) (data : List Byte) : State :=
  let h := s.rd (disp n) DISP_PATH_B_CPL_HANDLE
  if h = 0 then s
  else
    let bs := beBytes 4 (id * 65536 + status * 256 + op) ++ beBytes 4 frame ++ data
    let ps := pieces 256 (bs.length + 1) bs
    ((ps.zip (List.range ps.length)).foldl (fun s x =>
      s.inject (0x10 + n) h (if x.2 + 1 = ps.length then 0 else 0x2000) x.1) s)

/-- A command is refused or fails (R271). -/
def State.cmdErr (s : State) (n : Nat) : State := (s.count (disp n) DISP_CNT_CMD_ERR).raise (disp n) 4

/-- A command fails with a status. -/
def State.cmdFail (s : State) (n id status op : Nat) : State := (s.complete n id status op 0 []).cmdErr n

/-- OP of a command (R269). -/
def opOf : DispCmd → Nat
  | .write .. => 1
  | .fill .. => 2
  | .copy .. => 3
  | .commit .. => 4
  | .fence .. => 5
  | .read .. => 6
  | .bad _ op => op

/-- CMD_ID of a command. -/
def idOf : DispCmd → Nat
  | .write id .. | .fill id .. | .copy id .. | .commit id .. | .fence id | .read id .. | .bad id _ => id

/-- Every pending command ends with ABORTED (R271, R286). -/
def State.abortCmds (s : State) (n : Nat) : State :=
  let d := s.dispOf n
  let s := s.setDisp n { d with cmds := [], commits := [] }
  let s := d.commits.foldl (fun s c => s.cmdFail n c.1 5 4) s
  let s := d.cmds.foldl (fun s c => s.cmdFail n (idOf c) 5 (opOf c)) s
  (List.range 8).foldl (fun s f => s.wr (disp n) (SURF_STATE_COMMIT_PEND.nth f) 0) s

/-! ### Carrying out commands -/

/-- The capture that READ_RECT with CAP = 1 reads: the last complete one. -/
def State.lastCap (s : State) (n : Nat) : Option (Nat × Cap) :=
  if s.is (disp n) DISP_STATUS_CAP_VALID then
    let b := s.rd (disp n) DISP_STATUS_CAP_BUF
    (Tab.find (s.dispOf n).caps b).map fun c => (b, c)
  else none

/-- The start of a capture buffer. -/
def State.capBase (s : State) (n b : Nat) : Nat :=
  s.rd (disp n) (DISP_CAP_HI_ADDR_HI.nth b) * 2 ^ 32 + s.rd (disp n) (DISP_CAP_LO_ADDR_LO.nth b) * 4096

/-- The status of a command before it is carried out (R271): 0, 1 BAD_OP, 2 BAD_SURF, 3 BAD_RECT. -/
def State.cmdStatus (s : State) (n : Nat) : DispCmd → Nat
  | .write _ f r _ | .fill _ f r _ => if !s.surfOn n f then 2 else if s.inSurf n f r then 0 else 3
  | .copy _ f g r sx sy =>
    if !s.surfOn n f || !s.surfOn n g then 2
    else if s.inSurf n f r && s.inSurf n g ⟨sx, sy, r.w, r.h⟩ then 0 else 3
  | .read _ f false r => if !s.surfOn n f then 2 else if s.inSurf n f r then 0 else 3
  | .read _ _ true r => match s.lastCap n with
    | some (_, c) => if r.x + r.w ≤ c.len / 4 && r.y + r.h ≤ c.lines then 0 else 3
    | none => 3
  | .bad .. => 1
  | _ => 0

/-- Does a command wait (R270): for the DRAM, or for a surface with a COMMIT pending or a copy-forward running? -/
def State.cmdWaits (s : State) (n : Nat) (c : DispCmd) : Bool :=
  let mem := !(s.dramUp || s.rd memp MEM_STATUS_STATE = 5)
  let busy := fun f => s.is (disp n) (SURF_STATE_COMMIT_PEND.nth f) || s.is (disp n) (SURF_STATE_COPYING.nth f)
  s.cmdStatus n c = 0 && match c with
    | .write _ f .. | .fill _ f .. | .copy _ f .. => mem || busy f
    | .read .. => mem
    | _ => false

/-- The pixels of a READ_RECT in surface format 0 (R271). A pixel of format 0 is returned as stored; the two upper bits
of the others are a free value, since the spec gives them none. (log 69, DESIGN CHOICE; log 76, DESIGN CHOICE) -/
def State.readPixels (s : State) (n f : Nat) (r : Rect) (alpha : Nat) : List Byte :=
  let k := fmtBytes (s.fmt n f)
  (List.range r.h).flatMap fun i =>
    let row := s.getRow n f true r i
    (List.range r.w).flatMap fun x =>
      let v := leNat ((row.drop (k * x)).take k)
      leBytes 4 (if s.fmt n f = 0 then v else alpha % 4 * 2 ^ 30 + pixelOut (s.fmt n f) 10 v)

/-- The bytes that COPY_RECT writes into row `i`: those of the source as it was; between surfaces of different formats the
spec states no result, and each byte is a free value. (log 69, DESIGN CHOICE) -/
def State.copyRow (s : State) (n f g : Nat) (r : Rect) (sx sy i : Nat) : List Byte :=
  if s.fmt n f = s.fmt n g then s.getRow n g true ⟨sx, sy, r.w, r.h⟩ i
  else
    let k := r.w * fmtBytes (s.fmt n f)
    (List.range k).map fun j => BitVec.ofNat 8 (Config.freeValue (s.fresh + i * k + j))

/-- Carry out a command that does not wait (R269 to R271). -/
def State.cmdDo (s : State) (n : Nat) (c : DispCmd) : State :=
  let st := s.cmdStatus n c
  if st != 0 then s.cmdFail n (idOf c) st (opOf c)
  else
    let done := fun s : State => s.count (disp n) DISP_CNT_CMD
    match c with
    | .write id f r data =>
      let k := r.w * fmtBytes (s.fmt n f)
      let s := s.putRows n f r fun i => (data.drop (k * i)).take k
      let s := s.damage n f r
      if data.length = k * r.h then done s else s.cmdFail n id 4 1
    | .fill _ f r v =>
      let px := leBytes (fmtBytes (s.fmt n f)) v
      done ((s.putRows n f r fun _ => (List.replicate r.w px).flatten).damage n f r)
    | .copy _ f g r sx sy =>
      let rows := (List.range r.h).map fun i => s.copyRow n f g r sx sy i
      let s := (s.putRows n f r fun i => rows.getD i []).damage n f r
      let s := s.memRead n (s.surfAddr n g true sx sy) (r.w * r.h * fmtBytes (s.fmt n g))
      done { s with fresh := s.fresh + r.h * (r.w * fmtBytes (s.fmt n f)) }
    | .commit id mask =>
      let d := s.dispOf n
      let s := s.setDisp n { d with commits := d.commits ++ [(id, mask)] }
      done ((List.range 8).foldl (fun s f => s.when (mask.testBit f) fun s => s.wr (disp n) (SURF_STATE_COMMIT_PEND.nth f) 1) s)
    | .fence id => done (s.complete n id 0 5 0 [])
    | .read id f false r =>
      let data := s.readPixels n f r s.freeNat
      let s := s.memRead n (s.surfAddr n f true r.x r.y) (r.w * r.h * fmtBytes (s.fmt n f))
      done (s.tookFree.complete n id 0 6 0 data)
    | .read id _ true r =>
      match s.lastCap n with
      | none => s
      | some (b, cp) =>
        let row := fun i => s.memBytes (s.capBase n b + (r.y + i) * cp.pitch + 4 * r.x) (4 * r.w)
        let data := (List.range r.h).flatMap row
        done ((s.memRead n (s.capBase n b + r.y * cp.pitch + 4 * r.x) (4 * r.w * r.h)).complete n id 0 6 0 data)
    | .bad .. => s

/-- Carry out the waiting commands of the path strictly in order, up to one that waits (R270). -/
def State.cmdRun : Nat → State → Nat → State
  | 0, s, _ => s
  | fuel + 1, s, n =>
    let d := s.dispOf n
    match d.cmds with
    | [] => s
    | c :: rest =>
      if s.cmdWaits n c then s
      else State.cmdRun fuel ((s.setDisp n { d with cmds := rest }).cmdDo n c) n

/-- Carry out what can be. -/
def State.cmdGo (s : State) (n : Nat) : State := State.cmdRun ((s.dispOf n).cmds.length + 1) s n

/-- A command arrives on a handle (R262, R268): on another handle than RC_HANDLE it is discarded and counted. -/
def State.cmdIn (s : State) (n handle : Nat) (c : DispCmd) : State :=
  if !s.works (disp n) then s
  else if handle = 0 || s.rd (disp n) DISP_PATH_A_RC_HANDLE != handle then s.cmdErr n
  else
    let d := s.dispOf n
    (s.setDisp n { d with cmds := d.cmds ++ [c] }).cmdGo n

/-! ### Flips and copy-forward -/

/-- The surfaces named by the pending COMMITs. (log 71, DEDUCED) -/
def State.flipMask (s : State) (n : Nat) : List Nat :=
  (List.range 8).filter fun f => (s.dispOf n).commits.any fun c => c.2.testBit f

/-- The pending COMMITs take effect (R270): the double-buffered surfaces in their masks exchange front and back, and the
damage since the previous flip is to be copied forward. (log 71, DEDUCED) -/
def State.flip (s : State) (n : Nat) : State :=
  let d := s.dispOf n
  if d.commits.isEmpty then s
  else
    let p := disp n
    let fs := s.flipMask n
    let s := fs.foldl (fun s f =>
      let s := s.wr p (SURF_STATE_COMMIT_PEND.nth f) 0
      if !s.dbuf n f then s
      else
        let d := s.dispOf n
        let all := Rect.mk 0 0 (s.rdA p (SURF_GEOM_W.nth f)) (s.rdA p (SURF_GEOM_H.nth f))
        let rs := if d.whole.contains f then [all] else d.damage.list f
        let s := s.setDisp n { d with damage := d.damage.del f, copies := d.copies.setList f rs }
        let s := (s.wr p (SURF_STATE_FRONT.nth f) (1 - s.rd p (SURF_STATE_FRONT.nth f))).wr p (SURF_STATE_NDAMAGE.nth f) 0
        s.wr p (SURF_STATE_COPYING.nth f) (if rs.isEmpty then 0 else 1)) s
    let s := s.setDisp n { s.dispOf n with commits := [] }
    let s := d.commits.foldl (fun s c => s.complete n c.1 0 4 ((s.rd p DISP_FRAME + 1) % 2 ^ 32) []) s
    (s.when (fs.any fun f => s.dbuf n f) fun s => s.wr p DISP_FLIPPED 1).cmdGo n

/-- The copy-forward of a surface completes (R270): from the front to the back copy. -/
def State.copyDone (s : State) (n f : Nat) : State :=
  let d := s.dispOf n
  let rs := d.copies.list f
  let s := s.setDisp n { d with copies := d.copies.del f }
  let s := rs.foldl (fun s r =>
    let rows := (List.range r.h).map fun i => s.getRow n f false r i
    (s.putRows n f r fun i => rows.getD i []).memRead n (s.surfAddr n f false r.x r.y) (r.w * r.h * fmtBytes (s.fmt n f))) s
  (s.wr (disp n) (SURF_STATE_COPYING.nth f) 0).cmdGo n

/-! ### Timing -/

/-- The active timing fields with their values in an MSA (R283). -/
def msaFields (m : Msa) : List (Field × Nat) :=
  [(DISP_HTIME_HTOTAL, m.htotal), (DISP_HTIME_HACTIVE, m.hactive), (DISP_HSYNC_HSTART, m.hstart), (DISP_HSYNC_HSP, m.hsp),
   (DISP_HSYNC_HSW, m.hsw), (DISP_VTIME_VTOTAL, m.vtotal), (DISP_VTIME_VACTIVE, m.vactive), (DISP_VSYNC_VSTART, m.vstart),
   (DISP_VSYNC_VSP, m.vsp), (DISP_VSYNC_VSW, m.vsw), (DISP_PCLK_PCLK_KHZ, m.pclk)]

/-- The fields that R283 calls the active timing. -/
def timingFields : List Field :=
  [DISP_HTIME_HTOTAL, DISP_HTIME_HACTIVE, DISP_HSYNC_HSTART, DISP_HSYNC_HSP, DISP_HSYNC_HSW, DISP_VTIME_VTOTAL,
   DISP_VTIME_VACTIVE, DISP_VSYNC_VSTART, DISP_VSYNC_VSP, DISP_VSYNC_VSW, DISP_PCLK_PCLK_KHZ]

/-- Take up the stream's MSA (R265, R283). -/
def State.takeMsa (s : State) (n : Nat) : State :=
  match (s.dispOf n).msa with
  | none => s
  | some m => (msaFields m).foldl (fun s x => s.wrA (disp n) x.1 x.2) s

/-- Does the stream's timing differ from the active timing (R277)? -/
def State.msaDiffers (s : State) (n : Nat) : Bool :=
  match (s.dispOf n).msa with
  | none => false
  | some m => (msaFields m).any fun x => s.rdA (disp n) x.1 != x.2 % 2 ^ x.1.len

/-- The active VTOTAL and VACTIVE. -/
def State.vtotal (s : State) (n : Nat) : Nat := s.rdA (disp n) DISP_VTIME_VTOTAL
def State.vactive (s : State) (n : Nat) : Nat := s.rdA (disp n) DISP_VTIME_VACTIVE
def State.hactive (s : State) (n : Nat) : Nat := s.rdA (disp n) DISP_HTIME_HACTIVE

/-- Lines of a blanking of normal length. -/
def State.normalBlank (s : State) (n : Nat) : Nat := s.vtotal n - s.vactive n

/-- The time of one line in ps, 0 while no timing is known. -/
def State.linePs (s : State) (n : Nat) : Nat :=
  if s.pclk n = 0 then 0 else s.rdA (disp n) DISP_HTIME_HTOTAL * 10 ^ 9 / s.pclk n

/-! ### The output link -/

/-- MAX_LANES: 1, 2 or 4, other values act as 4 (R300). -/
def State.maxLanes (s : State) (n : Nat) : Nat :=
  let v := s.rd (dout n) DOUT_LINK_CFG_MAX_LANES
  if v = 1 || v = 2 then v else 4

/-- MAX_RATE: 0 to 4, other values act as 4 (R300). -/
def State.maxRate (s : State) (n : Nat) : Nat := min 4 (s.rd (dout n) DOUT_LINK_CFG_MAX_RATE)

/-- Does a rate on a number of lanes carry `need` kbit/s (R287)? -/
def carriesKbit (rate lanes need : Nat) : Bool :=
  match rate with
  | 0 => need ≤ lanes * 4320000
  | 1 => need ≤ lanes * 6480000
  | 2 => need * 132 ≤ lanes * 10000000 * 128
  | 3 => need * 132 ≤ lanes * 13500000 * 128
  | _ => need * 132 ≤ lanes * 20000000 * 128

/-- The payload in kbit/s that the retained timing needs (R288). -/
def State.retainedKbit (s : State) (n : Nat) : Nat :=
  let b := s.rdA (disp n) DISP_FMT_BPC
  s.pclk n * 3 * (if b = 0 then 8 else if b = 2 then 12 else 10)

/-- The payload in kbit/s that the retained timing, or an uncompressed SST stream, needs (R288). -/
def State.needKbit (s : State) (n : Nat) : Nat :=
  let p := disp n
  if s.dst n = 4 then s.retainedKbit n
  else if s.is p DISP_STATUS_DSC || s.is p DISP_STATUS_MST then 0
  else s.pclk n * 3 * (((s.dispOf n).msa.map fun m => m.bpc).getD 0)

/-- The configuration to train (R288): rate and lanes. (log 75, DEDUCED) -/
def State.wanted (s : State) (n : Nat) : Nat × Nat :=
  let d := dout n
  if s.dst n != 4 && s.is d DOUT_HOST_V then (s.rd d DOUT_HOST_RATE, s.rd d DOUT_HOST_LANES)
  else
    let l := min (s.rd d DOUT_SINK_LANES) (s.maxLanes n)
    let rs := (List.range (s.maxRate n + 1)).filter fun r => carriesKbit r l (s.retainedKbit n)
    (rs.headD (s.maxRate n), l)

/-- Train the output link at a configuration (R288). -/
def State.trainAt (s : State) (n rate lanes : Nat) : State :=
  let d := dout n
  let s := ((s.wr d DOUT_LINK_STS_TRAINED 0).wr d DOUT_TRAINING 1).wr d DOUT_TRAIN_DUE 0
  ((s.wr d DOUT_WANT_RATE rate).wr d DOUT_WANT_LANES lanes).send (.dpTrain n rate lanes)

/-- Train under R288, with a sink present. (log 75, DEDUCED) -/
def State.startTrain (s : State) (n : Nat) : State :=
  if s.is (dout n) DOUT_LINK_STS_HPD then s.trainAt n (s.wanted n).1 (s.wanted n).2 else s

/-- LINK_FIT if the trained payload is below what is needed (R288). -/
def State.fitCheck (s : State) (n : Nat) : State :=
  let d := dout n
  if !s.is d DOUT_LINK_STS_TRAINED then s
  else if carriesKbit (s.rd d DOUT_LINK_STS_RATE) (s.rd d DOUT_LINK_STS_LANES) (s.needKbit n) then s.wr d DOUT_UNFIT 0
  else (s.wr d DOUT_UNFIT 1).raise d 4

/-- The timing of an output has changed: it trains again if another configuration is needed (R265, R283, R288). -/
def State.retime (s : State) (n : Nat) : State :=
  let d := dout n
  if !s.is d DOUT_LINK_STS_TRAINED then s
  else if s.wanted n != (s.rd d DOUT_LINK_STS_RATE, s.rd d DOUT_LINK_STS_LANES) && (s.dst n = 4 || !s.is d DOUT_HOST_V) then
    s.startTrain n
  else s.fitCheck n

/-- Send one packet with AUX or HPD contents on the completion path (R290): kind 1 AUX, 2 HPD. -/
def State.sideSend (s : State) (n kind : Nat) (bs : List Byte) : State :=
  let h := s.rd (disp n) DISP_PATH_B_CPL_HANDLE
  if h = 0 then s else s.inject (0x10 + n) h (kind * 0x4000) bs

/-! ### AUX -/

/-- Command, address and data of an AUX request as its bytes stand on the wire: the command in the upper four bits of the
first byte, then 20 bits of address and a length byte (PRESUMED, DisplayPort). (log 74, PRESUMED) -/
def auxCmd (bs : List Byte) : Nat := (bs.headD 0).toNat / 16
/-- log 74, PRESUMED. -/
def auxAddr (bs : List Byte) : Nat :=
  (bs.headD 0).toNat % 16 * 2 ^ 16 + (bs.getD 1 0).toNat * 256 + (bs.getD 2 0).toNat

/-- A native write to the link configuration and link training addresses, DPCD 0x100 to 0x10F (PRESUMED). (log 74, PRESUMED) -/
def auxTrainWrite (bs : List Byte) : Bool := auxCmd bs = 8 && 0x100 ≤ auxAddr bs && auxAddr bs ≤ 0x10F

/-- A native read of the training status, DPCD 0x202 to 0x207 (PRESUMED). (log 74, PRESUMED) -/
def auxStatusRead (bs : List Byte) : Bool := auxCmd bs = 9 && 0x202 ≤ auxAddr bs && auxAddr bs ≤ 0x207

/-- The rate that a value of LINK_BW_SET names (PRESUMED, DisplayPort). (log 74, PRESUMED) -/
def bwRate (v : Nat) : Option Nat :=
  match v with
  | 0x14 => some 0
  | 0x1E => some 1
  | 0x01 => some 2
  | 0x04 => some 3
  | 0x02 => some 4
  | _ => none

/-- The byte at a status address (PRESUMED, DisplayPort): 7 per trained lane, and the alignment bit. -/
def State.auxStatus (s : State) (n a : Nat) : Byte :=
  let d := dout n
  let l := if s.is d DOUT_LINK_STS_TRAINED then s.rd d DOUT_LINK_STS_LANES else 0
  let two := fun k => (if k < l then 7 else 0) + if k + 1 < l then 0x70 else 0
  BitVec.ofNat 8 (match a with
    | 0x202 => two 0
    | 0x203 => two 2
    | 0x204 => if l = 0 then 0 else 1
    | _ => 0)

/-- A host write of the link configuration (R288, R291): what it names is kept, and the hub trains. -/
def State.auxConfig (s : State) (n : Nat) (bs : List Byte) : State :=
  let d := dout n
  let at' := fun a => if auxAddr bs ≤ a then bs[4 + (a - auxAddr bs)]? else none
  let s := match at' 0x100 with
    | some b => match bwRate b.toNat with
      | some r => (s.wr d DOUT_HOST_RATE r).wr d DOUT_HOST_V 1
      | none => s
    | none => s
  let s := match at' 0x101 with
    | some b => s.wr d DOUT_HOST_LANES (b.toNat % 8)
    | none => s
  s.startTrain n

/-- Serve the front of the AUX queue (R291): answer it here, or send it to the sink. -/
def State.auxServe : Nat → State → Nat → State
  | 0, s, _ => s
  | fuel + 1, s, n =>
    let q := s.dispOf n
    match q.aux with
    | [] => s
    | a :: rest =>
      let pop := fun s : State => s.setDisp n { q with aux := rest }
      if a.host && auxTrainWrite a.bytes then
        State.auxServe fuel (((pop s).sideSend n 1 [0]).auxConfig n a.bytes) n
      else if a.host && auxStatusRead a.bytes then
        let k := (a.bytes.getD 3 0).toNat + 1
        State.auxServe fuel ((pop s).sideSend n 1 (0 :: (List.range k).map fun i => s.auxStatus n (auxAddr a.bytes + i))) n
      else ((s.wr (dout n) DOUT_AUX_TIME s.clock).wr (dout n) DOUT_AUX_TRY 0).send (.aux n a.bytes)

/-- The request being served ends, with a reply for the host if it is its own. -/
def State.auxEnd (s : State) (n : Nat) (reply : List Byte) : State :=
  let q := s.dispOf n
  match q.aux with
  | [] => s
  | a :: rest =>
    let s := s.setDisp n { q with aux := rest }
    State.auxServe (rest.length + 1) (s.when a.host fun s => s.sideSend n 1 reply) n

/-! ### Holding and resuming -/

/-- An entry to HELD (R275). -/
def State.enterHeld (s : State) (n cause : Nat) : State :=
  let p := disp n
  let s := ((s.wr p DISP_STATUS_STATE 2).wr p DISP_STATUS_HOLD_CAUSE cause).count p DISP_CNT_HOLD
  s.setInt p 9

/-- No hold is pending. -/
def State.noHold (s : State) (n : Nat) : State :=
  let p := disp n
  (((s.wr p DISP_HOLD_RQ 0).wr p DISP_HOLD_FAILS 0).wr p DISP_STATUS_HOLD_PEND 0).wr p DISP_FORCED 0

/-- From PASS to HELD if a capture is valid, otherwise to IDLE (R275, R276). -/
def State.goHeld (s : State) (n cause : Nat) : State :=
  let p := disp n
  let s := (s.noHold n).setDisp n { s.dispOf n with lines := [] }
  if s.is p DISP_STATUS_CAP_VALID then (s.wr p DISP_SCAN (s.rd p DISP_STATUS_CAP_BUF)).enterHeld n cause
  else s.wr p DISP_STATUS_STATE 5

/-- From PASS by a forced cause: FORCED_HOLD (R275). (log 72, DEDUCED) -/
def State.goForced (s : State) (n cause : Nat) : State := (s.raise (disp n) 3).goHeld n cause

/-- A forced cause reaches one output (R275): in PASS it waits for vertical blanking, unless the output is in it; in
RESUMING the output is HELD at once. (log 72, DEDUCED) -/
def State.forceOne (s : State) (n cause : Nat) : State :=
  let p := disp n
  if s.dst n = 1 then
    if s.is p DISP_VB then s.goForced n cause
    else s.when (!s.is p DISP_FORCED) fun s => s.wr p DISP_FORCED cause
  else if s.dst n = 3 then s.enterHeld n cause
  else s

/-- A forced cause acts for both outputs of a locked pair (R279). (log 72, DEDUCED) -/
def State.dispForce (s : State) (n cause : Nat) : State := (s.both n).foldl (fun s m => s.forceOne m cause) s

/-- A hold is requested (R275): 1 by software, 2 by STATIC. -/
def State.askHold (s : State) (n why : Nat) : State :=
  (s.both n).foldl (fun s m =>
    let p := disp m
    if s.dst m = 1 then s.when (!s.is p DISP_HOLD_RQ) fun s => s.wr p DISP_HOLD_RQ why
    else s.when (s.dst m = 3 && why = 1) fun s => s.enterHeld m 1) s

/-- A resume (R275). (log 72, DEDUCED) -/
def State.resume (s : State) (n : Nat) : State :=
  (s.both n).foldl (fun s m => s.when (s.dst m = 2) fun s =>
    (s.wr (disp m) DISP_STATUS_STATE 3).wr (disp m) DISP_STIME s.clock) s

/-- ISO_SHORT or ISO_OK about a path to output `n` (R225, R275). -/
def State.dispShort (s : State) (n id : Nat) (short : Bool) : State :=
  s.when (short && id != 0 && s.rd (disp n) DISP_PATH_A_PT_HANDLE = id) fun s => s.dispForce n 3

/-- A path of output `n` is declared down (R158, R275, R291). -/
def State.dispDown (s : State) (n id : Nat) : State :=
  if id != 0 && s.rd (disp n) DISP_PATH_A_PT_HANDLE = id then
    let d := s.dispOf n
    let left := d.aux.filter fun a => !a.host
    let own := (d.aux.head?.map fun a => a.host).getD false
    let s := s.setDisp n { d with aux := left }
    (s.when own fun s => State.auxServe (left.length + 1) s n).dispForce n 4
  else s

/-! ### Capture -/

/-- An incomplete capture (R272). -/
def State.capBad (s : State) (n : Nat) : State :=
  ((s.count (disp n) DISP_CNT_CAP_BAD).raise (disp n) 6).wr (disp n) DISP_CAPWR 0

/-- Is the next stream frame written to DRAM (R272, R274)? -/
def State.capWanted (s : State) (n : Nat) (m : Msa) : Bool :=
  let p := disp n
  let st := s.dst n
  1 ≤ st && st ≤ 3 && !m.mst && s.rdA p DISP_MODE_CAP_EN != 0 &&
  (s.rdA p DISP_MODE_CAP_ONSTATIC = 0 || s.staticN n - 1 ≤ s.rd p DISP_RUN || s.is p DISP_HOLD_RQ || s.is p DISP_FORCED ||
    2 ≤ st)

/-- The buffer that the next frame takes (R272, R275). -/
def State.capNext (s : State) (n : Nat) : Nat :=
  let p := disp n
  if 2 ≤ s.dst n then 1 - s.rd p DISP_SCAN
  else if s.is p DISP_STATUS_CAP_VALID then 1 - s.rd p DISP_STATUS_CAP_BUF else 0

/-- A stream frame begins (R265, R272). A changed MSA within the active part of a frame in PASS is STREAM_LOST. -/
def State.streamMsa (s : State) (n : Nat) (m : Msa) : State :=
  let p := disp n
  let d := s.dispOf n
  let l := s.rd p DISP_SLINE
  let mid := match d.msa with
    | some o => 0 < l && l < o.vactive
    | none => false
  let s := s.when (mid && d.msa != some m && s.dst n = 1) fun s => (s.raise p 1).dispForce n 5
  let s := s.when (mid && s.is p DISP_CAPWR) fun s => s.capBad n
  let s := s.setDisp n { s.dispOf n with msa := some m }
  let s := ((s.wr p DISP_STREAM_HACTIVE m.hactive).wr p DISP_STREAM_VACTIVE m.vactive).wr p DISP_STATUS_STREAM 1
  let s := (s.wr p DISP_STATUS_DSC (if m.dsc then 1 else 0)).wr p DISP_STATUS_MST (if m.mst then 1 else 0)
  let s := ((((s.wr p DISP_SFRAME (s.rd p DISP_SFRAME + 1)).wr p DISP_SLINE 0).wr p DISP_SOK 1).wr p DISP_SVALID 1).wr p
    DISP_STIME s.clock
  ((((s.wr p DISP_CAPTO (s.capNext n)).wr p DISP_CAPWR (if s.capWanted n m then 1 else 0)).wr p DISP_CAPFIT 1).wr p
    DISP_CAPCRC 0xFFFFFFFF)

/-- Bytes of a captured line in its buffer (R272). -/
def capPitch (len : Nat) : Nat := (len + 63) / 64 * 64

/-- STATIC follows the CRC of a complete frame (R273), and may hold or resume the output (R275). -/
def State.staticStep (s : State) (n crc : Nat) : State :=
  let p := disp n
  let same := s.is p DISP_RUN && s.rd p DISP_IN_CRC_CRC = crc
  let run := if same then min 511 (s.rd p DISP_RUN + 1) else 1
  let s := (s.wr p DISP_RUN run).wr p DISP_IN_CRC_CRC crc
  let s := s.when (!same) fun s => s.wr p DISP_STATUS_STATIC 0
  let s := s.when (!s.is p DISP_STATUS_STATIC && s.staticN n ≤ run) fun s =>
    ((s.wr p DISP_STATUS_STATIC 1).setInt p 8).when (s.rdA p DISP_MODE_HOLD_AUTO != 0 && s.dst n = 1) fun s => s.askHold n 2
  let held := (Tab.find (s.dispOf n).caps (s.rd p DISP_SCAN)).map fun c => c.crc
  let cause := s.rd p DISP_STATUS_HOLD_CAUSE
  s.when (s.dst n = 2 && 1 ≤ cause && cause ≤ 2 && s.rdA p DISP_MODE_RESUME_AUTO != 0 && held != some crc) fun s => s.resume n

/-- The last line of a stream frame has arrived (R272, R273). -/
def State.frameEnd (s : State) (n : Nat) (m : Msa) (len : Nat) : State :=
  let p := disp n
  if m.mst then s
  else if !s.is p DISP_SOK then s.when (s.is p DISP_CAPWR) fun s => s.capBad n
  else
    let crc := crc32End (s.rd p DISP_CAPCRC)
    let s := s.when (s.is p DISP_CAPWR) fun s =>
      if s.is p DISP_CAPFIT then
        let b := s.rd p DISP_CAPTO
        let d := s.dispOf n
        let s := s.setDisp n { d with caps := d.caps.put b ⟨s.rd p DISP_SFRAME, m.vactive, capPitch len, len, m.bpc, m.dsc, crc⟩ }
        ((s.wr p DISP_STATUS_CAP_VALID 1).wr p DISP_STATUS_CAP_BUF b).wr p DISP_CAPWR 0
      else s.capBad n
    s.staticStep n crc

/-- The next line of active data arrives (R264, R272, R273). -/
def State.streamLine (s : State) (n : Nat) (whole : Bool) (bs : List Byte) : State :=
  let p := disp n
  let d := s.dispOf n
  match d.msa with
  | none => s
  | some m =>
    let y := s.rd p DISP_SLINE
    if m.vactive ≤ y then s
    else
      let s := (s.wr p DISP_SLINE (y + 1)).wr p DISP_STIME s.clock
      let s := if !whole then s.wr p DISP_SOK 0
        else
          let st := s.dst n
          let s := s.when (st = 1 || st = 3 || st = 5) fun s =>
            s.setDisp n { d with lines := d.lines ++ [(s.rd p DISP_SFRAME, y, bs)] }
          let s := s.wr p DISP_CAPCRC (crc32Run (s.rd p DISP_CAPCRC) bs)
          s.when (s.is p DISP_CAPWR) fun s =>
            let w := capPitch bs.length
            if (y + 1) * w ≤ s.rd p DISP_CAP_SIZE_SIZE * 65536 && s.dramUp then
              s.memWrite n (s.capBase n (s.rd p DISP_CAPTO) + y * w) (bs ++ List.replicate (w - bs.length) 0)
            else s.wr p DISP_CAPFIT 0
      s.when (y + 1 = m.vactive) fun s => s.frameEnd n m bs.length

/-! ### Line buffer and tolerance -/

/-- LB_HIGH in bytes: below 16 acts as 16. -/
def State.lbHigh (s : State) (n : Nat) : Nat := max 16 (s.rd (disp n) DISP_LB_CFG_LB_HIGH) * 1024

/-- LB_LOW in bytes: LB_HIGH or more acts as a quarter of it. -/
def State.lbLow (s : State) (n : Nat) : Nat :=
  let h := max 16 (s.rd (disp n) DISP_LB_CFG_LB_HIGH)
  let l := s.rd (disp n) DISP_LB_CFG_LB_LOW
  (if h ≤ l then h / 4 else l) * 1024

/-- Bytes that a line of the frame being scanned from DRAM takes in the line buffer. -/
def State.lineBytes (s : State) (n : Nat) : Nat :=
  if s.dst n = 4 then 4 * s.hactive n
  else ((Tab.find (s.dispOf n).caps (s.rd (disp n) DISP_SCAN)).map fun c => c.len).getD 0

/-- Does the output scan from DRAM (R281)? -/
def State.scansDram (s : State) (n : Nat) : Bool := 2 ≤ s.dst n && s.dst n ≤ 4 && !s.is (disp n) PG_STATUS_CONTAINED

/-- Fill one line buffer to LB_HIGH. -/
def State.refillOne (s : State) (n : Nat) : State :=
  let f := s.rd (disp n) DISP_FILL
  if s.scansDram n && s.dramUp && f < s.lbHigh n then (s.memTouch n (s.lbHigh n - f)).wr (disp n) DISP_FILL (s.lbHigh n) else s

/-- A refill starts, ganged where set (R281). -/
def State.refill (s : State) (n : Nat) : State :=
  let s := s.refillOne n
  if s.is (disp n) DISP_LB_CFG_GANG then
    (List.range 4).foldl (fun s m => s.when (m != n && s.is (disp m) DISP_LB_CFG_GANG) fun s => s.refillOne m) s
  else s

/-- The latency tolerance at the start of a line (R282), in units of 128 ns. -/
def State.tolerance (s : State) (n : Nat) : Nat :=
  let p := disp n
  let lp := s.linePs n
  let cut := fun ps => min 0xFFFFF ((ps - s.rd p DISP_CFG_LT_GUARD * 128000) / 128000)
  if s.is p PG_STATUS_CONTAINED || lp = 0 then 0xFFFFF
  else if s.dst n = 1 then
    if s.is p DISP_CAPWR then
      let used := ((s.dispOf n).lines.map fun l => l.2.2.length).sum
      let len := ((s.dispOf n).lines.getLast?.map fun l => l.2.2.length).getD 0
      if len = 0 then 0xFFFFF else cut ((262144 - used) * lp / len)
    else 0xFFFFF
  else if s.scansDram n then
    let b := s.lineBytes n
    if b = 0 then 0xFFFFF
    else
      let f := s.rd p DISP_FILL
      let px := f % b * s.hactive n / b
      let part := px * 10 ^ 9 / s.pclk n
      let line := s.rd p DISP_LINE
      if s.is p DISP_VB then cut ((s.rd p DISP_BLANK - line) * lp + f / b * lp + part)
      else if s.vactive n - line ≤ f / b then cut ((s.vactive n - line + s.normalBlank n) * lp)
      else cut (f / b * lp + part)
  else 0xFFFFF

/-- Report the tolerance (R282). -/
def State.reportTol (s : State) (n : Nat) : State :=
  let p := disp n
  let t := s.tolerance n
  ((s.wr p DISP_LT_TOL t).wr p DISP_LTCUR (min t (s.rd p DISP_LTCUR))).memReport n t

/-! ### Scanning a line -/

/-- The output depth in bits per component that R284 tells apart. -/
def State.depth (s : State) (n : Nat) : Nat := if s.rdA (disp n) DISP_FMT_BPC = 0 then 8 else 10

/-- A line of the background colour. -/
def State.bgLine (s : State) (n : Nat) : List Nat :=
  List.replicate (s.hactive n) (pixelOut 0 (s.depth n) (s.rdA (disp n) DISP_BG_COLOUR))

/-- A stream line as it leaves: bytes of a compressed stream, else pixel words. -/
def lineData (dsc : Bool) (bpc width : Nat) (bs : List Byte) : List Nat :=
  if dsc then bs.map fun b => b.toNat else (List.range width).map fun i => Config.streamPixel bpc bs i % 2 ^ 30

/-- The surface that shows at a position (R266): the highest-numbered enabled one that covers it. -/
def State.topSurf (s : State) (n x y : Nat) : Option Nat :=
  (List.range 8).reverse.find? fun f =>
    let px := s.rdA (disp n) (SURF_POS_X.nth f)
    let py := s.rdA (disp n) (SURF_POS_Y.nth f)
    s.surfOn n f && px ≤ x && x < px + s.rdA (disp n) (SURF_GEOM_W.nth f) && py ≤ y && y < py + s.rdA (disp n) (SURF_GEOM_H.nth f)

/-- The pixel of the retained picture at a position (R266). -/
def State.pixelAt (s : State) (n x y : Nat) : Nat :=
  match s.topSurf n x y with
  | none => pixelOut 0 (s.depth n) (s.rdA (disp n) DISP_BG_COLOUR)
  | some f =>
    let a := s.surfAddr n f false (x - s.rdA (disp n) (SURF_POS_X.nth f)) (y - s.rdA (disp n) (SURF_POS_Y.nth f))
    pixelOut (s.fmt n f) (s.depth n) (leNat (Mem.readList 0 s.dram a (fmtBytes (s.fmt n f))))

/-- A line of a capture. -/
def State.capLine (s : State) (n b : Nat) (c : Cap) (y : Nat) : List Nat :=
  lineData c.dsc c.bpc (s.hactive n) (Mem.readList 0 s.dram (s.capBase n b + y * c.pitch) c.len)

/-- An underrun line (R276). -/
def State.underrun (s : State) (n : Nat) : State := (s.count (disp n) DISP_CNT_UNDERRUN).raise (disp n) 0

/-- A line leaves the pipeline: it enters the CRC of the frame (R284), and the pins unless the output sends idle pattern. -/
def State.emit (s : State) (n y : Nat) (dsc : Bool) (ws : List Nat) : State :=
  let bs := if dsc then ws.map fun w => BitVec.ofNat 8 w else ws.flatMap fun w => leBytes 4 w
  let seen := s.is (dout n) DOUT_LINK_STS_TRAINED && !s.is (dout n) DOUT_UNFIT && !s.is (dout n) PG_STATUS_CONTAINED
  (s.when seen fun s => s.send (.line n y ws)).wr (disp n) DISP_RUNCRC (crc32Run (s.rd (disp n) DISP_RUNCRC) bs)

/-- A line in PASS (R264, R276): from the line buffer; a line that is incomplete comes from the same line of the last
complete capture, or is background. -/
def State.scanPass (s : State) (n y : Nat) : State :=
  let p := disp n
  let d := s.dispOf n
  let f := s.rd p DISP_OFRAME
  let dsc := s.is p DISP_STATUS_DSC
  let bpc := (d.msa.map fun m => m.bpc).getD 10
  match d.lines.find? fun l => l.1 = f && l.2.1 = y with
  | some l =>
    (s.setDisp n { d with lines := d.lines.filter fun x => !(x.1 = f && x.2.1 ≤ y) }).emit n y dsc
      (lineData dsc bpc (s.hactive n) l.2.2)
  | none =>
    let s := s.underrun n
    match s.lastCap n with
    | some (b, c) =>
      if s.dramUp then (s.count p DISP_CNT_SUBST).emit n y c.dsc (s.capLine n b c y) else s.emit n y false (s.bgLine n)
    | none => s.emit n y false (s.bgLine n)

/-- Take a line out of the line buffer (R281): what of it is missing is background (R276), and a refill starts below
LB_LOW. (log 70, DEDUCED) -/
def State.scanDram (s : State) (n y : Nat) (dsc : Bool) (ws : List Nat) : State :=
  let p := disp n
  let b := s.lineBytes n
  let f := s.rd p DISP_FILL
  let short := f < b && !s.dramUp
  let have' := if b = 0 then 0 else f * ws.length / b
  let s := s.when short fun s => s.underrun n
  let ws := if short then ws.take have' ++ (s.bgLine n).drop have' else ws
  let s := (s.wr p DISP_FILL (f - b)).emit n y dsc ws
  s.when (f - b < s.lbLow n) fun s => s.refill n

/-- Scan line `y` of the frame in progress. (log 70, DEDUCED) -/
def State.scanLine (s : State) (n y : Nat) : State :=
  let p := disp n
  match s.dst n with
  | 1 => s.scanPass n y
  | 2 | 3 => match Tab.find (s.dispOf n).caps (s.rd p DISP_SCAN) with
    | some c => s.scanDram n y c.dsc (s.capLine n (s.rd p DISP_SCAN) c y)
    | none => s
  | 4 => s.scanDram n y false ((List.range (s.hactive n)).map fun x => s.pixelAt n x y)
  | _ => s

/-! ### Frames -/

/-- Has the stream's next frame PT_FILL lines buffered (R275)? -/
def State.streamReady (s : State) (n : Nat) : Bool :=
  s.is (disp n) DISP_SVALID && s.ptFill n ≤ s.rd (disp n) DISP_SLINE

/-- May the output's next frame start at this line boundary (R275, R277, R280)? -/
def State.frameReady (s : State) (n : Nat) : Bool :=
  let p := disp n
  let l := s.rd p DISP_LINE
  s.works p && !s.is p PG_STATUS_CONTAINED && match s.dst n with
    | 1 => s.streamReady n
    | 5 => s.streamReady n && s.dmode n = 1
    | 3 => s.streamReady n && s.normalBlank n ≤ l
    | 2 => s.rd p DISP_BLANK ≤ l
    | 4 => s.rd p DISP_BLANK ≤ l || (s.normalBlank n ≤ l && !(s.dispOf n).commits.isEmpty)
    | _ => false

/-- A frame starts. -/
def State.startFrameAt (s : State) (n : Nat) : State :=
  let p := disp n
  let st := s.dst n
  let s := s.when (st = 4 && !(s.dispOf n).commits.isEmpty) fun s => s.flip n
  let s := s.when (st = 1 || st = 3 || st = 5) fun s =>
    let s := s.when (st = 3 || s.is p DISP_VIA) fun s =>
      ((s.count p DISP_CNT_RESUME).setInt p 10).wr p DISP_STATUS_HOLD_CAUSE 0
    let chg := s.msaDiffers n
    let s := (((s.wr p DISP_STATUS_STATE 1).wr p DISP_VIA 0).takeMsa n).when chg fun s => s.retime n
    (s.wr p DISP_OFRAME (s.rd p DISP_SFRAME)).wr p DISP_SVALID 0
  let rep := if st = 4 then !s.is p DISP_FLIPPED else st = 2
  let s := ((s.wr p DISP_REPEAT (if rep then 1 else 0)).wr p DISP_FLIPPED 0).wr p DISP_STATUS_LOW_RATE 0
  let s := (((s.wr p DISP_FRAME (s.rd p DISP_FRAME + 1)).wr p DISP_VB 0).wr p DISP_LINE 0).wr p DISP_RUNCRC 0xFFFFFFFF
  let s := ((s.wr p DISP_LT_MIN_TOL (s.rd p DISP_LTCUR)).wr p DISP_LTCUR 0xFFFFF).wr p DISP_ALIGN 0
  s.when (s.paired n && s.is (dout n) DOUT_LINK_STS_TRAINED && s.is (dout (partner n)) DOUT_LINK_STS_TRAINED) fun s =>
    (s.wr (dout n) DOUT_PAIR_STS_DEGRADED 0).wr (dout (partner n)) DOUT_PAIR_STS_DEGRADED 0

/-- A line of one output that is not starting a frame: the next active line, or another line of blanking. -/
def State.lineOne (s : State) (n : Nat) : State :=
  let p := disp n
  let l := s.rd p DISP_LINE
  let s := s.reportTol n
  if s.is p DISP_VB then
    let s := s.wr p DISP_LINE (l + 1)
    s.when (s.dst n = 3 && s.is p DISP_STATUS_STREAM && s.msaDiffers n) fun s => (s.wr p DISP_STATUS_STATE 5).wr p DISP_VIA 1
  else if l < s.vactive n then (s.wr p DISP_LINE (l + 1)).scanLine n l
  else s

/-- The skew of a locked pair as measured at a frame start, signed, in 1/16 pixel period; more than one period is
PAIR_SLIP (R294). -/
def State.pairSkew (s : State) (n skew : Nat) : State :=
  [n, partner n].foldl (fun s m =>
    (s.wr (dout m) DOUT_PAIR_STS_SKEW skew).when (16 < (signed 16 skew).natAbs) fun s => s.raise (dout m) 7) s

/-- A line starts (R282): outputs in step start their next frame together when all of them may (R293, R294). -/
def State.lineStart (s : State) (n skew : Nat) : State :=
  let ns := s.inStep n
  let slave := s.paired n && n % 2 = 0 && s.is (disp (n + 1)) DISP_ALIGN && s.is (disp (n + 1)) DISP_VB
  let waiting := fun m => s.is (disp m) DISP_VB || s.dst m = 5
  if (ns.all fun m => waiting m && s.frameReady m) && !(s.paired n && n % 2 = 1) then
    let all := if slave && s.frameReady (n + 1) then ns ++ [n + 1] else ns
    let s := (all.foldl State.startFrameAt s).when (1 < all.length) fun s => s.pairSkew n skew
    all.foldl State.lineOne s
  else ns.foldl State.lineOne s

/-! ### Start of vertical blanking -/

/-- The fields of a surface whose change makes the next copy-forward whole (R270). -/
def surfKey (f : Nat) : List Field :=
  [SURF_BASE_LO_ADDR_LO.nth f, SURF_BASE_HI_ADDR_HI.nth f, SURF_GEOM_W.nth f, SURF_GEOM_H.nth f, SURF_CFG_FMT.nth f]

/-- An armed page reaches its boundary: disarmed, APPLIED (R49). -/
def State.appliedPage (s : State) (p : Page) : State :=
  ((s.wr p PG_SHADOW_CTRL_ARMED 0).wr p PG_SHADOW_CTRL_APPLIED 1).setInt p intApplied

/-- The state that an applied MODE gives (R275, R285). (log 72, DEDUCED) -/
def State.modeState (s : State) (n old : Nat) : State :=
  let p := disp n
  let new := s.dmode n
  let freed := s.is p PG_STATUS_CONTAINED && s.is p DISP_MODE_WR
  let s := s.when freed fun s => s.wr p PG_STATUS_CONTAINED 0
  let s := s.wr p DISP_MODE_WR 0
  let s := s.when (old != new) fun s => (s.noHold n).abortCmds n
  if s.is p PG_STATUS_CONTAINED then s
  else
    let st := s.dst n
    let next := match new with
      | 0 => 0
      | 2 => 4
      | _ => if st = 0 then 5 else if st = 4 then (if s.is p DISP_STATUS_STREAM then 1 else 5) else st
    let s := s.wr p DISP_STATUS_STATE next
    s.when (st = 0 && next != 0) fun s => ((s.wr p DISP_VB 1).wr p DISP_LINE 0).wr p DISP_BLANK (s.normalBlank n)

/-- A DISP page applies (R49, R283): in PASS, HELD, RESUMING and IDLE the active timing stays. -/
def State.applyDisp (s : State) (n : Nat) : State :=
  let p := disp n
  let st := s.dst n
  let keep := st = 1 || st = 2 || st = 3 || st = 5
  let fs := (shFields p).filter fun f => !(keep && timingFields.contains f)
  let old := s.dmode n
  let chg := (List.range 8).filter fun f => (surfKey f).any fun x => s.rd p x != s.rdA p x
  let t := s
  let s := (s.applyFields p fs).appliedPage p
  let s := s.setDisp n { s.dispOf n with whole := chg }
  let chgTime := timingFields.any fun f => t.rdA p f != s.rdA p f
  (s.modeState n old).when (chgTime && s.dmode n = 2) fun s => s.retime n

/-- A DOUT page applies (R298). -/
def State.applyDout (s : State) (n : Nat) : State :=
  let p := dout n
  let was := s.rdA p DOUT_PAIR_LOCK
  let s := (s.applyFields p (shFields p)).appliedPage p
  let s := s.wr p DOUT_LOCK_TIME (s.clock + 1)
  s.when (was = 0 && s.rdA p DOUT_PAIR_LOCK = 1) fun s => s.wr p DOUT_LOCK_NEW 1

/-- The armed pages of an output apply (R279, R298). -/
def State.applyOutput (s : State) (n : Nat) : State :=
  let s := s.when (s.is (disp n) PG_SHADOW_CTRL_ARMED) fun s => s.applyDisp n
  s.when (s.is (dout n) PG_SHADOW_CTRL_ARMED && (!s.is (dout n) DOUT_REG_CFG_ON_COMMIT || (s.flipMask n).any fun f => s.dbuf n f)) fun s =>
    s.applyDout n

/-- Is a complete capture of the frame just shown at hand (R275)? -/
def State.capShown (s : State) (n : Nat) : Bool :=
  match s.lastCap n with
  | some (_, c) => c.frame = s.rd (disp n) DISP_OFRAME
  | none => false

/-- Hold switches at vertical blanking (R275, R279), together for outputs in step. -/
def State.holdStep (s : State) (ns : List Nat) : State :=
  let live := ns.filter fun m => s.dst m = 1
  let forced := live.findSome? fun m => if s.is (disp m) DISP_FORCED then some (s.rd (disp m) DISP_FORCED) else none
  let rq := live.findSome? fun m => if s.is (disp m) DISP_HOLD_RQ then some (s.rd (disp m) DISP_HOLD_RQ) else none
  match forced, rq with
  | some c, _ => live.foldl (fun s m => s.goForced m c) s
  | none, none => s
  | none, some c =>
    if live.all s.capShown then live.foldl (fun s m => s.goHeld m c) s
    else live.foldl (fun s m =>
      let p := disp m
      let k := s.rd p DISP_HOLD_FAILS + 1
      if orOne (s.rd p DISP_CFG_HOLD_WAIT) ≤ k then (s.noHold m).raise p 2
      else (s.wr p DISP_HOLD_FAILS k).wr p DISP_STATUS_HOLD_PEND 1) s

/-- Does the refresh of an output drop (R280)? -/
def State.mayLengthen (s : State) (n : Nat) : Bool :=
  let p := disp n
  s.rdA p DISP_MODE_VRR_EN != 0 && (s.dst n = 2 || s.dst n = 4) && s.is p DISP_REPEAT &&
    s.vtotal n < s.rdA p DISP_VRR_VTOTAL_MAX

/-- The refresh decision (R280), together for outputs in step (R294). (log 71, DEDUCED) -/
def State.refreshStep (s : State) (ns : List Nat) : State :=
  let long := ns.all s.mayLengthen
  ns.foldl (fun s m =>
    let p := disp m
    let s := s.wr p DISP_BLANK (if long then s.rdA p DISP_VRR_VTOTAL_MAX - s.vactive m else s.normalBlank m)
    let s := (s.wr p DISP_STATUS_LOW_RATE (if long then 1 else 0)).when (long && !s.is p DISP_WASLONG) fun s => s.setInt p 11
    s.wr p DISP_WASLONG (if long then 1 else 0)) s

/-- Do the conditions for locking a pair hold (R293)? `n` is the master. (log 73, DEDUCED) -/
def State.lockable (s : State) (n : Nat) : Bool :=
  let m := n + 1
  let eqA := fun f => s.rdA (disp n) f = s.rdA (disp m) f
  let eqD := fun f => s.rd (dout n) f = s.rd (dout m) f
  s.dst n != 0 && s.dst m != 0 && eqA DISP_HTIME_HTOTAL && eqA DISP_VTIME_VTOTAL && eqA DISP_VRR_VTOTAL_MAX &&
  s.pclk n = s.pclk m && s.is (dout n) DOUT_LINK_STS_TRAINED && s.is (dout m) DOUT_LINK_STS_TRAINED &&
  eqD DOUT_LINK_STS_RATE && eqD DOUT_LINK_STS_LANES

/-- The pair of a master locks, is rejected or unlocks at its vertical blanking (R293). (log 73, DEDUCED) -/
def State.pairStep (s : State) (n : Nat) : State :=
  let m := n + 1
  let both := s.rdA (dout n) DOUT_PAIR_LOCK = 1 && s.rdA (dout m) DOUT_PAIR_LOCK = 1
  if s.paired n then
    if both then s
    else ((s.wr (dout n) DOUT_PAIR_STS_LOCKED 0).wr (dout m) DOUT_PAIR_STS_LOCKED 0).wr (disp m) DISP_ALIGN 0
  else if !both then s
  else
    let new := s.is (dout n) DOUT_LOCK_NEW || s.is (dout m) DOUT_LOCK_NEW
    let last := if s.rd (dout n) DOUT_LOCK_TIME < s.rd (dout m) DOUT_LOCK_TIME then m else n
    let s := (s.wr (dout n) DOUT_LOCK_NEW 0).wr (dout m) DOUT_LOCK_NEW 0
    if s.lockable n then
      ((s.wr (dout n) DOUT_PAIR_STS_LOCKED 1).wr (dout m) DOUT_PAIR_STS_LOCKED 1).wr (disp m) DISP_ALIGN 1
    else s.when new fun s => s.raise (dout last) 8

/-- A frame has left the pipeline: its CRC shows (R284), and blanking begins. -/
def State.endFrame (s : State) (n : Nat) : State :=
  let p := disp n
  let s := s.when (s.dst n != 5) fun s => s.wr p DISP_HEAD_CRC_CRC (crc32End (s.rd p DISP_RUNCRC))
  ((s.wr p DISP_ENDST (s.dst n)).wr p DISP_VB 1).wr p DISP_LINE 0

/-- Has an output reached vertical blanking: its active lines have been scanned, or it sends idle pattern? -/
def State.atVblank (s : State) (n : Nat) : Bool :=
  s.ownTiming n && s.dst n != 0 && (s.dst n = 5 || (!s.is (disp n) DISP_VB && s.vactive n ≤ s.rd (disp n) DISP_LINE))

/-- The start of vertical blanking (R279): armed pages, hold and resume, flips, refresh. -/
def State.vblank (s : State) (n : Nat) : State :=
  let ns := s.inStep n
  let s := ns.foldl State.endFrame s
  let s := ns.foldl State.applyOutput s
  let s := if n % 2 = 0 then s.pairStep n else s
  let s := s.holdStep ns
  let s := ns.foldl (fun s m => (s.flip m).setDisp m { (s.flip m).dispOf m with whole := [] }) s
  let s := s.refreshStep ns
  ns.foldl (fun s m => s.when (s.scansDram m) fun s => s.refill m) s

end Sys2Proof.Machine
end

