-- ==== Sys2Proof/Machine/EqOps.lean ====
section
/-! DEFINITION. Looking up and loading transmit equalisation coefficients (R64, R65, R473 of spec/04_serial_lanes.md). -/

namespace Sys2Proof.Machine

open Reg

/-- Is a table entry usable (R65)? -/
def eqUsable (e : EqEntry) : Bool :=
  let a := (signed 6 e.pre2).natAbs
  let b := (signed 6 e.pre1).natAbs
  let c := (signed 6 e.post1).natAbs
  e.clean && a ≤ 8 && b ≤ 16 && c ≤ 24 && 24 ≤ e.main && a + b + e.main + c ≤ 63

/-- The built-in defaults PRE2, PRE1, MAIN and POST1 of a rate (R473); none where a standard's own procedure gives them. (log 38, DEDUCED) -/
def builtIn (rate : Nat) : Option (Nat × Nat × Nat × Nat) :=
  match rate with
  | 0 => some (0, 60, 51, 56)
  | 1 => some (0, 61, 52, 56)
  | 5 | 6 => some (0, 0, 54, 55)
  | 14 => some (0, 61, 50, 54)
  | 15 => some (0, 0, 55, 56)
  | _ => none

/-- The coefficients for a transmitter and the step that supplied them (R65, R473). (log 37, DEDUCED; log 38, DEDUCED) -/
def State.eqLookup (s : State) (laneId rate cls : Nat) : Option (Nat × Nat × Nat × Nat) × Nat :=
  let fits := fun c => (s.eqTable.find? fun e => e.lane = laneId && e.rate = rate && e.cls = c && eqUsable e)
  match fits cls with
  | some e => (some (e.pre2, e.pre1, e.main, e.post1), 0)
  | none => match fits 0 with
    | some e => (some (e.pre2, e.pre1, e.main, e.post1), 1)
    | none => (builtIn rate, 2)

/-- Record in LN_EQ_SRC which step supplied pad `i`'s coefficients; the field holds four pads. -/
def State.eqSrc (s : State) (p : Page) (i src : Nat) : State :=
  let v := s.rd p LN_EQ_SRC_SRC
  s.when (decide (i < 4)) fun s => s.wr p LN_EQ_SRC_SRC (v / 4 ^ (i + 1) * 4 ^ (i + 1) + src * 4 ^ i + v % 4 ^ i)

/-- Load the coefficients of some pads of a lane page, whose LANE_IDs start at `base` (R65): an expert write replaces the
lookup once, and without a table EQTBL_DEFAULT is raised. (log 38, DEDUCED) -/
def State.eqPads (s : State) (p : Page) (base rate cls : Nat) (pads : List Nat) : State :=
  let s := s.wr p LN_EQ_SRC_CLASS cls
  let s := s.when s.eqTable.isEmpty fun s => s.raise p 4
  pads.foldl (fun s i =>
    if s.is p (LN_EXPERT_EQ.nth i) then (s.wr p (LN_EXPERT_EQ.nth i) 0).eqSrc p i 3
    else
      let r := s.eqLookup (base + i) rate cls
      let s := s.eqSrc p i r.2
      match r.1 with
      | none => s
      | some (a, b, c, d) =>
        (((s.wr p (PR_TXEQ_PRE2.nth i) a).wr p (PR_TXEQ_PRE1.nth i) b).wr p (PR_TXEQ_MAIN.nth i) c).wr p (PR_TXEQ_POST1.nth i) d) s

end Sys2Proof.Machine
end

