-- ==== Sys2Proof/Machine/WakeOps.lean ====
section
/-! DEFINITION. The power state and the islands it leaves running (R16, R378), what a wake records, and how an exit begins (R386, R387 of spec/17_power_states_and_reset.md). -/

namespace Sys2Proof.Machine

open Reg

/-- The power state (R378): 0 D0, 1 D1, 2 D2, 3 Yo-yo, 4 Off, 5 entering, 6 exiting. -/
def State.ps (s : State) : Nat := s.rd aon AON_PS_STATUS_STATE

/-- Set the power state. -/
def State.setPs (s : State) (n : Nat) : State := s.wr aon AON_PS_STATUS_STATE n

/-- Power an island up or down (R16). -/
def State.setPwr (s : State) (i : Nat) (b : Bool) : State := s.wrBit glb GLB_ISL_PWR_PWR i b

/-- Start or stop an island's clock. -/
def State.setClk (s : State) (i : Nat) (b : Bool) : State := s.wrBit glb GLB_ISL_CLK_CLK_OK i b

/-- Hold an island in reset, or release it. -/
def State.setRst (s : State) (i : Nat) (b : Bool) : State := s.wrBit glb GLB_ISL_RST_IN_RESET i b

/-- An island runs: powered, clocked and out of reset. -/
def State.runIsland (s : State) (i : Nat) : State := ((s.setPwr i true).setClk i true).setRst i false

/-- An island is off. -/
def State.stopIsland (s : State) (i : Nat) : State := ((s.setPwr i false).setClk i false).setRst i true

/-! ### Supply groups -/

/-- The enable of a group and its GPIO: 1 safety, 2 I/O and memory, 3 core, 0 the board input (R390). -/
def State.supplyPin (s : State) (g : Nat) : Bool × Nat :=
  match g with
  | 3 => (s.is aon AON_SUPPLY_CORE_USE, s.rd aon AON_SUPPLY_CORE_GPIO)
  | 2 => (s.is aon AON_SUPPLY_IO_USE, s.rd aon AON_SUPPLY_IO_GPIO)
  | 1 => (s.is aon AON_SUPPLY_SAFE_USE, s.rd aon AON_SUPPLY_SAFE_GPIO)
  | _ => (s.is aon AON_SUPPLY_BRD_USE, s.rd aon AON_SUPPLY_BRD_GPIO)

/-- Is a group's enable wired? An enable whose GPIO an earlier one of core, I/O and safety names is not (R399). -/
def State.wired (s : State) (g : Nat) : Bool :=
  (s.supplyPin g).1 && !([3, 2, 1].any fun h => g < h && (s.supplyPin h).1 && (s.supplyPin h).2 = (s.supplyPin g).2)

/-- Drive a group's enable. -/
def State.drive (s : State) (g : Nat) (on : Bool) : State :=
  let v := if on then 1 else 0
  s.when (s.wired g) fun s => match g with
    | 3 => s.wr aon AON_LVL_CORE v
    | 2 => s.wr aon AON_LVL_IO v
    | _ => s.wr aon AON_LVL_SAFE v

/-- The exit drives on the next group from `g` up that is wired, and the core group at the last (R387). -/
def State.exitGroup (s : State) (g : Nat) : State :=
  let h := if g = 1 && s.wired 1 then 1 else if g ≤ 2 && s.wired 2 then 2 else 3
  ((s.drive h true).wr aon AON_EXIT_GROUP h).wr aon AON_EXIT_TIME s.clock

/-- An exit from Yo-yo or Off begins (R387). -/
def State.startExit (s : State) (src : Nat) : State :=
  let s := ((s.setPs 6).wr aon AON_EXIT_FROM src).wr aon AON_ENT_STEP 0
  ((s.wr aon AON_EXIT_WAIT 0).wr aon AON_EXIT_TRIED 0).exitGroup (if src = 4 then 1 else 3)

/-! ### Leaving D2 -/

/-- The exit from D2: the steps of R380 in the order 5, 4, 3, 2 (R387). -/
def State.leaveD2 (s : State) : State :=
  let s := (s.setClk 3 true).setPs 0
  let s := (List.range 4).foldl (fun s n => s.when ((s.rd aon AON_PIX).testBit n) fun s => s.setPwr (13 + n) true) s
  let s := s.when (s.rd memp MEM_STATUS_STATE = 4) fun s => s.memState 2
  (List.range 4).foldl (fun s n => s.when (!s.gated (dout n)) fun s => s.startTrain n) s

/-! ### Wakes -/

/-- Does a wake source act in a state (R386)? -/
def wakeIn (cause st : Nat) : Bool :=
  match cause with
  | 1 | 2 | 6 | 7 => 2 ≤ st && st ≤ 4
  | 3 | 8 => st = 2 || st = 3
  | 4 | 5 => st = 3
  | 9 | 10 | 11 | 12 => st = 2
  | _ => false

/-- A wake as AON_WAKE_CAUSE and its history lay it out (R399). -/
def wakeWord (src cause aborted index value : Nat) : Nat :=
  2 ^ 31 + src * 2 ^ 28 + cause * 2 ^ 23 + aborted * 2 ^ 22 + index % 16 * 2 ^ 16 + value % 65536

/-- Record a wake (R387): in AON_WAKE_CAUSE, and in the history, whose oldest entry drops out. -/
def State.pushWake (s : State) (src cause aborted index value : Nat) : State :=
  let s := (((s.wr aon AON_WAKE_CAUSE_VALID 1).wr aon AON_WAKE_CAUSE_FROM src).wr aon AON_WAKE_CAUSE_CAUSE cause).wr aon
    AON_WAKE_CAUSE_ABORTED aborted
  let s := (s.wr aon AON_WAKE_CAUSE_INDEX index).wr aon AON_WAKE_CAUSE_VALUE value
  let old := (List.range 8).map fun i => s.rd aon (AON_WAKE_HIST_ENTRY.nth i)
  let new := (wakeWord src cause aborted index value :: old).take 8
  (List.range 8).foldl (fun s i => s.wr aon (AON_WAKE_HIST_ENTRY.nth i) (new.getD i 0)) s

/-- Undo an entry that a wake has aborted (R387): one that still drains the switch resumes at once; later ones come back
through the supplies. -/
def State.undoEntry (s : State) : State :=
  if s.rd aon AON_ENT_STEP = 1 || s.rd aon AON_ENT_STEP = 4 then (s.setPs 0).wr aon AON_ENT_STEP 0 else s.startExit 3

/-- Wake sources that fire together, in descending CAUSE order: cause, INDEX and VALUE of each (R386, R387). Those that
are enabled and act in the present state are recorded in that order, and the hub leaves the state once. -/
def State.wakes (s : State) (l : List (Nat × Nat × Nat)) : State :=
  let st := s.ps
  let target := s.rd aon AON_ENT_TARGET
  let src := if st = 5 then target else st
  let l := l.filter fun w => (s.rd aon AON_WAKE_EN_EN).testBit (w.1 - 1) && wakeIn w.1 src
  let aborts := st = 5 && !s.is aon AON_ENT_THERM
  let s := l.foldl (fun s w => s.pushWake src w.1 (if aborts then 1 else 0) w.2.1 w.2.2) s
  if l.isEmpty || (st = 5 && !aborts) then s
  else if st = 5 then s.undoEntry.raise aon 0
  else if st = 2 then s.leaveD2 else s.startExit st

/-- One wake source fires. -/
def State.wake (s : State) (cause index value : Nat) : State := s.wakes [(cause, index, value)]

/-! ### Accesses -/

/-- The domain of a host initiator. -/
def hostDom : Initiator → Option Nat
  | .host0 => some 0
  | .host1 => some 1
  | _ => none

/-- A write that acts on field `f` of a page: gated (R14), dropped during a block soft reset (R41), refused (R50), or
accepted, and then `act` is its effect. (log 13, DEDUCED; log 26, DEDUCED) -/
def State.accessNow (s : State) (who : Initiator) (p : Page) (f : Field) (act : State → State) : State :=
  let addr := p.base + f.bit / 32 * 4
  if s.gated p then s.gatedAccess addr true
  else if s.is (headerOf p) PG_STATUS_IN_RESET && blockBit p f.bit then s
  else if s.refusal p who f = 0 then act s
  else s.drop (headerOf p) who (s.refusal p who f) addr

/-- A host's access wakes the hub from D2 (R386): a mailbox request or a BAR access of its domain. `st` is the power state
that the access met. (log 26, DEDUCED) -/
def State.hostWake (s : State) (st : Nat) (who : Initiator) : State :=
  match hostDom who with
  | some d => if st ≤ 1 then s else s.wake 12 d 0
  | none => s

/-- A write that acts on field `f` of a page, and the wake that a host's access is. (log 26, DEDUCED) -/
def State.access (s : State) (who : Initiator) (p : Page) (f : Field) (act : State → State) : State :=
  (s.accessNow who p f act).hostWake s.ps who

end Sys2Proof.Machine
end

