-- ==== Sys2Proof/Machine/Display.lean ====
section
/-! DEFINITION. The commands of the display pipelines and outputs (spec/11_display_pipeline.md, spec/12_display_outputs_and_checks.md). -/

namespace Sys2Proof.Machine

open Reg

/-! ### Timing -/

/-- VBLANK_START (R279). (log 8, DESIGN CHOICE) -/
def execVblankStart (n : Nat) (s : State) : Res := .next (s.when (!s.gated (disp n) && s.atVblank n) fun s => s.vblank n)

/-- LINE_START (R282). An output that is OFF, and a slave that follows its master, start no line of their own. (log 8, DESIGN CHOICE; log 73, DEDUCED) -/
def execLineStart (n skew : Nat) (s : State) : Res :=
  .next (s.when (!s.gated (disp n) && s.ownTiming n && s.dst n != 0) fun s => s.lineStart n skew)

/-! ### The stream -/

/-- STREAM_PACKET_RX (R262, R263): a packet on another handle than PT_HANDLE is discarded and counted. -/
def execStreamPacketRx (n handle : Nat) (e : StreamEvt) (s : State) : Res :=
  .next (if !s.works (disp n) then s
    else if handle = 0 || s.rd (disp n) DISP_PATH_A_PT_HANDLE != handle then s.cmdErr n
    else if s.dst n = 0 then s
    else match e with
      | .msa m => s.streamMsa n m
      | .line whole bs => s.streamLine n whole bs)

/-- Two frame periods of the stream in ns (R265). -/
def State.twoPeriods (s : State) (n : Nat) : Nat :=
  match (s.dispOf n).msa with
  | some m => if m.pclk = 0 then 0 else 2 * m.htotal * m.vtotal * 1000000 / m.pclk
  | none => 0

/-- STREAM_TIMEOUT (R265, R275). -/
def execStreamTimeout (n : Nat) (s : State) : Res :=
  let p := disp n
  .next (s.when (!s.gated p && (s.dispOf n).msa.isSome && s.rd p DISP_STIME + s.twoPeriods n ≤ s.clock) fun s =>
    let s := s.wr p DISP_STATUS_STREAM 0
    if s.dst n = 1 || s.dst n = 3 then (s.raise p 1).dispForce n 5 else s)

/-- HOLD_REQ (R275): with RESUME_REQ in the same write it acts as RESUME_REQ alone (R279). -/
def execHoldReq (who : Initiator) (n : Nat) (resume : Bool) (s : State) : Res :=
  .next (s.access who (disp n) DISP_CTRL_HOLD_REQ fun s => if resume then s.resume n else s.askHold n 1)

/-- RESUME_REQ (R275). -/
def execResumeReq (who : Initiator) (n : Nat) (s : State) : Res :=
  .next (s.access who (disp n) DISP_CTRL_RESUME_REQ fun s => s.resume n)

/-- DISP_CNT_CLR (R284). -/
def execDispCntClr (who : Initiator) (n : Nat) (s : State) : Res :=
  .next (s.access who (disp n) DISP_CTRL_CNT_CLR fun s =>
    s.clearFields (disp n) [DISP_CNT_UNDERRUN, DISP_CNT_SUBST, DISP_CNT_HOLD, DISP_CNT_RESUME, DISP_CNT_CAP_BAD, DISP_CNT_CMD,
      DISP_CNT_CMD_ERR])

/-! ### Retained commands -/

/-- WRITE_RECT (R269). -/
def execWriteRect (n handle id surf : Nat) (r : Rect) (data : List Byte) (s : State) : Res :=
  .next (s.cmdIn n handle (.write id surf r data))

/-- FILL_RECT (R269). -/
def execFillRect (n handle id surf : Nat) (r : Rect) (colour : Nat) (s : State) : Res :=
  .next (s.cmdIn n handle (.fill id surf r colour))

/-- COPY_RECT (R269). -/
def execCopyRect (n handle id surf src : Nat) (r : Rect) (sx sy : Nat) (s : State) : Res :=
  .next (s.cmdIn n handle (.copy id surf src r sx sy))

/-- COMMIT (R270). (log 71, DEDUCED) -/
def execCommit (n handle id mask : Nat) (s : State) : Res := .next (s.cmdIn n handle (.commit id mask))

/-- FENCE (R269). -/
def execFence (n handle id : Nat) (s : State) : Res := .next (s.cmdIn n handle (.fence id))

/-- READ_RECT (R271). (log 76, DESIGN CHOICE) -/
def execReadRect (n handle id surf : Nat) (cap : Bool) (r : Rect) (s : State) : Res :=
  .next (s.cmdIn n handle (.read id surf cap r))

/-- BAD_OP (R269): an opcode that the table of R269 does not list. -/
def execBadOp (n handle id op : Nat) (s : State) : Res :=
  .next (if 1 ≤ op && op ≤ 6 then s else s.cmdIn n handle (.bad id op))

/-- COPY_FORWARD_DONE (R270). -/
def execCopyForwardDone (n surf : Nat) (s : State) : Res :=
  .next (s.when (s.is (disp n) (SURF_STATE_COPYING.nth surf) && s.dramUp) fun s => s.copyDone n surf)

/-! ### AUX and HPD -/

/-- AUX_REQUEST (R290, R291): up to four host requests wait behind the one being served. -/
def execAuxRequest (n handle : Nat) (host : Bool) (bytes : List Byte) (s : State) : Res :=
  let q := s.dispOf n
  .next (if !s.works (dout n) then s
    else if host && (handle = 0 || s.rd (disp n) DISP_PATH_A_PT_HANDLE != handle) then s.cmdErr n
    else if host && 4 ≤ (q.aux.tail.filter fun a => a.host).length then s
    else
      let t := s.setDisp n { q with aux := q.aux ++ [AuxReq.mk host bytes] }
      if q.aux.isEmpty then State.auxServe 2 t n else t)

/-- AUX_REPLY (R291). -/
def execAuxReply (n : Nat) (bytes : List Byte) (s : State) : Res := .next (s.auxEnd n bytes)

/-- AUX_TIMEOUT (R291): the request is sent again up to RETRY times, and then answered with the marker. -/
def execAuxTimeout (n : Nat) (s : State) : Res :=
  let d := dout n
  .next (match (s.dispOf n).aux with
    | [] => s
    | a :: _ =>
      if s.clock < s.rd d DOUT_AUX_TIME + 400000 then s
      else if s.rd d DOUT_AUX_TRY < s.rd d DOUT_AUX_CFG_RETRY then
        ((s.wr d DOUT_AUX_TRY (s.rd d DOUT_AUX_TRY + 1)).wr d DOUT_AUX_TIME s.clock).send (.aux n a.bytes)
      else ((s.count d DOUT_CNT_AUX_TO).raise d 6).auxEnd n [0xFF])

/-- One HPD event: counted, reported and sent on the completion path (R292). -/
def State.hpdEvent (s : State) (n code : Nat) : State :=
  (((s.count (dout n) DOUT_CNT_HPD).setInt (dout n) (7 + code)).sideSend n 2 [BitVec.ofNat 8 code])

/-- PLUG (R292): Moabeuc reads the sink's capabilities, and the output trains. -/
def execPlug (n lanes : Nat) (s : State) : Res :=
  let d := dout n
  .next (s.when (!s.gated d && !s.is aon AON_PAD_HELD && !s.is d DOUT_HPD_PIN) fun s =>
    let s := (((s.wr d DOUT_HPD_PIN 1).wr d DOUT_LINK_STS_HPD 1).wr d DOUT_HOST_V 0).wr d DOUT_SINK_LANES (if lanes = 1 || lanes = 2 then lanes else 4)
    let s := s.hpdEvent n 1
    if s.moabeuc then s.startTrain n else s.wr d DOUT_TRAIN_DUE 1)

/-- The output's link no longer carries its frames; a locked pair runs on degraded (R294). -/
def State.doutLost (s : State) (n : Nat) : State :=
  let s := s.wr (dout n) DOUT_LINK_STS_TRAINED 0
  s.when (s.paired n) fun s =>
    (s.wr (dout n) DOUT_PAIR_STS_DEGRADED 1).wr (dout (partner n)) DOUT_PAIR_STS_DEGRADED 1

/-- UNPLUG (R292): the transmitters turn off, and the pipeline keeps its state. -/
def execUnplug (n : Nat) (s : State) : Res :=
  let d := dout n
  .next (s.when (!s.gated d && !s.is aon AON_PAD_HELD && s.is d DOUT_HPD_PIN) fun s =>
    let s := ((((s.wr d DOUT_HPD_PIN 0).wr d DOUT_LINK_STS_HPD 0).wr d DOUT_TRAINING 0).wr d DOUT_TRAIN_DUE 0).wr d DOUT_HOST_V 0
    (s.doutLost n).hpdEvent n 2)

/-- IRQ_HPD (R292): a sink that requests retraining, or has lost lock, raises LINK_LOST (R299), and the link trains
again. -/
def execIrqHpd (n : Nat) (retrain : Bool) (s : State) : Res :=
  let d := dout n
  .next (s.when (!s.gated d && !s.is aon AON_PAD_HELD && s.is d DOUT_LINK_STS_HPD) fun s =>
    (s.hpdEvent n 3).when (retrain && s.is d DOUT_LINK_STS_TRAINED) fun s => ((s.raise d 5).doutLost n).startTrain n)

/-- DP_TRAIN_DONE (R288): success shows in DOUT_LINK_STS, and a payload too small raises LINK_FIT; a failure falls back to
a lower rate, then to fewer lanes, and at last raises TRAIN_FAIL. (log 75, DEDUCED) -/
def execDpTrainDone (n : Nat) (ok : Bool) (lttpr : Nat) (s : State) : Res :=
  let d := dout n
  let r := s.rd d DOUT_WANT_RATE
  let l := s.rd d DOUT_WANT_LANES
  .next (s.when (!s.gated d && s.is d DOUT_TRAINING) fun s =>
    if ok then
      let s := ((s.wr d DOUT_TRAINING 0).wr d DOUT_LINK_STS_TRAINED 1).wr d DOUT_LINK_STS_RATE r
      let s := ((s.wr d DOUT_LINK_STS_LANES l).wr d DOUT_LINK_STS_LTTPR lttpr).wr d DOUT_FIRST 1
      let s := s.eqPads ⟨.dplane, n⟩ (0x30 + 4 * n) (14 - max r 1) 3 (List.range l)
      ((s.count d DOUT_CNT_TRAIN).setInt d 11).fitCheck n
    else if 0 < r then s.trainAt n (r - 1) l
    else if 1 < l then s.trainAt n 0 (l / 2)
    else ((s.wr d DOUT_TRAINING 0).count d DOUT_CNT_TRAIN).raise d 3)

/-! ### Picture checks -/

/-- Words of a read-back line as bytes, for the CRC of R295. -/
def checkBytes (dsc : Bool) (ws : List Nat) : List Byte :=
  if dsc then ws.map fun w => BitVec.ofNat 8 w else ws.flatMap fun w => leBytes 4 w

/-- The CRC of region `r` over read-back pixels, `none` when the region is empty after clipping (R297). -/
def State.regionCrc (s : State) (n r : Nat) (rows : List (List Nat)) : Option Nat :=
  let d := dout n
  let x := s.rdA d (REG_POS_X.nth r)
  let y := s.rdA d (REG_POS_Y.nth r)
  let w := min (s.rdA d (REG_SIZE_W.nth r)) (s.hactive n - x)
  let h := min (s.rdA d (REG_SIZE_H.nth r)) (s.vactive n - y)
  if w = 0 || h = 0 then none
  else some (crc32End (((rows.drop y).take h).foldl (fun c row => crc32Run c (checkBytes false ((row.drop x).take w))) 0xFFFFFFFF))

/-- MIS_N as it acts. -/
def State.misN (s : State) (n : Nat) : Nat := orOne (s.rdA (dout n) DOUT_CHK_CFG_MIS_N)

/-- Compare one region (R297); the flag says that its count has reached a multiple of MIS_N. -/
def State.checkRegion (s : State) (n : Nat) (cmp : Bool) (rows : List (List Nat)) (r : Nat) : State × Bool :=
  let d := dout n
  let bit := fun (f : Field) (b : Bool) (s : State) => s.wrBit d f r b
  if !(s.rdA d DOUT_REG_CFG_EN).testBit r then
    (bit DOUT_REG_STS_NA false (bit DOUT_REG_STS_MATCH false (bit DOUT_REG_STS_MISMATCH false s)), false)
  else match if cmp then s.regionCrc n r rows else none with
    | none => (bit DOUT_REG_STS_NA true (bit DOUT_REG_STS_MATCH false (bit DOUT_REG_STS_MISMATCH false s)), false)
    | some c =>
      let s := (bit DOUT_REG_STS_NA false s).wr d (REG_CRC_CRC.nth r) c
      if c = s.rdA d (REG_EXPECT_CRC.nth r) then
        (((bit DOUT_REG_STS_MATCH true (bit DOUT_REG_STS_MISMATCH false s))).wr d (DOUT_REG_RUN.nth r) 0, false)
      else
        let s := (bit DOUT_REG_STS_MATCH false (bit DOUT_REG_STS_MISMATCH true s)).count d DOUT_CNT_REG_MIS
        let k := min 65535 (s.rd d (DOUT_REG_RUN.nth r) + 1)
        (s.wr d (DOUT_REG_RUN.nth r) k, k % s.misN n = 0)

/-- READBACK_FRAME_END (R295 to R297). -/
def execReadbackFrameEnd (n : Nat) (rows : List (List Nat)) (s : State) : Res :=
  let d := dout n
  let p := disp n
  let dsc := match s.rd p DISP_ENDST with
    | 4 => false
    | 2 | 3 => ((Tab.find (s.dispOf n).caps (s.rd p DISP_SCAN)).map fun c => c.dsc).getD false
    | _ => s.is p DISP_STATUS_DSC
  let mst := s.is p DISP_STATUS_MST && s.rd p DISP_ENDST = 1
  let crc := crc32End (rows.foldl (fun c row => crc32Run c (checkBytes dsc row)) 0xFFFFFFFF)
  let st := s.rd p DISP_ENDST
  let cmp := !mst && st != 0 && st != 5 && !s.is d DOUT_FIRST && !s.is d DOUT_RB_OUT
  .next (s.when (!s.gated d && s.is d DOUT_LINK_STS_TRAINED) fun s =>
    let s := s.when (!s.is d DOUT_RB_OUT) fun s => (s.wr d DOUT_PIN_CRC_CRC crc).wr d DOUT_PIN_FRAME_FRAME (s.rd p DISP_FRAME)
    let whole := cmp && s.rdA d DOUT_CHK_CFG_CRC_EN = 1
    let hit := crc = s.rd p DISP_HEAD_CRC_CRC
    let s := s.wr d DOUT_CHK_STS_CMP (if whole then 1 else 0)
    let s := s.when whole fun s =>
      let s := s.wr d DOUT_CHK_STS_MATCH (if hit then 1 else 0)
      if hit then s.wr d DOUT_CHK_STS_RUN 0
      else
        let full := s.rd d DOUT_CHK_STS_RUN = 65535
        let s := (s.count d DOUT_CNT_CRC_MIS).count d DOUT_CHK_STS_RUN
        s.when (!full && s.rd d DOUT_CHK_STS_RUN % s.misN n = 0) fun s => s.raise d 0
    let r := (List.range 8).foldl (fun (x : State × Bool) i =>
      let y := x.1.checkRegion n (cmp && !dsc) rows i
      (y.1, x.2 || y.2)) (s, false)
    let s := r.1.when r.2 fun s => s.raise d 1
    (s.wr d DOUT_FIRST 0).wr d DOUT_RB_OUT 0)

/-- RB_LOSS (R296). -/
def execRbLoss (n : Nat) (s : State) : Res :=
  let d := dout n
  .next (s.when (!s.gated d && s.is d DOUT_LINK_STS_TRAINED) fun s => (s.wr d DOUT_RB_OUT 1).raise d 2)

/-- DOUT_RESTART (R299). -/
def execDoutRestart (who : Initiator) (n : Nat) (s : State) : Res :=
  .next (s.access who (dout n) DOUT_CTRL_RESTART fun s => s.wr (dout n) PG_STATUS_CONTAINED 0)

/-- DOUT_RETRAIN (R300). -/
def execDoutRetrain (who : Initiator) (n : Nat) (s : State) : Res :=
  .next (s.access who (dout n) DOUT_CTRL_RETRAIN fun s => s.startTrain n)

/-- DOUT_CNT_CLR (R300). -/
def execDoutCntClr (who : Initiator) (n : Nat) (s : State) : Res :=
  .next (s.access who (dout n) DOUT_CTRL_CNT_CLR fun s =>
    s.clearFields (dout n) [DOUT_CNT_TRAIN, DOUT_CNT_CRC_MIS, DOUT_CNT_REG_MIS, DOUT_CNT_AUX_TO, DOUT_CNT_HPD])

end Sys2Proof.Machine
end

