-- ==== Sys2Proof/Machine/EthOps.lean ====
section
/-! DEFINITION. The Ethernet ports' shared operations (R322 to R332 of spec/14_ethernet_and_memory.md): classification, receive buffer and spill, the tunnel, descriptors and completions. -/

namespace Sys2Proof.Machine

open Reg

/-! ### Halves -/

/-- How Q_BIND and MAC_BIND join the halves (R324): the queue half is local or fronts a remote MAC, the MAC half is local
or serves a remote queue half. -/
inductive EthBind where
  | off | loc | queue | mac | both
  deriving DecidableEq, Repr

/-- The table of R324, and whether the combination is none of its rows. -/
def ethBind (q m : Nat) : EthBind × Bool :=
  if q = 1 && m = 1 then (.loc, false)
  else
    let front := q = 2 && m != 1
    let serve := m = 2 && q != 1
    if front && serve then (.both, false) else if front then (.queue, false) else if serve then (.mac, false)
    else (.off, !(q = 0 && m = 0))

/-- How the halves of a port are joined. -/
def State.ethJoin (s : State) (n : Nat) : EthBind :=
  (ethBind (s.rd (eth n) ETH_CFG_Q_BIND) (s.rd (eth n) ETH_CFG_MAC_BIND)).1

/-- Is the queue half in use? -/
def State.ethQueue (s : State) (n : Nat) : Bool :=
  match s.ethJoin n with | .loc | .queue | .both => true | _ => false

/-- Is the MAC half in use? -/
def State.ethMac (s : State) (n : Nat) : Bool :=
  match s.ethJoin n with | .loc | .mac | .both => true | _ => false

/-- The line rate in kbit/s of a MODE, 0 for off (R322). -/
def ethRate (m : Nat) : Nat :=
  match m with
  | 1 => 25000000
  | 2 | 3 => 10000000
  | 4 => 5000000
  | 5 => 2500000
  | 6 => 1000000
  | 7 => 100000
  | _ => 0

/-- MTU, clamped. (log 87, DEDUCED) -/
def State.mtu (s : State) (n : Nat) : Nat := clamp 1518 9216 (s.rd (eth n) ETH_CFG_MTU)

/-! ### Reading frames -/

/-- A big-endian number of bytes. -/
def beNat (bs : List Byte) : Nat := bs.foldl (fun a b => 256 * a + b.toNat) 0

/-- Bytes `a` to `a + n` of a frame. -/
def cut (bs : List Byte) (a n : Nat) : List Byte := (bs.drop a).take n

/-- The VLAN tag of a frame, where it carries one. -/
def vlanOf (bs : List Byte) : Option Nat := if beNat (cut bs 12 2) = 0x8100 then some (beNat (cut bs 14 2)) else none

/-- Where the EtherType stands. -/
def typeAt (bs : List Byte) : Nat := if (vlanOf bs).isSome then 16 else 12

/-- The IP version of a frame, 0 for none; the place of its IP header, of the header after it, and its protocol. -/
def ipOf (bs : List Byte) : Nat × Nat × Nat × Nat :=
  let t := beNat (cut bs (typeAt bs) 2)
  let h := typeAt bs + 2
  if t = 0x0800 then (4, h, h + 4 * (beNat (cut bs h 1) % 16), beNat (cut bs (h + 9) 1))
  else if t = 0x86DD then (6, h, h + 40, beNat (cut bs (h + 6) 1))
  else (0, h, h, 0)

/-- The input of the RSS hash (R326): IP addresses, and the ports of TCP or UDP; empty for a frame that is not IP. -/
def rssInput (bs : List Byte) : List Byte :=
  let (v, h, l, p) := ipOf bs
  let ports := if p = 6 || p = 17 then cut bs l 4 else []
  if v = 4 then cut bs (h + 12) 8 ++ ports else if v = 6 then cut bs (h + 8) 32 ++ ports else []

/-- The Toeplitz hash under a key of 320 bits, the first byte the most significant. -/
def toeplitz (key : Nat) (bs : List Byte) : Nat :=
  let m := beNat bs
  let n := 8 * bs.length
  (List.range n).foldl (fun x i => if m.testBit (n - 1 - i) then Nat.xor x (key >>> (288 - i) % 2 ^ 32) else x) 0

/-- The 40 B key of ETH_RSS_KEY; byte 4i of the key is bits [7:0] of word i. (log 87, DEDUCED) -/
def State.rssKey (s : State) (n : Nat) : Nat :=
  (List.range 10).foldl (fun k i =>
    let w := s.rd (eth n) (ETH_RSS_KEY_KEY.nth i)
    k * 2 ^ 32 + (w % 256 * 2 ^ 24 + w / 2 ^ 8 % 256 * 2 ^ 16 + w / 2 ^ 16 % 256 * 2 ^ 8 + w / 2 ^ 24)) 0

/-- The RSS hash of a frame (R326). -/
def State.rssHash (s : State) (n : Nat) (bs : List Byte) : Nat :=
  if !s.is (eth n) ETH_RSS_RSS_EN || (rssInput bs).isEmpty then 0 else toeplitz (s.rssKey n) (rssInput bs)

/-- The set bits of a mask of 32. -/
def setBits (m : Nat) : List Nat := (List.range 32).filter fun i => m.testBit i

/-- The queue of a received frame (R326). -/
def State.rxQueue (s : State) (n : Nat) (bs : List Byte) : Nat :=
  let h := s.rssHash n bs
  let g := setBits (s.rd (eth n) ETH_QSET_GQ_MASK)
  let pcp := match vlanOf bs with
    | some t => (s.rd (eth n) ETH_RSS_PCP_G).testBit (t / 2 ^ 13)
    | none => false
  if pcp && !g.isEmpty then g.getD (h % g.length) 0
  else
    let e := h % 128
    let f := match e % 4 with | 0 => ETH_RSS_IND_Q0 | 1 => ETH_RSS_IND_Q1 | 2 => ETH_RSS_IND_Q2 | _ => ETH_RSS_IND_Q3
    s.rd (eth n) (f.nth (e / 4))

/-- Is a frame stamped on receipt (R332)? -/
def State.stamped (s : State) (n : Nat) (bs : List Byte) : Bool :=
  let (v, _, l, p) := ipOf bs
  let port := beNat (cut bs (l + 2) 2)
  s.is (eth n) ETH_CFG_TS_ALL || beNat (cut bs (typeAt bs) 2) = 0x88F7 ||
    (v != 0 && p = 17 && (port = 319 || port = 320))

/-- The ones' complement sum of 16-bit words, folded; an odd last byte is the upper half of its word. -/
def onesSum : Nat → List Byte → Nat
  | a, [] => (a % 65536 + a / 65536) % 65536 + (a % 65536 + a / 65536) / 65536
  | a, [x] => onesSum (a + 256 * x.toNat) []
  | a, x :: y :: t => onesSum (a + 256 * x.toNat + y.toNat) t

/-- The sum over pseudo header and segment of a TCP or UDP frame. -/
def l4Sum (bs : List Byte) : Nat :=
  let (v, h, l, p) := ipOf bs
  let seg := if v = 4 then cut bs l (beNat (cut bs (h + 2) 2) - (l - h)) else cut bs l (beNat (cut bs (h + 4) 2))
  let addr := if v = 4 then cut bs (h + 12) 8 else cut bs (h + 8) 32
  onesSum (p + seg.length) (addr ++ seg)

/-- Do the IPv4 and the TCP or UDP checksums of a frame check (R328, R330)? -/
def csumOk (bs : List Byte) : Bool :=
  let (v, h, l, p) := ipOf bs
  (v = 4 || v = 6) && (v = 6 || onesSum 0 (cut bs h (l - h)) = 65535) && (p = 6 || p = 17) && l4Sum bs = 65535

/-- Put two bytes at a place. -/
def put16 (bs : List Byte) (a v : Nat) : List Byte :=
  bs.take a ++ [BitVec.ofNat 8 (v / 256), BitVec.ofNat 8 v] ++ bs.drop (a + 2)

/-- Insert the IPv4, TCP and UDP checksums (R330). -/
def csumInsert (bs : List Byte) : List Byte :=
  let (v, h, l, p) := ipOf bs
  let bs := if v = 4 then
      let z := put16 bs (h + 10) 0
      put16 z (h + 10) (65535 - onesSum 0 (cut z h (l - h)))
    else bs
  let at' := l + if p = 6 then 16 else 6
  if (v = 4 || v = 6) && (p = 6 || p = 17) then
    let z := put16 bs at' 0
    let c := 65535 - l4Sum z
    put16 z at' (if c = 0 && p = 17 then 65535 else c)
  else bs

/-! ### The tunnel -/

/-- The index of the path that a queue's frames take: 1 for G where it is present, else 0 for A (R325). -/
def State.ethPath (s : State) (n q : Nat) : Nat :=
  if (s.rd (eth n) ETH_QSET_GQ_MASK).testBit q && s.rd (eth n) (ETH_TUN_TX_HANDLE.nth 1) != 0 then 1 else 0

/-- Is the port's sending path up? -/
def State.ethPathUp (s : State) (n i : Nat) : Bool :=
  let h := s.rd (eth n) (ETH_TUN_TX_HANDLE.nth i)
  h != 0 && s.entries.any fun k => s.rd (path k) PT_W0_STATE = 1 && !s.is (path k) PT_W0_DOWN &&
    s.rd (path k) PT_W0_IN_PORT = 0x15 + n && s.rd (path k) PT_W0_IN_PATH_ID = h

/-- Cut a payload into pieces of at most `size` bytes. -/
def chunks (size : Nat) : Nat → List Byte → List (List Byte)
  | 0, _ => []
  | fuel + 1, bs => if bs.length ≤ size then [bs] else bs.take size :: chunks size fuel (bs.drop size)

/-- Send pieces on a path, all but the last with MORE = 1 (R325). (log 87, DEDUCED) -/
def State.ethPieces (s : State) (n i kind : Nat) : List (List Byte) → State
  | [] => s
  | [b] => s.inject (0x15 + n) (s.rd (eth n) (ETH_TUN_TX_HANDLE.nth i)) (kind * 0x4000) b
  | b :: t => State.ethPieces (s.inject (0x15 + n) (s.rd (eth n) (ETH_TUN_TX_HANDLE.nth i)) (kind * 0x4000 + 0x2000) b) n i kind t

/-- Send a frame or a status update into the tunnel (R325). The ETH page has no PKT240 field: packets are of at most
240 B, which every hop takes. -/
def State.ethTunnel (s : State) (n i kind : Nat) (bs : List Byte) : State :=
  s.ethPieces n i kind (chunks 240 (bs.length + 1) bs)

/-- The prefix of a received frame (R325). -/
def rxPrefix (f : EthFrame) : List Byte :=
  leBytes 8 (f.ts.getD 0) ++ leBytes 2 f.bytes.length ++ leBytes 1 f.q ++ leBytes 1 (if f.ts.isSome then 2 else 0) ++ leBytes 4 f.hash

/-- The prefix of a frame to send (R325). -/
def txPrefix (f : EthSend) : List Byte :=
  leBytes 8 0 ++ leBytes 2 f.bytes.length ++ leBytes 1 f.q ++ leBytes 1 (if f.tsReq then 1 else 0) ++ leBytes 4 f.idx

/-! ### Interrupts and completions -/

/-- Raise the interrupt of an MSI-X entry of the function, at most once per MOD µs (R330). -/
def State.ethIntr (s : State) (n e : Nat) : State :=
  let p := eth n
  let mod := s.rd p ETH_IRQ_MOD * 1000
  let last := s.rd p (ETH_IRQ_TIME.nth e)
  if e = 32 || mod = 0 || last = 0 || last + mod ≤ s.clock + 1 then
    ((s.wr p (ETH_IRQ_TIME.nth e) (s.clock + 1)).wr p (ETH_IRQ_PEND.nth e) 0).send (.ethIrq n e)
  else s.wr p (ETH_IRQ_PEND.nth e) 1

/-- Write a transmit completion (R329). -/
def State.txComplete (s : State) (n q idx status ts : Nat) : State := (s.send (.ethTxDone n q idx status ts)).ethIntr n q

/-- The link state that the host sees changes (R323, R340). (log 89, DEDUCED) -/
def State.ethLink (s : State) (n : Nat) (up : Bool) (mode : Nat) : State :=
  let p := eth n
  let was := s.is p ETH_STATUS_LINK
  let s := (s.wr p ETH_STATUS_LINK (if up then 1 else 0)).wr p ETH_STATUS_SPEED (if up then mode else 0)
  if was = up then s
  else ((s.setInt p 8).ethIntr n 32).when (!up) fun s => s.raise p 0

/-- The timestamp of a sent frame arrives (R329). -/
def State.txStamp (s : State) (n q idx ts : Nat) : State :=
  let e := s.ethOf n
  if e.stamps.any fun x => x.1 = q && x.2.1 = idx then
    (s.setEth n { e with stamps := e.stamps.filter fun x => !(x.1 = q && x.2.1 = idx) }).txComplete n q idx 0 ts
  else s

/-! ### Sending -/

/-- A frame leaves on the line, with its timestamp where asked for (R329, R332). -/
def State.lineTx (s : State) (n : Nat) (f : EthSend) : State :=
  let s := (s.send (.ethTx n f.bytes)).count (eth n) ETH_CNT_TX_FRM
  let ts := s.time.toNat
  if !f.tsReq then s
  else if s.ethJoin n = .loc then s.txStamp n f.q f.idx ts
  else s.ethTunnel n 0 1 (leBytes 4 (2 * 2 ^ 28) ++ leBytes 4 (f.q * 65536 + f.idx) ++ leBytes 8 ts)

/-- The MAC half takes a frame to send; while a PAUSE is in force it waits (R322). -/
def State.macTx (s : State) (n : Nat) (f : EthSend) : State :=
  if s.is (eth n) ETH_STATUS_RX_PAUSED then
    let e := s.ethOf n
    s.setEth n { e with txq := e.txq ++ [f] }
  else s.lineTx n f

/-- Transmission goes on (R322). -/
def State.macResume (s : State) (n : Nat) : State :=
  let e := s.ethOf n
  e.txq.foldl (fun s f => s.lineTx n f) ((s.wr (eth n) ETH_STATUS_RX_PAUSED 0).setEth n { e with txq := [] })

/-- The queue half sends a frame whose last descriptor is `idx` (R329, R330): one without bytes or longer than MTU is a
format error; a path or line that is down completes it with STATUS 3. -/
def State.txFrame (s : State) (n q idx : Nat) (ds : List TxDesc) : State :=
  let raw := ds.flatMap fun d => d.data
  let ins := ds.find? fun d => d.vlanIns
  let tagged := match ins with
    | some d => raw.take 12 ++ [0x81, 0x00, BitVec.ofNat 8 (d.vlan / 256), BitVec.ofNat 8 d.vlan] ++ raw.drop 12
    | none => raw
  let bytes := if ds.any fun d => d.csum then csumInsert tagged else tagged
  let f : EthSend := ⟨q, idx, ds.any fun d => d.tsReq, bytes⟩
  let wait := fun (s : State) => if f.tsReq then
      let e := s.ethOf n
      s.setEth n { e with stamps := e.stamps ++ [(q, idx, s.clock)] }
    else s
  let done := fun (s : State) => if f.tsReq then s else s.txComplete n q idx 0 0
  if raw.length = 0 || s.mtu n < raw.length then s.txComplete n q idx 2 0
  else if s.ethJoin n = .loc then
    if s.is (eth n) ETH_LINE then done ((wait s).macTx n f) else s.txComplete n q idx 3 0
  else
    let i := s.ethPath n q
    if s.ethPathUp n i then done ((wait s).ethTunnel n i 0 (txPrefix f ++ f.bytes)) else s.txComplete n q idx 3 0

/-- The frames in a list of fetched descriptors, whose first has index `head` in a ring of `size` (R330): those that are
complete are sent, the rest is kept. -/
def State.txFrames (s : State) (n q size : Nat) : Nat → Nat → List TxDesc → List TxDesc → State
  | _, _, acc, [] =>
    let e := s.ethOf n
    s.setEth n { e with txd := e.txd.setList q acc.reverse }
  | 0, _, _, _ => s
  | fuel + 1, i, acc, d :: t =>
    if d.eop then State.txFrames (s.txFrame n q (i % size) (d :: acc).reverse) n q size fuel (i + 1) [] t
    else State.txFrames s n q size fuel (i + 1) (d :: acc) t

/-! ### Receiving -/

/-- Is a ring in use: enabled, with a size that R330 allows? -/
def ringOk (en size : Nat) : Bool := en = 1 && (List.range 10).any fun i => size = 2 ^ (6 + i)

/-- How many posted buffers a frame of `n` bytes takes; `none` when they do not suffice. -/
def takeBufs : Nat → List Nat → Option Nat
  | _, [] => none
  | n, b :: t => if n ≤ b then some 1 else (takeBufs (n - b) t).map (· + 1)

/-- The queue half writes a frame into the RX descriptors of its queue (R328); `none` while they do not suffice. -/
def State.rxWrite (s : State) (n : Nat) (f : EthFrame) : Option State :=
  let p := eth n
  let e := s.ethOf n
  let strip := s.is p ETH_CFG_VLAN_STRIP && (vlanOf f.bytes).isSome
  let bytes := if strip then f.bytes.take 12 ++ f.bytes.drop 16 else f.bytes
  let size := s.rd p (ETH_Q_RX_RING_SIZE.nth f.q)
  let head := s.rd p (ETH_Q_RX_PTR_HEAD.nth f.q)
  if !ringOk (s.rd p (ETH_Q_RX_RING_EN.nth f.q)) size then none
  else match takeBufs bytes.length (e.rxd.list f.q) with
  | none => none
  | some c =>
    let flags := 0x81 + (if strip then 8 else 0) + (if csumOk f.bytes then 4 else 0) + if f.ts.isSome then 2 else 0
    let s := s.setEth n { e with rxd := e.rxd.setList f.q ((e.rxd.list f.q).drop c) }
    let s := s.wr p (ETH_Q_RX_PTR_HEAD.nth f.q) ((head + c) % size)
    some ((s.send (.ethRx n f.q head c flags (if strip then (vlanOf f.bytes).getD 0 else 0) (f.hash % 65536)
      (f.ts.getD 0) bytes)).ethIntr n f.q)

/-- Frames that wait in the queue half go on, in order; a queue without buffers does not halt the others (R327). -/
def State.qDrain (s : State) (n : Nat) : State :=
  let e := s.ethOf n
  let (s, left) := e.qwait.foldl (fun (x : State × List EthFrame) f =>
    if x.2.any fun g => g.q = f.q then (x.1, x.2 ++ [f])
    else match x.1.rxWrite n f with
      | some s => (s, x.2)
      | none => (x.1, x.2 ++ [f])) (s, [])
  s.setEth n { s.ethOf n with qwait := left }

/-- Bytes of the receive buffer, or of the spill ring, in use. -/
def ethFill (fs : List EthFrame) (spilled : Bool) : Nat :=
  ((fs.filter fun f => f.spilled = spilled).map fun f => f.bytes.length).sum

/-- Is the spill ring in use (R327, R334, R339)? (log 88, DESIGN CHOICE) -/
def State.spillOn (s : State) (n : Nat) : Bool :=
  s.is (eth n) ETH_CFG_SPILL_EN && s.is (eth n) ETH_SPILL_HI_SIZE && s.rd memp MEM_STATUS_STATE != 5

/-- PAUSE follows the fill of the receive buffer, with the spill ring when spill is enabled (R327). -/
def State.pauseCheck (s : State) (n : Nat) : State :=
  let p := eth n
  let rx := (s.ethOf n).rx
  let fill := ethFill rx false + if s.spillOn n then ethFill rx true else 0
  let xoff := s.rd p ETH_BUF_XOFF
  let xon := if xoff ≤ s.rd p ETH_BUF_XON then xoff - 16 else s.rd p ETH_BUF_XON
  if !s.is p ETH_CFG_PAUSE_EN then s
  else if !s.is p ETH_STATUS_TX_XOFF && xoff * 1024 < fill then
    ((s.wr p ETH_STATUS_TX_XOFF 1).count p ETH_CNT_PAUSE_TX).send (.ethPause n 65535)
  else if s.is p ETH_STATUS_TX_XOFF && fill < xon * 1024 then
    ((s.wr p ETH_STATUS_TX_XOFF 0).count p ETH_CNT_PAUSE_TX).send (.ethPause n 0)
  else s

/-- The tolerance that the port reports as a DRAM client (R336). -/
def State.ethReport (s : State) (n : Nat) : State :=
  let rate := ethRate (s.rd (eth n) ETH_CFG_MODE)
  let left := 122880 - ethFill (s.ethOf n).rx false
  s.memReport (4 + n) (if s.spillOn n && rate != 0 then left * 8 * 1000000 / rate / 128 else 0xFFFFF)

/-- Received frames leave the MAC half (R325, R327): for the local queue half as its queues take them, else into the
tunnel. Frames of the spill ring are read back, in arrival order. -/
def State.macDrain (s : State) (n : Nat) : State :=
  let e := s.ethOf n
  let out := fun (s : State) (f : EthFrame) => s.when f.spilled fun s => s.memTouch (4 + n) f.bytes.length
  let (s, left) := e.rx.foldl (fun (x : State × List EthFrame) f =>
    if x.2.any fun g => g.q = f.q then (x.1, x.2 ++ [f])
    else if x.1.ethJoin n = .loc then
      match x.1.rxWrite n f with
      | some s => (out s f, x.2)
      | none => (x.1, x.2 ++ [f])
    else
      let i := x.1.ethPath n f.q
      if x.1.ethPathUp n i then ((out x.1 f).ethTunnel n i 0 (rxPrefix f ++ f.bytes), x.2) else (x.1, x.2 ++ [f])) (s, [])
  ((s.setEth n { s.ethOf n with rx := left }).pauseCheck n).ethReport n

/-- A frame is dropped and counted (R326, R327). -/
def State.rxDrop (s : State) (n : Nat) : State := (s.count (eth n) ETH_CNT_RX_DROP).raise (eth n) 2

/-- A classified frame finds its room (R327): the cap of its queue, the spill ring above 75 % full, the buffer. -/
def State.rxPlace (s : State) (n : Nat) (f : EthFrame) : State :=
  let p := eth n
  let e := s.ethOf n
  let len := f.bytes.length
  let mine := ((e.rx.filter fun g => g.q = f.q).map fun g => g.bytes.length).sum
  let fill := ethFill e.rx false
  let ring := s.rd p ETH_SPILL_HI_SIZE * 65536
  let base := s.rd p ETH_SPILL_HI_ADDR_HI * 2 ^ 32 + s.rd p ETH_SPILL_LO_ADDR_LO * 65536
  let spill := s.spillOn n && 122880 < fill
  if s.rd p ETH_BUF_RXQ_CAP * 1024 < mine + len then s.rxDrop n
  else if spill && ethFill e.rx true + len ≤ ring then
    let w := s.rd p ETH_SPILL_WR % ring
    let first := f.bytes.take (ring - w)
    let s := s.memWrite (4 + n) (base + w) first
    let s := s.when (decide (ring - w < len)) fun s => s.memWrite (4 + n) base (f.bytes.drop (ring - w))
    let s := (s.wr p ETH_SPILL_WR ((w + len) % ring)).count p ETH_CNT_SPILL
    (s.setEth n { e with rx := e.rx ++ [{ f with spilled := true }] }).macDrain n
  else if fill + len ≤ 163840 then (s.setEth n { e with rx := e.rx ++ [f] }).macDrain n
  else (s.rxDrop n).pauseCheck n

/-- Both halves are reset (R324): held frames are discarded and counted, and every queue pair is disabled. -/
def State.ethReset (s : State) (n : Nat) : State :=
  let p := eth n
  let e := s.ethOf n
  let s := s.sat p ETH_CNT_RX_DROP (e.rx.length + e.qwait.length)
  let s := (List.range 32).foldl (fun s q => (s.wr p (ETH_Q_TX_RING_EN.nth q) 0).wr p (ETH_Q_RX_RING_EN.nth q) 0) s
  (s.setEth n Eth.empty).clearFields p [ETH_STATUS_LINK, ETH_STATUS_SPEED, ETH_STATUS_RX_PAUSED, ETH_STATUS_TX_XOFF]

/-- A path of the port is declared down (R158, R331): every fetched transmit frame completes with STATUS 3, frames of the
path are dropped and counted, and link down is reported. (log 89, DEDUCED) -/
def State.ethDown (s : State) (n : Nat) : State :=
  let e := s.ethOf n
  let s := s.setEth n { e with stamps := [], txd := [], join := [] }
  let s := e.stamps.foldl (fun s x => s.txComplete n x.1 x.2.1 3 0) s
  let part := e.join.length
  let s := (s.sat (eth n) ETH_CNT_PATH_DROP part)
  if s.ethJoin n = .loc then s
  else if s.ethQueue n then s.ethLink n false 0
  else s.when (s.ethMac n) fun s => s.raise (eth n) 0

/-- Standby (R380): link down is reported, and held frames are discarded and counted. -/
def State.ethStandby (s : State) (n : Nat) : State :=
  let e := s.ethOf n
  let s := s.sat (eth n) ETH_CNT_RX_DROP (e.rx.length + e.qwait.length)
  let s := s.setEth n { e with rx := [], qwait := [], txq := [] }
  (s.wr (eth n) ETH_LINE 0).when (s.ethQueue n) fun s => s.ethLink n false 0

/-- The MAC half sees its line up or down (R82, R325): it sends its link state on every change and every 100 ms. -/
def State.lineState (s : State) (n : Nat) (up : Bool) : State :=
  let p := eth n
  let m := s.rd p ETH_CFG_MODE
  s.when (s.works p && s.ethMac n && ethRate m != 0) fun s =>
    let was := s.is p ETH_LINE
    let due := was != up || s.rd p ETH_LS_TIME + 100000000 ≤ s.clock
    let s := (s.wr p ETH_LINE (if up then 1 else 0)).when (was && !up && 3 ≤ m) fun s => s.raise p 4
    let s := s.when (!was && up) fun s => s.eqPads ⟨.elane, n⟩ (0x48 + n) (if m = 1 then 14 else 15) 3 [0]
    s.when due fun s =>
      let s := s.wr p ETH_LS_TIME s.clock
      if s.ethJoin n = .loc then s.ethLink n up m
      else
        let s := s.ethTunnel n 0 1 (leBytes 4 (2 ^ 28 + m * 16 + if up then 1 else 0) ++ leBytes 4 0 ++ leBytes 8 0)
        s.when (was && !up) fun s => s.raise p 0

end Sys2Proof.Machine
end

