-- ==== Sys2Proof/Machine/Ethernet.lean ====
section
/-! DEFINITION. The commands of the Ethernet ports (R322 to R332, R339 of spec/14_ethernet_and_memory.md). -/

namespace Sys2Proof.Machine

open Reg

/-- ETH_FRAME_RX (R326, R327, R332): filtered, hashed, queued, spilled or dropped. (log 87, DEDUCED) -/
def execEthFrameRx (n : Nat) (fcsOk accept : Bool) (bytes : List Byte) (s : State) : Res :=
  let p := eth n
  .next (s.when (s.works p && s.ethMac n && s.is p ETH_LINE) fun s =>
    if !fcsOk then (s.count p ETH_CNT_RX_FCS).rxDrop n
    else if s.mtu n < bytes.length + 4 || !accept then s.rxDrop n
    else
      let ts := if s.stamped n bytes then some s.time.toNat else none
      (s.count p ETH_CNT_RX_FRM).rxPlace n ⟨s.rxQueue n bytes, false, s.rssHash n bytes, ts, bytes⟩)

/-- PAUSE_RX (R322): obeyed when PAUSE_EN = 1; quanta of 512 bit times, and 0 restarts transmission. -/
def execPauseRx (n quanta : Nat) (s : State) : Res :=
  let p := eth n
  .next (s.when (s.works p && s.ethMac n && s.is p ETH_CFG_PAUSE_EN) fun s =>
    let s := s.count p ETH_CNT_PAUSE_RX
    if quanta = 0 then s.macResume n
    else
      let ns := quanta * 512 * 1000000 / max 1 (ethRate (s.rd p ETH_CFG_MODE))
      (s.wr p ETH_STATUS_RX_PAUSED 1).wr p ETH_PAUSE_END (s.clock + ns))

/-- PAUSE_QUANTA_EXPIRY (R322). -/
def execPauseQuantaExpiry (n : Nat) (s : State) : Res :=
  let p := eth n
  .next (s.when (s.works p && s.is p ETH_STATUS_RX_PAUSED && s.rd p ETH_PAUSE_END ≤ s.clock) fun s => s.macResume n)

/-- ETH_TUNNEL_FRAME (R325, R328): the packets of a frame are joined; a frame towards the queue half goes into its RX
descriptors or waits, one towards the MAC half is sent. -/
def execEthTunnelFrame (n : Nat) (toMac g more : Bool) (bytes : List Byte) (s : State) : Res :=
  let p := eth n
  let k := (if toMac then 2 else 0) + if g then 1 else 0
  let j := s.ethJoin n
  let live := s.works p && j != .loc && (if toMac then s.ethMac n else s.ethQueue n)
  .next (s.when live fun s =>
    let e := s.ethOf n
    let all := e.join.list k ++ bytes
    if more then s.setEth n { e with join := e.join.setList k all }
    else
      let s := s.setEth n { e with join := e.join.del k }
      let body := (all.drop 16).take (leNat (cut all 8 2))
      let q := leNat (cut all 10 1) % 32
      let fl := leNat (cut all 11 1)
      if toMac then s.macTx n ⟨q, leNat (cut all 12 2), fl.testBit 0, body⟩
      else
        let e := s.ethOf n
        let f : EthFrame := ⟨q, false, leNat (cut all 12 4), if fl.testBit 1 then some (leNat (cut all 0 8)) else none, body⟩
        (s.setEth n { e with qwait := e.qwait ++ [f] }).qDrain n)

/-- ETH_STATUS_UPDATE (R325, R329). -/
def execEthStatusUpdate (n w0 w1 w2 w3 : Nat) (s : State) : Res :=
  .next (s.when (s.works (eth n) && s.ethQueue n && s.ethJoin n != .loc) fun s =>
    match w0 / 2 ^ 28 with
    | 1 => s.ethLink n (w0 % 2 = 1) (w0 / 16 % 16)
    | 2 => s.txStamp n (w1 / 65536 % 32) (w1 % 65536) (w3 * 2 ^ 32 + w2)
    | _ => s)

/-- LINK_STATE_TIMER (R325): the MAC half sends its link state on every change and every 100 ms. (log 89, DEDUCED) -/
def execLinkStateTimer (n : Nat) (up : Bool) (s : State) : Res := .next (s.lineState n up)

/-- A tail out of range is ignored and raises Q_ERR (R331). -/
def State.tailBad (s : State) (n q : Nat) : State := (s.wr (eth n) ETH_STATUS_LAST_Q q).raise (eth n) 1

/-- TX_TAIL (R329): the descriptors from HEAD up to TAIL − 1 are fetched, and their frames sent. (log 31, DEDUCED; log 88, DESIGN CHOICE) -/
def execTxTail (who : Initiator) (n q tail : Nat) (descs : List TxDesc) (s : State) : Res :=
  let p := eth n
  .next (s.access who p (ETH_Q_TX_PTR_TAIL.nth q) fun s =>
    let size := s.rd p (ETH_Q_TX_RING_SIZE.nth q)
    if size ≤ tail then s.tailBad n q
    else
      let s := s.wr p (ETH_Q_TX_PTR_TAIL.nth q) tail
      if !(s.works p && s.ethQueue n && ringOk (s.rd p (ETH_Q_TX_RING_EN.nth q)) size) then s
      else
        let head := s.rd p (ETH_Q_TX_PTR_HEAD.nth q)
        let ds := descs.take ((tail + size - head) % size)
        let part := (s.ethOf n).txd.list q
        let s := s.wr p (ETH_Q_TX_PTR_HEAD.nth q) ((head + ds.length) % size)
        State.txFrames s n q size (ds.length + 1) head part.reverse ds)

/-- RX_TAIL (R328): buffers are posted, and frames that wait take them. (log 31, DEDUCED; log 88, DESIGN CHOICE) -/
def execRxTail (who : Initiator) (n q tail : Nat) (sizes : List Nat) (s : State) : Res :=
  let p := eth n
  .next (s.access who p (ETH_Q_RX_PTR_TAIL.nth q) fun s =>
    let size := s.rd p (ETH_Q_RX_RING_SIZE.nth q)
    if size ≤ tail then s.tailBad n q
    else
      let old := s.rd p (ETH_Q_RX_PTR_TAIL.nth q)
      let s := s.wr p (ETH_Q_RX_PTR_TAIL.nth q) tail
      if !(s.works p && s.ethQueue n) then s
      else
        let e := s.ethOf n
        let new := sizes.take ((tail + size - old) % size)
        let s := s.setEth n { e with rxd := e.rxd.setList q (e.rxd.list q ++ new) }
        (s.qDrain n).when (s.ethJoin n = .loc) fun s => s.macDrain n)

/-- TS_COMPLETION_TIMEOUT (R329): 10 ms without the timestamp. -/
def execTsCompletionTimeout (n q idx : Nat) (s : State) : Res :=
  let e := s.ethOf n
  .next (s.when (e.stamps.any fun x => x.1 = q && x.2.1 = idx && x.2.2 + 10000000 ≤ s.clock) fun s =>
    (s.setEth n { e with stamps := e.stamps.filter fun x => !(x.1 = q && x.2.1 = idx) }).txComplete n q idx 3 0)

/-- ETH_DMA_ERROR (R331). -/
def execEthDmaError (n q : Nat) (s : State) : Res :=
  let p := eth n
  .next (s.when (s.works p && s.ethQueue n) fun s =>
    let e := s.ethOf n
    let s := (s.wr p (ETH_Q_TX_RING_EN.nth q) 0).wr p (ETH_Q_RX_RING_EN.nth q) 0
    let s := s.setEth n { e with txd := e.txd.del q, rxd := e.rxd.del q }
    (s.wr p ETH_STATUS_LAST_Q q).raise p 1)

/-- ETH_BIND_CHANGE (R324). -/
def execEthBindChange (who : Initiator) (n q m : Nat) (s : State) : Res :=
  let p := eth n
  .next (s.access who p ETH_CFG_Q_BIND fun s =>
    if s.rd p ETH_CFG_Q_BIND = q && s.rd p ETH_CFG_MAC_BIND = m then s
    else
      let s := ((s.ethReset n).wr p ETH_CFG_Q_BIND q).wr p ETH_CFG_MAC_BIND m
      s.when (ethBind q m).2 fun s => s.raise p 3)

/-- IRQ_MOD_EXPIRY (R330). -/
def execIrqModExpiry (n entry : Nat) (s : State) : Res :=
  let p := eth n
  .next (s.when (s.is p (ETH_IRQ_PEND.nth entry) &&
      s.rd p (ETH_IRQ_TIME.nth entry) + s.rd p ETH_IRQ_MOD * 1000 ≤ s.clock + 1) fun s => s.ethIntr n entry)

/-- ETH_CNT_CLR (R339). -/
def execEthCntClr (who : Initiator) (n : Nat) (s : State) : Res :=
  .next (s.access who (eth n) ETH_CNT_CLR_CLR fun s =>
    s.clearFields (eth n) [ETH_CNT_RX_FRM, ETH_CNT_TX_FRM, ETH_CNT_RX_DROP, ETH_CNT_RX_FCS, ETH_CNT_SPILL,
      ETH_CNT_PAUSE_RX, ETH_CNT_PAUSE_TX, ETH_CNT_PATH_DROP])

end Sys2Proof.Machine
end

