-- ==== Sys2Proof/Machine/SafeOps.lean ====
section
/-! DEFINITION. The Ngunov safety island's shared operations (spec/16_ngunov_safety_island.md, and R343 to R345, R354, R359 of spec/15_power_delivery.md): measurements, windows and limits, the interlock, trips, discharge, requests and the safety reset. -/

namespace Sys2Proof.Machine

open Reg

/-! ### Mailbox answers -/

/-- Cut a transfer into packets of at most 512 B; a last full packet is followed by an empty one. -/
def usbPackets : Nat → List Byte → List (List Byte)
  | 0, _ => []
  | fuel + 1, bs => if bs.length < 512 then [bs] else bs.take 512 :: usbPackets fuel (bs.drop 512)

/-- The response of a request that came through the embedded management function goes out as one IN transfer on EP1
(R442), and the channel is idle again. -/
def State.mbUsb (s : State) (c : Nat) : State :=
  let p := mbch c
  let len := s.rd p MB_RESULT_LEN
  let w := 2 ^ 31 + s.rd p MB_RESULT_STATUS * 65536 + len * 256 + s.rd p MB_RESULT_TAG
  let bs := leBytes 4 w ++ (List.range len).flatMap fun i => leBytes 4 (s.rd p (MB_RSP_DATA.nth i))
  let s := (usbPackets 4 bs).foldl (fun s b => s.usbPush 3 b) s
  (s.wr p MB_RESULT_DONE 0).wr p MBC_USB 0

/-- A channel's request completes (R443): status and response length, DONE for BUSY, and the DONE interrupt. -/
def State.mbDone (s : State) (c status len : Nat) : State :=
  let p := mbch c
  let s := ((s.wr p MB_RESULT_STATUS status).wr p MB_RESULT_LEN len).wr p MB_RESULT_TAG (s.rd p MB_DOORBELL_TAG)
  let s := ((s.wr p MB_RESULT_BUSY 0).wr p MB_RESULT_TAKEN 0).wr p MB_RESULT_DONE 1
  if s.is p MBC_USB then s.mbUsb c else s.setInt p 8

/-- Write words into a channel's response (R443). -/
def State.mbWords (s : State) (c : Nat) (ws : List Nat) : State :=
  (List.range (min 256 ws.length)).foldl (fun s i => s.wr (mbch c) (MB_RSP_DATA.nth i) (ws.getD i 0)) s

/-- The island answers a request (R374): word 0 with STATUS in place of PORT. (log 77, DEDUCED) -/
def State.safeAnswer (s : State) (r : SafeReq) (status : Nat) : State :=
  let w := r.cmd * 2 ^ 24 + status * 2 ^ 16 + r.tag
  let s := s.send (.safeRsp r.who w)
  s.when (r.mbx && s.is (mbch 15) MB_RESULT_BUSY) fun s => (s.mbWords 15 [w]).mbDone 15 0 1

/-! ### Measurements, windows and limits -/

/-- VBUS and current of a port as measured (R344). -/
def State.measure (s : State) (n vbus ibus : Nat) : State := (s.wr safe (SP_VBUS.nth n) vbus).wr safe (SP_IBUS.nth n) ibus

/-- The window of the sink switch and the trip limits of a port (R354, R370): of its contract, of Type-C without one,
and spanning both contracts during a transition. -/
def State.safeLimits (s : State) (n : Nat) : State :=
  let tr := s.is safe (SP_STATE_TRANS.nth n)
  let lo := if tr then min (s.rd safe (SP_VLO.nth n)) (s.rd safe (SP_NLO.nth n)) else s.rd safe (SP_VLO.nth n)
  let hi := if tr then max (s.rd safe (SP_VHI.nth n)) (s.rd safe (SP_NHI.nth n)) else s.rd safe (SP_VHI.nth n)
  let ic := if tr then max (s.rd safe (SP_IC.nth n)) (s.rd safe (SP_NIC.nth n)) else s.rd safe (SP_IC.nth n)
  let ex := tr || s.is safe (SP_EXPL.nth n)
  let s := s.wr safe (SP_WIN_WIN_LO_MV.nth n) (if ex then lo * 95 / 100 - 750 else 4750)
  let s := s.wr safe (SP_WIN_WIN_HI_MV.nth n) (if ex then min 65535 (hi * 105 / 100 + 500) else 5500)
  let s := s.wr safe (SP_LIM_OV_MV.nth n) (min 65535 (hi * 110 / 100 + 500))
  s.wr safe (SP_LIM_OC_MA.nth n) (min 65535 (s.rd safe (SP_OCCFG_OC_PCT.nth n) * ic / 100))

/-- A port is without an explicit contract, at a Type-C current (R370). (log 80, DEDUCED) -/
def State.voidContract (s : State) (n ic : Nat) : State :=
  let s := ((s.wr safe (SP_EXPL.nth n) 0).wr safe (SP_VLO.nth n) 5000).wr safe (SP_VHI.nth n) 5000
  ((s.wr safe (SP_IC.nth n) ic).wr safe (SP_STATE_TRANS.nth n) 0).safeLimits n

/-- Does a contract store more energy than a limit allows (R351, R373)? E = ½ · CBULK · (1.05 · V_HI)². -/
def energyOver (cbulk limit hi : Nat) : Bool := limit * 20000000000000 < cbulk * (105 * hi) ^ 2

/-- Does a contract up to `hi` mV fail the energy limit of a port? -/
def State.energyFails (s : State) (n hi : Nat) : Bool :=
  energyOver (s.rd safe (SP_CFG_CBULK_UF.nth n)) (s.rd safe (SP_CFG_LIMIT_MJ.nth n)) hi

/-! ### Switches -/

/-- The source switch of a port is closed. -/
def State.srcOn (s : State) (n : Nat) : Bool := s.is safe (SP_STATE_SRC_CLOSED.nth n)

/-- The sink switch of a port is closed. -/
def State.snkOn (s : State) (n : Nat) : Bool := s.is safe (SP_STATE_SNK_CLOSED.nth n)

/-- A close request that waits ends with a status (R354, R372, R374). -/
def State.endClose (s : State) (n status : Nat) : State :=
  let s := s.wr safe (SP_STATE_CLOSE_WAIT.nth n) 0
  match Tab.find s.closers n with
  | some r => { s with closers := s.closers.del n }.safeAnswer r status
  | none => s

/-- Open both switches of a port. -/
def State.openBoth (s : State) (n : Nat) : State :=
  ((s.wr safe (SP_STATE_SRC_CLOSED.nth n) 0).wr safe (SP_STATE_SNK_CLOSED.nth n) 0).wr safe (SP_FRS_SEEN.nth n) 0

/-- Discharge VBUS of a port (R359); never with a closed switch (R344). -/
def State.discharge (s : State) (n : Nat) : State :=
  if s.srcOn n || s.snkOn n then s
  else
    let s := if s.is safe (SP_STATE_DISCH.nth n) then s else s.wr safe (SP_DISCH_TIME.nth n) s.clock
    (s.wr safe (SP_STATE_DISCH.nth n) 1).wr safe (SP_DISCH_FAILED.nth n) 0

/-- Turn VCONN of a port off. (log 80, DEDUCED) -/
def State.vconnOff (s : State) (n : Nat) : State := (s.wr safe (SP_STATE_VCONN.nth n) 0).wr (pd n) PD_STATUS_VCONN 0

/-- Has the logic BIST found MGMT or FABRIC faulty (R433)? The island then keeps every power stage open. -/
def State.lbistHard (s : State) : Bool := s.rdBit bist BIST_LB_STS_FAIL 2 || s.rdBit bist BIST_LB_STS_FAIL 3

/-- Does the boot ROM stop short of Moabeuc, and the island keep every power stage open and every VCONN off: in role 0b11
(R3), and after a hard failure of the logic BIST (R433)? (log 96, DEDUCED) -/
def State.coldStop (s : State) : Bool := s.lbistHard || s.rd glb GLB_STRAP_ROLE = 3

/-- May VCONN be turned on (R345)? The request itself says that the hub is to be the port's VCONN source. -/
def State.vconnMay (s : State) (n : Nat) : Bool :=
  s.is aon AON_VCONN_IN && s.is (pd n) PD_POLICY_VCONN_EN && !s.coldStop

/-- Does the interlock let the switch close now (R354)? `sink` names the switch; a sink switch also asks that VBUS has
lain within the window for 10 ms, which the event that closes it says. -/
def State.mayClose (s : State) (n : Nat) (sink : Bool) : Bool :=
  let v := s.rd safe (SP_VBUS.nth n)
  if s.coldStop then false
  else if sink then
    s.rd safe (SP_WIN_WIN_LO_MV.nth n) ≤ v && v ≤ s.rd safe (SP_WIN_WIN_HI_MV.nth n) && !s.srcOn n &&
      !s.is safe (SP_STATE_DISCH.nth n)
  else !s.snkOn n && !s.is safe (SP_STATE_DISCH.nth n) && (v ≤ 800 || (s.is safe (SP_FRS_SEEN.nth n) && v ≤ 5500))

/-- Close a switch. -/
def State.closeNow (s : State) (n : Nat) (sink : Bool) : State :=
  if sink then s.wr safe (SP_STATE_SNK_CLOSED.nth n) 1
  else (s.wr safe (SP_STATE_SRC_CLOSED.nth n) 1).wr safe (SP_FRS_SEEN.nth n) 0

/-! ### Trips -/

/-- A port is tripped by source `src` (R371): VBUS and current are recorded, the port's close request is answered
TRIPPED, and VCONN is off. `both` opens both switches, otherwise the closed one; `disch` discharges a source. Within
1 ms of a detach there is no trip, and a second condition within 1 µs only lowers the cause (R372). (log 80, DEDUCED) -/
def State.trip (s : State) (n src : Nat) (disch : Bool) : State :=
  if s.clock < s.rd safe (SP_QUIET.nth n) then s
  else
    let source := s.rd safe (SP_ROLE.nth n) = 1
    let again := s.is safe (SP_STATE_TRIPPED.nth n) && s.clock ≤ s.rd safe (SP_TRIP_TIME.nth n) + 1000
    let s := (((s.openBoth n).vconnOff n).endClose n 2).wr safe (SP_STATE_TRANS.nth n) 0
    let s := (s.safeLimits n).when (disch && source) fun s => s.discharge n
    if again then
      s.when (src < s.rd safe (SP_STATE_TRIP.nth n)) fun s => s.wr safe (SP_STATE_TRIP.nth n) src
    else
      let s := ((s.wr safe (SP_STATE_TRIPPED.nth n) 1).wrBit safe SF_STATUS_TRIPPED n true).wr safe (SP_STATE_TRIP.nth n) src
      let s := (s.wr safe (SP_TRIP_VAL_VBUS_MV.nth n) (s.rd safe (SP_VBUS.nth n))).wr safe (SP_TRIP_VAL_IBUS_MA.nth n)
        (s.rd safe (SP_IBUS.nth n))
      let s := (s.wr safe (SP_TRIP_TIME.nth n) s.clock).count safe (SP_CNT_TRIP.nth n)
      (s.raise safe src).wake 8 n src

/-- Has the condition of a port's trip gone (R374)? -/
def State.tripGone (s : State) (n : Nat) : Bool :=
  let v := s.rd safe (SP_VBUS.nth n)
  let i := (signed 16 (s.rd safe (SP_IBUS.nth n))).natAbs
  !s.is safe (SP_STATE_DISCH.nth n) &&
  match s.rd safe (SP_STATE_TRIP.nth n) with
  | 1 => v ≤ s.rd safe (SP_LIM_OV_MV.nth n)
  | 2 => i ≤ s.rd safe (SP_LIM_OC_MA.nth n) && i ≤ s.rd safe (SP_OCCFG_IMAX_MA.nth n)
  | 3 => i ≤ s.rd safe (SP_RC_RC_MA.nth n)
  | 6 => !s.is safe SF_STATUS_THERM
  | 7 => v ≤ 800
  | _ => true

/-- SAFE_FAULT_N is low while a port is tripped (R371) and during a safety reset (R375). -/
def State.faultPinLow (s : State) : Bool := s.is safe SF_STATUS_TRIPPED || s.is safe PG_STATUS_IN_RESET

/-- The island sees a detach (R359): every switch open, VBUS discharged, no trip for 1 ms. -/
def State.safeDetach (s : State) (n : Nat) : State :=
  let s := (((s.openBoth n).endClose n 3).vconnOff n).wr safe (SP_QUIET.nth n) (s.clock + 1000000)
  let s := ((s.discharge n).wr safe (SP_ROLE.nth n) 0).wr safe (SP_STATE_FRS.nth n) 0
  (s.voidContract n 900).raise safe 8

/-! ### Safety reset -/

/-- The PD engine's side of a void contract: no contract, and the port attaches afresh (R375, R359). -/
def State.pdVoid (s : State) (n : Nat) : State :=
  let p := pd n
  let s := s.clearFields p [PD_STATUS_CONTRACT, PD_STATUS_EPR, PD_STATUS_KIND, PD_CONTRACT_VOLT, PD_CONTRACT_CURR,
    PD_CONTRACT_OBJ, PD_BUDGET_USE_W]
  s

/-- A value of the SAFE image that the retention RAM holds for port `n` (R375, R397): 0 CBULK_UF, 1 LIMIT_MJ, 2 VS_DIV,
3 IS_GAIN, in the order of R439. (log 79, DESIGN CHOICE) -/
def State.imageValue (s : State) (n j : Nat) : Nat :=
  let a := 0x3000 + 8 * n + 2 * j
  (Mem.read 0 s.aonRam a).toNat + 256 * (Mem.read 0 s.aonRam (a + 1)).toNat

/-- The island loads the image values (R373, R375). (log 79, DESIGN CHOICE; log 113, DEDUCED) -/
def State.loadImage (s : State) : State :=
  (List.range 6).foldl (fun s n =>
    let s := (s.wr safe (SP_CFG_CBULK_UF.nth n) (s.imageValue n 0)).wr safe (SP_CFG_LIMIT_MJ.nth n) (s.imageValue n 1)
    (s.wr safe (SP_SENSE_VS_DIV.nth n) (s.imageValue n 2)).wr safe (SP_SENSE_IS_GAIN.nth n) (s.imageValue n 3)) s

/-- A safety reset begins (R375): every switch opens, VBUS above 0.8 V is discharged, VCONN goes off, and the SAFE config
class takes its reset values but for the count of safety resets; a slice test of the island is cut short (R431). The patch region is kept. (log 80, DEDUCED) -/
def State.safetyReset (s : State) (cause : Nat) : State :=
  if s.is safe PG_STATUS_IN_RESET then s
  else
    let n := min (s.rd safe SF_CNT_RST + 1) (2 ^ 32 - 1)
    let s := s.when (s.sliceIn fun g => groupIsland g = 1) State.sliceAbort
    let s := (List.range 6).foldl (fun s k => (s.endClose k 3).vconnOff k) s
    let s := s.resetWhere fun p c => p = safe && c != .aon
    let s := (List.range 6).foldl (fun s k => s.when (800 < s.rd safe (SP_VBUS.nth k)) fun s => s.discharge k) s
    let s := (List.range 6).foldl (fun s k =>
      (s.pdVoid k).when (s.rd (pd k) PD_STATUS_STATE != 6) fun s => s.wr (pd k) PD_STATUS_STATE 0) s
    ((s.wr safe SF_CNT_RST n).wr safe SF_RST_CAUSE cause).wr safe PG_STATUS_IN_RESET 1

/-! ### Requests -/

/-- Who may make a request (R374). (log 78, DEDUCED) -/
def safeAllowed (cmd : Nat) (who : Initiator) : Bool :=
  who = .marionette || (who = .smbus && 7 ≤ cmd && cmd ≤ 9)

/-- Is PORT one that the command takes: a port, or all ports where the command allows? -/
def safePortOk (cmd port : Nat) : Bool :=
  port ≤ 5 || (port = 0xFF && (cmd = 3 || cmd = 4 || cmd = 7 || cmd = 8))

/-- SET_CONTRACT on port `n` (R374): begin a transition, or settle it. -/
def State.setContract (s : State) (r : SafeReq) (n : Nat) : State × Option Nat :=
  let lo := r.w1 / 65536
  let hi := r.w1 % 65536
  let ic := r.w2 % 65536
  if hi < lo then (s, some 4)
  else if r.w3 % 2 = 1 && !s.is safe (SP_STATE_TRANS.nth n) then (s, some 3)
  else if s.energyFails n hi then (s.raise safe 10, some 1)
  else if r.w3 % 2 = 0 then
    let s := ((s.wr safe (SP_NLO.nth n) lo).wr safe (SP_NHI.nth n) hi).wr safe (SP_NIC.nth n) ic
    (((s.wr safe (SP_STATE_TRANS.nth n) 1).wr safe (SP_TRANS_TIME.nth n) s.clock).safeLimits n, some 0)
  else
    let s := ((s.wr safe (SP_VLO.nth n) lo).wr safe (SP_VHI.nth n) hi).wr safe (SP_IC.nth n) ic
    (((s.wr safe (SP_EXPL.nth n) 1).wr safe (SP_STATE_TRANS.nth n) 0).safeLimits n, some 0)

/-- CLOSE_PATH on port `n` (R354, R374): the switch closes now, or the request waits. (log 78, DEDUCED) -/
def State.closePath (s : State) (r : SafeReq) (n : Nat) : State × Option Nat :=
  let sink := r.w1 % 2 = 1
  if (if sink then s.snkOn n else s.srcOn n) then (s, some 0)
  else if s.is safe (SP_STATE_CLOSE_WAIT.nth n) then (s, some 5)
  else if !sink && s.mayClose n false then (s.closeNow n false, some 0)
  else
    let s := (s.wr safe (SP_STATE_CLOSE_WAIT.nth n) 1).wr safe (SP_CLOSE_TIME.nth n) s.clock
    ({ s with closers := s.closers.put n r }, none)

/-- OPEN_PATH on port `n`: at once; a waiting close of that switch is withdrawn. (log 78, DEDUCED) -/
def State.openPath (s : State) (r : SafeReq) (n : Nat) : State × Option Nat :=
  let sink := r.w1 % 2 = 1
  let s := match Tab.find s.closers n with
    | some q => s.when (decide (q.w1 % 2 = r.w1 % 2)) fun s => s.endClose n 3
    | none => s
  (s.wr safe (if sink then SP_STATE_SNK_CLOSED.nth n else SP_STATE_SRC_CLOSED.nth n) 0, some 0)

/-- SET_LIMIT on port `n` (R373). -/
def State.setLimit (s : State) (r : SafeReq) (n : Nat) : State × Option Nat :=
  let lim := r.w1 % 65536
  let pct := r.w2 % 256
  if s.imageValue n 1 < lim || pct < 100 || 125 < pct then (s, some 4)
  else (((s.wr safe (SP_CFG_LIMIT_MJ.nth n) lim).wr safe (SP_OCCFG_OC_PCT.nth n) pct).safeLimits n, some 0)

/-- The effect of a request on one port, and its status unless the answer waits (R374). -/
def State.safePort (s : State) (r : SafeReq) (n : Nat) : State × Option Nat :=
  if s.is safe (SP_STATE_TRIPPED.nth n) && r.cmd != 7 && r.cmd != 3 then (s, some 2)
  else if s.rd safe (SP_ROLE.nth n) = 0 then (s, some 3)
  else match r.cmd with
  | 1 => s.setContract r n
  | 2 => s.closePath r n
  | 3 => s.openPath r n
  | 4 => if s.srcOn n || s.snkOn n then (s, some 3) else (s.discharge n, some 0)
  | 5 =>
    if r.w1 % 2 = 0 then (s.vconnOff n, some 0)
    else if s.vconnMay n then ((s.wr safe (SP_STATE_VCONN.nth n) 1).wr (pd n) PD_STATUS_VCONN 1, some 0)
    else (s, some 3)
  | 6 => (s.wr safe (SP_STATE_FRS.nth n) (r.w1 % 2), some 0)
  | 7 =>
    if !s.is safe (SP_STATE_TRIPPED.nth n) then (s, some 0)
    else if s.tripGone n then ((s.wr safe (SP_STATE_TRIPPED.nth n) 0).wrBit safe SF_STATUS_TRIPPED n false, some 0)
    else (s, some 3)
  | _ => s.setLimit r n

/-- A request for all ports: every attached port takes it, and the first status that is not OK is the answer; with no
port attached it is STATE. -/
def State.safeAll (s : State) (r : SafeReq) : State × Option Nat :=
  let ns := (List.range 6).filter fun n => s.rd safe (SP_ROLE.nth n) != 0
  if ns.isEmpty then (s, some 3)
  else ns.foldl (fun x n =>
    let y := x.1.safePort r n
    (y.1, if x.2 = some 0 then y.2 else x.2)) (s, some 0)

/-- PATCH (R369): the island changes over to a good patch, and discards a bad one. (log 78, DEDUCED) -/
def State.safePatch (s : State) (r : SafeReq) : State × Option Nat :=
  let busy := (List.range 6).any fun n => s.is safe (SP_STATE_TRANS.nth n) || s.is safe (SP_STATE_CLOSE_WAIT.nth n)
  if busy then (s, some 5)
  else if Config.patchOk r.w1 r.w2 r.w3 s.dram then
    let v := Config.patchVersion r.w1 r.w2 r.w3 s.dram
    let s := (s.wr safe SF_PATCH_HELD 1).wr safe SF_PATCH_HVER v
    ((s.wr safe SF_STATUS_PATCH_OK 1).wr safe SF_STATUS_PATCH_VER v, some 0)
  else (s, some 4)

/-- The island handles a request (R374). (log 77, DEDUCED; log 78, DEDUCED) -/
def State.safeServe (s : State) (r : SafeReq) : State :=
  if r.who = .host0 || r.who = .host1 then s.safeAnswer r 6
  else if r.cmd = 0 || 10 < r.cmd then s.safeAnswer r 4
  else if !safeAllowed r.cmd r.who then s.safeAnswer r 6
  else if r.cmd = 9 then (s.safeAnswer r 0).safetyReset 6
  else
    let x := if r.cmd = 10 then s.safePatch r
      else if !safePortOk r.cmd r.port then (s, some 4)
      else if r.port = 0xFF then s.safeAll r else s.safePort r r.port
    match x.2 with
    | some st => x.1.safeAnswer r st
    | none => x.1

/-- A request arrives (R374): during a safety reset it waits. An island without supply takes nothing. (log 77, DEDUCED) -/
def State.safeReq (s : State) (r : SafeReq) : State :=
  if s.gated safe then s
  else if s.is safe PG_STATUS_IN_RESET then { s with safeq := s.safeq ++ [r] }
  else s.safeServe r

/-- Does a request to the island wait (R380)? -/
def State.safeWaiting (s : State) : Bool := !s.safeq.isEmpty || !s.closers.isEmpty || s.is (mbch 15) MB_RESULT_BUSY

/-- The waiting requests are handled, oldest first (R375); one that starts another safety reset leaves the rest waiting. -/
def State.safeDrain : Nat → State → State
  | 0, s => s
  | fuel + 1, s => match s.safeq with
    | [] => s
    | r :: t => if s.is safe PG_STATUS_IN_RESET then s else State.safeDrain fuel ({ s with safeq := t }.safeServe r)

/-- The safety reset completes (R375). -/
def State.safetyDone (s : State) : State :=
  let s := (s.wr safe PG_STATUS_IN_RESET 0).loadImage
  let s := s.when (s.is safe SF_PATCH_HELD) fun s =>
    (s.wr safe SF_STATUS_PATCH_OK 1).wr safe SF_STATUS_PATCH_VER (s.rd safe SF_PATCH_HVER)
  let s := (s.wr safe SF_LAST_RST_CAUSE (s.rd safe SF_RST_CAUSE)).raise safe 11
  State.safeDrain s.safeq.length s

end Sys2Proof.Machine
end

