-- ==== Sys2Proof/Machine/MbxOps.lean ====
section
/-! DEFINITION. The mailboxes' shared operations (R442, R443 of spec/20_firmware_and_host_interface.md). -/

namespace Sys2Proof.Machine

open Reg

/-- The initiator with a code of PG_STATUS.DROP_SRC. -/
def codeInit (n : Nat) : Initiator :=
  match n with
  | 0 => .host0
  | 1 => .host1
  | 2 => .marionette
  | 3 => .smbus
  | 4 => .remote
  | 5 => .engineOwn
  | _ => .ngunov

/-- The host of a domain as initiator. -/
def domInit (d : Nat) : Initiator := codeInit d

/-- The words of a channel's request. (log 32, DEDUCED) -/
def State.mbReq (s : State) (c : Nat) : List Nat :=
  (List.range (s.rd (mbch c) MB_DOORBELL_LEN)).map fun i => s.rd (mbch c) (MB_REQ_DATA.nth i)

/-- The request to the Ngunov island in channel 15 (R374): word 0 holds CMD, PORT and TAG. (log 77, DEDUCED) -/
def State.mbSafe (s : State) (who : Initiator) : SafeReq :=
  let w := fun i => s.rd (mbch 15) (MB_REQ_DATA.nth i)
  ⟨who, w 0 / 2 ^ 24 % 256, w 0 / 2 ^ 16 % 256, w 0 % 65536, w 1, w 2, w 3, true⟩

/-- GO on a channel, with CMD, LEN and TAG (R443). A GO while BUSY or DONE is 1 is ignored and raises MB_PROTO. The island
serves channel 15 at all times. A host's request wakes the hub from D2 (R386). -/
def State.mbGo (s : State) (who : Initiator) (c cmd len tag : Nat) : State :=
  let p := mbch c
  if s.is p MB_RESULT_BUSY || s.is p MB_RESULT_DONE then (s.count mbx MB_CNT_PROTO).raise mbx 0
  else
    let s := ((s.wr p MB_DOORBELL_CMD cmd).wr p MB_DOORBELL_LEN len).wr p MB_DOORBELL_TAG tag
    let s := ((s.wr p MB_RESULT_BUSY 1).wr p MBC_ABORT 0).wr p MBC_WHO (initCode who)
    if c = 15 then (s.wr p MB_RESULT_TAKEN 1).safeReq (s.mbSafe who) else s

/-- ABORT on a channel (R443): before TAKEN the request is withdrawn; after it the command completes as ABORTED. -/
def State.mbAbort (s : State) (c : Nat) : State :=
  let p := mbch c
  if !s.is p MB_RESULT_BUSY then s
  else if s.is p MB_RESULT_TAKEN then s.wr p MBC_ABORT 1
  else s.mbDone c 4 0

/-- Moabeuc completes the request of a channel: response words, and a status that an ABORT replaces (R443). -/
def State.mbFinish (s : State) (c status : Nat) (ws : List Nat) : State :=
  let st := if s.is (mbch c) MBC_ABORT then 4 else status
  (s.mbWords c ws).mbDone c st ws.length

end Sys2Proof.Machine
end

