-- ==== Sys2Proof/Machine/UsbOps.lean ====
section
/-! DEFINITION. The USB hub's and the embedded device's shared operations (R302 to R318 of spec/13_usb_hub.md). -/

namespace Sys2Proof.Machine

open Reg

/-! ### Logical hubs and ports -/

/-- Is logical hub `d` presented (R304, R319)? -/
def State.hubOn (s : State) (d : Nat) : Bool :=
  s.works uhub && !(s.rd glb GLB_STRAP_ROLE = 1) && s.is uhub (if d = 0 then UH_CFG_H0_EN else UH_CFG_H1_EN)

/-- UP2_d as it acts: a tunnel port, or 15 (R304). -/
def State.up2 (s : State) (d : Nat) : Nat :=
  let v := s.rd uhub (if d = 0 then UH_CFG_UP2_0 else UH_CFG_UP2_1)
  if v ≤ 5 then v else 15

/-- The upstream state fields of a logical hub. -/
def upHs (d : Nat) : Field := if d = 0 then UH_STATUS_HS_0 else UH_STATUS_HS_1

/-- As `upHs`, for SuperSpeed. -/
def upSs (d : Nat) : Field := if d = 0 then UH_STATUS_SS_0 else UH_STATUS_SS_1

/-- HS_PIN of port `n` as it acts: a tunnel port that is an upstream is no downstream port (R303). (log 98, PRESUMED) -/
def State.hsPin (s : State) (n : Nat) : Bool := s.is uhub (UH_PORT_HS_PIN.nth n) && s.up2 0 != n && s.up2 1 != n

/-- Does logical hub `d` own USB 2.0 port `n + 1` (R302)? -/
def State.ownsHs (s : State) (d n : Nat) : Bool :=
  if s.hsPin n then s.rd uhub (UH_PORT_TDOM.nth n) = d
  else s.is uhub (UH_PORT_PRESENT.nth n) && s.rd uhub (UH_PORT_DOM.nth n) = d

/-- Does logical hub `d` own SuperSpeed port `n + 1`: UD_n, or the tunnel downstream port of TP_{n-6} (R302)? -/
def State.ownsSs (s : State) (d n : Nat) : Bool :=
  if n < 6 then s.is uhub (UH_PORT_PRESENT.nth n) && s.rd uhub (UH_PORT_DOM.nth n) = d
  else s.rd uhub (UH_PORT_TDOM.nth (n - 6)) = d

/-- The state field of SuperSpeed port `n + 1`. -/
def ssField (n : Nat) : Field := if n < 6 then UH_PORT_SS_STATE.nth n else UH_TSS_STATE.nth (n - 6)

/-- UDn_PWREN follows the port power that the owning host sets on UD_n (R306). -/
def State.pwren (s : State) (n : Nat) : State :=
  let on := s.is uhub (UH_PORT_SS_STATE.nth n) || (!s.hsPin n && s.is uhub (UH_PORT_HS_STATE.nth n))
  s.wr uhub (UH_PORT_PWR.nth n) (if on then 1 else 0)

/-- USB 2.0 port `n + 1` takes a state. -/
def State.setHs (s : State) (n st : Nat) : State := (s.wr uhub (UH_PORT_HS_STATE.nth n) st).pwren n

/-- SuperSpeed port `n + 1` takes a state. -/
def State.setSs (s : State) (n st : Nat) : State :=
  let s := s.wr uhub (ssField n) st
  s.when (decide (n < 6)) fun s => s.pwren n

/-- A change of a USB 2.0 port is reported to its host: bit 0 connection, bit 1 over-current. -/
def State.changeHs (s : State) (n b : Nat) : State := s.wrBit uhub (UH_CHG_HS.nth n) b true

/-- As `changeHs`, for a SuperSpeed port. -/
def State.changeSs (s : State) (n b : Nat) : State := s.wrBit uhub (UH_CHG_SS.nth n) b true

/-- The downstream ports of logical hub `d` take a state wherever something is attached: 2 and 7 are disabled, 0 powered
off (R305, R317). -/
def State.hubPorts (s : State) (d : Nat) (off : Bool) : State :=
  let s := (List.range 6).foldl (fun s n =>
    let st := s.rd uhub (UH_PORT_HS_STATE.nth n)
    s.when (s.ownsHs d n) fun s =>
      if off then s.setHs n 0 else if 3 ≤ st then s.setHs n 2 else s) s
  (List.range 12).foldl (fun s n =>
    let st := s.rd uhub (ssField n)
    s.when (s.ownsSs d n) fun s =>
      if off then s.setSs n 0 else if 2 ≤ st && st ≤ 6 then s.setSs n 7 else s) s

/-! ### The embedded device -/

/-- Is the embedded device attached and not suspended? -/
def State.embAwake (s : State) : Bool :=
  s.works uhub && 1 ≤ s.rd uhub UH_STATUS_EMB && s.rd uhub UH_STATUS_EMB ≤ 3

/-- Is audio halted by a Contain (R320)? -/
def State.audHalted (s : State) : Bool := s.is uhub PG_STATUS_CONTAINED

/-- A control transfer ends without effect, and is counted (R318). -/
def State.ctlAbort (s : State) : State := (s.count uhub MGMT_CTL_ABORT).raise uhub 5

/-- Is a request a control write? -/
def usbWrite (r : UsbReq) : Bool := match r with | .read => false | _ => true

/-- The embedded device after a bus reset, a warm reset or a disconnect (R317); a control write that waits is void
(R318). UH_AUD_CFG stays. -/
def State.embReset (s : State) (state : Nat) : State :=
  let s := match s.usb.ctl with
    | some x => s.when (usbWrite x.req) State.ctlAbort
    | none => s
  let s := { s with usb := Usb.empty }
  let s := s.clearFields uhub [UH_ADDR, UH_WAKE_RWE, UH_WAKE_PEND, UH_K_END, UH_HID_ALT, UH_AUD_STATUS_OUT_ALT,
    UH_AUD_STATUS_IN_ALT, UH_WANT_RATE, UH_WANT_OUT, UH_WANT_IN]
  s.wr uhub UH_STATUS_EMB state

/-- The buffers of every endpoint other than EP0 are emptied. -/
def State.epsClear (s : State) : State :=
  { s with usb := { s.usb with bufs := s.usb.bufs.keep fun k => k ≤ 1, play := [], cap := [], alts := [], ep1 := [] } }

/-- The 44.1 kHz family of a RATE code; 6 and 7 act as 1 (R311). -/
def rateFamily (r : Nat) : Nat := if 6 ≤ r then 1 else r % 2

/-- Moabeuc writes RATE and the channel counts that wait, and arms the page (R319). -/
def State.audArm (s : State) : State :=
  let want := s.is uhub UH_WANT_RATE || s.is uhub UH_WANT_OUT || s.is uhub UH_WANT_IN
  if !want || !s.moabeuc || s.is uhub PG_SHADOW_CTRL_ARMED then s
  else
    let s := s.when (s.is uhub UH_WANT_RATE) fun s => s.wr uhub UH_AUD_CFG_RATE (s.rd uhub UH_WANT_RATE - 1)
    let s := s.when (s.is uhub UH_WANT_OUT) fun s => s.wr uhub UH_AUD_CFG_OUT_CH (s.rd uhub UH_WANT_OUT)
    let s := s.when (s.is uhub UH_WANT_IN) fun s => s.wr uhub UH_AUD_CFG_IN_CH (s.rd uhub UH_WANT_IN)
    (s.clearFields uhub [UH_WANT_RATE, UH_WANT_OUT, UH_WANT_IN]).wr uhub PG_SHADOW_CTRL_ARMED 1

/-- A control request takes effect (R317, R318). -/
def State.ctlApply (s : State) (r : UsbReq) : State :=
  match r with
  | .read | .write => s
  | .setAddress a => (s.wr uhub UH_ADDR a).wr uhub UH_STATUS_EMB (if a = 0 then 1 else max 2 (s.rd uhub UH_STATUS_EMB))
  | .setConfig c =>
    if c = 0 then (s.epsClear.clearFields uhub [UH_AUD_STATUS_OUT_ALT, UH_AUD_STATUS_IN_ALT, UH_HID_ALT]).wr uhub UH_STATUS_EMB 2
    else s.wr uhub UH_STATUS_EMB 3
  | .setInterface i alt ch =>
    if i = 2 then s.wr uhub UH_HID_ALT alt
    else if i ≤ 1 then
      let s := { s with usb := { s.usb with alts := s.usb.alts.filter (fun a => a.1 != i) ++ [(i, alt)] } }
      if alt = 0 then s else (s.wr uhub (if i = 0 then UH_WANT_OUT else UH_WANT_IN) ch).audArm
    else s
  | .remoteWake on => s.wr uhub UH_WAKE_RWE (if on then 1 else 0)
  | .setRate r =>
    let s := s.wr uhub UH_WANT_RATE (r % 8 + 1)
    let s := s.when (rateFamily (r % 8) != rateFamily (s.rdA uhub UH_AUD_CFG_RATE)) fun s => s.setInt uhub 12
    s.audArm

/-- The status stage of the control transfer under way succeeds (R318): a write whose data stage is complete takes
effect. -/
def State.statusStage (s : State) : State :=
  match s.usb.ctl with
  | some x =>
    if x.left = 0 then ({ s with usb := { s.usb with ctl := none } }).ctlApply x.req else s
  | none => s

/-- A SETUP token arrives (R318): a write whose status stage it stands for is applied first; one in the middle of its
data stage is abandoned and counted. (log 99, DEDUCED) -/
def State.usbSetup (s : State) (r : UsbReq) (len : Nat) : State :=
  let s := match s.usb.ctl with
    | some x => if x.left = 0 then s.statusStage else s.ctlAbort
    | none => s
  { s with usb := { s.usb with
      ctl := some ⟨r, len⟩
      bufs := s.usb.bufs.keep fun k => 2 ≤ k } }

/-! ### Management on EP1 -/

/-- The words of some bytes, each least significant byte first. -/
def leWords : List Byte → List Nat
  | a :: b :: c :: d :: t => (a.toNat + b.toNat * 2 ^ 8 + c.toNat * 2 ^ 16 + d.toNat * 2 ^ 24) :: leWords t
  | _ => []

/-- A whole transfer on EP1 (R442): the doorbell word and LEN request words go to the channel of the device's domain.
One of another form is discarded. (log 99, DEDUCED) -/
def State.ep1Request (s : State) (ws : List Nat) : State :=
  let d := s.rd uhub UH_CFG_EMB_DOM
  let p := mbch d
  match ws with
  | [] => s
  | w :: t =>
    let len := w / 256 % 256
    if t.length != len then s
    else if w / 2 ^ 31 = 1 then
      let busy := s.is p MB_RESULT_BUSY || s.is p MB_RESULT_DONE
      let s := s.when (!busy) fun s =>
        ((List.range len).foldl (fun s i => s.wr p (MB_REQ_DATA.nth i) (t.getD i 0)) s).wr p MBC_USB 1
      (s.mbGo (domInit d) d (w / 65536 % 256) len (w % 256)).hostWake s.ps (domInit d)
    else s.when (w / 2 ^ 30 % 2 = 1) fun s => s.mbAbort d

/-- Moabeuc serves the OUT endpoints that are not audio (R310): packets of EP0, EP6 and EP7 are taken, and those of EP1
form transfers, each ended by a short packet or complete with LEN words. (log 99, DEDUCED) -/
def State.usbServe (s : State) : State :=
  if !s.moabeuc then s
  else
    let l := s.usb.bufs.list 2
    let s := { s with usb := { s.usb with bufs := s.usb.bufs.keep fun k => !(k = 0 || k = 2 || k = 10 || k = 11) } }
    l.foldl (fun s b =>
      let all := s.usb.ep1 ++ b
      let need := match leWords all with
        | w :: _ => 4 + 4 * (w / 256 % 256)
        | [] => 4
      if b.length < 512 || need ≤ all.length then
        ({ s with usb := { s.usb with ep1 := [] } }).ep1Request (leWords all)
      else { s with usb := { s.usb with ep1 := all } }) s

/-! ### Endpoints -/

/-- The row of an OUT endpoint in R309. -/
def outRow (ep : Nat) : Option Nat :=
  match ep with
  | 0 => some 0 | 1 => some 2 | 3 => some 5 | 6 => some 10 | 7 => some 11 | _ => none

/-- The row of an IN endpoint. -/
def inRow (ep : Nat) : Option Nat :=
  match ep with
  | 0 => some 1 | 1 => some 3 | 2 => some 4 | 3 => some 6 | 4 => some 7 | 5 => some 8 | 6 => some 9 | 7 => some 12 | _ => none

/-- Is the endpoint of a row presented and enabled by the current configuration? -/
def State.epOn (s : State) (k : Nat) : Bool := k ≤ 1 || s.rd uhub UH_STATUS_EMB = 3

/-- A playback packet arrives (R310, R313). -/
def State.playIn (s : State) (ok : Bool) (bs : List Byte) : State :=
  if !s.is uhub UH_AUD_STATUS_OUT_ALT || s.audHalted then s
  else if !ok then (s.count uhub UH_CNT_ISO_DROP).raise uhub 2
  else if !s.epRoom 5 bs.length then (s.count uhub UH_CNT_AUD_OVER).raise uhub 4
  else { s with usb := { s.usb with play := s.usb.play ++ [(s.rd uhub UH_MF, bs)] } }

/-- An OUT packet arrives (R310). One that is not isochronous and has a bad CRC gets no answer. -/
def State.usbOut (s : State) (ep : Nat) (ok : Bool) (bs : List Byte) : State :=
  match outRow ep with
  | none => s
  | some k =>
    if !s.embAwake || !s.epOn k then s
    else if k = 5 then s.playIn ok bs
    else if !ok then s
    else if !s.epRoom k (epMax k) then s.send (.usbHandshake ep false false)
    else
      let s := s.send (.usbHandshake ep false true)
      let s := match k, s.usb.ctl with
        | 0, some x => { s with usb := { s.usb with ctl := some ⟨x.req, x.left - bs.length⟩ } }
        | _, _ => s
      (s.usbPush k bs).usbServe

/-- `n` free bytes. -/
def freeBytes : Nat → State → State × List Byte
  | 0, s => (s, [])
  | n + 1, s =>
    let r := freeBytes n s.tookFree
    (r.1, BitVec.ofNat 8 s.freeNat :: r.2)

/-- An IN token of EP0: the data stage of a control read, whose content Moabeuc supplies, or the zero-length status packet
of a control write (R318). (log 99, DEDUCED) -/
def State.ep0In (s : State) (acked : Bool) : State :=
  match s.usb.ctl with
  | none => s.send (.usbHandshake 0 true false)
  | some x =>
    if usbWrite x.req then
      if x.left = 0 then (s.send (.usbData 0 [])).when acked State.statusStage
      else s.send (.usbHandshake 0 true false)
    else
      let n := min 64 x.left
      let r := freeBytes n s
      (r.1.send (.usbData 0 r.2)).when acked fun s =>
        { s with usb := { s.usb with ctl := some ⟨x.req, x.left - n⟩ } }

/-- An IN token arrives, and whether the host acknowledges what it gets (R310). -/
def State.usbIn (s : State) (ep : Nat) (acked : Bool) : State :=
  match inRow ep with
  | none => s
  | some k =>
    if !s.embAwake || !s.epOn k then s
    else if k = 1 then s.ep0In acked
    else if k = 6 then
      if !s.is uhub UH_AUD_STATUS_OUT_ALT then s
      else s.send (.usbData 3 (if s.audHalted then [] else leBytes 4 (s.rd uhub UH_FB_FB)))
    else if k = 7 then
      if !s.is uhub UH_AUD_STATUS_IN_ALT then s
      else if s.audHalted then s.send (.usbData 4 [])
      else
        let due := fun (e : Nat × List Byte) => e.1 + 2 = s.rd uhub UH_MF
        let bs := (s.usb.cap.filter due).flatMap fun e => e.2
        { s with usb := { s.usb with cap := s.usb.cap.filter fun e => !due e } }.send (.usbData 4 bs)
    else match s.usb.bufs.list k with
    | [] => s.send (.usbHandshake ep true false)
    | b :: t =>
      let s := (s.send (.usbData ep b)).when acked fun s =>
        { s with usb := { s.usb with bufs := s.usb.bufs.setList k t } }
      s.when (k = 4 && acked) fun s => s.releaseMsix (s.rd uhub UH_CFG_EMB_DOM % 2)

/-! ### Microframes and samples -/

/-- UH_AUD_CFG is applied (R312): both audio buffers are emptied. -/
def State.audApply (s : State) : State :=
  let s := (s.applyFields uhub (shFields uhub)).appliedPage uhub
  ({ s with usb := { s.usb with play := [], cap := [] } }).audArm

/-- A new alternate setting of an audio interface is applied (R312). -/
def State.altApply (s : State) (i alt : Nat) : State :=
  let s := s.wr uhub (if i = 0 then UH_AUD_STATUS_OUT_ALT else UH_AUD_STATUS_IN_ALT) (min alt 1)
  s.setInt uhub 11

/-- A microframe starts (R312, R313): an armed page and new alternate settings are applied, and a captured packet that
was not asked for in its microframe is gone. -/
def State.microframe (s : State) : State :=
  let s := s.wr uhub UH_MF (s.rd uhub UH_MF + 1)
  let s := s.when (s.is uhub PG_SHADOW_CTRL_ARMED) State.audApply
  let l := s.usb.alts
  let s := l.foldl (fun s a => s.altApply a.1 a.2) { s with usb := { s.usb with alts := [] } }
  let mf := s.rd uhub UH_MF
  { s with usb := { s.usb with cap := s.usb.cap.filter fun e => mf ≤ e.1 + 2 } }

/-- FB_P as it acts (R314). -/
def State.fbP (s : State) : Nat := clamp 3 13 (s.rdA uhub UH_AUD_CFG_FB_P)

/-- The feedback value for a count of MCLK cycles (R314). -/
def State.feedback (s : State) (count : Nat) : Nat :=
  let c := if s.rdA uhub UH_AUD_CFG_MCLK_X2 = 1 then count / 2 else count
  c * 65536 / (256 * 2 ^ s.fbP)

/-- OUT_CH as it acts (R319). -/
def State.outCh (s : State) : Nat :=
  let v := s.rdA uhub UH_AUD_CFG_OUT_CH
  if v = 2 || v = 4 || v = 6 then v else 8

/-- IN_CH as it acts. -/
def State.inCh (s : State) : Nat := if s.rdA uhub UH_AUD_CFG_IN_CH = 2 then 2 else 4

/-- Take `n` bytes of playback data that arrived in microframe `mf` or before; what is left. -/
def takePlay : Nat → Nat → List (Nat × List Byte) → List Byte × List (Nat × List Byte)
  | _, _, [] => ([], [])
  | mf, n, (k, b) :: t =>
    if mf < k || n = 0 then ([], (k, b) :: t)
    else if n < b.length then (b.take n, (k, b.drop n) :: t)
    else
      let r := takePlay mf (n - b.length) t
      (b ++ r.1, r.2)

/-- A sample frame falls due on the audio interfaces (R311 to R313): playback sends a frame received two microframes
before, or zeros; capture stores the samples that came in. (log 99, DEDUCED) -/
def State.sampleFrame (s : State) (ins : List Byte) : State :=
  let n := 4 * s.outCh
  let zeros := List.replicate n (0 : Byte)
  let live := s.works uhub && s.is uhub UH_AUD_STATUS_MCLK_OK && !s.audHalted
  let s := if !(live && s.is uhub UH_AUD_STATUS_OUT_ALT) then s.send (.i2s zeros)
    else
      let mf := s.rd uhub UH_MF
      let r := takePlay (mf - 2) n s.usb.play
      if mf < 2 || r.1.length < n then ((s.send (.i2s zeros)).count uhub UH_CNT_AUD_UNDER).raise uhub 3
      else
        let out := if s.rdA uhub UH_AUD_CFG_MUTE_OUT = 1 then zeros else r.1
        ({ s with usb := { s.usb with play := r.2 } }).send (.i2s out)
  let b := ins.take (4 * s.inCh)
  if live && s.is uhub UH_AUD_STATUS_IN_ALT && b.length = 4 * s.inCh && s.epRoom 7 b.length then
    { s with usb := { s.usb with cap := s.usb.cap ++ [(s.rd uhub UH_MF, b)] } }
  else s

/-! ### Upstreams -/

/-- The state that the SuperSpeed upstream of logical hub `d` takes when the hub is offered (R304). (log 98, PRESUMED) -/
def State.ssStart (s : State) (d : Nat) : Nat :=
  if s.src3 d = 0 then 0
  else if s.src3 d = 2 then 2
  else
    let up := s.entries.any fun k => s.rd (path k) PT_W0_STATE = 1 && !s.is (path k) PT_W0_DOWN &&
      s.rd (path k) PT_W0_IN_PORT = 0x14 && s.rd (path k) PT_W0_IN_PATH_ID = s.rd uhub (UH_TUN_TX_HANDLE.nth d)
    if up then 2 else 1

/-- The upstreams of logical hub `d` are offered to its host, and the embedded device with it. -/
def State.hubOffer (s : State) (d : Nat) : State :=
  let on := s.hubOn d
  let s := s.wr uhub (upSs d) (if on then s.ssStart d else 0)
  let s := s.wr uhub (upHs d) (if on && s.up2 d != 15 then 1 else 0)
  s.when (s.rd uhub UH_CFG_EMB_DOM = d) fun s =>
    s.wr uhub UH_STATUS_EMB (if on && s.up2 d != 15 && s.is uhub UH_CFG_EMB_EN then 1 else 0)

/-- Logical hub `d` is disconnected from its host, and connects again where it is presented (R305). (log 98, PRESUMED) -/
def State.hubReconnect (s : State) (d : Nat) : State :=
  let s := s.hubPorts d true
  let s := s.when (s.rd uhub UH_CFG_EMB_DOM = d) fun s => s.embReset 0
  (s.wr uhub (UH_DOWN_WAKE.nth d) 0).hubOffer d

/-- A reset of an upstream of logical hub `d` (R317). (log 97, DEDUCED) -/
def State.hubReset (s : State) (d : Nat) (ss : Bool) : State :=
  let s := (s.hubPorts d false).wr uhub (UH_DOWN_WAKE.nth d) 0
  let s := if ss then s.wr uhub (upSs d) 2 else s.wr uhub (upHs d) 1
  let s := s.when (s.rd uhub UH_CFG_EMB_DOM = d && s.is uhub UH_STATUS_EMB) fun s => s.embReset 1
  s.setInt uhub 8

/-- Port `n` of UD_n, or tunnel port `n - 6`, changes its owner (R305): it is disconnected in the logical hub that loses
it, and its power stays off for PWR_GOOD. (log 98, PRESUMED) -/
def State.portMove (s : State) (n : Nat) (hs ss : Bool) : State :=
  let s := s.when ss fun s => (s.setSs n 0).wr uhub (UH_CHG_SS.nth n) 0
  let s := s.when hs fun s => (s.setHs (n % 6) 0).wr uhub (UH_CHG_HS.nth (n % 6)) 0
  (s.wr uhub (UH_PORT_OC.nth (n % 6)) 0).wr uhub (UH_OFF_UNTIL.nth n) (s.clock + s.rd uhub UH_PORT_CFG_PWR_GOOD * 2000000)

/-- The handle of a domain's USB3 tunnel path at its ingress or egress end. -/
def tunHandle (d : Nat) (out : Bool) : Field := if out then UH_TUN_RX_HANDLE.nth d else UH_TUN_TX_HANDLE.nth d

/-- Is a path ID a handle of a domain's USB3 tunnel path? -/
def State.isUsbTun (s : State) (id : Nat) (out : Bool) : Bool :=
  s.src3 0 = 1 && s.rd uhub (tunHandle 0 out) = id || s.src3 1 = 1 && s.rd uhub (tunHandle 1 out) = id

/-- The USB3 tunnel path of a domain is declared down (R158): that logical hub's SuperSpeed upstream is lost. -/
def State.usbDown (s : State) (id : Nat) (out : Bool) : State :=
  (List.range 2).foldl (fun s d =>
    s.when (s.rd uhub (tunHandle d out) = id && s.src3 d = 1 && 2 ≤ s.rd uhub (upSs d)) fun s => s.wr uhub (upSs d) 1) s

/-! ### Suspend and wake -/

/-- A wake of the embedded device is requested (R315). -/
def State.wakeReq (s : State) : State :=
  let d := s.rd uhub UH_CFG_EMB_DOM
  s.when (s.works uhub && s.rd uhub UH_STATUS_EMB = 4 && s.is uhub UH_WAKE_RWE && s.rd uhub (upHs d) != 3) fun s =>
    s.wr uhub UH_WAKE_PEND 1

/-- A host resume and a pending wake have met (R316). (log 97, DEDUCED) -/
def State.wakeMerged (s : State) : State := (s.count uhub UH_CNT_WAKE_MERGED).raise uhub 6

/-- The host of domain `d` resumes its USB 2.0 upstream, up to the end of its resume (R315, R316). (log 97, DEDUCED) -/
def State.resumeHs (s : State) (d : Nat) : State :=
  if !(s.rd uhub (upHs d) = 2 || s.rd uhub (upHs d) = 3) then s
  else
    let emb := s.rd uhub UH_CFG_EMB_DOM = d && s.is uhub UH_WAKE_PEND &&
      (!s.is uhub UH_K_END || s.clock + 1 < s.rd uhub UH_K_END)
    let down := s.is uhub (UH_DOWN_WAKE.nth d) && s.src3 d = 0
    let s := s.when (emb || down) State.wakeMerged
    let s := (s.wr uhub (upHs d) 1).when (s.src3 d = 0) fun s => s.wr uhub (UH_DOWN_WAKE.nth d) 0
    let s := s.when (s.rd uhub UH_CFG_EMB_DOM = d) fun s =>
      let s := (s.wr uhub UH_WAKE_PEND 0).wr uhub UH_K_END 0
      s.when (s.rd uhub UH_STATUS_EMB = 4) fun s => s.wr uhub UH_STATUS_EMB (s.rd uhub UH_EMB_PREV)
    s.setInt uhub 10

/-- The host of domain `d` takes its SuperSpeed upstream out of U3 (R316). (log 97, DEDUCED) -/
def State.resumeSs (s : State) (d : Nat) : State :=
  if s.rd uhub (upSs d) != 5 then s
  else
    let s := s.when (s.is uhub (UH_DOWN_WAKE.nth d)) State.wakeMerged
    ((s.wr uhub (upSs d) 2).wr uhub (UH_DOWN_WAKE.nth d) 0).setInt uhub 10

end Sys2Proof.Machine
end

