-- ==== Sys2Proof/Machine/Edge.lean ====
section
/-! DEFINITION. What each edge block does when one of its paths is declared down (R158), and when its stream runs short (R225). -/

namespace Sys2Proof.Machine

open Reg

/-- The USB3 tunnel path of a domain, or the tunnel downstream port `far`, is lost (R158). -/
def State.uhubDown (s : State) (id far : Nat) (out : Bool) : State :=
  if s.isUsbTun id out then s.usbDown id out
  else s.when (far ≤ 5 && s.is uhub (ssField (far + 6))) fun s => (s.setSs (far + 6) 1).changeSs (far + 6) 0

/-- The edge block at one end of a path acts on its loss (R158); `id` is the path ID there, `far` the port code of the
other end, and `out` says that it is the egress end. (log 21, DEDUCED) -/
def State.endDown (s : State) (code id far : Nat) (out : Bool) : State :=
  if 8 ≤ code && code ≤ 0x0F then s.pcaDown (code - 8)
  else if 0x10 ≤ code && code ≤ 0x13 && out then s.dispDown (code - 0x10) id
  else if code = 0x14 then s.uhubDown id far out
  else if code = 0x15 || code = 0x16 then s.ethDown (code - 0x15)
  else s

/-- The edge blocks at the ends of entry `k` act on its loss (R158). (log 21, DEDUCED) -/
def State.edgeDown (s : State) (k : Nat) : State :=
  let i := s.rd (path k) PT_W0_IN_PORT
  let o := s.rd (path k) PT_W1_OUT_PORT
  (s.endDown i (s.rd (path k) PT_W0_IN_PATH_ID) o false).endDown o (s.rd (path k) PT_W1_OUT_PATH_ID) i true

end Sys2Proof.Machine
end

