-- ==== Sys2Proof/Machine/CtrlOps.lean ====
section
/-! DEFINITION. Control packets by hub ID (R141 to R146), port events (R143), declaring paths down (R156 to R158), and the link reset (R114). -/

namespace Sys2Proof.Machine

open Reg

/-! ### Events for Uhlok -/

/-- A word of four bytes, the first the most significant. -/
def beWords : List Byte → List Nat
  | a :: b :: c :: d :: t => (a.toNat * 2 ^ 24 + b.toNat * 2 ^ 16 + c.toNat * 2 ^ 8 + d.toNat) :: beWords t
  | _ => []

/-- A control packet as a whole CTRL packet (R87), in words. -/
def ctrlWords (c : Ctrl) : List Nat :=
  beWords (header ⟨0, false, 4 * c.words.length, 0, .ctrl c⟩ none) ++ c.words

/-- A control packet for Uhlok of a domain enters the event FIFO of its channel, which holds 64 packets; at a full FIFO
it is discarded (R141, R444). The first word of a packet is its length in words. (log 53, DEDUCED) -/
def State.event (s : State) (d : Nat) (c : Ctrl) : State :=
  let ch := 4 + d
  let l := s.events.list ch
  if 64 ≤ l.length then (s.wr (mbch ch) MB_EVT_STS_OVF 1).raise mbx 5
  else
    let w := ctrlWords c
    (({ s with events := s.events.setList ch (l ++ [w.length :: w]) }).wr (mbch ch) MB_EVT_STS_COUNT (l.length + 1)).setInt
      (mbch ch) 9

/-! ### Identity -/

/-- GLB_CHIP_ID: the part number; the variant and the stepping are fused. -/
def State.chipId (s : State) : Nat :=
  s.rd glb GLB_CHIP_ID_PART_NUM * 65536 + (1 + Config.variant % 2) * 256 + Config.stepping % 256

/-! ### Hub IDs and forwarding -/

/-- This hub's ID in a slot; 0 while the slot is not bound (R141). -/
def State.hubId (s : State) (d : Nat) : Nat :=
  if s.is pathctl (PC_DOM_BOUND.nth d) then s.rd pathctl (PC_DOM_HUB_ID.nth d) else 0

/-- Is a slot bound? -/
def State.bound (s : State) (d : Nat) : Bool := s.is pathctl (PC_DOM_BOUND.nth d)

/-- The control forwarding table of a slot: the lowest valid entry that names the hub (R163). -/
def State.forwardTo (s : State) (d hub : Nat) : Option Nat :=
  let v := if d = 0 then CFT_0_VALID else CFT_1_VALID
  let p := if d = 0 then CFT_0_PORT else CFT_1_PORT
  let h := if d = 0 then CFT_0_HUB_ID else CFT_1_HUB_ID
  ((List.range 256).find? fun i => s.is pathctl (v.nth i) && s.rd pathctl (p.nth i) ≤ 5 &&
    s.rd pathctl (h.nth i) = hub).map fun i => s.rd pathctl (p.nth i)

/-- The port for a destination: its forwarding entry, or UP_PORT (R144). -/
def State.portFor (s : State) (d hub : Nat) : Nat :=
  (s.forwardTo d hub).getD (s.rd pathctl (PC_ROOT_UP_PORT.nth d))

/-- The broadcast mask of a slot (R163). -/
def State.bcast (s : State) (d : Nat) : Nat :=
  if d = 0 then s.rd pathctl PC_BCAST_MASK_0 else s.rd pathctl PC_BCAST_MASK_1

/-- Can control packets leave by a port: a Kloyr link that is up (R125)? -/
def State.ctrlPort (s : State) (port : Nat) : Bool := port ≤ 5 && s.kloyr port && s.linkUp port

/-- Send one of this hub's own control packets out of one tunnel port, from the management endpoint. -/
def State.ctrlOut (s : State) (port : Nat) (c : Ctrl) : State :=
  if s.ctrlPort port then s.enterCtrl 0x17 port 0 c else s

/-- Send one of this hub's own control packets to its destination. At the root hub, what is addressed to the hub itself
or goes to port 0x17 is for Uhlok (R141). A slot without a hub ID sends by the port of its last packet (R145). -/
def State.ctrlSend (s : State) (c : Ctrl) : State :=
  if c.dest = 0xFFFF then
    (List.range 6).foldl (fun s p => s.when ((s.bcast c.dom).testBit p) fun s => s.ctrlOut p c) s
  else if s.hubId c.dom = 0 then
    let p := s.rd pathctl (PC_LAST_CTRL.nth c.dom)
    if p = 0x17 then s.event c.dom c else s.ctrlOut p c
  else
    let p := s.portFor c.dom c.dest
    if c.dest = s.hubId c.dom || p = 0x17 then s.event c.dom c else s.ctrlOut p c

/-- A response for Uhlok completes its recorded request, and is discarded where there is none (R146): of several expected
responses the request ends with the last, and one with no known number stays open. (log 53, DEDUCED) -/
def State.settle (s : State) (c : Ctrl) : State :=
  match s.reqs.find? fun r => r.dom = c.dom && r.tag = c.tag && r.cop = c.cop && r.use = 0 with
  | none => s
  | some r =>
    let rest := if r.expect = 0 then s.reqs
      else if r.expect = 1 then s.reqs.erase r
      else s.reqs.map fun x => if x = r then { r with expect := r.expect - 1 } else x
    { s with reqs := rest }.event c.dom c

/-- Answer a request (R142, R145): to its SRC_HUB, under its TAG. `inPort` is where it arrived. -/
def State.answer (s : State) (inPort : Nat) (c : Ctrl) (status : Nat) (words : List Nat) : State :=
  let r : Ctrl := ⟨c.src, s.hubId c.dom, c.cop, 255, true, c.dom, status, c.tag, words⟩
  if inPort = 0x17 then s.settle r
  else if s.hubId c.dom = 0 || c.src = 0 then s.ctrlOut inPort r
  else s.ctrlSend r

/-- Record a refusal (R163). -/
def State.refuse (s : State) (inPort : Nat) (c : Ctrl) (status : Nat) (words : List Nat) : State :=
  let s := ((((s.wr pathctl PC_LAST_REFUSE_VALID 1).wr pathctl PC_LAST_REFUSE_DOM c.dom).wr pathctl
    PC_LAST_REFUSE_CODE status).wr pathctl PC_LAST_REFUSE_COP c.cop).wr pathctl PC_LAST_REFUSE_SRC_HUB c.src
  s.answer inPort c status words

/-- Hand a control packet that arrived to this hub: it crosses the fabric to the management endpoint (R8, R170). (log 53, DEDUCED) -/
def State.ctrlDeliver (s : State) (inPort icost : Nat) (c : Ctrl) : State := s.enterCtrl inPort 0x17 icost c

/-- A control packet's buffer is freed at once: it is discarded at ingress (R98). -/
def State.ctrlFree (s : State) (inPort icost : Nat) : State :=
  s.freeBuf ⟨0, 8192, inPort, 0, 0, 0, icost, 0, 0, 0, ⟨0, false, 0, 0, .data 0 0 0 []⟩⟩

/-- Steps 3 to 6 of R144: decrement TTL, send a broadcast on, or forward by hub ID. `kept` says that the packet was
delivered here; `icost` is what its ingress buffer still holds. -/
def State.ctrlForward (s : State) (inPort icost : Nat) (kept : Bool) (c : Ctrl) : State :=
  let c := { c with ttl := c.ttl - 1 }
  if c.ttl = 0 then
    let s := s.when (!kept) fun s => s.count pathctl PC_CNT_TTL
    s.ctrlFree inPort icost
  else if c.dest = 0xFFFF then
    let ps := (List.range 6).filter fun p => (s.bcast c.dom).testBit p && p != inPort && s.ctrlPort p
    ps.foldl (fun s p => s.enterCtrl inPort p 0 c) (s.ctrlFree inPort icost)
  else
    let p := s.portFor c.dom c.dest
    if p = inPort || !s.ctrlPort p then
      let s := s.ctrlFree inPort icost
      if c.rsp then s
      else if p = 0x17 && 5 < inPort then s.event c.dom c
      else s.answer inPort c 10 []
    else s.enterCtrl inPort p icost c

/-- Deliver or forward a control packet (R144, R145, R160). -/
def State.ctrlArrive (s : State) (inPort icost : Nat) (c : Ctrl) : State :=
  let own := s.hubId c.dom
  if inPort ≤ 5 && s.is pathctl (PC_REFUSED.nth inPort) then
    if c.rsp then s.ctrlFree inPort icost
    else if c.cop = 1 || c.cop = 2 || c.cop = 3 then s.ctrlDeliver inPort icost c
    else (s.ctrlFree inPort icost).refuse inPort c 6 []
  else if own = 0 then
    let s := s.wr pathctl (PC_LAST_CTRL.nth c.dom) inPort
    if c.dest = 0 || c.dest = 0xFFFF then s.ctrlDeliver inPort icost c else s.ctrlForward inPort icost false c
  else if c.dest = 0 then s.ctrlFree inPort icost
  else if c.dest = own then s.ctrlDeliver inPort icost c
  else if c.dest = 0xFFFF then (s.ctrlDeliver inPort icost c).ctrlForward inPort 0 true c
  else s.ctrlForward inPort icost false c

/-- Send PORT_EVENT to the root hub of every bound domain (R143): event 1 up, 2 down, 3 mode change. -/
def State.portEvent (s : State) (port event : Nat) : State :=
  let w := s.mode port * 256 + event * 16 + port
  (List.range 2).foldl (fun s d =>
    s.when (s.bound d) fun s =>
      s.ctrlSend ⟨s.rd pathctl (PC_ROOT_ROOT_ID.nth d), s.hubId d, 5, 255, false, d, 0, 0, [w]⟩) s

/-! ### Paths down -/

/-- Two path IDs per word, the first in the upper half (R157). -/
def idWords : List Nat → List Nat
  | [] => []
  | [a] => [a * 65536]
  | a :: b :: t => (a * 65536 + b) :: idWords t

/-- The PATH_DOWN packets for some IDs of one slot, at most 118 IDs each (R157). -/
def downPackets (dom src side reason : Nat) : Nat → List Nat → List Ctrl
  | 0, _ => []
  | fuel + 1, ids =>
    if ids.isEmpty then []
    else
      let now := ids.take 118
      ⟨0xFFFF, src, 0x12, 1, false, dom, 0, 0, (side * 2 ^ 31 + reason * 65536 + now.length) :: idWords now⟩ ::
        downPackets dom src side reason fuel (ids.drop 118)

/-- The neighbours that the loss of an entry's ingress reaches: port and path ID of its tunnel-port egresses. -/
def State.outEnds (s : State) (k : Nat) : List (Nat × Nat) :=
  let p := path k
  if s.is p PT_W1_MC_EN then
    (s.members (s.rd p PT_W1_MC_GROUP)).filterMap fun m => if m.2.1 ≤ 5 then some (m.2.1, m.2.2) else none
  else if s.rd p PT_W1_OUT_PORT ≤ 5 then [(s.rd p PT_W1_OUT_PORT, s.rd p PT_W1_OUT_PATH_ID)] else []

/-- The neighbour that the loss of an entry's egress reaches: port and path ID of its tunnel-port ingress. -/
def State.inEnds (s : State) (k : Nat) : List (Nat × Nat) :=
  if s.rd (path k) PT_W0_IN_PORT ≤ 5 then [(s.rd (path k) PT_W0_IN_PORT, s.rd (path k) PT_W0_IN_PATH_ID)] else []

/-- Send PATH_DOWN about some entries to each neighbour (R157): with side 0 past their egress ends, with side 1 past
their ingress ends; the slots in separate packets. -/
def State.notify (s : State) (ks : List Nat) (side reason : Nat) : State :=
  (List.range 2).foldl (fun s d =>
    (List.range 6).foldl (fun s port =>
      let mine := ks.filter fun k => s.rd (path k) PT_W0_DOM = d
      let ids := mine.flatMap fun k => ((if side = 0 then s.outEnds k else s.inEnds k).filter fun e => e.1 = port).map fun e => e.2
      (downPackets d (s.hubId d) side reason (ids.length + 1) ids).foldl (fun s c => s.ctrlOut port c) s) s) s

/-- Mark entries DOWN, record the event and raise PATH_DOWN (R156); the edge blocks act (R158). (log 54, DESIGN CHOICE) -/
def State.markDown (s : State) (ks : List Nat) (port reason : Nat) : State :=
  if ks.isEmpty then s
  else
    let s := ks.foldl (fun s k => s.wr (path k) PT_W0_DOWN 1) s
    let s := (((s.wr pathctl PC_LAST_DOWN_VALID 1).wr pathctl PC_LAST_DOWN_REASON reason).wr pathctl
      PC_LAST_DOWN_PORT port).wr pathctl PC_LAST_DOWN_COUNT (min ks.length 16383)
    (ks.foldl State.edgeDown s).raise pathctl 8

/-- Is an entry carrying and not yet DOWN? -/
def State.carries (s : State) (k : Nat) : Bool :=
  (s.rd (path k) PT_W0_STATE = 1 || s.rd (path k) PT_W0_STATE = 3) && !s.is (path k) PT_W0_DOWN

/-- Declare the paths of a lost port or block down (R156): reason 0 link down, 1 adapter halted, 2 replay rollover. (log 54, DESIGN CHOICE) -/
def State.declareDown (s : State) (code reason : Nat) : State :=
  let live := s.entries.filter s.carries
  let lostIn := live.filter fun k => s.rd (path k) PT_W0_IN_PORT = code
  let lostOut := live.filter fun k => s.rd (path k) PT_W1_OUT_PORT = code
  let all := live.filter fun k => s.rd (path k) PT_W0_IN_PORT = code || s.rd (path k) PT_W1_OUT_PORT = code
  ((s.markDown all code reason).notify lostIn 0 reason).notify lostOut 1 reason

/-- The applied group members on a port whose path IDs are listed are declared down (R185). -/
def State.markMembers (s : State) (port : Nat) (ids : List Nat) : State :=
  let gs := (s.mcAct.map fun e => e.1 / 64).eraseDups
  gs.foldl (fun s g => (s.members g).foldl (fun s m =>
    s.when (m.2.1 = port && ids.contains m.2.2) fun s => s.wr sw (SW_MC_DOWN.nth (20 * g + m.1)) 1) s) s

/-- Handle a PATH_DOWN from a neighbour (R156, R157): mark the listed entries of its slot and pass the notice on. -/
def State.pathDownRx (s : State) (port : Nat) (c : Ctrl) : State :=
  let w0 := c.words.headD 0
  let side := w0 / 2 ^ 31 % 2
  let reason := w0 / 65536 % 256
  let ids := ((c.words.tail.flatMap fun w => [w / 65536 % 65536, w % 65536])).take (w0 % 65536)
  let ks := s.entries.filter fun k => s.carries k && s.rd (path k) PT_W0_DOM = c.dom &&
    if side = 0 then s.rd (path k) PT_W0_IN_PORT = port && ids.contains (s.rd (path k) PT_W0_IN_PATH_ID)
    else s.rd (path k) PT_W1_OUT_PORT = port && ids.contains (s.rd (path k) PT_W1_OUT_PATH_ID)
  ((s.markDown ks port reason).notify ks side reason).when (side = 1) fun s => s.markMembers port ids

/-! ### Link reset -/

/-- Packets that arrived by a link keep nothing in its buffer after its reset. -/
def QPkt.forget (port : Nat) (q : QPkt) : QPkt := if q.inPort = port then { q with icost := 0 } else q

/-- The link layer returns to its initial state (R114, R396): the replay buffer is discarded and counted, the Link state
class of the port's LINK and LANE pages is reset but for the state the lanes have gone to, a margin run is aborted
(R77), an arm of LK_SET or LK_PAIR is disarmed without applying (R106), and LINK_DOWN is raised. -/
def State.linkReset (s : State) (port : Nat) : State :=
  let l := link port
  let s := (s.sat (linkCnt port) LK_CNT_REPLAY_DISCARD (s.replay.list port).length).raise l 9
  let s := s.when (s.is l PG_SHADOW_CTRL_ARMED) fun s => (s.wr l PG_SHADOW_CTRL_ARMED 0).raise l 2
  let s := s.wr l LK_PAIR_SCTRL_ARMED 0
  let busy := (List.range 4).filter fun i => s.is (lane port) (PR_MARGIN_CTRL_BUSY.nth i)
  let st := s.rd (lane port) LN_STATUS_STATE
  let s := (s.resetWhere fun p c => (p = l || p = lane port) && c = .link).wr (lane port) LN_STATUS_STATE st
  let s := busy.foldl (fun s i => s.wr (lane port) (PR_MARGIN_RESULT_ABORTED.nth i) 1) s
  let s := { s with
    replay := s.replay.del port, linkq := s.linkq.del port, creditDue := s.creditDue.del port
    waiting := s.waiting.map (QPkt.forget port)
    flows := s.flows.map fun (f : Flow) =>
      { f with cells := f.cells.map fun (c : Cell) => { c with ends := c.ends.map (QPkt.forget port) } } }
  let s := s.entries.foldl (fun s k =>
    let p := path k
    let s := s.when (s.rd p PT_W0_IN_PORT = port) fun s =>
      ((s.wr p PT_W5_GRANT (s.rd p PT_W3_ALLOC)).wr p PT_RXD 0).wr p PT_FREED 0
    s.when (s.rd p PT_W1_OUT_PORT = port) fun s => (s.wr p PT_W6_USED 0).wr p PT_W7_LIMIT 0) s
  let gs := (s.mcAct.map fun e => e.1 / 64).eraseDups
  let s := gs.foldl (fun s g => (s.members g).foldl (fun s m =>
    if m.2.1 = port then (s.setMc g (5 + 3 * m.1) 0).setMc g (6 + 3 * m.1) 0 else s) s) s
  s.wr l LK_IN_RESET 1

/-- The lanes of a Kloyr port leave ACTIVE, or a USB4 link goes down (R69, R114, R156, R160): link reset, paths declared
down, the port is no longer refused, blocks prefetched from hubs behind it are dropped (R247), and the roots hear of it. The caller gives the lanes their next state first. -/
def State.linkLost (s : State) (port reason : Nat) : State :=
  let s := if s.kloyr port then s.linkReset port else s
  let s := (s.declareDown port reason).wr pathctl (PC_REFUSED.nth port) 0
  let s := { s with prefetch := s.prefetch.filter fun b => b.hub = 0 || s.portFor b.dom b.hub != port }
  (s.wr (alm port) ALM_ACC_BROKEN 1).portEvent port 2

end Sys2Proof.Machine
end

