-- ==== Sys2Proof/Machine/LinkOps.lean ====
section
/-! DEFINITION. The link layer's shared operations: credit updates (R98, R99), sealing (R89, R162, R415), receiving (R88, R93), replay (R95, R96), pair sets (R103 to R105), low power (R108) and what a packet boundary sends (R92, R198). -/

namespace Sys2Proof.Machine

open Reg

/-! ### Time roles -/

/-- The port this hub follows: the lowest-numbered one set to follow (R72). -/
def State.followPort (s : State) : Option Nat := (List.range 6).find? fun p => s.rd (lane p) LN_TSYNC_CTRL_ROLE = 2

/-- The role a port acts in: 0 off, 1 serve, 2 follow (R72). -/
def State.timeRole (s : State) (port : Nat) : Nat :=
  let r := s.rd (lane port) LN_TSYNC_CTRL_ROLE
  if r = 2 then (if s.followPort = some port then 2 else 1) else if r = 1 then 1 else 0

/-! ### Credits -/

/-- Queue a LINK packet at a port (R92). (log 46, DESIGN CHOICE) -/
def State.queueLink (s : State) (port : Nat) (m : LinkMsg) : State :=
  { s with linkq := s.linkq.setList port (s.linkq.list port ++ [m]) }

/-- A cumulative limit rises to `cum` only if that increases it, modulo 2^32 (R98). -/
def raiseLimit (old cum : Nat) : Nat :=
  let d := (cum + 2 ^ 32 - old) % 2 ^ 32
  if d < 2 ^ 31 then cum % 2 ^ 32 else old

/-- One CREDIT entry arrives (R98): it goes to the control pool, or to the entries and multicast members with that
egress path ID on the port. -/
def State.creditEntryRx (s : State) (port : Nat) (e : Nat × Nat) : State :=
  if e.1 = 0 then s.wr (link port) LK_CPOOL_TX_LIMIT (raiseLimit (s.rd (link port) LK_CPOOL_TX_LIMIT) e.2)
  else
    let ks := s.entries.filter fun k => s.rd (path k) PT_W1_OUT_PORT = port && s.rd (path k) PT_W1_OUT_PATH_ID = e.1 &&
      (s.rd (path k) PT_W0_STATE = 1 || s.rd (path k) PT_W0_STATE = 3) && s.creditEntry k = k
    let s := ks.foldl (fun s k => s.wr (path k) PT_W7_LIMIT (raiseLimit (s.rd (path k) PT_W7_LIMIT) e.2)) s
    let gs := (s.mcAct.map fun x => x.1 / 64).eraseDups
    gs.foldl (fun s g => (s.members g).foldl (fun s m =>
      if m.2.1 = port && m.2.2 = e.1 then s.setMc g (6 + 3 * m.1) (raiseLimit (s.mcWord g (6 + 3 * m.1)) e.2) else s) s) s

/-- The entry that takes credits on a port under a path ID. -/
def State.creditedEntry (s : State) (port id : Nat) : Option Nat :=
  (s.keyed port id).find? fun k => 2 ≤ s.rd (path k) PT_W0_CLASS

/-- The CUM of an update, GRANT, and nothing left to report (R98). -/
def State.takeCum (s : State) (port id : Nat) : State × Option (Nat × Nat) :=
  if id = 0 then (s.wr (link port) LK_CP_FREED 0, some (0, s.rd (link port) LK_CP_GRANT))
  else match s.creditedEntry port id with
    | some k => (s.wr (path k) PT_FREED 0, some (id, s.rd (path k) PT_W5_GRANT))
    | none => (s, none)

/-- Build a CREDIT packet from the updates due, at most 32 of them (R90, R99). -/
def State.creditPacket (s : State) (port : Nat) : State × List (Nat × Nat) :=
  let due := s.creditDue.list port
  let r := (due.take 32).foldl (fun (r : State × List (Nat × Nat)) id =>
    match r.1.takeCum port id with
    | (s, some e) => (s, r.2 ++ [e])
    | (s, none) => (s, r.2)) (s, [])
  ({ r.1 with creditDue := r.1.creditDue.setList port (due.drop 32) }, r.2)

/-! ### Sealing -/

/-- The GCM nonce of a packet: SALT, path ID, counter (R415). -/
def State.nonce (s : State) (slot pathId ctr : Nat) : Nat :=
  s.rd sec (KS_SLOT_SALT.nth slot) * 2 ^ 80 + pathId * 2 ^ 64 + ctr

/-- Seal the data of a packet that leaves on entry `k` (R89, R415): its tag follows, DW2 carries the counter, and the
egress's counter advances. -/
def State.sealPkt (s : State) (k : Nat) (p : Pkt) : State × Pkt :=
  match p.body with
  | .ctrl _ => (s, p)
  | .data pid ad _ bs =>
    let c := path (s.creditEntry k)
    let ctr := s.rd c PT_SEAL_TX
    let slot := s.rd (path k) PT_W3_KEY_OUT
    let hd := { p with seald := true, len := bs.length + 16, body := .data pid ad (ctr % 2 ^ 32) bs }
    let aad := (header hd none).take 12
    let ct := (List.range (bs.length + 16)).map
      (Config.sealByte (s.rd sec (KS_KEY.nth slot)) (s.nonce slot pid ctr) aad bs)
    (s.wr c PT_SEAL_TX (ctr + 1), { hd with body := .data pid ad (ctr % 2 ^ 32) ct })

/-- The least counter at or above the expected one whose low 32 bits match DW2 (R415). -/
def expectCtr (expected low : Nat) : Nat := expected + (low + 2 ^ 32 - expected % 2 ^ 32) % 2 ^ 32

/-- Open a sealed packet of entry `k` under its key, or under the previous key in its grace epoch (R89, R415, R416).
`none` is a tag failure. -/
def State.openPkt (s : State) (k : Nat) (p : Pkt) : State × Option (List Byte) :=
  match p.body with
  | .ctrl _ => (s, none)
  | .data pid ad low bs =>
    let pg := path k
    let aad := (header p none).take 12
    let plain := fun slot ctr => (List.range (bs.length - 16)).map
      (Config.openByte (s.rd sec (KS_KEY.nth slot)) (s.nonce slot pid ctr) aad bs)
    let good := fun slot ctr => Config.tagOk (s.rd sec (KS_KEY.nth slot)) (s.nonce slot pid ctr) aad bs
    let ctr := expectCtr (s.rd pg PT_SEAL_RX) low
    let prev := expectCtr (s.rd pg PT_SEAL_PREV) low
    let slot := s.rd pg PT_W3_KEY_IN
    let old := s.rd pg PT_KEY_PREV
    let _ := ad
    if good slot ctr then (s.wr pg PT_SEAL_RX (ctr + 1), some (plain slot ctr))
    else if s.is pg PT_KEY_GRACE && good old prev then (s.wr pg PT_SEAL_PREV (prev + 1), some (plain old prev))
    else (s, none)

/-! ### Receiving -/

/-- A NAK falls due for a gap, and repeats until the expected packet arrives (R93). -/
def State.gap (s : State) (port : Nat) : State := (s.wr (link port) LK_NAK_DUE 1).wr (link port) LK_GAP 1

/-- Is a packet malformed (R88)? `ty` is its TYPE; KH520 legacy mode has no sealing (R110). -/
def State.malformed (s : State) (port ty : Nat) (hcrc : Bool) (p : Pkt) : Bool :=
  !hcrc || !(ty = 1 || ty = 2 || ty = 3) || (ty = 1 && p.cls = 0) || (ty != 1 && p.cls != 0) || 3 < p.cls ||
  (p.seald && (ty != 1 || s.mode port = 2)) || 256 < p.len || (p.seald && p.len < 16)

/-- A discarded packet's credits go back at once (R100, R101, R162). -/
def State.returnCredits (s : State) (k cost : Nat) : State :=
  let p := path k
  let s := s.wr p PT_RXD (s.rd p PT_RXD + cost)
  s.freeBuf ⟨0, k, s.rd p PT_W0_IN_PORT, 0, 0, s.rd p PT_W0_CLASS, cost, 0, 0, 0, ⟨0, false, 0, 0, .data 0 0 0 []⟩⟩

/-- Discard an accepted DATA packet and give its buffer back (R100, R162): credits for classes 2 and 3, nothing held
for class 1. -/
def State.giveBack (s : State) (k cost : Nat) : State :=
  if 2 ≤ s.rd (path k) PT_W0_CLASS then s.returnCredits k cost else s

/-- An accepted DATA packet (R89, R97, R101, R139, R162): its buffer, its seal, its path. `kl` is false on USB4 ports,
which have no sealing (R125); their buffers count as R124 and R126 say. -/
def State.dataRx (s : State) (port : Nat) (kl : Bool) (p : Pkt) (pb : Option Nat) : State :=
  match p.body with
  | .ctrl _ => s
  | .data pid ad _ bs =>
    match s.lookup port pid with
    | none => s.noPath
    | some k =>
      let pg := path k
      let cost := creditsOf p.len
      let cls := s.rd pg PT_W0_CLASS
      let l := link port
      if 2 ≤ cls && (s.rd pg PT_W5_GRANT + 2 ^ 32 - s.rd pg PT_RXD) % 2 ^ 32 < cost then
        ((s.returnCredits k cost).count (linkCnt port) LK_CNT_CREDIT_OVER).raise l 5
      else if cls = 1 && 1024 * s.rd l LK_ISO_RGN_ACT < s.rd l LK_ISO_USED + 64 * cost then
        (s.count (linkCnt port) LK_CNT_ISO_OVERRUN).raise l 3
      else if kl && p.seald != s.is pg PT_W0_SEAL_IN then
        ((s.giveBack k cost).count pathctl PC_CNT_SEAL).raise pathctl 11
      else
        match (if p.seald then s.openPkt k p else (s, some bs)) with
        | (s, none) => ((s.giveBack k cost).count (linkCnt port) LK_CNT_TAG_FAIL).raise l 6
        | (s, some data) =>
          match s.route port pid with
          | (s, none) => s.when (decide (2 ≤ cls)) fun s => s.wr pg PT_RXD (s.rd pg PT_RXD + cost)
          | (s, some e) =>
            let s := if 2 ≤ cls then s.wr pg PT_RXD (s.rd pg PT_RXD + cost)
              else if cls = 1 then s.wr l LK_ISO_USED (s.rd l LK_ISO_USED + 64 * cost)
              else s
            let ep := path e
            let mc := s.is ep PT_W1_MC_EN
            let out := if mc then 0x1F else s.rd ep PT_W1_OUT_PORT
            let s := s.capturePoint 0 (header p pb) p port out cls e pid (s.rd ep PT_W1_OUT_PATH_ID) mc
              (s.is ep PT_W0_SEAL_IN || s.is ep PT_W0_SEAL_OUT)
            s.enter e port pid cost ad data

/-- An accepted CTRL packet takes its place in the control pool and waits to be handled under R144; beyond the pool it
is discarded and its credits return (R101). -/
def State.ctrlRx (s : State) (port : Nat) (p : Pkt) : State :=
  match p.body with
  | .data .. => s
  | .ctrl c =>
    let l := link port
    let cost := creditsOf p.len
    let free := (s.rd l LK_CP_GRANT + 2 ^ 32 - s.rd l LK_CP_RXD) % 2 ^ 32
    let s := s.wr l LK_CP_RXD (s.rd l LK_CP_RXD + cost)
    if free < cost then ((s.ctrlFree port cost).count (linkCnt port) LK_CNT_CREDIT_OVER).raise l 4
    else { s with ctrlIn := s.ctrlIn ++ [(port, c)] }

/-- A packet accepted in order (R93): NEXT_RX advances, an acknowledgement is owed, at the latest after 64. -/
def State.acceptSeq (s : State) (port : Nat) : State :=
  let l := link port
  let n := s.rd l LK_UNACK_RX + 1
  let s := (((s.wr l LK_SEQ_NEXT_RX (s.rd l LK_SEQ_NEXT_RX + 1)).wr l LK_RX_ANY 1).wr l LK_UNACK_RX n).count (linkCnt port) LK_CNT_RX_PKT
  let s := (s.wr l LK_GAP 0).wr l LK_NAK_DUE 0
  s.when (64 ≤ n) fun s => s.wr l LK_ACK_DUE 1

/-! ### Replay -/

/-- Show what the replay buffer holds (R95, R111). -/
def State.showReplay (s : State) (port : Nat) : State :=
  let h := s.replay.list port
  (s.wr (link port) LK_REPLAY_USED (h.map fun x => x.units).sum).wr (link port) LK_REPLAY_UNACKED h.length

/-- Release every held packet up to `seq`; progress restarts the count of replays (R96). (log 43, DEDUCED) -/
def State.ackUpTo (s : State) (port seq : Nat) : State :=
  let h := s.replay.list port
  let left := h.filter fun x => !((seq + 4096 - x.pkt.seq) % 4096 < 2048)
  let s := s.when (left.length < h.length) fun s => s.wr (link port) LK_REPLAYS 0
  ({ s with replay := s.replay.setList port left }).showReplay port

/-- The lanes of a port leave their state for another; the markings of training go (R60, R69). -/
def State.setLanes (s : State) (port st : Nat) : State := s.wr (lane port) LN_STATUS_STATE st

/-- The state a port's lanes go to when the link is given up: DETECT, or OFF in mode 0 (R61, R69). -/
def State.restartState (s : State) (port : Nat) : Nat := if s.mode port = 0 then 0 else 1

/-- Take the link down and retrain (R69): for `reason` see R157. -/
def State.retrainLink (s : State) (port reason : Nat) : State :=
  (s.setLanes port (s.restartState port)).linkLost port reason

/-- Replay every held packet, or give up after REPLAY_MAX replays of the same oldest packet without progress (R96). -/
def State.startReplay (s : State) (port : Nat) : State :=
  let l := link port
  if (s.replay.list port).isEmpty then s
  else if orOne (s.rd l LK_CTRL_REPLAY_MAX) ≤ s.rd l LK_REPLAYS then (s.raise l 0).retrainLink port 2
  else
    let s := s.wr l LK_REPLAYS (s.rd l LK_REPLAYS + 1)
    { s with replay := s.replay.setList port ((s.replay.list port).map fun x => { x with due := true }) }

/-! ### Pair sets -/

/-- A PAIR packet (R90, R91) with the fields a command uses. -/
def pairMsg (cmd newSet lmask dir fromCw target set : Nat) : LinkMsg := .pair cmd newSet lmask dir fromCw target set

/-- The pads with a direction, 1 transmit or 2 receive, that carry the logical lanes of a mask. -/
def State.padsOf (s : State) (port dir lmask : Nat) : List Nat :=
  (List.range 4).filter fun p => s.rd (lane port) (PR_STATUS_DIR.nth p) = dir &&
    lmask.testBit (s.rd (lane port) (PR_STATUS_LANE.nth p))

/-- The logical lanes of a mask of pads. -/
def State.lanesOf (s : State) (port pads : Nat) : Nat :=
  (List.range 4).foldl (fun m p => if pads.testBit p then setBit m (s.rd (lane port) (PR_STATUS_LANE.nth p)) true else m) 0

/-- Pads as a mask. -/
def padMask (ps : List Nat) : Nat := ps.foldl (fun m p => setBit m p true) 0

/-- The transmit set changes at a packet boundary (R91, R105): a new SET_ID, announced by SET from the next codeword. -/
def State.changeTxSet (s : State) (port pads : Nat) : State :=
  let l := link port
  let id := (s.rd l LK_STATUS_SET_ID + 1) % 16
  let s := ((s.accSent port).wr l LK_STATUS_TX_PADS pads).wr l LK_STATUS_SET_ID id
  s.queueLink port (pairMsg 4 id (s.lanesOf port pads) 0 (s.rd l LK_CW_TX) 0 0)

/-- Record a drop of pads (R103, R111) and raise PAIR_DROP. -/
def State.recordDrop (s : State) (port pads cause : Nat) : State :=
  let l := link port
  let n := ((List.range 4).filter fun p => pads.testBit p).length
  let s := (((s.wr l LK_LAST_DROP_VALID 1).wr l LK_LAST_DROP_CAUSE cause).wr l LK_LAST_DROP_PADS pads).wr l LK_LAST_DROP_ABSORB_NS 0
  let s := (s.wr l LK_OUT_PADS (padMask ((List.range 4).filter fun p => pads.testBit p || s.rdBit l LK_OUT_PADS p))).sat (linkCnt port) LK_CNT_PAIR_DROP n
  (s.wr l LK_DROP_TIME s.clock).raise l 1

/-- Record how long a drop took to absorb (R103). -/
def State.absorbed (s : State) (port : Nat) : State :=
  let l := link port
  (s.wr l LK_LAST_DROP_ABSORB_NS (min 65535 (s.clock - s.rd l LK_DROP_TIME))).wr l LK_DROP_OPEN 0

/-- Mask the detectors of a pad (R69). -/
def State.maskPad (s : State) (port p : Nat) (m : Bool) : State :=
  let v := if m then 1 else 0
  (s.wr (lane port) (LN_MASKED.nth p) v).wr (lane port) (PR_STATUS_LP.nth p) v

/-- A receiving pad is dropped for a fault (R103): it is masked, a DROP with a NAK goes out and repeats until a new
SET_ID arrives. A fault during a turnaround keeps the turning pad out and aborts it (R106). -/
def State.dropRxPad (s : State) (port p cause : Nat) : State :=
  let l := link port
  let ln := s.rd (lane port) (PR_STATUS_LANE.nth p)
  let s := (s.maskPad port p true).recordDrop port (2 ^ p) cause
  let s := (s.wr l LK_STATUS_RX_PADS (minus4 (s.rd l LK_STATUS_RX_PADS) (2 ^ p))).wr l LK_DROP_OPEN 1
  let s := (s.wrBit l LK_DROP_SENT ln true).gap port
  let s := s.queueLink port (pairMsg 1 0 (2 ^ ln) 1 0 0 0)
  s.when (s.is l LK_STATUS_JOINING) fun s => ((s.wr l LK_STATUS_JOINING 0).wr l LK_TURN_STEP 0).raise l 2

/-- Disarm LK_SET without applying it and raise TURN_ABORT (R105). -/
def State.turnAbort (s : State) (port : Nat) : State :=
  let l := link port
  if s.is l PG_SHADOW_CTRL_ARMED then
    ((s.wr l PG_SHADOW_CTRL_ARMED 0).wr l LK_STATUS_TURN_OK 0).raise l 2
  else s

/-- LK_SET as it acts (R111). -/
def setCode (v : Nat) : Nat := if v = 3 then 0 else v

/-- The set that matches at the far end (R105). -/
def matching (v : Nat) : Nat := if v = 1 then 2 else if v = 2 then 1 else 0

/-- Answer the far end's TURN_PREP (R105, step 2): OK when this end's LK_SET is armed for the same epoch with the
matching set and the change is possible. An end that sends TURN_NAK while armed aborts. -/
def State.turnAnswer (s : State) (port : Nat) : State :=
  let l := link port
  let mine := setCode (s.rd l LK_SET_SET)
  let now := s.rd l LK_CUR_SET
  let follows := s.timeRole port = 2
  let target := s.rd l LK_PREP_TARGET
  let ok := s.is l PG_SHADOW_CTRL_ARMED && s.rd l PG_SHADOW_CTRL_TARGET = target &&
    setCode (s.rd l LK_PREP_SET) = matching mine && !(now != 0 && mine != 0 && now != mine) &&
    s.is (lane port) LN_STATUS_ASYM_READY && s.rd l LK_OUT_PADS = 0 && s.mode port = 1 &&
    (!follows || s.is (lane port) LN_TSYNC_STATUS_LOCKED)
  let s := s.wr l LK_PREP_VALID 0
  if ok then s.queueLink port (pairMsg 6 0 0 0 0 target mine)
  else (s.queueLink port (pairMsg 7 0 0 0 0 target mine)).turnAbort port

/-- The pad that turns when the set changes from `old` to `new` (R83, R105), and whether this end widens. -/
def State.turning (s : State) (port old new : Nat) : Option (Nat × Bool) :=
  let widen := (old = 0 && new = 1) || (old = 2 && new = 0)
  let narrow := (old = 0 && new = 2) || (old = 1 && new = 0)
  let wide := old != 0
  let lmask := if wide then 4 else 2
  if widen then ((s.padsOf port 2 lmask).head?).map fun p => (p, true)
  else if narrow then ((s.padsOf port 1 lmask).head?).map fun p => (p, false)
  else none

/-- The turnaround at its turnover (R105, steps 4 and 5). -/
def State.turnNow (s : State) (port new : Nat) : State :=
  let l := link port
  let old := s.rd l LK_CUR_SET
  match s.turning port old new with
  | none => s.wr l LK_CUR_SET new
  | some (p, widen) =>
    let s := (((s.wr l LK_CUR_SET new).wr l LK_STATUS_JOINING 1).wr l LK_TURN_PAD p).wr l LK_TURN_STEP (if widen then 2 else 1)
    let s := s.maskPad port p true
    let ln := if new = 0 then 1 else 2
    if widen then
      let s := s.wr l LK_STATUS_RX_PADS (minus4 (s.rd l LK_STATUS_RX_PADS) (2 ^ p))
      (s.wr (lane port) (PR_STATUS_DIR.nth p) 1).wr (lane port) (PR_STATUS_LANE.nth p) ln
    else
      let s := s.changeTxSet port (minus4 (s.rd l LK_STATUS_TX_PADS) (2 ^ p))
      (s.wr (lane port) (PR_STATUS_DIR.nth p) 2).wr (lane port) (PR_STATUS_LANE.nth p) ln

/-- Apply an armed LK_PAIR at a packet boundary (R104): DROP for pads cleared, ADD_REQ for pads set that are out. In
KH520 legacy mode the set stays as it is (R110). (log 43, DEDUCED) -/
def State.applyPair (s : State) (port : Nat) : State :=
  let l := link port
  if !s.is l LK_PAIR_SCTRL_ARMED then s
  else
    let old := s.rdA l LK_PAIR_PAD_EN
    let new := s.rd l LK_PAIR_PAD_EN
    let s := (List.range 4).foldl (fun s p =>
      let ln := s.rd (lane port) (PR_STATUS_LANE.nth p)
      let tx := s.rd (lane port) (PR_STATUS_DIR.nth p) = 1
      if s.mode port = 2 then s
      else if old.testBit p && !new.testBit p then
        let s := s.recordDrop port (2 ^ p) 3
        let s := s.queueLink port (pairMsg 1 0 (2 ^ ln) (if tx then 0 else 1) 0 0 0)
        if tx then (s.changeTxSet port (minus4 (s.rd l LK_STATUS_TX_PADS) (2 ^ p))).maskPad port p true
        else ((s.wr l LK_STATUS_RX_PADS (minus4 (s.rd l LK_STATUS_RX_PADS) (2 ^ p))).maskPad port p true).wr l LK_DROP_OPEN 1
      else if new.testBit p && s.rdBit l LK_OUT_PADS p then
        (s.queueLink port (pairMsg 2 0 (2 ^ ln) (if tx then 0 else 1) 0 0 0)).wrBit l LK_ADD_PADS p true
      else s) s
    ((((s.applyFields l pairFields).wr l LK_PAIR_SCTRL_ARMED 0).wr l LK_PAIR_SCTRL_APPLIED 1)).setInt l intApplied

/-- The transmitting end adds lanes that have passed their re-check (R104). -/
def State.addTxPads (s : State) (port : Nat) (ps : List Nat) : State :=
  let l := link port
  let s := s.changeTxSet port (padMask ((List.range 4).filter fun p => s.rdBit l LK_STATUS_TX_PADS p || ps.contains p))
  ps.foldl (fun s p => (((s.wrBit l LK_OUT_PADS p false).wrBit l LK_ADD_PADS p false).maskPad port p false).count
    (linkCnt port) LK_CNT_PAIR_ADD) s

/-! ### Low power -/

/-- Does the port hold an isochronous reservation in either direction (R108)? -/
def State.isoReserved (s : State) (port : Nat) : Bool :=
  ((List.range 64).any fun r => s.is (alm port) (ALM_ROW_V.nth r)) ||
  s.entries.any fun k => s.rd (path k) PT_W0_CLASS = 1 && s.rd (path k) PT_W0_IN_PORT = port

/-- May this end enter a low-power state (R106, R108)? -/
def State.lpReady (s : State) (port : Nat) : Bool :=
  let l := link port
  s.rd l LK_STATUS_STATE = 1 && (s.staged.list port).isEmpty && (s.linkq.list port).isEmpty && (s.replay.list port).isEmpty &&
  (s.creditDue.list port).isEmpty && s.rd l LK_CP_FREED = 0 &&
  (s.entries.all fun k => s.rd (path k) PT_W0_IN_PORT != port || s.rd (path k) PT_FREED = 0) &&
  !s.isoReserved port && !s.is l PG_SHADOW_CTRL_ARMED && !s.is l LK_PAIR_SCTRL_ARMED && s.rd l LK_CTRL_LP_MAX != 0

/-- The deepest state allowed: LP_MAX, and LP_QUIET only in KH520 legacy mode (R110, R111). -/
def State.lpMax (s : State) (port : Nat) : Nat :=
  let m := min 2 (s.rd (link port) LK_CTRL_LP_MAX)
  if s.mode port = 2 then min 1 m else m

/-- Wake the link (R109): LP_SLEEP first sends its burst. -/
def State.wakeLink (s : State) (port : Nat) : State :=
  let l := link port
  let st := s.rd l LK_STATUS_STATE
  if st = 2 || st = 3 then
    let s := s.when (st = 3) fun s => s.send (.wake port)
    (s.wr l LK_STATUS_STATE 5).wr l LK_OWN_WAKE 1
  else s

/-! ### A packet boundary -/

/-- Fill the LINK packet budget, 4 % of the payload rate with a burst of 1 KiB (R92), in thousandths of a byte. -/
def State.fillLink (s : State) (port : Nat) : State :=
  let l := link port
  let lanes := ((List.range 4).filter fun p => s.rdBit l LK_STATUS_TX_PADS p).length
  let per := if s.mode port = 2 then 116 else 290
  let dt := s.clock - s.rd l LK_TOKEN_TIME
  (s.wr l LK_TOKENS (min 1024000 (s.rd l LK_TOKENS + per * lanes * dt))).wr l LK_TOKEN_TIME s.clock

/-- Bytes of a LINK packet (R90). -/
def linkBytes : LinkMsg → Nat
  | .ack => 16
  | .credit es => 16 + 8 * es.length
  | .pair .. => 24
  | .lp .. => 16

/-- Send a LINK packet with its acknowledgement word (R94); its bytes come off the budget and off C_m (R223). (log 46, DESIGN CHOICE) -/
def State.sendLink (s : State) (port : Nat) (m : LinkMsg) : State :=
  let l := link port
  let nak := s.is l LK_NAK_DUE
  let seq := (s.rd l LK_SEQ_NEXT_RX + 4095) % 4096
  let s := s.send (.linkMsg port (s.is l LK_RX_ANY) nak seq m)
  let s := s.when nak fun s => s.count (linkCnt port) LK_CNT_NAK_TX
  let s := ((s.wr l LK_NAK_DUE 0).wr l LK_ACK_DUE 0).wr l LK_UNACK_RX 0
  (s.wr l LK_TOKENS (s.rd l LK_TOKENS - 1000 * linkBytes m)).sat (alm port) ALM_ACC_CAP (linkBytes m)

/-- The LINK packet of this boundary, if one is due and within the budget (R92): a queued PAIR or LP packet, a credit
update, or a bare ACK. An update that the budget holds back is a deferral. -/
def State.linkTurn (s : State) (port : Nat) : State × Bool :=
  let l := link port
  let t := s.rd l LK_TOKENS
  let owed := s.is l LK_ACK_DUE || s.is l LK_NAK_DUE
  let drops := s.rd l LK_DROP_SENT
  match s.linkq.list port with
  | m :: rest =>
    if 1000 * linkBytes m ≤ t then (({ s with linkq := s.linkq.setList port rest }).sendLink port m, true)
    else if owed && 16000 ≤ t then (s.sendLink port .ack, true) else (s, false)
  | [] =>
    if drops != 0 && 24000 ≤ t then (s.sendLink port (pairMsg 1 0 drops 1 0 0 0), true)
    else
    let due := s.creditDue.list port
    if due.isEmpty then
      if owed && 16000 ≤ t then (s.sendLink port .ack, true) else (s, false)
    else if 1000 * (16 + 8 * min 32 due.length) ≤ t then
      let (s, es) := s.creditPacket port
      if es.isEmpty then (s, false) else (s.sendLink port (.credit es), true)
    else
      let s := (s.count (linkCnt port) LK_CNT_CR_DEFER).raise l 8
      let s := { s with creditDue := s.creditDue.setList port (due.drop 1 ++ due.take 1) }
      if owed && 16000 ≤ t then (s.sendLink port .ack, true) else (s, false)

/-- Resend the next held packet that is due (R96). (log 43, DEDUCED) -/
def State.replayTurn (s : State) (port : Nat) : State × Bool :=
  let h := s.replay.list port
  match h.find? fun x => x.due with
  | none => (s, false)
  | some x =>
    let h := h.map fun y => if y.pkt.seq = x.pkt.seq then { y with due := false } else y
    let s := ({ s with replay := s.replay.setList port h }).count (linkCnt port) LK_CNT_REPLAY_PKT
    ((s.sat (alm port) ALM_ACC_CAP (16 + x.pkt.len)).send (.pkt port x.pkt x.pb), true)

/-- The staged packets of a class. -/
def State.stagedOf (s : State) (port cls : Nat) : List StQ := (s.staged.list port).filter fun q => q.cls = cls

/-- What a staged packet costs the Almanac: 16 + LEN (R198). -/
def almCost (q : QPkt) : Nat := match q.pkt.body with | .data .. => 16 + q.pkt.len | .ctrl _ => 16 + q.pkt.len

/-- The path DRR of a class (R202): the first path of the list has its turn; a path whose deficit does not cover its
next packet goes to the end, and the next one gains its quantum. Answers the paths in their new order and the deficits
to set. -/
def pathDrr (quantum : Nat → Nat) : Nat → List (StQ × Nat) → Option (List (StQ × Nat))
  | 0, _ => none
  | _ + 1, [] => none
  | fuel + 1, (q, d) :: t =>
    match q.pkts with
    | [] => pathDrr quantum fuel t
    | x :: _ =>
      if almCost x ≤ d then some ((q, d) :: t)
      else match t with
        | [] => pathDrr quantum fuel [(q, d + 64 * quantum q.entry)]
        | (r, e) :: u => pathDrr quantum fuel ((r, e + 64 * quantum r.entry) :: u ++ [(q, d)])

/-- The head packet of a class under the path DRR, with the order and deficits that go with it. -/
def State.classHead (s : State) (port cls : Nat) : Option (QPkt × List (StQ × Nat)) :=
  let l := (s.stagedOf port cls).map fun q => (q, s.rd (path q.entry) PT_DEFICIT)
  match pathDrr (fun k => orOne (s.rd (path k) PT_W2_QUANTUM)) (6 * (l.length + 1)) l with
  | some ((q, d) :: t) => (q.pkts.head?).map fun x => (x, (q, d) :: t)
  | _ => none

/-- Take the head packet of one staged path; a path with nothing left leaves the list, and its deficit returns to 0
(R202). -/
def State.unstage (s : State) (port : Nat) (q : QPkt) : State :=
  let l := (s.staged.list port).map fun x => if x.entry = q.entry && x.cls = q.cls then { x with pkts := x.pkts.tail } else x
  let gone := l.any fun x => x.entry = q.entry && x.cls = q.cls && x.pkts.isEmpty
  let s := s.when (gone && q.entry < 8192) fun s => s.wr (path q.entry) PT_DEFICIT 0
  { s with staged := s.staged.setList port (l.filter fun x => !x.pkts.isEmpty) }

/-- Keep the order and deficits of a path DRR, less the packet served. -/
def State.keepDrr (s : State) (port cls : Nat) (order : List (StQ × Nat)) (cost : Nat) : State :=
  let rest := (s.staged.list port).filter fun q => q.cls != cls
  let s := match order with
    | (q, d) :: t => t.foldl (fun (s : State) (e : StQ × Nat) => s.wr (path e.1.entry) PT_DEFICIT e.2) (s.wr (path q.entry) PT_DEFICIT (d - cost))
    | [] => s
  { s with staged := s.staged.setList port (rest ++ order.map fun (e : StQ × Nat) => e.1) }

/-- Does the control pool at the far end take a CTRL packet (R98)? -/
def State.poolOk (s : State) (port : Nat) (q : QPkt) : Bool :=
  !s.kloyr port || creditOk (s.rd (link port) LK_CPOOL_USED_TX_USED) q.cost (s.rd (link port) LK_CPOOL_TX_LIMIT)

/-- The Almanac's choice of the next packet, and the state with its tokens, credits and deficits taken (R198, R202,
R224). -/
def State.almChoose (s : State) (port : Nat) : Option (State × QPkt) :=
  let s := s.fillCtrl port
  let ctl := ((s.stagedOf port 0).head?).bind fun q => q.pkts.head?
  let ctl := ctl.filter fun q => s.ctrlOk port && s.poolOk port q
  match ctl with
  | some q => some (s.payCtrl port (almCost q), q)
  | none =>
    let last := s.rd (alm port) ALM_LAST_ROW
    let row := (List.range 64).findSome? fun i =>
      let r := (last + 1 + i) % 64
      if s.is (alm port) (ALM_ROW_V.nth r) && !s.is (alm port) (ALM_ROW_BAD.nth r) && s.rowOk port r then
        (((s.stagedOf port 1).find? fun q => q.entry = s.rd (alm port) (ALM_ROW_ENTRY.nth r)).bind fun q => q.pkts.head?).map fun q => (r, q)
      else none
    match row with
    | some (r, q) => some ((s.payRow port r q.pkt.len).wr (alm port) ALM_LAST_ROW r, q)
    | none =>
      let h2 := s.classHead port 2
      let h3 := s.classHead port 3
      let cost := fun (h : Option (QPkt × List (StQ × Nat))) => match h with | some (q, _) => almCost q | none => 0
      let protect := 1 ≤ s.rd (alm port) ALM_STATUS_MODE && s.is (alm port) ALM_PROT_PROTECT_EN && h2.isSome &&
        s.rd (alm port) ALM_ACC_GUAR < 64 * s.rd (alm port) ALM_ISO_G_UNITS
      let (s, c) := if protect then (s, some 2) else s.almDrr port (h2.isSome, cost h2) (h3.isSome, cost h3)
      match c with
      | none => none
      | some c => match (if c = 2 then h2 else h3) with
        | none => none
        | some (q, order) => some (s.keepDrr port c order (almCost q), q)

/-- Count what a packet adds to the epoch's served units (R209). -/
def State.served (s : State) (port : Nat) (q : QPkt) : State :=
  match q.cls with
  | 0 => s.sat (alm port) ALM_ACC_CTRL (almCost q)
  | 1 => s.sat (alm port) ALM_ACC_ISO q.pkt.len
  | 2 => s.sat (alm port) ALM_ACC_GUAR q.pkt.len
  | _ => s.sat (alm port) ALM_ACC_BE q.pkt.len

/-- Debit the sender's counters at first transmission (R98). -/
def State.debit (s : State) (port : Nat) (q : QPkt) (cost : Nat) : State :=
  if !s.kloyr port then s
  else if q.cls = 0 then s.wr (link port) LK_CPOOL_USED_TX_USED (s.rd (link port) LK_CPOOL_USED_TX_USED + cost)
  else if q.cls = 1 || 8192 ≤ q.entry then s
  else if s.is (path q.entry) PT_W1_MC_EN then
    let g := s.rd (path q.entry) PT_W1_MC_GROUP
    match (s.members g).find? fun m => m.2.1 = port && m.2.2 = q.outPath with
    | some m => s.setMc g (5 + 3 * m.1) (s.mcWord g (5 + 3 * m.1) + cost)
    | none => s
  else
    let e := path (s.creditEntry q.entry)
    s.wr e PT_W6_USED (s.rd e PT_W6_USED + cost)

/-- First transmission of a packet (R87, R89, R95, R162): rebuilt under its egress path ID, sealed where its entry says
so, numbered, held for replay and sent; in KH520 legacy mode it carries the acknowledgement (R110). A packet too long to seal is discarded. -/
def State.transmit (s : State) (port : Nat) (q : QPkt) : State :=
  let s := s.served port q
  let s := s.unstage port q
  let sealing := q.entry < 8192 && s.is (path q.entry) PT_W0_SEAL_OUT
  if sealing && 240 < q.pkt.len then (s.count pathctl PC_CNT_SEAL).raise pathctl 11
  else
    let seq := if s.kloyr port then s.rd (link port) LK_SEQ_NEXT_TX else 0
    let p := { q.pkt with seq := seq }
    let p := match p.body with
      | .data _ ad _ bs => { p with body := .data q.outPath ad 0 bs }
      | .ctrl _ => p
    let (s, p) := if sealing then s.sealPkt q.entry p else (s, p)
    let s := (s.debit port q (creditsOf p.len)).count (linkCnt port) LK_CNT_TX_PKT
    let l := link port
    let pb := if s.mode port = 2 then some ((s.rd l LK_SEQ_NEXT_RX + 4095) % 4096) else none
    let s := s.when pb.isSome fun s => (s.wr l LK_ACK_DUE 0).wr l LK_UNACK_RX 0
    let s := s.send (.pkt port p pb)
    if s.kloyr port then
      let s := s.wr (link port) LK_SEQ_NEXT_TX (seq + 1)
      ({ s with replay := s.replay.setList port (s.replay.list port ++ [Held.mk p pb (unitsOf p.len) false]) }).showReplay port
    else s

/-- Bytes a packet will have on the link, its tag included. -/
def State.txLen (s : State) (q : QPkt) : Nat :=
  if q.entry < 8192 && s.is (path q.entry) PT_W0_SEAL_OUT then q.pkt.len + 16 else q.pkt.len

/-- A new packet, unless the sender stalls (R95). -/
def State.newTurn (s : State) (port : Nat) : State :=
  let h := s.replay.list port
  match s.almChoose port with
  | none => s
  | some (s', q) =>
    if s.kloyr port && 2047 ≤ h.length then s.count (linkCnt port) LK_CNT_SEQ_STALL
    else if s.kloyr port && 6144 < (h.map fun x => x.units).sum + unitsOf (s.txLen q) then
      s.count (linkCnt port) LK_CNT_BUF_STALL
    else s'.transmit port q

/-- The link goes quiet at a packet boundary once its entry is agreed; a packet queued before then cancels it (R108). -/
def State.enterLp (s : State) (port : Nat) : State :=
  let l := link port
  if (s.staged.list port).isEmpty then
    if (s.linkq.list port).isEmpty then
      let d := s.rd l LK_LP_DEPTH
      let s := ((s.wr l LK_STATUS_STATE (1 + d)).wr l LK_LP_DEPTH 0).count (linkCnt port) LK_CNT_LP_ENTRY
      (List.range 4).foldl (fun s p => s.maskPad port p true) s
    else (s.linkTurn port).1
  else ((s.wr l LK_STATUS_STATE 1).wr l LK_LP_DEPTH 0).queueLink port (.lp 3 0)

/-- What a packet boundary of a port sends (R92, R96, R198): LINK packets, then replays, then the Almanac's choice. -/
def State.boundary (s : State) (port : Nat) : State :=
  let l := link port
  if s.usb4 port then s.when (s.linkUp port) fun s => s.newTurn port
  else
    let s := s.fillLink port
    let s := s.when (s.rd l LK_DROP_OPEN = 2) fun s => s.absorbed port
    if s.rd l LK_STATUS_STATE = 4 then s.enterLp port
    else if s.rd l LK_STATUS_STATE != 1 then s
    else
      let s := s.applyPair port
      match s.linkTurn port with
      | (s, true) => s
      | (s, false) =>
        match s.replayTurn port with
        | (s, true) => s
        | (s, false) => if s.is l (PG_CTRL_ENABLE 0) then s.newTurn port else s

/-- LK_BUF takes effect (R97, R124). -/
def State.takeBuf (s : State) (port : Nat) : State :=
  let l := link port
  let pool := let v := s.rd l LK_BUF_CTRL_POOL; if 1 ≤ v && v ≤ 16 then v else 4
  let iso := min 64 (s.rd l LK_BUF_ISO_RGN)
  ((s.wr l LK_CTRL_POOL_ACT pool).wr l LK_ISO_RGN_ACT iso).wr l LK_BUF_GBE (128 - pool - iso)

/-- The lanes of a Kloyr port reach ACTIVE (R60, R97, R99): the link layer takes them over. -/
def State.linkStart (s : State) (port : Nat) : State :=
  let l := link port
  let tx := padMask ((List.range 4).filter fun p => s.rd (lane port) (PR_STATUS_DIR.nth p) = 1 && !s.is (lane port) (PR_STATUS_FAILED.nth p))
  let rx := padMask ((List.range 4).filter fun p => s.rd (lane port) (PR_STATUS_DIR.nth p) = 2 && !s.is (lane port) (PR_STATUS_FAILED.nth p))
  let s := s.takeBuf port
  let s := (((s.wr l LK_IN_RESET 0).wr l LK_STATUS_STATE 1).wr l LK_STATUS_TX_PADS tx).wr l LK_STATUS_RX_PADS rx
  let s := (s.wr l LK_STATUS_LEGACY (if s.mode port = 2 then 1 else 0)).wr l LK_CP_GRANT (16 * s.rd l LK_CTRL_POOL_ACT)
  let s := ((s.wr l LK_TOKEN_TIME s.clock).wr (alm port) ALM_TOKEN_TIME s.clock).wr (alm port) ALM_ACC_TIME s.clock
  let s := s.dueCredit port 0
  let ks := s.entries.filter fun k => s.rd (path k) PT_W0_IN_PORT = port && s.rd (path k) PT_W3_ALLOC != 0
  ks.foldl (fun s k => s.dueCredit port (s.rd (path k) PT_W0_IN_PATH_ID)) s

end Sys2Proof.Machine
end

