-- ==== Sys2Proof/Machine/TimeOps.lean ====
section
/-! DEFINITION. Hub time: which port follows (R72), steps of hub time with their effect on armed pages and calendars (R75, R215), and what the follower does with an OFFSET (R75). -/

namespace Sys2Proof.Machine

open Reg

/-- Is the hub out of sync (R221)? A time root never is. -/
def State.outOfSync (s : State) : Bool :=
  match s.followPort with
  | some p => !s.is (lane p) LN_TSYNC_STATUS_LOCKED
  | none => false

/-- The pages that apply at a turnover (BOUND = 1, R47). -/
def bound1 : List Page :=
  (List.range 26).map almSh ++ [shpctl, pathctl, sw] ++ (List.range 6).map link

/-- A page is disarmed as late (R18, R215): LATE and ARM_LATE are set, and nothing applies. -/
def State.lateArm (s : State) (p : Page) : State :=
  ((s.wr p PG_SHADOW_CTRL_ARMED 0).wr p PG_SHADOW_CTRL_LATE 1).setInt p intArmLate

/-- Hub time is stepped by the port that follows (R75, R215): its stamps of the old time are no longer paired, armed
BOUND = 1 pages are disarmed as late, which raises STEP_DISARM once, and every row credit starts again at 0. (log 40, DEDUCED) -/
def State.stepTime (s : State) (port : Nat) (by' : Int) : State :=
  let l := lane port
  let s := ((s.wr l LN_PREV_OK 0).wr l LN_T3 0).wr l LN_T3_PREV 0
  let s := { s with time := s.time + BitVec.ofInt 64 by' }
  let s := s.wr glb GLB_TURN_EPOCH s.epoch
  let armed := bound1.filter fun p => s.is p PG_SHADOW_CTRL_ARMED
  let s := armed.foldl State.lateArm s
  let s := s.when (!armed.isEmpty) fun s => s.raise shpctl 2
  (List.range 26).foldl (fun s e => (List.range 64).foldl (fun s r => s.wr (alm e) (ALM_CREDIT.nth r) 0) s) s

/-- The last OFFSET of a port, in 0.25 ns, as whole ns of hub time to step back by. -/
def offsetNs (q : Int) : Int := q / 4

/-- The lanes of a Kloyr port reach ACTIVE (R60, R61, R143). -/
def State.enterActive (s : State) (port : Nat) : State :=
  let l := lane port
  let s := (((s.wr l LN_STATUS_STATE 7).wr l LN_STATUS_RETRIES 0).wr l LN_OFFSET_VALID 0).wr l LN_ADAPT_FAILS 0
  let s := s.wr l LN_ADAPT_ONLY 1
  (s.linkStart port).portEvent port 1

/-- Sync is lost (R75). (log 40, DEDUCED) -/
def State.loseSync (s : State) (port : Nat) : State :=
  let l := lane port
  (((s.wr l LN_TSYNC_STATUS_LOST 1).wr l LN_TSYNC_STATUS_LOCKED 0).wr l LN_STREAK 0).raise l 3

/-- The follower slews (R75): its rate moves within ±500 ppm and its phase by at most SLEW_MAX towards the server. The
spec states no control law, so both amounts are free values within these limits. (log 41, DESIGN CHOICE) -/
def State.slew (s : State) (port : Nat) (off : Int) : State :=
  let l := lane port
  let rate : Int := (s.freeNat % 1000001 : Nat) - (500000 : Int)
  let s := s.tookFree
  let lim := min (orOne (s.rd l LN_TSYNC_CTRL_SLEW_MAX)) (off.natAbs / 4)
  let ph : Int := (s.freeNat % (lim + 1) : Nat)
  let s := s.tookFree
  let s := (s.wr l LN_TSYNC_STATUS_FREQ_ADJ (unsigned 20 rate)).wr glb GLB_FREQ_ADJ (unsigned 20 rate)
  { s with time := s.time + BitVec.ofInt 64 (if 0 < off then -ph else ph) }

/-- The follower has a new OFFSET, in 0.25 ns (R75). (log 41, DESIGN CHOICE) -/
def State.actOffset (s : State) (port : Nat) (off : Int) : State :=
  let l := lane port
  let s := ((s.wr l LN_EXCH 1).wr l LN_MISSING 0).wr l LN_TSYNC_OFFSET_OFFSET (unsigned 32 off)
  let st := s.rd l LN_STATUS_STATE
  if st != 7 && !s.is l LN_TSYNC_STEPPED then
    ((s.wr l LN_TSYNC_STEPPED 1).wr l LN_STREAK 0).stepTime port (-(offsetNs off))
  else
    let s := s.wr l LN_OFFSET_VALID 1
    let s :=
      if (s.is l LN_TSYNC_STATUS_LOCKED || (st = 7 && !s.is l LN_TSYNC_STATUS_LOST)) && (s.rd l LN_TSYNC_CTRL_LOST_TH * 16 : Nat) < off.natAbs then s.loseSync port
      else if off.natAbs ≤ 8 then
        let n := min 7 (s.rd l LN_STREAK + 1)
        let s := s.wr l LN_STREAK n
        if 4 ≤ n && !s.is l LN_TSYNC_STATUS_LOCKED && !s.is l LN_FAR_FOLLOWS then
          let s := (s.wr l LN_TSYNC_STATUS_LOCKED 1).wr l LN_TSYNC_STATUS_LOST 0
          s.when (st != 7) fun s =>
            let s := s.send (.trainDone port)
            s.when (st = 6) fun s => s.enterActive port
        else s
      else s.wr l LN_STREAK 0
    s.slew port off

end Sys2Proof.Machine
end

