-- ==== Sys2Proof/Machine/LaneOps.lean ====
section
/-! DEFINITION. Starting, restarting and failing the training of a tunnel port's lanes, and changing their mode (R60, R61, R69, R79 of spec/04_serial_lanes.md). -/

namespace Sys2Proof.Machine

open Reg

/-- STATE of a lane page. A LANE page holds it; on the other lane pages the block that uses the lanes gives it (R82):
ACTIVE while its link is up, STD while the standard may train it, OFF otherwise. (log 39, DEDUCED) -/
def State.lnState (s : State) (p : Page) : Nat :=
  let pick := fun (up on : Bool) => if up then 7 else if on then 10 else 0
  match p.kind with
  | .pelane => pick ((List.range 4).any fun l => s.is pcie (PE_LINK_STS_DL_ACTIVE.nth l)) ((List.range 4).any fun l => s.attach l != 0)
  | .dplane => pick (s.is (dout p.inst) DOUT_LINK_STS_TRAINED) (s.is (dout p.inst) DOUT_TRAINING)
  | .ulane =>
    let st := s.rd uhub (UH_PORT_SS_STATE.nth p.inst)
    pick (3 ≤ st && st ≤ 6) (st = 2)
  | .elane => pick (s.is (eth p.inst) ETH_LINE) (s.ethMac p.inst && ethRate (s.rd (eth p.inst) ETH_CFG_MODE) != 0)
  | _ => s.rd p LN_STATUS_STATE

/-- The standard's training of a lane page starts again (R79, R82): the block's link leaves its state. (log 39, DEDUCED) -/
def State.stdRetrain (s : State) (p : Page) : State :=
  match p.kind with
  | .pelane => (List.range 4).foldl (fun s l => s.when (s.is pcie (PE_LINK_STS_DL_ACTIVE.nth l)) fun s =>
      ((s.wr pcie (PE_LINK_STS_DL_ACTIVE.nth l) 0).wr pcie (PE_LINK_STS_LTSSM.nth l) 0).raise pcie 0) s
  | .dplane => s.startTrain p.inst
  | .ulane => s.when (s.lnState p = 7) fun s => s.setSs p.inst 2
  | .elane => s.lineState p.inst false
  | _ => s

/-- Training starts at DETECT in the symmetric direction: pads 0 and 1 transmit, 2 and 3 receive, a failed pad is idle
(R60). In modes 3 to 7 the standard trains (STD), and in the codes not used the lanes stay off. -/
def State.startLanes (s : State) (port : Nat) : State :=
  let l := lane port
  let m := s.mode port
  let s := (s.wr l LN_ORIENT_VALID 0).wr l LN_STD_UP 0
  let s := (List.range 4).foldl (fun s p =>
    let d := if m = 0 || 7 < m || s.rdBit l LN_STATUS_PAD_FAIL p then 0 else if p < 2 then 1 else 2
    let s := (s.wr l (PR_STATUS_DIR.nth p) d).wr l (PR_STATUS_LOCK.nth p) 0
    (s.maskPad port p false).wr l (PR_STATUS_LANE.nth p) (p % 2)) s
  s.setLanes port (if m = 1 || m = 2 then 1 else if 3 ≤ m && m ≤ 7 then 10 else 0)

/-- Leave the present state and start again (R69, R79, R156). (log 36, DEDUCED) -/
def State.restartLanes (s : State) (port : Nat) : State :=
  let up := s.linkUp port
  let s := s.setLanes port (s.restartState port)
  let s := s.when up fun s => s.linkLost port 0
  s.startLanes port

/-- A stage has failed (R61): retry, or after RETRY_MAX consecutive failures FAILED with TRAIN_FAIL, unless every
attempt failed ADAPT on one and the same pad: that pad is marked failed and training goes on with the others. -/
def State.failStage (s : State) (port pads : Nat) : State :=
  let l := lane port
  let st := s.rd l LN_STATUS_STATE
  let n := s.rd l LN_STATUS_RETRIES
  let one := st = 4 && (pads = 4 || pads = 8)
  let same := one && s.is l LN_ADAPT_ONLY && (n = 0 || s.rd l LN_ADAPT_FAILS = pads)
  let s := ((s.wr l LN_STATUS_FAIL_STAGE st).count l LN_STATUS_RETRIES).wr l LN_ADAPT_FAILS pads
  let s := s.wr l LN_ADAPT_ONLY (if same then 1 else 0)
  if s.rd l LN_STATUS_RETRIES < orOne (s.rd l LN_CTRL_RETRY_MAX) then s.setLanes port 8
  else if same then
    let p := if pads = 4 then 2 else 3
    let s := (s.wrBit l LN_STATUS_PAD_FAIL p true).wr l (PR_STATUS_FAILED.nth p) 1
    (s.wr l (PR_STATUS_DIR.nth p) 0).setLanes port 5
  else (s.setLanes port 9).raise l 2

/-- The mode of a port's lanes changes (R79): they leave the present state, the change is reported, and they train in
the new mode. -/
def State.setMode (s : State) (port mode : Nat) : State :=
  if s.mode port = mode % 16 then s
  else
    let up := s.linkUp port
    let s := s.setLanes port 0
    let s := s.when up fun s => s.linkLost port 0
    let s := ((s.wr (lane port) LN_CTRL_MODE mode).wr (lane port) LN_STATUS_RETRIES 0).wr (lane port) LN_STATUS_PAD_FAIL 0
    let s := (s.wr (lane port) LN_ADAPT_ONLY 1).wr (lane port) LN_ADAPT_FAILS 0
    (s.startLanes port).portEvent port 3

end Sys2Proof.Machine
end

