-- ==== Sys2Proof/Machine/PdOps.lean ====
section
/-! DEFINITION. The shared operations of USB Power Delivery (spec/15_power_delivery.md): power data objects, offers and requests, the budget, contracts, discovery and the choice of mode, hard reset and Error Recovery. The layouts of power data objects, of Requests and of identity VDOs are those of USB PD 3.2 (PRESUMED). -/

namespace Sys2Proof.Machine

open Reg

/-! ### The engine -/

/-- Moabeuc runs PD policy: it carries out requests, or runs alone on a dead board (R360, R437). -/
def State.pdMoab (s : State) : Bool :=
  s.moabeuc || (s.is aon AON_DBAT && 1 ≤ s.rd mbx MB_FW_PHASE && !s.is glb GLB_MOABEUC_HALTED)

/-- The port is worked by Moabeuc: the page at the basic level, and its block at work. -/
def State.pdBasic (s : State) (n : Nat) : Bool := s.works (pd n) && !s.expert (pd n) && s.pdMoab

/-- The hub is the port's source. -/
def State.pdSource (s : State) (n : Nat) : Bool := s.is (pd n) PD_STATUS_PR

/-- Is the port attached with a role? -/
def State.pdAttached (s : State) (n : Nat) : Bool :=
  let st := s.rd (pd n) PD_STATUS_STATE
  st = 2 || st = 3 || st = 4

/-- Send a message. (log 81, PRESUMED) -/
def State.pdSend (s : State) (n sop : Nat) (m : PdMsg) : State :=
  (({ s with pdLast := s.pdLast.put n (sop, m) }).wr (pd n) PD_TXFAIL 0).send (.pd n sop m)

/-- The sequence of a port moves to a step. -/
def State.pdStep (s : State) (n st : Nat) : State := (s.wr (pd n) PD_ST st).wr (pd n) PD_TIME s.clock

/-- Set PD_STATUS.PHASE (R357). -/
def State.pdPhase (s : State) (n ph : Nat) : State := s.wr (pd n) PD_STATUS_PHASE ph

/-- A sequence ends (R349): a source returns Rp to SinkTxOk where its policy offers 3.0 A. -/
def State.pdIdle (s : State) (n : Nat) : State :=
  let s := (s.pdStep n 0).pdPhase n 0
  s.when (s.rd (pd n) PD_STATUS_STATE = 2) fun s =>
    s.wr (pd n) PD_STATUS_SINKTX (match s.rd (pd n) PD_POLICY_RP with | 0 => 0 | 1 => 2 | _ => 1)

/-- Has the present step lasted `ms` milliseconds? -/
def State.pdAged (s : State) (n ms : Nat) : Bool := s.rd (pd n) PD_TIME + ms * 1000000 ≤ s.clock

/-- Moabeuc asks the Ngunov island (R374). -/
def State.askSafe (s : State) (n cmd w1 w2 w3 : Nat) : State := s.safeReq ⟨.marionette, cmd, n, 0, w1, w2, w3, false⟩

/-- Set the board's source supply of a port. -/
def State.setSupply (s : State) (n mv : Nat) : State := (s.wr (pd n) PD_SUPPLY mv).send (.supply n mv)

/-- The page is disarmed with neither APPLIED nor LATE set, and keeps its shadow copies (R352). -/
def State.pdDisarm (s : State) (n : Nat) : State := (s.wr (pd n) PG_SHADOW_CTRL_ARMED 0).wr (pd n) PD_ARMNEG 0

/-- The Type-C current of a code 1 to 3 in mA: Default, 1.5 A, 3.0 A (R370). -/
def typeCmA (rp : Nat) : Nat := if rp = 2 then 1500 else if rp = 3 then 3000 else 900

/-- The Type-C current of the port in its present role. -/
def State.typeC (s : State) (n : Nat) : Nat :=
  if s.pdSource n then typeCmA (min 3 (s.rd (pd n) PD_POLICY_RP + 1)) else typeCmA (s.rd (pd n) PD_STATUS_PARTNER_RP)

/-! ### Power data objects -/

/-- The kind of an object, as PD_STATUS.KIND: 0 fixed, 1 variable, 2 battery, 3 PPS, 4 SPR AVS, 5 EPR AVS. (log 81, PRESUMED) -/
def pdoKind (p : Nat) : Nat :=
  match p / 2 ^ 30 % 4, p / 2 ^ 28 % 4 with
  | 0, _ => 0
  | 1, _ => 2
  | 2, _ => 1
  | _, 0 => 3
  | _, 1 => 5
  | _, _ => 4

/-- The highest voltage of an object, mV. -/
def pdoHi (p : Nat) : Nat :=
  match pdoKind p with
  | 0 => p / 2 ^ 10 % 1024 * 50
  | 1 | 2 => p / 2 ^ 20 % 1024 * 50
  | 3 => p / 2 ^ 17 % 256 * 100
  | 5 => p / 2 ^ 17 % 512 * 100
  | _ => if p % 1024 = 0 then 15000 else 20000

/-- The lowest voltage of an object, mV. -/
def pdoLo (p : Nat) : Nat :=
  match pdoKind p with
  | 0 => pdoHi p
  | 1 | 2 => p / 2 ^ 10 % 1024 * 50
  | 3 | 5 => p / 2 ^ 8 % 256 * 100
  | _ => 9000

/-- The current of an object at `v` mV, mA. (log 81, PRESUMED) -/
def pdoMa (p v : Nat) : Nat :=
  match pdoKind p with
  | 0 | 1 => p % 1024 * 10
  | 2 => p % 1024 * 250000 / v
  | 3 => p % 128 * 50
  | 5 => p % 256 * 1000000 / v
  | _ => if v ≤ 15000 then p / 2 ^ 10 % 1024 * 10 else p % 1024 * 10

/-- Power in W, rounded up, of a voltage in mV and a current in mA. -/
def watts (v i : Nat) : Nat := (v * i + 999999) / 1000000

/-- The highest voltage in units of 100 mV, at most `t`, that passes the energy limit of a port (R351). -/
def State.lowerMax (s : State) (n : Nat) : Nat → Nat
  | 0 => 0
  | t + 1 => if s.energyFails n ((t + 1) * 100) then s.lowerMax n t else t + 1

/-- The current that the cable carries, mA (R350). -/
def State.cableMa (s : State) (n : Nat) : Nat :=
  if s.is (pd n) PD_ATTACH_EMARKED && s.is (pd n) PD_ATTACH_CABLE_5A then 5000 else 3000

/-- A source object as the hub offers it (R350, R351, R353): 0 when it does not. -/
def State.offerOne (s : State) (n p : Nat) : Nat :=
  let q := pd n
  let hi := pdoHi p
  let cap := min (s.cableMa n) (s.rd q PD_BUDGET_ALLOT_W * 1000000 / max 1 hi)
  if p = 0 then 0
  else match pdoKind p with
  | 0 | 1 => if s.energyFails n hi then 0 else p / 1024 * 1024 + min (p % 1024) (cap / 10)
  | 2 => if s.energyFails n hi then 0 else p
  | 3 =>
    let t := s.lowerMax n (p / 2 ^ 17 % 256)
    if !s.is q PD_POLICY_PPS_EN || t * 100 < pdoLo p then 0
    else p - p / 2 ^ 17 % 256 * 2 ^ 17 + t * 2 ^ 17 - p % 128 + min (p % 128) (cap / 50)
  | 5 =>
    let t := s.lowerMax n (p / 2 ^ 17 % 512)
    if !s.is q PD_POLICY_AVS_EN || t * 100 < pdoLo p then 0 else p - p / 2 ^ 17 % 512 * 2 ^ 17 + t * 2 ^ 17
  | _ =>
    if !s.is q PD_POLICY_AVS_EN || s.energyFails n 15000 then 0
    else if s.energyFails n 20000 then p / 1024 * 1024 else p

/-- A source object as the present negotiation takes it: the shadow copy in that of an arm, else the active one. (log 82, DEDUCED) -/
def State.srcPdo (s : State) (n i : Nat) : Nat :=
  if s.is (pd n) PD_ARMNEG then s.rd (pd n) (PD_SRC_PDO_PDO.nth i) else s.rdA (pd n) (PD_SRC_PDO_PDO.nth i)

/-- The objects that the hub offers (R350, R351): the SPR objects that pass, and in EPR mode the EPR objects at positions 8
to 11. -/
def State.offers (s : State) (n : Nat) : List Nat :=
  let spr := ((List.range 7).map fun i => s.offerOne n (s.srcPdo n i)).filter fun p => p != 0
  if s.is (pd n) PD_STATUS_EPR then
    spr ++ List.replicate (7 - spr.length) 0 ++ (List.range 4).map fun i => s.offerOne n (s.srcPdo n (7 + i))
  else spr

/-- Source_Capabilities go out, or EPR_Source_Capabilities in EPR mode (R352, R362). -/
def State.sendCaps (s : State) (n : Nat) : State :=
  let l := s.offers n
  let s := (List.range 11).foldl (fun s i => s.wr (pd n) (PD_OFFER.nth i) (l.getD i 0)) s
  ((s.count (pd n) PD_CAPS_N).pdSend n 0 (.sourceCaps (s.is (pd n) PD_STATUS_EPR) l)).pdStep n 1

/-! ### Requests -/

/-- What a Request asks of an object: voltage in mV and current in mA. (log 81, PRESUMED) -/
def rdoAsk (p rdo : Nat) : Nat × Nat :=
  match pdoKind p with
  | 0 | 1 => (pdoHi p, rdo / 2 ^ 10 % 1024 * 10)
  | 2 => (pdoHi p, rdo / 2 ^ 10 % 1024 * 250000 / max 1 (pdoHi p))
  | 3 => (rdo / 2 ^ 9 % 4096 * 20, rdo % 128 * 50)
  | _ => (rdo / 2 ^ 9 % 4096 * 25, rdo % 128 * 50)

/-- The Request for object `pos` at a voltage and current. -/
def rdoFor (pos p v i : Nat) : Nat :=
  pos * 2 ^ 28 + match pdoKind p with
  | 0 | 1 => i / 10 * 2 ^ 10 + i / 10
  | 2 => v * i / 250000 * 2 ^ 10 + v * i / 250000
  | 3 => v / 20 * 2 ^ 9 + i / 50
  | _ => v / 25 * 2 ^ 9 + i / 50

/-- Note the contract that a negotiation is about. -/
def State.pdNote (s : State) (n pos p v i : Nat) : State :=
  let q := pd n
  let s := (((s.wr q PD_PICK pos).wr q PD_PV v).wr q PD_PI i).wr q PD_PKIND (pdoKind p)
  (s.wr q PD_PLO (pdoLo p)).wr q PD_PHI (pdoHi p)

/-- What the sink would draw of an object within PD_SNK_REQ, the cable and the energy limit (R350, R351): voltage and
current, `none` where it may not request it. -/
def State.sinkAsk (s : State) (n i p : Nat) : Option (Nat × Nat) :=
  let q := pd n
  let get := fun f => if s.is q PD_ARMNEG then s.rd q f else s.rdA q f
  let vmax := get PD_SNK_REQ_VOLT * 20
  let imax := min (get PD_SNK_REQ_CURR * 10) (s.cableMa n)
  let k := pdoKind p
  let v := if k < 3 then pdoHi p else min (pdoHi p) vmax
  let allowed := match k with
    | 3 => get PD_SNK_REQ_PPS_OK = 1 && s.is q PD_POLICY_PPS_EN
    | 4 | 5 => get PD_SNK_REQ_AVS_OK = 1 && s.is q PD_POLICY_AVS_EN
    | _ => true
  if p = 0 || !allowed || vmax < v || v < pdoLo p && 3 ≤ k || s.energyFails n (pdoHi p) ||
    (7 ≤ i && !s.is q PD_STATUS_EPR) then none
  else some (v, min imax (pdoMa p (max 1 v)))

/-- The object with the highest power that the sink may request, the lowest-numbered of equals (R360): its index, voltage
and current. (log 82, DEDUCED) -/
def State.sinkPick (s : State) (n : Nat) : Option (Nat × Nat × Nat) :=
  (List.range 11).foldl (fun best i => match s.sinkAsk n i (s.rd (pd n) (PD_CAPS.nth i)), best with
    | some (v, c), none => some (i, v, c)
    | some (v, c), some (j, w, d) => if w * d < v * c then some (i, v, c) else some (j, w, d)
    | none, b => b) none

/-- The sink requests (R350, R351); with no object it may request, nothing is sent and CONTRACT_REFUSED is raised. -/
def State.sendRequest (s : State) (n : Nat) : State :=
  match s.sinkPick n with
  | some (i, v, c) =>
    let p := s.rd (pd n) (PD_CAPS.nth i)
    let r := rdoFor (i + 1) p v c
    ((((s.pdNote n (i + 1) p v c).wr (pd n) PD_RDO r).wr (pd n) PD_PPS_TIME s.clock).pdSend n 0 (.request r)).pdStep n 3
  | none => (((s.raise (pd n) 3).when (s.is (pd n) PD_ARMNEG) fun s => s.pdDisarm n)).pdIdle n

/-! ### The board's budget -/

/-- What a port has been promised of the budget, W: its contract, or its offer while it has none. (log 82, DEDUCED) -/
def State.promised (s : State) (n : Nat) : Nat :=
  if s.rd (pd n) PD_STATUS_STATE != 2 then 0
  else if s.is (pd n) PD_STATUS_CONTRACT then s.rd (pd n) PD_BUDGET_USE_W else s.rd (pd n) PD_BUDGET_ALLOT_W

/-- What the budget leaves for a port, W (R353). -/
def State.budgetLeft (s : State) (n : Nat) : Nat :=
  s.rd (pd 0) PD_BOARD_TOTAL_W - (((List.range 6).filter fun m => m != n).map fun m => s.promised m).sum

/-- The largest power that a port could offer, W. -/
def State.portMax (s : State) (n : Nat) : Nat :=
  ((List.range 11).map fun i =>
    let p := s.rdA (pd n) (PD_SRC_PDO_PDO.nth i)
    watts (pdoHi p) (pdoMa p (max 1 (pdoHi p)))).foldl max 0

/-- Lower the offers of other ports for `need` W (R353): the port whose contract most exceeds its own GUAR_W first. -/
def State.lowerOthers (s : State) (n : Nat) : Nat → Nat → State
  | 0, _ => s
  | fuel + 1, need =>
    let above := fun m => s.rd (pd m) PD_BUDGET_USE_W - s.rd (pd m) PD_BUDGET_GUAR_W
    let ms := (List.range 6).filter fun m => m != n && s.promised m != 0 && s.is (pd m) PD_STATUS_CONTRACT &&
      !s.is (pd m) PD_LOWERED && above m != 0
    match ms with
    | [] => s
    | m :: t =>
      let k := t.foldl (fun b c => if above b < above c then c else b) m
      let cut := min need (above k)
      let s := (s.wr (pd k) PD_BUDGET_ALLOT_W (s.rd (pd k) PD_BUDGET_USE_W - cut)).wr (pd k) PD_LOWERED 1
      let s := s.wrBit (pd k) PD_Q 2 true
      if need ≤ cut then s else s.lowerOthers n fuel (need - cut)

/-- A source port is given its offer (R353). -/
def State.allotPort (s : State) (n : Nat) : State :=
  let a := min 255 (min (s.portMax n) (s.budgetLeft n))
  let g := s.rd (pd n) PD_BUDGET_GUAR_W
  let s := s.wr (pd n) PD_BUDGET_ALLOT_W a
  s.when (decide (a < min g (s.portMax n))) fun s => s.lowerOthers n 6 (min g (s.portMax n) - a)

/-- Freed power is offered again, in port order (R353). (log 82, DEDUCED) -/
def State.rebudget (s : State) : State :=
  (List.range 6).foldl (fun s n =>
    let a := min 255 (min (s.portMax n) (s.budgetLeft n))
    s.when (s.rd (pd n) PD_STATUS_STATE = 2 && s.rd (pd n) PD_BUDGET_ALLOT_W < a &&
        !(s.is (pd n) PD_LOWERED && s.rdBit (pd n) PD_Q 2)) fun s =>
      ((s.wr (pd n) PD_BUDGET_ALLOT_W a).wr (pd n) PD_LOWERED 0).wrBit (pd n) PD_Q 2 true) s

/-- Can the budget give a port GUAR_W (R355)? -/
def State.canGuarantee (s : State) (n : Nat) : Bool := s.rd (pd n) PD_BUDGET_GUAR_W ≤ s.budgetLeft n

/-! ### The choice of mode -/

/-- May a mode be taken (R117): the policy allows it, it has not failed since the attach, and partner and cable support
it? A mode code is its place in the list of R117. -/
def State.modeMay (s : State) (n m : Nat) : Bool :=
  let q := pd n
  let usb4 := fun sp => s.is q PD_ATTACH_USB4 && sp ≤ max 2 (s.rd q PD_SPEED)
  (s.rd q PD_MODES).testBit (m - 1) && !(s.rd q PD_STRUCK).testBit (m - 1) &&
  match m with
  | 1 => s.is q PD_ATTACH_KLOYR && s.is q PD_ATTACH_RATE32
  | 2 => s.is q PD_ATTACH_KH520
  | 3 => usb4 4
  | 4 => usb4 3
  | 5 => usb4 2
  | _ => m = 6 || m = 7

/-- The mode to take next (R117); 0 is USB 2.0 only. -/
def State.modeNext (s : State) (n : Nat) : Nat := (((List.range 7).map fun i => i + 1).find? fun m => s.modeMay n m).getD 0

/-- Moabeuc writes the mode of the lanes, at the basic level. -/
def State.takeMode (s : State) (n m : Nat) : State :=
  let s := s.wr (pd n) PD_TRY 0
  if s.gated (lane n) || s.expert (lane n) then s else (s.wr (pd n) PD_CHOSEN 1).setMode n m

/-- Enter the next mode (R117, R348): the DFP sends Enter Mode or Enter_USB; a UFP waits 100 ms for Enter Mode. Without a
contract only USB 3.2 and USB 2.0 are tried, with no message. -/
def State.enterNext (s : State) (n : Nat) : State :=
  let q := pd n
  let m := s.modeNext n
  if !s.is q PD_STATUS_CONTRACT then s.takeMode n (if m = 6 || m = 7 then m else if s.modeMay n 6 then 6 else if s.modeMay n 7 then 7 else 0)
  else if !s.is q PD_STATUS_DR then s.pdStep n 28
  else if m = 0 then (s.takeMode n 0).pdIdle n
  else
    let s := s.wr q PD_TRY m
    if m ≤ 2 then (s.pdSend n 0 (.enterMode m)).pdStep n 26
    else (s.pdSend n 0 (.enterUsb (if m ≤ 5 then 2 else 1))).pdStep n 27

/-- The mode being tried is struck, and the next one is tried (R117). -/
def State.strike (s : State) (n m : Nat) : State := (s.wrBit (pd n) PD_STRUCK (m - 1) true).enterNext n

/-- Training has ended in FAILED in a mode that Moabeuc chose (R117): the mode is struck, and Moabeuc tries the next. -/
def State.modeFailed (s : State) (n : Nat) : State :=
  s.when (s.rd (lane n) LN_STATUS_STATE = 9 && s.is (pd n) PD_CHOSEN && s.pdBasic n && s.rd (pd n) PD_ST = 0 &&
    s.mode n != 0) fun s => s.strike n (s.mode n)

/-- The tunnel link of the port goes down, and the mode is chosen again (R356, R359). -/
def State.dropMode (s : State) (n : Nat) : State :=
  if s.gated (lane n) then s
  else if s.is (pd n) PD_CHOSEN && !s.expert (lane n) then (s.wr (pd n) PD_CHOSEN 0).setMode n 0
  else s.when (s.linkUp n) fun s => s.restartLanes n

/-! ### Discovery -/

/-- Discovery on SOP (R348): the DFP asks for the partner's identity; a UFP waits for Enter Mode. (log 84, DEDUCED) -/
def State.afterCable (s : State) (n : Nat) : State :=
  if s.is (pd n) PD_STATUS_DR then (s.pdSend n 0 .discoverIdentity).pdStep n 24 else s.pdStep n 28

/-- Discovery begins after the first explicit contract (R348): the cable's by the VCONN source, which the hub asks to
become if it is not. (log 81, PRESUMED; log 84, DEDUCED) -/
def State.discover (s : State) (n : Nat) : State :=
  let s := s.wr (pd n) PD_DISC 1
  if s.is (pd n) PD_STATUS_VCONN then (s.pdSend n 1 .discoverIdentity).pdStep n 21
  else ((s.pdSend n 0 .vconnSwap).pdPhase n 7).pdStep n 13

/-! ### Contracts -/

/-- The negotiation ends without a contract change (R352). -/
def State.pdEndNeg (s : State) (n : Nat) : State :=
  ((s.when (s.is (pd n) PD_ARMNEG) fun s => s.pdDisarm n).wr (pd n) PD_WAITS 0).pdIdle n

/-- The contract's words of a SET_CONTRACT. -/
def State.askContract (s : State) (n phase : Nat) : State :=
  let q := pd n
  s.askSafe n 1 (s.rd q PD_PLO * 65536 + s.rd q PD_PHI) (s.rd q PD_PI) phase

/-- A PS_RDY ends the negotiation (R352): the contract is in place, armed contract settings become active, the budget is
reckoned again, and after the first contract discovery begins. -/
def State.contractDone (s : State) (n : Nat) : State :=
  let q := pd n
  let s := s.askContract n 1
  let s := ((s.wr q PD_STATUS_CONTRACT 1).wr q PD_STATUS_KIND (s.rd q PD_PKIND)).wr q PD_CONTRACT_VOLT (s.rd q PD_PV / 20)
  let s := ((s.wr q PD_CONTRACT_CURR (s.rd q PD_PI / 10)).wr q PD_CONTRACT_OBJ (s.rd q PD_PICK)).wr q PD_RECOVERY 0
  let s := (s.wr q PD_BUDGET_USE_W (min 255 (watts (s.rd q PD_PV) (s.rd q PD_PI)))).wr q PD_WAITS 0
  let s := ((s.wr q PD_KA_TIME s.clock).wr q PD_PPS_TIME s.clock).wr q PD_LOWERED 0
  let s := s.when (s.is q PG_SHADOW_CTRL_ARMED && s.is q PD_ARMNEG) fun s => (s.applyFields q (shFields q)).appliedPage q
  let s := ((s.wr q PD_ARMNEG 0).pdIdle n).setInt q 10
  let s := s.when (s.pdSource n) State.rebudget
  let s := s.when (s.is aon AON_DBAT && s.rd aon AON_DBAT_PORT = n) fun s =>
    if s.rd q PD_POLICY_DBAT_MIN_W ≤ s.rd q PD_BUDGET_USE_W then (s.wr aon AON_DBAT 0).wr q PD_STATUS_STATE 3
    else s.wr q PD_STATUS_STATE 4
  if s.is q PD_DISC then s.when (!s.is q PD_CHOSEN && s.rd (lane n) LN_CTRL_MODE = 0) fun s => s.enterNext n
  else s.discover n

/-- A Request arrives (R351, R353): it is accepted if the object was offered, it stays within it, and energy and budget
allow it; the island opens the transition window first. -/
def State.answerRequest (s : State) (n rdo : Nat) : State :=
  let q := pd n
  let pos := rdo / 2 ^ 28 % 16
  let p := if pos = 0 then 0 else s.rd q (PD_OFFER.nth (pos - 1))
  let (v, i) := rdoAsk p rdo
  let no := fun (s : State) => (s.pdSend n 0 .reject).pdEndNeg n
  let s := s.wr q PD_PPS_TIME s.clock
  if p = 0 || 11 < pos || v < pdoLo p || pdoHi p < v || pdoMa p (max 1 v) < i then no s
  else if s.energyFails n (pdoHi p) || s.budgetLeft n < watts v i then no (s.raise q 3)
  else
    let t := (s.pdNote n pos p v i).askContract n 0
    if t.is safe (SP_STATE_TRANS.nth n) then (t.pdSend n 0 .accept).pdStep n 2 else no (t.raise q 3)

/-! ### Attach, hard reset and Error Recovery -/

/-- The port takes a power role (R347, R355). -/
def State.takeRole (s : State) (n : Nat) (source : Bool) : State :=
  let q := pd n
  let v := if source then 1 else 0
  ((s.wr q PD_STATUS_PR v).wr q PD_STATUS_STATE (if source then 2 else 3)).wr safe (SP_ROLE.nth n) (if source then 1 else 2)

/-- VCONN at a hard reset (R358). -/
def State.hrVconn (s : State) (n : Nat) : State :=
  if !s.is (pd n) PD_ATTACH_ATT_VCONN then s.vconnOff n
  else if s.is safe (SP_STATE_VCONN.nth n) then s.wr (pd n) PD_STATUS_VCONN 1 else s.askSafe n 5 1 0 0

/-- Error Recovery begins (R356): terminations open, switches open, VCONN off; the attach ends after 30 ms. (log 85, DEDUCED) -/
def State.errRecovery (s : State) (n : Nat) : State :=
  let q := pd n
  let s := (((s.openBoth n).endClose n 3).vconnOff n).discharge n
  let s := (((s.voidContract n 900).pdVoid n).pdDisarm n).dropMode n
  let s := ((s.wr safe (SP_ROLE.nth n) 0).wr q PD_Q 0).wr q PD_PEND 0
  (((s.wr q PD_STATUS_STATE 5).pdPhase n 0).pdStep n 30).raise q 9

/-- Clear what an attach has recorded. (log 86, DEDUCED) -/
def State.unattach (s : State) (n : Nat) : State :=
  let q := pd n
  let s := (s.pdVoid n).clearFields q [PD_STATUS_STATE, PD_STATUS_PR, PD_STATUS_DR, PD_STATUS_VCONN, PD_STATUS_SINKTX,
    PD_STATUS_FRS_ARMED, PD_STATUS_PHASE, PD_STATUS_PARTNER_RP, PD_STATUS_ORIENT, PD_ATTACH_VALID, PD_ATTACH_ATT_PR,
    PD_ATTACH_ATT_DR, PD_ATTACH_ATT_VCONN, PD_ATTACH_PD, PD_ATTACH_DRP, PD_ATTACH_KLOYR, PD_ATTACH_KH520, PD_ATTACH_USB4,
    PD_ATTACH_EMARKED, PD_ATTACH_EPR_CABLE, PD_ATTACH_CABLE_5A, PD_ATTACH_RATE32]
  let s := s.clearFields q [PD_ST, PD_Q, PD_PEND, PD_CAPS_N, PD_WAITS, PD_DISC, PD_STRUCK, PD_TRY, PD_SPEED, PD_DRS_DONE,
    PD_SWAPPED, PD_RESP, PD_LOWERED, PD_RECOVERY, PD_BUDGET_ALLOT_W]
  { (s.pdDisarm n).dropMode n with pdLast := s.pdLast.del n }

/-- A hard reset of a port, sent or received (R356 to R358). One within 5 ms of one of the other direction is the same. (log 85, DEDUCED) -/
def State.hardReset (s : State) (n : Nat) (sent : Bool) : State :=
  let q := pd n
  let b := if sent then 1 else 0
  if s.rd q PD_HR_TIME != 0 && s.clock + 1 ≤ s.rd q PD_HR_TIME + 5000000 && s.rd q PD_LAST_HR_SENT != b then s
  else
    let ph := s.rd q PD_STATUS_PHASE
    let now := s.pdSource n
    let att := s.is q PD_ATTACH_ATT_PR
    let s := (s.wr q PD_HR_TIME (s.clock + 1)).count q (if sent then PD_CNT_HR_TX else PD_CNT_HR_RX)
    let s := ((s.wr q PD_LAST_HR_VALID 1).wr q PD_LAST_HR_PHASE ph).wr q PD_LAST_HR_SENT b
    let s := (s.raise q 1).when (decide (1 ≤ ph)) fun s => s.raise q 2
    let s := ((((s.wr q PD_RECOVERY 1).wr q PD_Q 0).wr q PD_PEND 0).pdDisarm n).dropMode n
    let s := ((s.pdVoid n).wr q PD_STATUS_DR (s.rd q PD_ATTACH_ATT_DR)).wr q PD_CAPS_N 0
    let s := ((s.wr q PD_SWAPPED 0).pdPhase n 0).hrVconn n
    let s := (s.takeRole n att).endClose n 3
    let s := s.voidContract n (s.typeC n)
    if att then
      if (ph = 5 || ph = 6) && !s.is glb GLB_SUPPLY_OK then s.errRecovery n
      else
        let s := (s.openBoth n).when (now && 800 < s.rd safe (SP_VBUS.nth n)) fun s => s.discharge n
        (s.setSupply n 5000).pdStep n 29
    else
      let s :=
        if now then (s.openBoth n).discharge n
        else
          let v := s.rd safe (SP_VBUS.nth n)
          s.when (ph = 2 || ph = 3 || v < 4750 || 5500 < v) fun s => s.openBoth n
      (s.askSafe n 2 1 0 0).pdStep n 0

/-- A hard reset goes out (R349), but never on the port whose cable powers a dead board (R360). -/
def State.sendHardReset (s : State) (n : Nat) : State :=
  if s.is aon AON_DBAT && s.rd aon AON_DBAT_PORT = n then s.pdEndNeg n
  else (s.pdSend n 0 .hardReset).hardReset n true

/-- Moabeuc restarts a port whose power path the island holds (R361): Soft_Reset where an explicit contract stands,
otherwise the attach is taken up again. -/
def State.pdRestart (s : State) (n : Nat) : State :=
  let q := pd n
  let role := s.rd safe (SP_ROLE.nth n)
  if role = 0 || s.rd q PD_STATUS_STATE = 6 then s
  else
    let src := role = 1
    let b := if src then 1 else 0
    let s := s.takeRole n src
    let s := s.when (!s.is q PD_ATTACH_VALID) fun s =>
      let s := ((s.wr q PD_ATTACH_VALID 1).wr q PD_ATTACH_ATT_PR b).wr q PD_ATTACH_ATT_DR b
      (s.wr q PD_STATUS_DR b).wr q PD_ATTACH_ATT_VCONN (s.rd safe (SP_STATE_VCONN.nth n))
    let s := s.wr q PD_STATUS_VCONN (s.rd safe (SP_STATE_VCONN.nth n))
    if s.is safe (SP_EXPL.nth n) then ((s.pdSend n 0 .softReset).count q PD_CNT_SR_TX).pdStep n 20
    else s.when src fun s => (s.allotPort n).sendCaps n

end Sys2Proof.Machine
end

