-- ==== Sys2Proof/Machine/Lanes.lean ====
section
/-! DEFINITION. The meanings of the commands of chapter 4: training, equalisation, signal supervision, round-trip measurement, time sync over SBU, margining and eye reports. -/

namespace Sys2Proof.Machine

open Reg

/-- Is the page one of the lane pages? -/
def isLanePage (p : Page) : Bool :=
  match p.kind with
  | .lane | .pelane | .dplane | .ulane | .elane => p.inst < p.kind.count
  | _ => false

/-! ### Starting and failing -/

/-- MODE_CHANGE (R79): a change leaves the present state, is reported, and trains in the new mode. -/
def execModeChange (who : Initiator) (port mode : Nat) (s : State) : Res :=
  .next (s.access who (lane port) LN_CTRL_MODE fun s => (s.wr (pd port) PD_CHOSEN 0).setMode port mode)

/-- RETRAIN (R79, R82). Ignored on a LANE page in mode 0; the other lane pages hand their lanes to the standard's
training. (log 36, DEDUCED) -/
def execRetrain (who : Initiator) (p : Page) (s : State) : Res :=
  if !isLanePage p then .next s
  else .next (s.access who p LN_CTRL_RETRAIN fun s =>
    if p.kind = .lane then (if s.mode p.inst = 0 then s else s.restartLanes p.inst)
    else s.stdRetrain p)

/-- LN_CNT_CLR (R79). -/
def execLnCntClr (who : Initiator) (p : Page) (s : State) : Res :=
  if !isLanePage p then .next s
  else .next (s.access who p LN_CTRL_CNT_CLR fun s => (List.range 8).foldl (fun s i =>
    ((s.wr p (PR_ERR_CNT_SYM_ERR.nth i) 0).wr p (PR_EVENT_CNT_LOS_CNT.nth i) 0).wr p (PR_EVENT_CNT_LOL_CNT.nth i) 0) s)

/-! ### Transmit equalisation -/

/-- EQ_LOAD (R60, R64, R65): coefficients for each transmitting pad. (log 37, DEDUCED) -/
def State.eqLoad (s : State) (port cls : Nat) : State :=
  s.eqPads (lane port) (4 * port) (if s.mode port = 2 then 1 else 0) cls
    ((List.range 4).filter fun p => s.rd (lane port) (PR_STATUS_DIR.nth p) = 1)

/-! ### Stages -/

/-- The pipeline latency this hub sends, ns (R63). -/
def State.pipeNs (s : State) (port : Nat) : Nat := if s.mode port = 2 then 88 else 64

/-- ORIENT completes (R60, R63): polarity and logical lane of each pad, corrected in the receiver. -/
def State.orientDone (s : State) (port inv lmap : Nat) (ccValid ccFlip mismatch : Bool) : State :=
  let l := lane port
  let bit := fun (b : Bool) => if b then 1 else 0
  let laneOf := fun (s : State) p => match s.rd l (PR_STATUS_DIR.nth p) with
    | 1 => p % 2
    | 2 => lmap / 4 ^ p % 4
    | _ => 0
  let s := (((s.wr l LN_ORIENT_VALID 1).wr l LN_ORIENT_CC_VALID (bit ccValid)).wr l LN_ORIENT_CC_FLIP (bit (ccValid && ccFlip))).wr
    l LN_ORIENT_MISMATCH (bit (ccValid && mismatch))
  let s := (s.wr l LN_ORIENT_INV (minus4 inv 3)).wr l LN_ORIENT_LMAP (((List.range 4).map fun p => laneOf s p * 4 ^ p).sum)
  (List.range 4).foldl (fun s p =>
    let s := s.wr l (PR_STATUS_LANE.nth p) (laneOf s p)
    s.when (2 ≤ p) fun s => (s.wr l (PR_STATUS_INV.nth p) (bit (inv.testBit p))).wr l (PR_STATUS_LOCK.nth p) 1) s

/-- RTT completes (R70, R71): the largest of the markers' round trips, and the cable latency rounded up. A round trip
above 32,000 ns fails the stage. TSYNC is skipped unless exactly one end follows (R76). -/
def State.rttDone (s : State) (port : Nat) (markers : List (Nat × Nat × Nat)) (farPipe : Nat) (farFollows : Bool) : State :=
  let l := lane port
  let rtt := markers.foldl (fun m t => max m (t.2.1 - t.1 - t.2.2)) 0
  if 32000 < rtt then s.failStage port 0
  else
    let s := (((s.wr l LN_RTT_VALID 1).wr l LN_RTT_RTT_NS rtt).wr l LN_RTT_CABLE_NS ((rtt - s.pipeNs port - farPipe + 1) / 2)).wr
      l LN_RTT_LONG (if 3000 < rtt then 1 else 0)
    let s := s.when (3000 < rtt) fun s => s.raise l 5
    let me := s.timeRole port = 2
    let s := s.wr l LN_FAR_FOLLOWS (if farFollows then 1 else 0)
    if me = farFollows then
      let s := s.when me fun s => (s.wr l LN_TSYNC_STATUS_LOCKED 0).raise l 3
      s.enterActive port
    else if me && s.is l LN_TSYNC_STATUS_LOCKED then s.enterActive port
    else s.setLanes port 6

/-- TRAIN_STAGE_DONE (R60): the stage the lanes are in completes and the next begins. A report of another stage changes
nothing. A follower ends TSYNC itself, when it locks (R75). (log 40, DEDUCED) -/
def execTrainStageDone (port : Nat) (out : StageOut) (s : State) : Res :=
  let l := lane port
  let st := s.rd l LN_STATUS_STATE
  .next (match out with
  | .detect => s.when (st = 1 && !s.rdBit glb GLB_REFCLK_LOST port) fun s =>
      ((s.wr l (PR_STATUS_SIG.nth 2) 1).wr l (PR_STATUS_SIG.nth 3) 1).setLanes port 2
  | .orient inv lmap v f m => s.when (st = 2) fun s => (s.orientDone port inv lmap v f m).setLanes port 3
  | .eqLoad cls => s.when (st = 3) fun s => (s.eqLoad port cls).setLanes port 4
  | .adapt coefs => s.when (st = 4) fun s =>
      let s := (List.range 4).foldl (fun s p =>
        let (c, v, d) := (coefs[p]?).getD (0, 0, 0)
        if s.rd l (PR_STATUS_DIR.nth p) = 2 then
          let s := ((s.wr l (PR_RXEQ_CTLE.nth p) c).wr l (PR_RXEQ_VGA.nth p) v).wr l (PR_RXEQ_DFE1.nth p) d
          (s.wr l (LN_COEF.nth (2 * p + 1)) (c % 16 * 2 ^ 28 + v % 256 * 2 ^ 20 + d % 256 * 2 ^ 12)).wr l (LN_COEF_VALID.nth (2 * p + 1)) 1
        else if s.is l LN_CTRL_ASYM_PREP && s.rd l (PR_STATUS_LANE.nth p) = 1 then
          (s.wr l (LN_COEF.nth (2 * p)) (c % 16 * 2 ^ 28 + v % 256 * 2 ^ 20 + d % 256 * 2 ^ 12)).wr l (LN_COEF_VALID.nth (2 * p)) 1
        else s) s
      (s.wr l LN_STATUS_ASYM_READY (if s.is l LN_CTRL_ASYM_PREP then 1 else 0)).setLanes port 5
  | .rtt ms far ff => s.when (st = 5) fun s => s.rttDone port ms far ff
  | .tsync => s.when (st = 6 && s.timeRole port != 2) fun s => s.enterActive port)

/-- TRAIN_STAGE_FAIL (R60, R61). -/
def execTrainStageFail (port pads : Nat) (s : State) : Res :=
  let st := s.rd (lane port) LN_STATUS_STATE
  .next (s.when (1 ≤ st && st ≤ 6) fun s => (s.failStage port pads).modeFailed port)

/-- RETRY_WAIT_EXPIRY (R61). -/
def execRetryWaitExpiry (port : Nat) (s : State) : Res :=
  .next (s.when (s.rd (lane port) LN_STATUS_STATE = 8) fun s => s.startLanes port)

/-! ### Signal supervision -/

/-- The link goes down for want of receiving pads (R69). -/
def State.lanesLost (s : State) (port : Nat) : State := (s.restartLanes port)

/-- A detector of a pad fires: 0 LOS, 1 LOL (R69). (log 35, DEDUCED) -/
def State.padEvent (s : State) (p : Page) (pad kind : Nat) : State :=
  let los := PR_EVENT_CNT_LOS_CNT.nth pad
  let lol := PR_EVENT_CNT_LOL_CNT.nth pad
  let now := s.clock + 1
  let near := fun t => t != 0 && now - t ≤ 2000
  let st := s.lnState p
  if p.kind = .dplane || (p.kind = .lane && s.rd p (PR_STATUS_DIR.nth pad) != 2) then s
  else if kind = 0 && near (s.rd p (LN_LOL_TIME.nth pad)) then
    let s := ((s.wr p lol (s.rd p lol - 1)).count p los).wr p (LN_LOL_TIME.nth pad) 0
    let s := s.wr p (LN_LOS_TIME.nth pad) now
    s.when (p.kind = .lane && s.is (link p.inst) LK_DROP_OPEN) fun s => s.wr (link p.inst) LK_LAST_DROP_CAUSE 0
  else if s.is p (PR_STATUS_LP.nth pad) then s
  else if kind = 1 && near (s.rd p (LN_LOS_TIME.nth pad)) then s
  else
    let s := s.wr p ((if kind = 0 then LN_LOS_TIME else LN_LOL_TIME).nth pad) now
    let s := s.wr p ((if kind = 0 then PR_STATUS_SIG else PR_STATUS_LOCK).nth pad) 0
    if p.kind = .lane && 2 ≤ st && st ≤ 6 then (s.count p (if kind = 0 then los else lol)).failStage p.inst 0 |>.modeFailed p.inst
    else if st = 7 then
      let s := (s.count p (if kind = 0 then los else lol)).raise p kind
      if p.kind = .elane then s.lineState p.inst false
      else if p.kind != .lane then s
      else if minus4 (s.rd (link p.inst) LK_STATUS_RX_PADS) (2 ^ pad) = 0 || s.mode p.inst = 2 then s.lanesLost p.inst
      else s.dropRxPad p.inst pad kind
    else s

/-- LOS (R68, R69, R81). (log 35, DEDUCED) -/
def execLos (p : Page) (pad : Nat) (s : State) : Res := .next (if isLanePage p then s.padEvent p pad 0 else s)

/-- LOL (R68, R69, R81). (log 35, DEDUCED) -/
def execLol (p : Page) (pad : Nat) (s : State) : Res := .next (if isLanePage p then s.padEvent p pad 1 else s)

/-- CODEWORD_FRAMING_LOST (R68, R69): handled as LOL. -/
def execCodewordFramingLost (port pad : Nat) (s : State) : Res :=
  .next (s.when (s.kloyr port && s.rd (lane port) LN_STATUS_STATE = 7) fun s => s.padEvent (lane port) pad 1)

/-- LOS_RELEASE (R68). -/
def execLosRelease (p : Page) (pad : Nat) (s : State) : Res :=
  .next (if isLanePage p then s.wr p (PR_STATUS_SIG.nth pad) 1 else s)

/-- FAR_END_RETRAIN (R69): link down, with LOS and LOL neither raised nor counted. -/
def execFarEndRetrain (port : Nat) (s : State) : Res :=
  .next (s.when (s.kloyr port && s.rd (lane port) LN_STATUS_STATE = 7) fun s => s.lanesLost port)

/-- PAD_RECHECK_DONE (R62, R104). A pad being added answers ADD_READY, or DROP when it fails, with PAIR_DROP of cause 4;
a turned pad that fails is dropped with cause 4. -/
def execPadRecheckDone (port pad : Nat) (pass : Bool) (s : State) : Res :=
  let l := link port
  let lm := 2 ^ s.rd (lane port) (PR_STATUS_LANE.nth pad)
  if !(s.kloyr port && s.rd (lane port) LN_STATUS_STATE = 7) then .next s
  else if s.rdBit l LK_ADD_PADS pad then
    if pass then .next (s.queueLink port (pairMsg 3 0 lm 1 0 0 0))
    else .next (((s.queueLink port (pairMsg 1 0 lm 1 0 0 0)).wrBit l LK_ADD_PADS pad false).recordDrop port (2 ^ pad) 4)
  else if !pass && s.rdBit l LK_STATUS_RX_PADS pad then .next (s.dropRxPad port pad 4)
  else .next s

/-- PAD_READD (R104): once LOS and LOL have stayed released for 1 ms, Moabeuc brings a pad dropped by a fault back. -/
def execPadReadd (port pad : Nat) (s : State) : Res :=
  let l := link port
  let dir := if s.rd (lane port) (PR_STATUS_DIR.nth pad) = 1 then 0 else 1
  .next (s.when (s.rd (lane port) LN_STATUS_STATE = 7 && s.mode port = 1 && s.rdBit l LK_OUT_PADS pad &&
      !s.is glb GLB_MOABEUC_HALTED && s.rdBit l LK_PAIR_PAD_EN pad) fun s =>
    (s.queueLink port (pairMsg 2 0 (2 ^ s.rd (lane port) (PR_STATUS_LANE.nth pad)) dir 0 0 0)).wrBit l LK_ADD_PADS pad true)

/-! ### Margining -/

/-- MARGIN_START (R77, R80): ignored while a run is in progress; DPLANE has no sampler (R82). -/
def execMarginStart (who : Initiator) (p : Page) (pad : Nat) (s : State) : Res :=
  if !isLanePage p || p.kind = .dplane then .next s
  else .next (s.access who p (PR_MARGIN_CTRL_START.nth pad) fun s =>
    if s.is p (PR_MARGIN_CTRL_BUSY.nth pad) then s
    else (((s.wr p (PR_MARGIN_CTRL_BUSY.nth pad) 1).wr p (PR_MARGIN_RESULT_DONE.nth pad) 0).wr p
      (PR_MARGIN_RESULT_ABORTED.nth pad) 0).wr p (PR_MARGIN_RESULT_ERRORS.nth pad) 0)

/-- MARGIN_DONE (R77, R80). A run is aborted if its pad is masked or its lanes have left ACTIVE. -/
def execMarginDone (p : Page) (pad : Nat) (aborted : Bool) (errors : Nat) (s : State) : Res :=
  if !isLanePage p || !s.is p (PR_MARGIN_CTRL_BUSY.nth pad) then .next s
  else
    let stop := aborted || s.is p (PR_STATUS_LP.nth pad) || s.lnState p != 7
    let s := s.wr p (PR_MARGIN_CTRL_BUSY.nth pad) 0
    if stop then .next (s.wr p (PR_MARGIN_RESULT_ABORTED.nth pad) 1)
    else .next ((s.wr p (PR_MARGIN_RESULT_DONE.nth pad) 1).wr p (PR_MARGIN_RESULT_ERRORS.nth pad) (min errors (2 ^ 24 - 1)))

/-- EYE_REFRESH (R78): while the pad is active and receiving. (log 116, DESIGN CHOICE) -/
def execEyeRefresh (p : Page) (pad height width worst : Nat) (s : State) : Res :=
  let rx := p.kind != .lane || s.rd p (PR_STATUS_DIR.nth pad) = 2
  .next (s.when (isLanePage p && p.kind != .dplane && rx && s.lnState p = 7) fun s =>
    ((s.wr p (PR_EYE_EYE_H.nth pad) height).wr p (PR_EYE_EYE_W.nth pad) width).wr p (PR_EYE_WORST.nth pad) worst)

/-! ### Time sync -/

/-- SBU_SERVE_FRAME (R73 to R75). A frame with a bad CRC is discarded. The exchange is taken when the frame carries a new
T_RX, the previous serve frame was accepted and a follow edge was sent before the frame's edge arrived: T3 is the latest
of these. -/
def execSbuServeFrame (port type hops epoch tRx stamp : Nat) (crcOk : Bool) (s : State) : Res :=
  let l := lane port
  if !s.kloyr port || s.timeRole port != 2 then .next s
  else if !crcOk then .next (s.wr l LN_PREV_OK 0)
  else if type != 1 && type != 3 then .next s
  else
    let t1 : Nat := epoch % 2 ^ 48 * 65536
    let prev := s.is l LN_PREV_OK
    let p1 : Nat := s.rd l LN_T1_EPOCH * 65536
    let p2 : Nat := s.rd l LN_T2
    let t3 : Nat := if s.rd l LN_T3 < stamp then s.rd l LN_T3 else s.rd l LN_T3_PREV
    let s := (((s.wr l LN_TSYNC_STATUS_HOPS (min 15 (hops + 1))).wr l LN_T1_EPOCH epoch).wr l LN_T2 stamp).wr l LN_PREV_OK 1
    if type = 3 || !prev || t3 = 0 || stamp ≤ t3 then .next s
    else
      let t4 : Int := (t1 : Int) - (((t1 + 2 ^ 32 - tRx % 2 ^ 32) % 2 ^ 32 : Nat) : Int)
      let corr := signed 8 (s.rd l LN_TSYNC_CTRL_ASYM_CORR)
      .next (s.actOffset port ((((p2 : Int) - (p1 : Int)) - (t4 - (t3 : Int)) + corr) / 2))

/-- SBU_FOLLOW_EDGE (R74): the server stamps T4. -/
def execSbuFollowEdge (port stamp : Nat) (crcOk : Bool) (s : State) : Res :=
  .next (s.when (s.kloyr port && s.timeRole port = 1 && crcOk) fun s =>
    (s.wr (lane port) LN_T4 stamp).wr (lane port) LN_T4_NEW 1)

/-- FOLLOW_EDGE_SEND (R74, R75): the edge leaves 8,192 ns after the epoch's start; an exchange that did not complete
since the last edge is missing, and four in a row lose sync. -/
def execFollowEdgeSend (port : Nat) (s : State) : Res :=
  let l := lane port
  let st := s.rd l LN_STATUS_STATE
  if !s.kloyr port || s.timeRole port != 2 || st = 0 || st = 9 || (s.mode port = 2 && s.epoch % 4 != 0) then .next s
  else
    let t3 := s.time.toNat / 2 ^ 14 * 65536 + 32768
    let missed := s.rd l LN_T3 != 0 && !s.is l LN_EXCH
    let n := if missed then min 7 (s.rd l LN_MISSING + 1) else 0
    let s := (((s.wr l LN_T3_PREV (s.rd l LN_T3)).wr l LN_T3 t3).wr l LN_EXCH 0).wr l LN_MISSING n
    let s := s.when missed fun s => s.wr l LN_STREAK 0
    let s := s.when (4 ≤ n && s.is l LN_TSYNC_STATUS_LOCKED) fun s => s.loseSync port
    .next (s.send (.sbu port 2 0 s.epoch 0))

/-- TSYNC_STEP_REQ (R75): STEP reads 1 until the step is taken, at a turnover; on a port that does not follow it has no
effect. -/
def execTsyncStepReq (who : Initiator) (port : Nat) (s : State) : Res :=
  .next (s.access who (lane port) LN_TSYNC_CTRL_STEP fun s =>
    s.when (s.timeRole port = 2) fun s => s.wr (lane port) LN_TSYNC_CTRL_STEP 1)

end Sys2Proof.Machine
end

