-- ==== Sys2Proof/Machine/Link.lean ====
section
/-! DEFINITION. The meanings of the commands of chapter 5: codewords and packets received, acknowledgement, replay and credits, pair sets and turnarounds, low power, and packet boundaries. -/

namespace Sys2Proof.Machine

open Reg

/-- Is a Kloyr link in service: its lanes are in ACTIVE? (log 9, DESIGN CHOICE; log 42, DEDUCED; log 62, DEDUCED) -/
def State.inService (s : State) (port : Nat) : Bool := s.kloyr port && s.rd (lane port) LN_STATUS_STATE = 7

/-- CODEWORD_RX (R84, R86, R103). On a decoded codeword the receiver follows its set; the first codeword of a new set
absorbs a drop. An uncorrectable one loses its packets, and a NAK falls due on a Kloyr link. -/
def execCodewordRx (port cwNum ln setId : Nat) (standby : Bool) (symErrs : Nat) (bad hasHeader : Bool) (s : State) : Res :=
  let l := link port
  let s := (s.padsOf port 2 (2 ^ ln)).foldl (fun s p => s.sat (lane port) (PR_ERR_CNT_SYM_ERR.nth p) symErrs) s
  if bad then
    let s := s.count (linkCnt port) LK_CNT_FEC_UNCORR
    if s.inService port && !standby then .next (((s.wr l LK_RESYNC 1).wr l LK_CW_RX (s.rd l LK_CW_RX + 1)).gap port)
    else .next s
  else
    let s := s.when (symErrs != 0) fun s => s.count (linkCnt port) LK_CNT_FEC_CORR
    if !s.inService port || standby then .next s
    else
      let fresh := s.rd l LK_RX_SET != setId % 16
      let s := (s.wr l LK_RX_SET setId).wr l LK_CW_RX (cwNum + 1)
      let s := s.when hasHeader fun s => s.wr l LK_RESYNC 0
      let s := s.when fresh fun s =>
        let s := s.wr l LK_DROP_SENT 0
        s.when (s.rd l LK_DROP_OPEN = 1) fun s => s.absorbed port
      .next s

/-- PACKET_RX (R88, R93, R97, R101, R139). A malformed packet is counted, and leaves a gap unless it is a LINK packet
whose HCRC passed, and after a failed HCRC nothing is read up to the next FIRST_PKT; a packet ahead of sequence asks for a replay; a duplicate is acknowledged; the expected one is
accepted. A USB4 port has no sequence numbers (R125). (log 42, DEDUCED; log 43, DEDUCED) -/
def execPacketRx (port ty : Nat) (hcrc : Bool) (p : Pkt) (pb : Option Nat) (s : State) : Res :=
  let l := link port
  if s.inService port && s.is l LK_RESYNC then .next s
  else if s.malformed port ty hcrc p then
    let s := (s.count (linkCnt port) LK_CNT_MALFORMED).raise l 7
    if !s.inService port then .next s
    else
      let s := s.when (!hcrc || ty != 3) fun s => s.gap port
      .next (s.when (!hcrc) fun s => s.wr l LK_RESYNC 1)
  else if s.usb4 port && s.linkUp port then
    .next ((s.count (linkCnt port) LK_CNT_RX_PKT).dataRx port false p none)
  else if !s.inService port || ty = 3 then .next s
  else
    let d := (p.seq + 4096 - s.rd l LK_SEQ_NEXT_RX) % 4096
    let s := if s.mode port = 2 then match pb with
        | some a => s.ackUpTo port a
        | none => s
      else s
    if d = 0 then
      let s := s.acceptSeq port
      .next (if ty = 1 then s.dataRx port true p pb else s.ctrlRx port p)
    else if d < 2048 then .next ((s.count (linkCnt port) LK_CNT_GAP_DISCARD).when (!s.is l LK_GAP) fun s => s.gap port)
    else .next ((s.count (linkCnt port) LK_CNT_DUP_DISCARD).wr l LK_ACK_DUE 1)

/-- ACK_RX (R94, R96). -/
def execAckRx (port seq : Nat) (s : State) : Res :=
  .next (if s.inService port then s.ackUpTo port seq else s)

/-- NAK_RX (R94, R96): it acknowledges as an ACK does, and every packet still held is sent again. -/
def execNakRx (port : Nat) (ackV : Bool) (seq : Nat) (s : State) : Res :=
  if !s.inService port then .next s
  else
    let s := s.count (linkCnt port) LK_CNT_NAK_RX
    let s := s.when ackV fun s => s.ackUpTo port seq
    .next (s.startReplay port)

/-- CREDIT_RX (R98). -/
def execCreditRx (port : Nat) (entries : List (Nat × Nat)) (s : State) : Res :=
  .next (if s.inService port then entries.foldl (fun s e => s.creditEntryRx port e) s else s)

/-- PAIR_DROP_RX (R91, R103, R104). With DIR = 1 this end transmits the lanes: it stops using them at its next packet
boundary. With DIR = 0 the far end does, and this end masks the pads. A pad that was to be added stays out. In KH520
legacy mode a lane fault takes the link down (R110). -/
def execPairDropRx (port lmask dir : Nat) (s : State) : Res :=
  let l := link port
  if !s.inService port then .next s
  else if s.mode port = 2 then .next (s.retrainLink port 0)
  else
    let ps := s.padsOf port (if dir = 1 then 1 else 2) lmask
    let adding := ps.filter fun p => s.rdBit l LK_ADD_PADS p
    let s := adding.foldl (fun s p => s.wrBit l LK_ADD_PADS p false) s
    let s := s.when (!adding.isEmpty) fun s => s.recordDrop port (padMask adding) 4
    let live := ps.filter fun p => s.rdBit l (if dir = 1 then LK_STATUS_TX_PADS else LK_STATUS_RX_PADS) p
    if live.isEmpty then .next s
    else
      let s := s.recordDrop port (padMask live) 2
      let s := live.foldl (fun s p => s.maskPad port p true) s
      if dir = 1 then
        .next ((s.changeTxSet port (minus4 (s.rd l LK_STATUS_TX_PADS) (padMask live))).wr l LK_DROP_OPEN 2)
      else .next (s.wr l LK_STATUS_RX_PADS (minus4 (s.rd l LK_STATUS_RX_PADS) (padMask live)))

/-- ADD_REQ_RX (R104). The end that receives on the lanes starts their re-check; the end that transmits sends STANDBY
codewords on them. KH520 legacy mode refuses with DROP (R110). (log 44, DEDUCED) -/
def execAddReqRx (port lmask dir : Nat) (s : State) : Res :=
  let l := link port
  if !s.inService port then .next s
  else if s.mode port = 2 then .next (s.queueLink port (pairMsg 1 0 lmask (if dir = 1 then 0 else 1) 0 0 0))
  else
    let ps := (s.padsOf port (if dir = 1 then 1 else 2) lmask).filter fun p => s.rdBit l LK_OUT_PADS p
    .next (ps.foldl (fun s p => s.wrBit l LK_ADD_PADS p true) s)

/-- ADD_READY_RX (R104): the transmitting end adds the lanes from its next round. -/
def execAddReadyRx (port lmask dir : Nat) (s : State) : Res :=
  if !s.inService port then .next s
  else
    let ps := (s.padsOf port (if dir = 1 then 1 else 2) lmask).filter fun p => s.rdBit (link port) LK_ADD_PADS p
    .next (if ps.isEmpty then s else s.addTxPads port ps)

/-- PAIR_SET_RX (R91): the set of the far end's direction from FROM_CW on. Pads that come back into it are counted as
added. -/
def execPairSetRx (port newSet lmask fromCw : Nat) (s : State) : Res :=
  let l := link port
  if !s.inService port then .next s
  else
    let ps := s.padsOf port 2 lmask
    let back := ps.filter fun p => s.rdBit l LK_OUT_PADS p
    let s := (s.wr l LK_STATUS_RX_PADS (padMask ps)).wr l LK_CW_RX fromCw
    let s := back.foldl (fun s p => (((s.wrBit l LK_OUT_PADS p false).wrBit l LK_ADD_PADS p false).maskPad port p false).count
      (linkCnt port) LK_CNT_PAIR_ADD) s
    let s := s.when (s.rd l LK_DROP_OPEN = 1) fun s => s.absorbed port
    .next ((s.wr l LK_RX_SET newSet).wr l LK_DROP_SENT 0)

/-- TURN_PREP received (R105, step 2; R110): answered at once when this end's LK_SET is armed or the link is in KH520
legacy mode, otherwise when an arm is accepted or epoch E − 1 begins. -/
def execTurnPrep (port target set : Nat) (s : State) : Res :=
  let l := link port
  if !s.inService port then .next s
  else
    let s := ((s.wr l LK_PREP_VALID 1).wr l LK_PREP_TARGET target).wr l LK_PREP_SET set
    .next (if s.is l PG_SHADOW_CTRL_ARMED || s.mode port = 2 then s.turnAnswer port else s)

/-- TURN_OK received (R105): it confirms the armed LK_SET. -/
def execTurnOk (port target : Nat) (s : State) : Res :=
  let l := link port
  .next (s.when (s.inService port && s.is l PG_SHADOW_CTRL_ARMED && s.rd l PG_SHADOW_CTRL_TARGET = target % 65536)
    fun s => s.wr l LK_STATUS_TURN_OK 1)

/-- TURN_NAK received (R105, step 3): the armed LK_SET is disarmed without applying, and TURN_ABORT is raised. -/
def execTurnNak (port : Nat) (s : State) : Res := .next (s.turnAbort port)

/-- JOIN_FAIL received (R105, step 8): the widening end drops the turned lane at its next packet boundary. (log 44, DEDUCED) -/
def execJoinFail (port : Nat) (s : State) : Res :=
  let l := link port
  if !s.inService port then .next s
  else
    let p := s.rd l LK_TURN_PAD
    if !s.rdBit l LK_STATUS_TX_PADS p then .next s
    else
      let s := (s.recordDrop port (2 ^ p) 4).maskPad port p true
      .next ((s.changeTxSet port (minus4 (s.rd l LK_STATUS_TX_PADS) (2 ^ p))).wr l LK_DROP_OPEN 2)

/-- LP_REQ received (R108): two requests that cross acknowledge each other at the shallower depth; otherwise LP_ACK if
this end is as idle, and LP_NAK if not. -/
def execLpReq (port depth : Nat) (s : State) : Res :=
  let l := link port
  if !s.inService port then .next s
  else
    let mine := s.rd l LK_LP_SENT
    if mine != 0 then .next (((s.wr l LK_LP_SENT 0).wr l LK_LP_DEPTH (min mine depth)).wr l LK_STATUS_STATE 4)
    else if s.lpReady port then
      let d := min depth (s.lpMax port)
      .next (((s.queueLink port (.lp 2 d)).wr l LK_LP_DEPTH d).wr l LK_STATUS_STATE 4)
    else .next (s.queueLink port (.lp 3 0))

/-- LP_ACK received (R108): the link goes quiet at its next packet boundary. -/
def execLpAck (port depth : Nat) (s : State) : Res :=
  let l := link port
  .next (s.when (s.inService port && s.rd l LK_LP_SENT != 0) fun s =>
    ((s.wr l LK_LP_SENT 0).wr l LK_LP_DEPTH depth).wr l LK_STATUS_STATE 4)

/-- LP_NAK received (R108, R112): the entry is abandoned; a request of this hub was refused. -/
def execLpNak (port : Nat) (s : State) : Res :=
  let l := link port
  if !s.inService port then .next s
  else
    let s := s.when (s.rd l LK_LP_SENT != 0) fun s => (s.wr l LK_LP_SENT 0).raise l 10
    .next (s.when (s.rd l LK_STATUS_STATE = 4) fun s => (s.wr l LK_STATUS_STATE 1).wr l LK_LP_DEPTH 0)

/-- TX_PACKET_BOUNDARY (R92, R96, R104, R198). -/
def execTxPacketBoundary (port : Nat) (s : State) : Res := .next (s.boundary port)

/-- ACK_DUE (R94): an acknowledgement goes out at the next packet boundary. -/
def execAckDue (port : Nat) (s : State) : Res :=
  .next (s.when (s.inService port && s.rd (link port) LK_UNACK_RX != 0) fun s => s.wr (link port) LK_ACK_DUE 1)

/-- NAK_REPEAT (R93): the NAK is repeated while the expected packet has not arrived. -/
def execNakRepeat (port : Nat) (s : State) : Res :=
  .next (s.when (s.inService port && s.is (link port) LK_GAP) fun s => s.wr (link port) LK_NAK_DUE 1)

/-- REPLAY_TIMEOUT (R96). (log 8, DESIGN CHOICE) -/
def execReplayTimeout (port : Nat) (s : State) : Res := .next (s.when (s.inService port) fun s => s.startReplay port)

/-- CREDIT_TIMER (R99): an update falls due for the pool and for every path with credits freed since its last one. -/
def execCreditTimer (port : Nat) (s : State) : Res :=
  if !s.inService port then .next s
  else
    let s := s.when (s.rd (link port) LK_CP_FREED != 0) fun s => s.dueCredit port 0
    let ks := s.entries.filter fun k => s.rd (path k) PT_W0_IN_PORT = port && s.rd (path k) PT_FREED != 0
    .next (ks.foldl (fun s k => s.dueCredit port (s.rd (path k) PT_W0_IN_PATH_ID)) s)

/-- CREDIT_REFRESH (R99): an update for every path of the port that has an allocation, and for the pool. -/
def execCreditRefresh (port : Nat) (s : State) : Res :=
  if !s.inService port then .next s
  else
    let ks := s.entries.filter fun k => s.rd (path k) PT_W0_IN_PORT = port && s.rd (path k) PT_W3_ALLOC != 0 &&
      (s.rd (path k) PT_W0_STATE = 1 || s.rd (path k) PT_W0_STATE = 3)
    .next (ks.foldl (fun s k => s.dueCredit port (s.rd (path k) PT_W0_IN_PATH_ID)) (s.dueCredit port 0))

/-- TURN_PAD_LOCK (R105, steps 6 and 8): the narrowing end loads the pad's stored receiver coefficients and joins it;
if it has not locked when lane data arrives, JOIN_FAIL goes out with a NAK and the pad stays out. -/
def execTurnPadLock (port : Nat) (locked : Bool) (s : State) : Res :=
  let l := link port
  if !s.inService port || s.rd l LK_TURN_STEP != 1 then .next s
  else
    let p := s.rd l LK_TURN_PAD
    let s := (s.wr l LK_TURN_STEP 0).wr l LK_STATUS_JOINING 0
    if locked then
      let c := s.rd (lane port) (LN_COEF.nth (2 * p))
      let s := ((s.wr (lane port) (PR_RXEQ_CTLE.nth p) (c / 2 ^ 28)).wr (lane port) (PR_RXEQ_VGA.nth p) (c / 2 ^ 20)).wr
        (lane port) (PR_RXEQ_DFE1.nth p) (c / 2 ^ 12)
      let s := (s.wr (lane port) (PR_STATUS_LOCK.nth p) 1).maskPad port p false
      .next ((s.wrBit l LK_STATUS_RX_PADS p true).count (linkCnt port) LK_CNT_TURN)
    else
      let s := s.queueLink port (pairMsg 8 0 (2 ^ s.rd (lane port) (PR_STATUS_LANE.nth p)) 0 0 0 0)
      .next (((s.recordDrop port (2 ^ p) 4).wr l LK_DROP_OPEN 1).gap port)

/-- TURN_WIDEN (R105, step 7): the widening end sends SET for the full wide set and adds the turned lane. -/
def execTurnWiden (port : Nat) (s : State) : Res :=
  let l := link port
  if !s.inService port || s.rd l LK_TURN_STEP != 2 then .next s
  else
    let p := s.rd l LK_TURN_PAD
    let s := ((s.wr l LK_TURN_STEP 0).wr l LK_STATUS_JOINING 0).maskPad port p false
    .next ((s.changeTxSet port (setBit (s.rd l LK_STATUS_TX_PADS) p true)).count (linkCnt port) LK_CNT_TURN)

/-- LP_IDLE_EXPIRY (R108): the link asks for its deepest low-power state. -/
def execLpIdleExpiry (port : Nat) (s : State) : Res :=
  .next (s.when (s.inService port && s.lpReady port && s.rd (link port) LK_LP_SENT = 0) fun s =>
    (s.queueLink port (.lp 1 (s.lpMax port))).wr (link port) LK_LP_SENT (s.lpMax port))

/-- LINK_WAKE (R106, R109). -/
def execLinkWake (port : Nat) (s : State) : Res := .next (s.when (s.inService port) fun s => s.wakeLink port)

/-- LP_WAKE_DETECT (R109, R386): the far end wakes; wakes of both ends merge into one exit. -/
def execLpWakeDetect (port : Nat) (s : State) : Res :=
  let l := link port
  if !s.inService port then .next s
  else
    let st := s.rd l LK_STATUS_STATE
    if st = 2 || st = 3 then .next ((s.wr l LK_STATUS_STATE 5).wake 9 port 0)
    else .next (s.when (st = 5 && s.is l LK_OWN_WAKE) fun s => s.count (linkCnt port) LK_CNT_WAKE_MERGED)

/-- LP_EXIT_DONE (R107, R109). -/
def execLpExitDone (port : Nat) (s : State) : Res :=
  let l := link port
  .next (s.when (s.inService port && s.rd l LK_STATUS_STATE = 5) fun s =>
    let s := (s.wr l LK_STATUS_STATE 1).wr l LK_OWN_WAKE 0
    (List.range 4).foldl (fun s p => s.when (!s.rdBit l LK_OUT_PADS p) fun s => s.maskPad port p false) s)

/-- LK_CNT_CLR (R113). -/
def execLkCntClr (who : Initiator) (port : Nat) (s : State) : Res :=
  .next (s.access who (linkCnt port) LK_CNT_CLR_CLR fun s =>
    s.clearFields (linkCnt port) (PageKind.linkCnt.blockFields.filter fun f => f.acc = .ro))

end Sys2Proof.Machine
end

