-- ==== Sys2Proof/Machine/Memory.lean ====
section
/-! DEFINITION. The commands of the DRAM controller (R333 to R338, R341, R342 of spec/14_ethernet_and_memory.md). -/

namespace Sys2Proof.Machine

open Reg

/-! ### Training -/

/-- USABLE in MiB from what training found (R333). -/
def usableMib (installed ecc : Nat) : Nat := if ecc = 1 then installed * 7 / 8 else installed

/-- The controller answers requests: what has waited for it goes on. -/
def State.memReady (s : State) (restored : Bool) : State :=
  let s := s.wr memp MEM_CAP_USABLE (usableMib (s.rd memp MEM_INSTALLED) (s.rd memp MEM_ECC_ACT))
  let s := ((s.wr memp MEM_STATUS_RESTORED (if restored then 1 else 0)).wr memp MEM_STATUS_FAIL_CH 0).memState 2
  (List.range 4).foldl (fun s n => s.cmdGo n) s

/-- DRAM_TRAINING (R334): the stored results are restored where the contents are kept and the check passes, otherwise
training runs in full, and a channel that fails it puts the controller in FAILED. (log 90, DEDUCED) -/
def execDramTraining (stored : Bool) (failed : Nat) (s : State) : Res :=
  let st := s.rd memp MEM_STATUS_STATE
  .next (s.when (!s.gated memp && (st = 0 || st = 1 || st = 5)) fun s =>
    if stored && s.is memp MEM_TRAINED && !s.is aon AON_DRAM_LOST then s.memReady true
    else if failed != 0 then
      let s := ((s.memState 5).wr memp MEM_STATUS_FAIL_CH failed).wr memp MEM_TRAINED 0
      let s := s.memq.foldl (fun s r => (s.send (.memData r.2.client false (List.replicate r.2.len 0))).addrErr) s
      { s with memq := [] }.raise memp 3
    else
      let cap := s.rd memp MEM_CFG_CAP
      let s := (s.wr memp MEM_INSTALLED (if cap = 2 then 32768 else if cap = 1 then 16384 else 8192)).wr memp MEM_ECC_ACT
        (s.rd memp MEM_CFG_INLINE_ECC)
      let s := s.when (s.is aon AON_DRAM_LOST) fun s =>
        { s with dram := [] }.wr aon AON_DRAM_LOST 0
      (s.wr memp MEM_TRAINED 1).memReady false)

/-- DQS_CHECK (R334): write DQ is retrained inside refresh windows, and clients do not see it. -/
def execDqsCheck (s : State) : Res := .next s

/-! ### Arbitration -/

/-- Units of 64 B that a request moves. -/
def memUnits (r : MemReq) : Nat :=
  (max 1 (match r.write with | some b => b.length | none => r.len) + 63) / 64

/-- A client's current tolerance in ns (R337): its last report less the time since; Marionette's is 0 once its oldest
request has waited MGMT_AGE µs. -/
def State.tolNow (s : State) (k : Nat) : Nat :=
  if k = 7 then
    match s.memq.find? fun r => r.2.client = 7 with
    | some r => if r.1 + orOne (s.rd memp MEM_ARB_MGMT_AGE) * 1000 ≤ s.clock then 0 else 128 * 0xFFFFF
    | none => 128 * 0xFFFFF
  else match s.memDeadline k with
    | some d => d - s.clock
    | none => 128 * 0xFFFFF

/-- Has a client a request waiting? -/
def State.memHas (s : State) (k : Nat) : Bool := s.memq.any fun r => r.2.client % 8 = k

/-- The urgent client to serve, the lowest tolerance first (R337). -/
def State.memUrgent (s : State) : Option Nat :=
  let ks := (List.range 8).filter fun k => s.memHas k && s.tolNow k < 128 * s.rd memp MEM_ARB_URG
  match ks with
  | [] => none
  | k :: t => some (t.foldl (fun b c => if s.tolNow c < s.tolNow b then c else b) k)

/-- Deficit round robin in units of 64 B, weighted (R337): the client served next, with its deficit and turn noted. -/
def State.memDrr (s : State) : Nat → State × Nat
  | 0 => (s, ((s.memq.head?.map fun r => r.2.client).getD 0) % 8)
  | fuel + 1 =>
    let k := s.rd memp MEM_RR
    let d := s.rd memp (MEM_DEFICIT.nth k)
    let next := fun (s : State) => s.wr memp MEM_RR ((k + 1) % 8)
    match s.memq.find? fun r => r.2.client % 8 = k with
    | none => State.memDrr (next (s.wr memp (MEM_DEFICIT.nth k) 0)) fuel
    | some r =>
      if memUnits r.2 ≤ d then (s.wr memp (MEM_DEFICIT.nth k) (d - memUnits r.2), k)
      else
        let s := s.wr memp (MEM_DEFICIT.nth k) (d + orOne (s.rd memp (MEM_CLIENT_WEIGHT.nth k)))
        State.memDrr (next s) fuel

/-- An uncorrectable read (R342): recorded, and what its client does. -/
def State.memUe (s : State) (r : MemReq) : State :=
  let s := ((s.wr memp MEM_LAST_UE_LO_ADDR_LO (r.addr / 64)).wr memp MEM_LAST_UE_LO_CLIENT r.client).wr memp
    MEM_LAST_UE_HI_ADDR_HI (r.addr / 2 ^ 32)
  let s := (s.count memp MEM_CNT_UE).raise memp 1
  match r.client with
  | 4 => s.rxDrop 0
  | 5 => s.rxDrop 1
  | 6 | 7 => s
  | k => s.count (disp k) DISP_CNT_UNDERRUN

/-- Serve one request: a write reaches the memory, a read returns its bytes. -/
def State.memServe (s : State) (r : MemReq) (ecc : EccEvt) : State :=
  match r.write with
  | some b => (s.memWrite r.client r.addr b).when (ecc = .link) fun s => (s.count memp MEM_CNT_LINK).raise memp 2
  | none =>
    let bytes := s.memBytes r.addr r.len
    let s := s.memRead r.client r.addr r.len
    match ecc with
    | .clean => s.send (.memData r.client false bytes)
    | .link => ((s.count memp MEM_CNT_LINK).raise memp 2).send (.memData r.client false bytes)
    | .ce => ((s.count memp MEM_CNT_CE).raise memp 0).send (.memData r.client false bytes)
    | .ue => (s.memUe r).send (.memData r.client true (if r.client = 6 then List.replicate r.len 0 else bytes))

/-- DRAM_REQUEST (R337): the requests of this clock join the queue, and one is served. While the DRAM is off or trains they
wait. (log 90, DEDUCED) -/
def execDramRequest (new : List MemReq) (ecc : EccEvt) (s : State) : Res :=
  let s := { s with memq := s.memq ++ new.map fun (r : MemReq) => (s.clock, { r with client := r.client % 8 }) }
  .next (
    if s.memq.isEmpty || !(s.dramUp || s.rd memp MEM_STATUS_STATE = 5) then s
    else
      let total := (s.memq.map fun r => memUnits r.2).sum
      let (s, k) := match s.memUrgent with
        | some k => (s, k)
        | none => s.memDrr (8 * (total + 1) + 8)
      match s.memq.find? fun r => r.2.client = k with
      | some r => ({ s with memq := s.memq.erase r }).memServe r.2 ecc
      | none => s)

/-! ### Low power -/

/-- SR_ENTER as it acts. -/
def State.srEnter (s : State) : Nat := max 500 (s.rd memp MEM_SR_CFG_SR_ENTER)

/-- SR_EXIT as it acts. -/
def State.srExit (s : State) : Nat := max 3000 (s.rd memp MEM_SR_CFG_SR_EXIT)

/-- SR_ENTRY (R338). -/
def execSrEntry (s : State) : Res :=
  let st := s.rd memp MEM_STATUS_STATE
  .next (s.when (!s.gated memp && (st = 2 || st = 3) && s.memq.isEmpty && s.is memp MEM_SR_CFG_SR_EN &&
    s.slackAtLeast (s.srEnter + s.srExit)) fun s => s.memState 4)

/-- PD_ENTRY (R338): PD_EXIT is 250 ns. -/
def execPdEntry (s : State) : Res :=
  .next (s.when (!s.gated memp && s.rd memp MEM_STATUS_STATE = 2 && s.memq.isEmpty && s.is memp MEM_SR_CFG_PD_EN &&
    s.rd memp MEM_BUSY + 64 ≤ s.clock && s.slackAtLeast 250) fun s => s.memState 3)

/-- SR_EXIT (R338): a request waits, or the earliest deadline is near. -/
def execSrExit (s : State) : Res :=
  let st := s.rd memp MEM_STATUS_STATE
  let lim := if st = 4 then s.srExit else 250
  .next (s.when (!s.gated memp && (st = 3 || st = 4) && (!s.memq.isEmpty || !s.slackAtLeast (lim + 1))) fun s => s.memState 2)

/-- MEM_CNT_CLR (R341). -/
def execMemCntClr (who : Initiator) (s : State) : Res :=
  .next (s.access who memp MEM_CNT_CLR_CLR fun s => s.clearFields memp [MEM_CNT_CE, MEM_CNT_UE, MEM_CNT_LINK])

end Sys2Proof.Machine
end

