-- ==== Sys2Proof/Machine/PowerOps.lean ====
section
/-! DEFINITION. Power-state entries and exits and the wide resets (spec/17_power_states_and_reset.md). -/

namespace Sys2Proof.Machine

open Reg

/-! ### What is lost -/

/-- What the islands other than AON and SAFE hold in queues and buffers is lost. -/
def State.dropData (s : State) : State :=
  { s with
    time := 0, replay := [], linkq := [], creditDue := [], waiting := [], flows := [], progs := [], queues := [], rel := []
    relOrder := [], dead := [], staged := [], mcSh := [], mcAct := [], capture := [], capDrain := [], ctrlIn := []
    ctrlLocal := [], reqs := [], endedReads := [], remq := [], prefetch := [], smb := none, heldReqs := [], hopq := [], events := [], pcas := [], disps := [], eths := [], memq := []
    pdRx := [], pdLast := [], eqTable := [], usb := Usb.empty, cfg := [], dbgResp := [], spdm := [] }

/-- Is a class lost by a reset of every island except AON and SAFE (R396)? Sticky registers are lost by Yo-yo and Off
only, where the image keeps them. -/
def lostByReset (sticky : Bool) (c : Cls) : Bool :=
  match c with
  | .ordinary | .block | .link | .meas | .keySlot | .boot => true
  | .sticky => sticky
  | .aon | .safeCfg => false

/-- Every island except AON and SAFE loses its state (R394, R396). -/
def State.wipe (s : State) (sticky : Bool) : State := (s.resetWhere fun _ c => lostByReset sticky c).dropData

/-- Are the supplies of the islands other than AON and SAFE in range (R390, R391)? -/
def State.railsUp (s : State) : Bool := s.rd aon AON_SUPPLY_STS_IN_RANGE % 256 = 255

/-- A start of the islands shows in BIST_LB_STS that no logic BIST has run; where one is due and the OTP asks for it, it
begins, but for a dead board (R432). -/
def State.lbistStart (s : State) : State :=
  let due := s.is aon AON_LBIST_DUE && (Mem.read 0 s.otp 0x500).toNat.testBit 0
  let s := s.clearFields bist [BIST_LB_STS_RAN, BIST_LB_STS_PASS, BIST_LB_STS_RETRIED, BIST_LB_STS_SKIP_DBAT]
  let s := s.wr aon AON_LBIST_DUE 0
  if !due then s
  else if s.is aon AON_DBAT then s.wr bist BIST_LB_STS_SKIP_DBAT 1
  else s.wr glb GLB_LBIST_RUNNING 1

/-- The islands are powered in the order of R392, each once its supplies are in range; a dead board stops after MGMT. -/
def State.powerIslands (s : State) : State :=
  let safeUp := 256 ≤ s.rd aon AON_SUPPLY_STS_IN_RANGE
  let s := if safeUp then s else s.stopIsland 1
  if !s.railsUp then s.wr glb GLB_ISL_PWR_PWR (if safeUp then 3 else 1)
  else (s.wr glb GLB_ISL_PWR_PWR (if s.is aon AON_DBAT then 7 else 63)).lbistStart

/-- Record a reset (R395, R398). -/
def State.recordReset (s : State) (last src : Nat) : State :=
  ((s.wr glb GLB_RST_CAUSE_VALID 1).wr glb GLB_RST_CAUSE_LAST last).wr glb GLB_RST_CAUSE_SRC src

/-- A power-state entry or exit in progress ends, and the sequencer restarts from D0 (R395). -/
def State.endSequence (s : State) : State :=
  let s := s.clearFields aon [AON_ENT_STEP, AON_ENT_TARGET, AON_ENT_FORCED, AON_ENT_THERM, AON_EXIT_WAIT, AON_EXIT_TRIED,
    AON_PINS_FLOAT]
  (((s.setPs 0).drive 1 true).drive 2 true).drive 3 true

/-- Sample the straps (R1): ROLE = 0b11 is an error. -/
def State.sampleStraps (s : State) (role : Nat) (boot dbat : Bool) : State :=
  let s := ((s.wr glb GLB_STRAP_ROLE role).wr glb GLB_STRAP_BOOT (if boot then 1 else 0)).wr glb GLB_STRAP_DBAT
    (if dbat then 1 else 0)
  if role = 3 then (s.wr glb GLB_STRAP_STRAP_ERR 1).raise glb 1 else s.wr glb GLB_STRAP_STRAP_ERR 0

/-- The OTP control word comes into force, and the count of debug refusals starts again (R402, R417). -/
def State.loadLocks (s : State) : State :=
  (s.wr sec SEC_LOCKS_CTRL (Mem.read 0 s.otp 0xD0).toNat).wr sec SEC_DBG_CTRL_FAILS 0

/-- A pin reset (R394): every island except AON and SAFE, DRAM contents lost, the pad hold released. (log 96, DEDUCED) -/
def State.pinReset (s : State) (last : Nat) : State :=
  let s := (s.recordReset last 0).endSequence.wipe false
  let s := ((s.wr aon AON_DRAM_LOST 1).wr memp MEM_TRAINED 0).wr aon AON_PAD_HELD 0
  (((s.wr aon AON_FANS_LOW 0).wr aon AON_WDT_TIME s.clock).wr aon AON_LBIST_DUE 1).loadLocks.powerIslands

/-- A chip software reset (R394): DRAM goes to self-refresh first and keeps its contents, straps are kept. -/
def State.chipReset (s : State) (who : Initiator) : State :=
  let s := (s.recordReset 3 (initCode who)).count glb GLB_RST_CNT_CHIP
  ((s.endSequence.wipe false).wr aon AON_WDT_TIME s.clock).powerIslands

/-- An MGMT reset (R394): the Marionette cores, their memory and the MBX page. (log 109, DEDUCED) -/
def State.mgmtReset (s : State) (last src : Nat) : State :=
  let s := (s.recordReset last src).count glb GLB_RST_CNT_MGMT
  let s := s.resetWhere fun p c => c = .meas || c = .boot ||
    ((p.kind = .mbx || p.kind = .mbch) && (c = .ordinary || c = .block))
  let s := s.when (s.sliceIn fun g => groupIsland g = 2) State.sliceAbort
  let s := { s with events := [], heldReqs := [], hopq := [], spdm := [], cfg := [] }
  ((s.wr glb GLB_MOABEUC_HALTED 0).setRst 2 true).wr aon AON_WDT_TIME s.clock

/-! ### Low-power links -/

/-- Is the trained link of a tunnel port in a low-power state (R379)? `usb4` is the mask of USB4 links in CL0s to CL2. -/
def State.portLow (s : State) (usb4 n : Nat) : Bool :=
  if s.kloyr n then s.rd (link n) LK_STATUS_STATE = 2 || s.rd (link n) LK_STATUS_STATE = 3 else s.usb4 n && usb4.testBit n

/-- Is some tunnel port trained? -/
def State.portTrained (s : State) : Bool := (List.range 6).any s.linkUp

/-- Does D1 hold (R379)? -/
def State.allLow (s : State) (usb4 : Nat) : Bool :=
  let pe := (List.range 4).filter fun l => s.is pcie (PE_LINK_STS_DL_ACTIVE.nth l)
  (List.range 6).all (fun n => !s.linkUp n || s.portLow usb4 n) &&
  pe.all (fun l => 5 ≤ s.rd pcie (PE_LINK_STS_LTSSM.nth l) && s.rd pcie (PE_LINK_STS_LTSSM.nth l) ≤ 7) &&
  (s.portTrained || !pe.isEmpty)

/-- The trained PCIe links show the LTSSM states of R254 that they are in, one nibble each. -/
def State.showLtssm (s : State) (m : Nat) : State :=
  (List.range 4).foldl (fun s l => s.when (s.is pcie (PE_LINK_STS_DL_ACTIVE.nth l)) fun s =>
    s.wr pcie (PE_LINK_STS_LTSSM.nth l) (m / 16 ^ l % 16)) s

/-! ### Entries -/

/-- Is a presented USB upstream not suspended (R380)? One that is detached or off has no traffic. (log 91, DEDUCED) -/
def State.usbAwake (s : State) : Bool :=
  let awake := fun (en hs ss : Field) => s.is uhub en &&
    !((s.rd uhub hs = 0 || s.rd uhub hs = 2) && (s.rd uhub ss = 0 || s.rd uhub ss = 5))
  awake UH_CFG_H0_EN UH_STATUS_HS_0 UH_STATUS_SS_0 || awake UH_CFG_H1_EN UH_STATUS_HS_1 UH_STATUS_SS_1

/-- Is a page with BOUND = 1 armed? -/
def State.turnArmed (s : State) : Bool := bound1.any fun p => s.is p PG_SHADOW_CTRL_ARMED

/-- Has some port an explicit contract? -/
def State.anyContract (s : State) : Bool :=
  (List.range 6).any fun n => s.is (pd n) PD_STATUS_CONTRACT || s.is safe (SP_EXPL.nth n)

/-- The cause for which an entry is refused, the lowest first; 0 none (R380, R381). (log 91, DEDUCED) -/
def State.entryRefusal (s : State) (target : Nat) : Nat :=
  if target = 2 && s.ps != 1 then 1
  else if s.turnArmed then 2
  else if s.usbAwake then 3
  else if s.safeWaiting then 5
  else if target = 2 then 0
  else if s.anyContract then 6
  else if !s.is aon AON_SUPPLY_CORE_USE then 7
  else if s.portTrained || (s.endpointRole && s.is pcie PE_PERST_N) then 8
  else 0

/-- Refuse an entry. -/
def State.refuseEntry (s : State) (cause : Nat) : State := (s.wr aon AON_PS_STATUS_REFUSE cause).raise aon 1

/-- Is the switch drained (R380)? -/
def State.switchEmpty (s : State) : Bool :=
  s.bufferCells.isEmpty && s.progs.isEmpty && s.rel.all fun e => e.2.all fun r => r.cell.isNone

/-- Steps 2 to 4 of R380: output links off and line buffers empty, Ethernet down, DRAM in self-refresh. A step that an
island cannot complete is left out. -/
def State.standbySteps (s : State) : State :=
  let s := (List.range 4).foldl (fun s n => s.when (!s.gated (dout n)) fun s =>
    let s := (s.setDisp n { s.dispOf n with lines := [] }).wr (disp n) DISP_FILL 0
    (s.wr (dout n) DOUT_LINK_STS_TRAINED 0).wr (dout n) DOUT_TRAINING 0) s
  let s := (List.range 2).foldl (fun s n => s.when (!s.gated (eth n)) fun s => s.ethStandby n) s
  s.when s.dramUp fun s => s.memState 4

/-- Step 5 of R380: FABRIC is gated except the hub-time counter, PIXEL islands are powered down. -/
def State.gateD2 (s : State) : State :=
  let pix := ((List.range 4).map fun n => if s.rdBit glb GLB_ISL_PWR_PWR (13 + n) then 2 ^ n else 0).sum
  let s := s.wr aon AON_PIX pix
  let s := (List.range 4).foldl (fun s n => s.setPwr (13 + n) false) s
  ((s.setClk 3 false).setPs 2).count aon AON_CNT_D2

/-- Sticky registers as the resume image keeps them (R381, R397). (log 92, DEDUCED) -/
def State.saveSticky (s : State) : State :=
  { s with stickyImg := s.regs.keep fun k => match clsOfKey k with | some (_, c) => c = .sticky | none => false }

/-- Steps 1 and 3 to 5 of R381: the image, the fans, the pad hold, the islands and EN_CORE. -/
def State.powerDown (s : State) (image : Bool) : State :=
  let s := if image then (s.saveSticky.wr aon AON_IMG_OK 1).wr aon AON_RESUME 1
    else { s with stickyImg := [] }.clearFields aon [AON_IMG_OK, AON_RESUME]
  let s := ((s.wr aon AON_FANS_LOW 1).wr aon AON_PAD_HELD 1).wipe true
  let s := ((s.wr glb GLB_ISL_PWR_PWR 3).wr glb GLB_ISL_CLK_CLK_OK 3).wr glb GLB_ISL_RST_IN_RESET 0x1FFFC
  s.drive 3 false

/-- The hub is in Yo-yo. -/
def State.inYoyo (s : State) : State :=
  let s := (List.range 6).foldl (fun s n => s.wr aon (AON_CC_CNT.nth n) 0) s
  (((s.setPs 3).wr aon AON_ENT_STEP 0).wr aon AON_YY_TIME s.clock).count aon AON_CNT_YOYO

/-- The last two steps of R384: EN_SAFE and EN_IO off, the SAFE pins float, AON alone runs. -/
def State.inOff (s : State) : State :=
  let s := ((s.drive 1 false).drive 2 false).stopIsland 1
  let s := ((s.wr aon AON_PINS_FLOAT 1).wr aon AON_DRAM_LOST 1).wr memp MEM_TRAINED 0
  let s := s.wr aon AON_PS_STATUS_THERM_OFF (s.rd aon AON_ENT_THERM)
  ((s.setPs 4).wr aon AON_ENT_STEP 0).wr aon AON_ENT_THERM 0

/-- Is every port discharged? -/
def State.allDischarged (s : State) : Bool := (List.range 6).all fun n => !s.is safe (SP_STATE_DISCH.nth n)

/-- The first step of R384: every switch opens, VCONN goes off, VBUS above 0.8 V is discharged. -/
def State.offSteps (s : State) : State :=
  let s := (List.range 6).foldl (fun s n =>
    let s := ((s.openBoth n).endClose n 3).vconnOff n
    s.when (800 < s.rd safe (SP_VBUS.nth n)) fun s => s.discharge n) s
  if s.allDischarged then s.inOff else (s.wr aon AON_ENT_STEP 2).wr aon AON_ENT_TIME s.clock

/-- An Off entry that waits for the ports goes on as soon as they are at 0.8 V, or after 265 ms (R384). -/
def State.offGo (s : State) : State :=
  s.when (s.rd aon AON_ENT_STEP = 2 && (s.allDischarged || s.rd aon AON_ENT_TIME + 265000000 ≤ s.clock)) fun s => s.inOff

/-- The entry goes on once the switch is drained. -/
def State.enterRest (s : State) : State :=
  let t := s.rd aon AON_ENT_TARGET
  let s := s.standbySteps
  if t = 2 then s.gateD2.wr aon AON_ENT_STEP 0
  else
    let s := s.powerDown (!s.is aon AON_ENT_FORCED)
    if t = 3 then s.inYoyo else s.offSteps

/-- An entry that drains the switch goes on as soon as it is empty (R380). -/
def State.drained (s : State) : State :=
  s.when (s.rd aon AON_ENT_STEP = 1 && s.switchEmpty) fun s => s.enterRest

/-- Step 1 of an entry: the drain (R380). -/
def State.entryGo (s : State) : State := ((s.wr aon AON_ENT_STEP 1).wr aon AON_ENT_TIME s.clock).drained

/-- An entry starts, but not while a slice is under test (R380, R428). -/
def State.startEntry (s : State) (target : Nat) (forced : Bool) : State :=
  let s := s.wr aon AON_WAS_D1 (if s.ps = 1 then 1 else 0)
  let s := ((s.setPs 5).wr aon AON_ENT_TARGET target).wr aon AON_ENT_FORCED (if forced then 1 else 0)
  if s.is bist BIST_SLICE_STS_RUNNING then s.wr aon AON_ENT_STEP 4 else s.entryGo

/-- AON_PS_CTRL.GO with a target (R380, R381, R384, R399). In a state that Moabeuc does not run in, or that is the
target, nothing happens; D0 as the target leaves D2. (log 91, DEDUCED) -/
def State.psGo (s : State) (target : Nat) : State :=
  let st := s.ps
  if 3 ≤ st then s
  else if target = 0 then (if st = 2 then s.leaveD2 else s)
  else if !(target = 3 || target = 4 || (target = 2 && st != 2)) then s
  else
    let c := s.entryRefusal target
    if c = 0 then s.startEntry target false else s.refuseEntry c

/-- The cells still in the buffer are discarded (R384, R385). -/
def State.discardCells (s : State) : State := s.emptySwitch

/-- DRAIN_TIMEOUT (R380, R384): the entry is refused with cause 4 and the hub resumes; a forced entry discards and goes
on. -/
def State.drainTimeout (s : State) : State :=
  let due := s.rd aon AON_ENT_TIME + orOne (s.rd aon AON_DRAIN_DRAIN_US) * 1000 ≤ s.clock
  s.when (s.rd aon AON_ENT_STEP = 1 && due && !s.switchEmpty) fun s =>
    if s.is aon AON_ENT_FORCED then s.discardCells.enterRest
    else ((s.setPs (s.rd aon AON_WAS_D1)).wr aon AON_ENT_STEP 0).refuseEntry 4

/-- A forced entry to Off (R384). -/
def State.forcedOff (s : State) : State :=
  let st := s.ps
  if !s.is aon AON_BTN_FORCE_S || st = 4 || s.is aon AON_ENT_THERM then s
  else
    let s := s.raise aon 5
    if st ≤ 2 then s.startEntry 4 true
    else
      let s := ((s.setPs 5).wr aon AON_ENT_TARGET 4).wr aon AON_ENT_FORCED 1
      if s.rd aon AON_ENT_STEP = 1 || s.rd aon AON_ENT_STEP = 4 then s
      else { s with stickyImg := [] }.clearFields aon [AON_IMG_OK, AON_RESUME] |>.offSteps

/-- The thermal entry to Off (R385), as THERM_TRIP_N goes low: the hub waits in step 3 for its release. (log 94, DEDUCED) -/
def State.thermEntry (s : State) : State :=
  let st := s.ps
  if st = 4 then s
  else
    let up := st ≤ 2 || s.rd aon AON_ENT_STEP = 1 || s.rd aon AON_ENT_STEP = 4
    let s := s.when up fun s => s.discardCells.standbySteps
    let s := if up then s.powerDown false else { s with stickyImg := [] }.clearFields aon [AON_IMG_OK, AON_RESUME]
    let s := (((s.setPs 5).wr aon AON_ENT_TARGET 4).wr aon AON_ENT_THERM 1).drive 3 false
    (s.wr aon AON_ENT_STEP 3).wr aon AON_ENT_TIME s.clock

/-- THERM_TRIP_N is released: the thermal entry completes (R385). -/
def State.thermGo (s : State) : State := s.when (s.rd aon AON_ENT_STEP = 3) fun s => s.offSteps

/-! ### Exits -/

/-- The supplies of a group, as bits of AON_SUPPLY_STS.IN_RANGE (R399). -/
def groupMask (g : Nat) : Nat := if g = 3 then 0x0F else if g = 2 then 0xF0 else 0x200

/-- The exit is complete (R387): the islands are powered in the order of R392, and the boot ROM can start. -/
def State.exitDone (s : State) : State :=
  let from' := s.rd aon AON_EXIT_FROM
  let s := s.clearFields glb [GLB_ISL_CLK_CLK_OK, GLB_ISL_RST_IN_RESET]
  let s := (s.wr aon AON_LBIST_DUE (if from' = 4 then 1 else 0)).powerIslands.setPs 0
  let s := s.clearFields aon [AON_ENT_TARGET, AON_ENT_FORCED, AON_ENT_THERM, AON_PINS_FLOAT, AON_EXIT_WAIT, AON_EXIT_TRIED]
  let s := if from' = 4 then (s.wr aon AON_PS_STATUS_THERM_OFF 0).recordReset 8 0 else s.recordReset 7 0
  s.wr aon AON_WDT_TIME s.clock

/-- A supply group has been in range for 1 ms (R387): the next group follows; an exit from Off starts the SAFE island with
a safety reset. -/
def State.groupInRange (s : State) : State :=
  let g := s.rd aon AON_EXIT_GROUP
  s.when (s.ps = 6 && !s.is aon AON_EXIT_WAIT && s.rd aon AON_EXIT_TIME + 1000000 ≤ s.clock) fun s =>
    let s := s.wr aon AON_SUPPLY_STS_IN_RANGE (s.rd aon AON_SUPPLY_STS_IN_RANGE ||| groupMask g)
    let s := s.when (s.rd aon AON_EXIT_FROM = 4 && !s.rdBit glb GLB_ISL_PWR_PWR 1) fun s => (s.runIsland 1).safetyReset 5
    if g = 3 then s.exitDone else s.exitGroup (g + 1)

/-- An exit that found no supply goes back to the state it was leaving (R387). -/
def State.exitBack (s : State) : State :=
  let s := s.drive 3 false
  let s := s.clearFields aon [AON_EXIT_WAIT, AON_EXIT_TRIED]
  if s.rd aon AON_EXIT_FROM = 4 then (((s.drive 2 false).drive 1 false).stopIsland 1).setPs 4
  else (s.setPs 3).wr aon AON_YY_TIME s.clock

/-- EXIT_TIMEOUT (R387). (log 94, DEDUCED) -/
def State.exitTimeout (s : State) : State :=
  s.when (s.ps = 6 && !s.is aon AON_EXIT_WAIT && s.rd aon AON_EXIT_TIME + 20000000 ≤ s.clock) fun s =>
    let s := s.raise aon 4
    if s.is aon AON_EXIT_TRIED then s.exitBack else (s.wr aon AON_EXIT_WAIT 1).wr aon AON_EXIT_TIME s.clock

/-! ### Samples -/

/-- The mode of a wake GPIO (R399): one named in AON_SUPPLY takes mode 3. -/
def State.gpioMode (s : State) (g : Nat) : Nat :=
  if [3, 2, 1, 0].any fun h => (s.supplyPin h).1 && (s.supplyPin h).2 = g then 3
  else s.rd aon (AON_GPIO_WAKE_GPIO.nth g) % 4

/-- One port's CC and VBUS in a sample (R383): the wakes it requests. (log 94, DEDUCED) -/
def State.samplePort (s : State) (n cc vbus : Nat) : State × List (Nat × Nat × Nat) :=
  if !(s.rd aon AON_YY_CFG_PORTS).testBit n || !s.is aon (AON_PRESENT.nth n) then (s, [])
  else
    let s := s.measure n vbus (s.rd safe (SP_IBUS.nth n))
    let hi := s.rd aon (AON_YY_VBUS_HI_MV.nth n)
    let lo := s.rd aon (AON_YY_VBUS_LO_MV.nth n)
    let v := if hi < vbus || (lo != 0 && vbus < lo) then [(4, n, vbus)] else []
    let seen := if cc = s.rd aon (AON_CC.nth n) then 0 else min 7 (s.rd aon (AON_CC_CNT.nth n) + 1)
    let s := s.wr aon (AON_CC_CNT.nth n) seen
    (s, (if seen = s.rd aon AON_YY_CFG_CC_CONFIRM + 1 then [(3, n, cc)] else []) ++ v)

/-- The sample period in ns. -/
def State.yyPeriod (s : State) : Nat := clamp 1 10000 (s.rd aon AON_YY_CFG_PERIOD) * 1000000

/-- One Yo-yo sample (R382, R383). (log 94, DEDUCED) -/
def State.yySample (s : State) (cc vbus : List Nat) (temp gpio : Nat) : State :=
  s.when (s.ps = 3 && s.rd aon AON_YY_TIME + s.yyPeriod ≤ s.clock) fun s =>
    let s := (s.wr aon AON_YY_TIME s.clock).count aon AON_CNT_SAMPLE
    let x := (List.range 6).foldl (fun (x : State × List (Nat × Nat × Nat)) n =>
      let y := x.1.samplePort n (cc.getD n 0 % 64) (vbus.getD n 0 % 65536)
      (y.1, y.2 ++ x.2)) (s, [])
    let s := x.1
    let t := signed 8 temp
    let hot := signed 8 (s.rd aon AON_YY_TEMP_HI_C) ≤ t || t < signed 8 (s.rd aon AON_YY_TEMP_LO_C)
    let tw := if hot then [(5, 0, unsigned 16 t)] else []
    let gw := ((List.range 8).filter fun g => s.gpioMode g = 1 &&
      (s.rd aon (AON_GPIO_WAKE_GPIO.nth g)).testBit 2 != gpio.testBit g).reverse.map fun g =>
        (6, g, if gpio.testBit g then 1 else 0)
    let vs := x.2.filter fun w => w.1 = 4
    let cs := x.2.filter fun w => w.1 = 3
    s.wakes (gw ++ tw ++ vs ++ cs)

/-! ### Supplies -/

/-- A supply is lost (R393): 0 to 10 as in IN_RANGE, 11 VCONN_IN. (log 93, DEDUCED) -/
def State.supplyLoss (s : State) (k : Nat) : State :=
  if k = 11 then s.wr aon AON_VCONN_IN 0
  else
    let s := s.wrBit aon AON_SUPPLY_STS_IN_RANGE k false
    let st := s.ps
    let up := st ≤ 2 || (st = 5 && (s.rd aon AON_ENT_STEP = 1 || s.rd aon AON_ENT_STEP = 4))
    if k ≤ 7 && up then ((s.raise aon 2).count glb GLB_RST_CNT_BROWN).pinReset 2
    else if 4 ≤ k && k ≤ 7 && st = 3 then ((s.wr aon AON_DRAM_LOST 1).wr memp MEM_TRAINED 0).raise aon 2
    else s

/-! ### The retention RAM -/

/-- Who may write a byte of the retention RAM (R397). (log 95, DEDUCED) -/
def rramWriter (a : Nat) (who : Initiator) : Bool :=
  if a < 0x3000 || (0x4000 ≤ a && a < 0x8000) || 0xC000 ≤ a then who = .marionette
  else if a < 0x4000 then who = .ngunov else true

/-- An access to a word of the retention RAM (R397): a write of the enabled bytes, or a read, whose data is sent. An
uncorrectable error loses what the word stood for, and its data is a free value. (log 95, DEDUCED) -/
def State.rram (s : State) (who : Initiator) (a : Nat) (write : Option Nat) (be : Nat) (ue : Bool) : State :=
  match write with
  | some v =>
    if rramWriter a who then
      { s with aonRam := (List.range 4).foldl (fun m b =>
          if be.testBit b then Mem.write 0 m (a + b) (BitVec.ofNat 8 (v / 256 ^ b)) else m) s.aonRam }
    else (((s.wr aon PG_STATUS_DROP_WHY 2).wr aon PG_STATUS_DROP_SRC (initCode who)).setInt aon intWrDrop)
  | none =>
    if ue then
      let s := s.raise aon 3
      let s := s.when (0x1000 ≤ a && a < 0x3000) fun s => s.wr aon AON_IMG_OK 0
      let s := s.when (0x4000 ≤ a && a < 0x8000) fun s => s.wr memp MEM_TRAINED 0
      (s.send (.readData who (s.freeNat % 2 ^ 32))).tookFree
    else s.send (.readData who (leNat ((List.range 4).map fun b => Mem.read 0 s.aonRam (a + b))))

end Sys2Proof.Machine
end

