-- ==== Sys2Proof/Machine/Pcie.lean ====
section
/-! DEFINITION. The commands of the PCIe port and its adapters (spec/10_pcie_and_bridging.md), but for the register bridges. -/

namespace Sys2Proof.Machine

open Reg

/-! ### Port and links -/

/-- Lanes that BIFUR gives a link, 0 for none (R229). -/
def bifurLanes (b l : Nat) : Nat :=
  match b with
  | 0 => if l = 0 then 8 else 0
  | 1 => if l < 2 then 4 else 0
  | 2 => if l = 0 then 4 else if l < 3 then 2 else 0
  | _ => 2

/-- Reset a physical link (R228, R229): PE_RSTl_N is low for at least 100 µs; an absent link keeps it low. In role 0b01
the port drives no reset. -/
def State.linkReset100 (s : State) (l : Nat) : State :=
  let s := if s.endpointRole then (s.wr pcie (PE_LINK_STS_DL_ACTIVE.nth l) 0).wr pcie (PE_LINK_STS_LTSSM.nth l) 0
    else s.linkRst l true
  s.wr pcie (PE_RST_END.nth l) (s.clock + 100000)

/-- A port reset (R229): BIFUR and MAX_GEN take effect, and every link is reset. -/
def State.portReset (s : State) : State :=
  let s := (s.wr pcie PE_BIFUR_ACT (if s.endpointRole then 0 else s.rd pcie PE_CFG_BIFUR)).wr pcie PE_GEN_ACT
    (let g := s.rd pcie PE_CFG_MAX_GEN; if g = 0 || 5 < g then 5 else g)
  (List.range 4).foldl State.linkReset100 (s.wr pcie PE_CFG_PORT_RST 1)

/-- PORT_RST (R229). -/
def execPortRst (who : Initiator) (s : State) : Res := .next (s.access who pcie PE_CFG_PORT_RST State.portReset)

/-- PE_LINK_RESET (R229). -/
def execPeLinkReset (who : Initiator) (l : Nat) (s : State) : Res :=
  .next (s.access who pcie (PE_LINK_CFG_RESET.nth l) fun s => s.linkReset100 l)

/-- PE_CNT_CLR (R254). (log 61, DESIGN CHOICE) -/
def execPeCntClr (who : Initiator) (s : State) : Res :=
  .next (s.access who pcie PE_CNT_CLR_CLR fun s =>
    s.clearFields pcie [PE_CNT_RX_ERR, PE_CNT_ECRC, PE_CNT_POISON, PE_REQ_PEAK])

/-- PCIE_LINK_UP (R229, R254): a link that is not absent, whose reset has ended, comes up within the lanes of BIFUR and
the generation of MAX_GEN. Posted TLPs that waited for it are issued. -/
def execPcieLinkUp (l width gen : Nat) (s : State) : Res :=
  let lanes := bifurLanes (s.rd pcie PE_BIFUR_ACT) l
  .next (s.when (!s.gated pcie && s.attach l != 0 && lanes != 0 && s.rd pcie (PE_RST_END.nth l) ≤ s.clock &&
      !s.rdBit glb GLB_REFCLK_LOST 6 && !s.perstHeld l && (!s.endpointRole || s.is pcie PE_PERST_N)) fun s =>
    let s := (s.wr pcie (PE_LINK_STS_LTSSM.nth l) 3).wr pcie (PE_LINK_STS_WIDTH.nth l) (min (orOne width) lanes)
    let s := (s.wr pcie (PE_LINK_STS_GEN.nth l) (min (orOne gen) (s.rd pcie PE_GEN_ACT))).wr pcie (PE_LINK_STS_DL_ACTIVE.nth l) 1
    let s := (s.wr pcie (PE_LINK_STS_RST_N.nth l) 1).wr pcie PE_CFG_PORT_RST 0
    let g := s.rd pcie (PE_LINK_STS_GEN.nth l)
    let s := s.eqPads ⟨.pelane, 0⟩ 0x20 (if g = 5 then 7 else if g = 4 then 8 else 9) 3 (List.range 8)
    (List.range 8).foldl State.issuePosted s)

/-- PCIE_LINK_DOWN (R255). -/
def execPcieLinkDown (l : Nat) (s : State) : Res :=
  .next (s.when (s.is pcie (PE_LINK_STS_DL_ACTIVE.nth l)) fun s =>
    ((s.wr pcie (PE_LINK_STS_DL_ACTIVE.nth l) 0).wr pcie (PE_LINK_STS_LTSSM.nth l) 0).raise pcie 0)

/-- PE_PERST_N is asserted in role 0b01 (R244): block soft resets of the port page and of every PCA page. -/
def State.hostPerst (s : State) : State :=
  s.when s.endpointRole fun s =>
    let s := (s.wr pcie PE_PERST_N 0).recordReset 6 0
    let s := s.when (!s.gated pcie) fun s => (s.raise pcie 6).softReset pcie
    let s := (List.range 8).foldl (fun s n => s.when (!s.gated (pca n)) fun s => s.softReset (pca n)) s
    let s := s.linkRst 0 true
    (List.range 8).foldl (fun s n => s.when (s.pcaMode n = 1 && !s.gated (pca n)) fun s => (s.sample n 1).sbSend n) s

/-! ### Adapters -/

/-- PCA_CNT_CLR (R256). -/
def execPcaCntClr (who : Initiator) (n : Nat) (s : State) : Res :=
  .next (s.access who (pca n) PCA_CNT_CLR_CLR fun s =>
    s.clearFields (pca n) [PCA_CNT_UR_GEN, PCA_CNT_UNEXP_CPL, PCA_CNT_POSTED_DROP, PCA_CNT_UP_DROP, PCA_CNT_TIMEOUT,
      PCA_CNT_SB_TX, PCA_REQ_PEAK])

/-- TLP_FROM_LOCAL (R235, R238, R239). -/
def execTlpFromLocal (n : Nat) (t : Tlp) (s : State) : Res := .next (s.fromLocal n t)

/-- TLP_FROM_TUNNEL (R233, R234). -/
def execTlpFromTunnel (n kind : Nat) (more : Bool) (t : Tlp) (s : State) : Res := .next (s.fromTunnel n kind more t)

/-- NP_ISSUE (R236). -/
def execNpIssue (n : Nat) (s : State) : Res := .next (s.npIssue n)

/-- COMPLETION_FROM_TUNNEL (R237). -/
def execCompletionFromTunnel (n : Nat) (t : Tlp) (s : State) : Res := .next (s.fromTunnel n 0 false { t with kind := .cpl })

/-- CPL_TIMEOUT (R237). (log 8, DESIGN CHOICE) -/
def execCplTimeout (n req tag : Nat) (s : State) : Res :=
  match (s.pcaOf n).reqs.find? fun r => r.req = req && r.tag = tag with
  | some r => .next (s.when (s.timedOut n r) fun s => s.cplTimeout n r)
  | none => .next s

/-- LOCKED_REQUEST (R238): an MRdLk from the tunnel is issued and enters the locked state; one from the local side is
handled as R238's refusal has it. -/
def execLockedRequest (n : Nat) (tunnel : Bool) (t : Tlp) (s : State) : Res :=
  let t := { t with kind := .mrdLk }
  .next (if tunnel then (s.fromTunnel n 0 false t).npIssue n else s.fromLocal n t)

/-- UNLOCK (R238). -/
def execUnlock (n : Nat) (s : State) : Res := .next (s.unlockNow n)

/-- LOCK_TIMEOUT (R238). -/
def execLockTimeout (n : Nat) (s : State) : Res :=
  let wait := orOne (s.rd (pca n) PCA_CFG_LOCK_TO) * 1000000
  .next (s.when (s.is (pca n) PCA_STATE_LOCKED && s.rd (pca n) PCA_LOCK_TIME + wait ≤ s.clock) fun s =>
    (s.unlockNow n).raise (pca n) 2)

/-- PCA_RELEASE (R239): containment ends if both paths are up; a RELEASE before then is ignored. -/
def execPcaRelease (who : Initiator) (n : Nat) (s : State) : Res :=
  .next (s.access who (pca n) PCA_CTRL_RELEASE fun s =>
    s.when (s.pcaPathUp n) fun s => s.wr (pca n) PG_STATUS_CONTAINED 0)

/-- Write one of MODE, DOM, TX_HANDLE and RX_HANDLE (R232): a change discards the PCA's table and queues. -/
def State.pcaSet (s : State) (who : Initiator) (n : Nat) (f : Field) (v : Nat) : State :=
  s.when (s.rd (pca n) f != v) fun s => s.access who (pca n) f fun s => (s.pcaDiscard n).wr (pca n) f v

/-- PCA_MODE_WRITE (R232). -/
def execPcaModeWrite (who : Initiator) (n mode dom tx rx : Nat) (s : State) : Res :=
  .next ((((s.pcaSet who n PCA_CTRL_MODE mode).pcaSet who n PCA_CTRL_DOM dom).pcaSet who n PCA_TUN_TX_HANDLE tx).pcaSet
    who n PCA_TUN_RX_HANDLE rx)

/-- SIDEBAND_UPDATE_SEND (R240, R241): the local levels are taken, and an update goes out if one is due. -/
def execSidebandUpdateSend (n levels : Nat) (s : State) : Res := .next ((s.sample n levels).sbSend n)

/-- SIDEBAND_UPDATE_RX (R242). -/
def execSidebandUpdateRx (n seq word : Nat) (s : State) : Res := .next (s.sbRx n seq word)

/-- SIDEBAND_PULSE_END (R242). -/
def execSidebandPulseEnd (n : Nat) (s : State) : Res := .next (s.sbPulseEnd n)

/-! ### Banked selection -/

/-- BR_RSEL_WRITE (R245, R247): only the writer's copy changes, and its prefetched blocks
are dropped. Adapter engines, remote initiators and JTAG have none. -/
def execBrRselWrite (who : Initiator) (hub : Nat) (s : State) : Res :=
  let own := who = .host0 || who = .host1 || who = .marionette || who = .smbus || who = .ngunov
  .next (s.access who bridge BR_RSEL_HUB_ID fun s => s.when own fun s =>
    { s with prefetch := s.prefetch.filter fun (b : PfBlock) => b.who != who }.wr bridge (BR_RSEL_BANK.nth (initCode who)) hub)

/-- BR_CNT_CLR (R258). -/
def execBrCntClr (who : Initiator) (s : State) : Res :=
  .next (s.access who bridge BR_CNT_CLR_CLR fun s => s.clearFields bridge [BR_CNT_DISCARD, BR_CNT_POP_LOST, BR_CNT_PF_HIT])

end Sys2Proof.Machine
end

