-- ==== Sys2Proof/Machine/Pd.lean ====
section
/-! DEFINITION. The commands of USB Power Delivery (spec/15_power_delivery.md). -/

namespace Sys2Proof.Machine

open Reg

/-! ### Receiving -/

/-- A message enters the receive FIFO at the expert level (R363): a descriptor with its header, then its objects. One
that does not fit is not acknowledged, and is counted. -/
def State.pdFifo (s : State) (n sop : Nat) (raw : List Nat) : State :=
  let q := pd n
  let held := s.pdRx.list n
  if 272 < held.length + max 1 raw.length then s.count q PD_CNT_MSG_FAIL
  else
    let ws := (sop * 2 ^ 29 + (raw.length - 1) % 32 * 2 ^ 24 + raw.headD 0 % 65536) :: raw.drop 1
    let s := { s with pdRx := s.pdRx.setList n (held ++ ws) }
    let s := (s.wr q PD_RX_STATUS_NONEMPTY 1).wr q PD_RX_STATUS_WORDS (held ++ ws).length
    let s := s.when (s.rd q PD_PEND = 9) fun s => (s.wr q PD_TX_CTRL_RESULT 3).wr q PD_PEND 0
    (s.wr q PD_RESP 1).setInt q 12

/-- A message arrives (R346, R363): at the expert level it goes to the host, at the basic level Moabeuc acts on it. -/
def State.pdRecv (s : State) (n sop : Nat) (raw : List Nat) (act : State → State) : State :=
  if !s.works (pd n) || !s.pdAttached n then s
  else if s.expert (pd n) then s.pdFifo n sop raw
  else if s.pdMoab then act (s.wr (pd n) PD_ATTACH_PD 1) else s

/-- Does the port's own arm negotiate (R355)? -/
def State.pdNegotiating (s : State) (n : Nat) : Bool := s.is (pd n) PD_ARMNEG

/-- A swap is rejected, or has failed (R364). -/
def State.swapFail (s : State) (n : Nat) : State := (s.raise (pd n) 2).pdIdle n

/-- A received swap is answered Reject (R355). -/
def State.swapReject (s : State) (n : Nat) : State := (s.pdSend n 0 .reject).raise (pd n) 2

/-- A swap completes: counted, roles changed (R363). -/
def State.swapDone (s : State) (n : Nat) (f : Field) : State :=
  (((s.count (pd n) f).wr (pd n) PD_SWAPPED 1).pdIdle n).setInt (pd n) 11

/-- The source switch of a port has closed: a new source sends PS_RDY, and the PR_Swap is done (R355). -/
def State.pdClosed (s : State) (n : Nat) : State :=
  s.when (s.rd (pd n) PD_ST = 11 && s.srcOn n) fun s => (s.pdSend n 0 .psRdy).swapDone n PD_CNT_SWAP_PR

/-- VBUS of a port has been discharged: the initial source of a PR_Swap presents Rd and sends PS_RDY (R355). -/
def State.pdDischarged (s : State) (n : Nat) : State :=
  s.when (s.rd (pd n) PD_ST = 8) fun s => (((s.takeRole n false).pdSend n 0 .psRdy).pdPhase n 4).pdStep n 9

/-- The VCONN source changes to this hub (R345). -/
def State.takeVconn (s : State) (n : Nat) : State := s.askSafe n 5 1 0 0

/-! ### Attach and detach -/

/-- The code of the CC state that decides the attach, and its pin: the first of CC1 and CC2 that reads Rd or Rp. -/
def ccActive (cc : Nat) : Nat × Nat := if 2 ≤ cc % 8 then (cc % 8, 0) else (cc / 8 % 8, 1)

/-- Does PD_POLICY.ROLE allow the role (R347, R363)? -/
def State.roleMay (s : State) (n : Nat) (source : Bool) : Bool :=
  match s.rd (pd n) PD_POLICY_ROLE with
  | 0 => source
  | 1 => !source
  | _ => true

/-- CC_ATTACH (R347): the port takes its role and records it; the power path is asked for, and a source offers its
capabilities. An attach at a port that is attached, absent or in Error Recovery changes nothing. -/
def execCcAttach (n cc vbus : Nat) (s : State) : Res :=
  let q := pd n
  let (code, pin) := ccActive cc
  let src := code = 2
  let free := s.works q && s.rd q PD_STATUS_STATE ≤ 1 && s.is aon (AON_PRESENT.nth n) && !s.is safe PG_STATUS_IN_RESET
  .next (
    let s := ((s.measure n vbus (s.rd safe (SP_IBUS.nth n))).wakes [(3, n, cc)]).wr aon (AON_CC.nth n) cc
    s.when (free && 2 ≤ code && code ≤ 5 && s.roleMay n src) fun s =>
      let b := if src then 1 else 0
      let s := ((s.takeRole n src).wr q PD_STATUS_ORIENT pin).wr q PD_STATUS_DR b
      let s := ((s.wr q PD_ATTACH_VALID 1).wr q PD_ATTACH_ATT_PR b).wr q PD_ATTACH_ATT_DR b
      let s := s.when (!src) fun s => (s.wr q PD_STATUS_PARTNER_RP (code - 2)).wr q PD_STATUS_SINKTX
        (if code = 5 then 1 else if code = 4 then 2 else 0)
      let s := (s.voidContract n (s.typeC n)).setInt q 8
      let s := s.when (src && s.vconnMay n) fun s => s.takeVconn n
      let s := s.wr q PD_ATTACH_ATT_VCONN (s.rd q PD_STATUS_VCONN)
      let s := s.askSafe n 2 (if src then 0 else 1) 0 0
      s.when (src && s.pdBasic n) fun s => (s.allotPort n).sendCaps n)

/-- DETACH (R359): the island opens the switches and discharges VBUS; between Accept and PS_RDY the detach is recorded;
the page is disarmed, and the board supply returns to 5 V. (log 86, DEDUCED) -/
def execDetach (n vbus : Nat) (s : State) : Res :=
  let q := pd n
  let role := s.rd safe (SP_ROLE.nth n)
  .next (s.when (role != 0) fun s =>
    let s := s.measure n vbus (s.rd safe (SP_IBUS.nth n))
    let mid := s.rd q PD_ST = 2 || s.rd q PD_ST = 4
    let s := s.safeDetach n
    let s := s.when (!s.gated q) fun s =>
      let s := s.when mid fun s => (s.count q PD_CNT_DETACH_TR).raise q 0
      let s := ((s.unattach n).setInt q 9).setSupply n 5000
      s.rebudget
    (s.wr aon (AON_CC.nth n) 0).wakes (if role = 1 then [(8, n, 8), (3, n, 0)] else [(8, n, 8)]))

/-- CC_OV (R343): terminations and VCONN switch open. (log 86, DEDUCED) -/
def execCcOv (n : Nat) (s : State) : Res :=
  .next ((s.vconnOff n).when (!s.gated (pd n)) fun s => s.raise (pd n) 8)

/-- DBAT_START (R360): AON and SAFE start from DBAT_VIN, and the island closes the sink switch of the port that powers
the board. -/
def execDbatStart (n vbus : Nat) (s : State) : Res :=
  .next (s.when (s.is glb GLB_STRAP_DBAT && s.rd aon AON_SUPPLY_STS_IN_RANGE % 1024 = 0) fun s =>
    let s := ((s.wr aon AON_SUPPLY_STS_IN_RANGE 1024).wr aon AON_DBAT 1).wr aon AON_DBAT_PORT n
    let s := (s.measure n vbus 0).voidContract n 900
    s.when (s.mayClose n true) fun s => (s.closeNow n true).wr safe (SP_ROLE.nth n) 2)

/-! ### Negotiation -/

/-- SOURCE_CAPABILITIES (R350, R351). -/
def execSourceCapabilities (n : Nat) (raw : List Nat) (s : State) : Res :=
  .next (s.pdRecv n 0 raw fun s =>
    if s.pdSource n then s.pdSend n 0 .notSupported
    else
      let s := (List.range 11).foldl (fun s i => s.wr (pd n) (PD_CAPS.nth i) ((raw.drop 1).getD i 0)) s
      (s.wr (pd n) PD_ATTACH_DRP ((raw.getD 1 0) / 2 ^ 29 % 2)).sendRequest n)

/-- REQUEST (R351). -/
def execRequest (n : Nat) (raw : List Nat) (s : State) : Res :=
  .next (s.pdRecv n 0 raw fun s =>
    if s.pdSource n then s.answerRequest n (raw.getD 1 0) else s.pdSend n 0 .notSupported)

/-- The partner accepts a swap that the hub has sent. -/
def State.acceptSwap (s : State) (n : Nat) : State :=
  let q := pd n
  match s.rd q PD_ST with
  | 6 =>
    if s.pdSource n then (s.pdPhase n 2).pdStep n 7 else ((s.askSafe n 3 1 0 0).pdPhase n 2).pdStep n 10
  | 12 => ((s.wr q PD_STATUS_DR (1 - s.rd q PD_STATUS_DR)).swapDone n PD_CNT_SWAP_DR).when
      (s.is q PD_DRS_DONE && !s.is q PD_STATUS_DR && s.is q PD_DISC) fun s => s.afterCable n
  | 13 =>
    if s.is q PD_STATUS_VCONN then (s.pdPhase n 8).pdStep n 14
    else
      let s := ((s.takeVconn n).pdSend n 0 .psRdy).swapDone n PD_CNT_SWAP_VC
      s.when (s.is q PD_DISC && s.rd q PD_TRY = 0 && !s.is q PD_CHOSEN && s.is q PD_STATUS_VCONN) fun s =>
        (s.pdSend n 1 .discoverIdentity).pdStep n 21
  | _ => (s.pdPhase n 6).pdStep n 17

/-- ACCEPT (R352, R355, R348, R361): the Accept of the Request, swap, Enter_USB or Soft_Reset that the hub has sent. -/
def execAccept (n : Nat) (raw : List Nat) (s : State) : Res :=
  .next (s.pdRecv n 0 raw fun s =>
    match s.rd (pd n) PD_ST with
    | 3 => (s.askContract n 0).pdStep n 4
    | 6 | 12 | 13 | 15 => s.acceptSwap n
    | 20 => if s.pdSource n then s.sendCaps n else s.pdIdle n
    | 27 => (s.takeMode n (s.rd (pd n) PD_TRY)).pdIdle n
    | _ => s)

/-- A step's answer was a refusal, or did not come (R352, R362, R364). -/
def State.pdRefused (s : State) (n : Nat) : State :=
  match s.rd (pd n) PD_ST with
  | 3 => (s.raise (pd n) 3).pdEndNeg n
  | 6 | 12 | 15 =>
    let s := s.swapFail n
    s.when (s.is (pd n) PD_DISC && !s.is (pd n) PD_CHOSEN && s.is (pd n) PD_DRS_DONE) fun s => s.pdStep n 28
  | 13 =>
    let s := s.swapFail n
    s.when (s.is (pd n) PD_DISC && !s.is (pd n) PD_CHOSEN && s.rd (pd n) PD_TRY = 0) fun s => s.afterCable n
  | 18 => s.pdIdle n
  | 21 | 23 => s.afterCable n
  | 24 | 25 => s.enterNext n
  | 26 | 27 => s.strike n (s.rd (pd n) PD_TRY)
  | _ => s

/-- REJECT (R352, R355). -/
def execReject (n : Nat) (raw : List Nat) (s : State) : Res := .next (s.pdRecv n 0 raw fun s => s.pdRefused n)

/-- WAIT (R352): a new attempt after 100 ms, three times at most; the third counts as a Reject. -/
def execWait (n : Nat) (raw : List Nat) (s : State) : Res :=
  let q := pd n
  .next (s.pdRecv n 0 raw fun s =>
    if s.rd q PD_ST = 3 && s.rd q PD_WAITS < 2 then (s.count q PD_WAITS).pdStep n 31 else s.pdRefused n)

/-- WAIT_RETRY (R352). -/
def execWaitRetry (n : Nat) (s : State) : Res :=
  .next (s.when (s.pdBasic n && s.rd (pd n) PD_ST = 31 && s.pdAged n 100) fun s => s.sendRequest n)

/-- PS_RDY (R352, R355): the contract is in place, or the swap goes on. (log 83, DEDUCED) -/
def execPsRdy (n : Nat) (raw : List Nat) (frs : Bool) (s : State) : Res :=
  let q := pd n
  .next (s.pdRecv n 0 raw fun s =>
    match s.rd q PD_ST with
    | 4 =>
      let s := s.contractDone n
      let arm := frs && s.is q PD_POLICY_FRS_EN && s.is glb GLB_SUPPLY_OK &&
        s.rd glb (GLB_GPIO.nth 13) != 255 && !s.pdSource n
      let s := s.when arm fun s => s.askSafe n 6 1 0 0
      s.wr q PD_STATUS_FRS_ARMED (if arm then 1 else 0)
    | 9 => ((s.takeRole n false).askSafe n 2 1 0 0).swapDone n PD_CNT_SWAP_PR
    | 10 => ((((s.takeRole n true).setSupply n 5000).pdPhase n 4).pdStep n 11).askSafe n 2 0 0 0 |>.pdClosed n
    | 14 => ((s.askSafe n 5 0 0 0).wr q PD_STATUS_VCONN 0).swapDone n PD_CNT_SWAP_VC
    | 17 => ((s.takeRole n true).pdSend n 0 .psRdy).swapDone n PD_CNT_SWAP_FR
    | 19 => ((s.takeRole n false).askSafe n 2 1 0 0).swapDone n PD_CNT_SWAP_FR
    | _ => s)

/-- SRC_TRANSITION (R355, R362): 28 ms after Accept the source changes its supply and sends PS_RDY, or in PR_Swap opens its
switch and discharges VBUS. -/
def execSrcTransition (n : Nat) (s : State) : Res :=
  let q := pd n
  .next (s.when (s.pdBasic n && s.pdAged n 28) fun s =>
    match s.rd q PD_ST with
    | 2 => ((s.setSupply n (s.rd q PD_PV)).pdSend n 0 .psRdy).contractDone n
    | 7 => (((s.askSafe n 3 0 0 0).askSafe n 4 0 0 0).pdPhase n 3).pdStep n 8
    | _ => s)

/-! ### Swaps -/

/-- PR_SWAP (R355). -/
def execPrSwap (n : Nat) (raw : List Nat) (s : State) : Res :=
  let q := pd n
  .next (s.pdRecv n 0 raw fun s =>
    if !s.is q PD_POLICY_ACC_PR || s.pdNegotiating n || (!s.pdSource n && !s.canGuarantee n) then s.swapReject n
    else
      let s := (s.pdSend n 0 .accept).pdPhase n 2
      if s.pdSource n then s.pdStep n 7 else (s.askSafe n 3 1 0 0).pdStep n 10)

/-- DR_SWAP (R355). -/
def execDrSwap (n : Nat) (raw : List Nat) (s : State) : Res :=
  let q := pd n
  .next (s.pdRecv n 0 raw fun s =>
    if !s.is q PD_POLICY_ACC_DR || s.pdNegotiating n then s.swapReject n
    else ((s.pdSend n 0 .accept).wr q PD_STATUS_DR (1 - s.rd q PD_STATUS_DR)).swapDone n PD_CNT_SWAP_DR)

/-- VCONN_SWAP (R355). -/
def execVconnSwap (n : Nat) (raw : List Nat) (s : State) : Res :=
  let q := pd n
  .next (s.pdRecv n 0 raw fun s =>
    if !s.is q PD_POLICY_ACC_VCONN || s.pdNegotiating n || (!s.is q PD_STATUS_VCONN && !s.vconnMay n) then s.swapReject n
    else
      let s := s.pdSend n 0 .accept
      if s.is q PD_STATUS_VCONN then (s.pdPhase n 8).pdStep n 14
      else ((s.takeVconn n).pdSend n 0 .psRdy).swapDone n PD_CNT_SWAP_VC)

/-- FR_SWAP (R355): the initial source, whose switch is open, accepts, presents Rd and sends PS_RDY. -/
def execFrSwap (n : Nat) (raw : List Nat) (s : State) : Res :=
  .next (s.pdRecv n 0 raw fun s =>
    if s.rd (pd n) PD_ST = 16 then (((s.pdSend n 0 .accept).pdSend n 0 .psRdy).pdPhase n 6).pdStep n 19
    else s.swapReject n)

/-- FRS_SIGNAL (R355): an armed sink opens its switch; the source switch may close once VBUS has fallen, and FR_Swap
follows. -/
def execFrsSignal (n vbus : Nat) (s : State) : Res :=
  let q := pd n
  .next (s.when (s.works q && s.is q PD_STATUS_FRS_ARMED && s.is safe (SP_STATE_FRS.nth n) && !s.pdSource n &&
      !s.is safe (SP_STATE_TRIPPED.nth n)) fun s =>
    let s := (s.measure n vbus (s.rd safe (SP_IBUS.nth n))).openBoth n
    let s := (s.wr safe (SP_FRS_SEEN.nth n) 1).wr q PD_STATUS_FRS_ARMED 0
    let s := (s.setSupply n 5000).pdPhase n 5
    s.when (s.pdBasic n) fun s => (s.pdSend n 0 .frSwap).pdStep n 15)

/-- SUPPLY_FAIL_GPIO (R355), where the image names the GPIO: each source with FRS_EN signals on CC, opens its switch, and goes on as new sink. (log 83, DEDUCED) -/
def execSupplyFailGpio (s : State) : Res :=
  .next (s.when (s.rd glb (GLB_GPIO.nth 14) != 255) fun s => (List.range 6).foldl (fun s n =>
    s.when (s.pdBasic n && s.rd (pd n) PD_STATUS_STATE = 2 && s.is (pd n) PD_POLICY_FRS_EN) fun s =>
      let s := (s.send (.frsSignal n)).askSafe n 3 0 0 0
      (s.pdPhase n 5).pdStep n 16) (s.wr glb GLB_SUPPLY_OK 0))

/-! ### Resets -/

/-- HARD_RESET_RX (R356, R357). -/
def execHardResetRx (n : Nat) (s : State) : Res :=
  .next (s.when (s.works (pd n) && s.pdAttached n) fun s => s.hardReset n false)

/-- SOFT_RESET_RX (R361, R363): the protocol is reset and answered Accept, and a new negotiation follows. -/
def execSoftResetRx (n : Nat) (raw : List Nat) (s : State) : Res :=
  .next (s.pdRecv n 0 raw fun s =>
    let s := (((s.count (pd n) PD_CNT_SR_RX).pdSend n 0 .accept).wr (pd n) PD_PEND 0).pdIdle n
    s.when (s.pdSource n) fun s => s.sendCaps n)

/-- SRC_RECOVER (R356): 700 ms after a hard reset the source closes its switch again at 5 V. -/
def execSrcRecover (n : Nat) (s : State) : Res :=
  .next (s.when (s.works (pd n) && s.rd (pd n) PD_ST = 29 && s.pdAged n 700) fun s =>
    let s := ((s.setSupply n 5000).askSafe n 2 0 0 0).pdStep n 0
    s.when (s.pdBasic n) fun s => (s.allotPort n).sendCaps n)

/-- ERROR_RECOVERY_DONE (R356): 30 ms have passed, and the port attaches afresh. -/
def execErrorRecoveryDone (n : Nat) (s : State) : Res :=
  .next (s.when (s.rd (pd n) PD_STATUS_STATE = 5 && s.pdAged n 30) fun s => s.unattach n)

/-! ### EPR and PPS -/

/-- EPR_MODE (R350): action 1 asks for entry, 3 and 4 answer the hub's own entry, 5 ends the mode. -/
def execEprMode (n : Nat) (raw : List Nat) (s : State) : Res :=
  let q := pd n
  let may := s.pdSource n && s.is q PD_POLICY_EPR_EN && 3000 ≤ s.rd safe (SP_SENSE_VS_DIV.nth n) && s.is q PD_ATTACH_EPR_CABLE
  .next (s.pdRecv n 0 raw fun s =>
    match raw.getD 1 0 / 2 ^ 24 with
    | 1 =>
      if may then
        let s := (s.pdSend n 0 (.eprMode 2)).pdSend n 0 (.eprMode 3)
        ((s.wr q PD_STATUS_EPR 1).wr q PD_KA_TIME s.clock).sendCaps n
      else s.pdSend n 0 (.eprMode 4)
    | 3 => s.when (s.rd q PD_ST = 18) fun s => ((s.wr q PD_STATUS_EPR 1).wr q PD_KA_TIME s.clock).pdIdle n
    | 4 => s.when (s.rd q PD_ST = 18) fun s => s.pdIdle n
    | 5 => (s.wr q PD_STATUS_EPR 0).when (s.pdSource n) fun s => s.sendCaps n
    | _ => s)

/-- EPR_KEEPALIVE (R350). -/
def execEprKeepalive (n : Nat) (raw : List Nat) (s : State) : Res :=
  .next (s.pdRecv n 0 raw fun s =>
    s.when (s.pdSource n && s.is (pd n) PD_STATUS_EPR) fun s =>
      (s.wr (pd n) PD_KA_TIME s.clock).pdSend n 0 (.eprKeepAlive true))

/-- EPR_KA_TIMER (R350): as sink in EPR mode. -/
def execEprKaTimer (n : Nat) (s : State) : Res :=
  let q := pd n
  let ms := clamp 25 50 (s.rd q PD_TMR_EPR_KA) * 10
  .next (s.when (s.pdBasic n && s.is q PD_STATUS_EPR && !s.pdSource n && s.rd q PD_KA_TIME + ms * 1000000 ≤ s.clock) fun s =>
    (s.wr q PD_KA_TIME s.clock).pdSend n 0 (.eprKeepAlive false))

/-- EPR_KA_LOST (R350): as source in EPR mode. -/
def execEprKaLost (n : Nat) (s : State) : Res :=
  let q := pd n
  .next (s.when (s.pdBasic n && s.is q PD_STATUS_EPR && s.pdSource n && s.rd q PD_KA_TIME + 875000000 ≤ s.clock) fun s =>
    (s.raise q 6).sendHardReset n)

/-- Is the contract a PPS or AVS contract? -/
def State.pdProg (s : State) (n : Nat) : Bool := s.is (pd n) PD_STATUS_CONTRACT && 3 ≤ s.rd (pd n) PD_STATUS_KIND

/-- PPS_REQ_TIMER (R350): as sink, while no sequence is in progress. -/
def execPpsReqTimer (n : Nat) (s : State) : Res :=
  let q := pd n
  let ms := clamp 1000 9000 (s.rd q PD_TMR_PPS_REQ)
  .next (s.when (s.pdBasic n && s.pdProg n && !s.pdSource n && s.rd q PD_ST = 0 &&
      s.rd q PD_PPS_TIME + ms * 1000000 ≤ s.clock) fun s =>
    ((s.wr q PD_PPS_TIME s.clock).pdSend n 0 (.request (s.rd q PD_RDO))).pdStep n 3)

/-- PPS_TIMEOUT (R350): as source. -/
def execPpsTimeout (n : Nat) (s : State) : Res :=
  let q := pd n
  .next (s.when (s.pdBasic n && s.pdProg n && s.pdSource n && s.rd q PD_PPS_TIME + 13500000000 ≤ s.clock) fun s =>
    (s.raise q 7).sendHardReset n)

/-! ### Discovery and modes -/

/-- DISCOVER_IDENTITY (R348): of the cable on SOP', of the partner on SOP. -/
def execDiscoverIdentity (n sop : Nat) (answered : Bool) (raw : List Nat) (s : State) : Res :=
  let q := pd n
  .next (s.pdRecv n sop raw fun s =>
    match s.rd q PD_ST, sop with
    | 21, 1 =>
      if !answered then s.pdRefused n
      else
        let v := raw.getD 5 0
        let s := ((s.wr q PD_ATTACH_EMARKED 1).wr q PD_ATTACH_EPR_CABLE (v / 2 ^ 17)).wr q PD_ATTACH_CABLE_5A
          (if v / 2 ^ 5 % 4 = 2 then 1 else 0)
        let s := (s.wr q PD_SPEED v).pdSend n 1 .discoverSvids
        (s.pdSend n 1 (.discoverModes (s.rd glb GLB_KLOYR_SVID))).pdStep n 23
    | 24, 0 =>
      if !answered then s.pdRefused n
      else ((s.wr q PD_ATTACH_USB4 (raw.getD 5 0 / 2 ^ 27)).pdSend n 0 (.discoverModes (s.rd glb GLB_KLOYR_SVID))).pdStep n 25
    | _, _ => s)

/-- DISCOVER_MODES (R348): the mode VDO for the Kloyr SVID. (log 84, DEDUCED) -/
def execDiscoverModes (n sop : Nat) (answered : Bool) (raw : List Nat) (s : State) : Res :=
  let q := pd n
  let v := raw.getLast?.getD 0
  .next (s.pdRecv n sop raw fun s =>
    match s.rd q PD_ST, sop with
    | 23, 1 => ((s.when answered fun s => s.wr q PD_ATTACH_RATE32 (v / 2 ^ 27))).afterCable n
    | 25, 0 =>
      let s := s.when (answered && v / 2 ^ 28 % 16 = 1) fun s =>
        (s.wr q PD_ATTACH_KLOYR (v / 2 ^ 27)).wr q PD_ATTACH_KH520 (v / 2 ^ 26)
      s.enterNext n
    | _, _ => s)

/-- ENTER_MODE (R348): as UFP, ACK a supported mode and NAK another; as DFP, the partner's answer. -/
def execEnterMode (n : Nat) (ack : Bool) (raw : List Nat) (s : State) : Res :=
  let q := pd n
  let v := raw.getLast?.getD 0
  .next (s.pdRecv n 0 raw fun s =>
    if s.rd q PD_ST = 26 then
      if ack then (s.takeMode n (s.rd q PD_TRY)).pdIdle n else s.pdRefused n
    else if !s.is q PD_STATUS_DR && (v = 1 || v = 2) && (s.rd q PD_MODES).testBit (v - 1) then
      ((s.pdSend n 0 (.enterModeAns true)).takeMode n v).when (s.rd q PD_ST = 28) fun s => s.pdIdle n
    else s.pdSend n 0 (.enterModeAns false))

/-- ENTER_USB (R348, R117): as UFP, the first mode of the kind asked for that policy and cable allow. -/
def execEnterUsb (n : Nat) (raw : List Nat) (s : State) : Res :=
  let q := pd n
  let kind := raw.getD 1 0 / 2 ^ 28 % 8
  .next (s.pdRecv n 0 raw fun s =>
    let s := s.when (kind = 2) fun s => s.wr q PD_ATTACH_USB4 1
    let m := if kind = 2 then [3, 4, 5].find? fun m => s.modeMay n m else if kind = 1 then [6, 7].find? fun m => s.modeMay n m else some 0
    match m with
    | some m => if s.is q PD_STATUS_DR then s.pdSend n 0 .reject
        else ((s.pdSend n 0 .accept).takeMode n m).when (s.rd q PD_ST = 28) fun s => s.pdIdle n
    | none => s.pdSend n 0 .reject)

/-- DR_SWAP_WAIT (R348): a UFP that has got no Enter Mode for 100 ms sends DR_Swap once. -/
def execDrSwapWait (n : Nat) (s : State) : Res :=
  let q := pd n
  .next (s.when (s.pdBasic n && s.rd q PD_ST = 28 && s.pdAged n 100) fun s =>
    if s.is q PD_DRS_DONE then s.pdIdle n
    else ((s.wr q PD_DRS_DONE 1).pdSend n 0 .drSwap).pdStep n 12)

/-- AUTHENTICATION_MSG (R346, R363): answered by the hardware in both levels. -/
def execAuthenticationMsg (n sop : Nat) (s : State) : Res :=
  .next (s.when (s.works (pd n) && s.pdAttached n) fun s => s.pdSend n sop .notSupported)

/-! ### Requests from software -/

/-- A write of 1 to a bit of PD_CTRL queues a request, one of each kind (R349). -/
def State.pdQueue (s : State) (who : Initiator) (n : Nat) (f : Field) (bit : Nat) : State :=
  s.access who (pd n) f fun s => s.wrBit (pd n) PD_Q bit true

/-- HARD_RESET (R349). -/
def execHardReset (who : Initiator) (n : Nat) (s : State) : Res := .next (s.pdQueue who n PD_CTRL_HARD_RESET 0)

/-- SOFT_RESET (R349). -/
def execSoftReset (who : Initiator) (n : Nat) (s : State) : Res := .next (s.pdQueue who n PD_CTRL_SOFT_RESET 1)

/-- SWAP_VCONN (R349). -/
def execSwapVconn (who : Initiator) (n : Nat) (s : State) : Res := .next (s.pdQueue who n PD_CTRL_SWAP_VCONN 3)

/-- SWAP_DR (R349). -/
def execSwapDr (who : Initiator) (n : Nat) (s : State) : Res := .next (s.pdQueue who n PD_CTRL_SWAP_DR 4)

/-- SWAP_PR (R349). -/
def execSwapPr (who : Initiator) (n : Nat) (s : State) : Res := .next (s.pdQueue who n PD_CTRL_SWAP_PR 5)

/-- EPR_ENTER (R349). -/
def execEprEnter (who : Initiator) (n : Nat) (s : State) : Res := .next (s.pdQueue who n PD_CTRL_EPR_ENTER 6)

/-- EPR_EXIT (R349). -/
def execEprExit (who : Initiator) (n : Nat) (s : State) : Res := .next (s.pdQueue who n PD_CTRL_EPR_EXIT 7)

/-- ERR_RECOVERY (R356): the field runs Error Recovery at once. -/
def execErrRecovery (who : Initiator) (n : Nat) (s : State) : Res :=
  .next (s.access who (pd n) PD_CTRL_ERR_RECOVERY fun s => s.when (s.pdAttached n) fun s => s.errRecovery n)

/-- The first message of a queued request goes out, if the request is still valid (R349). -/
def State.pdStart (s : State) (n bit : Nat) : State :=
  let q := pd n
  let s := (s.wrBit q PD_Q bit false).wr q PD_PEND 0
  match bit with
  | 1 => ((s.pdSend n 0 .softReset).count q PD_CNT_SR_TX).pdStep n 20
  | 2 =>
    let s := s.wr q PD_ARMNEG (s.rd q PG_SHADOW_CTRL_ARMED)
    if s.pdSource n then s.sendCaps n else s.sendRequest n
  | 3 => ((s.pdSend n 0 .vconnSwap).pdPhase n 7).pdStep n 13
  | 4 => (s.pdSend n 0 .drSwap).pdStep n 12
  | 5 => ((s.pdSend n 0 .prSwap).pdPhase n 1).pdStep n 6
  | 6 => if s.pdSource n || s.is q PD_STATUS_EPR then s else (s.pdSend n 0 (.eprMode 1)).pdStep n 18
  | _ => if s.is q PD_STATUS_EPR then ((s.pdSend n 0 (.eprMode 5)).wr q PD_STATUS_EPR 0).pdIdle n else s

/-- PD_SEQUENCE_START (R349): the first queued request in the order of R349. A hard reset goes at once; a source sets
SinkTxNG first, and a sink starts only at SinkTxOk. A contained page starts nothing (R364). -/
def execPdSequenceStart (n : Nat) (s : State) : Res :=
  let q := pd n
  .next (s.when (s.pdBasic n && s.pdAttached n && !s.is q PG_STATUS_CONTAINED) fun s =>
    match (List.range 8).find? fun b => s.rdBit q PD_Q b with
    | none => s
    | some 0 => (s.wrBit q PD_Q 0 false).sendHardReset n
    | some b =>
      if (s.rd q PD_ST != 0 && s.rd q PD_ST != 28) || s.is q PD_PEND then s
      else if s.pdSource n then ((s.wr q PD_STATUS_SINKTX 2).wr q PD_PEND (b + 1)).pdStep n (s.rd q PD_ST)
      else s.when (s.rd q PD_STATUS_SINKTX = 1) fun s => s.pdStart n b)

/-- The message of the transmit buffer goes out (R363). GoodCRC is taken to come unless it is reported missing. -/
def State.pdTransmit (s : State) (n : Nat) : State :=
  let q := pd n
  let k := min 8 (s.rd q PD_TX_CTRL_WORDS)
  let ws := (List.range k).map fun i => s.rd q (PD_TX_BUF_DATA.nth i)
  ((s.pdSend n (s.rd q PD_TX_CTRL_SOP) (.raw ws)).wr q PD_TX_CTRL_RESULT 1).wr q PD_PEND 0

/-- SINKTX_EXPIRY (R349). -/
def execSinktxExpiry (n : Nat) (s : State) : Res :=
  let q := pd n
  let ms := clamp 16 20 (s.rd q PD_TMR_SINKTX)
  .next (s.when (s.works q && s.is q PD_PEND && s.pdAged n ms) fun s =>
    if s.rd q PD_PEND = 9 then s.pdTransmit n
    else s.when (s.pdBasic n) fun s => s.pdStart n (s.rd q PD_PEND - 1))

/-- PD_TX_SEND (R363): sent under R349; an answer to a message just received goes at once. -/
def execPdTxSend (who : Initiator) (n : Nat) (s : State) : Res :=
  let q := pd n
  .next (s.access who q PD_TX_CTRL_SEND fun s =>
    let s := s.wr q PD_TX_CTRL_RESULT 0
    if !s.expert q || !s.pdAttached n then s
    else if s.is q PD_RESP then (s.wr q PD_RESP 0).pdTransmit n
    else if s.pdSource n then ((s.wr q PD_STATUS_SINKTX 2).wr q PD_PEND 9).pdStep n 0
    else if s.rd q PD_STATUS_SINKTX = 1 then s.pdTransmit n else (s.wr q PD_PEND 9).wr q PD_TIME (2 ^ 64 - 1))

/-- RP_CHANGE (R349): SinkTxOk releases the hub's queued message. -/
def execRpChange (n rp : Nat) (s : State) : Res :=
  let q := pd n
  .next (s.when (s.works q && s.pdAttached n && !s.pdSource n) fun s =>
    let s := (s.wr q PD_STATUS_PARTNER_RP rp).wr q PD_STATUS_SINKTX (if rp = 3 then 1 else if rp = 2 then 2 else 0)
    s.when (rp = 3 && s.rd q PD_PEND = 9) fun s => s.pdTransmit n)

/-! ### Timers -/

/-- SOURCE_CAPABILITIES_REPEAT (R362): every 150 ms before a contract, up to 50 times. -/
def execSourceCapabilitiesRepeat (n : Nat) (s : State) : Res :=
  let q := pd n
  .next (s.when (s.pdBasic n && s.rd q PD_STATUS_STATE = 2 && !s.is q PD_STATUS_CONTRACT && s.rd q PD_ST ≤ 1 &&
      s.rd q PD_CAPS_N < 50 && s.pdAged n 150) fun s => s.sendCaps n)

/-- SENDER_RESPONSE_TIMEOUT (R362): the sequence fails. A Request or Soft_Reset without an answer is followed by Hard
Reset. -/
def execSenderResponseTimeout (n : Nat) (s : State) : Res :=
  let q := pd n
  .next (s.when (s.pdBasic n && s.pdAged n 30) fun s =>
    match s.rd q PD_ST with
    | 1 => if s.is q PD_STATUS_CONTRACT then s.sendHardReset n else s
    | 3 | 20 => s.sendHardReset n
    | _ => s.pdRefused n)

/-- PS_RDY_TIMEOUT (R362). -/
def execPsRdyTimeout (n : Nat) (s : State) : Res :=
  let q := pd n
  let ms := match s.rd q PD_ST with
    | 4 => if s.is q PD_STATUS_EPR then 925 else 500
    | 9 | 19 => 435
    | _ => 835
  .next (s.when (s.pdBasic n && [4, 9, 10, 14, 17, 19].contains (s.rd q PD_ST) && s.pdAged n ms) fun s => s.sendHardReset n)

/-- NO_RESPONSE_TIMEOUT (R347, R362): without PD, the port keeps the Type-C current and tries USB 3.2 and USB 2.0; a
partner that had answered PD is sent Hard Reset. -/
def execNoResponseTimeout (n : Nat) (s : State) : Res :=
  let q := pd n
  .next (s.when (s.pdBasic n && s.pdAttached n && !s.is q PD_STATUS_CONTRACT && s.pdAged n 5000) fun s =>
    if s.is q PD_ATTACH_PD then s.sendHardReset n else (s.pdIdle n).enterNext n)

/-- GOODCRC_MISSING (R362, R363, R364): two retries, then the message has failed. -/
def execGoodcrcMissing (n : Nat) (s : State) : Res :=
  let q := pd n
  .next (match Tab.find s.pdLast n with
    | none => s
    | some (sop, m) =>
      s.when (s.works q) fun s =>
        if s.rd q PD_TXFAIL < 2 then
          ((s.count q PD_TXFAIL).send (.pd n sop m)).when (s.expert q) fun s => s.wr q PD_TX_CTRL_RESULT 0
        else
          let s := { (s.count q PD_CNT_MSG_FAIL).wr q PD_TXFAIL 0 with pdLast := s.pdLast.del n }
          (s.raise q 4).when (s.expert q) fun s => s.wr q PD_TX_CTRL_RESULT 2)

/-- PD_CNT_CLR (R363). -/
def execPdCntClr (who : Initiator) (n : Nat) (s : State) : Res :=
  .next (s.access who (pd n) PD_CNT_CLR_CLR fun s =>
    s.clearFields (pd n) [PD_CNT_HR_RX, PD_CNT_HR_TX, PD_CNT_SR_RX, PD_CNT_SR_TX, PD_CNT_MSG_FAIL, PD_CNT_SWAP_PR,
      PD_CNT_SWAP_DR, PD_CNT_SWAP_VC, PD_CNT_SWAP_FR, PD_CNT_DETACH_TR])

end Sys2Proof.Machine
end

