-- ==== Sys2Proof/Machine/AlmOps.lean ====
section
/-! DEFINITION. The Almanac's shared operations: nominal capacity (R151, R197), the check of an armed page (R213), its application at a turnover (R214), the mode of an egress (R223, R224), and ISO_SHORT (R225). -/

namespace Sys2Proof.Machine

open Reg

/-! ### Capacity -/

/-- Lanes that a pair set gives this hub to transmit on (R83). -/
def setLanesOf (set : Nat) : Nat := if set = 1 then 3 else if set = 2 then 1 else 2

/-- The pair set that will be active at the next turnover: the armed LK_SET, or the current one (R151). -/
def State.comingSet (s : State) (port : Nat) : Nat :=
  let l := link port
  if s.is l PG_SHADOW_CTRL_ARMED then setCode (s.rd l LK_SET_SET) else s.rd l LK_CUR_SET

/-- The nominal payload rate of a tunnel port in Mbit/s: every enabled pad of the pair set to come (R125, R151). -/
def State.nominal (s : State) (port : Nat) : Nat :=
  let off := ((List.range 4).filter fun p => s.rd (lane port) (PR_STATUS_DIR.nth p) = 1 &&
    !(s.rdA (link port) LK_PAIR_PAD_EN).testBit p).length
  match s.mode port with
  | 1 => 58000 * (setLanesOf (s.comingSet port) - off)
  | 2 => 46400
  | 3 | 4 | 5 =>
    let n := ((List.range 4).filter fun p => s.rd (lane port) (PR_STATUS_DIR.nth p) = 1).length
    let per := if s.mode port = 3 then 38400 else if s.mode port = 4 then 19200 else 9600
    per * (if n = 0 then 2 else n)
  | _ => 0

/-- P_UNITS of an egress (R197). -/
def State.pUnits (s : State) (e : Nat) : Nat := if 6 ≤ e then 4096 else s.nominal e * 4 / 125

/-- CTRL_UNITS of an egress (R197). -/
def State.ctrlUnits (s : State) (e : Nat) : Nat := (s.pUnits e + 49) / 50

/-- The sum of the applied rows of a tunnel-port egress (R209). -/
def State.rowSum (s : State) (p : Page) : Nat :=
  ((List.range 64).map fun r => if s.is p (ALM_ROW_V.nth r) then s.rd p (ALM_ROW_UNITS.nth r) else 0).sum

/-! ### The check of an armed page -/

/-- The valid rows of a page: number, entry, units. -/
def State.validRows (s : State) (p : Page) : List (Nat × Nat × Nat) :=
  (List.range 64).filterMap fun r =>
    if s.is p (ALM_ROW_V.nth r) then some (r, s.rd p (ALM_ROW_ENTRY.nth r), s.rd p (ALM_ROW_UNITS.nth r)) else none

/-- The first row, if any, whose entry an earlier row names too. -/
def twice : List (Nat × Nat × Nat) → List Nat → Option Nat
  | [], _ => none
  | (r, k, _) :: t, seen => if seen.contains k then some r else twice t (k :: seen)

/-- What fails in a shadow page (R209, R213): the cause and the row concerned. -/
def State.almFault (s : State) (e : Nat) : Option (Nat × Nat) :=
  let p := almSh e
  let g := s.rd p ALM_ISO_G_UNITS
  if 6 ≤ e then (if 4096 < s.rd p ALM_ISO_ISO_UNITS + g then some (2, 0) else none)
  else
    let rows := s.validRows p
    let sum := s.rowSum p
    if 90 * s.pUnits e / 100 < sum then some (1, 0)
    else if 94 * s.pUnits e / 100 < sum + g then some (2, 0)
    else match twice rows [] with
      | some r => some (3, r)
      | none => (rows.find? fun r => r.2.2 = 0).map fun r => (4, r.1)

/-- The check made on accepting an arm of a shadow page (R213): a page that fails is disarmed, with neither APPLIED nor
LATE set, and SHADOW_INVALID is raised. -/
def State.almCheck (s : State) (e : Nat) : State :=
  let p := almSh e
  match s.almFault e with
  | none => (s.wr p ALM_CHECK_FAIL 0).wr p ALM_CHECK_CAUSE 0
  | some (c, r) =>
    ((((s.wr p PG_SHADOW_CTRL_ARMED 0).wr p ALM_CHECK_FAIL 1).wr p ALM_CHECK_CAUSE c).wr p ALM_CHECK_ROW r).raise p 0

/-! ### Application -/

/-- The cap of a row's credit, bytes (R200). -/
def rowCap (units : Nat) : Nat := max 272 (8 * units)

/-- Credit of a row clamped to the cap of its units. -/
def State.clampRow (s : State) (e r units : Nat) : State :=
  let c := signed 32 (s.rd (alm e) (ALM_CREDIT.nth r))
  s.wr (alm e) (ALM_CREDIT.nth r) (unsigned 32 (min c (rowCap units : Nat)))

/-- The active copy of a page takes the shadow copy (R49, R214): a row whose entry is unchanged keeps its credit,
clamped to its new cap; a new row starts at 0 and a removed row's credit is discarded. -/
def State.almApply (s : State) (e : Nat) : State :=
  let old := s.validRows (alm e)
  let s := almAllocFields.foldl (fun s f => (List.range f.cnt).foldl (fun s i =>
    s.wr (alm e) (f.nth i) (s.rd (almSh e) (f.nth i))) s) s
  let s := if 6 ≤ e then s.clampRow e 0 (s.rd (alm e) ALM_ISO_ISO_UNITS)
    else (List.range 64).foldl (fun s r =>
      if s.is (alm e) (ALM_ROW_V.nth r) && old.any fun o => o.1 = r && o.2.1 = s.rd (alm e) (ALM_ROW_ENTRY.nth r) then
        s.clampRow e r (s.rd (alm e) (ALM_ROW_UNITS.nth r))
      else s.wr (alm e) (ALM_CREDIT.nth r) 0) s
  s.count (alm e) ALM_CNT_TURN

/-- Does an entry match a row of TP_n: ACTIVE in class 1, and leaving by TP_n or by a group with a member there (R214)? -/
def State.rowFits (s : State) (e k : Nat) : Bool :=
  s.rd (path k) PT_W0_STATE = 1 && s.rd (path k) PT_W0_CLASS = 1 && (s.outEnds k).any fun x => x.1 = e

/-- Rows are checked against the path table as it stands after the turnover; ROW_REJECT is raised once (R214). -/
def State.rowCheck (s : State) (e : Nat) : State :=
  if 6 ≤ e then s
  else
    let bad := (s.validRows (alm e)).filter fun r => !s.rowFits e r.2.1
    let s := (List.range 64).foldl (fun s r => s.wr (alm e) (ALM_ROW_BAD.nth r) (if bad.any fun b => b.1 = r then 1 else 0)) s
    s.when (!bad.isEmpty) fun s => s.raise (alm e) 3

/-! ### Calendar -/

/-- The bytes that `units` earn in calendar slot `t` (R200). -/
def slotBytes (units t : Nat) : Nat := (t + 1) * units / 4 - t * units / 4

/-- A row earns its slot's credit, up to its cap (R200). -/
def State.earn (s : State) (e r units t : Nat) : State :=
  let c := signed 32 (s.rd (alm e) (ALM_CREDIT.nth r)) + (slotBytes units t : Nat)
  s.wr (alm e) (ALM_CREDIT.nth r) (unsigned 32 (min c (rowCap units : Nat)))

/-- Calendar slot `t` begins at every egress (R197, R200). -/
def State.calendarSlot (s : State) (t : Nat) : State :=
  let s := (List.range 6).foldl (fun s e =>
    (s.validRows (alm e)).foldl (fun s r => if s.is (alm e) (ALM_ROW_BAD.nth r.1) then s else s.earn e r.1 r.2.2 t) s) s
  (List.range 20).foldl (fun s k =>
    let u := s.rd (alm (6 + k)) ALM_ISO_ISO_UNITS
    if u = 0 then s else s.earn (6 + k) 0 u t) s

/-! ### Mode -/

/-- Send ISO_SHORT or ISO_OK about some entries out of a port (R216, R225): their egress path IDs there, the slots in
separate packets. -/
def State.isoSend (s : State) (port cop : Nat) (ks : List Nat) : State :=
  (List.range 2).foldl (fun s d =>
    let ids := (ks.filter fun k => s.rd (path k) PT_W0_DOM = d).flatMap fun k =>
      ((s.outEnds k).filter fun e => e.1 = port).map fun e => e.2
    (downPackets d (s.hubId d) 0 0 (ids.length + 1) ids).foldl (fun s c => s.ctrlOut port { c with cop := cop }) s) s

/-- The entries of the applied rows of a tunnel-port egress. -/
def State.rowEntries (s : State) (e : Nat) : List Nat := (s.validRows (alm e)).map fun r => r.2.1

/-- At the end of an epoch (R209, R223 to R225): what was served and C_m, the mode of the new epoch, and ISO_SHORT or
ISO_OK. An epoch that the link spent partly outside ACTIVE gives no new C_m and keeps the mode. -/
def State.epochMode (s : State) (e : Nat) : State :=
  let a := alm e
  let s := (((s.wr a ALM_SERV_A_CTRL (s.rd a ALM_ACC_CTRL / 64)).wr a ALM_SERV_A_ISO (s.rd a ALM_ACC_ISO / 64)).wr a
    ALM_SERV_B_GUAR (s.rd a ALM_ACC_GUAR / 64)).wr a ALM_SERV_B_BE (s.rd a ALM_ACC_BE / 64)
  let s := s.accSent e
  let sent := s.rd a ALM_ACC_SENT / 8000
  let lost := s.rd a ALM_ACC_CAP
  let broken := s.is a ALM_ACC_BROKEN || s.rd (lane e) LN_STATUS_STATE != 7
  let s := [ALM_ACC_CTRL, ALM_ACC_ISO, ALM_ACC_GUAR, ALM_ACC_BE, ALM_ACC_CAP, ALM_ACC_SENT, ALM_ACC_BROKEN].foldl (fun s f => s.wr a f 0) s
  if broken then s.wr a ALM_ACC_BROKEN (if s.rd (lane e) LN_STATUS_STATE = 7 then 0 else 1)
  else
    let cm := (sent - lost) / 64
    let iso := (s.rowSum a * 17 + 15) / 16
    let g := (s.rd a ALM_ISO_G_UNITS * 17 + 15) / 16
    let ctl := s.ctrlUnits e
    let mode := if ctl + iso + g ≤ cm then 0 else if ctl + iso ≤ cm then (if s.is a ALM_PROT_PROTECT_EN then 1 else 0) else 2
    let was := s.rd a ALM_STATUS_MODE
    let s := (s.wr a ALM_MEAS_CAP_UNITS cm).wr a ALM_STATUS_MODE mode
    let s := s.when (mode = 1) fun s => s.count a ALM_CNT_PROTECT
    let s := s.when (mode = 2) fun s => s.count a ALM_CNT_SHORT
    let s := s.when (mode = 1 && was != 1) fun s => s.raise a 1
    let s := s.when (mode = 2 && was != 2) fun s => s.raise a 0
    if mode = 2 then
      let s := s.wr a ALM_RECOVERED 0
      s.when (!s.is a ALM_STATUS_SHORT_SENT) fun s => (s.isoSend e 0x24 (s.rowEntries e)).wr a ALM_STATUS_SHORT_SENT 1
    else if s.is a ALM_STATUS_SHORT_SENT then
      let n := s.rd a ALM_RECOVERED + 1
      if orOne (s.rd a ALM_PROT_RECOVER) ≤ n then
        ((s.isoSend e 0x25 (s.rowEntries e)).wr a ALM_STATUS_SHORT_SENT 0).wr a ALM_RECOVERED 0
      else s.wr a ALM_RECOVERED n
    else s

/-- ISO_SHORT or ISO_OK arrives at a port (R225): outputs are told, and the notice goes on out of the ports of the
entries that leave by tunnel ports. (log 45, DEDUCED) -/
def State.isoRx (s : State) (port : Nat) (c : Ctrl) : State :=
  let ids := (c.words.tail.flatMap fun w => [w / 65536 % 65536, w % 65536]).take (c.words.headD 0 % 65536)
  let ks := ids.filterMap fun i => s.lookup port i
  let s := ks.foldl (fun s k =>
    let o := s.rd (path k) PT_W1_OUT_PORT
    if !s.is (path k) PT_W1_MC_EN && 0x10 ≤ o && o ≤ 0x13 then s.dispShort (o - 0x10) (s.rd (path k) PT_W1_OUT_PATH_ID) (c.cop = 0x24) else s) s
  (List.range 6).foldl (fun s p => s.isoSend p c.cop ks) s

end Sys2Proof.Machine
end

