-- ==== Sys2Proof/Machine/ArmOps.lean ====
section
/-! DEFINITION. Arming the pages whose boundary is a turnover (R48, R50, R105, R106, R211, R213), and Moabeuc's derivation of the Almanac pages (R211). -/

namespace Sys2Proof.Machine

open Reg

/-! ### Derivation of the Almanac -/

/-- The egress ends of an entry: port code and path ID, of every member for multicast. -/
def State.egresses (s : State) (k : Nat) : List (Nat × Nat) :=
  let p := path k
  if s.is p PT_W1_MC_EN then (s.members (s.rd p PT_W1_MC_GROUP)).map fun m => (m.2.1, m.2.2)
  else [(s.rd p PT_W1_OUT_PORT, s.rd p PT_W1_OUT_PATH_ID)]

/-- Does an entry leave by egress `e`: TP_e, or fabric port `e - 6`? -/
def State.leavesBy (s : State) (e k : Nat) : Bool :=
  (s.egresses k).any fun x => if e < 6 then x.1 = e else fpOf x.1 x.2 = e - 6

/-- The key of an entry, with its kind of protection (R138). -/
def State.replKey (s : State) (k : Nat) : Nat × Nat × Bool :=
  (s.rd (path k) PT_W0_IN_PORT, s.rd (path k) PT_W0_IN_PATH_ID, s.rd (path k) PT_W0_PROT = 2)

/-- The entries that the table will hold in ACTIVE after the turnover (R211). -/
def State.coming (s : State) : List Nat :=
  let adds := s.entries.filter fun k => s.rd (path k) PT_W0_STATE = 2
  let keys := adds.map s.replKey
  s.entries.filter fun k => s.rd (path k) PT_W0_STATE = 2 ||
    (s.rd (path k) PT_W0_STATE = 1 && !keys.contains (s.replKey k))

/-- The sum of RSV_UNITS of some entries in a class. -/
def State.unitsOfClass (s : State) (cls : Nat) (ks : List Nat) : Nat :=
  ((ks.filter fun k => s.rd (path k) PT_W0_CLASS = cls).map fun k => s.rd (path k) PT_W4_RSV_UNITS).sum

/-- Q2 of R211. -/
def deriveQ2 (p ctrl iso g : Nat) : Nat :=
  if p ≤ ctrl + iso + g then 65535
  else
    let d := p - ctrl - iso - g
    min 65535 (max 16 ((16 * g + d - 1) / d))

/-- Put entries into the lowest free rows of a shadow page. (log 114, DESIGN CHOICE) -/
def State.placeRows (s : State) (e : Nat) : Nat → List Nat → State
  | 0, _ => s
  | _, [] => s
  | fuel + 1, k :: t =>
    match (List.range 64).find? fun r => !s.is (almSh e) (ALM_ROW_V.nth r) with
    | none => s
    | some r =>
      State.placeRows (((s.wr (almSh e) (ALM_ROW_V.nth r) 1).wr (almSh e) (ALM_ROW_ENTRY.nth r) k).wr (almSh e)
        (ALM_ROW_UNITS.nth r) (s.rd (path k) PT_W4_RSV_UNITS)) e fuel t

/-- Moabeuc rewrites a shadow page from the path table (R211): an entry keeps its row, and a new one takes the lowest
free row. (log 18, DESIGN CHOICE; log 114, DESIGN CHOICE) -/
def State.deriveAlm (s : State) (e : Nat) : State :=
  let p := almSh e
  let mine := s.coming.filter (s.leavesBy e)
  let iso := s.unitsOfClass 1 mine
  let g := s.unitsOfClass 2 mine
  let q2 := deriveQ2 (s.pUnits e) (s.ctrlUnits e) iso g
  let s := ((s.wr p ALM_CLASS_Q3 16).wr p ALM_CLASS_Q2 q2).wr p ALM_ISO_G_UNITS (min 8191 g)
  if 6 ≤ e then s.wr p ALM_ISO_ISO_UNITS (min 8191 iso)
  else
    let want := mine.filter fun k => s.rd (path k) PT_W0_CLASS = 1
    let rows := s.validRows p
    let kept := rows.filter fun r => want.contains r.2.1
    let s := rows.foldl (fun s r =>
      if want.contains r.2.1 then s.wr p (ALM_ROW_UNITS.nth r.1) (s.rd (path r.2.1) PT_W4_RSV_UNITS)
      else ((s.wr p (ALM_ROW_V.nth r.1) 0).wr p (ALM_ROW_ENTRY.nth r.1) 0).wr p (ALM_ROW_UNITS.nth r.1) 0) s
    s.placeRows e 64 (want.filter fun k => !kept.any fun r => r.2.1 = k)

/-- Do shadow and active pages of an egress differ? -/
def State.almDiffers (s : State) (e : Nat) : Bool :=
  almAllocFields.any fun f => (List.range f.cnt).any fun i => s.rd (almSh e) (f.nth i) != s.rd (alm e) (f.nth i)

/-! ### Arming -/

/-- How many epochs TARGET lies ahead (R48). -/
def State.leadOf (s : State) (target : Nat) : Nat := (target % 65536 + 65536 - s.epoch % 65536) % 65536

/-- LK_SET is armed (R105, R106): TURN_PREP goes out, a request of the far end that waits is answered, and a link in a
low-power state wakes. With the lanes not in ACTIVE the arm is disarmed and TURN_ABORT raised. -/
def State.armLink (s : State) (port : Nat) : State :=
  let l := link port
  if s.rd l LK_STATUS_STATE = 0 then s.turnAbort port
  else
    let s := s.queueLink port (pairMsg 5 0 0 0 0 (s.rd l PG_SHADOW_CTRL_TARGET) (setCode (s.rd l LK_SET_SET)))
    let s := s.wakeLink port
    s.when (s.is l LK_PREP_VALID) fun s => s.turnAnswer port

/-- Accept or refuse an arm of a page with BOUND = 1 (R48, R50, R213): 0 armed, 1 late, 2 failed its check, 3 already
armed. -/
def State.armOne (s : State) (p : Page) (target : Nat) : State × Nat :=
  if s.is p PG_SHADOW_CTRL_ARMED then (s, 3)
  else
    let s := s.wr p PG_SHADOW_CTRL_TARGET target
    let d := s.leadOf target
    if d < 2 || 32767 < d then ((s.wr p PG_SHADOW_CTRL_LATE 1).setInt p intArmLate, 1)
    else
      let s := s.wr p PG_SHADOW_CTRL_ARMED 1
      let s := match p.kind with
        | .almSh => s.almCheck p.inst
        | .link => if s.usb4 p.inst then s else s.armLink p.inst
        | _ => s
      (s, if p.kind = .almSh && !s.is p PG_SHADOW_CTRL_ARMED then 2 else 0)

/-- At the basic level Moabeuc rewrites the Almanac's shadow pages and arms those that differ from their active pages,
with the path table (R211). -/
def State.deriveAll (s : State) (target : Nat) : State :=
  if s.is pathctl PG_CTRL_EXPERT || !s.moabeuc then s
  else (List.range 26).foldl (fun s e =>
    if s.is (almSh e) PG_CTRL_EXPERT || s.is (almSh e) PG_SHADOW_CTRL_ARMED then s
    else
      let s := s.deriveAlm e
      if s.almDiffers e then (s.armOne (almSh e) target).1 else s) s

/-- Arm a page with BOUND = 1; an arm of PATHCTL takes the Almanac with it (R211). -/
def State.armTurn (s : State) (p : Page) (target : Nat) : State × Nat :=
  match s.armOne p target with
  | (s, 0) => (if p = pathctl then s.deriveAll target else s, 0)
  | r => r

/-- Moabeuc arms PATHCTL for epoch C + 3 (R123, R161). -/
def State.armPaths (s : State) : State := (s.armTurn pathctl (s.epoch + 3)).1

/-- CANCEL before the boundary (R50). (log 25, DEDUCED) -/
def State.cancelArm (s : State) (p : Page) : State :=
  (s.wr p PG_SHADOW_CTRL_ARMED 0).when (p.kind = .link) fun s => s.wr p LK_STATUS_TURN_OK 0

end Sys2Proof.Machine
end

