-- ==== Sys2Proof/Machine/PathOps.lean ====
section
/-! DEFINITION. The path table's shared operations: which writes it takes (R136, R137), how it applies at a turnover (R138, R153), admission (R150 to R152, R155), and releasing entries and slots (R149, R161). -/

namespace Sys2Proof.Machine

open Reg

/-! ### Consistency -/

/-- Is a port code one of R133's, other than multicast? -/
def codeOk (c : Nat) : Bool := c ≤ 5 || (8 ≤ c && c ≤ 0x17)

/-- Is a path ID one that the port's mode uses (R121, R131, R135)? HopID 0 is for class 0 on a USB4 port. -/
def State.idOk (s : State) (port id cls : Nat) : Bool :=
  if port ≤ 5 && s.usb4 port then (if id = 0 then cls = 0 else id ≤ 2047)
  else 8 ≤ id && id ≤ 0xFFFE

/-- Is an end a tunnel port in Fysoelo mode? -/
def State.fysoelo (s : State) (code : Nat) : Bool := code ≤ 5 && s.mode code = 1

/-- Is entry `k` consistent (R137)? -/
def State.consistent (s : State) (k : Nat) : Bool :=
  let p := path k
  let i := s.rd p PT_W0_IN_PORT
  let o := s.rd p PT_W1_OUT_PORT
  let cls := s.rd p PT_W0_CLASS
  let mc := s.is p PT_W1_MC_EN
  codeOk i && (if mc then o = 0x1F else codeOk o) &&
  (cls != 0 || (i ≤ 5 && s.usb4 i && s.rd p PT_W0_IN_PATH_ID = 0)) &&
  (cls < 2 || s.is p PT_W2_QUANTUM) &&
  (!s.is p PT_W0_SEAL_IN || s.fysoelo i) && (!s.is p PT_W0_SEAL_OUT || s.fysoelo o) &&
  s.rd p PT_W4_RSV_UNITS ≤ 4096 && s.rd p PT_W0_PROT != 3 &&
  s.idOk i (s.rd p PT_W0_IN_PATH_ID) cls && (mc || s.idOk o (s.rd p PT_W1_OUT_PATH_ID) cls)

/-- Are two entries a working and a backup entry that name each other (R153)? -/
def State.mutual (s : State) (a b : Nat) : Bool :=
  let pa := s.rd (path a) PT_W0_PROT
  let pb := s.rd (path b) PT_W0_PROT
  ((pa = 1 && pb = 2) || (pa = 2 && pb = 1)) && s.is (path a) PT_W4_PV && s.is (path b) PT_W4_PV &&
  s.rd (path a) PT_W4_PARTNER = b && s.rd (path b) PT_W4_PARTNER = a

/-- May entry `k` stand in ADD (R136)? -/
def State.addable (s : State) (k : Nat) : Bool :=
  s.consistent k && (s.entries.filter fun j => j != k && s.rd (path j) PT_W0_STATE = 2).all fun j =>
    (!(s.sameKey j k) && !(s.rd (path k) PT_W1_OUT_PORT ≤ 5 && s.sameEgress j k)) || s.mutual j k

/-- The written fields of an entry, R134's RW fields. -/
def entryFields : List Field := pathFields.filter fun f => f.acc = .rw

/-- ENTRY_REJECT (R136). -/
def State.entryReject (s : State) : State := s.raise pathctl 6

/-- Entry `k` becomes FREE. -/
def State.freeEntry (s : State) (k : Nat) : State :=
  [PT_W0_STATE, PT_W0_DOWN, PT_APPLIED_DEL, PT_FAILED_OVER, PT_KEY_GRACE, PT_MOAB].foldl (fun s f => s.wr (path k) f 0) s

/-- An accepted write to an entry, already merged into `t`, under R136: kept, or dropped with ENTRY_REJECT. -/
def State.entryWrite (s t : State) (k : Nat) (moab : Bool) : State :=
  let p := path k
  let old := s.rd p PT_W0_STATE
  let new := t.rd p PT_W0_STATE
  let fields := entryFields.any fun f => f != PT_W0_STATE && s.rd p f != t.rd p f
  if fields && !(old = 0 || old = 2) then s.entryReject
  else if old = new then (if new = 2 && !t.addable k then s.entryReject else t)
  else if old = 0 && new = 2 then
    if t.addable k then t.wr p PT_MOAB (if moab then 1 else 0) else s.entryReject
  else if old = 2 && new = 0 then (t.wr p PT_MOAB 0)
  else if old = 1 && new = 3 then t
  else if old = 3 && new = 1 && !s.is p PT_APPLIED_DEL then t
  else s.entryReject

/-! ### Application at a turnover -/

/-- Packets and cells of a replaced entry go on under the entry that replaces it (R138). (log 51, DEDUCED) -/
def State.rekey (s : State) (old new : Nat) : State :=
  let q := fun (x : QPkt) => if x.entry = old then { x with entry := new } else x
  let cell := fun (c : Cell) =>
    { c with entry := if c.entry = old then new else c.entry, begins := c.begins.map q, ends := c.ends.map q }
  { s with
    waiting := s.waiting.map q
    flows := s.flows.map fun (f : Flow) => { f with cells := f.cells.map cell }
    queues := s.queues.map fun e => (e.1, e.2.map fun (f : Frame) =>
      { f with ents := f.ents.map fun (x : Ent) => { x with cell := x.cell.map cell } })
    rel := s.rel.map fun e => (e.1, e.2.map fun (r : Rel) => { r with cell := r.cell.map cell })
    staged := s.staged.map fun e => (e.1, e.2.map fun (x : StQ) =>
      { x with entry := if x.entry = old then new else x.entry, pkts := x.pkts.map q }) }

/-- ADD entry `k` becomes ACTIVE with no entry to replace (R138, R415). -/
def State.applyNew (s : State) (k : Nat) : State :=
  let p := path k
  let s := ((s.wr p PT_W0_STATE 1).wr p PT_W0_DOWN 0).wr p PT_W5_GRANT (s.rd p PT_W3_ALLOC)
  [PT_W6_USED, PT_W7_LIMIT, PT_RXD, PT_FREED, PT_DEFICIT, PT_FAILED_OVER, PT_SEAL_TX, PT_SEAL_RX, PT_KEY_GRACE,
    PT_APPLIED_DEL].foldl (fun s f => s.wr p f 0) s

/-- A path of an adapter has become ACTIVE: its next sideband update is due at once (R241). -/
def State.sbFirst (s : State) (k : Nat) : State :=
  [s.rd (path k) PT_W0_IN_PORT, s.rd (path k) PT_W1_OUT_PORT].foldl
    (fun s c => s.when (8 ≤ c && c ≤ 0x0F) fun s => s.wr (pca (c - 8)) PCA_SB_TIME 0) s

/-- ADD entry `k` replaces ACTIVE entry `o` (R138, R415, R416). (log 51, DEDUCED) -/
def State.applyOver (s : State) (k o : Nat) : State :=
  let p := path k
  let q := path o
  let grant := s.rd q PT_W5_GRANT + s.rd p PT_W3_ALLOC + 2 ^ 32 - s.rd q PT_W3_ALLOC
  let sameIn := s.rd p PT_W3_KEY_IN = s.rd q PT_W3_KEY_IN
  let sameOut := s.rd p PT_W3_KEY_OUT = s.rd q PT_W3_KEY_OUT
  let was := [PT_W6_USED, PT_W7_LIMIT, PT_RXD, PT_FREED, PT_DEFICIT].map fun f => (f, s.rd q f)
  let rx := s.rd q PT_SEAL_RX
  let tx := s.rd q PT_SEAL_TX
  let oldKey := s.rd q PT_W3_KEY_IN
  let grace := !sameIn && s.is q PT_W0_SEAL_IN
  let s := (s.applyNew k).wr p PT_W5_GRANT grant
  let s := was.foldl (fun s x => s.wr p x.1 x.2) s
  let s := (s.wr p PT_SEAL_TX (if sameOut then tx else 0)).wr p PT_SEAL_RX (if sameIn then rx else 0)
  let s := s.when grace fun s =>
    (((s.wr p PT_KEY_GRACE 1).wr p PT_KEY_PREV oldKey).wr p PT_SEAL_PREV rx).wr p PT_GRACE_EPOCH s.epoch
  (s.freeEntry o).rekey o k

/-- An entry whose partner does not point back at it is applied with PV cleared (R153). -/
def State.checkPartner (s : State) (k : Nat) : State :=
  let b := s.rd (path k) PT_W4_PARTNER
  if s.is (path k) PT_W4_PV &&
      !(s.is (path b) PT_W0_STATE && s.is (path b) PT_W4_PV && s.rd (path b) PT_W4_PARTNER = k) then
    (s.wr (path k) PT_W4_PV 0).entryReject
  else s

/-- The path table applies in one step (R138, R153). -/
def State.pathApply (s : State) : State :=
  let all := s.entries
  let active := all.filter fun k => s.rd (path k) PT_W0_STATE = 1
  let adds := all.filter fun k => s.rd (path k) PT_W0_STATE = 2
  let dels := all.filter fun k => s.rd (path k) PT_W0_STATE = 3
  let s := adds.foldl (fun s k =>
    match active.find? fun o => s.rd (path o) PT_W0_STATE = 1 && s.replKey o = s.replKey k with
    | some o => s.applyOver k o
    | none => (s.applyNew k).sbFirst k) s
  let s := dels.foldl (fun s k => s.wr (path k) PT_APPLIED_DEL 1) s
  let s := adds.foldl State.checkPartner s
  let s := active.foldl (fun s k =>
    s.when (s.rd (path k) PT_W0_STATE = 1 && s.rd (path k) PT_W0_PROT = 2 && s.is (path k) PT_W4_PV &&
      !s.is (path (s.rd (path k) PT_W4_PARTNER)) PT_W0_STATE) fun s => s.wr (path k) PT_W4_PV 0) s
  adds.foldl (fun s k =>
    s.when (s.rd (path k) PT_W0_IN_PORT ≤ 5 && s.kloyr (s.rd (path k) PT_W0_IN_PORT) && 2 ≤ s.rd (path k) PT_W0_CLASS) fun s =>
      s.dueCredit (s.rd (path k) PT_W0_IN_PORT) (s.rd (path k) PT_W0_IN_PATH_ID)) s

/-! ### Admission -/

/-- A refusal of admission (R142, R150). -/
inductive Refuse where
  | badReq | pathFull | shaperFull | groupFull | bwBudget | latBudget
  deriving DecidableEq, Repr

/-- Its STATUS code (R142). -/
def Refuse.status : Refuse → Nat
  | .badReq => 7
  | .pathFull => 1
  | .shaperFull => 2
  | .groupFull => 3
  | .bwBudget => 5
  | .latBudget => 4

/-- Raise its error source (R164); BAD_REQ has none. (log 50, DEDUCED) -/
def State.raiseRefuse (s : State) : Refuse → State
  | .badReq => s
  | .pathFull => s.raise pathctl 0
  | .shaperFull => s.raise pathctl 1
  | .groupFull => s.raise pathctl 2
  | .bwBudget => s.raise pathctl 3
  | .latBudget => s.raise pathctl 4

/-- The latency term of an adapter (R152). (log 49, DEDUCED) -/
def adapterNs (code : Nat) : Nat :=
  if code ≤ 5 then 0
  else if 8 ≤ code && code ≤ 0x0F then 150
  else if 0x10 ≤ code && code ≤ 0x13 then 600
  else if code = 0x14 then 250
  else if code = 0x15 || code = 0x16 then 400
  else if code = 0x17 then 1000
  else 0

/-- The latency term of this hub between two ends (R152). (log 47, DEDUCED; log 49, DEDUCED) -/
def State.hopTerm (s : State) (i o : Nat) : Nat :=
  let is4 := fun c => c ≤ 5 && s.usb4 c
  let leg := fun c => c ≤ 5 && s.mode c = 2
  let f := if is4 i || is4 o then s.rd pathctl PC_HOP_HOP_U4 else if leg i || leg o then s.rd pathctl PC_HOP_HOP_LEG
    else s.rd pathctl PC_HOP_HOP_FY
  let k := if 5 < o then 0 else if is4 o then 100 else s.rd (lane o) LN_RTT_CABLE_NS
  f + adapterNs i + adapterNs o + k

/-- Does an allocation meet a committed rate at a round trip (R102, at the packing 272/320)? -/
def allocMeets (alloc units rtt : Nat) : Bool := units * (rtt + 1000) * 10 ≤ alloc * 139264

/-- The smallest ALLOC that meets RSV_UNITS (R150). -/
def allocFor (units rtt : Nat) : Nat :=
  let a := (units * (rtt + 1000) * 10 + 139263) / 139264
  if a = 0 then 64 else min 4095 a

/-- The bandwidth check of R151 and R211 for entry `k`, which stands in the table in ADD. -/
def State.bandwidth (s : State) (k : Nat) : Bool :=
  let all := s.entries
  let sum := fun (ks : List Nat) => s.unitsOfClass 1 ks + s.unitsOfClass 2 ks
  let inFp := fun j => fpOf (s.rd (path j) PT_W0_IN_PORT) (s.rd (path j) PT_W0_IN_PATH_ID)
  let i := s.rd (path k) PT_W0_IN_PORT
  let cls := s.rd (path k) PT_W0_CLASS
  let rsv := s.rd (path k) PT_W4_RSV_UNITS
  let outs := s.egresses k
  (rsv ≤ 4096) && (sum (all.filter fun j => inFp j = inFp k) ≤ 4096) &&
  (outs.all fun e => sum (all.filter (s.leavesBy (6 + fpOf e.1 e.2))) ≤ 4096) &&
  ((outs.filter fun e => e.1 ≤ 5).all fun e =>
    let mine := all.filter (s.leavesBy e.1)
    let iso := s.unitsOfClass 1 mine
    let both := sum mine
    iso ≤ 90 * s.pUnits e.1 / 100 && both ≤ 94 * s.pUnits e.1 / 100 &&
    (!s.kloyr e.1 || both * (s.rd (lane e.1) LN_RTT_RTT_NS + 200) ≤ 25165824) &&
    (cls != 1 || ((s.coming.filter (s.leavesBy e.1)).filter fun j => s.rd (path j) PT_W0_CLASS = 1).length ≤ 64)) &&
  (5 < i ||
    (((all.filter fun j => s.rd (path j) PT_W0_IN_PORT = i).map fun j => s.rd (path j) PT_W3_ALLOC).sum ≤
        16 * s.rd (link i) LK_BUF_GBE &&
      (cls != 2 || allocMeets (s.rd (path k) PT_W3_ALLOC) rsv (s.rd (lane i) LN_RTT_RTT_NS))))

/-- Is a key slot used by another entry on another tunnel port (R415)? `out` is KEY_OUT's side. -/
def State.keyElsewhere (s : State) (k slot : Nat) (out : Bool) : Bool :=
  s.entries.any fun j => j != k &&
    if out then s.is (path j) PT_W0_SEAL_OUT && s.rd (path j) PT_W3_KEY_OUT = slot &&
      s.rd (path j) PT_W1_OUT_PORT != s.rd (path k) PT_W1_OUT_PORT
    else s.is (path j) PT_W0_SEAL_IN && s.rd (path j) PT_W3_KEY_IN = slot &&
      s.rd (path j) PT_W0_IN_PORT != s.rd (path k) PT_W0_IN_PORT

/-- Are the key slots that a sealing entry names valid, and used on one port only (R414, R415)? -/
def State.keysOk (s : State) (k : Nat) : Bool :=
  let p := path k
  (!s.is p PT_W0_SEAL_IN || (s.is sec (KS_SLOT_VALID.nth (s.rd p PT_W3_KEY_IN)) && !s.keyElsewhere k (s.rd p PT_W3_KEY_IN) false)) &&
  (!s.is p PT_W0_SEAL_OUT || (s.is sec (KS_SLOT_VALID.nth (s.rd p PT_W3_KEY_OUT)) && !s.keyElsewhere k (s.rd p PT_W3_KEY_OUT) true))

/-- The lowest free entry. (log 48, DESIGN CHOICE) -/
def State.freeIndex (s : State) : Option Nat :=
  let used := s.entries
  (List.range 8192).find? fun k => !used.contains k

/-- The lowest free path ID of a parity on an ingress port (R149). (log 48, DESIGN CHOICE) -/
def State.freePathId (s : State) (port parity : Nat) : Option Nat :=
  let used := (s.entries.filter fun k => s.rd (path k) PT_W0_IN_PORT = port).map fun k => s.rd (path k) PT_W0_IN_PATH_ID
  let top := if port ≤ 5 && s.usb4 port then 2047 else 0xFFFE
  ((List.range (used.length + 1)).map fun i => 8 + parity + 2 * i).find? fun i => !used.contains i && i ≤ top

/-- The lowest shaper, or group, that no entry names (R149, R150). (log 48, DESIGN CHOICE) -/
def State.freeShaper (s : State) : Option Nat :=
  let used := (s.entries.filter fun k => s.is (path k) PT_W2_SHP_EN).map fun k => s.rd (path k) PT_W2_SHAPER
  (List.range 4096).find? fun h => !used.contains h

/-- As `freeShaper`, for groups. (log 48, DESIGN CHOICE) -/
def State.freeGroup (s : State) : Option Nat :=
  let used := (s.entries.filter fun k => s.is (path k) PT_W1_MC_EN).map fun k => s.rd (path k) PT_W1_MC_GROUP
  (List.range 512).find? fun g => !used.contains g

/-! ### Releasing -/

/-- Release an entry (R149): ADD becomes FREE at once, ACTIVE becomes DEL. -/
def State.releaseEntry (s : State) (k : Nat) : State :=
  match s.rd (path k) PT_W0_STATE with
  | 2 => s.freeEntry k
  | 1 => s.wr (path k) PT_W0_STATE 3
  | _ => s

/-- Moabeuc releases a slot (R161): DEL on every entry of the slot and PATHCTL armed for C + 3. While PATHCTL is armed
the release waits. -/
def State.releaseSlot (s : State) (d : Nat) : State :=
  if s.is pathctl PG_SHADOW_CTRL_ARMED then s.wr pathctl (PC_RELEASING.nth d) 2
  else
    let s := (s.entries.filter fun k => s.rd (path k) PT_W0_DOM = d).foldl State.releaseEntry s
    (s.wr pathctl (PC_RELEASING.nth d) 1).armPaths

/-- Unbind a slot (R161). -/
def State.unbind (s : State) (d : Nat) : State :=
  s.clearFields pathctl [PC_DOM_BOUND.nth d, PC_DOM_HUB_ID.nth d, PC_TAG_DOM_TAG.nth d, PC_ROOT_ROOT_ID.nth d,
    PC_ROOT_UP_PORT.nth d, PC_RELEASING.nth d]

end Sys2Proof.Machine
end

