-- ==== Sys2Proof/Machine/Usb.lean ====
section
/-! DEFINITION. The commands of the USB hub and its embedded device (spec/13_usb_hub.md), and the host warm reset (R244, R394). -/

namespace Sys2Proof.Machine

open Reg

/-! ### Host warm reset -/

/-- A USB4 router reset of a domain's presentation (R394): its router configuration, its PCAs, its logical hub, and its
USB4 paths, which are released for C + 3. -/
def State.routerReset (s : State) (d : Nat) : State :=
  let s := (s.recordReset 6 0).wr glb (GLB_HIA_EN.nth d) 0
  let s := (List.range 8).foldl (fun s n =>
    s.when (s.rd (pca n) PCA_CTRL_DOM = d && !s.gated (pca n)) fun s => s.softReset (pca n)) s
  let s := s.when (s.works uhub) fun s => s.hubReconnect d
  let mine := s.entries.filter fun k => s.rd (path k) PT_W0_DOM = d &&
    ((s.rd (path k) PT_W0_IN_PORT ≤ 5 && s.usb4 (s.rd (path k) PT_W0_IN_PORT)) ||
      (s.rd (path k) PT_W1_OUT_PORT ≤ 5 && s.usb4 (s.rd (path k) PT_W1_OUT_PORT)))
  let s := mine.foldl State.releaseEntry s
  s.when (!mine.isEmpty && s.moabeuc) State.armPaths

/-- HOST_WARM_RESET (R244, R361, R394): an entry that still drains the switch ends (R395). (log 96, DEDUCED) -/
def execHostWarmReset (router : Option (Fin 2)) (s : State) : Res :=
  let early := s.ps = 5 && (s.rd aon AON_ENT_STEP = 1 || s.rd aon AON_ENT_STEP = 4)
  let s := s.when early fun s => (s.setPs 0).wr aon AON_ENT_STEP 0
  let s := match router with
    | none => s.hostPerst
    | some d => s.routerReset d.val
  .next (s.when s.moabeuc fun s => (List.range 6).foldl (fun s n => s.pdRestart n) s)

/-! ### Ports -/

/-- OVERCURRENT (R306): UDn_OC_N has been low for OC_FILT. -/
def execOvercurrent (n : Nat) (s : State) : Res :=
  .next (s.when (s.works uhub && s.is uhub (UH_PORT_PWR.nth n)) fun s =>
    let s := (s.wr uhub (UH_PORT_SS_STATE.nth n) 0).when (!s.hsPin n) fun s => s.wr uhub (UH_PORT_HS_STATE.nth n) 0
    let s := (s.wr uhub (UH_PORT_PWR.nth n) 0).wr uhub (UH_PORT_OC.nth n) 1
    let s := (s.changeSs n 1).when (!s.hsPin n) fun s => s.changeHs n 1
    (s.count uhub UH_CNT_OC).raise uhub 0)

/-- A write of one field that gives an owner. -/
def State.ownerField (s : State) (who : Initiator) (f : Field) (v : Nat) : State :=
  if s.rd uhub f = v % 2 ^ f.len then s else s.access who uhub f fun s => s.wr uhub f v

/-- PORT_OWNER_CHANGE (R305). -/
def execPortOwnerChange (who : Initiator) (o : UsbOwner) (s : State) : Res :=
  match o with
  | .port n present dom hsPin tdom =>
    if 5 < n then .next s
    else
      let bit := fun (b : Bool) => if b then 1 else 0
      let t := (((s.ownerField who (UH_PORT_PRESENT.nth n) (bit present)).ownerField who (UH_PORT_DOM.nth n)
        (bit dom)).ownerField who (UH_PORT_HS_PIN.nth n) (bit hsPin)).ownerField who (UH_PORT_TDOM.nth n) (bit tdom)
      let moved := fun (f : Field) => s.rd uhub f != t.rd uhub f
      let ud := moved (UH_PORT_PRESENT.nth n) || moved (UH_PORT_DOM.nth n)
      let tun := moved (UH_PORT_TDOM.nth n)
      let pin := s.hsPin n != t.hsPin n
      let t := t.when (ud || pin) fun t => t.portMove n (pin || !t.hsPin n) ud
      .next (t.when tun fun t => t.portMove (n + 6) (t.hsPin n) true)
  | .up d src3 up2 =>
    if 1 < d then .next s
    else
      let t := (s.ownerField who (if d = 0 then UH_CFG_SRC3_0 else UH_CFG_SRC3_1) src3).ownerField who
        (if d = 0 then UH_CFG_UP2_0 else UH_CFG_UP2_1) up2
      .next (t.when (s.src3 d != t.src3 d || s.up2 d != t.up2 d) fun t => t.hubReconnect d)

/-- USB_PORT_CONNECT (R386): a powered port reports the change to its logical hub. -/
def execUsbPortConnect (n : Nat) (ss connected : Bool) (s : State) : Res :=
  if !ss && 5 < n then .next s
  else
    let s := s.when (s.works uhub) fun s =>
      if ss then
        s.when (s.is uhub (ssField n)) fun s => ((s.setSs n (if connected then 3 else 1)).changeSs n 0).when (connected && decide (n < 6)) fun s => s.eqPads ⟨.ulane, n⟩ (0x40 + n) 5 3 [0]
      else
        s.when (s.is uhub (UH_PORT_HS_STATE.nth n)) fun s => (s.setHs n (if connected then 2 else 1)).changeHs n 0
    .next (s.when connected fun s => s.wake 11 (n % 6) 0)

/-- A hub-class request to the port of the embedded device (R302, R317). -/
def State.embFeature (s : State) (f : PortFeature) : State :=
  match f with
  | .setPower => s.when (!s.is uhub UH_STATUS_EMB && s.is uhub UH_CFG_EMB_EN) fun s => s.wr uhub UH_STATUS_EMB 1
  | .clearPower | .disable => s.embReset 0
  | .reset => s.when (s.is uhub UH_STATUS_EMB) fun s => s.embReset 1
  | .suspend => s.when s.embAwake fun s =>
      ((s.wr uhub UH_EMB_PREV (s.rd uhub UH_STATUS_EMB)).wr uhub UH_STATUS_EMB 4).wr uhub UH_SUSP_TIME s.clock
  | .resume => s.when (s.rd uhub UH_STATUS_EMB = 4) fun s =>
      ((s.wr uhub UH_STATUS_EMB (s.rd uhub UH_EMB_PREV)).wr uhub UH_WAKE_PEND 0).wr uhub UH_K_END 0
  | .clearConnect | .clearOc => s

/-- A hub-class request to USB 2.0 port `n + 1` (R306). -/
def State.hsFeature (s : State) (n : Nat) (f : PortFeature) : State :=
  let st := s.rd uhub (UH_PORT_HS_STATE.nth n)
  let chg := s.rd uhub (UH_CHG_HS.nth n)
  let late := s.rd uhub (UH_OFF_UNTIL.nth (if s.hsPin n then n + 6 else n)) ≤ s.clock
  match f with
  | .setPower => s.when (st = 0 && late && chg < 2) fun s => s.setHs n 1
  | .clearPower => s.setHs n 0
  | .reset => s.when (decide (2 ≤ st)) fun s => s.setHs n 3
  | .suspend => s.when (st = 3) fun s => s.setHs n 4
  | .resume => s.when (st = 4) fun s => s.setHs n 3
  | .disable => s.when (decide (2 ≤ st)) fun s => s.setHs n 2
  | .clearConnect => s.wr uhub (UH_CHG_HS.nth n) (chg / 2 * 2)
  | .clearOc => (s.wr uhub (UH_CHG_HS.nth n) (chg % 2)).when (!s.hsPin n) fun s => s.wr uhub (UH_PORT_OC.nth n) 0

/-- A hub-class request to SuperSpeed port `n + 1` (R306). -/
def State.ssFeature (s : State) (n : Nat) (f : PortFeature) : State :=
  let st := s.rd uhub (ssField n)
  let chg := s.rd uhub (UH_CHG_SS.nth n)
  match f with
  | .setPower => s.when (st = 0 && s.rd uhub (UH_OFF_UNTIL.nth n) ≤ s.clock && chg < 2) fun s => s.setSs n 1
  | .clearPower => s.setSs n 0
  | .reset => s.when (decide (2 ≤ st)) fun s => s.setSs n 3
  | .suspend => s.when (3 ≤ st && st ≤ 5) fun s => s.setSs n 6
  | .resume => s.when (st = 6) fun s => s.setSs n 3
  | .disable => s.when (decide (2 ≤ st)) fun s => s.setSs n 7
  | .clearConnect => s.wr uhub (UH_CHG_SS.nth n) (chg / 2 * 2)
  | .clearOc => (s.wr uhub (UH_CHG_SS.nth n) (chg % 2)).when (decide (n < 6)) fun s => s.wr uhub (UH_PORT_OC.nth n) 0

/-- SET_PORT_FEATURE (R302, R306): a port that is not the logical hub's own ignores it. -/
def execSetPortFeature (d port : Nat) (ss : Bool) (f : PortFeature) (s : State) : Res :=
  if !s.hubOn d || port = 0 then .next s
  else if ss then .next (s.when (s.ownsSs d (port - 1)) fun s => s.ssFeature (port - 1) f)
  else if port = 7 then .next (s.when (s.rd uhub UH_CFG_EMB_DOM = d) fun s => s.embFeature f)
  else .next (s.when (port ≤ 6 && s.ownsHs d (port - 1)) fun s => s.hsFeature (port - 1) f)

/-! ### The embedded device -/

/-- USB_OUT_PACKET (R310). -/
def execUsbOutPacket (ep : Nat) (crcOk : Bool) (bytes : List Byte) (s : State) : Res := .next (s.usbOut ep crcOk bytes)

/-- USB_IN_TOKEN (R310). -/
def execUsbInToken (ep : Nat) (acked : Bool) (s : State) : Res := .next (s.usbIn ep acked)

/-- MICROFRAME_START (R312). -/
def execMicroframeStart (s : State) : Res := .next (s.when (s.works uhub) State.microframe)

/-- FB_REFRESH (R314): every 2^FB_P microframes. -/
def execFbRefresh (count : Nat) (s : State) : Res :=
  .next (s.when (s.works uhub && s.rd uhub UH_FB_MF + 2 ^ s.fbP ≤ s.rd uhub UH_MF) fun s =>
    (s.wr uhub UH_FB_FB (s.feedback count)).wr uhub UH_FB_MF (s.rd uhub UH_MF))

/-- MCLK_LOSS (R311). -/
def execMclkLoss (s : State) : Res :=
  .next (s.when (s.works uhub && s.is uhub UH_AUD_STATUS_MCLK_OK) fun s =>
    (s.wr uhub UH_AUD_STATUS_MCLK_OK 0).raise uhub 1)

/-- MCLK_RETURN (R311). -/
def execMclkReturn (s : State) : Res := .next (s.when (s.works uhub) fun s => s.wr uhub UH_AUD_STATUS_MCLK_OK 1)

/-- SAMPLE_FRAME (R311 to R313). -/
def execSampleFrame (samples : List Byte) (s : State) : Res := .next (s.sampleFrame samples)

/-- STATUS_STAGE (R318). -/
def execStatusStage (s : State) : Res := .next (s.when s.embAwake State.statusStage)

/-- SETUP (R318). -/
def execSetup (r : UsbReq) (len : Nat) (s : State) : Res := .next (s.when s.embAwake fun s => s.usbSetup r len)

/-- UH_CNT_CLR (R319). -/
def execUhCntClr (who : Initiator) (s : State) : Res :=
  .next (s.access who uhub UH_CNT_CLR_CLR fun s => s.clearFields uhub [UH_CNT_ISO_DROP, UH_CNT_AUD_UNDER, UH_CNT_AUD_OVER,
    UH_CNT_WAKE_MERGED, MGMT_CTL_ABORT, UH_CNT_OC])

/-! ### Suspend, resume and wake -/

/-- USB_SUSPEND (R315). -/
def execUsbSuspend (d what : Nat) (s : State) : Res :=
  .next (s.when (s.works uhub) fun s =>
    match what with
    | 0 => s.when (s.rd uhub (upHs d) = 1) fun s => (s.wr uhub (upHs d) 2).setInt uhub 9
    | 1 => s.when (2 ≤ s.rd uhub (upSs d) && s.rd uhub (upSs d) ≤ 4) fun s => (s.wr uhub (upSs d) 5).setInt uhub 9
    | _ => s.when (s.embAwake && s.rd uhub UH_CFG_EMB_DOM = d) fun s => (s.embFeature .suspend).setInt uhub 9)

/-- WAKE_REQ (R315). -/
def execWakeReq (who : Initiator) (s : State) : Res := .next (s.access who uhub UH_WAKE_WAKE_REQ State.wakeReq)

/-- REMOTE_WAKE_SIGNAL (R315): 5 ms after it entered suspend, the device drives resume K for 2 ms. -/
def execRemoteWakeSignal (s : State) : Res :=
  let d := s.rd uhub UH_CFG_EMB_DOM
  .next (s.when (s.works uhub && s.is uhub UH_WAKE_PEND && s.rd uhub UH_STATUS_EMB = 4 && !s.is uhub UH_K_END &&
      s.rd uhub UH_SUSP_TIME + 5000000 ≤ s.clock) fun s =>
    ((s.wr uhub UH_K_END (s.clock + 2000001)).wr uhub (upHs d) 3).send (.usbResume d))

/-- HOST_RESUME (R315, R316, R386). -/
def execHostResume (d : Nat) (ss : Bool) (s : State) : Res :=
  let up := s.up2 d
  let s := s.when (s.works uhub) fun s => if ss then s.resumeSs d else s.resumeHs d
  .next (s.wake 11 up 0)

/-- DOWNSTREAM_WAKE (R316, R386): the logical hub that owns the port passes it upstream. -/
def execDownstreamWake (n : Nat) (ss : Bool) (s : State) : Res :=
  let d := if ss then (if s.ownsSs 1 n then 1 else 0) else if s.ownsHs 1 n then 1 else 0
  let s := s.when (s.hubOn d && (ss || n ≤ 5)) fun s =>
    if ss then
      s.when (s.ownsSs d n && s.rd uhub (ssField n) = 6) fun s =>
        let s := s.setSs n 3
        s.when (s.rd uhub (upSs d) = 5) fun s => (s.wr uhub (UH_DOWN_WAKE.nth d) 1).send (.usbResume d)
    else
      s.when (s.ownsHs d n && s.rd uhub (UH_PORT_HS_STATE.nth n) = 4) fun s =>
        let s := s.setHs n 3
        s.when (s.rd uhub (upHs d) = 2) fun s => (s.wr uhub (UH_DOWN_WAKE.nth d) 1).send (.usbResume d)
  .next (s.wake 11 (n % 6) 0)

/-- USB_BUS_RESET (R317). -/
def execUsbBusReset (d : Nat) (ss : Bool) (s : State) : Res :=
  .next (s.when (s.hubOn d && (if ss then s.is uhub (upSs d) else s.is uhub (upHs d))) fun s => s.hubReset d ss)

end Sys2Proof.Machine
end

