-- ==== Sys2Proof/Machine/Paths.lean ====
section
/-! DEFINITION. The commands of the path table and of control packets (spec/07_tunnels_and_paths.md, and R216 to R219 and R225 of spec/09_almanac.md), but for register accesses and responses. -/

namespace Sys2Proof.Machine

open Reg

/-! ### The path table -/

/-- The RW fields of word `w` of an entry. -/
def entryWord (w : Nat) : List Field := entryFields.filter fun f => f.bit / 32 = w

/-- PATH_ENTRY_WRITE (R40, R136, R137). Every written field is an X field of the PATHCTL page (R140), and while PATHCTL
is armed every write is dropped (R136). -/
def execPathEntryWrite (who : Initiator) (k word be value : Nat) (s : State) : Res :=
  let p := path k
  let fs := entryWord word
  let t := fs.foldl (fun t f => t.wr p f (mergeBits (f.bit % 32) f.len be (s.rd p f) value)) s
  let changed := fs.any fun f => t.rd p f != s.rd p f
  if s.gated p then .next ((s.gatedAccess (p.base + 4 * word) true).hostWake s.ps who)
  else if !changed then .next (s.hostWake s.ps who)
  else .next (s.access who p { PT_W0_STATE with acc := .sh } fun s => s.entryWrite t k (who = .marionette))

/-- DEL_ENTRY_FREE (R138): the entry becomes FREE once its DEL has been applied and nothing of it is left in the hub. -/
def execDelEntryFree (k : Nat) (s : State) : Res :=
  let held := (s.waiting.any fun q => q.entry = k) || (s.flows.any fun f => f.cells.any fun c => c.entry = k) ||
    (s.queues.any fun e => e.2.any fun f => f.untaken.any fun c => c.entry = k) ||
    (s.rel.any fun e => e.2.any fun r => match r.cell with | some c => c.entry = k | none => false) ||
    (s.staged.any fun e => e.2.any fun x => x.entry = k)
  .next (s.when (s.rd (path k) PT_W0_STATE = 3 && s.is (path k) PT_APPLIED_DEL && !held) fun s => s.freeEntry k)

/-- ADD_HOLD_EXPIRY (R149): Moabeuc returns an ADD entry that it created to FREE. -/
def execAddHoldExpiry (k : Nat) (s : State) : Res :=
  .next (s.when (s.moabeuc && s.rd (path k) PT_W0_STATE = 2 && s.is (path k) PT_MOAB && s.is pathctl PC_CFG_ADD_HOLD) fun s =>
    (s.freeEntry k).entryReject)

/-- UP_PORT_DOWN_TIMEOUT (R161): Moabeuc releases the slot, while PATHCTL is at the basic level. -/
def execUpPortDownTimeout (slot : Nat) (s : State) : Res :=
  let up := s.rd pathctl (PC_ROOT_UP_PORT.nth slot)
  .next (s.when (s.moabeuc && !s.is pathctl PG_CTRL_EXPERT && s.bound slot && up ≤ 5 && !s.linkUp up) fun s =>
    s.releaseSlot slot)

/-- PC_CNT_CLR (R163). -/
def execPcCntClr (who : Initiator) (s : State) : Res :=
  .next (s.access who pathctl PC_CNT_CLR_CLR fun s => s.clearFields pathctl
    [PC_CNT_NO_PATH, PC_CNT_DOWN_DISCARD, PC_CNT_TTL, PC_CNT_CTRL_TO, PC_CNT_SEAL, PC_CNT_FAILOVER])

/-! ### Control packets -/

/-- CTRL_PACKET_RX (R144, R145, R160): the oldest packet waiting at a tunnel port. -/
def execCtrlPacketRx (s : State) : Res :=
  match s.ctrlIn with
  | [] => .next s
  | (port, c) :: t => .next ({ s with ctrlIn := t }.ctrlArrive port (creditsOf (4 * c.words.length)) c)

/-- Take the oldest packet delivered to this hub that meets `q`. -/
def State.takeLocal (s : State) (q : Ctrl → Bool) : Option (State × Nat × Ctrl) :=
  (s.ctrlLocal.find? fun x => q x.2).map fun x => ({ s with ctrlLocal := s.ctrlLocal.erase x }, x.1, x.2)

/-- Handle the oldest request of an opcode; none waiting changes nothing. -/
def State.onRequest (s : State) (cop : Nat) (act : State → Nat → Ctrl → State) : Res :=
  match s.takeLocal fun c => c.cop = cop && !c.rsp with
  | some (s, port, c) => .next (act s port c)
  | none => .next s

/-- As `onRequest`, for what Moabeuc carries out: it waits while Moabeuc does not run (R18, R437). -/
def State.onMoabeuc (s : State) (cop : Nat) (act : State → Nat → Ctrl → State) : Res :=
  if s.moabeuc then s.onRequest cop act else .next s

/-- Word `i` of a control payload; a word that is not there reads 0. -/
def ctrlWord (c : Ctrl) (i : Nat) : Nat := c.words.getD i 0

/-- The IDENTIFY response (R468). -/
def State.identity (s : State) : List Nat :=
  let tag := fun d => if s.bound d then s.rd pathctl (PC_TAG_DOM_TAG.nth d) else 0
  let modes := ((List.range 6).map fun n => s.mode n * 16 ^ n).sum
  let up := ((List.range 6).map fun n => if s.linkUp n then 2 ^ n else 0).sum
  let bnd := ((List.range 2).map fun d => if s.bound d then 2 ^ (16 + d) else 0).sum
  [s.chipId, s.hubId 1 * 65536 + s.hubId 0, tag 0, tag 1, modes, bnd + up]

/-- IDENTIFY (R143, R468). -/
def execIdentify (s : State) : Res := s.onRequest 1 fun s port c => s.answer port c 0 s.identity

/-- Bind a slot (R159). -/
def State.bind (s : State) (port : Nat) (c : Ctrl) : State :=
  let d := c.dom
  let id := ctrlWord c 0 % 65536
  let root := if port = 0x17 && c.src = 0 then id else c.src
  let s := ((s.wr pathctl (PC_DOM_BOUND.nth d) 1).wr pathctl (PC_DOM_HUB_ID.nth d) id).wr pathctl (PC_TAG_DOM_TAG.nth d) (ctrlWord c 1)
  let s := (s.wr pathctl (PC_ROOT_ROOT_ID.nth d) root).wr pathctl (PC_ROOT_UP_PORT.nth d) port
  s.when (port ≤ 5) fun s => s.wr pathctl (PC_REFUSED.nth port) 0

/-- SET_HUB_ID (R159 to R161): the first row of R159's table that fits. -/
def State.setHubId (s : State) (port : Nat) (c : Ctrl) : State :=
  let d := c.dom
  let o := 1 - d
  let id := ctrlWord c 0 % 65536
  let tag := ctrlWord c 1
  let mine := s.rd pathctl (PC_TAG_DOM_TAG.nth d)
  let otherHas := s.bound o && s.rd pathctl (PC_TAG_DOM_TAG.nth o) = tag
  let used := s.entries.any fun k => s.rd (path k) PT_W0_DOM = d
  if s.is pathctl PG_CTRL_EXPERT then s.refuse port c 8 []
  else if c.words.length < 2 || id = 0xFFFF || (id = 0 && !s.bound d) then s.refuse port c 7 []
  else if !s.bound d then
    if otherHas then s.refuse port c 8 [] else (s.bind port c).answer port c 0 []
  else if mine = tag then
    if id = s.rd pathctl (PC_DOM_HUB_ID.nth d) then s.answer port c 0 []
    else if id = 0 then (s.answer port c 0 []).releaseSlot d
    else if used then s.refuse port c 8 []
    else (s.wr pathctl (PC_DOM_HUB_ID.nth d) id).answer port c 0 []
  else if otherHas || !s.bound o then s.refuse port c 8 []
  else
    let carries := (List.range 2).any fun e => s.bound e && s.rd pathctl (PC_ROOT_UP_PORT.nth e) = port
    let s := s.when (port ≤ 5 && !carries) fun s => s.wr pathctl (PC_REFUSED.nth port) 1
    (s.raise pathctl 5).refuse port c 6 []

/-- SET_HUB_ID (R159). -/
def execSetHubId (s : State) : Res := s.onMoabeuc 2 State.setHubId

/-- PORT_EVENT (R143, R444): the root hub of the domain passes it to Uhlok. -/
def execPortEvent (s : State) : Res :=
  s.onRequest 5 fun s _ c => s.when (s.bound c.dom && s.rd pathctl (PC_ROOT_UP_PORT.nth c.dom) = 0x17) fun s => s.event c.dom c

/-- A CTRL packet read from words (R87, R142); `none` when they do not hold a whole one. -/
def parseCtrl : List Nat → Option Ctrl
  | d0 :: d1 :: d2 :: _ :: ws =>
    let n := d0 / 65536 % 512 / 4
    if d0 / 2 ^ 28 = 2 && n ≤ ws.length then
      some ⟨d1 / 65536 % 65536, d1 % 65536, d2 / 2 ^ 24 % 256, d2 / 65536 % 256, d2.testBit 15, d2 / 2 ^ 14 % 2,
        d2 / 1024 % 16, d2 % 1024, ws.take n⟩
    else none
  | _ => none

/-- RELAY (R143, R145): the inner packet, of at most 240 B, leaves the named port with TTL = 1. -/
def execRelay (s : State) : Res :=
  s.onRequest 6 fun s _ c =>
    match parseCtrl (c.words.drop 1) with
    | some i => if ctrlWord c 0 % 8 ≤ 5 && i.words.length ≤ 56 then s.ctrlOut (ctrlWord c 0 % 8) { i with ttl := 1 } else s
    | none => s

/-! ### Path setup -/

/-- ALLOC that Moabeuc gives (R150). -/
def State.allocOf (s : State) (inPort cls rsv asked : Nat) : Nat :=
  if 5 < inPort then 0
  else if asked != 0 then asked
  else if cls = 2 then allocFor rsv (s.rd (lane inPort) LN_RTT_RTT_NS)
  else if cls = 3 then 64
  else 0

/-- The table with the entry of a PATH_SETUP written at `k` in state ADD (R147). -/
def State.setupEntry (s : State) (c : Ctrl) (k id shaper group : Nat) : State :=
  let w := ctrlWord c
  let i := w 0 / 2 ^ 24 % 32
  let cls := w 1 / 2 ^ 14 % 4
  let rsv := w 3 % 8192
  let fields := [(PT_W0_STATE, 2), (PT_W0_DOM, c.dom), (PT_W0_IN_PORT, i), (PT_W0_CLASS, cls),
    (PT_W0_SEAL_IN, w 1 / 2 ^ 13), (PT_W0_SEAL_OUT, w 1 / 2 ^ 12), (PT_W0_PROT, w 1 / 2 ^ 10), (PT_W0_DOWN, 0),
    (PT_W0_IN_PATH_ID, id), (PT_W1_OUT_PORT, w 0 / 65536), (PT_W1_MC_EN, w 4 / 32), (PT_W1_MC_GROUP, group),
    (PT_W1_OUT_PATH_ID, w 1 / 65536), (PT_W2_SHP_EN, w 4 / 2 ^ 19), (PT_W2_SHAPER, shaper),
    (PT_W2_QUANTUM, w 3 / 65536), (PT_W3_ALLOC, s.allocOf i cls rsv (w 4 / 2 ^ 20 % 4096)), (PT_W3_KEY_IN, w 2 / 2 ^ 12),
    (PT_W3_KEY_OUT, w 2 / 64), (PT_W4_PARTNER, w 2 / 2 ^ 19), (PT_W4_PV, w 2 / 2 ^ 18), (PT_W4_RSV_UNITS, rsv), (PT_MOAB, 1)]
  fields.foldl (fun s x => s.wr (path k) x.1 x.2) s

/-- Admission of a PATH_SETUP (R149, R150, R155): the table with the entry, its index, path ID, shaper and group; or
why it is refused. (log 47, DEDUCED; log 50, DEDUCED) -/
def State.takesPath (s : State) (c : Ctrl) (sum : Nat) : (State × Nat × Nat × Nat × Nat) ⊕ Refuse :=
  let w := ctrlWord c
  let i := w 0 / 2 ^ 24 % 32
  let choose := (w 0).testBit 31
  let par := if (w 0).testBit 30 then 1 else 0
  let shNew := (w 4).testBit 18
  let mcNew := (w 4).testBit 4
  let freeId := s.freePathId i par
  let id := if choose then freeId.getD (8 + par) else w 0 % 65536
  let shaper := if shNew then s.freeShaper.getD 0 else w 4 / 64 % 4096
  let group := if mcNew then s.freeGroup.getD 0 else w 5 % 512
  let k := s.freeIndex.getD 8191
  let t := s.setupEntry c k id shaper group
  let p := path k
  let b := t.rd p PT_W4_PARTNER
  let headBackup := t.is p PT_W4_PV && t.rd p PT_W0_PROT = 2 && t.is (path b) PT_W0_STATE && b != k && t.sameKey b k
  if c.words.length < 8 || !t.consistent k || !t.keysOk k then .inr .badReq
  else if s.freeIndex.isNone || (choose && freeId.isNone) then .inr .pathFull
  else if shNew && s.freeShaper.isNone then .inr .shaperFull
  else if mcNew && s.freeGroup.isNone then .inr .groupFull
  else if !t.bandwidth k then .inr .bwBudget
  else if (w 7 != 0 && w 7 < sum) || (headBackup && 40000 < 5000 + w 5 / 65536 + sum) then .inr .latBudget
  else if !t.addable k then .inr .badReq
  else .inl (t, k, id, shaper, group)

/-- Hold a request while PATHCTL is armed, at most 64 of them (R149). -/
def State.holdReq (s : State) (port : Nat) (c : Ctrl) (busy : List Nat) : State :=
  if 64 ≤ s.heldReqs.length then s.refuse port c 9 busy else { s with heldReqs := s.heldReqs ++ [(port, c)] }

/-- PATH_SETUP as Moabeuc carries it out (R140, R148, R149). (log 50, DEDUCED) -/
def State.setup (s : State) (port : Nat) (c : Ctrl) : State :=
  let sum := (ctrlWord c 6 + s.hopTerm (ctrlWord c 0 / 2 ^ 24 % 32) (ctrlWord c 0 / 65536 % 32)) % 2 ^ 32
  let no := fun (s : State) st => s.refuse port c st [0, sum, 0, 0]
  if s.is pathctl PG_CTRL_EXPERT then no s 8
  else if s.is pathctl PG_SHADOW_CTRL_ARMED then s.holdReq port c [0, sum, 0, 0]
  else if !s.bound c.dom || c.src != s.rd pathctl (PC_ROOT_ROOT_ID.nth c.dom) then no s 8
  else match s.takesPath c sum with
    | .inr r => no (s.raiseRefuse r) r.status
    | .inl (t, k, id, shaper, group) =>
      t.answer port c 0 [id * 65536 + k, sum, if t.is (path k) PT_W2_SHP_EN then 2 ^ 31 + shaper else 0,
        if t.is (path k) PT_W1_MC_EN then 2 ^ 31 + group else 0]

/-- PATH_SETUP (R149). -/
def execPathSetup (s : State) : Res := s.onMoabeuc 0x10 State.setup

/-- PATH_RELEASE as Moabeuc carries it out (R149, R161). -/
def State.pathRelease (s : State) (port : Nat) (c : Ctrl) : State :=
  let k := ctrlWord c 0 % 8192
  let p := path k
  if s.is pathctl PG_CTRL_EXPERT then s.refuse port c 8 []
  else if s.is pathctl PG_SHADOW_CTRL_ARMED then s.holdReq port c []
  else if c.words.isEmpty then s.refuse port c 7 []
  else if !s.is p PT_W0_STATE || s.rd p PT_W0_DOM != c.dom || s.rd p PT_W0_IN_PATH_ID != ctrlWord c 0 / 65536 then s.refuse port c 8 []
  else (s.releaseEntry k).answer port c 0 []

/-- PATH_RELEASE (R149). -/
def execPathRelease (s : State) : Res := s.onMoabeuc 0x11 State.pathRelease

/-- PATH_DOWN (R156, R157). -/
def execPathDown (s : State) : Res := s.onRequest 0x12 State.pathDownRx

/-! ### Domain-wide turnover -/

/-- The page of a TURN_ARM mask bit (R217). -/
def turnPage (b : Nat) : Page :=
  if b < 26 then almSh b else if b = 26 then pathctl else if b = 27 then shpctl else if b = 28 then sw else link (b - 29)

/-- The bits of a page mask, lowest first. -/
def maskBits (m : Nat) : List Nat := (List.range 35).filter fun b => m.testBit b

/-- Arm pages in order until one refuses: the pages armed, and the reason and the page that failed (R218). -/
def State.armPages (s : State) (target : Nat) : List Nat → List Nat → State × List Nat × Nat × Nat
  | [], done => (s, done, 0, 0)
  | b :: t, done =>
    match s.armTurn (turnPage b) target with
    | (s, 0) => State.armPages s target t (done ++ [b])
    | (s, r) => (s, done, r, 2 ^ b)

/-- Record a domain arm (R219, R226). (log 52, DEDUCED) -/
def State.recordDa (s : State) (d state reason armId epoch mask src : Nat) : State :=
  [(DA_STATE_STATE, state), (DA_STATE_REASON, reason), (DA_STATE_ARM_ID, armId), (DA_EPOCH_LO_EPOCH_LO, epoch),
    (DA_EPOCH_HI_EPOCH_HI, epoch / 2 ^ 32), (DA_MASK_LO_MASK_LO, mask), (DA_MASK_HI_MASK_HI, mask / 2 ^ 32),
    (DA_SRC_SRC_HUB, src), (DA_EPOCH, epoch)].foldl (fun s x => s.wr shpctl (x.1.nth d) x.2) s

/-- The pages recorded for the domain arm of a slot. -/
def State.daMask (s : State) (d : Nat) : Nat :=
  s.rd shpctl (DA_MASK_HI_MASK_HI.nth d) * 2 ^ 32 + s.rd shpctl (DA_MASK_LO_MASK_LO.nth d)

/-- The hub words of a TURN_ARM payload: hub ID and mask, at most 20 (R217, R474). -/
def hubWords : Nat → List Nat → List (Nat × Nat)
  | 0, _ => []
  | fuel + 1, a :: b :: c :: t => (a / 65536, b * 2 ^ 32 + c) :: hubWords fuel t
  | _, _ => []

/-- TURN_ARM at this hub (R217, R218, R474). (log 52, DEDUCED) -/
def State.turnArm (s : State) (port : Nat) (c : Ctrl) : State :=
  let d := c.dom
  let n := ctrlWord c 2 % 32
  let hubs := hubWords 20 (c.words.drop 3)
  let bad := n = 0 || 20 < n || c.words.length < 3 + 3 * n || (hubs.take n).any fun h => 2 ^ 35 ≤ h.2
  let own := s.rd pathctl (PC_DOM_HUB_ID.nth d)
  let armId := ctrlWord c 0 / 65536
  let e := ctrlWord c 0 % 65536 * 2 ^ 32 + ctrlWord c 1
  let off := match s.followPort with | some p => s.rd (lane p) LN_TSYNC_OFFSET_OFFSET | none => 0
  let reply := fun (s : State) reason mask =>
    let w := [armId * 65536 + reason * 256, off, mask / 2 ^ 32, mask % 2 ^ 32]
    if reason = 0 then s.answer port c 0 w else s.refuse port c 8 w
  match (if bad then hubs else hubs.take n).find? fun h => h.1 = own && own != 0 with
  | none => s
  | some (_, mask) =>
    if bad then s.refuse port c 7 []
    else
      let early := if !s.bound d then 6 else if s.rd shpctl (DA_STATE_STATE.nth d) = 1 then 5 else if s.outOfSync then 4
        else if e < s.epoch + 2 || s.epoch + 32767 < e then 1 else 0
      if early = 5 then reply (s.raise shpctl 0) 5 mask
      else if early != 0 then reply ((s.recordDa d 3 early armId e mask c.src).raise shpctl 0) early mask
      else match s.armPages (e % 65536) (maskBits mask) [] with
        | (s, _, 0, _) => reply (s.recordDa d 1 0 armId e mask c.src) 0 mask
        | (s, done, r, failed) =>
          let s := done.foldl (fun s b => s.cancelArm (turnPage b)) s
          reply ((s.recordDa d 3 r armId e failed c.src).raise shpctl 0) r failed

/-- TURN_ARM (R218). -/
def execTurnArm (s : State) : Res := s.onMoabeuc 0x20 State.turnArm

/-- TURN_CANCEL at this hub (R219). -/
def State.turnCancel (s : State) (port : Nat) (c : Ctrl) : State :=
  let d := c.dom
  let armId := ctrlWord c 0 / 65536
  if s.rd shpctl (DA_STATE_ARM_ID.nth d) != armId || s.rd shpctl (DA_STATE_STATE.nth d) = 0 then s
  else
    let pages := (maskBits (s.daMask d)).map turnPage
    let any := s.rd shpctl (DA_STATE_STATE.nth d) = 1 && pages.any fun p => s.is p PG_SHADOW_CTRL_ARMED
    let s := s.when any fun s =>
      let s := pages.foldl State.cancelArm s
      ((s.wr shpctl (DA_STATE_STATE.nth d) 3).wr shpctl (DA_STATE_REASON.nth d) 0).raise shpctl 1
    s.answer port c 0 [armId * 65536, if any then 1 else 0]

/-- TURN_CANCEL (R219). -/
def execTurnCancel (s : State) : Res := s.onMoabeuc 0x21 State.turnCancel

/-- ISO_SHORT (R225). -/
def execIsoShort (s : State) : Res := s.onRequest 0x24 State.isoRx

/-- ISO_OK (R225). -/
def execIsoOk (s : State) : Res := s.onRequest 0x25 State.isoRx

/-- Is a control opcode one of R143's or R216's? -/
def knownCop (c : Nat) : Bool :=
  [1, 2, 3, 4, 5, 6, 0x10, 0x11, 0x12, 0x20, 0x21, 0x24, 0x25].contains c

/-- CTRL_BAD_REQ (R143, R216): a request with a reserved opcode is answered BAD_REQ. A bad form is answered by the
opcode's own command. -/
def execCtrlBadReq (s : State) : Res :=
  match s.takeLocal fun c => !knownCop c.cop && !c.rsp with
  | some (s, port, c) => .next (s.refuse port c 7 [])
  | none => .next s

end Sys2Proof.Machine
end

