-- ==== Sys2Proof/Machine/BootOps.lean ====
section
/-! DEFINITION. OTP, measurement, the image and its boot (R401 to R408 of spec/18_security.md), and the sections of the configuration image (R439 of spec/20_firmware_and_host_interface.md). -/

namespace Sys2Proof.Machine

open Reg

/-! ### OTP -/

/-- Bytes of the OTP (R401). (log 4, DESIGN CHOICE) -/
def State.otpBytes (s : State) (a n : Nat) : List Byte := Mem.readList 0 s.otp a n

/-- The number of the highest set bit plus one, or 0. -/
def topBit (v : Nat) : Nat := if v = 0 then 0 else Nat.log2 v + 1

/-- OTP_SVN (R401). -/
def State.otpSvn (s : State) : Nat := topBit (leNat (s.otpBytes 0xC0 16))

/-- A 32-bit word of the OTP. -/
def State.otpWord (s : State) (w : Nat) : Nat := leNat (s.otpBytes (4 * w) 4)

/-- Set bits in a word of the OTP: a bit only goes from 0 to 1. -/
def State.otpSet (s : State) (w bits : Nat) : State :=
  { s with otp := Mem.writeList 0 s.otp (4 * w) (leBytes 4 (s.otpWord w ||| bits)) }

/-- Bit `i` of the control word in force (R401, R402). -/
def State.lockBit (s : State) (i : Nat) : Bool := (s.rd sec SEC_LOCKS_CTRL).testBit i

/-! ### Measurement -/

/-- Twelve 32-bit words as a number of 384 bits, the first the most significant. (log 101, DEDUCED) -/
def wordsNat (ws : List Nat) : Nat := ws.foldl (fun a w => a * 2 ^ 32 + w) 0

/-- Word `i` of a number of `n` words, the first the most significant. (log 101, DEDUCED) -/
def natWord (n v i : Nat) : Nat := v / 2 ^ (32 * (n - 1 - i)) % 2 ^ 32

/-- Measurement bank `b`. -/
def State.bank (s : State) (b : Nat) : Nat := wordsNat ((List.range 12).map fun i => s.rd sec (MEAS_VALUE.nth (12 * b + i)))

/-- Set a bank. -/
def State.setBank (s : State) (b v : Nat) : State :=
  (List.range 12).foldl (fun s i => s.wr sec (MEAS_VALUE.nth (12 * b + i)) (natWord 12 v i)) s

/-- Extend bank `b` with a digest (R408). -/
def State.extend (s : State) (b digest : Nat) : State :=
  s.setBank b (Config.sha384 (beBytes 48 (s.bank b) ++ beBytes 48 digest))

/-! ### The image -/

/-- An image as the boot ROM reads it: `n` bytes from offset `a` of its header. -/
abbrev Image := Nat → Nat → List Byte

/-- A field of `n` bytes of an image, little-endian. -/
def imgNum (g : Image) (a n : Nat) : Nat := leNat (g a n)

/-- A component (R405): type, offset, length, load address and IV. -/
structure Comp where
  typ : Nat
  off : Nat
  len : Nat
  iv : List Byte
  deriving DecidableEq, Repr

/-- Component entry `i` of an image. -/
def compAt (g : Image) (i : Nat) : Comp :=
  ⟨imgNum g (192 + 32 * i) 1, imgNum g (196 + 32 * i) 4, imgNum g (200 + 32 * i) 4, g (208 + 32 * i) 12⟩

/-- The components in use. -/
def compsOf (g : Image) : List Comp := (List.range (imgNum g 20 1)).map (compAt g)

/-- Is entry `i` well formed (R405)? -/
def entryOk (g : Image) (n i : Nat) : Bool :=
  if i < n then
    1 ≤ (compAt g i).typ && (compAt g i).typ ≤ 3 && imgNum g (193 + 32 * i) 3 = 0 && imgNum g (220 + 32 * i) 4 = 0 &&
      (compAt g i).len % 16 = 0
  else imgNum g (192 + 32 * i) 32 = 0

/-- Do the header and the entries have the form of R404 and R405? (log 103, DEDUCED) -/
def formOk (g : Image) : Bool :=
  let n := imgNum g 20 1
  let ts := (compsOf g).map fun c => c.typ
  g 0 4 = [0x4B, 0x48, 0x49, 0x4D] && imgNum g 4 2 = 1 && imgNum g 6 2 = 1024 && 1 ≤ n && n ≤ 8 &&
    (List.range 8).all (entryOk g n) && ts.count 1 = 1 && ts.count 2 ≤ 1 && ts.count 3 ≤ 1

/-- Is an image encrypted? -/
def imgEnc (g : Image) : Bool := (imgNum g 15 1).testBit 0

/-- The plaintext of a component (R405). -/
def plainOf (g : Image) (c : Comp) : List Byte :=
  let bs := g c.off c.len
  if imgEnc g then (bs.zip (List.range bs.length)).map fun x => Config.decryptByte (g 128 40) c.iv x.2 x.1 else bs

/-- Steps 4 to 6 of R406: 0, or the failure code of SEC_BOOT. (log 103, DEDUCED) -/
def State.checkImage (s : State) (g : Image) : Nat :=
  let k := imgNum g 14 1
  let hash := beNat (s.otpBytes (if k = 0 then 0 else 0x30) 48)
  let signed := g 0 448 ++ (compsOf g).flatMap fun c => g c.off c.len
  if !formOk g then 1
  else if 1 < k || Config.sha384 (g 32 96) != hash then 2
  else if s.lockBit k then 3
  else if imgNum g 12 2 < s.otpSvn then 4
  else if (s.lockBit 3 && !imgEnc g) || (imgEnc g && !s.is sec SEC_ID_IMGKEY_OK) then 6
  else if Config.ecdsaOk (g 32 96) (Config.sha384 signed) (g 448 96) then 0 else 5

/-- The flash as an image of copy `c` (R404). -/
def State.flashImage (s : State) (c : Nat) : Image := fun a n =>
  Mem.readList 0xFF s.flash (leNat (Mem.readList 0xFF s.flash (4 + 4 * c) 4) + a) n

/-- Is the flash directory's magic right? (log 103, DEDUCED) -/
def State.dirOk (s : State) : Bool := Mem.readList 0xFF s.flash 0 4 = [0x4B, 0x48, 0x44, 0x52]

/-! ### The trial record (R445) -/

/-- Is copy `c` on trial? -/
def State.onTrial (s : State) (c : Nat) : Bool :=
  s.is aon AON_TRIAL_OPEN && (Mem.read 0 s.aonRam 0xC000).toNat % 2 = c

/-- Write the trial record. -/
def State.trialWrite (s : State) (c attempts : Nat) : State :=
  { s with aonRam := Mem.writeList 0 s.aonRam 0xC000 (leBytes 4 (c % 2 + attempts % 16 * 16)) }.wr aon AON_TRIAL_OPEN 1

/-- Clear it. -/
def State.trialClear (s : State) : State :=
  { s with aonRam := Mem.clear s.aonRam 0xC000 4 }.wr aon AON_TRIAL_OPEN 0

/-- The boot ROM counts an attempt to load copy `c`, if it is on trial; `true` when the attempts are used up. -/
def State.trialCount (s : State) (c : Nat) : State × Bool :=
  if !s.onTrial c then (s, false)
  else
    let n := (Mem.read 0 s.aonRam 0xC000).toNat / 16 + 1
    (s.trialWrite c n, 4 ≤ n)

/-! ### Boot -/

/-- Measure and release an image that has passed (R406 steps 7 and 8): SEC_BOOT records it, Moabeuc starts, and the
islands it needs run; in dead-battery operation MGMT runs, with PERI for the port that powers the hub (R360). -/
def State.runImage (s : State) (g : Image) (result copy : Nat) : State :=
  let s := s.extend 1 (Config.sha384 (g 0 448))
  let s := (compsOf g).foldl (fun s c => s.extend (c.typ + 1) (Config.sha384 (plainOf g c))) s
  let s := (((s.wr sec SEC_BOOT_RESULT result).wr sec SEC_BOOT_COPY copy).wr sec SEC_BOOT_ENC
    (if imgEnc g then 1 else 0)).wr sec SEC_BOOT_KEY_IDX (imgNum g 14 1)
  let s := ((s.wr sec SEC_BOOT_IMG_SVN (imgNum g 12 2)).wr sec SEC_BOOT_SEQ_SEQ (imgNum g 8 4)).wr sec SEC_RECOVERY 0
  let part := fun t => match (compsOf g).find? fun c => c.typ = t with
    | some c => plainOf g c
    | none => []
  let s := { s with cfg := part 3 }
  let s := ((s.wr mbx MB_SEQ_SEQ (imgNum g 8 4)).wr mbx MB_FW_COPY copy).wr mbx MB_FW_TRIAL
    (if result = 0 && s.onTrial copy then 1 else 0)
  let s := (s.wr mbx MB_FW_VERSION (Config.fwVersion (part 1))).wr mbx MB_FW_PHASE 1
  if s.is aon AON_DBAT then s.runIsland 5 else ((s.runIsland 3).runIsland 4).runIsland 5

/-- The causes of failure of the two copies. -/
def failField (c : Nat) : Field := if c = 0 then SEC_BOOT_FAIL_A else SEC_BOOT_FAIL_B

/-- Recovery begins (R407). -/
def State.recover (s : State) (why : Nat) : State := (s.wr sec SEC_BOOT_RESULT why).wr sec SEC_RECOVERY why

/-- Try the copies in order (R406); `bad` is the mask of copies that the flash fails to read, `first` says that no copy
has failed yet. An encrypted copy without the image key leads to recovery at once (R407). (log 103, DEDUCED) -/
def State.tryCopies (s : State) (bad : Nat) (first : Bool) : List Nat → State
  | [] => s.recover 2
  | c :: t =>
    let (s, spent) := s.trialCount c
    let code := if !s.dirOk || spent then 1 else if bad.testBit c then 7 else s.checkImage (s.flashImage c)
    let s := s.wr sec (failField c) code
    if code = 0 then (s.runImage (s.flashImage c) 0 c).when (!first) fun s => s.raise sec 0
    else if code = 6 && imgEnc (s.flashImage c) && !s.is sec SEC_ID_IMGKEY_OK then s.recover 2
    else State.tryCopies s bad false t

/-- Zero the banks and measure the ROM (R406 step 2). (log 103, DEDUCED) -/
def State.measureRom (s : State) : State :=
  let s := (List.range 96).foldl (fun s i => s.wr sec (MEAS_VALUE.nth i) 0) s
  s.extend 0 (Config.sha384 (Config.romVersion ++ s.otpBytes 0xD0 8))

/-- The random numbers that fill a slot: a free key and salt (R413). -/
def State.fillSlot (s : State) (k : Nat) : State :=
  let s := (s.wr sec (KS_KEY.nth k) s.freeNat).tookFree
  ((s.wr sec (KS_SLOT_SALT.nth k) s.freeNat).tookFree).wr sec (KS_SLOT_VALID.nth k) 0

/-- ZEROISE_ALL (R413). -/
def State.zeroiseAll (s : State) : State :=
  let s := (List.range 64).foldl (fun s k => s.fillSlot k) s
  (List.range 8).foldl (fun s i => s.wr sec (KS_STAGE_KEY.nth i) 0) s

/-- Before scan or DFT is enabled (R418): keys, identity and HKDF state are cleared and ZEROISED is raised. (log 106, DESIGN CHOICE) -/
def State.testMode (s : State) : State :=
  let s := s.zeroiseAll.clearFields sec [SEC_ID_ID_OK, SEC_ID_IMGKEY_OK, SEC_MATCH]
  let s := (List.range 12).foldl (fun s i => s.wr sec (SEC_KDF_INFO_INFO.nth i) 0) s
  ((s.wr sec SEC_ID_PUF_OFF 1).raise sec 6).wr aon AON_TEST 1

/-- The boot ROM runs (R403, R406, R407). (log 85, DEDUCED) -/
def State.boot (s : State) (idOk idMatch testEn : Bool) (pufErr bad : Nat) : State :=
  let s := (s.runIsland 2).resetWhere fun _ c => c = .boot
  let s := { s with cfg := [] }.wr sec SEC_BOOT_OTP_SVN s.otpSvn
  if testEn then s.testMode.wr sec SEC_BOOT_RESULT 3
  else
    let s := ((s.measureRom).wr sec SEC_BOOT_FAIL_A 8).wr sec SEC_BOOT_FAIL_B 8
    if s.coldStop then s
    else
    let bit := if idOk then 1 else 0
    let s := (((s.wr sec SEC_ID_ID_OK bit).wr sec SEC_ID_IMGKEY_OK bit).wr sec SEC_ID_PUF_ERR pufErr).wr sec SEC_ID_PUF_OFF 1
    let s := (s.wr sec SEC_MATCH (if idOk && idMatch then 1 else 0)).when (!(idOk && idMatch)) fun s => s.raise sec 1
    if !s.is glb GLB_STRAP_BOOT then s.recover 1
    else
      let a := imgNum (s.flashImage 0) 8 4
      let b := imgNum (s.flashImage 1) 8 4
      s.tryCopies bad true (if a < b then [1, 0] else [0, 1])

/-! ### The configuration image (R439) -/

/-- A section: its tag, whether its header is well formed, and its data. -/
structure Section where
  tag : Nat
  ok : Bool
  data : List Byte
  deriving DecidableEq, Repr

/-- The sections of a configuration component, each padded to 8 B; one that runs past the end is malformed. (log 111, PRESUMED) -/
def sections : Nat → List Byte → List Section
  | 0, _ => []
  | fuel + 1, bs =>
    if bs.length < 8 then []
    else
      let tag := leNat (bs.take 2)
      let len := leNat (cut bs 4 4)
      let good := cut bs 2 2 = [1, 0] && 8 + len ≤ bs.length
      ⟨tag, good, cut bs 8 len⟩ :: sections fuel (bs.drop (8 + (len + 7) / 8 * 8))

/-- The data of the first section with a tag, where it is well formed. -/
def State.section? (s : State) (tag : Nat) : Option (List Byte) :=
  match (sections s.cfg.length s.cfg).find? fun x => x.tag = tag with
  | some x => if x.ok then some x.data else none
  | none => none

end Sys2Proof.Machine
end

