-- ==== Sys2Proof/Machine/SecOps.lean ====
section
/-! DEFINITION. Key slots, signing, debug access and the SPDM responder (R402, R409 to R418 of spec/18_security.md). -/

namespace Sys2Proof.Machine

open Reg

/-! ### Shared parts -/

/-- Has the RNG's health test failed (R420)? -/
def State.rngBad (s : State) : Bool := s.is sec (PG_ERR_STATUS_SRC.nth 7)

/-- An array of 32-bit registers as a number, the first word the most significant. (log 101, DEDUCED) -/
def State.regsNat (s : State) (f : Field) (n : Nat) : Nat := wordsNat ((List.range n).map fun i => s.rd sec (f.nth i))

/-- Is slot `k` BUSY (R413)? (log 102, DEDUCED) -/
def State.slotBusy (s : State) (k : Nat) : Bool :=
  s.entries.any fun j =>
    let p := path j
    (s.is p PT_W0_SEAL_IN && s.rd p PT_W3_KEY_IN = k) || (s.is p PT_W0_SEAL_OUT && s.rd p PT_W3_KEY_OUT = k) ||
      (s.is p PT_KEY_GRACE && s.rd p PT_KEY_PREV = k)

/-! ### OTP programming (R402) -/

/-- Does R401 let the bits of a word be programmed? -/
def State.otpMay (s : State) (w bits : Nat) : Bool :=
  let old := s.otpWord w
  let revokes := w = 52 && (old ||| bits) % 4 = 3 && old % 4 != 3
  !revokes && (!s.lockBit 5 || (48 ≤ w && w ≤ 51) || (w = 52 && bits < 32) || 320 ≤ w)

/-- SEC_OTP_CMD.GO: `lost` is the bits that the read-back lacks. -/
def State.otpProgram (s : State) (w lost : Nat) : State :=
  let bits := s.rd sec SEC_OTP_WDATA_DATA
  let s := s.wr sec SEC_OTP_CMD_WORD w
  if !s.otpMay w bits then s.wr sec SEC_OTP_CMD_RESULT 1
  else
    let miss := Nat.land bits (Nat.land lost (2 ^ 32 - 1 - s.otpWord w))
    let s := s.otpSet w (bits - miss)
    if miss = 0 then s.wr sec SEC_OTP_CMD_RESULT 0 else (s.wr sec SEC_OTP_CMD_RESULT 2).raise sec 2

/-! ### Slots (R412, R413) -/

/-- SEC_KS_CMD takes a command. (log 102, DEDUCED) -/
def State.ksCmd (s : State) (op slot salt : Nat) : State :=
  ((s.wr sec SEC_KS_CMD_OP op).wr sec SEC_KS_CMD_SLOT slot).wr sec SEC_KS_CMD_SALT salt

/-- End a command with a result. -/
def State.ksResult (s : State) (r : Nat) : State := s.wr sec SEC_KS_STATUS_RESULT r

/-- A command on a BUSY slot is refused. (log 106, DESIGN CHOICE) -/
def State.ksBusy (s : State) : State := (s.ksResult 1).raise sec 3

/-- A key enters a slot. -/
def State.ksPut (s : State) (slot salt key origin : Nat) : State :=
  (((s.wr sec (KS_KEY.nth slot) key).wr sec (KS_SLOT_SALT.nth slot) salt).wr sec (KS_SLOT_ORIGIN.nth slot) origin).wr sec
    (KS_SLOT_VALID.nth slot) 1

/-- LOAD. -/
def State.ksLoad (s : State) (slot salt : Nat) : State :=
  let s := s.ksCmd 1 slot salt
  if s.slotBusy slot then s.ksBusy
  else
    let s := s.ksPut slot salt (s.regsNat KS_STAGE_KEY 8) 0
    ((List.range 8).foldl (fun s i => s.wr sec (KS_STAGE_KEY.nth i) 0) s).ksResult 0

/-- The key that DERIVE gives (R412). -/
def State.derived (s : State) : Nat :=
  Config.hkdf (s.otpBytes 0x60 48) (beBytes 48 (s.regsNat SEC_KDF_INFO_INFO 12) ++ s.otpBytes 0xD8 16)

/-- DERIVE. -/
def State.ksDerive (s : State) (slot salt : Nat) : State :=
  let s := s.ksCmd 2 slot salt
  if s.slotBusy slot then s.ksBusy else if s.rngBad then s.ksResult 2 else (s.ksPut slot salt s.derived 1).ksResult 0

/-- ZEROISE. (log 102, DEDUCED) -/
def State.ksZeroise (s : State) (slot : Nat) : State :=
  let s := (s.wr sec SEC_KS_CMD_OP 3).wr sec SEC_KS_CMD_SLOT slot
  if s.slotBusy slot then s.ksBusy else if s.rngBad then s.ksResult 2 else (s.fillSlot slot).ksResult 0

/-- ZEROISE_ALL always acts. -/
def State.ksZeroiseAll (s : State) : State := ((s.wr sec SEC_KS_CMD_OP 4).zeroiseAll).ksResult 0

/-! ### Signing and measuring (R408, R411) -/

/-- A signature over a digest, 96 B; its random part is a free value. -/
def State.signBytes (s : State) (digest : Nat) : List Byte :=
  (List.range 96).map fun i => Config.signByte digest s.freeNat i

/-- SEC_SIGN_CMD.GO. -/
def State.sign (s : State) : State :=
  if !s.is sec SEC_ID_ID_OK then s.wr sec SEC_SIGN_CMD_FAIL 1
  else
    let v := beNat (s.signBytes (s.regsNat SEC_DIGEST_DIGEST 12))
    ((List.range 24).foldl (fun s i => s.wr sec (SEC_SIG_SIG.nth i) (natWord 24 v i)) s.tookFree).wr sec SEC_SIGN_CMD_FAIL 0

/-- SEC_MEAS_CMD.GO. -/
def State.measExtend (s : State) (b : Nat) : State :=
  let s := s.wr sec SEC_MEAS_CMD_BANK b
  if b < 6 then s.wr sec SEC_MEAS_CMD_REFUSED 1
  else (s.extend b (s.regsNat SEC_DIGEST_DIGEST 12)).wr sec SEC_MEAS_CMD_REFUSED 0

/-! ### Debug (R417) -/

/-- CHALLENGE: a fresh nonce, unless the RNG has failed. -/
def State.dbgChallenge (s : State) (level : Nat) : State :=
  let s := (s.wr sec SEC_DBG_CTRL_LEVEL level).wr sec SEC_NONCE_OK 0
  if s.rngBad then s.wr sec SEC_DBG_CTRL_RESULT 2
  else
    let v := s.freeNat
    let s := (List.range 12).foldl (fun s i => s.wr sec (SEC_DBG_NONCE_NONCE.nth i) (natWord 12 v i)) s.tookFree
    let s := ((s.wr sec SEC_NONCE_OK 1).wr sec SEC_NONCE_TIME s.clock).wr sec SEC_DBG_CTRL_RESULT 0
    { s with dbgResp := [] }

/-- A VERIFY is refused. (log 104, DEDUCED) -/
def State.dbgRefuse (s : State) (result : Nat) : State :=
  ((s.count sec SEC_DBG_CTRL_FAILS).wr sec SEC_DBG_CTRL_RESULT result).raise sec 5

/-- Does the response prove the debug key for the level? -/
def State.dbgProof (s : State) (level : Nat) : Bool :=
  let bs := s.dbgResp.flatMap fun w => beBytes 4 w
  let msg := beBytes 48 (s.regsNat SEC_DBG_NONCE_NONCE 12) ++ s.otpBytes 0xD8 16 ++ leBytes 1 level
  (1 ≤ level && level ≤ 2) && s.dbgResp.length = 48 && Config.sha384 (bs.take 96) = beNat (s.otpBytes 0x90 48) &&
    Config.ecdsaOk (bs.take 96) (Config.sha384 msg) (bs.drop 96)

/-- VERIFY. (log 104, DEDUCED) -/
def State.dbgVerify (s : State) (level : Nat) : State :=
  let s := s.wr sec SEC_DBG_CTRL_LEVEL level
  let fresh := s.is sec SEC_NONCE_OK && s.clock ≤ s.rd sec SEC_NONCE_TIME + 60000000000
  let s := s.wr sec SEC_NONCE_OK 0
  if 3 ≤ s.rd sec SEC_DBG_CTRL_FAILS then s.dbgRefuse 3
  else if s.lockBit 4 || !fresh || !s.dbgProof level then s.dbgRefuse 2
  else
    let s := s.extend 5 (Config.sha384 (leBytes 1 level ++ s.otpBytes 0x90 48))
    let s := s.when (level = 2) State.testMode
    ((s.wr sec SEC_DBG_CTRL_GRANTED level).wr sec SEC_DBG_CTRL_RESULT 1).raise sec 4

/-! ### The SPDM responder (R409 to R411) -/

/-- A connection; none yet negotiated. -/
def State.spdmOf (s : State) (ep : Nat) : Spdm := (Tab.find s.spdm ep).getD ⟨0, 0, 0⟩

/-- Set a connection. -/
def State.setSpdm (s : State) (ep : Nat) (c : Spdm) : State := { s with spdm := s.spdm.put ep c }

/-- Can the identity sign for the responder (R411)? -/
def State.idGood (s : State) : Bool := s.is sec SEC_ID_ID_OK && s.is sec SEC_MATCH

/-- The certificate chain of slot 0; empty without one, or without a good identity (R409, R411). -/
def State.chain (s : State) : List Byte :=
  if s.idGood then ((s.section? 7).getD []).take 3072 else []

/-- Answer on an endpoint. (log 105, PRESUMED) -/
def State.spdmSay (s : State) (ep : Nat) (r : SpdmRsp) : State := s.send (.spdm ep r)

/-- Answer a request that needs a connection at least as far as `st`; an earlier one is unexpected. (log 105, PRESUMED) -/
def State.spdmFrom (s : State) (ep st : Nat) (f : State → State) : State :=
  if !s.moabeuc then s
  else if (s.spdmOf ep).st < st then s.spdmSay ep (.error 4)
  else f s

/-- Answer a request that needs a session that has reached `n`. (log 105, PRESUMED) -/
def State.spdmIn (s : State) (ep n : Nat) (f : State → State) : State :=
  s.spdmFrom ep 3 fun s => if (s.spdmOf ep).sess = n then f s else s.spdmSay ep (.error 4)

/-- GET_VERSION: a connection starts afresh; a fifth one finds no room. -/
def State.spdmVersion (s : State) (ep : Nat) : State :=
  if !s.moabeuc then s
  else if (Tab.find s.spdm ep).isNone && 4 ≤ s.spdm.length then s.spdmSay ep (.error 3)
  else (s.setSpdm ep ⟨1, 0, 0⟩).spdmSay ep .version

/-- A signature for the responder. -/
def State.spdmSigned (s : State) (ep digest : Nat) (r : List Byte → SpdmRsp) : State :=
  if s.idGood then (s.spdmSay ep (r (s.signBytes digest))).tookFree else s.spdmSay ep (.error 5)

/-- Measurement indices and digests (R410): one index, or all for 0xFF. -/
def State.spdmBlocks (s : State) (index : Nat) : List (Nat × Nat) :=
  ((List.range 8).filter fun b => index = 0xFF || index = b + 1).map fun b => (b + 1, s.bank b)

end Sys2Proof.Machine
end

