-- ==== Sys2Proof/Machine/Sec.lean ====
section
/-! DEFINITION. The commands of boot, OTP, measurement, keys, debug and attestation (spec/18_security.md). -/

namespace Sys2Proof.Machine

open Reg

/-! ### Boot -/

/-- BOOT_ROM_START (R406): MGMT is powered and held in reset, RESET_N is high, no logic BIST runs, and the hub is in D0 to
D2 and not in test mode. -/
def execBootRomStart (idOk idMatch testEn : Bool) (pufErr flashErr : Nat) (s : State) : Res :=
  .next (s.when (s.rdBit glb GLB_ISL_PWR_PWR 2 && s.rdBit glb GLB_ISL_RST_IN_RESET 2 && !s.is glb GLB_RESET_N_LOW &&
      !s.is aon AON_TEST && s.ps ≤ 2 && !s.is glb GLB_LBIST_RUNNING) fun s => s.boot idOk idMatch testEn pufErr flashErr)

/-- RECOVERY_IMAGE_RX (R30, R407): through the SMBus target in every role, and through the management function in role
0b01. -/
def execRecoveryImageRx (who : Initiator) (bytes : List Byte) (s : State) : Res :=
  let may := who = .smbus || (s.rd glb GLB_STRAP_ROLE = 1 && (hostDom who).isSome)
  let g : Image := fun a n => (bytes.drop a).take n
  .next (s.when (s.is sec SEC_RECOVERY && may && s.checkImage g = 0) fun s => s.runImage g (s.rd sec SEC_RECOVERY) 0)

/-! ### OTP, banks, signing -/

/-- OTP_PROGRAM (R402). -/
def execOtpProgram (who : Initiator) (word lost : Nat) (s : State) : Res :=
  .next (s.access who sec SEC_OTP_CMD_GO fun s => s.otpProgram word lost)

/-- MEAS_EXTEND (R408). -/
def execMeasExtend (who : Initiator) (bank : Nat) (s : State) : Res :=
  .next (s.access who sec SEC_MEAS_CMD_GO fun s => s.measExtend bank)

/-- SIGN (R411). -/
def execSign (who : Initiator) (s : State) : Res := .next (s.access who sec SEC_SIGN_CMD_GO State.sign)

/-! ### Key slots -/

/-- LOAD (R413). -/
def execLoad (who : Initiator) (slot salt : Nat) (s : State) : Res :=
  .next (s.access who sec SEC_KS_CMD_GO fun s => s.ksLoad slot salt)

/-- DERIVE (R412). -/
def execDerive (who : Initiator) (slot salt : Nat) (s : State) : Res :=
  .next (s.access who sec SEC_KS_CMD_GO fun s => s.ksDerive slot salt)

/-- ZEROISE (R413). -/
def execZeroise (who : Initiator) (slot : Nat) (s : State) : Res :=
  .next (s.access who sec SEC_KS_CMD_GO fun s => s.ksZeroise slot)

/-- ZEROISE_ALL (R413). -/
def execZeroiseAll (who : Initiator) (s : State) : Res := .next (s.access who sec SEC_KS_CMD_GO State.ksZeroiseAll)

/-- KEY_GRACE_END (R416): one epoch after the turnover that changed KEY_IN. -/
def execKeyGraceEnd (entry : Nat) (s : State) : Res :=
  let p := path entry
  .next (s.when (s.is p PT_KEY_GRACE && s.epoch != s.rd p PT_GRACE_EPOCH) fun s => s.wr p PT_KEY_GRACE 0)

/-! ### Debug -/

/-- CHALLENGE (R417). -/
def execChallenge (who : Initiator) (level : Nat) (s : State) : Res :=
  .next (s.access who sec SEC_DBG_CTRL_CHALLENGE fun s => s.dbgChallenge level)

/-- DBG_RESP_PUSH (R417). -/
def execDbgRespPush (who : Initiator) (word : Nat) (s : State) : Res :=
  .next (s.access who sec SEC_DBG_RESP_DATA fun s => { s with dbgResp := s.dbgResp ++ [word] })

/-- VERIFY (R417). -/
def execVerify (who : Initiator) (level : Nat) (s : State) : Res :=
  .next (s.access who sec SEC_DBG_CTRL_VERIFY fun s => s.dbgVerify level)

/-- NONCE_EXPIRY (R417): 60 s have passed. -/
def execNonceExpiry (s : State) : Res :=
  .next (s.when (s.is sec SEC_NONCE_OK && s.rd sec SEC_NONCE_TIME + 60000000000 ≤ s.clock) fun s => s.wr sec SEC_NONCE_OK 0)

/-- RNG_HEALTH_FAIL (R420). -/
def execRngHealthFail (s : State) : Res := .next (s.raise sec 7)

/-! ### SPDM -/

/-- GET_VERSION (R409). -/
def execGetVersion (ep : Nat) (s : State) : Res := .next (s.spdmVersion ep)

/-- GET_CAPABILITIES (R409). -/
def execGetCapabilities (ep : Nat) (s : State) : Res :=
  .next (s.spdmFrom ep 1 fun s => (s.setSpdm ep { s.spdmOf ep with st := max 2 (s.spdmOf ep).st }).spdmSay ep .capabilities)

/-- NEGOTIATE_ALGORITHMS (R409): a requester that offers none of the hub's algorithms gets ERROR. -/
def execNegotiateAlgorithms (ep : Nat) (common : Bool) (s : State) : Res :=
  .next (s.spdmFrom ep 2 fun s =>
    if common then (s.setSpdm ep { s.spdmOf ep with st := 3 }).spdmSay ep .algorithms else s.spdmSay ep (.error 1))

/-- GET_DIGESTS (R409): slot 0, where it holds a chain. -/
def execGetDigests (ep : Nat) (s : State) : Res :=
  .next (s.spdmFrom ep 3 fun s =>
    if s.chain.isEmpty then s.spdmSay ep (.digests 0 0) else s.spdmSay ep (.digests 1 (Config.sha384 s.chain)))

/-- GET_CERTIFICATE (R409): bytes of the chain of slot 0. -/
def execGetCertificate (ep slot off len : Nat) (s : State) : Res :=
  .next (s.spdmFrom ep 3 fun s =>
    if slot != 0 || s.chain.length ≤ off then s.spdmSay ep (.error 1)
    else s.spdmSay ep (.certificate ((s.chain.drop off).take len)))

/-- SPDM_CHALLENGE (R411): signed, over the digest of the transcript. -/
def execSpdmChallenge (ep slot digest : Nat) (s : State) : Res :=
  .next (s.spdmFrom ep 3 fun s =>
    if slot != 0 then s.spdmSay ep (.error 1) else s.spdmSigned ep digest fun b => .challengeAuth b)

/-- GET_MEASUREMENTS (R410): the banks asked for, signed on request. -/
def execGetMeasurements (ep index : Nat) (signed : Bool) (digest : Nat) (s : State) : Res :=
  .next (s.spdmFrom ep 3 fun s =>
    if signed then s.spdmSigned ep digest fun b => .measurements (s.spdmBlocks index) (some b)
    else s.spdmSay ep (.measurements (s.spdmBlocks index) none))

/-- KEY_EXCHANGE (R409): a connection holds at most one session. -/
def execKeyExchange (ep slot session digest : Nat) (s : State) : Res :=
  .next (s.spdmFrom ep 3 fun s =>
    if slot != 0 then s.spdmSay ep (.error 1)
    else if (s.spdmOf ep).sess != 0 then s.spdmSay ep (.error 10)
    else if !s.idGood then s.spdmSay ep (.error 5)
    else (s.spdmSigned ep digest fun b => .keyExchange session b).setSpdm ep ⟨3, 1, session⟩)

/-- FINISH (R409). -/
def execFinish (ep : Nat) (s : State) : Res :=
  .next (s.spdmIn ep 1 fun s => (s.setSpdm ep { s.spdmOf ep with sess := 2 }).spdmSay ep .finish)

/-- HEARTBEAT (R409). -/
def execHeartbeat (ep : Nat) (s : State) : Res := .next (s.spdmIn ep 2 fun s => s.spdmSay ep .heartbeat)

/-- KEY_UPDATE (R409). -/
def execKeyUpdate (ep : Nat) (s : State) : Res := .next (s.spdmIn ep 2 fun s => s.spdmSay ep .keyUpdate)

/-- END_SESSION (R409). -/
def execEndSession (ep : Nat) (s : State) : Res :=
  .next (s.spdmIn ep 2 fun s => (s.setSpdm ep ⟨3, 0, 0⟩).spdmSay ep .endSession)

/-- SPDM_UNSUPPORTED (R409): ERROR UnsupportedRequest. -/
def execSpdmUnsupported (ep : Nat) (s : State) : Res := .next (s.when s.moabeuc fun s => s.spdmSay ep (.error 7))

end Sys2Proof.Machine
end

