-- ==== Sys2Proof/Machine/Mbx.lean ====
section
/-! DEFINITION. The commands of the mailboxes, the firmware update and the adapter engines (spec/20_firmware_and_host_interface.md). -/

namespace Sys2Proof.Machine

open Reg

/-! ### The channels (R442, R443) -/

/-- GO (R443). -/
def execGo (who : Initiator) (c cmd len tag : Nat) (s : State) : Res :=
  .next (s.access who (mbch c) MB_DOORBELL_GO fun s => s.mbGo who c cmd len tag)

/-- The commands of R444 and the channels that may send each. -/
def mbAllowed (cmd c : Nat) : Option Bool :=
  if cmd = 1 || cmd = 2 || cmd = 5 || (0x20 ≤ cmd && cmd ≤ 0x26) then some (c ≤ 2)
  else if cmd = 3 || cmd = 4 then some (c ≤ 1)
  else if cmd = 0x10 then some (c = 4 || c = 5)
  else none

/-- REQUEST_TAKEN (R443): one that no command or channel of R444 fits is answered at once. -/
def execRequestTaken (c : Nat) (s : State) : Res :=
  let p := mbch c
  .next (s.when (s.moabeuc && c != 15 && s.is p MB_RESULT_BUSY && !s.is p MB_RESULT_TAKEN) fun s =>
    let s := s.wr p MB_RESULT_TAKEN 1
    match mbAllowed (s.rd p MB_DOORBELL_CMD) c with
    | some true => s
    | some false => s.mbFinish c 2 []
    | none => s.mbFinish c 1 [])

/-- ABORT (R443). -/
def execAbort (who : Initiator) (c : Nat) (s : State) : Res :=
  .next (s.access who (mbch c) MB_DOORBELL_ABORT fun s => s.mbAbort c)

/-- DONE (R443). -/
def execDone (who : Initiator) (c : Nat) (s : State) : Res :=
  .next (s.access who (mbch c) MB_RESULT_DONE fun s => s.wr (mbch c) MB_RESULT_DONE 0)

/-- Moabeuc carries out the command that channel `c` has had taken, if it is `cmd`: a status and response words. -/
def State.mbCmd (s : State) (c cmd : Nat) (act : State → State × Nat × List Nat) : Res :=
  let p := mbch c
  .next (s.when (s.moabeuc && s.is p MB_RESULT_BUSY && s.is p MB_RESULT_TAKEN && s.rd p MB_DOORBELL_CMD = cmd &&
      mbAllowed cmd c = some true) fun s =>
    let r := act s
    r.1.mbFinish c r.2.1 r.2.2)

/-- Word `i` of a channel's request. -/
def State.mbWord (s : State) (c i : Nat) : Nat := (s.mbReq c).getD i 0

/-- Answer BAD_REQ to a request of fewer than `n` words. -/
def State.mbNeed (s : State) (c n : Nat) (act : State → State × Nat × List Nat) : State × Nat × List Nat :=
  if s.rd (mbch c) MB_DOORBELL_LEN < n then (s, 1, []) else act s

/-! ### The commands of R444 -/

/-- MB_FW as a word. -/
def State.fwWord (s : State) : Nat :=
  s.rd mbx MB_FW_FW_READY * 2 ^ 31 + s.rd mbx MB_FW_PHASE * 2 ^ 28 + s.rd mbx MB_FW_COPY * 2 ^ 27 +
    s.rd mbx MB_FW_TRIAL * 2 ^ 26 + s.rd mbx MB_FW_VERSION

/-- GET_INFO. (log 107, DEDUCED) -/
def execGetInfo (c : Nat) (s : State) : Res :=
  s.mbCmd c 1 fun s => (s, 0, [s.chipId, s.fwWord, s.rd mbx MB_SEQ_SEQ, s.otpSvn, s.rd mbx MB_FW_COPY])

/-- POWER: the answer is given as the entry starts, or with the cause of its refusal. (log 107, DEDUCED) -/
def execPower (c : Nat) (s : State) : Res :=
  let t := s.mbWord c 0 % 8
  let p := mbch c
  if !(s.moabeuc && s.is p MB_RESULT_BUSY && s.is p MB_RESULT_TAKEN && s.rd p MB_DOORBELL_CMD = 2 && c ≤ 2) then .next s
  else if s.rd p MB_DOORBELL_LEN = 0 || !(t = 0 || t = 2 || t = 3 || t = 4) then .next (s.mbFinish c 1 [])
  else
    let cause := if t = 0 || t = s.ps then 0 else s.entryRefusal t
    if cause = 0 then .next ((s.mbFinish c 0 []).psGo t) else .next ((s.psGo t).mbFinish c 7 [cause])

/-- A copy of entry `k` at index `j`, in ADD with another reservation. -/
def State.regrant (s : State) (k j units : Nat) : State :=
  let s := entryFields.foldl (fun s f => s.wr (path j) f (s.rd (path k) f)) s
  ((s.wr (path j) PT_W0_STATE 2).wr (path j) PT_W4_RSV_UNITS units).wr (path j) PT_MOAB 1

/-- DP_GRANT (R127): the reservation of the paths that end at the output follows the grant at the turnover of C + 3. (log 107, DEDUCED) -/
def execDpGrant (c : Nat) (s : State) : Res :=
  s.mbCmd c 3 fun s => s.mbNeed c 1 fun s =>
    let n := s.mbWord c 0 % 4
    let units := s.mbWord c 0 / 65536 % 8192
    let mine := s.entries.filter fun k => s.rd (path k) PT_W0_STATE = 1 && s.rd (path k) PT_W0_CLASS = 1 &&
      s.rd (path k) PT_W1_OUT_PORT = 0x10 + n
    if s.is pathctl PG_CTRL_EXPERT then (s, 7, [])
    else if s.is pathctl PG_SHADOW_CTRL_ARMED then (s, 3, [])
    else
      let t := mine.foldl (fun (x : State × Bool) k => match x.1.freeIndex with
        | none => (x.1, false)
        | some j =>
          let t := x.1.regrant k j units
          (t, x.2 && t.consistent j && t.addable j && t.bandwidth j)) (s, true)
      if !t.2 then (s.raiseRefuse .bwBudget, 7, [])
      else
        let s := (t.1.wr (dout n) DOUT_GRANT_V 1).wr (dout n) DOUT_GRANT units
        (s.armPaths, 0, [(s.epoch + 3) % 65536])

/-- KEY_BIND: the key that the session delivered under the key ID, if there is one. (log 107, DEDUCED) -/
def execKeyBind (c : Nat) (key : Option Nat) (s : State) : Res :=
  s.mbCmd c 4 fun s => s.mbNeed c 3 fun s =>
    let slot := s.mbWord c 2 / 65536 % 64
    match key with
    | none => (s, 1, [])
    | some k =>
      if s.slotBusy slot then (s.ksBusy, 7, []) else ((s.ksPut slot (s.mbWord c 2 % 65536) k 0).ksResult 0, 0, [])

/-- LOG_READ: up to 255 words of Moabeuc's log, which the operand gives. -/
def execLogRead (c : Nat) (words : List Nat) (s : State) : Res :=
  s.mbCmd c 5 fun s => s.mbNeed c 1 fun s => (s, 0, (words.take 255).map fun w => w % 2 ^ 32)

/-- Would R144 discard a control packet that Uhlok sends from this hub? -/
def State.unroutable (s : State) (c : Ctrl) : Bool :=
  let own := s.hubId c.dom
  if own = 0 then
    !(c.dest = 0 || c.dest = 0xFFFF) && (c.ttl ≤ 1 || !s.ctrlPort (s.portFor c.dom c.dest))
  else
    c.dest = 0 || (c.dest != own && c.dest != 0xFFFF && (c.ttl ≤ 1 || !s.ctrlPort (s.portFor c.dom c.dest)))

/-- Record a request that Uhlok sends (R146): a TURN_ARM expects one response from each hub that it names; the number of
responses to a TURN_CANCEL is not known, and some requests have none (R143, R216). A request under a TAG already in use takes the place of the older one. -/
def State.recordReq (s : State) (c : Ctrl) : State :=
  let n := if c.cop = 0x20 then max 1 (ctrlWord c 2 % 32) else if c.cop = 0x21 then 0 else 1
  if c.rsp || [5, 6, 0x12, 0x24, 0x25].contains c.cop then s
  else { s with reqs := (s.reqs.filter fun r => !(r.dom = c.dom && r.tag = c.tag && r.cop = c.cop)) ++
    [⟨c.dom, c.tag, c.cop, c.dest, n, 0, 0, s.clock⟩] }

/-- CTRL_SEND (R141, R144): the packet leaves with this hub's ID as SRC_HUB. (log 107, DEDUCED) -/
def execCtrlSend (c : Nat) (s : State) : Res :=
  s.mbCmd c 0x10 fun s =>
    match parseCtrl (s.mbReq c) with
    | none => (s, 1, [])
    | some k =>
      let k := { k with src := s.hubId k.dom }
      if k.dom != c - 4 then (s, 2, [])
      else if s.unroutable k then
        (s.when (k.ttl ≤ 1 && k.dest != 0) fun s => s.count pathctl PC_CNT_TTL, 7, [10])
      else ((s.recordReq k).ctrlArrive 0x17 0 k, 0, [])

/-! ### Firmware update (R445) -/

/-- Where a copy lies in the flash. -/
def State.copyOff (s : State) (c : Nat) : Nat := leNat (Mem.readList 0xFF s.flash (4 + 4 * c) 4)

/-- The copy that is not running. -/
def State.otherCopy (s : State) : Nat := 1 - s.rd mbx MB_FW_COPY

/-- One command of an update: another channel's is answered BUSY while one runs. -/
def State.fwCmd (s : State) (c cmd : Nat) (act : State → State × Nat × List Nat) : Res :=
  s.mbCmd c cmd fun s => if s.is mbx FW_CH && s.rd mbx FW_CH != c + 1 then (s, 3, []) else act s

/-- A program or erase that fails its read-back (R448). -/
def State.flashErr (s : State) : State × Nat × List Nat := (s.raise mbx 4, 5, [])

/-- Erase a copy: up to the other copy where that lies above it, else to the end of the flash. -/
def State.eraseCopy (s : State) (c : Nat) : State :=
  let a := s.copyOff c
  let b := s.copyOff (1 - c)
  { s with flash := if a < b then Mem.clear s.flash a (b - a) else s.flash.filter fun e => e.1 < a }

/-- Erase the header sector of a copy, 4 KiB. -/
def State.eraseHeader (s : State) (c : Nat) : State := { s with flash := Mem.clear s.flash (s.copyOff c) 4096 }

/-- FW_BEGIN. (log 108, PRESUMED) -/
def execFwBegin (c : Nat) (ok : Bool) (s : State) : Res :=
  s.fwCmd c 0x20 fun s => s.mbNeed c 1 fun s =>
    let s := s.eraseCopy s.otherCopy
    let s := ((s.wr mbx FW_CH (c + 1)).wr mbx FW_LEN (s.mbWord c 0)).wr mbx FW_TIME s.clock
    let s := s.wr mbx FW_CHECKED 0
    if ok then (s, 0, []) else s.flashErr

/-- Program bytes of the staged copy from an offset, but for bytes 0 to 3 of its header: bits only go from 1 to 0. -/
def State.fwProgram (s : State) (off : Nat) (bs : List Byte) : State :=
  let base := s.copyOff s.otherCopy
  { s with flash := ((bs.zip (List.range bs.length)).filter fun x => 4 ≤ off + x.2).foldl (fun m x =>
      let a := base + off + x.2
      Mem.write 0xFF m a (Mem.read 0xFF m a &&& x.1)) s.flash }

/-- FW_DATA: 1 to 254 words inside the image announced. (log 107, DEDUCED; log 108, PRESUMED) -/
def execFwData (c : Nat) (ok : Bool) (s : State) : Res :=
  s.fwCmd c 0x21 fun s => s.mbNeed c 2 fun s =>
    let off := s.mbWord c 0
    let bs := ((s.mbReq c).drop 1).flatMap fun w => leBytes 4 w
    if !s.is mbx FW_CH then (s, 7, [])
    else if s.rd mbx FW_LEN < off + bs.length then (s, 1, [])
    else
      let s := ((s.fwProgram off bs).wr mbx FW_TIME s.clock).wr mbx FW_CHECKED 0
      if ok then (s, 0, []) else s.flashErr

/-- The staged copy as the boot ROM will read it once MAGIC is programmed. -/
def State.stagedImage (s : State) : Image := fun a n =>
  ((s.flashImage s.otherCopy a n).zip (List.range n)).map fun x =>
    if a + x.2 < 4 then ([0x4B, 0x48, 0x49, 0x4D] : List Byte).getD (a + x.2) 0 else x.1

/-- FW_END. (log 108, PRESUMED) -/
def execFwEnd (c : Nat) (s : State) : Res :=
  s.fwCmd c 0x22 fun s =>
    let g := s.stagedImage
    if !s.is mbx FW_CH then (s, 7, [])
    else if s.checkImage g != 0 then (s.wr mbx FW_CHECKED 0, 6, [])
    else (s.wr mbx FW_CHECKED 1, 0, [imgNum g 8 4, imgNum g 12 2])

/-- Moabeuc makes a MGMT reset 1 ms after its answer. -/
def State.fwReset (s : State) : State := s.wr mbx FW_RESET (s.clock + 1000001)

/-- FW_ACTIVATE: MAGIC is programmed, the trial record written with no attempts. (log 108, PRESUMED) -/
def execFwActivate (c : Nat) (ok : Bool) (s : State) : Res :=
  s.fwCmd c 0x23 fun s =>
    if !s.is mbx FW_CHECKED then (s, 7, [])
    else if !ok then s.flashErr
    else
      let t := s.otherCopy
      let s := { s with flash := Mem.writeList 0xFF s.flash (s.copyOff t) [0x4B, 0x48, 0x49, 0x4D] }
      (((s.trialWrite t 0).wr mbx FW_CH 0).fwReset, 0, [])

/-- FW_COMMIT. -/
def execFwCommit (c : Nat) (s : State) : Res :=
  s.fwCmd c 0x24 fun s => (s.trialClear.wr mbx MB_FW_TRIAL 0, 0, [])

/-- FW_ROLLBACK: refused when the other copy's SVN is below OTP_SVN. -/
def execFwRollback (c : Nat) (ok : Bool) (s : State) : Res :=
  s.fwCmd c 0x25 fun s =>
    if imgNum (s.flashImage s.otherCopy) 12 2 < s.otpSvn then (s, 7, [])
    else if !ok then s.flashErr
    else (((s.eraseHeader (s.rd mbx MB_FW_COPY)).wr mbx FW_CH 0).fwReset, 0, [])

/-- SVN_COMMIT: the thermometer goes up to the running image's SVN; REFUSED while a trial is open. -/
def execSvnCommit (c : Nat) (s : State) : Res :=
  s.fwCmd c 0x26 fun s =>
    if s.is aon AON_TRIAL_OPEN then (s, 7, [])
    else
      let v := 2 ^ min 128 (s.rd sec SEC_BOOT_IMG_SVN) - 1
      let s := (List.range 4).foldl (fun s i => s.otpSet (48 + i) (v / 2 ^ (32 * i) % 2 ^ 32)) s
      (s, 0, [s.otpSvn])

/-- FW_UPDATE_TIMEOUT: 10 s without an FW_DATA. -/
def execFwUpdateTimeout (s : State) : Res :=
  .next (s.when (s.is mbx FW_CH && s.rd mbx FW_TIME + 10000000000 ≤ s.clock) fun s =>
    (s.wr mbx FW_CH 0).wr mbx FW_CHECKED 0)

/-- MB_CNT_CLR (R446). -/
def execMbCntClr (who : Initiator) (s : State) : Res :=
  .next (s.access who mbx MB_CNT_CLR_CLR fun s => s.clearFields mbx [MB_CNT_RESTART, MB_CNT_PROTO])

/-! ### Adapter engines (R19, R438) -/

/-- The port code whose paths an engine serves: PCA, tunnel port, DISP, USB3 and ETH; the retained-command engines serve
none. -/
def engineCode (e : Nat) : Option Nat :=
  if e < 8 then some (8 + e)
  else if e < 14 then some (e - 8)
  else if e < 18 then some (0x10 + (e - 14))
  else if e < 20 then none
  else if e < 22 then some 0x14
  else some (0x15 + (e - 22))

/-- The USB3 paths of one domain are declared down (R156). -/
def State.usbPathsDown (s : State) (d : Nat) : State :=
  let mine := fun k => s.carries k &&
    ((s.rd (path k) PT_W0_IN_PORT = 0x14 && s.rd (path k) PT_W0_IN_PATH_ID = s.rd uhub (UH_TUN_TX_HANDLE.nth d)) ||
      (s.rd (path k) PT_W1_OUT_PORT = 0x14 && s.rd (path k) PT_W1_OUT_PATH_ID = s.rd uhub (UH_TUN_RX_HANDLE.nth d)))
  let ks := s.entries.filter mine
  let lostIn := ks.filter fun k => s.rd (path k) PT_W0_IN_PORT = 0x14
  let lostOut := ks.filter fun k => s.rd (path k) PT_W1_OUT_PORT = 0x14
  ((s.markDown ks 0x14 1).notify lostIn 0 1).notify lostOut 1 1

/-- ENGINE_HALT (R19, R156): the engine's paths are declared down; a third halt within 1 s is for good (R438). -/
def execEngineHalt (e : Nat) (s : State) : Res :=
  .next (s.when (s.rdBit mbx MB_ENG_RUN e) fun s =>
    let s := s.wrBit mbx MB_ENG_RUN e false
    let s := match engineCode e with
      | some c => if c = 0x14 then s.usbPathsDown (e - 20) else s.declareDown c 1
      | none => s
    let h2 := s.rd mbx (ENG_H2.nth e)
    let dead := h2 != 0 && s.clock + 1 ≤ h2 + 1000000000
    let s := (s.wr mbx (ENG_H2.nth e) (s.rd mbx (ENG_H1.nth e))).wr mbx (ENG_H1.nth e) (s.clock + 1)
    s.when dead fun s =>
      (s.wr mbx (ENG_DEAD.nth e) 1).wr (enginePage e) (enginePage e).enableField 0)

/-- ENGINE_RESTART (R438): Moabeuc reloads and restarts a halted engine. -/
def execEngineRestart (e : Nat) (s : State) : Res :=
  .next (s.when (s.moabeuc && !s.rdBit mbx MB_ENG_RUN e && !s.is mbx (ENG_DEAD.nth e)) fun s =>
    ((s.wrBit mbx MB_ENG_RUN e true).count mbx MB_CNT_RESTART).raise mbx 2)

end Sys2Proof.Machine
end

