-- ==== Sys2Proof/Machine/Switch.lean ====
section
/-! DEFINITION. The commands of the switch core and the Almanac (spec/08_switch_core.md, spec/09_almanac.md) whose boundary is no turnover. -/

namespace Sys2Proof.Machine

open Reg

/-- The present time moved on to the next multiple of `n` ns. (log 6, DESIGN CHOICE; log 7, DESIGN CHOICE) -/
def State.nextMultiple (s : State) (n : Nat) : State :=
  let next := (s.time.toNat / n + 1) * n
  { s with time := BitVec.ofNat 64 next, clock := s.clock + (next - s.time.toNat) }

/-- CELL_SLOT (R166): the next 8 ns slot begins; nothing moves while FABRIC is gated. A power-state entry that waits for
an empty buffer goes on (R380). (log 7, DESIGN CHOICE; log 56, DESIGN CHOICE) -/
def execCellSlot (held : Nat) (faults : List CellFault) (s : State) : Host.Outcome State Fault Refusal :=
  let s := s.nextMultiple 8
  .next (s.when (!s.gated sw) fun s => (s.cellSlot held faults).drained)

/-- FRAME_TIMEOUT (R172): a flow whose oldest packed bytes have waited FRAME_TO has an idle input start a timer frame, if
there is room. (log 57, DEDUCED) -/
def execFrameTimeout (inp tgt cls : Nat) (s : State) : Host.Outcome State Fault Refusal :=
  let age := orOne (s.rd sw SW_CFG_FRAME_TO) * 8
  let busy := s.progs.any fun g => g.inp = inp
  match s.flows.find? fun f => f.inp = inp && f.tgt = tgt && f.cls = cls with
  | none => .next s
  | some f =>
    if s.framesStart && !busy && !f.cells.isEmpty && f.since + age ≤ s.time.toNat &&
        s.room tgt cls then
      let fid := s.rd sw SW_FID
      let s := s.startFrame inp f true
      .next ((s.progs.filter fun g => g.fid = fid).foldl State.writePos s)
    else .next s

/-- CONTAINED of the SW page reads 1 while some function of it is halted (R471). -/
def State.swContained (s : State) : State := s.wr sw PG_STATUS_CONTAINED (if s.swHalted then 1 else 0)

/-- SW_OUT_RESTART (R192, R471): the outputs whose bit is 1 resume. (log 57, DEDUCED) -/
def execSwOutRestart (who : Initiator) (mask : Nat) (s : State) : Host.Outcome State Fault Refusal :=
  .next (s.access who sw SW_OUT_RESTART_RESTART fun s =>
    ((List.range 20).foldl (fun s k => s.when (mask.testBit k) fun s => s.wr sw (SW_OUT_OCC_HALTED.nth k) 0) s).swContained)

/-- Where capture `n` lies in the DRAM ring (R188). -/
def State.capAddr (s : State) (n : Nat) : Nat :=
  s.rd sw SW_CAP_DRAM_HI_ADDR_HI * 2 ^ 32 + s.rd sw SW_CAP_DRAM_LO_ADDR_LO * 128 + 128 * (n % s.ringSize)

/-- CAPTURE_DRAIN (R188): the oldest entry of the on-chip ring moves to its place in the DRAM ring. (log 58, DESIGN CHOICE) -/
def execCaptureDrain (s : State) : Host.Outcome State Fault Refusal :=
  match s.capDrain with
  | [] => .next s
  | n :: rest =>
    if !s.dramUp then .next s
    else .next { s.memWrite 6 (s.capAddr n) (s.capture.list n) with capDrain := rest, capture := s.capture.del n }.capReport

/-- SW_CAP_RD (R188): the entry that the window presents. (log 58, DESIGN CHOICE) -/
def execSwCapRd (who : Initiator) (value : Nat) (s : State) : Host.Outcome State Fault Refusal :=
  .next (s.access who sw SW_CAP_RD_RD fun s => s.wr sw SW_CAP_RD_RD value)

/-- SW_CNT_CLR (R194). -/
def execSwCntClr (who : Initiator) (s : State) : Host.Outcome State Fault Refusal :=
  .next (s.access who sw SW_CNT_CLR_CLR fun s =>
    let s := s.clearFields sw [SW_CNT_RESET_DISCARD, SW_CNT_UE, SW_CNT_MC_SKIP, SW_CAP_LOST]
    (List.range 20).foldl (fun s k => s.clearFields sw
      [SW_CNT_CELL.nth k, SW_CNT_PAD.nth k, SW_CNT_WAIT.nth k, SW_CNT_FRM.nth k, SW_CNT_TFRM.nth k]) s)

/-- CALENDAR_SLOT (R200): the next of the epoch's 256 slots of 64 ns begins. (log 7, DESIGN CHOICE) -/
def execCalendarSlot (s : State) : Host.Outcome State Fault Refusal :=
  let s := s.nextMultiple 64
  .next (s.when (!s.gated (alm 0)) fun s => s.calendarSlot (s.time.toNat / 64 % 256))

/-- SHAPER_ELIGIBLE (R206): a shaper on the timing wheel comes to its next eligible time, and packets of its entries may
enter their flows. -/
def execShaperEligible (k : Nat) (s : State) : Host.Outcome State Fault Refusal :=
  let due := (s.time.toNat + 2 ^ 32 - s.rd (shaper k) SH_W3_NEXT_ELIG) % 2 ^ 32 < 2 ^ 31
  .next (s.when (s.is (shaper k) SH_WAIT && due) fun s => (s.setTokens k (s.shTokens k)).promote)

/-- ALM_CNT_CLR (R209). -/
def execAlmCntClr (who : Initiator) (e : Nat) (s : State) : Host.Outcome State Fault Refusal :=
  .next (s.access who (alm e) ALM_CNT_CLR_CLR fun s =>
    s.clearFields (alm e) [ALM_CNT_TURN, ALM_CNT_PROTECT, ALM_CNT_SHORT, ALM_CNT_NOROW])

end Sys2Proof.Machine
end

