-- ==== Sys2Proof/Machine/Common.lean ====
section
/-! DEFINITION. The commands of the common page header (spec/03_register_model.md): block soft reset, enable, interrupts, errors, arm and cancel, locks, and accesses to gated islands (R14). -/

namespace Sys2Proof.Machine

open Reg

/-- Act on a page that carries the common header; anything else changes nothing. -/
def State.onPage (s : State) (p : Page) (f : State → State) : Res :=
  .next (s.when (p.kind.hasHeader && decide (p.inst < p.kind.count)) f)

/-! ### Gated islands -/

/-- GATED_ACCESS (R14): a read of a gated island returns 0 and a write is dropped; the access is recorded. -/
def execGatedAccess (who : Initiator) (addr : Nat) (write : Bool) (s : State) : Res :=
  match pageAt addr with
  | some p => .next (s.when (s.gated p) fun s =>
      ((s.gatedAccess addr write).when (!write) fun s => s.send (.readData who 0)).hostWake s.ps who)
  | none => .next s

/-! ### Block soft reset -/

/-- The adapter engines that work for a page. (log 21, DEDUCED) -/
def enginesOf (p : Page) : List Nat := (List.range 24).filter fun e => enginePage e = p

/-- A block whose engines are reset: their paths are declared down (R19). -/
def State.blockDown (s : State) (p : Page) : State :=
  (enginesOf p).foldl (fun s e => match engineCode e with
    | some c => if c = 0x14 then s.usbPathsDown (e - 20) else s.declareDown c 1
    | none => s) s

/-- PG_CTRL.SRST (R41, R375, R470). -/
def State.srst (s : State) (p : Page) : State :=
  if p = safe then s.safetyReset 6 else (s.softReset p).blockDown p

/-- BLOCK_SOFT_RESET (R470). -/
def execBlockSoftReset (who : Initiator) (p : Page) (s : State) : Res :=
  s.onPage p fun s => s.access who p PG_CTRL_SRST fun s => s.srst p

/-- Every halt that a Contain of the SW page has set is lifted (R470, R471). -/
def State.swLift (s : State) : State :=
  let s := (List.range 20).foldl (fun s k => s.wr sw (SW_OUT_OCC_HALTED.nth k) 0) s
  ((List.range 512).foldl (fun s g => s.wr sw (SW_MC_HALTED.nth g) 0) s).wr sw SW_CAP_HALTED 0

/-- A PCA whose paths are still down is contained again, as a new raise of its source (R239, R470). -/
def State.pcaAgain (s : State) (n : Nat) : State :=
  s.when (2 ≤ s.pcaMode n && !s.pcaPathUp n) fun s =>
    let s := s.raise (pca n) 1
    s.when (2 ≤ s.rd (pca n) (PG_EFF_SEV.nth 1) && !s.is (pca n) PG_STATUS_IN_RESET) fun s => s.wr (pca n) PG_STATUS_CONTAINED 1

/-- The functions of a block restart under the page's settings (R470). -/
def State.restartBlock (s : State) (p : Page) : State :=
  match p.kind with
  | .sw => s.swLift
  | .pca => s.pcaAgain p.inst
  | .disp => (s.abortCmds p.inst).modeState p.inst (s.dmode p.inst)
  | .dout => s.when (s.is p DOUT_HPD_PIN) fun s =>
      let s := s.wr p DOUT_LINK_STS_HPD 1
      if s.moabeuc then s.startTrain p.inst else s.wr p DOUT_TRAIN_DUE 1
  | .uhub => (s.hubOffer 0).hubOffer 1
  | .pd => s.when s.moabeuc fun s => s.pdRestart p.inst
  | _ => s

/-- SOFT_RESET_COMPLETE (R470): containment is lifted, and what still holds contains again. The safety island's own
reset completes by SAFETY_RESET_COMPLETE. -/
def execSoftResetComplete (p : Page) (s : State) : Res :=
  s.onPage p fun s => s.when (p != safe && s.is p PG_STATUS_IN_RESET) fun s =>
    let s := ((s.blockDown p).wr p PG_STATUS_IN_RESET 0).wr p PG_CTRL_SRST 0
    (s.wr p PG_STATUS_CONTAINED 0).restartBlock p

/-! ### Enable -/

/-- A write of 1 to ENABLE restarts what a Contain fault has halted (R469): in the switch the groups and the capture, on
the UHUB, PD and BIST pages the whole. -/
def State.enableOn (s : State) (p : Page) : State :=
  match p.kind with
  | .sw => (((List.range 512).foldl (fun s g => s.wr sw (SW_MC_HALTED.nth g) 0) s).wr sw SW_CAP_HALTED 0).swContained
  | .uhub =>
    let s := s.wr p PG_STATUS_CONTAINED 0
    let offered := fun d => s.is uhub (upHs d) || s.is uhub (upSs d)
    let s := s.when (!offered 0) fun s => s.hubOffer 0
    s.when (!offered 1) fun s => s.hubOffer 1
  | .pd | .bist => s.wr p PG_STATUS_CONTAINED 0
  | _ => s

/-- ENABLE (R469). -/
def execEnable (who : Initiator) (p : Page) (on : Bool) (s : State) : Res :=
  s.onPage p fun s => s.access who p p.enableField fun s =>
    if on then (s.wr p p.enableField 1).enableOn p else s.wr p p.enableField 0

/-! ### Level -/

/-- PG_CTRL.EXPERT changes (R45): to expert at once; a return to basic sets DERIVING until Moabeuc has derived. -/
def State.setLevel (s : State) (p : Page) (expert : Bool) : State :=
  if p.kind.info.basic = 0 || p.kind.info.expert = 0 || s.is p PG_CTRL_EXPERT = expert then s
  else if expert then ((s.wr p PG_CTRL_EXPERT 1).wr p PG_STATUS_DERIVING 0).setInt p intLevelDone
  else (s.wr p PG_CTRL_EXPERT 0).wr p PG_STATUS_DERIVING 1

/-- LEVEL_CHANGE (R45). (log 17, DEDUCED) -/
def execLevelChange (who : Initiator) (p : Page) (expert : Bool) (s : State) : Res :=
  s.onPage p fun s => s.access who p PG_CTRL_EXPERT fun s => s.setLevel p expert

/-! ### Interrupts -/

/-- INT_FORCE (R41): bits 5 to 7 are reserved. (log 19, DESIGN CHOICE) -/
def execIntForce (who : Initiator) (p : Page) (mask : Nat) (s : State) : Res :=
  s.onPage p fun s => s.access who p (PG_INT_FORCE_FORCE.nth 0) fun s =>
    ((List.range 32).filter fun i => mask.testBit i && !(5 ≤ i && i ≤ 7)).foldl (fun s i => s.setInt p i) s

/-- INT_ENABLE_WRITE (R55): the bits that become enabled over a status bit request the interrupt. (log 19, DESIGN CHOICE) -/
def execIntEnableWrite (who : Initiator) (p : Page) (mask : Nat) (s : State) : Res :=
  s.onPage p fun s => s.access who p (PG_INT_ENABLE_EN.nth 0) fun s =>
    let new := (List.range 32).any fun i => mask.testBit i && !s.is p (PG_INT_ENABLE_EN.nth i) && s.is p (PG_INT i)
    ((List.range 32).foldl (fun s i => s.wr p (PG_INT_ENABLE_EN.nth i) (if mask.testBit i then 1 else 0)) s).when new
      fun s => s.request p

/-- INT_ACK (R42, R55): the causes written 1 clear, and with the last enabled one the page's line falls. -/
def execIntAck (who : Initiator) (p : Page) (mask : Nat) (s : State) : Res :=
  s.onPage p fun s => s.access who p (PG_INT 0) fun s =>
    ((List.range 32).filter fun i => mask.testBit i).foldl (fun s i => s.wr p (PG_INT i) 0) s

/-! ### Errors -/

/-- Sources are acknowledged (R52); that of gated accesses starts their count again (R16). -/
def State.ackMask (s : State) (p : Page) (mask : Nat) : State :=
  let s := ((List.range p.kind.info.nsrc).filter fun n => mask.testBit n).foldl (fun s n => s.ackErr p n) s
  s.when (p = glb && mask.testBit 0) fun s => s.wr glb GLB_GATED_CNT 0

/-- ERR_ACK (R52). -/
def execErrAck (who : Initiator) (p : Page) (mask : Nat) (s : State) : Res :=
  s.onPage p fun s => s.access who p (PG_ERR_STATUS_SRC.nth 0) fun s => s.ackMask p mask

/-- GRACE_EXPIRY (R53): every unacknowledged Notify or Contain source escalates one level, and the timer restarts. (log 8, DESIGN CHOICE) -/
def execGraceExpiry (p : Page) (s : State) : Res :=
  s.onPage p fun s =>
    let left := s.rd p PG_ERR_GRACE_REMAIN
    s.when (left != 0 && s.rd p PG_GRACE_TIME + left * 1000 ≤ s.clock) fun s =>
      let due := (List.range p.kind.info.nsrc).filter fun n =>
        s.is p (PG_ERR_STATUS_SRC.nth n) && (s.rd p (PG_EFF_SEV.nth n) = 1 || s.rd p (PG_EFF_SEV.nth n) = 2)
      let was := s.is p PG_STATUS_IN_RESET
      let s := (due.foldl (fun s n => s.escalate p n) (s.wr p PG_ERR_GRACE_REMAIN 0)).graceUpdate p
      s.when (!was && s.is p PG_STATUS_IN_RESET) fun s => s.blockDown p

/-! ### Arm and cancel -/

/-- A PD page is armed (R352): without an explicit contract it applies at once, else a negotiation is queued. -/
def State.armPd (s : State) (n : Nat) : State :=
  let q := pd n
  if s.is q PD_STATUS_CONTRACT then (s.wr q PG_SHADOW_CTRL_ARMED 1).wrBit q PD_Q 2 true
  else (s.applyFields q (shFields q)).appliedPage q

/-- LK_PAIR is armed (R104, R106): with the lanes not in ACTIVE the arm is undone, and a link at low power wakes. -/
def State.armPair (s : State) (port : Nat) : State :=
  if s.rd (link port) LK_STATUS_STATE = 0 then s
  else (s.wr (link port) LK_PAIR_SCTRL_ARMED 1).wakeLink port

/-- ARM = 1 is accepted (R47, R48). (log 16, DEDUCED) -/
def State.doArm (s : State) (p : Page) (pair : Bool) (target : Nat) : State :=
  if pair then s.when (p.kind = .link) fun s => s.armPair p.inst
  else match p.kind.info.bound with
    | 0 => s
    | 1 => (s.armTurn p target).1
    | 5 => s.armPd p.inst
    | _ =>
      let s := s.wr p PG_SHADOW_CTRL_ARMED 1
      if p.kind = .disp then
        let s := s.dispCheck p.inst
        s.when (s.is p PG_SHADOW_CTRL_ARMED && s.dst p.inst = 0) fun s => s.applyDisp p.inst
      else s

/-- A write of PG_SHADOW_CTRL, or of LK_PAIR_SCTRL, with ARM = 1 and a TARGET (R48, R50). A refused write is dropped
once, for the highest cause. -/
def State.armWrite (s : State) (who : Initiator) (p : Page) (pair : Bool) (target : Nat) : State :=
  let tf := if pair then LK_PAIR_SCTRL_TARGET else PG_SHADOW_CTRL_TARGET
  let af := if pair then LK_PAIR_SCTRL_ARM else PG_SHADOW_CTRL_ARM
  let addr := p.base + af.bit / 32 * 4
  let t := if s.rd p tf = target % 65536 then 0 else s.refusal p who tf
  let a := s.refusal p who af
  if s.gated p then s.gatedAccess addr true
  else if pair && s.is p PG_STATUS_IN_RESET then s
  else
    let s := s.when (t = 0) fun s => s.wr p tf target
    let s := s.when (a = 0) fun s => s.doArm p pair (s.rd p tf)
    s.when (max t a != 0) fun s => s.drop p who (max t a) addr

/-- ARM (R48). -/
def execArm (who : Initiator) (p : Page) (pair : Bool) (target : Nat) (s : State) : Res :=
  s.onPage p fun s => s.when (!pair || p.kind = .link) fun s => (s.armWrite who p pair target).hostWake s.ps who

/-- An armed page is disarmed before its boundary (R50). -/
def State.doCancel (s : State) (p : Page) (pair : Bool) : State :=
  if pair then s.wr p LK_PAIR_SCTRL_ARMED 0
  else if !s.is p PG_SHADOW_CTRL_ARMED then s
  else
    let s := (s.cancelArm p).when (p.kind = .link) fun s => s.wr p LK_STATUS_TURN_OK 0
    s.when (p.kind = .pd) fun s => (s.wr p PD_ARMNEG 0).wrBit p PD_Q 2 false

/-- CANCEL (R50). (log 25, DEDUCED) -/
def execCancel (who : Initiator) (p : Page) (pair : Bool) (s : State) : Res :=
  s.onPage p fun s => s.when (!pair || p.kind = .link) fun s =>
    s.access who p (if pair then LK_PAIR_SCTRL_CANCEL else PG_SHADOW_CTRL_CANCEL) fun s => s.doCancel p pair

/-! ### Locks -/

/-- EXT_LOCK (R46). -/
def execExtLock (who : Initiator) (p : Page) (s : State) : Res :=
  s.onPage p fun s => s.access who p PG_LOCK_EXT_LOCK fun s => s.wr p PG_LOCK_EXT_LOCK 1

/-- ALL_LOCK (R46). -/
def execAllLock (who : Initiator) (p : Page) (s : State) : Res :=
  s.onPage p fun s => s.access who p PG_LOCK_ALL_LOCK fun s => s.wr p PG_LOCK_ALL_LOCK 1

end Sys2Proof.Machine
end

