-- ==== Sys2Proof/Machine/Power.lean ====
section
/-! DEFINITION. The commands of the power states, wakes and wide resets (spec/17_power_states_and_reset.md), the straps (R1, R29), the reference clock (R17) and the board's inputs (R390). -/

namespace Sys2Proof.Machine

open Reg

/-! ### Resets -/

/-- POWER_ON_RESET (R392, R396): only OTP, PUF helper data and the flash survive. With RESET_N low the straps are sampled
at its rising edge instead (R29). -/
def execPowerOnReset (role : Nat) (boot dbat : Bool) (inRange : Nat) (vconnIn low : Bool) (s : State) : Res :=
  let s := { s.dropData with
    regs := [], act := [], safeq := [], closers := [], stickyImg := [], aonRam := [] }
  let s := (s.wr aon AON_SUPPLY_STS_IN_RANGE inRange).wr aon AON_VCONN_IN (if vconnIn then 1 else 0)
  let s := ((s.wr aon AON_DRAM_LOST 1).wr aon AON_WDT_TIME s.clock).wr glb GLB_RESET_N_LOW (if low then 1 else 0)
  let s := (s.wr aon AON_LBIST_DUE 1).loadLocks.powerIslands
  .next (if low then s else s.sampleStraps role boot dbat)

/-- PIN_RESET (R394, R395): RESET_N has been low for 10 µs. -/
def execPinReset (s : State) : Res :=
  .next (((s.count glb GLB_RST_CNT_PIN).pinReset 1).wr glb GLB_RESET_N_LOW 1)

/-- RESET_N_RELEASE (R1): the straps are sampled. (log 96, DEDUCED) -/
def execResetNRelease (role : Nat) (boot dbat : Bool) (s : State) : Res :=
  .next (s.when (s.is glb GLB_RESET_N_LOW) fun s => (s.wr glb GLB_RESET_N_LOW 0).sampleStraps role boot dbat)

/-- SUPPLY_LOSS (R393). -/
def execSupplyLoss (supply : Nat) (s : State) : Res := .next (s.supplyLoss supply)

/-- CHIP_SOFTWARE_RESET (R394): without KEY = 0xA5 the write is ignored. -/
def execChipSoftwareReset (who : Initiator) (key : Nat) (s : State) : Res :=
  .next (s.access who glb GLB_SRST_CHIP fun s => s.when (key = 0xA5) fun s => s.chipReset who)

/-- MGMT_RESET (R394). -/
def execMgmtReset (who : Initiator) (key : Nat) (s : State) : Res :=
  .next (s.access who glb GLB_SRST_MGMT fun s => s.when (key = 0xA5) fun s => s.mgmtReset 4 (initCode who))

/-- AON_WDT_EXPIRY (R394, R400): the watchdog of the running Marionette cores has not been restarted for TIMEOUT. (log 96, DEDUCED) -/
def execAonWdtExpiry (s : State) : Res :=
  let due := s.rd aon AON_WDT_TIME + orOne (s.rd aon AON_WDT_TIMEOUT) * 1000000 ≤ s.clock
  .next (s.when (s.is aon AON_WDT_EN && !s.gated mbx && due) fun s => (s.raise aon 6).mgmtReset 5 0)

/-- WATCHDOG_KICK (R399). -/
def execWatchdogKick (who : Initiator) (key : Nat) (s : State) : Res :=
  .next (s.access who aon AON_WDT_KICK_KEY fun s => s.when (key = 0x5A5A) fun s => s.wr aon AON_WDT_TIME s.clock)

/-! ### Reference clock -/

/-- REFCLK_LOSS (R17): every LINK island that runs from the reference goes into link reset and is held there. (log 93, DEDUCED) -/
def execRefclkLoss (islands : Nat) (s : State) : Res :=
  let s := (s.raise glb 2).wr glb GLB_REFCLK_LOST islands
  let s := (List.range 6).foldl (fun s n => s.when (islands.testBit n && !s.gated (lane n)) fun s => s.restartLanes n) s
  .next (s.when (islands.testBit 6) fun s => (List.range 4).foldl (fun s l =>
    s.when (s.is pcie (PE_LINK_STS_DL_ACTIVE.nth l)) fun s =>
      ((s.wr pcie (PE_LINK_STS_DL_ACTIVE.nth l) 0).wr pcie (PE_LINK_STS_LTSSM.nth l) 0).raise pcie 0) s)

/-- REFCLK_RESTORE (R17): they may train again. -/
def execRefclkRestore (s : State) : Res := .next (s.wr glb GLB_REFCLK_LOST 0)

/-! ### Link-idle -/

/-- D1_ENTRY (R379). -/
def execD1Entry (usb4 pcie : Nat) (s : State) : Res :=
  let s := s.showLtssm pcie
  .next (s.when (s.ps = 0 && s.allLow usb4) fun s => (s.setPs 1).count aon AON_CNT_D1)

/-- D1_EXIT (R379). -/
def execD1Exit (usb4 pcie : Nat) (s : State) : Res :=
  let s := s.showLtssm pcie
  .next (s.when (s.ps = 1 && !s.allLow usb4) fun s => s.setPs 0)

/-! ### Entries -/

/-- A write of AON_PS_CTRL with GO = 1 (R399): TARGET is stored, and GO reads 0. -/
def State.psWrite (s : State) (who : Initiator) (target : Nat) : State :=
  s.access who aon AON_PS_CTRL_GO fun s => (s.wr aon AON_PS_CTRL_TARGET target).psGo target

/-- ENTER_D2 (R380). -/
def execEnterD2 (who : Initiator) (s : State) : Res := .next (s.psWrite who 2)

/-- ENTER_YOYO (R381). -/
def execEnterYoyo (who : Initiator) (s : State) : Res := .next (s.psWrite who 3)

/-- ENTER_OFF (R384). -/
def execEnterOff (who : Initiator) (s : State) : Res := .next (s.psWrite who 4)

/-- DRAIN_TIMEOUT (R380, R384). -/
def execDrainTimeout (s : State) : Res := .next s.drainTimeout

/-- FORCED_OFF (R384). -/
def execForcedOff (s : State) : Res := .next s.forcedOff

/-! ### Wakes -/

/-- YOYO_SAMPLE (R382, R383). (log 116, DESIGN CHOICE) -/
def execYoyoSample (cc vbus : List Nat) (temp gpio : Nat) (s : State) : Res := .next (s.yySample cc vbus temp gpio)

/-- PWR_BTN_WAKE (R386). -/
def execPwrBtnWake (s : State) : Res := .next (s.wake 1 0 0)

/-- DBAT_WAKE (R386): DBAT_VIN has risen above 4.0 V. -/
def execDbatWake (mv : Nat) (s : State) : Res :=
  .next (s.when (4000 < mv) fun s => (s.wrBit aon AON_SUPPLY_STS_IN_RANGE 10 true).wake 2 0 mv)

/-- GPIO_EDGE_WAKE (R383): an edge on a wake GPIO in mode 2. -/
def execGpioEdgeWake (g : Nat) (level : Bool) (s : State) : Res :=
  .next (s.when (s.gpioMode g = 2) fun s => s.wake 6 g (if level then 1 else 0))

/-- ALARM_EXPIRY (R386, R399): the alarm has counted down to 0. -/
def execAlarmExpiry (s : State) : Res :=
  let ms := s.rd aon AON_ALARM_MS
  .next (s.when (ms != 0 && s.rd aon AON_ALARM_TIME + ms * 1000000 ≤ s.clock) fun s => (s.wr aon AON_ALARM_MS 0).wake 7 0 0)

/-- PCIE_WAKE (R386): PE_WAKE_N is low in a root role, or a PE_CLKREQn_N is asserted. -/
def execPcieWake (l : Nat) (clkreq : Bool) (s : State) : Res :=
  if clkreq then .next ((s.wr pcie (PE_LINK_STS_CLKREQ_N.nth l) 0).wake 10 l 0)
  else .next (s.when (!s.endpointRole) fun s => s.wake 10 l 0)

/-- PE_PERST_N_DEASSERT (R244, R386): in role 0b01 the host ends its warm reset, and the port may train. -/
def execPePerstNDeassert (s : State) : Res :=
  .next (s.when (s.endpointRole && !s.is pcie PE_PERST_N) fun s => ((s.wr pcie PE_PERST_N 1).linkRst 0 false).wake 10 0 0)

/-! ### Exits -/

/-- GROUP_IN_RANGE (R387). -/
def execGroupInRange (s : State) : Res := .next s.groupInRange

/-- EXIT_TIMEOUT (R387). -/
def execExitTimeout (s : State) : Res := .next s.exitTimeout

/-- EXIT_RETRY (R387): 100 ms after the timeout the group's enable is tried once more. -/
def execExitRetry (s : State) : Res :=
  .next (s.when (s.ps = 6 && s.is aon AON_EXIT_WAIT && s.rd aon AON_EXIT_TIME + 100000000 ≤ s.clock) fun s =>
    ((s.wr aon AON_EXIT_WAIT 0).wr aon AON_EXIT_TRIED 1).wr aon AON_EXIT_TIME s.clock)

/-- PAD_RELEASE (R389): every held pad follows its island again. -/
def execPadRelease (who : Initiator) (s : State) : Res :=
  .next (s.access who aon AON_PAD_RELEASE fun s => (s.wr aon AON_PAD_HELD 0).wr aon AON_FANS_LOW 0)

/-! ### AON registers -/

/-- RETENTION_RAM_ACCESS (R397, R399): directly for Marionette and the Ngunov island, or at AON_RAM_ADDR, which advances
by one word. (log 95, DEDUCED) -/
def execRetentionRamAccess (who : Initiator) (addr : Option (Fin 16384)) (write : Option (Fin 4294967296)) (be : Nat) (ue : Bool)
    (s : State) : Res :=
  let w := write.map fun v => v.val
  match addr with
  | some a => .next (s.when (who = .marionette || who = .ngunov) fun s => s.rram who (4 * a.val) w be ue)
  | none =>
    let go := fun (s : State) =>
      let a := s.rd aon AON_RAM_ADDR_ADDR
      (s.rram who (4 * a) w be ue).wr aon AON_RAM_ADDR_ADDR
        (if write.isSome && !rramWriter (4 * a) who then a else a + 1)
    .next (if write.isSome then s.access who aon AON_RAM_DATA_DATA go else go s)

/-- AON_CNT_CLR (R399). -/
def execAonCntClr (who : Initiator) (s : State) : Res :=
  .next (s.access who aon AON_CNT_CLR_CLR fun s => s.clearFields aon [AON_CNT_D1, AON_CNT_D2, AON_CNT_YOYO, AON_CNT_SAMPLE])

/-- BOARD_INPUT_CHANGE (R390, R391): the board input shows in AON_SUPPLY_STS where it is wired, and supplies that have come
into range let the islands that wait for them be powered. (log 83, DEDUCED; log 93, DEDUCED) -/
def execBoardInputChange (present : Bool) (inRange : Nat) (s : State) : Res :=
  let s := s.when (s.is aon AON_SUPPLY_BRD_USE) fun s => s.wr aon AON_SUPPLY_STS_BRD (if present then 1 else 0)
  let s := (s.wr aon AON_SUPPLY_STS_IN_RANGE inRange).when present fun s => s.wr glb GLB_SUPPLY_OK 1
  .next (s.when (s.ps = 0 && s.rd glb GLB_ISL_PWR_PWR ≤ 3 && s.railsUp) fun s => s.powerIslands)

end Sys2Proof.Machine
end

