-- ==== Sys2Proof/Machine/Bist.lean ====
section
/-! DEFINITION. The field SRAM slice test and the logic BIST (R427 to R436 of spec/19_faults_and_selftest.md). -/

namespace Sys2Proof.Machine

open Reg

/-! ### Slices -/

/-- Has a group used its spare (R430)? -/
def State.spareUsed (s : State) (g : Nat) : Bool := (s.rd bist (BIST_SPARE_USED.nth (g / 32))).testBit (g % 32)

/-- Is a slice skipped (R428)? -/
def State.sliceSkips (s : State) (n : Nat) : Bool :=
  !s.islandUp (groupIsland (sliceGroup n)) || s.spareUsed (sliceGroup n)

/-- A slice test starts. (log 110, DEDUCED) -/
def State.sliceStart (s : State) (n : Nat) (run : Bool) : State :=
  let s := (s.wr bist BIST_SLICE_STS_RUNNING 1).wr bist BIST_SLICE_STS_PHASE 1
  let s := (s.wr bist BIST_SLICE_STS_SLICE n).wr bist BIST_START s.clock
  (s.wr bist BIST_IS_RUN (if run then 1 else 0)).wr bist BIST_TURNS 0

/-- A sweep begins. -/
def State.sweepOpen (s : State) : State :=
  let s := s.clearFields bist [BIST_POS, BIST_TESTED, BIST_SKIPPED, BIST_MAX_SLICE, BIST_MAX_NS]
  (s.wr bist BIST_OPEN 1).wr bist BIST_T0 s.clock

/-- A sweep is complete, and the next one begins: the registers show its figures, its duration rounded to whole µs. (log 110, DEDUCED) -/
def State.sweepDone (s : State) : State :=
  let s := s.count bist BIST_SWEEP_CNT
  let s := s.wr bist BIST_SWEEP_TIME_US ((s.clock - s.rd bist BIST_T0 + 500) / 1000)
  let s := (s.wr bist BIST_SWEEP_COV_TESTED (s.rd bist BIST_TESTED)).wr bist BIST_SWEEP_COV_SKIPPED (s.rd bist BIST_SKIPPED)
  let s := (s.wr bist BIST_SLICE_MAX_SLICE (s.rd bist BIST_MAX_SLICE)).wr bist BIST_SLICE_MAX_NS (s.rd bist BIST_MAX_NS)
  s.sweepOpen

/-- Skip slices until one can be tested (R428). -/
def State.sweepNext : Nat → State → State
  | 0, s => s
  | fuel + 1, s =>
    let n := s.rd bist BIST_POS
    if 5120 ≤ n then State.sweepNext fuel s.sweepDone
    else if s.sliceSkips n then
      State.sweepNext fuel (((s.count bist BIST_CNT_SKIP).wr bist BIST_SKIPPED (s.rd bist BIST_SKIPPED + 1)).wr bist BIST_POS (n + 1))
    else (s.wr bist BIST_POS (n + 1)).sliceStart n false

/-- The engine at a turnover (R428): a slice that BIST_RUN names goes first; the sweep takes its next slice at every
EVERY-th turnover, and a deferred one at the next. (log 110, DEDUCED) -/
def State.bistTurn (s : State) : State :=
  let may := s.works bist && !s.is bist PG_STATUS_CONTAINED && s.is bist BIST_CFG_SLICE_EN && s.ps ≤ 1
  if !may || s.is bist BIST_SLICE_STS_RUNNING then s
  else
    let n := s.rd bist BIST_RUN_SLICE
    let turns := s.rd bist BIST_TURNS + 1
    let s := s.wr bist BIST_TURNS (min turns 255)
    if s.is bist BIST_SLICE_STS_RUN_BUSY then
      if s.sliceSkips n then (s.count bist BIST_CNT_SKIP).wr bist BIST_SLICE_STS_RUN_BUSY 0 else s.sliceStart n true
    else if s.is bist BIST_RETRY || orOne (s.rd bist BIST_CFG_EVERY) ≤ turns then
      let s := s.wr bist BIST_RETRY 0
      State.sweepNext 5122 (s.when (!s.is bist BIST_OPEN) State.sweepOpen)
    else s

/-- What waited for the slice under test goes on: a reset of the BIST page (R431), an entry of the sequencer (R428). -/
def State.sliceRest (s : State) : State :=
  let s := s.when (s.is bist BIST_RESET_DUE) fun s => (s.wr bist BIST_RESET_DUE 0).softReset bist
  s.when (s.rd aon AON_ENT_STEP = 4) State.entryGo

/-- A slice has been tested in `ns` (R429, R430). -/
def State.sliceDone (s : State) : State :=
  let n := s.rd bist BIST_SLICE_STS_SLICE
  let ns := min 65535 (s.clock - s.rd bist BIST_START)
  let s := s.when (!s.is bist BIST_IS_RUN) fun s => s.wr bist BIST_TESTED (s.rd bist BIST_TESTED + 1)
  let s := s.when (s.rd bist BIST_MAX_NS < ns) fun s => (s.wr bist BIST_MAX_NS ns).wr bist BIST_MAX_SLICE n
  let s := s.when (18000 < ns) fun s =>
    ((s.wr bist BIST_SLICE_MAX_SLICE n).wr bist BIST_SLICE_MAX_NS ns).raise bist 1
  s.sliceIdle.sliceRest

/-- Is the slice test in a phase? -/
def State.inPhase (s : State) (p : Nat) : Bool := s.is bist BIST_SLICE_STS_RUNNING && s.rd bist BIST_SLICE_STS_PHASE = p

/-- SLICE_COPY_DONE (R429). -/
def execSliceCopyDone (s : State) : Res := .next (s.when (s.inPhase 1) fun s => s.wr bist BIST_SLICE_STS_PHASE 2)

/-- SLICE_COPY_TIMEOUT (R429): the slice is deferred and tried again at the next turnover. -/
def execSliceCopyTimeout (s : State) : Res :=
  .next (s.when (s.inPhase 1 && s.rd bist BIST_START + 5000 ≤ s.clock) fun s =>
    let s := s.count bist BIST_CNT_DEFER
    let run := s.is bist BIST_IS_RUN
    let s := s.when (!run) fun s => (s.wr bist BIST_POS (s.rd bist BIST_SLICE_STS_SLICE)).wr bist BIST_RETRY 1
    ((s.wr bist BIST_IS_RUN 0).sliceIdle).sliceRest)

/-- SLICE_MARCH_DONE (R430): a faulty slice stays on its spare. -/
def execSliceMarchDone (fail : Bool) (s : State) : Res :=
  .next (s.when (s.inPhase 2) fun s =>
    if !fail then s.wr bist BIST_SLICE_STS_PHASE 3
    else
      let n := s.rd bist BIST_SLICE_STS_SLICE
      let g := sliceGroup n
      let s := ((s.wr bist BIST_FAIL_VALID 1).wr bist BIST_FAIL_REPAIRED 1).wr bist BIST_FAIL_GROUP g
      let s := (s.wr bist BIST_FAIL_SLICE n).wrBit bist (BIST_SPARE_USED.nth (g / 32)) (g % 32) true
      ((s.count bist BIST_CNT_FAIL).raise bist 0).sliceDone)

/-- SLICE_RESTORE_DONE (R429). -/
def execSliceRestoreDone (s : State) : Res := .next (s.when (s.inPhase 3) State.sliceDone)

/-- BIST_RUN_GO (R428): a slice above 5,119 and a GO while RUN_BUSY = 1 are ignored. -/
def execBistRunGo (who : Initiator) (slice : Nat) (s : State) : Res :=
  .next (s.access who bist BIST_RUN_GO fun s =>
    if s.is bist BIST_SLICE_STS_RUN_BUSY then s
    else
      let s := s.wr bist BIST_RUN_SLICE slice
      s.when (slice < 5120) fun s => s.wr bist BIST_SLICE_STS_RUN_BUSY 1)

/-- LOGIC_BIST_DONE (R432, R433): the islands that failed in the first run, and in the second where there was one. -/
def execLogicBistDone (fail1 fail2 : Nat) (s : State) : Res :=
  .next (s.when (s.is glb GLB_LBIST_RUNNING) fun s =>
    let first := Nat.land fail1 0x1FFFC
    let both := Nat.land first fail2
    let again := first != 0
    let s := (s.wr glb GLB_LBIST_RUNNING 0).wr glb GLB_ISL_RST_IN_RESET
      (s.rd glb GLB_ISL_RST_IN_RESET ||| 0x1FFFC)
    let s := (s.wr bist BIST_LB_STS_RAN 1).wr bist BIST_LB_STS_PASS (if both = 0 then 1 else 0)
    let s := (s.wr bist BIST_LB_STS_RETRIED (if again then 1 else 0)).wr bist BIST_LB_STS_FAIL both
    let s := (s.wr bist BIST_LB_RES_COV 880).wr bist BIST_LB_RES_US (if again then 24000 else 12000)
    s.when (both != 0) fun s => s.raise bist 3)

/-- BIST_CNT_CLR (R434). -/
def execBistCntClr (who : Initiator) (s : State) : Res :=
  .next (s.access who bist BIST_CNT_CLR_CLR fun s =>
    s.clearFields bist [BIST_CNT_FAIL, BIST_CNT_DEFER, BIST_CNT_ABORT, BIST_CNT_SKIP])

end Sys2Proof.Machine
end

