-- ==== Sys2Proof/Machine/Tick.lean ====
section
/-! DEFINITION. What the block does while no command waits: hub time advances. -/

namespace Sys2Proof.Machine

open Reg

/-- The MGMT reset that Moabeuc makes 1 ms after it has answered FW_ACTIVATE or FW_ROLLBACK (R445), once it is due. (log 2, DESIGN CHOICE) -/
def State.fwResetDue (s : State) : State :=
  s.when (s.is mbx FW_RESET && s.rd mbx FW_RESET ≤ s.clock + 1) fun s => s.mgmtReset 4 2

/-- One tick of an idle block: hub time advances by 1 ns (R15). DESIGN CHOICE: the table has no row for a tick, so an
empty queue is one. (log 2, DESIGN CHOICE; log 6, DESIGN CHOICE) -/
def State.tick (s : State) : State := { s with time := s.time + 1, clock := s.clock + 1 }.fwResetDue

end Sys2Proof.Machine
end

