-- ==== Sys2Proof/Machine/Usb4.lean ====
section
/-! DEFINITION. USB4 router mode (spec/06_usb4_router_mode.md): hop entries and their admission (R121 to R124, R127), and the standard's links going up and down (R125, R156, R468). -/

namespace Sys2Proof.Machine

open Reg

/-! ### DisplayPort payload -/

/-- Units of 31.25 Mbit/s, rounded up, that a DisplayPort main link carries (R127): `rate` as in DOUT_LINK_STS.RATE. -/
def dpUnits (rate lanes : Nat) : Nat :=
  let up := fun a b => (a + b - 1) / b
  match rate with
  | 0 => up (lanes * 4320000) 31250
  | 1 => up (lanes * 6480000) 31250
  | 2 => up (lanes * 10000000 * 128) (132 * 31250)
  | 3 => up (lanes * 13500000 * 128) (132 * 31250)
  | _ => up (lanes * 20000000 * 128) (132 * 31250)

/-- The reservation of a path that ends at DP OUT adapter `n` (R127): the granted figure if there is one, else the
payload rate of the trained link. -/
def State.dpReserve (s : State) (n : Nat) : Nat :=
  if s.is (dout n) DOUT_GRANT_V then s.rd (dout n) DOUT_GRANT
  else if s.is (dout n) DOUT_LINK_STS_TRAINED then
    dpUnits (s.rd (dout n) DOUT_LINK_STS_RATE) (s.rd (dout n) DOUT_LINK_STS_LANES)
  else 0

/-! ### Hop entries -/

/-- The port code of an adapter (R118). -/
def adapterCode (a : Nat) : Nat :=
  if a = 0 then 0x17
  else if a ≤ 12 then (a - 1) / 2
  else if a ≤ 20 then 8 + (a - 13)
  else if a ≤ 27 then 0x14
  else if a ≤ 31 then 0x10 + (a - 28)
  else 0x17

/-- Does the other domain hold DP OUT adapter or USB3 downstream adapter `a`: has it a path on it (R119)? -/
def State.adapterTaken (s : State) (d a : Nat) : Bool :=
  s.entries.any fun k =>
    let i := s.rd (path k) PT_W0_IN_PORT
    let o := s.rd (path k) PT_W1_OUT_PORT
    s.rd (path k) PT_W0_DOM != d &&
    if a ≤ 27 then (i = 0x14 && o = a - 22) || (o = 0x14 && i = a - 22) else i = 0x10 + (a - 28) || o = 0x10 + (a - 28)

/-- Is an adapter used in a presentation of domain `d` (R118, R119)? -/
def State.adapterUsed (s : State) (d a : Nat) : Bool :=
  let host := s.rd glb GLB_STRAP_ROLE = 1
  let both := s.bound 0 && s.bound 1
  if a ≤ 12 then true
  else if a ≤ 20 then host || (if a ≤ 16 then d = 0 else if a = 17 then both && d = 1 else if both then d = 1 else d = 0)
  else if a ≤ 31 then !host && (a = 21 || !s.adapterTaken d a)
  else host

/-- The table with the entry of a hop write at index `k`, in state ADD (R121, R122, R124). -/
def State.hopEntry (s : State) (d : Nat) (w : HopWrite) (k : Nat) : State :=
  let i := adapterCode w.adapter
  let o := adapterCode w.outAdapter
  let dp := 0x10 ≤ o && o ≤ 0x13
  let cls := if w.hop = 0 then 0 else if dp then 1 else if 4 ≤ w.prio then 2 else 3
  let rsv := if cls = 1 then s.dpReserve (o - 0x10) else 0
  let alloc := if i ≤ 5 && 2 ≤ cls then min 4095 ((w.creditBytes + 63) / 64) else 0
  let fields := [(PT_W0_STATE, 2), (PT_W0_DOM, d), (PT_W0_IN_PORT, i), (PT_W0_CLASS, cls), (PT_W0_SEAL_IN, 0),
    (PT_W0_SEAL_OUT, 0), (PT_W0_PROT, 0), (PT_W0_DOWN, 0), (PT_W0_IN_PATH_ID, w.hop), (PT_W1_OUT_PORT, o),
    (PT_W1_MC_EN, 0), (PT_W1_MC_GROUP, 0), (PT_W1_OUT_PATH_ID, w.outHop), (PT_W2_SHP_EN, 0), (PT_W2_SHAPER, 0),
    (PT_W2_QUANTUM, if 2 ≤ cls then max w.weight 1 * 16 else 0), (PT_W3_ALLOC, alloc), (PT_W3_KEY_IN, 0), (PT_W3_KEY_OUT, 0),
    (PT_W4_PARTNER, 0), (PT_W4_PV, 0), (PT_W4_RSV_UNITS, rsv), (PT_MOAB, 1)]
  fields.foldl (fun s x => s.wr (path k) x.1 x.2) s

/-- The hop entry at an adapter and HopID that reads Valid: an entry in ADD or ACTIVE. -/
def State.hopAt (s : State) (i hop : Nat) : Option Nat :=
  s.entries.find? fun k => (s.rd (path k) PT_W0_STATE = 1 || s.rd (path k) PT_W0_STATE = 2) &&
    s.rd (path k) PT_W0_IN_PORT = i && s.rd (path k) PT_W0_IN_PATH_ID = hop

/-- Carry out a hop entry write, but for the arm (R123, R136): the state, and whether the table changed. -/
def State.hopNow (s : State) (d : Nat) (w : HopWrite) : State × Bool :=
  if !s.adapterUsed d w.adapter || !s.adapterUsed d w.outAdapter then (s, false)
  else if w.valid then
    match s.freeIndex with
    | none => (s.raiseRefuse .pathFull, false)
    | some k =>
      let t := s.hopEntry d w k
      if !t.consistent k || !t.addable k then (s.entryReject, false)
      else if !t.bandwidth k then (s.raiseRefuse .bwBudget, false)
      else (t, true)
  else match s.hopAt (adapterCode w.adapter) w.hop with
    | some k => (s.releaseEntry k, true)
    | none => (s, false)

/-- The hop writes that have waited, in their order, armed together for the first epoch that R48 allows (R123). -/
def State.hopServe (s : State) : State :=
  if s.hopq.isEmpty || !s.moabeuc || s.is pathctl PG_SHADOW_CTRL_ARMED then s
  else
    let r := s.hopq.foldl (fun (r : State × Bool) x => let (t, c) := r.1.hopNow x.1 x.2; (t, r.2 || c))
      ({ s with hopq := [] }, false)
    if r.2 then (r.1.armTurn pathctl (r.1.epoch + 2)).1 else r.1

/-- HOP_ENTRY_WRITE (R123): Moabeuc runs admission and arms the path table for C + 3; while an arm is pending, or
Moabeuc does not run, the write waits. At the expert level Moabeuc changes nothing (R140). (log 63, DEDUCED) -/
def execHopEntryWrite (dom : Nat) (w : HopWrite) (s : State) : Res :=
  let who := if dom = 0 then Initiator.host0 else .host1
  let p := path 0
  .next (s.access who p { PT_W0_STATE with lvl := .b } fun s =>
    if s.is pathctl PG_CTRL_EXPERT then s
    else if !s.moabeuc || s.is pathctl PG_SHADOW_CTRL_ARMED then { s with hopq := s.hopq ++ [(dom, w)] }
    else match s.hopNow dom w with
      | (s, true) => s.armPaths
      | (s, false) => s)

/-! ### The standard's links -/

/-- The link of a port in state STD is lost (R114, R125, R156). -/
def State.stdDown (s : State) (port : Nat) : State :=
  let s := (s.wr (lane port) LN_STD_UP 0).when (s.usb4 port) fun s => s.raise (link port) 9
  s.linkLost port 0

/-- STD_LINK_TRAINED: in state STD the standard's training ends and the link is up; a link that trains again while it
was up has gone down in between. (log 62, DEDUCED) -/
def execStdLinkTrained (port dirs : Nat) (s : State) : Res :=
  let l := lane port
  .next (s.when (s.rd l LN_STATUS_STATE = 10) fun s =>
    let s := s.when (s.is l LN_STD_UP) fun s => s.stdDown port
    let s := (List.range 4).foldl (fun s p => s.wr l (PR_STATUS_DIR.nth p) (dirs / 4 ^ p % 4)) s
    let m := s.mode port
    let s := s.eqPads l (4 * port) (if m = 7 then 5 else m - 1) (let c := s.rd l LN_EQ_SRC_CLASS; if c = 0 then 3 else c)
      ((List.range 4).filter fun p => s.rd l (PR_STATUS_DIR.nth p) = 1)
    ((s.wr l LN_STD_UP 1).takeBuf port).portEvent port 1)

/-- STD_LINK_DOWN: the link goes down, its paths are declared down, and it retrains as its standard defines. -/
def execStdLinkDown (port : Nat) (s : State) : Res :=
  .next (s.when (s.rd (lane port) LN_STATUS_STATE = 10 && s.is (lane port) LN_STD_UP) fun s => s.stdDown port)

end Sys2Proof.Machine
end

