-- ==== Sys2Proof/Machine/TurnOps.lean ====
section
/-! DEFINITION. What a turnover does (R18, R49, R105, R123, R138, R149, R161, R184, R207, R214, R219, R223 to R225, R428): the pages that apply, the group table, the shapers, turnarounds, domain arms, and the work that waited for the path table. -/

namespace Sys2Proof.Machine

open Reg

/-! ### Time -/

/-- The first nanosecond of the present epoch if its turnover has not been handled, else of the next (R15). (log 6, DESIGN CHOICE) -/
def State.toEpoch (s : State) : State :=
  if s.rd glb GLB_TURN_EPOCH = s.epoch then
    let next := (s.time.toNat / 2 ^ 14 + 1) * 2 ^ 14
    { s with time := BitVec.ofNat 64 next, clock := s.clock + (next - s.time.toNat) }
  else s

/-- Is an armed page due: has the epoch of its TARGET come (R48)? -/
def State.dueNow (s : State) (p : Page) : Bool :=
  s.is p PG_SHADOW_CTRL_ARMED && (s.epoch % 65536 + 65536 - s.rd p PG_SHADOW_CTRL_TARGET) % 65536 < 32768

/-! ### The group table -/

/-- The groups of which some word is listed. -/
def State.mcGroups (s : State) : List Nat := ((s.mcSh ++ s.mcAct).map fun e => e.1 / 64).eraseDups

/-- Does a member, as its shadow word has it, fail R184: `used` holds the outputs of the members before it? -/
def State.memberBad (s : State) (g w : Nat) (used : List Nat) : Bool :=
  let code := w / 2 ^ 26 % 32
  let id := w % 65536
  let odd := s.entries.any fun k => s.is (path k) PT_W1_MC_EN && s.rd (path k) PT_W1_MC_GROUP = g &&
    s.rd (path k) PT_W0_IN_PATH_ID % 2 != id % 2
  !codeOk code || code = 0x17 || used.contains (fpOf code id) || (code ≤ 5 && odd)

/-- Apply member `m` of group `g` (R184): unchanged it keeps its counters, else they start at 0. -/
def State.applyMember (s : State) (g : Nat) (r : List Nat × Bool) (m : Nat) : State × List Nat × Bool :=
  let i := 64 * g + 4 + 3 * m
  let w := (Tab.find s.mcSh i).getD 0
  let old := (Tab.find s.mcAct i).getD 0
  let live := w / 2 ^ 31 = 1
  let bad := live && s.memberBad g w r.1
  let new := if live && !bad then w else w % 2 ^ 31
  let s := if new = old then s
    else (((s.setMc g (4 + 3 * m) new).setMc g (5 + 3 * m) 0).setMc g (6 + 3 * m) 0).wr sw (SW_MC_DOWN.nth (20 * g + m)) 0
  (s, if live && !bad then r.1 ++ [fpOf (w / 2 ^ 26 % 32) (w % 65536)] else r.1, r.2 || bad)

/-- Apply a group (R183, R184): VALID, its members, NMEM and FP_MAP. -/
def State.applyGroup (s : State) (g : Nat) : State × Bool :=
  let r := (List.range 20).foldl (fun (r : State × List Nat × Bool) m => r.1.applyMember g r.2 m) (s, [], false)
  let valid := (Tab.find s.mcSh (64 * g)).getD 0 / 2 ^ 31
  let map := (r.2.1.map fun k => 2 ^ k).sum
  (r.1.setMc g 0 (valid * 2 ^ 31 + r.2.1.length * 2 ^ 21 + map), r.2.2)

/-- The group table applies (R184). MC_REJECT is raised once, for the lowest group concerned. (log 23, DEDUCED) -/
def State.mcApply (s : State) : State :=
  let r := s.mcGroups.foldl (fun (r : State × List Nat) g =>
    let (t, bad) := r.1.applyGroup g
    (t, if bad then r.2 ++ [g] else r.2)) (s, [])
  match r.2 with
  | [] => r.1
  | g :: t => (r.1.wr sw (SW_SRC_OUT.nth 5) (t.foldl min g)).raise sw 5

/-! ### Shapers -/

/-- The shapers with some field listed. -/
def State.shapers (s : State) : List Nat :=
  (s.regs.filterMap fun e =>
    if 8 * 0x580000 ≤ e.1 && e.1 < 8 * 0x590000 then some ((e.1 - 8 * 0x580000) / 128) else none).eraseDups

/-- A shaper takes its new RATE and BURST (R205, R207). -/
def State.shApply (s : State) (k : Nat) : State :=
  let p := shaper k
  let rate := s.rd p SH_W0_RATE
  let burst := s.rd p SH_W0_BURST
  if s.rd p SH_W1_RATE_ACT = rate && s.rd p SH_W1_BURST_ACT = burst then s
  else
    let off := s.rd p SH_W1_RATE_ACT = 0
    let t := s.shTokens k
    let s := (s.wr p SH_W1_RATE_ACT rate).wr p SH_W1_BURST_ACT burst
    s.setTokens k (if off then s.shBurst k else min t (s.shBurst k))

/-! ### Pages -/

/-- The settings of one page with BOUND = 1 become active (R49). -/
def State.applyTurn (s : State) (p : Page) : State :=
  let s := match p.kind with
    | .almSh => s.almApply p.inst
    | .pathctl => s.pathApply
    | .sw => s.mcApply
    | .shpctl => s.shapers.foldl State.shApply s
    | .link =>
      let s := (s.applyFields p (shFields p)).wr p LK_STATUS_TURN_OK 0
      if s.mode p.inst = 1 && s.rd p LK_STATUS_STATE != 0 then s.turnNow p.inst (setCode (s.rdA p LK_SET_SET)) else s
    | _ => s
  s.appliedPage p

/-- The pages that this turnover applies, in an order in which the path table comes before what is checked against it. -/
def State.duePages (s : State) : List Page :=
  ([pathctl, shpctl, sw] ++ (List.range 26).map almSh ++ (List.range 6).map link).filter fun p => s.dueNow p

/-- Rows are checked when the Almanac or the path table has applied (R214). -/
def State.checkRows (s : State) (done : List Page) : State :=
  if done.any fun p => p = pathctl || p.kind = .almSh then (List.range 6).foldl State.rowCheck s else s

/-- The tunnel of a SuperSpeed upstream that was training is up now (R304). -/
def State.usbTunnels (s : State) : State :=
  (List.range 2).foldl (fun s d => s.when (s.rd uhub (upSs d) = 1 && s.src3 d = 1) fun s => s.wr uhub (upSs d) (s.ssStart d)) s

/-! ### What waited -/

/-- The slots whose entries were released with this turnover are unbound (R161). -/
def State.unbindDone (s : State) (done : List Page) : State :=
  if done.contains pathctl then
    (List.range 2).foldl (fun s d => s.when (s.rd pathctl (PC_RELEASING.nth d) = 1) fun s => s.unbind d) s
  else s

/-- What waited while PATHCTL was armed goes on (R123, R149, R161): releases of slots, hop entry writes, held requests. -/
def State.afterPaths (s : State) : State :=
  if !s.moabeuc || s.is pathctl PG_SHADOW_CTRL_ARMED then s
  else
    let s := { s with ctrlLocal := s.heldReqs ++ s.ctrlLocal, heldReqs := [] }
    let s := (List.range 2).foldl (fun s d => s.when (s.is pathctl (PC_RELEASING.nth d)) fun s => s.releaseSlot d) s
    s.hopServe

/-- The domain arms whose epoch has come (R219): state 2 when every page applied, else 3 with REASON 7 and the pages that
did not. -/
def State.daDone (s : State) (done : List Page) : State :=
  (List.range 2).foldl (fun s d =>
    s.when (s.rd shpctl (DA_STATE_STATE.nth d) = 1 && s.rd shpctl (DA_EPOCH.nth d) ≤ s.epoch) fun s =>
      let miss := ((maskBits (s.daMask d)).filter fun b => !done.contains (turnPage b)).map fun b => 2 ^ b
      if miss.isEmpty then s.wr shpctl (DA_STATE_STATE.nth d) 2
      else
        let s := (s.wr shpctl (DA_STATE_STATE.nth d) 3).wr shpctl (DA_STATE_REASON.nth d) 7
        (s.wr shpctl (DA_MASK_LO_MASK_LO.nth d) miss.sum).wr shpctl (DA_MASK_HI_MASK_HI.nth d) (miss.sum / 2 ^ 32)) s

/-! ### Links -/

/-- The first clock of epoch E − 1 (R105): a TURN_PREP that still waits is answered, and an LK_SET without TURN_OK
aborts. -/
def State.turnCheck (s : State) (port : Nat) : State :=
  let l := link port
  let next := (s.epoch + 1) % 65536
  let s := s.when (s.is l LK_PREP_VALID && s.rd l LK_PREP_TARGET = next) fun s => s.turnAnswer port
  s.when (s.mode port = 1 && s.is l PG_SHADOW_CTRL_ARMED && s.rd l PG_SHADOW_CTRL_TARGET = next &&
    !s.is l LK_STATUS_TURN_OK) fun s => s.turnAbort port

/-- Hops from the time root (R73). -/
def State.hops (s : State) : Nat := match s.followPort with
  | some p => s.rd (lane p) LN_TSYNC_STATUS_HOPS
  | none => 0

/-- A serving end sends its timing edge and frame (R73, R74): TYPE 3 when no follow edge came in the last exchange. -/
def State.serveFrame (s : State) (port : Nat) : State :=
  let l := lane port
  let st := s.rd l LN_STATUS_STATE
  if !s.kloyr port || s.timeRole port != 1 || st = 0 || st = 9 || (s.mode port = 2 && s.epoch % 4 != 0) then s
  else if s.is l LN_T4_NEW then (s.send (.sbu port 1 s.hops s.epoch (s.rd l LN_T4 % 2 ^ 32))).wr l LN_T4_NEW 0
  else s.send (.sbu port 3 s.hops s.epoch 0)

/-- A step that was asked for is taken, at a boundary with no page armed and a valid exchange to step by (R75). -/
def State.takeStep (s : State) : State :=
  let s := (List.range 6).foldl (fun s p => s.when (s.timeRole p != 2) fun s => s.wr (lane p) LN_TSYNC_CTRL_STEP 0) s
  match s.followPort with
  | none => s
  | some p =>
    let l := lane p
    s.when (s.is l LN_TSYNC_CTRL_STEP && s.is l LN_OFFSET_VALID && !s.turnArmed) fun s =>
      let off := signed 32 (s.rd l LN_TSYNC_OFFSET_OFFSET)
      ((s.stepTime p (-(offsetNs off))).wr l LN_TSYNC_CTRL_STEP 0).wr l LN_OFFSET_VALID 0

/-! ### The turnover -/

/-- The turnover of the present epoch. Pages whose turnover falls while Moabeuc does not run are reported late (R18). -/
def State.turnover (s : State) : State :=
  let due := s.duePages
  let run := s.moabeuc
  let done := if run then due else []
  let s := if run then due.foldl State.applyTurn s else due.foldl State.lateArm s
  let s := ((s.daDone done).checkRows done).unbindDone done
  let s := s.when (done.contains pathctl) State.usbTunnels
  let s := (List.range 6).foldl State.turnCheck s
  let s := (List.range 6).foldl State.epochMode s
  let s := s.afterPaths.promote
  let s := (List.range 6).foldl State.serveFrame s
  s.bistTurn

/-- TURNOVER's whole effect: hub time comes to the first clock of an epoch; while FABRIC is gated nothing else is done. (log 7, DESIGN CHOICE) -/
def State.toTurnover (s : State) : State :=
  let s := s.toEpoch
  let s := s.wr glb GLB_TURN_EPOCH s.epoch
  let s := s.when (!s.gated pathctl) State.turnover
  let s := s.takeStep.fwResetDue
  s.wr glb GLB_TURN_EPOCH s.epoch

end Sys2Proof.Machine
end

