-- ==== Sys2Proof/Machine/View.lean ====
section
/-! DEFINITION. What a register word reads as (R6, R38, R39, R41, R42, R47): stored fields, and the fields that show the block's state as it stands; and the POP ports. -/

namespace Sys2Proof.Machine

open Reg

/-- Is `f` an element of the array `a`? -/
def isElem (a f : Field) : Bool := a.hit f.bit && a.len = f.len

/-- Which element of the array `a` the field `f` is. -/
def elemNo (a f : Field) : Nat := if a.stride = 0 then 0 else (f.bit - a.bit) / a.stride

/-- A Bool as a bit. -/
def bit (b : Bool) : Nat := if b then 1 else 0

/-! ### Header fields -/

/-- What is left of the grace timer, µs, rounded up (R41, R53). (log 27, DESIGN CHOICE) -/
def State.graceLeft (s : State) (p : Page) : Nat :=
  if s.is p PG_ERR_GRACE_REMAIN then
    (s.rd p PG_GRACE_TIME + s.rd p PG_ERR_GRACE_REMAIN * 1000 - s.clock + 999) / 1000
  else 0

/-- PG_STATUS.READY (R41): enabled, out of reset and not contained. (log 33, DEDUCED) -/
def State.ready (s : State) (p : Page) : Bool :=
  s.is p p.enableField && !s.is p PG_STATUS_IN_RESET && !s.is p PG_STATUS_CONTAINED

/-- A field of the common header (R41). -/
def State.viewHeader (s : State) (p : Page) (f : Field) : Nat :=
  let i := p.kind.info
  if f = PG_ID_BLOCK then i.block
  else if f = PG_ID_INSTANCE then i.instBase + p.inst
  else if f = PG_ID_PAGE then i.page
  else if f = PG_CAP_SEF then i.sef
  else if f = PG_CAP_BASIC then i.basic
  else if f = PG_CAP_EXPERT then i.expert
  else if f = PG_CAP_SH then bit (i.bound != 0)
  else if f = PG_CAP_SXPG then bit (p.kind = .safe)
  else if f = PG_CAP_NSRC then i.nsrc
  else if f = PG_CTRL_EXPERT then bit (s.expert p)
  else if f = PG_STATUS_READY then bit (s.ready p)
  else if f = PG_ERR_GRACE_REMAIN then s.graceLeft p
  else if f = PG_SHADOW_CTRL_BOUND then i.bound
  else if f = PG_VECTOR_HOST && s.rd glb GLB_STRAP_ROLE = 1 then 0
  else s.rd p f

/-! ### Block fields -/

/-- SW_MC_DATA (R183, R184): the selected word; VIEW chooses the copy of its SH fields, and the other fields show what
is applied. -/
def State.mcView (s : State) : Nat :=
  let w := s.rd sw SW_MC_SEL_WORD
  let i := 64 * s.rd sw SW_MC_SEL_GROUP + w
  let act := (Tab.find s.mcAct i).getD 0
  let sh := if s.is sw PG_SHADOW_CTRL_VIEW then act else (Tab.find s.mcSh i).getD 0
  if w = 0 then sh / 2 ^ 31 * 2 ^ 31 + act % 2 ^ 31
  else if w < 4 then 0
  else if w % 3 = 1 then sh else act

/-- The bytes of the capture entry that SW_CAP_RD names (R188): zero where there is none, or it has been overwritten. -/
def State.capBytes (s : State) : List Byte :=
  let n := s.rd sw SW_CAP_RD_RD
  let w := s.rd sw SW_CAP_WR_WR
  if w ≤ n || s.ringSize < w - n then []
  else if (s.capture.find n).isSome then s.capture.list n
  else if s.is sw SW_CAP_CFG_SPILL then s.memBytes (s.capAddr n) 128
  else []

/-- Groups whose applied word 0 has VALID = 1. -/
def State.mcValid (s : State) : Nat := s.mcAct.countP fun e => e.1 % 64 = 0 && e.2.testBit 31

/-- A field of the SW page. -/
def State.viewSw (s : State) (f : Field) : Nat :=
  if isElem SW_OUT_OCC_OCC f then s.occ (elemNo SW_OUT_OCC_OCC f)
  else if isElem SW_CAP_ENTRY_DATA f then leNat ((s.capBytes.drop (4 * elemNo SW_CAP_ENTRY_DATA f)).take 4)
  else if f = SW_MC_DATA_DATA then s.mcView
  else if f = SW_MC_STATUS_GROUPS then s.mcValid
  else s.rd sw f

/-- A field of an active ALM page (R209). -/
def State.viewAlm (s : State) (e : Nat) (f : Field) : Nat :=
  if f = ALM_STATUS_CTRL_UNITS then s.ctrlUnits e
  else if f = ALM_MEAS_P_UNITS then s.pUnits e
  else if f = ALM_MEAS_CAP_UNITS && 6 ≤ e then s.pUnits e
  else if f.bit = ALM_ISO_ISO_UNITS.bit && e < 6 then s.rowSum (alm e)
  else s.rd (alm e) f

/-- A field of an ALM shadow page (R209): VIEW = 1 shows the active page's value. (log 34, DEDUCED) -/
def State.viewAlmSh (s : State) (e : Nat) (f : Field) : Nat :=
  if f = ALM_ISO_ISO_UNITS && e < 6 then 0
  else if isElem ALM_ROW_V f && 6 ≤ e then 0
  else if f.acc = .sh && s.is (almSh e) PG_SHADOW_CTRL_VIEW then s.rd (alm e) f
  else s.rd (almSh e) f

/-- A field of the SEC page: the OTP shows but for the root secret (R401, R419). -/
def State.viewSec (s : State) (f : Field) : Nat :=
  if isElem KS_SLOT_BUSY f then bit (s.slotBusy (elemNo KS_SLOT_BUSY f))
  else if isElem SEC_OTP_WIN_DATA f then
    leNat ((List.range 4).map fun b =>
      let a := 4 * elemNo SEC_OTP_WIN_DATA f + b
      if 0x60 ≤ a && a < 0x90 then 0 else Mem.read 0 s.otp a)
  else s.rd sec f

/-- A field of the PATHCTL page: PC_USE counts entries (R163). -/
def State.viewPathctl (s : State) (f : Field) : Nat :=
  let count := fun q => (s.entries.filter fun k => q (s.rd (path k) PT_W0_STATE)).length
  if f = PC_USE_PENDING then count fun st => st = 2 || st = 3
  else if f = PC_USE_ACTIVE then count fun st => st = 1
  else s.rd pathctl f

/-- EPNUM of the endpoints, in the row order of R309. -/
def epNum (k : Nat) : Nat := [0, 0, 1, 1, 2, 3, 3, 4, 5, 6, 6, 7, 7, 8, 8, 9].getD k 0

/-- DIR of the endpoints, in the row order of R309: 1 is IN. -/
def epDir (k : Nat) : Nat := [0, 1, 0, 1, 1, 0, 1, 1, 1, 1, 0, 0, 1, 0, 1, 1].getD k 0

/-- TYPE of the endpoints, in the row order of R309: 0 control, 1 isochronous, 2 bulk, 3 interrupt. -/
def epType (k : Nat) : Nat := [0, 0, 2, 2, 3, 1, 1, 1, 3, 3, 3, 2, 2, 0, 0, 0].getD k 0

/-- A field of the UHUB page (R309, R319). (log 34, DEDUCED) -/
def State.viewUhub (s : State) (f : Field) : Nat :=
  let k := elemNo UH_EP_EN f
  if isElem UH_EP_EN f then bit (s.epOn k && k < 13)
  else if isElem UH_EP_DIR f then epDir (elemNo UH_EP_DIR f)
  else if isElem UH_EP_TYPE f then epType (elemNo UH_EP_TYPE f)
  else if isElem UH_EP_EPNUM f then epNum (elemNo UH_EP_EPNUM f)
  else if isElem UH_EP_MAXPKT f then epMax (elemNo UH_EP_MAXPKT f)
  else if isElem UH_EP_BUF_KIB f then epKib (elemNo UH_EP_BUF_KIB f)
  else if isElem UH_EP_FILL_FILL f then s.epFill (elemNo UH_EP_FILL_FILL f)
  else if f = UH_AUD_STATUS_OUT_FILL then s.epFill 5
  else s.rd uhub f

/-- A field of the PCIe port page (R254). -/
def State.viewPcie (s : State) (f : Field) : Nat :=
  if f = PE_CFG_ROLE then bit s.endpointRole
  else if f = PE_CFG_BIFUR && s.endpointRole then 0
  else if f = PE_LINK_CFG_ATTACH.nth 0 && s.endpointRole then 1
  else s.rd pcie f

/-- A field of a DOUT page: IDLE_PAT reads 1 while a trained output shows no line of the pipeline (R288, R299), or the
pipeline is in IDLE (R262); MASTER is fixed (R300). -/
def State.viewDout (s : State) (n : Nat) (f : Field) : Nat :=
  let d := dout n
  if f = DOUT_LINK_STS_IDLE_PAT then
    bit (s.is d DOUT_LINK_STS_TRAINED && (s.is d DOUT_UNFIT || s.is d PG_STATUS_CONTAINED || s.dst n = 5))
  else if f = DOUT_PAIR_STS_MASTER then bit (n % 2 = 0)
  else s.rd d f

/-- A field of a PD page: the measured values and the energy settings are the safety island's (R344, R363). -/
def State.viewPd (s : State) (n : Nat) (f : Field) : Nat :=
  if f = PD_VBUS_VBUS_MV then s.rd safe (SP_VBUS.nth n)
  else if f = PD_VBUS_IBUS_MA then s.rd safe (SP_IBUS.nth n)
  else if f = PD_ENERGY_LIMIT_MJ then s.rd safe (SP_CFG_LIMIT_MJ.nth n)
  else if f = PD_ENERGY_CBULK_UF then s.rd safe (SP_CFG_CBULK_UF.nth n)
  else s.rd (pd n) f

/-- What is left of AON_ALARM, ms (R399). -/
def State.alarmLeft (s : State) : Nat :=
  s.rd aon AON_ALARM_MS - (s.clock - s.rd aon AON_ALARM_TIME) / 1000000

/-- A block field as it reads; `who` matters for the banked register only (R245). (log 33, DEDUCED) -/
def State.viewBlock (s : State) (who : Initiator) (p : Page) (f : Field) : Nat :=
  match p.kind with
  | .glb =>
    if f = GLB_CHIP_ID_VARIANT then 1 + Config.variant % 2
    else if f = GLB_CHIP_ID_STEP_MAJOR then Config.stepping / 16 % 16
    else if f = GLB_CHIP_ID_STEP_MINOR then Config.stepping % 16
    else if f = GLB_TIME_LO_TIME_LO then s.time.toNat % 2 ^ 32
    else if f = GLB_TIME_HI_TIME_HI then s.time.toNat / 2 ^ 32
    else s.rd p f
  | .aon =>
    if f = AON_ALARM_MS then s.alarmLeft
    else if f = AON_RAM_DATA_DATA then
      leNat ((List.range 4).map fun b => Mem.read 0 s.aonRam (4 * s.rd aon AON_RAM_ADDR_ADDR + b))
    else s.rd p f
  | .sec => s.viewSec f
  | .pathctl => s.viewPathctl f
  | .sw => s.viewSw f
  | .alm => s.viewAlm p.inst f
  | .almSh => s.viewAlmSh p.inst f
  | .shpctl =>
    if f = SC_USE_ACTIVE then (s.shapers.filter fun k => s.is (shaper k) SH_W1_RATE_ACT).length else s.rd p f
  | .pcie => s.viewPcie f
  | .pca => if f = PCA_STATE_PATH_UP then bit (s.pcaPathUp p.inst) else s.rd p f
  | .bridge => if f = BR_RSEL_HUB_ID then s.rd bridge (BR_RSEL_BANK.nth (initCode who)) else s.rd p f
  | .dout => s.viewDout p.inst f
  | .uhub => s.viewUhub f
  | .pd => s.viewPd p.inst f
  | .mem => s.memRoll.rd p f
  | .mbch => if f = MB_EVT_STS_COUNT then (s.events.list p.inst).length else s.rd p f
  | .link => if s.usb4 p.inst then 0 else s.rd p f
  | .lane => if f = LN_TSYNC_CTRL_STEP && s.timeRole p.inst != 2 then 0 else s.rd p f
  | .pelane | .dplane | .ulane | .elane => if f = LN_STATUS_STATE then s.lnState p else s.rd p f
  | _ => s.rd p f

/-! ### Words -/

/-- The fields that lie in word `w` of a page. -/
def wordFields (p : Page) (w : Nat) : List Field := p.fields.flatMap fun f => (elemsIn f w).map f.nth

/-- Do reads of the page's SH fields show the active value (R41, R104)? -/
def State.viewActive (s : State) (p : Page) (f : Field) : Bool :=
  f.acc = .sh && p.kind.hasHeader && p.kind != .almSh &&
    s.is p (if p.kind = .link && f = LK_PAIR_PAD_EN then LK_PAIR_SCTRL_VIEW else PG_SHADOW_CTRL_VIEW)

/-- A field as it reads: WO fields and POP ports as 0 (R42). (log 33, DEDUCED) -/
def State.view (s : State) (who : Initiator) (p : Page) (f : Field) : Nat :=
  if f.acc = .wo || f.acc = .pop then 0
  else if p.kind.hasHeader && f.bit < 0x080 * 8 then s.viewHeader p f
  else if s.is (headerOf p) PG_STATUS_IN_RESET then 0
  else if s.viewActive p f && !(p.kind = .link && s.usb4 p.inst) then s.rdA p f
  else s.viewBlock who p f

/-- Word `w` of a page: reserved bits read 0 (R6). -/
def State.viewWord (s : State) (who : Initiator) (p : Page) (w : Nat) : Nat :=
  ((wordFields p w).map fun f => s.view who p f % 2 ^ f.len * 2 ^ (f.bit % 32)).sum

/-! ### POP ports and reads with a side effect -/

/-- The next word of an event FIFO (R444, R447): a packet leaves with its last word. -/
def State.popEvent (s : State) (c : Nat) : State × Nat :=
  match s.events.list c with
  | [] => (s, 0)
  | [] :: t => ({ s with events := s.events.setList c t }, 0)
  | (w :: []) :: t => ({ s with events := s.events.setList c t }.wr (mbch c) MB_EVT_STS_COUNT t.length, w)
  | (w :: ws) :: t => ({ s with events := s.events.setList c (ws :: t) }, w)

/-- The next word of a PD port's receive FIFO (R363). -/
def State.popPd (s : State) (n : Nat) : State × Nat :=
  match s.pdRx.list n with
  | [] => (s, 0)
  | w :: t =>
    let s := { s with pdRx := s.pdRx.setList n t }
    ((s.wr (pd n) PD_RX_STATUS_WORDS t.length).wr (pd n) PD_RX_STATUS_NONEMPTY (bit !t.isEmpty), w)

/-- A random word (R420): 0 while the health test has failed. -/
def State.popRng (s : State) : State × Nat := if s.rngBad then (s, 0) else (s.tookFree, s.freeNat % 2 ^ 32)

/-- Is word `w` of a page a POP port? -/
def isPop (p : Page) (w : Nat) : Bool :=
  match p.kind with
  | .sec => w = 0x500 / 4
  | .pd => w = 0x804 / 4
  | .mbch => w = 0xC00 / 4
  | _ => false

/-- A read of a POP port (R42). During a block soft reset of its page it reads 0 and removes nothing. -/
def State.pop (s : State) (p : Page) : State × Nat :=
  if s.is p PG_STATUS_IN_RESET then (s, 0)
  else match p.kind with
    | .sec => s.popRng
    | .pd => s.popPd p.inst
    | .mbch => if p.inst = 4 || p.inst = 5 then s.popEvent p.inst else (s, 0)
    | _ => (s, 0)

/-- Does JTAG reach a word: with JTAG_LOCK = 1 and nothing granted, the DBG registers only (R417)? (log 104, DEDUCED) -/
def State.jtagReaches (s : State) (p : Page) (w : Nat) : Bool :=
  !s.lockBit 2 || s.is sec SEC_DBG_CTRL_GRANTED ||
    (p.kind = .sec && (w = 0x0A8 / 4 || w = 0x1E0 / 4 || (0x480 / 4 ≤ w && w < 0x4B0 / 4)))

/-- A read of the word at byte address `a`, with its side effects (R14, R38, R42, R399). -/
def State.readWord (s : State) (who : Initiator) (a : Nat) : State × Nat :=
  match pageAt a with
  | none => (s, 0)
  | some p =>
    let w := (a - p.base) / 4
    if who = .jtag && !s.jtagReaches p w then (s, 0)
    else if s.gated p then (s.gatedAccess a false, 0)
    else if isPop p w then s.pop p
    else
      let v := s.viewWord who p w
      if p.kind = .aon && w = 0x114 / 4 then (s.wr aon AON_RAM_ADDR_ADDR (s.rd aon AON_RAM_ADDR_ADDR + 1), v) else (s, v)

/-- Does the word at `a` lie in a range whose SEF bit is 1 (R246, R248)? Table windows and unassigned addresses count as
free of side effects. -/
def sefAt (a : Nat) : Bool :=
  match pageAt a with
  | none => true
  | some p => !p.kind.hasHeader || p.kind.info.sef.testBit ((a - p.base) / 256)

end Sys2Proof.Machine
end

