-- ==== Sys2Proof/Machine/RegWrite.lean ====
section
/-! DEFINITION. A write of any register word by any initiator (R14, R38, R39, R42 to R46, R50): which of its fields are accepted, and what the accepted ones do. -/

namespace Sys2Proof.Machine

open Reg

/-- The state that a command leaves. -/
def State.via (s : State) (r : State → Res) : State :=
  match r s with
  | .next t => t
  | .fault _ => s
  | .refused _ => s

/-! ### What a word writes -/

/-- Fields that a page or the role fixes: PG_VECTOR.HOST, BIFUR and ATTACH of link 0 in role 0b01 (R41, R254), PD_BOARD
but on PD_0 (R353), and what R209 says of the shadow pages. (log 34, DEDUCED) -/
def State.fixedField (s : State) (p : Page) (f : Field) : Bool :=
  let ep := s.rd glb GLB_STRAP_ROLE = 1
  (ep && p.kind.hasHeader && f = PG_VECTOR_HOST) ||
  match p.kind with
  | .pd => p.inst != 0 && f = PD_BOARD_TOTAL_W
  | .pcie => ep && (f = PE_CFG_BIFUR || f = PE_LINK_CFG_ATTACH.nth 0)
  | .almSh => (p.inst < 6 && f = ALM_ISO_ISO_UNITS) || (6 ≤ p.inst && isElem ALM_ROW_V f)
  | _ => false

/-- The fields that a write touches, each with its new value, or for W1C, W1S and WO fields the bits written (R39). (log 15, DEDUCED) -/
def State.puts (s : State) (p : Page) (w be value : Nat) : List (Field × Nat) :=
  (wordFields p w).filterMap fun f =>
    let lo := f.bit % 32
    let m := mergeBits lo f.len be 0 value
    if f.acc = .ro || f.acc = .pop || s.fixedField p f || !touches lo f.len be then none
    else match f.acc with
      | .w1c | .w1s => if m = 0 then none else some (f, m)
      | .wo => some (f, m)
      | _ => some (f, mergeBits lo f.len be (s.rd p f) value)

/-- The value written to a field of a word, if it is. -/
def pick (l : List (Field × Nat)) (f : Field) : Option Nat := (l.find? fun x => x.1.bit = f.bit).map fun x => x.2

/-- Is a field written? -/
def puts1 (l : List (Field × Nat)) (f : Field) : Bool := (pick l f).isSome

/-- Why a field of a written word is refused (R43, R44, R46, R50, R443); 0 when it is accepted. (log 14, DEDUCED; log 15, DEDUCED) -/
def State.putCause (s : State) (p : Page) (who : Initiator) (x : Field × Nat) : Nat :=
  max (s.refusal p who x.1) (if p.kind = .mbch && isElem MB_REQ_DATA x.1 && s.is p MB_RESULT_BUSY then 2 else 0)

/-- Does a refused field count as a dropped write? A readable field that keeps its value does not, unless the whole word
is closed to the initiator (DEDUCED). -/
def State.putCounts (s : State) (p : Page) (who : Initiator) (x : Field × Nat) : Bool :=
  let plain := x.1.acc = .rw || x.1.acc = .sh
  !plain || s.rd p x.1 != x.2 || rightsRefused p who x.1 || who = .engineOther

/-- Is every word from 0x080 on of a page closed to an initiator (R419)? (log 15, DEDUCED; log 32, DEDUCED) -/
def closedTo (p : Page) (who : Initiator) (w : Nat) : Bool :=
  p.kind = .sec && 0x080 / 4 ≤ w &&
    !(who = .marionette || (who = .jtag && (w = 0x0A8 / 4 || w = 0x1E0 / 4)))

/-! ### What accepted fields do -/

/-- Fields that a plain store does not write: those whose write is an operation of its own. (log 30, DEDUCED) -/
def operated (p : Page) (f : Field) : Bool :=
  (p.kind.hasHeader && (f.bit / 32 = 0x00C / 4 || f.bit / 32 = 0x018 / 4 || f.bit / 32 = 0x020 / 4)) ||
  match p.kind with
  | .lane => f = LN_CTRL_MODE
  | .pca => f = PCA_CTRL_MODE || f = PCA_CTRL_DOM || f = PCA_TUN_TX_HANDLE || f = PCA_TUN_RX_HANDLE
  | .uhub => f.bit / 32 = 0x080 / 4 || (0x088 / 4 ≤ f.bit / 32 && f.bit / 32 < 0x0A0 / 4)
  | .eth => f = ETH_CFG_Q_BIND || f = ETH_CFG_MAC_BIND || isElem ETH_Q_TX_PTR_TAIL f || isElem ETH_Q_RX_PTR_TAIL f
  | .aon => f = AON_RAM_DATA_DATA
  | .sw => f = SW_MC_DATA_DATA
  | .bridge => f = BR_RSEL_HUB_ID
  | .mbch => f.bit / 32 = 0x080 / 4
  | _ => false

/-- Store the accepted fields that hold what is written; a W1C bit clears (R42). -/
def State.storePut (s : State) (p : Page) (x : Field × Nat) : State :=
  if operated p x.1 then s
  else match x.1.acc with
    | .w1c => s.wr p x.1 0
    | .w1s => s
    | .wo => s.when (p.kind = .sec && isElem KS_STAGE_KEY x.1) fun s => s.wr p x.1 x.2
    | _ => s.wr p x.1 x.2

/-- The bits of the fields of an array that a word writes, as a mask of their numbers. -/
def maskOf (l : List (Field × Nat)) (a : Field) : Nat :=
  ((l.filter fun x => isElem a x.1 && x.2 != 0).map fun x => 2 ^ elemNo a x.1).sum

/-- Run a command where its field is written. (log 16, DEDUCED; log 30, DEDUCED) -/
def State.onPut (s : State) (l : List (Field × Nat)) (f : Field) (r : State → Res) : State :=
  s.when (puts1 l f) fun s => s.via r

/-- The header's operations (R41, R45, R47, R50 to R52, R55, R469, R470). -/
def State.putHeader (s : State) (who : Initiator) (p : Page) (l : List (Field × Nat)) (w : Nat) : State :=
  if w = 0x00C / 4 then
    let s := match pick l p.enableField with
      | some v => s.via (execEnable who p (v != 0))
      | none => s
    let s := match pick l PG_CTRL_EXPERT with
      | some v => s.via (execLevelChange who p (v != 0))
      | none => s
    s.when (puts1 l PG_CTRL_SRST) fun s => s.srst p
  else if w = 0x018 / 4 then
    let old := ((List.range 32).map fun i => s.rd p (PG_INT_ENABLE_EN.nth i) * 2 ^ i).sum
    let new := ((List.range 32).map fun i => (pick l (PG_INT_ENABLE_EN.nth i)).getD (old / 2 ^ i % 2) * 2 ^ i).sum
    s.via (execIntEnableWrite who p new)
  else if w = 0x01C / 4 then s.via (execIntForce who p (maskOf l PG_INT_FORCE_FORCE))
  else if w = 0x020 / 4 then s.ackMask p (maskOf l PG_ERR_STATUS_SRC)
  else if w = 0x030 / 4 then
    if puts1 l PG_SHADOW_CTRL_CANCEL then s.doCancel p false
    else s.when (puts1 l PG_SHADOW_CTRL_ARM) fun s => s.doArm p false (s.rd p PG_SHADOW_CTRL_TARGET)
  else if w = 0x038 / 4 then
    let s := s.when (puts1 l PG_LOCK_ALL_LOCK) fun s => s.wr p PG_LOCK_ALL_LOCK 1
    s.when (puts1 l PG_LOCK_EXT_LOCK) fun s => s.wr p PG_LOCK_EXT_LOCK 1
  else s

/-- UH_CFG and UH_PORT (R302 to R305, R319): owners change as PORT_OWNER_CHANGE, and a logical hub or the embedded device
that is switched connects anew. -/
def State.putUhub (s : State) (who : Initiator) (l : List (Field × Nat)) (w : Nat) : State :=
  let v := fun (f : Field) => (pick l f).getD (s.rd uhub f)
  if w = 0x080 / 4 then
    let emb := s.is uhub UH_CFG_EMB_EN != (v UH_CFG_EMB_EN != 0) || s.rd uhub UH_CFG_EMB_DOM != v UH_CFG_EMB_DOM
    let h0 := s.rd uhub UH_CFG_H0_EN != v UH_CFG_H0_EN
    let h1 := s.rd uhub UH_CFG_H1_EN != v UH_CFG_H1_EN
    let e := v UH_CFG_EMB_EN
    let d := v UH_CFG_EMB_DOM
    let a := v UH_CFG_H0_EN
    let b := v UH_CFG_H1_EN
    let t := s.via (execPortOwnerChange who (.up 0 (v UH_CFG_SRC3_0) (v UH_CFG_UP2_0)))
    let t := t.via (execPortOwnerChange who (.up 1 (v UH_CFG_SRC3_1) (v UH_CFG_UP2_1)))
    let t := t.when emb fun t => ((t.embReset 0).wr uhub UH_CFG_EMB_EN e).wr uhub UH_CFG_EMB_DOM d
    let t := t.when h0 fun t => (t.wr uhub UH_CFG_H0_EN a).hubReconnect 0
    let t := t.when h1 fun t => (t.wr uhub UH_CFG_H1_EN b).hubReconnect 1
    t.when (emb && e != 0 && t.hubOn d && t.up2 d != 15) fun t => t.wr uhub UH_STATUS_EMB 1
  else if 0x088 / 4 ≤ w && w < 0x0A0 / 4 then
    let n := w - 0x088 / 4
    s.via (execPortOwnerChange who (.port n (v (UH_PORT_PRESENT.nth n) != 0) (v (UH_PORT_DOM.nth n) != 0)
      (v (UH_PORT_HS_PIN.nth n) != 0) (v (UH_PORT_TDOM.nth n) != 0)))
  else
    (s.onPut l UH_WAKE_WAKE_REQ (execWakeReq who)).onPut l UH_CNT_CLR_CLR (execUhCntClr who)

/-- SW_MC_DATA (R183, R184): a write goes to the shadow copy of the SH fields of the selected word. -/
def State.putMc (s : State) (v : Nat) : State :=
  let w := s.rd sw SW_MC_SEL_WORD
  let i := 64 * s.rd sw SW_MC_SEL_GROUP + w
  let keep := if w = 0 then v / 2 ^ 31 * 2 ^ 31 else v / 2 ^ 26 * 2 ^ 26 + v % 65536
  s.when (w = 0 || (4 ≤ w && w % 3 = 1)) fun s => { s with mcSh := putField s.mcSh i keep 0 }

/-- The commands of the SEC page (R402, R408, R411 to R413, R417). -/
def State.putSec (s : State) (who : Initiator) (l : List (Field × Nat)) : State :=
  let slot := s.rd sec SEC_KS_CMD_SLOT
  let salt := s.rd sec SEC_KS_CMD_SALT
  let s := s.onPut l SEC_OTP_CMD_GO (execOtpProgram who (s.rd sec SEC_OTP_CMD_WORD) 0)
  let s := s.onPut l SEC_MEAS_CMD_GO (execMeasExtend who (s.rd sec SEC_MEAS_CMD_BANK))
  let s := s.onPut l SEC_SIGN_CMD_GO (execSign who)
  let s := s.when (puts1 l SEC_KS_CMD_GO) fun s =>
    match s.rd sec SEC_KS_CMD_OP with
    | 1 => s.via (execLoad who slot salt)
    | 2 => s.via (execDerive who slot salt)
    | 3 => s.via (execZeroise who slot)
    | 4 => s.via (execZeroiseAll who)
    | _ => s
  let s := s.onPut l SEC_DBG_CTRL_CHALLENGE (execChallenge who (s.rd sec SEC_DBG_CTRL_LEVEL))
  let s := s.onPut l SEC_DBG_CTRL_VERIFY (execVerify who (s.rd sec SEC_DBG_CTRL_LEVEL))
  match pick l SEC_DBG_RESP_DATA with
  | some v => s.via (execDbgRespPush who v)
  | none => s

/-- The AON page's operations (R380, R389, R394, R397, R399). -/
def State.putAon (s : State) (who : Initiator) (l : List (Field × Nat)) (be : Nat) : State :=
  let s := s.when (puts1 l AON_PS_CTRL_GO) fun s => s.psGo (s.rd aon AON_PS_CTRL_TARGET)
  let s := s.onPut l AON_PAD_RELEASE (execPadRelease who)
  let s := s.when (puts1 l AON_ALARM_MS) fun s => s.wr aon AON_ALARM_TIME s.clock
  let s := s.when (pick l AON_WDT_EN = some 1) fun s => s.wr aon AON_WDT_TIME s.clock
  let s := match pick l AON_WDT_KICK_KEY with
    | some v => s.via (execWatchdogKick who v)
    | none => s
  let s := match pick l AON_RAM_DATA_DATA with
    | some v => s.via (execRetentionRamAccess who none (some (Fin.ofNat _ v)) be false)
    | none => s
  s.onPut l AON_CNT_CLR_CLR (execAonCntClr who)

/-- PD_CTRL, PD_TX_CTRL and PD_CNT_CLR (R349, R363). -/
def State.putPd (s : State) (who : Initiator) (n : Nat) (l : List (Field × Nat)) : State :=
  let s := s.onPut l PD_CTRL_HARD_RESET (execHardReset who n)
  let s := s.onPut l PD_CTRL_SOFT_RESET (execSoftReset who n)
  let s := s.onPut l PD_CTRL_ERR_RECOVERY (execErrRecovery who n)
  let s := s.onPut l PD_CTRL_SWAP_PR (execSwapPr who n)
  let s := s.onPut l PD_CTRL_SWAP_DR (execSwapDr who n)
  let s := s.onPut l PD_CTRL_SWAP_VCONN (execSwapVconn who n)
  let s := s.onPut l PD_CTRL_EPR_ENTER (execEprEnter who n)
  let s := s.onPut l PD_CTRL_EPR_EXIT (execEprExit who n)
  let s := s.onPut l PD_TX_CTRL_SEND (execPdTxSend who n)
  s.onPut l PD_CNT_CLR_CLR (execPdCntClr who n)

/-- A lane page (R65, R77, R79). -/
def State.putLane (s : State) (who : Initiator) (p : Page) (l : List (Field × Nat)) : State :=
  let own : Bool := p.kind = PageKind.lane
  let s := match pick l LN_CTRL_MODE with
    | some v => s.when (own && s.rd p LN_CTRL_MODE != v) fun s => s.via (execModeChange who p.inst v)
    | none => s
  let s := s.onPut l LN_CTRL_RETRAIN (execRetrain who p)
  let s := s.onPut l LN_CTRL_CNT_CLR (execLnCntClr who p)
  let s := s.when own fun s => s.onPut l LN_TSYNC_CTRL_STEP (execTsyncStepReq who p.inst)
  (List.range (padCount p.kind)).foldl (fun s i =>
    let s := s.when (s.expert p && puts1 l (PR_TXEQ_POST1.nth i)) fun s => s.wr p (LN_EXPERT_EQ.nth i) 1
    s.onPut l (PR_MARGIN_CTRL_START.nth i) (execMarginStart who p i)) s

/-- An Ethernet page (R324, R328, R329). The buffers that a written RX tail posts have free sizes; the descriptors that a
written TX tail makes known come with TX_TAIL. (log 31, DEDUCED) -/
def State.putEth (s : State) (who : Initiator) (n : Nat) (l : List (Field × Nat)) : State :=
  let p := eth n
  let q := (pick l ETH_CFG_Q_BIND).getD (s.rd p ETH_CFG_Q_BIND)
  let m := (pick l ETH_CFG_MAC_BIND).getD (s.rd p ETH_CFG_MAC_BIND)
  let s := s.when (puts1 l ETH_CFG_Q_BIND || puts1 l ETH_CFG_MAC_BIND) fun s => s.via (execEthBindChange who n q m)
  let s := l.foldl (fun s x =>
    if isElem ETH_Q_TX_PTR_TAIL x.1 then s.via (execTxTail who n (elemNo ETH_Q_TX_PTR_TAIL x.1) x.2 [])
    else if isElem ETH_Q_RX_PTR_TAIL x.1 then
      let k := s.rd p (ETH_Q_RX_RING_SIZE.nth (elemNo ETH_Q_RX_PTR_TAIL x.1))
      let sizes := (List.range k).map fun i => Config.freeValue (s.fresh + i) % 65536
      { s with fresh := s.fresh + k }.via (execRxTail who n (elemNo ETH_Q_RX_PTR_TAIL x.1) x.2 sizes)
    else s) s
  s.onPut l ETH_CNT_CLR_CLR (execEthCntClr who n)

/-- What the accepted fields of a word do besides being stored. -/
def State.putBlock (s : State) (who : Initiator) (p : Page) (l : List (Field × Nat)) (w be : Nat) : State :=
  let n := p.inst
  match p.kind with
  | .glb =>
    let key := (pick l GLB_SRST_KEY).getD 0
    if puts1 l GLB_SRST_CHIP && pick l GLB_SRST_CHIP != some 0 then s.via (execChipSoftwareReset who key)
    else s.when (puts1 l GLB_SRST_MGMT && pick l GLB_SRST_MGMT != some 0) fun s => s.via (execMgmtReset who key)
  | .aon => s.putAon who l be
  | .sec => s.putSec who l
  | .bist =>
    (s.onPut l BIST_RUN_GO (execBistRunGo who (s.rd bist BIST_RUN_SLICE))).onPut l BIST_CNT_CLR_CLR (execBistCntClr who)
  | .lane | .pelane | .dplane | .ulane | .elane => s.putLane who p l
  | .link =>
    if puts1 l LK_PAIR_SCTRL_CANCEL then s.doCancel p true
    else s.when (puts1 l LK_PAIR_SCTRL_ARM) fun s => s.doArm p true 0
  | .linkCnt => s.onPut l LK_CNT_CLR_CLR (execLkCntClr who n)
  | .pathctl => s.onPut l PC_CNT_CLR_CLR (execPcCntClr who)
  | .sw =>
    let s := match pick l SW_MC_DATA_DATA with
      | some v => s.putMc v
      | none => s
    let s := match pick l SW_OUT_RESTART_RESTART with
      | some v => s.via (execSwOutRestart who v)
      | none => s
    s.onPut l SW_CNT_CLR_CLR (execSwCntClr who)
  | .alm => s.onPut l ALM_CNT_CLR_CLR (execAlmCntClr who n)
  | .pcie =>
    let s := s.onPut l PE_CFG_PORT_RST (execPortRst who)
    let s := (List.range 4).foldl (fun s i => s.onPut l (PE_LINK_CFG_RESET.nth i) (execPeLinkReset who i)) s
    s.onPut l PE_CNT_CLR_CLR (execPeCntClr who)
  | .pca =>
    let s := [PCA_CTRL_MODE, PCA_CTRL_DOM, PCA_TUN_TX_HANDLE, PCA_TUN_RX_HANDLE].foldl (fun s f =>
      match pick l f with
      | some v => s.pcaSet who n f v
      | none => s) s
    (s.onPut l PCA_CTRL_RELEASE (execPcaRelease who n)).onPut l PCA_CNT_CLR_CLR (execPcaCntClr who n)
  | .bridge =>
    let s := match pick l BR_RSEL_HUB_ID with
      | some v => s.via (execBrRselWrite who v)
      | none => s
    s.onPut l BR_CNT_CLR_CLR (execBrCntClr who)
  | .disp =>
    let s := s.when (puts1 l DISP_MODE_MODE) fun s => s.wr p DISP_MODE_WR 1
    let resume := puts1 l DISP_CTRL_RESUME_REQ
    let s := if puts1 l DISP_CTRL_HOLD_REQ then s.via (execHoldReq who n resume)
      else s.onPut l DISP_CTRL_RESUME_REQ (execResumeReq who n)
    s.onPut l DISP_CTRL_CNT_CLR (execDispCntClr who n)
  | .dout =>
    let s := s.onPut l DOUT_CTRL_RESTART (execDoutRestart who n)
    (s.onPut l DOUT_CTRL_RETRAIN (execDoutRetrain who n)).onPut l DOUT_CTRL_CNT_CLR (execDoutCntClr who n)
  | .uhub => s.putUhub who l w
  | .eth => s.putEth who n l
  | .mem => s.onPut l MEM_CNT_CLR_CLR (execMemCntClr who)
  | .pd => s.putPd who n l
  | .mbx => s.onPut l MB_CNT_CLR_CLR (execMbCntClr who)
  | .mbch =>
    let s := s.onPut l MB_DOORBELL_ABORT (execAbort who n)
    let v := fun (f : Field) => (pick l f).getD (s.rd p f)
    if puts1 l MB_DOORBELL_GO then s.via (execGo who n (v MB_DOORBELL_CMD) (v MB_DOORBELL_LEN) (v MB_DOORBELL_TAG))
    else
      let cmd := v MB_DOORBELL_CMD
      let len := v MB_DOORBELL_LEN
      let tag := v MB_DOORBELL_TAG
      ((s.wr p MB_DOORBELL_CMD cmd).wr p MB_DOORBELL_LEN len).wr p MB_DOORBELL_TAG tag
  | .safe | .path | .almSh | .shaper | .shpctl => s

/-- The accepted fields of a word take effect. (log 30, DEDUCED) -/
def State.putAll (s : State) (who : Initiator) (p : Page) (l : List (Field × Nat)) (w be : Nat) : State :=
  let s := l.foldl (fun s x => s.storePut p x) s
  if p.kind.hasHeader && w < 0x080 / 4 then s.putHeader who p l w else s.putBlock who p l w be

/-- A write of word `w` of a page that is not gated: the refused fields are dropped, once, for the highest cause (R50),
and the others take effect. A write with both ARM and CANCEL acts as CANCEL alone (R50). -/
def State.writePage (s : State) (who : Initiator) (p : Page) (w be value : Nat) : State :=
  let addr := p.base + 4 * w
  let h := headerOf p
  if p.kind = .safe && who != .ngunov then s.drop p who 4 addr
  else if s.is h PG_STATUS_IN_RESET && blockBit p (32 * w) then s
  else if closedTo p who w then s.drop p who 2 addr
  else
    let l := (s.puts p w be value)
    let both := fun (a c : Field) => puts1 l c && puts1 l a
    let l := if p.kind.hasHeader && both PG_SHADOW_CTRL_ARM PG_SHADOW_CTRL_CANCEL then
        l.filter fun x => x.1.bit != PG_SHADOW_CTRL_ARM.bit else l
    let l := if p.kind = .link && both LK_PAIR_SCTRL_ARM LK_PAIR_SCTRL_CANCEL then
        l.filter fun x => x.1.bit != LK_PAIR_SCTRL_ARM.bit else l
    let why := (l.map fun x => if s.putCounts p who x then s.putCause p who x else 0).foldl max 0
    let s := s.putAll who p (l.filter fun x => s.putCause p who x = 0) w be
    s.when (why != 0) fun s => s.drop h who why addr

/-- A write of the word at byte address `a` (R14, R38, R39); the path table takes its own writes (R136). (log 30, DEDUCED) -/
def State.writeWord (s : State) (who : Initiator) (a be value : Nat) : State :=
  match pageAt a with
  | none => s
  | some p =>
    let w := (a - p.base) / 4
    if who = .jtag && !s.jtagReaches p w then s
    else if s.gated p then s.gatedAccess a true
    else if p.kind = .path then s.via (execPathEntryWrite who p.inst w be value)
    else s.writePage who p w be value

end Sys2Proof.Machine
end

