-- ==== Sys2Proof/Machine/BridgeOps.lean ====
section
/-! DEFINITION. The register bridges' shared operations: the REMOTE window (R245 to R247, R472), discarded words (R248, R249) and the SMBus target's reads (R250 to R252). -/

namespace Sys2Proof.Machine

open Reg

/-! ### Slots and hubs -/

/-- The slot that an initiator's remote accesses use (R472). -/
def State.remSlot (s : State) (who : Initiator) : Nat :=
  match hostDom who with
  | some d => d
  | none => if s.bound 0 then 0 else 1

/-- The hub that an initiator has selected (R245). -/
def State.remHub (s : State) (who : Initiator) : Nat := s.rd bridge (BR_RSEL_BANK.nth (initCode who))

/-- Is an access not sent to any peer, ending at once (R472)? -/
def State.remDead (s : State) (x : RemAcc) : Bool := x.hub = 0 || x.hub = 0xFFFF || !s.bound x.dom

/-- Does an access map onto this hub's own lower 16 MiB (R472)? -/
def State.remOwn (s : State) (x : RemAcc) : Bool := s.hubId x.dom = x.hub

/-- CTRL_TIMEOUT is raised and counted (R146, R472). -/
def State.ctrlTimeout (s : State) : State := (s.count pathctl PC_CNT_CTRL_TO).raise pathctl 10

/-! ### Requests -/

/-- `use` of a request that carries a remote access of an initiator (R146). -/
def remUse (who : Initiator) : Nat := initCode who + 1

/-- `use` of the SMBus target's read-ahead. (log 65, DEDUCED) -/
def aheadUse : Nat := 8

/-- The initiator of a request that carries a remote access. -/
def useWho (u : Nat) : Initiator := if u = aheadUse then .smbus else codeInit (u - 1)

/-- The lowest TAG of a slot that no request holds. -/
def State.freeTag (s : State) (d : Nat) : Option Nat :=
  (List.range 1024).find? fun t => !s.reqs.any fun r => r.dom = d && r.tag = t

/-- Send a request of the bridges and record it under its TAG. -/
def State.remSend (s : State) (use cop : Nat) (x : RemAcc) (words : List Nat) : State :=
  match s.freeTag x.dom with
  | none => s
  | some t =>
    let r : Req := ⟨x.dom, t, cop, x.hub, 1, use, x.addr, s.clock⟩
    let s := { s with
      reqs := s.reqs ++ [r]
      endedReads := s.endedReads.filter fun r => !(r.dom = x.dom && r.tag = t) }
    s.ctrlSend ⟨x.hub, s.hubId x.dom, cop, 255, false, x.dom, 0, t, words⟩

/-- W0 of REG_READ and REG_WRITE (R143). -/
def regWord (top n addr : Nat) : Nat := top * 2 ^ 28 + (n - 1) * 2 ^ 24 + addr % 2 ^ 24

/-! ### Prefetch (R247) -/

/-- How long a prefetched block serves, ns (R247, R258). -/
def State.pfLife (s : State) : Nat := orOne (s.rd bridge BR_CFG_PF_LIFE) * 1000

/-- Drop the blocks that meet `q`. -/
def State.pfDrop (s : State) (q : PfBlock → Bool) : State := { s with prefetch := s.prefetch.filter fun b => !q b }

/-- Keep a block; it takes the place of an older one of the same initiator and address. -/
def State.pfKeep (s : State) (b : PfBlock) : State :=
  { s with prefetch := (s.prefetch.filter fun o => !(o.who = b.who && o.hub = b.hub && o.addr = b.addr)) ++ [b] }

/-- A live block of an initiator that holds `n` words from an address on: those words. (log 66, DEDUCED) -/
def State.pfFind (s : State) (who : Initiator) (hub addr n : Nat) : Option (List Nat) :=
  (s.prefetch.find? fun b => b.who = who && b.hub = hub && b.addr ≤ addr && addr + 4 * n ≤ b.addr + 4 * b.words.length &&
    s.clock < b.time + s.pfLife).map fun b => (b.words.drop ((addr - b.addr) / 4)).take n

/-! ### Discarded words (R248, R249) -/

/-- Words of ranges without side effect are dropped; the last of the others enters BR_LD_DATA, and each is counted. Each
word comes as its address, its value, and whether it came from a peer hub. -/
def State.lastDiscard (s : State) (code hub : Nat) (l : List (Nat × Nat × Bool)) : State :=
  match l.getLast? with
  | none => s
  | some (a, v, far) =>
    let s := s.when (s.is bridge BR_LD_STATUS_VALID) fun s => s.wr bridge BR_LD_STATUS_OVF 1
    let s := (s.wr bridge BR_LD_DATA_DATA v).wr bridge BR_LD_ADDR_ADDR a
    let s := (s.wr bridge BR_LD_STATUS_SRC code).wr bridge BR_LD_STATUS_REMOTE (bit far)
    let s := (s.wr bridge BR_LD_STATUS_HUB_ID (if far then hub else 0)).wr bridge BR_LD_STATUS_VALID 1
    (s.sat bridge BR_CNT_POP_LOST l.length).raise bridge 0

/-- The words of a REG_READ response that lie outside the side-effect-free ranges (R246): address and value. -/
def nsefWords (c : Ctrl) : List (Nat × Nat × Bool) :=
  let a := ctrlWord c 0 % 2 ^ 24
  if (ctrlWord c 0).testBit 31 then
    (((List.range (c.words.length - 1)).map fun i => (a + 4 * i, ctrlWord c (i + 1), true)).filter fun x => !sefAt x.1).map
      fun x => (0x1000000 + x.1, x.2)
  else []

/-! ### The SMBus target's delayed read (R248, R251) -/

/-- The address of word `i` from a pointer on: 25 bits (R251). (log 66, DEDUCED) -/
def smbAddr (a i : Nat) : Nat := (a + 4 * i) % 2 ^ 25

/-- Does an address lie in the REMOTE window? (log 65, DEDUCED) -/
def isFar (a : Nat) : Bool := 0x1000000 ≤ a

/-- Set the SMBus state (R251): 0 IDLE, 1 BUSY, 2 READY, 3 TIMEOUT, 4 DISCARDED. -/
def State.smbState (s : State) (n : Nat) : State := s.wr bridge BR_SMB_STATUS_STATE n

/-- The words of a read that a discard loses (R248). -/
def SmbRead.lost (r : SmbRead) : List (Nat × Nat × Bool) :=
  ((List.range r.words.length).filter fun i =>
    if r.first ≤ i && i < r.first + r.far then r.nsef && r.miss = 0 && !sefAt (smbAddr r.addr i % 0x1000000)
    else !sefAt (smbAddr r.addr i)).map fun i =>
      (smbAddr r.addr i, r.words.getD i 0, isFar (smbAddr r.addr i))

/-- The result of a delayed read is discarded (R248); a read that still waits for a peer ends, and what the peer returns
later is handled as R249 says. (log 65, DEDUCED) -/
def State.smbDiscard (s : State) : State :=
  match s.smb with
  | none => s
  | some r =>
    let open_ := s.reqs.filter fun q => q.use = remUse .smbus && q.cop = 3
    let s := { s with
      smb := none, reqs := s.reqs.filter fun q => !(q.use = remUse .smbus && q.cop = 3)
      endedReads := s.endedReads ++ open_, remq := s.remq.filter fun (x : RemAcc) => !(x.who = Initiator.smbus && x.n != 0) }
    let lost := if s.rd bridge BR_SMB_STATUS_STATE = 3 then [] else r.lost
    ((s.smbState 4).count bridge BR_CNT_DISCARD).lastDiscard 3 r.hub lost

/-- The delayed read's remote part ends without data (R56, R472): TIMEOUT, with zero data. (log 65, DEDUCED) -/
def State.smbTimeout (s : State) : State :=
  match s.smb with
  | none => s
  | some r => { s with smb := some { r with words := r.words.map fun _ => 0, miss := 0, time := s.clock } }.smbState 3

/-- Read words for the SMBus target, those of the REMOTE window as 0. (log 65, DEDUCED) -/
def State.smbRead (s : State) : List Nat → State × List Nat
  | [] => (s, [])
  | a :: t =>
    let (s, v) := if isFar a then (s, 0) else s.readWord .smbus a
    let (s, vs) := s.smbRead t
    (s, v :: vs)

/-- Put `vs` into a list from index `i` on. -/
def splice (l : List Nat) (i : Nat) (vs : List Nat) : List Nat := l.take i ++ vs ++ l.drop (i + vs.length)

/-! ### The REMOTE window -/

/-- A remote read gives its words to its initiator. (log 67, DEDUCED) -/
def State.remGive (s : State) (x : RemAcc) (vs : List Nat) : State :=
  if x.who = .smbus then
    match s.smb with
    | none => s
    | some r => { s with smb := some { r with words := splice r.words r.first vs, miss := 0 } }
  else s.send (.readData x.who (vs.headD 0))

/-- Read the words of an access on this hub's own registers. -/
def State.remReadOwn (s : State) (x : RemAcc) : State :=
  let r := (List.range x.n).foldl (fun (r : State × List Nat) i =>
    let (s, v) := r.1.readWord x.who ((x.addr + 4 * i) % 2 ^ 24)
    (s, r.2 ++ [v])) (s, [])
  r.1.remGive x r.2

/-- Carry out an access to the REMOTE window (R245 to R247, R472). -/
def State.remDo (s : State) (x : RemAcc) : State :=
  let block := x.addr / 64 * 64
  if s.remDead x then
    let s := s.ctrlTimeout
    if x.n = 0 then s else if x.who = .smbus then s.smbTimeout else s.send (.readData x.who 0)
  else if x.n = 0 then
    let s := s.pfDrop fun b => b.who = x.who && b.hub = x.hub
    if s.remOwn x then
      (List.range x.words.length).foldl (fun s i => s.writeWord x.who ((x.addr + 4 * i) % 2 ^ 24) x.be (x.words.getD i 0)) s
    else s.remSend (remUse x.who) 4 x (regWord (if x.be = 15 then 0 else x.be) x.words.length x.addr :: x.words)
  else if s.remOwn x then s.remReadOwn x
  else match s.pfFind x.who x.hub x.addr x.n with
    | some vs => (s.remGive x vs).count bridge BR_CNT_PF_HIT
    | none =>
      let pf := x.who != .smbus && s.is bridge BR_CFG_PF_EN
      let s := s.pfDrop fun b => b.who = x.who && b.hub = x.hub && b.addr = block
      s.remSend (remUse x.who) 3 x [regWord (if pf then 8 else 0) x.n x.addr]

/-- Must an access wait: behind an earlier one of its initiator, a read for the responses of that initiator's writes
(R245), or for a TAG? -/
def State.remBlocked (s : State) (x : RemAcc) : Bool :=
  (s.remq.any fun y => y.who = x.who) ||
  (x.n != 0 && s.reqs.any fun r => r.use = remUse x.who && r.cop = 4) || (s.freeTag x.dom).isNone

/-- Carry out an access, or let it wait. -/
def State.remIssue (s : State) (x : RemAcc) : State :=
  if s.remBlocked x then { s with remq := s.remq ++ [x] } else s.remDo x

/-- The waiting accesses that can go now go, in their order. (log 64, DEDUCED) -/
def State.remServe (s : State) : State := s.remq.foldl State.remIssue { s with remq := [] }

/-! ### Responses -/

/-- A remote read ends with the words of its response; a response that brings no data leaves them free. -/
def State.remRead (s : State) (r : Req) (c : Ctrl) : State :=
  let who := useWho r.use
  let a := ctrlWord c 0 % 2 ^ 24
  let data := c.words.drop 1
  let near := data.drop ((r.addr - a) / 4)
  let keep := data.length = 16 && !(ctrlWord c 0).testBit 31
  let blk : PfBlock := ⟨who, r.dest, r.dom, a, data, s.clock⟩
  if r.use = aheadUse then
    s.when (c.status = 0 && !(ctrlWord c 0).testBit 31) fun s => s.pfKeep { blk with addr := 0x1000000 + a }
  else if who = .smbus then
    match s.smb with
    | none => s
    | some b =>
      let ok := c.status = 0 && b.far ≤ data.length
      let vs := if ok then data.take b.far else (List.range b.far).map fun i => Config.freeValue (s.fresh + i) % 2 ^ 32
      let s := s.when (!ok) fun s => { s with fresh := s.fresh + b.far }
      { s with smb := some { b with words := splice b.words b.first vs, miss := 0, nsef := ok && (ctrlWord c 0).testBit 31 } }
  else
    let ok := c.status = 0 && !near.isEmpty
    let s := s.when (ok && keep) fun s => s.pfKeep blk
    if ok then s.send (.readData who (near.headD 0))
    else (s.send (.readData who (s.freeNat % 2 ^ 32))).tookFree

/-- A response meets its recorded request (R146, R249). (log 67, DEDUCED) -/
def State.respond (s : State) (c : Ctrl) : State :=
  let mine := fun (r : Req) => r.dom = c.dom && r.tag = c.tag && r.cop = c.cop
  match s.reqs.find? mine with
  | some r =>
    if r.use = 0 then s.settle c
    else
      let s := { s with reqs := s.reqs.erase r }
      (if r.cop = 3 then s.remRead r c else s).remServe
  | none => match s.endedReads.find? mine with
    | some r => { s with endedReads := s.endedReads.erase r }.lastDiscard (initCode (useWho r.use)) r.dest (nsefWords c)
    | none => s

end Sys2Proof.Machine
end

