-- ==== Sys2Proof/Machine/Bridge.lean ====
section
/-! DEFINITION. The register bridges (spec/10_pcie_and_bridging.md, R245 to R252): remote accesses, REG_READ and REG_WRITE, control responses and timeouts (R146), the SMBus commands, and prefetch expiry. -/

namespace Sys2Proof.Machine

open Reg

/-! ### The REMOTE window -/

/-- REMOTE_ACCESS (R56, R472): adapter engines, peers and JTAG do not reach the window; the board controller reaches it
through the SMBus commands. (log 64, DEDUCED) -/
def execRemoteAccess (who : Initiator) (off : Nat) (write : Bool) (be value : Nat) (s : State) : Res :=
  let reach := who = .host0 || who = .host1 || who = .marionette || who = .ngunov
  let x : RemAcc := ⟨who, s.remHub who, s.remSlot who, off / 4 * 4, if write then 0 else 1, be, if write then [value] else []⟩
  .next (s.when reach fun s =>
    if s.gated bridge then
      ((s.gatedAccess (0x1000000 + off) write).when (!write) fun s => s.send (.readData who 0)).hostWake s.ps who
    else (s.when (s.works bridge && !(write && be = 0)) fun s => s.remIssue x).hostWake s.ps who)

/-! ### Requests of a peer -/

/-- The words that a REG_READ or a REG_WRITE names, from W0 (R143); `none` where it is a BAD_REQ. -/
def regRange (c : Ctrl) : Option (Nat × Nat) :=
  let n := ctrlWord c 0 / 2 ^ 24 % 16 + 1
  let a := ctrlWord c 0 % 2 ^ 24
  if c.words.isEmpty || a % 4 != 0 || 0x1000000 < a + 4 * n then none else some (a, n)

/-- Read `n` words from an address on, as the remote initiator. -/
def State.readWords (s : State) (a : Nat) : Nat → State × List Nat
  | 0 => (s, [])
  | n + 1 =>
    let (s, v) := s.readWord .remote a
    let (s, vs) := s.readWords (a + 4) n
    (s, v :: vs)

/-- REG_READ (R143, R246). -/
def State.regRead (s : State) (port : Nat) (c : Ctrl) : State :=
  match regRange c with
  | none => s.refuse port c 7 []
  | some (a, n) =>
    let block := (ctrlWord c 0).testBit 31 && sefAt a
    let b := if block then a / 64 * 64 else a
    let k := if block then 16 else n
    let nsef := (List.range k).any fun i => !sefAt (b + 4 * i)
    let r := s.readWords b k
    r.1.answer port c 0 ((bit nsef * 2 ^ 31 + (k - 1) * 2 ^ 24 + b) :: r.2)

/-- REG_READ (R246). -/
def execRegRead (s : State) : Res := s.onRequest 3 State.regRead

/-- REG_WRITE (R143). -/
def State.regWrite (s : State) (port : Nat) (c : Ctrl) : State :=
  match regRange c with
  | none => s.refuse port c 7 []
  | some (a, n) =>
    let be := ctrlWord c 0 / 2 ^ 28
    if c.words.length != n + 1 || (be != 0 && n != 1) then s.refuse port c 7 []
    else ((List.range n).foldl (fun s i => s.writeWord .remote (a + 4 * i) (if be = 0 then 15 else be) (ctrlWord c (i + 1)))
      s).answer port c 0 []

/-- REG_WRITE (R143). -/
def execRegWrite (s : State) : Res := s.onRequest 4 State.regWrite

/-! ### Responses and timeouts -/

/-- CTRL_RESPONSE_RX (R146, R245, R249): the oldest response delivered to this hub. -/
def execCtrlResponseRx (s : State) : Res :=
  match s.takeLocal fun c => c.rsp with
  | some (s, _, c) => .next (s.respond c)
  | none => .next s

/-- PC_CFG.CTRL_TO in ns. -/
def State.ctrlTo (s : State) : Nat := clamp 10 65535 (s.rd pathctl PC_CFG_CTRL_TO) * 1000

/-- A recorded request ends without a response (R146, R472). -/
def State.endReq (s : State) (r : Req) : State :=
  let s := { s with reqs := s.reqs.erase r }.ctrlTimeout
  if r.use = 0 then s
  else
    let s := s.when (r.cop = 3) fun s =>
      let s := { s with endedReads := s.endedReads ++ [r] }
      if r.use = aheadUse then s
      else if useWho r.use = .smbus then s.smbTimeout else s.send (.readData (useWho r.use) 0)
    s.remServe

/-- CTRL_TIMEOUT (R146): no timeout applies to a request whose number of responses is not known. -/
def execCtrlTimeout (dom tag : Nat) (s : State) : Res :=
  match s.reqs.find? fun r => r.dom = dom && r.tag = tag && r.expect != 0 with
  | some r => .next (s.when (r.time + s.ctrlTo ≤ s.clock) fun s => s.endReq r)
  | none => .next s

/-! ### The SMBus target -/

/-- A write of the board controller: with PEC = 1 and a bad PEC it is discarded, and SMB_PEC raised (R250). -/
def State.smbWrite (s : State) (pecOk : Bool) (act : State → State) : Res :=
  .next (if s.is bridge BR_SMB_CFG_PEC && !pecOk then s.raise bridge 1 else act s)

/-- An unknown code or a count out of range (R251). -/
def State.smbProto (s : State) : State := s.raise bridge 2

/-- SET_ADDR (R248, R251): a held result is discarded. -/
def execSetAddr (pecOk : Bool) (addr : Nat) (s : State) : Res :=
  s.smbWrite pecOk fun s => s.smbDiscard.wr bridge BR_SMB_PTR_ADDR (addr / 4 * 4)

/-- The indices of a transfer of `n` words from `a` on that lie in the REMOTE window: the first, and how many. -/
def farPart (a n : Nat) : Nat × Nat :=
  let l := (List.range n).filter fun i => isFar (smbAddr a i)
  (l.headD 0, l.length)

/-- The remote part of a transfer of the SMBus target. -/
def State.smbFar (s : State) (a first n : Nat) (words : List Nat) : RemAcc :=
  ⟨.smbus, s.remHub .smbus, s.remSlot .smbus, smbAddr a first % 0x1000000, n, 15, words⟩

/-- SMB_WRITE (R251): 1 to 8 words from the pointer, which advances. Prefetched words of this target are dropped. -/
def execSmbWrite (pecOk : Bool) (words : List Nat) (s : State) : Res :=
  s.smbWrite pecOk fun s =>
    if words.isEmpty || 8 < words.length then s.smbProto
    else
      let a := s.rd bridge BR_SMB_PTR_ADDR
      let (first, far) := farPart a words.length
      let s := s.pfDrop fun b => b.who = .smbus
      let s := (List.range words.length).foldl (fun s i =>
        if isFar (smbAddr a i) then s else s.writeWord .smbus (smbAddr a i) 15 (words.getD i 0)) s
      let s := s.wr bridge BR_SMB_PTR_ADDR (smbAddr a words.length)
      s.when (far != 0) fun s => s.remIssue (s.smbFar a first 0 ((words.drop first).take far))

/-- READ_START (R247, R248, R251): a held result is discarded; words read ahead are READY at once; words of this hub are
read at once and those of a peer are asked for. -/
def execReadStart (pecOk : Bool) (n : Nat) (s : State) : Res :=
  s.smbWrite pecOk fun s =>
    if n = 0 || 8 < n then s.smbProto
    else
      let a := s.rd bridge BR_SMB_PTR_ADDR
      let (first, far) := farPart a n
      let hub := s.remHub .smbus
      let s := s.smbDiscard.wr bridge BR_SMB_STATUS_NWORDS (n - 1)
      match s.pfFind .smbus (if far = 0 then 0 else hub) a n with
      | some vs =>
        let s := s.pfDrop fun b => b.who = .smbus
        { s with smb := some ⟨a, vs, first, 0, far, hub, false, s.clock⟩ }.smbState 2 |>.count bridge BR_CNT_PF_HIT
      | none =>
        let s := s.pfDrop fun b => b.who = .smbus
        let (s, vs) := s.smbRead ((List.range n).map (smbAddr a))
        let s := { s with smb := some ⟨a, vs, first, far, far, hub, false, s.clock⟩ }.smbState 1
        s.when (far != 0) fun s => s.remIssue (s.smbFar a first far [])

/-- SMB_READ_DONE (R245, R248): the words are there, the result is held, and the discard timer starts. -/
def execSmbReadDone (s : State) : Res :=
  match s.smb with
  | some r => .next (s.when (s.rd bridge BR_SMB_STATUS_STATE = 1 && r.miss = 0) fun s =>
      { s with smb := some { r with time := s.clock } }.smbState 2)
  | none => .next s

/-- The bridge reads the next words ahead, if all lie in side-effect-free ranges (R247). -/
def State.smbAhead (s : State) (a n : Nat) : State :=
  let as := (List.range n).map (smbAddr a)
  let (first, far) := farPart a n
  let x := s.smbFar a first far []
  let free := as.all fun b => sefAt (b % 0x1000000) && (isFar b || match pageAt b with
    | some p => !s.gated p
    | none => true)
  if !s.is bridge BR_CFG_PF_EN || !free then s
  else if far = 0 then s.pfKeep ⟨.smbus, 0, 0, a, as.map fun b => (s.readWord .smbus b).2, s.clock⟩
  else if far = n && !s.remDead x && !s.remOwn x && !s.remBlocked x then
    s.remSend aheadUse 3 x [regWord 0 n x.addr]
  else s

/-- READ_DATA (R250 to R252): the state, and the data with READY, else zeros. A result is collected with the last byte;
a READY one advances the pointer, and the next words are read ahead. -/
def execReadData (collected : Bool) (s : State) : Res :=
  let st := s.rd bridge BR_SMB_STATUS_STATE
  let n := s.rd bridge BR_SMB_STATUS_NWORDS + 1
  let vs := match s.smb with
    | some r => if st = 2 then r.words else List.replicate n 0
    | none => List.replicate n 0
  let s := s.send (.smbus (BitVec.ofNat 8 st :: vs.flatMap fun v => leBytes 4 v) (s.is bridge BR_SMB_CFG_PEC))
  .next (s.when (collected && (st = 2 || st = 3)) fun s =>
    let a := s.rd bridge BR_SMB_PTR_ADDR
    let s := { s with smb := none }.smbState 0
    s.when (st = 2) fun s => (s.wr bridge BR_SMB_PTR_ADDR (smbAddr a n)).smbAhead (smbAddr a n) n)

/-- Is SMBALERT_N low (R250)? -/
def State.smbAlert (s : State) : Bool := s.is bridge BR_SMB_CFG_ALERT_EN && s.intActive bridge

/-- SMB_STATUS (R251). -/
def execSmbStatus (s : State) : Res :=
  let v := bit (s.is bridge BR_LD_STATUS_VALID) * 32 + bit s.smbAlert * 16 + s.rd bridge BR_SMB_STATUS_STATE
  .next (s.send (.smbus [BitVec.ofNat 8 v] (s.is bridge BR_SMB_CFG_PEC)))

/-- SELECT (R245, R247, R251): the SMBus copy of BR_RSEL.HUB_ID; its prefetched words are dropped. -/
def execSelect (pecOk : Bool) (hub : Nat) (s : State) : Res :=
  s.smbWrite pecOk fun s => s.access .smbus bridge BR_RSEL_HUB_ID fun s =>
    (s.wr bridge (BR_RSEL_BANK.nth 3) hub).pfDrop fun b => b.who = .smbus

/-- SMB_PROTO (R251): another code or count is discarded. -/
def execSmbProto (s : State) : Res := .next s.smbProto

/-- ALERT_RESPONSE (R250). (log 66, DEDUCED) -/
def execAlertResponse (s : State) : Res := .next (s.send (.smbAlert (s.rd bridge BR_SMB_CFG_ADDR)))

/-- SMB_DISCARD (R248): a result held for DISC_TO × 16 µs is discarded. -/
def execSmbDiscard (s : State) : Res :=
  let st := s.rd bridge BR_SMB_STATUS_STATE
  match s.smb with
  | some r => .next (s.when ((st = 2 || st = 3) && r.time + clamp 4 4000 (s.rd bridge BR_CFG_DISC_TO) * 16000 ≤ s.clock)
      State.smbDiscard)
  | none => .next s

/-- PREFETCH_EXPIRY (R247): blocks whose life has ended are dropped. -/
def execPrefetchExpiry (s : State) : Res := .next (s.pfDrop fun b => b.time + s.pfLife ≤ s.clock)

end Sys2Proof.Machine
end

