-- ==== Sys2Proof/Machine/Access.lean ====
section
/-! DEFINITION. Register accesses that have no command of their own (R42, R44), the end of a derivation (R45), and USB4 configuration-space accesses (R116, R120). -/

namespace Sys2Proof.Machine

open Reg

/-- REGISTER_WRITE (R39, R43 to R46, R50, R55). -/
def execRegisterWrite (who : Initiator) (t : WriteTarget) (s : State) : Res :=
  match t with
  | .word a be v => .next ((s.writeWord who (a.val / 4 * 4) be.val v.val).hostWake s.ps who)
  | .msixMask d e m => .next ((s.wr glb (GLB_MSIX_MASKED.nth (512 * d.val + e.val)) (bit m)).releaseMsix d.val)
  | .msixEnable d on => .next ((s.wr glb (GLB_MSIX_ENABLED.nth d.val) (bit on)).releaseMsix d.val)

/-- POP_READ (R38, R39, R42): the word is read with its side effect, and its data goes to the reader. -/
def execPopRead (who : Initiator) (addr : Nat) (s : State) : Res :=
  let r := s.readWord who (addr / 4 * 4)
  .next ((r.1.send (.readData who r.2)).hostWake s.ps who)

/-- Moabeuc writes the X fields of a word that the page takes from it at the basic level (R45). (log 18, DESIGN CHOICE) -/
def State.deriveWord (s : State) (p : Page) (x : Nat × Nat) : State :=
  let l := (s.puts p x.1 15 x.2).filter fun y => y.1.lvl = .x && s.putCause p .marionette y = 0
  s.putAll .marionette p l x.1 15

/-- DERIVATION_DONE (R45, R211): Moabeuc has written the X fields of a page afresh; it clears DERIVING, and the hub sets
LEVEL_DONE. (log 18, DESIGN CHOICE) -/
def execDerivationDone (p : Page) (vals : List (Nat × Nat)) (s : State) : Res :=
  s.onPage p fun s => s.when (s.moabeuc && s.is p PG_STATUS_DERIVING && !s.is p PG_CTRL_EXPERT && !s.gated p) fun s =>
    let s := if p.kind = .almSh then s.when (!s.is p PG_SHADOW_CTRL_ARMED) fun s => s.deriveAlm p.inst
      else vals.foldl (fun s x => s.deriveWord p x) s
    (s.wr p PG_STATUS_DERIVING 0).setInt p intLevelDone

/-- USB4_CONFIG_ACCESS (R116, R120): an access is one of the host that owns the presentation. In role 0b01 enumeration is
answered only after the host interface adapter is enabled. -/
def execUsb4ConfigAccess (dom : Nat) (a : Usb4Access) (s : State) : Res :=
  let who := domInit dom
  match a with
  | .enumerate => .next (s.when (s.moabeuc && (s.rd glb GLB_STRAP_ROLE != 1 || s.is glb (GLB_HIA_EN.nth dom))) fun s =>
      s.send (.router dom))
  | .read a =>
    let r := s.readWord who (a.val / 4 * 4)
    .next (r.1.send (.readData who r.2))
  | .write a be v => .next (s.writeWord who (a.val / 4 * 4) be.val v.val)
  | .hostInterface on => .next (s.wr glb (GLB_HIA_EN.nth dom) (bit on))

end Sys2Proof.Machine
end

