-- ==== Sys2Proof/Machine/Safe.lean ====
section
/-! DEFINITION. The commands of the Ngunov safety island (spec/16_ngunov_safety_island.md, R354, R359): trips, thermal limits, the interlock, requests and the safety reset. -/

namespace Sys2Proof.Machine

open Reg

/-- Is the SAFE island powered? Its trip hardware acts whatever its core does (R366). -/
def State.safeOn (s : State) : Bool := s.rdBit glb GLB_ISL_PWR_PWR 1

/-! ### Trips -/

/-- A trip of the island's hardware on port `n`, as measured (R371); an FRS_ARM is over with it. -/
def State.portTrip (s : State) (n vbus ibus src : Nat) (cond : State → Bool) : State :=
  s.when s.safeOn fun s =>
    let s := s.measure n vbus ibus
    s.when (cond s) fun s => s.trip n src true

/-- OV_TRIP (R371): VBUS is above OV_MV. -/
def execOvTrip (n vbus ibus : Nat) (s : State) : Res :=
  .next (s.portTrip n vbus ibus 1 fun s => s.rd safe (SP_LIM_OV_MV.nth n) < vbus)

/-- OC_TRIP (R371): the current's magnitude is above IMAX_MA, or the current in the port's role above OC_MA. -/
def execOcTrip (n vbus ibus : Nat) (s : State) : Res :=
  let i := signed 16 ibus
  .next (s.portTrip n vbus ibus 2 fun s =>
    let lim : Int := (s.rd safe (SP_LIM_OC_MA.nth n) : Nat)
    s.rd safe (SP_OCCFG_IMAX_MA.nth n) < i.natAbs ||
      (s.rd safe (SP_ROLE.nth n) = 1 && lim < i) || (s.rd safe (SP_ROLE.nth n) = 2 && lim < -i))

/-- RC_TRIP (R371): current against the role above RC_MA opens the closed switch. -/
def execRcTrip (n vbus ibus : Nat) (s : State) : Res :=
  let i := signed 16 ibus
  .next (s.when s.safeOn fun s =>
    let s := s.measure n vbus ibus
    let lim : Int := (s.rd safe (SP_RC_RC_MA.nth n) : Nat)
    s.when ((s.rd safe (SP_ROLE.nth n) = 1 && i < -lim) || (s.rd safe (SP_ROLE.nth n) = 2 && lim < i)) fun s =>
      s.trip n 3 false)

/-- VCONN_OC (R371): VCONN goes off, and PD raises VCONN_FAULT. -/
def execVconnOc (n : Nat) (s : State) : Res :=
  .next (s.when (s.safeOn && s.is safe (SP_STATE_VCONN.nth n)) fun s =>
    let s := ((s.vconnOff n).raise safe 4).wake 8 n 4
    s.when (!s.gated (pd n)) fun s => s.raise (pd n) 5)

/-! ### Temperature -/

/-- The hottest sensor, as it was last read. -/
def State.setTj (s : State) (tj : Nat) : State := s.wr safe SF_THERM_TJ_MAX tj

/-- THERM_WARN (R371): notify only. (log 116, DESIGN CHOICE) -/
def execThermWarn (tj : Nat) (s : State) : Res :=
  .next (s.when s.safeOn fun s =>
    let s := s.setTj tj
    s.when (signed 8 (s.rd safe SF_THERM_WARN_C) ≤ signed 8 tj) fun s => s.raise safe 5)

/-- THERM_TRIP (R371, R385): THERM_TRIP_N goes low, every source switch opens and VBUS is discharged, every VCONN goes
off, sink switches stay as they are; the hub enters Off. -/
def execThermTrip (tj : Nat) (s : State) : Res :=
  .next (s.when s.safeOn fun s =>
    let s := s.setTj tj
    s.when (115 ≤ signed 8 tj && !s.is safe SF_STATUS_THERM) fun s =>
      let s := (s.wr safe SF_STATUS_THERM 1).raise safe 6
      let s := (List.range 6).foldl (fun s n =>
        let s := s.vconnOff n
        s.when (s.srcOn n) fun s => s.trip n 6 true) s
      s.thermEntry)

/-- THERM_RELEASE (R372, R385): every sensor has stayed below 100 °C for 1 s. -/
def execThermRelease (tj : Nat) (s : State) : Res :=
  .next (s.when (s.safeOn && s.is safe SF_STATUS_THERM) fun s =>
    let s := s.setTj tj
    s.when (signed 8 tj < 100) fun s => (s.wr safe SF_STATUS_THERM 0).thermGo)

/-! ### Discharge and transitions -/

/-- DISCH_FAIL (R371): VBUS is above 0.8 V 265 ms after the discharge began; the port is held tripped with DISCH on. -/
def execDischFail (n vbus : Nat) (s : State) : Res :=
  .next (s.when (s.safeOn && s.is safe (SP_STATE_DISCH.nth n) && !s.is safe (SP_DISCH_FAILED.nth n) &&
      s.rd safe (SP_DISCH_TIME.nth n) + 265000000 ≤ s.clock && 800 < vbus) fun s =>
    let s := (s.wr safe (SP_DISCH_FAILED.nth n) 1).measure n vbus (s.rd safe (SP_IBUS.nth n))
    (s.trip n 7 false).offGo)

/-- TRANS_TIMEOUT (R371, R374): a transition window has been open for 1,000 ms; as OV_TRIP. -/
def execTransTimeout (n vbus ibus : Nat) (s : State) : Res :=
  .next (s.portTrip n vbus ibus 9 fun s =>
    s.is safe (SP_STATE_TRANS.nth n) && s.rd safe (SP_TRANS_TIME.nth n) + 1000000000 ≤ s.clock)

/-- DISCHARGE_COMPLETE (R359): VBUS has been at or below 0.8 V for 10 ms, and DISCH is released. -/
def execDischargeComplete (n vbus : Nat) (s : State) : Res :=
  .next (s.when (s.safeOn && s.is safe (SP_STATE_DISCH.nth n) && vbus ≤ 800) fun s =>
    let s := s.measure n vbus (s.rd safe (SP_IBUS.nth n))
    let s := (s.wr safe (SP_STATE_DISCH.nth n) 0).wr safe (SP_DISCH_FAILED.nth n) 0
    (s.pdDischarged n).offGo)

/-! ### The interlock -/

/-- PATH_CLOSE (R354, R355): the interlock lets a switch close that a request waits for, or the source switch after a
Fast Role Swap signal. -/
def execPathClose (n vbus : Nat) (s : State) : Res :=
  .next (s.when s.safeOn fun s =>
    let s := s.measure n vbus (s.rd safe (SP_IBUS.nth n))
    match Tab.find s.closers n with
    | some r => s.when (s.mayClose n (r.w1 % 2 = 1)) fun s =>
        ((s.closeNow n (r.w1 % 2 = 1)).endClose n 0).pdClosed n
    | none => s.when (s.is safe (SP_FRS_SEEN.nth n) && vbus < 4750 && s.mayClose n false) fun s =>
        (s.closeNow n false).pdClosed n)

/-- CLOSE_WAIT_TIMEOUT (R374): after 1,000 ms the close is answered STATE. -/
def execCloseWaitTimeout (n : Nat) (s : State) : Res :=
  .next (s.when (s.is safe (SP_STATE_CLOSE_WAIT.nth n) && s.rd safe (SP_CLOSE_TIME.nth n) + 1000000000 ≤ s.clock) fun s =>
    s.endClose n 3)

/-! ### Requests -/

/-- A request that an initiator's command word makes (R374). -/
def safeMsg (who : Initiator) (cmd port tag w1 w2 w3 : Nat) : SafeReq := ⟨who, cmd, port, tag, w1, w2, w3, false⟩

/-- SET_CONTRACT (R374). -/
def execSetContract (who : Initiator) (port tag lo hi ic phase : Nat) (s : State) : Res :=
  .next (s.safeReq (safeMsg who 1 port tag (lo * 65536 + hi) ic phase))

/-- CLOSE_PATH (R374). -/
def execClosePath (who : Initiator) (port tag : Nat) (sink : Bool) (s : State) : Res :=
  .next (s.safeReq (safeMsg who 2 port tag (if sink then 1 else 0) 0 0))

/-- OPEN_PATH (R374). -/
def execOpenPath (who : Initiator) (port tag : Nat) (sink : Bool) (s : State) : Res :=
  .next (s.safeReq (safeMsg who 3 port tag (if sink then 1 else 0) 0 0))

/-- DISCHARGE (R374). -/
def execDischarge (who : Initiator) (port tag : Nat) (s : State) : Res := .next (s.safeReq (safeMsg who 4 port tag 0 0 0))

/-- VCONN_REQ (R374). -/
def execVconnReq (who : Initiator) (port tag : Nat) (on : Bool) (s : State) : Res :=
  .next (s.safeReq (safeMsg who 5 port tag (if on then 1 else 0) 0 0))

/-- FRS_ARM (R374). -/
def execFrsArm (who : Initiator) (port tag : Nat) (armed : Bool) (s : State) : Res :=
  .next (s.safeReq (safeMsg who 6 port tag (if armed then 1 else 0) 0 0))

/-- CLEAR_TRIP (R374). -/
def execClearTrip (who : Initiator) (port tag : Nat) (s : State) : Res := .next (s.safeReq (safeMsg who 7 port tag 0 0 0))

/-- SET_LIMIT (R373, R374). -/
def execSetLimit (who : Initiator) (port tag limit pct : Nat) (s : State) : Res :=
  .next (s.safeReq (safeMsg who 8 port tag limit pct 0))

/-- SAFE_RESET (R374). -/
def execSafeReset (who : Initiator) (tag : Nat) (s : State) : Res := .next (s.safeReq (safeMsg who 9 0 tag 0 0 0))

/-- PATCH (R369, R374). -/
def execPatch (who : Initiator) (tag w1 w2 w3 : Nat) (s : State) : Res := .next (s.safeReq (safeMsg who 10 0 tag w1 w2 w3))

/-! ### Health -/

/-- Does the SAFE core run? In Yo-yo it sleeps, and its clock monitor and watchdog are suspended (R381). -/
def State.safeAwake (s : State) : Bool := s.safeOn && s.ps != 3

/-- LOCKSTEP_MISMATCH (R368). -/
def execLockstepMismatch (s : State) : Res := .next (s.when s.safeOn fun s => s.safetyReset 1)

/-- SAFE_CLOCK_FAULT (R368). -/
def execSafeClockFault (s : State) : Res := .next (s.when s.safeAwake fun s => s.safetyReset 2)

/-- SAFE_WATCHDOG (R368). -/
def execSafeWatchdog (s : State) : Res := .next (s.when s.safeAwake fun s => s.safetyReset 3)

/-- SAFE_SRAM_UE (R368). -/
def execSafeSramUe (s : State) : Res := .next (s.when s.safeOn fun s => s.safetyReset 4)

/-- SAFE_SUPPLY_LOW (R368): the island stays in reset until the supply returns. -/
def execSafeSupplyLow (s : State) : Res := .next (s.when s.safeOn fun s => (s.safetyReset 5).wr safe SF_CLK_BAD 1)

/-- SAFE_SUPPLY_RETURN (R368). -/
def execSafeSupplyReturn (s : State) : Res := .next (s.wr safe SF_CLK_BAD 0)

/-- SAFETY_RESET_COMPLETE (R375). -/
def execSafetyResetComplete (s : State) : Res :=
  .next (s.when (s.is safe PG_STATUS_IN_RESET && !s.is safe SF_CLK_BAD) fun s => s.safetyDone)

end Sys2Proof.Machine
end

