-- ==== Sys2Proof/Machine/StartUp.lean ====
section
/-! DEFINITION. Moabeuc's start-up: the configuration image (R20, R33, R439, R440), the Sticky image (R387, R397), the islands and blocks that come into service (R392, R433, R441), and FW_READY. -/

namespace Sys2Proof.Machine

open Reg

/-! ### Settings from the image -/

/-- Set a field from the image: a basic-level setting, which leaves an X field of a page at the expert level alone
(R20). -/
def State.fromImage (s : State) (p : Page) (f : Field) (v : Nat) : State :=
  if f.lvl = .x && s.expert p then s else s.wr p f v

/-- A byte of a section. -/
def byteAt (bs : List Byte) (i : Nat) : Nat := (bs.getD i 0).toNat

/-- A little-endian half-word of a section. -/
def halfAt (bs : List Byte) (i : Nat) : Nat := byteAt bs i + 256 * byteAt bs (i + 1)

/-- One entry of the board equalisation table (R64). -/
def eqEntry (b : List Byte) : EqEntry :=
  let low := fun i => byteAt b i % 64
  let clean := [2, 3, 4, 5].all (fun i => byteAt b i < 64) && byteAt b 6 < 16 && byteAt b 7 = 0 && byteAt b 1 % 16 ≤ 5
  ⟨byteAt b 0, byteAt b 1 / 16, byteAt b 1 % 16, low 2, low 3, low 4, low 5, clean⟩

/-- The board equalisation table; none where its MAGIC, VERSION, COUNT or CRC is wrong (R64, R65). -/
def eqParse (bs : List Byte) : List EqEntry :=
  let n := halfAt bs 6
  let es := cut bs 16 (8 * n)
  let ok := bs.take 4 = [0x4B, 0x45, 0x51, 0x54] && byteAt bs 4 = 1 && 1 ≤ n && n ≤ 512 && es.length = 8 * n &&
    crc32End (crc32Run 0xFFFFFFFF es) = leNat (cut bs 8 4)
  if ok then (List.range n).map fun i => eqEntry (cut es (8 * i) 8) else []

/-- A section with at least `n` bytes, its data as long as it should be (R439). (log 111, PRESUMED) -/
def State.sectionOf (s : State) (tag n : Nat) : Option (List Byte) :=
  (s.section? tag).filter fun b => n ≤ b.length

/-- The sections with a fixed content, by tag: the bytes they must have. -/
def sectionSize (tag : Nat) : Nat :=
  match tag with
  | 2 => 48 | 3 => 48 | 4 => 22 | 5 => 5 | 6 => 1 | _ => 0

/-- Is a section missing or malformed? (log 112, DEDUCED) -/
def State.sectionBad (s : State) (tag : Nat) : Bool :=
  match s.sectionOf tag (sectionSize tag) with
  | none => true
  | some b => tag = 1 && (eqParse b).isEmpty

/-- MB_CFG_STS, and CFG_DEFAULT for each section that defaults replace (R439). (log 112, DEDUCED) -/
def State.cfgReport (s : State) : State :=
  ((List.range 9).filter fun i => s.sectionBad (i + 1)).foldl
    (fun s i => (s.wrBit mbx MB_CFG_STS_DEFAULTED i true).raise mbx 1) (s.wr mbx MB_CFG_STS_DEFAULTED 0)

/-- The safety entry of a port: CBULK_UF, LIMIT_MJ, VS_DIV, IS_GAIN. -/
def safeEntry (b : List Byte) (n : Nat) : List Nat := (List.range 4).map fun j => halfAt b (8 * n + 2 * j)

/-- Has a port a valid safety entry: one that gives its sensing a scale? (log 112, DEDUCED) -/
def State.safeValid (s : State) (n : Nat) : Bool :=
  match s.sectionOf 3 48 with
  | none => false
  | some b => halfAt b (8 * n + 4) != 0 && halfAt b (8 * n + 6) != 0

/-- Is tunnel port `n` present: its policy says so and its safety entry is valid (R33, R439)? -/
def State.portPresent (s : State) (n : Nat) : Bool :=
  match s.sectionOf 2 48 with
  | none => false
  | some b => byteAt b (8 * n) % 2 = 1 && s.safeValid n

/-- The port policy of one port (R440). -/
def State.portPolicy (s : State) (n : Nat) : State :=
  let b := fun i => match s.sectionOf 2 48 with
    | none => 0
    | some l => byteAt l (8 * n + i)
  let s := (s.wr aon (AON_PRESENT.nth n) (bit (s.portPresent n))).wr (pd n) PD_MODES (b 0 / 2)
  s.when (s.portPresent n) fun s =>
    let s := (s.fromImage (pd n) PD_POLICY_ROLE (b 1 % 8)).fromImage (pd n) PD_POLICY_RP (b 1 / 8 % 4)
    let s := (s.fromImage (pd n) PD_POLICY_EPR_EN (b 1 / 32 % 2)).fromImage (pd n) PD_POLICY_FRS_EN (b 1 / 64 % 2)
    let s := (s.wr pathctl (PC_RING.nth n) (b 1 / 128)).fromImage (lane n) LN_TSYNC_CTRL_ROLE (b 2 % 4)
    (s.fromImage (link n) LK_CTRL_LP_MAX (b 2 / 4 % 4)).fromImage (pd n) PD_BUDGET_GUAR_W (b 3)

/-- The board section (R439). (log 111, PRESUMED) -/
def State.boardCfg (s : State) : State :=
  match s.sectionOf 4 22 with
  | none =>
    let s := (s.fromImage (pd 0) PD_BOARD_TOTAL_W 0).wr glb GLB_KLOYR_SVID 0
    let s := (List.range 16).foldl (fun s i => s.wr glb (GLB_GPIO.nth i) 255) s
    (List.range 6).foldl (fun s n => s.fromImage uhub (UH_PORT_PRESENT.nth n) 0) s
  | some b =>
    let s := (s.fromImage (pd 0) PD_BOARD_TOTAL_W (halfAt b 0)).wr glb GLB_KLOYR_SVID (halfAt b 2)
    let s := s.fromImage bridge BR_SMB_CFG_ADDR (byteAt b 4)
    let s := (List.range 6).foldl (fun s n => s.fromImage uhub (UH_PORT_PRESENT.nth n) (byteAt b 5 / 2 ^ n % 2)) s
    (List.range 16).foldl (fun s i => s.wr glb (GLB_GPIO.nth i) (if 47 < byteAt b (6 + i) then 255 else byteAt b (6 + i))) s

/-- The PCIe and memory sections (R439). -/
def State.portCfg (s : State) : State :=
  let b := (s.sectionOf 5 5).getD (List.replicate 5 0)
  let s := s.when (!s.fixedField pcie PE_CFG_BIFUR) fun s => s.fromImage pcie PE_CFG_BIFUR (byteAt b 0)
  let s := (List.range 4).foldl (fun s l =>
    let s := s.when (!s.fixedField pcie (PE_LINK_CFG_ATTACH.nth l)) fun s =>
      s.fromImage pcie (PE_LINK_CFG_ATTACH.nth l) (byteAt b (1 + l) % 4)
    s.fromImage pcie (PE_LINK_CFG_DOM.nth l) (byteAt b (1 + l) / 4)) s
  s.fromImage memp MEM_CFG_CAP (match s.sectionOf 6 1 with
    | some m => byteAt m 0
    | none => 0)

/-- The safety section goes to the Ngunov island, which keeps its own copy (R375, R397, R441) and takes it over where it
differs; a patch whose signature holds is taken while no port is in transition or waits for a close (R369). (log 113, DEDUCED) -/
def State.handSafe (s : State) : State :=
  let b := (s.sectionOf 3 48).getD []
  let img := (List.range 6).flatMap fun n => if s.safeValid n then cut b (8 * n) 8 else List.replicate 8 0
  let busy := (List.range 6).any fun n => s.is safe (SP_STATE_TRANS.nth n) || s.is safe (SP_STATE_CLOSE_WAIT.nth n)
  let s := if s.gated safe || Mem.readList 0 s.aonRam 0x3000 48 = img then s
    else { s with aonRam := Mem.writeList 0 s.aonRam 0x3000 img }.loadImage
  match s.section? 8 with
  | none => s
  | some p =>
    if s.gated safe || busy || !Config.patchGood p then s
    else
      let v := Config.patchNumber p
      let s := (s.wr safe SF_PATCH_HELD 1).wr safe SF_PATCH_HVER v
      (s.wr safe SF_STATUS_PATCH_OK 1).wr safe SF_STATUS_PATCH_VER v

/-- Pairs of register address and value, little-endian (R439). (log 113, DEDUCED) -/
def pairsOf : List Byte → List (Nat × Nat)
  | a :: b :: c :: d :: e :: f :: g :: h :: t => (leNat [a, b, c, d], leNat [e, f, g, h]) :: pairsOf t
  | _ => []

/-- The role overrides, applied at the basic level after the role defaults (R20, R439). -/
def State.overrides (s : State) : State :=
  (pairsOf ((s.section? 9).getD [])).foldl (fun s x => s.writeWord .marionette (x.1 / 4 * 4) 15 x.2) s

/-- Parse the configuration image (R439 to R441 step 2). -/
def State.parseCfg (s : State) : State :=
  let s := { s with eqTable := eqParse ((s.section? 1).getD []) }.cfgReport
  ((List.range 6).foldl State.portPolicy s).boardCfg.portCfg.handSafe

/-! ### The Sticky image -/

/-- Restore the Sticky registers after Yo-yo or Off (R387, R396, R397): GLB_RST_CAUSE, and what has been written since the
exit, stay as they are. (log 92, DEDUCED) -/
def State.restoreSticky (s : State) : State :=
  if s.is aon AON_IMG_OK && s.is aon AON_RESUME then
    let keep := fun (k : Nat) => (Tab.find s.regs k).isSome ||
      [GLB_RST_CAUSE_VALID, GLB_RST_CAUSE_LAST, GLB_RST_CAUSE_SRC].any fun f => key glb f = k
    { s with regs := s.stickyImg.foldl (fun (t : Tab Nat) (e : Nat × Nat) => if keep e.1 then t else t.put e.1 e.2) s.regs }.wr aon AON_RESUME 0
  else s.wr aon AON_RESUME 0

/-! ### Islands and blocks -/

/-- Does Moabeuc bring an island into service: a port that is present, and an island that no logic BIST has failed
(R33, R433)? -/
def State.islandServes (s : State) (i : Nat) : Bool :=
  !s.rdBit bist BIST_LB_STS_FAIL i &&
    (if 6 ≤ i && i ≤ 11 then s.is aon (AON_PRESENT.nth (i - 6)) else i != 12 || (s.sectionOf 5 5).isSome)

/-- Power the remaining islands in the order of R392; one out of service is kept down. -/
def State.startIslands (s : State) : State :=
  (List.range 14).foldl (fun s j =>
    let i := j + 3
    if s.islandServes i then s.runIsland i else s.stopIsland i) s

/-- Does Moabeuc treat the block of a page as absent (R33, R438, R439)? (log 109, DEDUCED) -/
def State.blockAbsent (s : State) (p : Page) : Bool :=
  (match p.kind with
    | .pd => !s.is aon (AON_PRESENT.nth p.inst)
    | .ulane => !s.is uhub (UH_PORT_PRESENT.nth p.inst)
    | _ => false) ||
  (List.range 24).any fun e => enginePage e = p && s.is mbx (ENG_DEAD.nth e)

/-- Set ENABLE on every block in service, and clear it on those treated as absent (R469). -/
def State.enableBlocks (s : State) : State :=
  (PageKind.all.filter fun k => k.hasHeader && k != .safe).foldl (fun s k =>
    (List.range k.count).foldl (fun s n =>
      let p : Page := ⟨k, n⟩
      if s.gated p then s
      else if s.blockAbsent p then s.wr p p.enableField 0
      else (s.wr p p.enableField 1).enableOn p) s) s

/-- The adapter engines of the islands that run are started (R438). (log 109, DEDUCED) -/
def State.startEngines (s : State) : State :=
  (List.range 24).foldl (fun s e => s.wrBit mbx MB_ENG_RUN e (s.islandUp (engineIsland e) && !s.is mbx (ENG_DEAD.nth e))) s

/-- Step 4 of R441. -/
def State.toService (s : State) : State :=
  let pe := s.islandUp 12
  let s := s.startIslands.startEngines
  let s := s.enableBlocks
  s.when (!pe && s.islandUp 12) State.portReset

/-! ### FW_READY -/

/-- Has the boot ROM released an image that still runs (R406, R407, R418)? -/
def State.imageRuns (s : State) : Bool :=
  s.islandUp 2 && s.islandUp 5 && !s.is sec SEC_RECOVERY && !s.is aon AON_TEST && !s.coldStop &&
    !s.is glb GLB_MOABEUC_HALTED

/-- After a fallback from a trial the copy on trial is given up (R445). -/
def State.failedTrial (s : State) : State :=
  let t := (Mem.read 0 s.aonRam 0xC000).toNat % 2
  s.when (s.is aon AON_TRIAL_OPEN && t != s.rd mbx MB_FW_COPY) fun s => (s.eraseHeader t).trialClear.raise mbx 3

/-- Moabeuc serves what has waited for it (R123, R292, R310, R319, R361). -/
def State.serveWaiting (s : State) : State :=
  let s := (List.range 4).foldl (fun s n => s.when (s.is (dout n) DOUT_TRAIN_DUE && !s.gated (dout n)) fun s =>
    (s.wr (dout n) DOUT_TRAIN_DUE 0).startTrain n) s
  let s := (List.range 6).foldl (fun s n => s.when (s.works (pd n)) fun s => s.pdRestart n) s
  s.hopServe.usbServe.audArm

/-- Steps 1 to 5 of R441. (log 113, DEDUCED) -/
def State.startUp (s : State) : State :=
  let s := (((s.wr aon AON_WDT_EN 1).wr aon AON_WDT_TIMEOUT 1000).wr aon AON_WDT_TIME s.clock).parseCfg.restoreSticky
  let s := (s.toService.overrides).failedTrial
  let s := (s.wr mbx MB_FW_PHASE 4).wr mbx MB_FW_FW_READY 1
  (s.setInt mbx 8).serveWaiting

/-- FW_READY (R441): Moabeuc runs from its release; in dead-battery operation it waits for step 7 of R360. (log 24, DEDUCED) -/
def execFwReady (s : State) : Res :=
  .next (s.when (s.imageRuns && !s.is mbx MB_FW_FW_READY && !s.is aon AON_DBAT) State.startUp)

end Sys2Proof.Machine
end

