-- ==== Sys2Proof/Machine/Turn.lean ====
section
/-! DEFINITION. The turnover of an epoch (R49 of spec/03_register_model.md). -/

namespace Sys2Proof.Machine

/-- TURNOVER (R49). (log 7, DESIGN CHOICE) -/
def execTurnover (s : State) : Res := .next s.toTurnover

end Sys2Proof.Machine
end

