-- ==== Sys2Proof/Machine/Dispatch.lean ====
section
/-! DEFINITION. The dispatch of every command to its meaning: one arm per constructor of Instr. -/

namespace Sys2Proof.Machine

/-- The effect of command `i` on everything but the queue. -/
def exec (i : Instr) (s : State) : Host.Outcome State Fault Refusal :=
  match i with
  | .powerOnReset role boot dbat inRange vconnIn low => Sys2Proof.Machine.execPowerOnReset role boot dbat inRange vconnIn low s
  | .pinReset => Sys2Proof.Machine.execPinReset s
  | .resetNRelease role boot dbat => Sys2Proof.Machine.execResetNRelease role boot dbat s
  | .supplyLoss supply => Sys2Proof.Machine.execSupplyLoss supply s
  | .chipSoftwareReset who key => Sys2Proof.Machine.execChipSoftwareReset who key s
  | .mgmtReset who key => Sys2Proof.Machine.execMgmtReset who key s
  | .aonWdtExpiry => Sys2Proof.Machine.execAonWdtExpiry s
  | .watchdogKick who key => Sys2Proof.Machine.execWatchdogKick who key s
  | .gatedAccess who addr write => Sys2Proof.Machine.execGatedAccess who addr write s
  | .refclkLoss islands => Sys2Proof.Machine.execRefclkLoss islands s
  | .turnover => Sys2Proof.Machine.execTurnover s
  | .cellSlot held faults => Sys2Proof.Machine.execCellSlot held faults s
  | .calendarSlot => Sys2Proof.Machine.execCalendarSlot s
  | .registerWrite who t => Sys2Proof.Machine.execRegisterWrite who t s
  | .popRead who addr => Sys2Proof.Machine.execPopRead who addr s
  | .blockSoftReset who p => Sys2Proof.Machine.execBlockSoftReset who p s
  | .softResetComplete p => Sys2Proof.Machine.execSoftResetComplete p s
  | .enable who p on => Sys2Proof.Machine.execEnable who p on s
  | .levelChange who p expert => Sys2Proof.Machine.execLevelChange who p expert s
  | .derivationDone p vals => Sys2Proof.Machine.execDerivationDone p vals s
  | .intForce who p mask => Sys2Proof.Machine.execIntForce who p mask s
  | .intEnableWrite who p mask => Sys2Proof.Machine.execIntEnableWrite who p mask s
  | .intAck who p mask => Sys2Proof.Machine.execIntAck who p mask s
  | .errAck who p mask => Sys2Proof.Machine.execErrAck who p mask s
  | .graceExpiry p => Sys2Proof.Machine.execGraceExpiry p s
  | .arm who p pair target => Sys2Proof.Machine.execArm who p pair target s
  | .cancel who p pair => Sys2Proof.Machine.execCancel who p pair s
  | .extLock who p => Sys2Proof.Machine.execExtLock who p s
  | .allLock who p => Sys2Proof.Machine.execAllLock who p s
  | .remoteAccess who off write be value => Sys2Proof.Machine.execRemoteAccess who off write be value s
  | .modeChange who port mode => Sys2Proof.Machine.execModeChange who port mode s
  | .retrain who p => Sys2Proof.Machine.execRetrain who p s
  | .lnCntClr who p => Sys2Proof.Machine.execLnCntClr who p s
  | .trainStageDone port out => Sys2Proof.Machine.execTrainStageDone port out s
  | .trainStageFail port pads => Sys2Proof.Machine.execTrainStageFail port pads s
  | .retryWaitExpiry port => Sys2Proof.Machine.execRetryWaitExpiry port s
  | .los p pad => Sys2Proof.Machine.execLos p pad s
  | .lol p pad => Sys2Proof.Machine.execLol p pad s
  | .codewordFramingLost port pad => Sys2Proof.Machine.execCodewordFramingLost port pad s
  | .losRelease p pad => Sys2Proof.Machine.execLosRelease p pad s
  | .farEndRetrain port => Sys2Proof.Machine.execFarEndRetrain port s
  | .padRecheckDone port pad pass => Sys2Proof.Machine.execPadRecheckDone port pad pass s
  | .marginStart who p pad => Sys2Proof.Machine.execMarginStart who p pad s
  | .marginDone p pad aborted errors => Sys2Proof.Machine.execMarginDone p pad aborted errors s
  | .eyeRefresh p pad height width worst => Sys2Proof.Machine.execEyeRefresh p pad height width worst s
  | .sbuServeFrame port type hops epoch tRx stamp crcOk => Sys2Proof.Machine.execSbuServeFrame port type hops epoch tRx stamp crcOk s
  | .sbuFollowEdge port stamp crcOk => Sys2Proof.Machine.execSbuFollowEdge port stamp crcOk s
  | .followEdgeSend port => Sys2Proof.Machine.execFollowEdgeSend port s
  | .tsyncStepReq who port => Sys2Proof.Machine.execTsyncStepReq who port s
  | .codewordRx port cwNum lane setId standby symErrs bad hasHeader => Sys2Proof.Machine.execCodewordRx port cwNum lane setId standby symErrs bad hasHeader s
  | .packetRx port ty hcrc p pb => Sys2Proof.Machine.execPacketRx port ty hcrc p pb s
  | .ackRx port seq => Sys2Proof.Machine.execAckRx port seq s
  | .nakRx port ackV seq => Sys2Proof.Machine.execNakRx port ackV seq s
  | .creditRx port entries => Sys2Proof.Machine.execCreditRx port entries s
  | .pairDropRx port lmask dir => Sys2Proof.Machine.execPairDropRx port lmask dir s
  | .addReqRx port lmask dir => Sys2Proof.Machine.execAddReqRx port lmask dir s
  | .addReadyRx port lmask dir => Sys2Proof.Machine.execAddReadyRx port lmask dir s
  | .pairSetRx port newSet lmask fromCw => Sys2Proof.Machine.execPairSetRx port newSet lmask fromCw s
  | .turnPrep port target set => Sys2Proof.Machine.execTurnPrep port target set s
  | .turnOk port target => Sys2Proof.Machine.execTurnOk port target s
  | .turnNak port => Sys2Proof.Machine.execTurnNak port s
  | .joinFail port => Sys2Proof.Machine.execJoinFail port s
  | .lpReq port depth => Sys2Proof.Machine.execLpReq port depth s
  | .lpAck port depth => Sys2Proof.Machine.execLpAck port depth s
  | .lpNak port => Sys2Proof.Machine.execLpNak port s
  | .txPacketBoundary port => Sys2Proof.Machine.execTxPacketBoundary port s
  | .ackDue port => Sys2Proof.Machine.execAckDue port s
  | .nakRepeat port => Sys2Proof.Machine.execNakRepeat port s
  | .replayTimeout port => Sys2Proof.Machine.execReplayTimeout port s
  | .creditTimer port => Sys2Proof.Machine.execCreditTimer port s
  | .creditRefresh port => Sys2Proof.Machine.execCreditRefresh port s
  | .turnPadLock port locked => Sys2Proof.Machine.execTurnPadLock port locked s
  | .turnWiden port => Sys2Proof.Machine.execTurnWiden port s
  | .lpIdleExpiry port => Sys2Proof.Machine.execLpIdleExpiry port s
  | .linkWake port => Sys2Proof.Machine.execLinkWake port s
  | .lpWakeDetect port => Sys2Proof.Machine.execLpWakeDetect port s
  | .lpExitDone port => Sys2Proof.Machine.execLpExitDone port s
  | .lkCntClr who port => Sys2Proof.Machine.execLkCntClr who port s
  | .usb4ConfigAccess dom a => Sys2Proof.Machine.execUsb4ConfigAccess dom a s
  | .hopEntryWrite dom w => Sys2Proof.Machine.execHopEntryWrite dom w s
  | .pathEntryWrite who k word be value => Sys2Proof.Machine.execPathEntryWrite who k word be value s
  | .ctrlPacketRx => Sys2Proof.Machine.execCtrlPacketRx s
  | .identify => Sys2Proof.Machine.execIdentify s
  | .setHubId => Sys2Proof.Machine.execSetHubId s
  | .regRead => Sys2Proof.Machine.execRegRead s
  | .regWrite => Sys2Proof.Machine.execRegWrite s
  | .portEvent => Sys2Proof.Machine.execPortEvent s
  | .relay => Sys2Proof.Machine.execRelay s
  | .pathSetup => Sys2Proof.Machine.execPathSetup s
  | .pathRelease => Sys2Proof.Machine.execPathRelease s
  | .pathDown => Sys2Proof.Machine.execPathDown s
  | .turnArm => Sys2Proof.Machine.execTurnArm s
  | .turnCancel => Sys2Proof.Machine.execTurnCancel s
  | .isoShort => Sys2Proof.Machine.execIsoShort s
  | .isoOk => Sys2Proof.Machine.execIsoOk s
  | .ctrlBadReq => Sys2Proof.Machine.execCtrlBadReq s
  | .ctrlResponseRx => Sys2Proof.Machine.execCtrlResponseRx s
  | .ctrlTimeout dom tag => Sys2Proof.Machine.execCtrlTimeout dom tag s
  | .addHoldExpiry k => Sys2Proof.Machine.execAddHoldExpiry k s
  | .delEntryFree k => Sys2Proof.Machine.execDelEntryFree k s
  | .upPortDownTimeout slot => Sys2Proof.Machine.execUpPortDownTimeout slot s
  | .pcCntClr who => Sys2Proof.Machine.execPcCntClr who s
  | .frameTimeout inp tgt cls => Sys2Proof.Machine.execFrameTimeout inp tgt cls s
  | .swOutRestart who mask => Sys2Proof.Machine.execSwOutRestart who mask s
  | .captureDrain => Sys2Proof.Machine.execCaptureDrain s
  | .swCapRd who value => Sys2Proof.Machine.execSwCapRd who value s
  | .swCntClr who => Sys2Proof.Machine.execSwCntClr who s
  | .shaperEligible k => Sys2Proof.Machine.execShaperEligible k s
  | .almCntClr who e => Sys2Proof.Machine.execAlmCntClr who e s
  | .portRst who => Sys2Proof.Machine.execPortRst who s
  | .peLinkReset who l => Sys2Proof.Machine.execPeLinkReset who l s
  | .peCntClr who => Sys2Proof.Machine.execPeCntClr who s
  | .pcaCntClr who n => Sys2Proof.Machine.execPcaCntClr who n s
  | .brCntClr who => Sys2Proof.Machine.execBrCntClr who s
  | .tlpFromLocal n t => Sys2Proof.Machine.execTlpFromLocal n t s
  | .tlpFromTunnel n kind more t => Sys2Proof.Machine.execTlpFromTunnel n kind more t s
  | .npIssue n => Sys2Proof.Machine.execNpIssue n s
  | .completionFromTunnel n t => Sys2Proof.Machine.execCompletionFromTunnel n t s
  | .cplTimeout n req tag => Sys2Proof.Machine.execCplTimeout n req tag s
  | .lockedRequest n tunnel t => Sys2Proof.Machine.execLockedRequest n tunnel t s
  | .unlock n => Sys2Proof.Machine.execUnlock n s
  | .lockTimeout n => Sys2Proof.Machine.execLockTimeout n s
  | .pcaRelease who n => Sys2Proof.Machine.execPcaRelease who n s
  | .pcaModeWrite who n mode dom tx rx => Sys2Proof.Machine.execPcaModeWrite who n mode dom tx rx s
  | .sidebandUpdateSend n levels => Sys2Proof.Machine.execSidebandUpdateSend n levels s
  | .sidebandUpdateRx n seq word => Sys2Proof.Machine.execSidebandUpdateRx n seq word s
  | .sidebandPulseEnd n => Sys2Proof.Machine.execSidebandPulseEnd n s
  | .hostWarmReset router => Sys2Proof.Machine.execHostWarmReset router s
  | .setAddr pecOk addr => Sys2Proof.Machine.execSetAddr pecOk addr s
  | .smbWrite pecOk words => Sys2Proof.Machine.execSmbWrite pecOk words s
  | .readStart pecOk n => Sys2Proof.Machine.execReadStart pecOk n s
  | .smbReadDone => Sys2Proof.Machine.execSmbReadDone s
  | .readData collected => Sys2Proof.Machine.execReadData collected s
  | .smbStatus => Sys2Proof.Machine.execSmbStatus s
  | .select pecOk hub => Sys2Proof.Machine.execSelect pecOk hub s
  | .smbProto => Sys2Proof.Machine.execSmbProto s
  | .alertResponse => Sys2Proof.Machine.execAlertResponse s
  | .smbDiscard => Sys2Proof.Machine.execSmbDiscard s
  | .brRselWrite who hub => Sys2Proof.Machine.execBrRselWrite who hub s
  | .prefetchExpiry => Sys2Proof.Machine.execPrefetchExpiry s
  | .vblankStart n => Sys2Proof.Machine.execVblankStart n s
  | .lineStart n skew => Sys2Proof.Machine.execLineStart n skew s
  | .streamPacketRx n handle e => Sys2Proof.Machine.execStreamPacketRx n handle e s
  | .streamTimeout n => Sys2Proof.Machine.execStreamTimeout n s
  | .holdReq who n resume => Sys2Proof.Machine.execHoldReq who n resume s
  | .resumeReq who n => Sys2Proof.Machine.execResumeReq who n s
  | .dispCntClr who n => Sys2Proof.Machine.execDispCntClr who n s
  | .writeRect n handle id surf r data => Sys2Proof.Machine.execWriteRect n handle id surf r data s
  | .fillRect n handle id surf r colour => Sys2Proof.Machine.execFillRect n handle id surf r colour s
  | .copyRect n handle id surf src r sx sy => Sys2Proof.Machine.execCopyRect n handle id surf src r sx sy s
  | .commit n handle id mask => Sys2Proof.Machine.execCommit n handle id mask s
  | .fence n handle id => Sys2Proof.Machine.execFence n handle id s
  | .readRect n handle id surf cap r => Sys2Proof.Machine.execReadRect n handle id surf cap r s
  | .badOp n handle id op => Sys2Proof.Machine.execBadOp n handle id op s
  | .copyForwardDone n surf => Sys2Proof.Machine.execCopyForwardDone n surf s
  | .auxRequest n handle host bytes => Sys2Proof.Machine.execAuxRequest n handle host bytes s
  | .auxReply n bytes => Sys2Proof.Machine.execAuxReply n bytes s
  | .auxTimeout n => Sys2Proof.Machine.execAuxTimeout n s
  | .plug n lanes => Sys2Proof.Machine.execPlug n lanes s
  | .unplug n => Sys2Proof.Machine.execUnplug n s
  | .irqHpd n retrain => Sys2Proof.Machine.execIrqHpd n retrain s
  | .dpTrainDone n ok lttpr => Sys2Proof.Machine.execDpTrainDone n ok lttpr s
  | .readbackFrameEnd n rows => Sys2Proof.Machine.execReadbackFrameEnd n rows s
  | .rbLoss n => Sys2Proof.Machine.execRbLoss n s
  | .doutRestart who n => Sys2Proof.Machine.execDoutRestart who n s
  | .doutRetrain who n => Sys2Proof.Machine.execDoutRetrain who n s
  | .doutCntClr who n => Sys2Proof.Machine.execDoutCntClr who n s
  | .overcurrent n => Sys2Proof.Machine.execOvercurrent n s
  | .portOwnerChange who o => Sys2Proof.Machine.execPortOwnerChange who o s
  | .usbOutPacket ep crcOk bytes => Sys2Proof.Machine.execUsbOutPacket ep crcOk bytes s
  | .usbInToken ep acked => Sys2Proof.Machine.execUsbInToken ep acked s
  | .microframeStart => Sys2Proof.Machine.execMicroframeStart s
  | .fbRefresh count => Sys2Proof.Machine.execFbRefresh count s
  | .mclkLoss => Sys2Proof.Machine.execMclkLoss s
  | .wakeReq who => Sys2Proof.Machine.execWakeReq who s
  | .remoteWakeSignal => Sys2Proof.Machine.execRemoteWakeSignal s
  | .hostResume d ss => Sys2Proof.Machine.execHostResume d ss s
  | .usbBusReset d ss => Sys2Proof.Machine.execUsbBusReset d ss s
  | .statusStage => Sys2Proof.Machine.execStatusStage s
  | .setup r len => Sys2Proof.Machine.execSetup r len s
  | .uhCntClr who => Sys2Proof.Machine.execUhCntClr who s
  | .ethFrameRx n fcsOk accept bytes => Sys2Proof.Machine.execEthFrameRx n fcsOk accept bytes s
  | .pauseRx n quanta => Sys2Proof.Machine.execPauseRx n quanta s
  | .ethTunnelFrame n toMac g more bytes => Sys2Proof.Machine.execEthTunnelFrame n toMac g more bytes s
  | .ethStatusUpdate n w0 w1 w2 w3 => Sys2Proof.Machine.execEthStatusUpdate n w0 w1 w2 w3 s
  | .linkStateTimer n up => Sys2Proof.Machine.execLinkStateTimer n up s
  | .txTail who n q tail descs => Sys2Proof.Machine.execTxTail who n q tail descs s
  | .rxTail who n q tail sizes => Sys2Proof.Machine.execRxTail who n q tail sizes s
  | .tsCompletionTimeout n q idx => Sys2Proof.Machine.execTsCompletionTimeout n q idx s
  | .ethDmaError n q => Sys2Proof.Machine.execEthDmaError n q s
  | .ethBindChange who n q m => Sys2Proof.Machine.execEthBindChange who n q m s
  | .irqModExpiry n entry => Sys2Proof.Machine.execIrqModExpiry n entry s
  | .ethCntClr who n => Sys2Proof.Machine.execEthCntClr who n s
  | .dramTraining stored failed => Sys2Proof.Machine.execDramTraining stored failed s
  | .dqsCheck => Sys2Proof.Machine.execDqsCheck s
  | .dramRequest new ecc => Sys2Proof.Machine.execDramRequest new ecc s
  | .srEntry => Sys2Proof.Machine.execSrEntry s
  | .pdEntry => Sys2Proof.Machine.execPdEntry s
  | .srExit => Sys2Proof.Machine.execSrExit s
  | .memCntClr who => Sys2Proof.Machine.execMemCntClr who s
  | .ccAttach n cc vbus => Sys2Proof.Machine.execCcAttach n cc vbus s
  | .detach n vbus => Sys2Proof.Machine.execDetach n vbus s
  | .ccOv n => Sys2Proof.Machine.execCcOv n s
  | .sourceCapabilities n raw => Sys2Proof.Machine.execSourceCapabilities n raw s
  | .request n raw => Sys2Proof.Machine.execRequest n raw s
  | .accept n raw => Sys2Proof.Machine.execAccept n raw s
  | .reject n raw => Sys2Proof.Machine.execReject n raw s
  | .wait n raw => Sys2Proof.Machine.execWait n raw s
  | .waitRetry n => Sys2Proof.Machine.execWaitRetry n s
  | .psRdy n raw frs => Sys2Proof.Machine.execPsRdy n raw frs s
  | .prSwap n raw => Sys2Proof.Machine.execPrSwap n raw s
  | .drSwap n raw => Sys2Proof.Machine.execDrSwap n raw s
  | .vconnSwap n raw => Sys2Proof.Machine.execVconnSwap n raw s
  | .frSwap n raw => Sys2Proof.Machine.execFrSwap n raw s
  | .frsSignal n vbus => Sys2Proof.Machine.execFrsSignal n vbus s
  | .supplyFailGpio => Sys2Proof.Machine.execSupplyFailGpio s
  | .hardResetRx n => Sys2Proof.Machine.execHardResetRx n s
  | .softResetRx n raw => Sys2Proof.Machine.execSoftResetRx n raw s
  | .eprKeepalive n raw => Sys2Proof.Machine.execEprKeepalive n raw s
  | .discoverIdentity n sop answered raw => Sys2Proof.Machine.execDiscoverIdentity n sop answered raw s
  | .discoverModes n sop answered raw => Sys2Proof.Machine.execDiscoverModes n sop answered raw s
  | .enterMode n ack raw => Sys2Proof.Machine.execEnterMode n ack raw s
  | .enterUsb n raw => Sys2Proof.Machine.execEnterUsb n raw s
  | .authenticationMsg n sop => Sys2Proof.Machine.execAuthenticationMsg n sop s
  | .hardReset who n => Sys2Proof.Machine.execHardReset who n s
  | .softReset who n => Sys2Proof.Machine.execSoftReset who n s
  | .errRecovery who n => Sys2Proof.Machine.execErrRecovery who n s
  | .swapPr who n => Sys2Proof.Machine.execSwapPr who n s
  | .swapDr who n => Sys2Proof.Machine.execSwapDr who n s
  | .swapVconn who n => Sys2Proof.Machine.execSwapVconn who n s
  | .eprEnter who n => Sys2Proof.Machine.execEprEnter who n s
  | .eprExit who n => Sys2Proof.Machine.execEprExit who n s
  | .pdSequenceStart n => Sys2Proof.Machine.execPdSequenceStart n s
  | .sinktxExpiry n => Sys2Proof.Machine.execSinktxExpiry n s
  | .eprKaTimer n => Sys2Proof.Machine.execEprKaTimer n s
  | .eprKaLost n => Sys2Proof.Machine.execEprKaLost n s
  | .ppsReqTimer n => Sys2Proof.Machine.execPpsReqTimer n s
  | .ppsTimeout n => Sys2Proof.Machine.execPpsTimeout n s
  | .senderResponseTimeout n => Sys2Proof.Machine.execSenderResponseTimeout n s
  | .srcRecover n => Sys2Proof.Machine.execSrcRecover n s
  | .errorRecoveryDone n => Sys2Proof.Machine.execErrorRecoveryDone n s
  | .drSwapWait n => Sys2Proof.Machine.execDrSwapWait n s
  | .pdTxSend who n => Sys2Proof.Machine.execPdTxSend who n s
  | .pdCntClr who n => Sys2Proof.Machine.execPdCntClr who n s
  | .dbatStart n vbus => Sys2Proof.Machine.execDbatStart n vbus s
  | .ovTrip n vbus ibus => Sys2Proof.Machine.execOvTrip n vbus ibus s
  | .ocTrip n vbus ibus => Sys2Proof.Machine.execOcTrip n vbus ibus s
  | .rcTrip n vbus ibus => Sys2Proof.Machine.execRcTrip n vbus ibus s
  | .vconnOc n => Sys2Proof.Machine.execVconnOc n s
  | .thermWarn tj => Sys2Proof.Machine.execThermWarn tj s
  | .thermTrip tj => Sys2Proof.Machine.execThermTrip tj s
  | .thermRelease tj => Sys2Proof.Machine.execThermRelease tj s
  | .dischFail n vbus => Sys2Proof.Machine.execDischFail n vbus s
  | .transTimeout n vbus ibus => Sys2Proof.Machine.execTransTimeout n vbus ibus s
  | .dischargeComplete n vbus => Sys2Proof.Machine.execDischargeComplete n vbus s
  | .pathClose n vbus => Sys2Proof.Machine.execPathClose n vbus s
  | .closeWaitTimeout n => Sys2Proof.Machine.execCloseWaitTimeout n s
  | .setContract who port tag lo hi ic phase => Sys2Proof.Machine.execSetContract who port tag lo hi ic phase s
  | .closePath who port tag sink => Sys2Proof.Machine.execClosePath who port tag sink s
  | .openPath who port tag sink => Sys2Proof.Machine.execOpenPath who port tag sink s
  | .discharge who port tag => Sys2Proof.Machine.execDischarge who port tag s
  | .vconnReq who port tag on => Sys2Proof.Machine.execVconnReq who port tag on s
  | .frsArm who port tag armed => Sys2Proof.Machine.execFrsArm who port tag armed s
  | .clearTrip who port tag => Sys2Proof.Machine.execClearTrip who port tag s
  | .setLimit who port tag limit pct => Sys2Proof.Machine.execSetLimit who port tag limit pct s
  | .safeReset who tag => Sys2Proof.Machine.execSafeReset who tag s
  | .patch who tag w1 w2 w3 => Sys2Proof.Machine.execPatch who tag w1 w2 w3 s
  | .lockstepMismatch => Sys2Proof.Machine.execLockstepMismatch s
  | .safeClockFault => Sys2Proof.Machine.execSafeClockFault s
  | .safeWatchdog => Sys2Proof.Machine.execSafeWatchdog s
  | .safeSramUe => Sys2Proof.Machine.execSafeSramUe s
  | .safeSupplyLow => Sys2Proof.Machine.execSafeSupplyLow s
  | .safetyResetComplete => Sys2Proof.Machine.execSafetyResetComplete s
  | .enterD2 who => Sys2Proof.Machine.execEnterD2 who s
  | .enterYoyo who => Sys2Proof.Machine.execEnterYoyo who s
  | .enterOff who => Sys2Proof.Machine.execEnterOff who s
  | .drainTimeout => Sys2Proof.Machine.execDrainTimeout s
  | .d1Entry usb4 pcie => Sys2Proof.Machine.execD1Entry usb4 pcie s
  | .d1Exit usb4 pcie => Sys2Proof.Machine.execD1Exit usb4 pcie s
  | .yoyoSample cc vbus temp gpio => Sys2Proof.Machine.execYoyoSample cc vbus temp gpio s
  | .forcedOff => Sys2Proof.Machine.execForcedOff s
  | .pwrBtnWake => Sys2Proof.Machine.execPwrBtnWake s
  | .dbatWake mv => Sys2Proof.Machine.execDbatWake mv s
  | .gpioEdgeWake g level => Sys2Proof.Machine.execGpioEdgeWake g level s
  | .alarmExpiry => Sys2Proof.Machine.execAlarmExpiry s
  | .groupInRange => Sys2Proof.Machine.execGroupInRange s
  | .exitTimeout => Sys2Proof.Machine.execExitTimeout s
  | .exitRetry => Sys2Proof.Machine.execExitRetry s
  | .padRelease who => Sys2Proof.Machine.execPadRelease who s
  | .retentionRamAccess who addr write be ue => Sys2Proof.Machine.execRetentionRamAccess who addr write be ue s
  | .aonCntClr who => Sys2Proof.Machine.execAonCntClr who s
  | .bootRomStart idOk idMatch testEn pufErr flashErr => Sys2Proof.Machine.execBootRomStart idOk idMatch testEn pufErr flashErr s
  | .recoveryImageRx who bytes => Sys2Proof.Machine.execRecoveryImageRx who bytes s
  | .otpProgram who word lost => Sys2Proof.Machine.execOtpProgram who word lost s
  | .measExtend who bank => Sys2Proof.Machine.execMeasExtend who bank s
  | .sign who => Sys2Proof.Machine.execSign who s
  | .load who slot salt => Sys2Proof.Machine.execLoad who slot salt s
  | .derive who slot salt => Sys2Proof.Machine.execDerive who slot salt s
  | .zeroise who slot => Sys2Proof.Machine.execZeroise who slot s
  | .zeroiseAll who => Sys2Proof.Machine.execZeroiseAll who s
  | .challenge who level => Sys2Proof.Machine.execChallenge who level s
  | .dbgRespPush who word => Sys2Proof.Machine.execDbgRespPush who word s
  | .verify who level => Sys2Proof.Machine.execVerify who level s
  | .nonceExpiry => Sys2Proof.Machine.execNonceExpiry s
  | .keyGraceEnd entry => Sys2Proof.Machine.execKeyGraceEnd entry s
  | .getVersion ep => Sys2Proof.Machine.execGetVersion ep s
  | .getCapabilities ep => Sys2Proof.Machine.execGetCapabilities ep s
  | .negotiateAlgorithms ep common => Sys2Proof.Machine.execNegotiateAlgorithms ep common s
  | .getDigests ep => Sys2Proof.Machine.execGetDigests ep s
  | .getCertificate ep slot off len => Sys2Proof.Machine.execGetCertificate ep slot off len s
  | .spdmChallenge ep slot digest => Sys2Proof.Machine.execSpdmChallenge ep slot digest s
  | .getMeasurements ep index signed digest => Sys2Proof.Machine.execGetMeasurements ep index signed digest s
  | .keyExchange ep slot session digest => Sys2Proof.Machine.execKeyExchange ep slot session digest s
  | .finish ep => Sys2Proof.Machine.execFinish ep s
  | .heartbeat ep => Sys2Proof.Machine.execHeartbeat ep s
  | .keyUpdate ep => Sys2Proof.Machine.execKeyUpdate ep s
  | .endSession ep => Sys2Proof.Machine.execEndSession ep s
  | .spdmUnsupported ep => Sys2Proof.Machine.execSpdmUnsupported ep s
  | .sliceCopyDone => Sys2Proof.Machine.execSliceCopyDone s
  | .sliceCopyTimeout => Sys2Proof.Machine.execSliceCopyTimeout s
  | .sliceMarchDone fail => Sys2Proof.Machine.execSliceMarchDone fail s
  | .sliceRestoreDone => Sys2Proof.Machine.execSliceRestoreDone s
  | .bistRunGo who slice => Sys2Proof.Machine.execBistRunGo who slice s
  | .logicBistDone fail1 fail2 => Sys2Proof.Machine.execLogicBistDone fail1 fail2 s
  | .bistCntClr who => Sys2Proof.Machine.execBistCntClr who s
  | .fwReady => Sys2Proof.Machine.execFwReady s
  | .engineHalt e => Sys2Proof.Machine.execEngineHalt e s
  | .engineRestart e => Sys2Proof.Machine.execEngineRestart e s
  | .go who c cmd len tag => Sys2Proof.Machine.execGo who c cmd len tag s
  | .requestTaken c => Sys2Proof.Machine.execRequestTaken c s
  | .abort who c => Sys2Proof.Machine.execAbort who c s
  | .done who c => Sys2Proof.Machine.execDone who c s
  | .getInfo c => Sys2Proof.Machine.execGetInfo c s
  | .power c => Sys2Proof.Machine.execPower c s
  | .dpGrant c => Sys2Proof.Machine.execDpGrant c s
  | .keyBind c key => Sys2Proof.Machine.execKeyBind c key s
  | .logRead c words => Sys2Proof.Machine.execLogRead c words s
  | .ctrlSend c => Sys2Proof.Machine.execCtrlSend c s
  | .fwBegin c ok => Sys2Proof.Machine.execFwBegin c ok s
  | .fwData c ok => Sys2Proof.Machine.execFwData c ok s
  | .fwEnd c => Sys2Proof.Machine.execFwEnd c s
  | .fwActivate c ok => Sys2Proof.Machine.execFwActivate c ok s
  | .fwCommit c => Sys2Proof.Machine.execFwCommit c s
  | .fwRollback c ok => Sys2Proof.Machine.execFwRollback c ok s
  | .svnCommit c => Sys2Proof.Machine.execSvnCommit c s
  | .fwUpdateTimeout => Sys2Proof.Machine.execFwUpdateTimeout s
  | .mbCntClr who => Sys2Proof.Machine.execMbCntClr who s
  | .stdLinkTrained port dirs => Sys2Proof.Machine.execStdLinkTrained port dirs s
  | .stdLinkDown port => Sys2Proof.Machine.execStdLinkDown port s
  | .pcieLinkUp l width gen => Sys2Proof.Machine.execPcieLinkUp l width gen s
  | .pcieLinkDown l => Sys2Proof.Machine.execPcieLinkDown l s
  | .pePerstNDeassert => Sys2Proof.Machine.execPePerstNDeassert s
  | .pcieWake l clkreq => Sys2Proof.Machine.execPcieWake l clkreq s
  | .usbPortConnect n ss connected => Sys2Proof.Machine.execUsbPortConnect n ss connected s
  | .downstreamWake n ss => Sys2Proof.Machine.execDownstreamWake n ss s
  | .usbSuspend d what => Sys2Proof.Machine.execUsbSuspend d what s
  | .setPortFeature d port ss f => Sys2Proof.Machine.execSetPortFeature d port ss f s
  | .mclkReturn => Sys2Proof.Machine.execMclkReturn s
  | .sampleFrame samples => Sys2Proof.Machine.execSampleFrame samples s
  | .pauseQuantaExpiry n => Sys2Proof.Machine.execPauseQuantaExpiry n s
  | .padReadd port pad => Sys2Proof.Machine.execPadReadd port pad s
  | .refclkRestore => Sys2Proof.Machine.execRefclkRestore s
  | .safeSupplyReturn => Sys2Proof.Machine.execSafeSupplyReturn s
  | .boardInputChange present inRange => Sys2Proof.Machine.execBoardInputChange present inRange s
  | .rpChange n rp => Sys2Proof.Machine.execRpChange n rp s
  | .eprMode n raw => Sys2Proof.Machine.execEprMode n raw s
  | .srcTransition n => Sys2Proof.Machine.execSrcTransition n s
  | .psRdyTimeout n => Sys2Proof.Machine.execPsRdyTimeout n s
  | .sourceCapabilitiesRepeat n => Sys2Proof.Machine.execSourceCapabilitiesRepeat n s
  | .noResponseTimeout n => Sys2Proof.Machine.execNoResponseTimeout n s
  | .goodcrcMissing n => Sys2Proof.Machine.execGoodcrcMissing n s
  | .rngHealthFail => Sys2Proof.Machine.execRngHealthFail s

end Sys2Proof.Machine
end

