-- ==== Sys2Proof/Safety.lean ====
section
/-! DEFINITION. What claims about the hub are stated in: a command that completes with a result, what a command leaves alone, a write that the hub accepts, and the state's canonical form. -/

namespace Sys2Proof.Machine

open Reg

/-! ### Completion -/

/-- Command `c` completes from `s`, in a state that meets `q`. -/
def Gives (c : Instr) (s : State) (q : State → Prop) : Prop := ∃ t, exec c s = .next t ∧ q t

/-- Nothing but registers differs between two states, and of the registers only the keys in `ks`. -/
def OnlyKeys (ks : List Nat) (s t : State) : Prop :=
  t = { s with regs := t.regs } ∧ ∀ k, k ∉ ks → Tab.find t.regs k = Tab.find s.regs k

/-! ### Register writes -/

/-- No host access wakes the hub: it is in D0 or D1 (R378, R386). -/
abbrev State.awake (s : State) : Prop := s.ps ≤ 1

/-- A write of field `f` of page `p` by `who` has its effect: the hub is in D0 or D1, the page's island runs (R14), no
block soft reset drops it (R41), and no rule refuses it (R43 to R46, R50). -/
abbrev State.accepts (s : State) (who : Initiator) (p : Page) (f : Field) : Prop :=
  s.awake ∧ s.gated p = false ∧ (s.is (headerOf p) PG_STATUS_IN_RESET = false ∨ blockBit p f.bit = false) ∧ s.refusal p who f = 0

/-- The register field whose write a command is, and who writes it: the commands that begin as a write of one field, with
the page and field that the command table of the spec's chapter names. Commands that are no such write give none. -/
def writesField : Instr → Option (Initiator × Page × Field)
  | .chipSoftwareReset who _ => some (who, glb, GLB_SRST_CHIP)
  | .mgmtReset who _ => some (who, glb, GLB_SRST_MGMT)
  | .watchdogKick who _ => some (who, aon, AON_WDT_KICK_KEY)
  | .blockSoftReset who p => some (who, p, PG_CTRL_SRST)
  | .enable who p _ => some (who, p, p.enableField)
  | .levelChange who p _ => some (who, p, PG_CTRL_EXPERT)
  | .intForce who p _ => some (who, p, PG_INT_FORCE_FORCE.nth 0)
  | .intEnableWrite who p _ => some (who, p, PG_INT_ENABLE_EN.nth 0)
  | .intAck who p _ => some (who, p, PG_INT 0)
  | .errAck who p _ => some (who, p, PG_ERR_STATUS_SRC.nth 0)
  | .cancel who p false => some (who, p, PG_SHADOW_CTRL_CANCEL)
  | .extLock who p => some (who, p, PG_LOCK_EXT_LOCK)
  | .allLock who p => some (who, p, PG_LOCK_ALL_LOCK)
  | .modeChange who n _ => some (who, lane n, LN_CTRL_MODE)
  | .retrain who p => some (who, p, LN_CTRL_RETRAIN)
  | .lnCntClr who p => some (who, p, LN_CTRL_CNT_CLR)
  | .tsyncStepReq who n => some (who, lane n, LN_TSYNC_CTRL_STEP)
  | .lkCntClr who n => some (who, linkCnt n, LK_CNT_CLR_CLR)
  | .pcCntClr who => some (who, pathctl, PC_CNT_CLR_CLR)
  | .swOutRestart who _ => some (who, sw, SW_OUT_RESTART_RESTART)
  | .swCapRd who _ => some (who, sw, SW_CAP_RD_RD)
  | .swCntClr who => some (who, sw, SW_CNT_CLR_CLR)
  | .almCntClr who e => some (who, alm e, ALM_CNT_CLR_CLR)
  | .portRst who => some (who, pcie, PE_CFG_PORT_RST)
  | .peLinkReset who l => some (who, pcie, PE_LINK_CFG_RESET.nth l)
  | .peCntClr who => some (who, pcie, PE_CNT_CLR_CLR)
  | .pcaCntClr who n => some (who, pca n, PCA_CNT_CLR_CLR)
  | .pcaRelease who n => some (who, pca n, PCA_CTRL_RELEASE)
  | .brRselWrite who _ => some (who, bridge, BR_RSEL_HUB_ID)
  | .brCntClr who => some (who, bridge, BR_CNT_CLR_CLR)
  | .holdReq who n _ => some (who, disp n, DISP_CTRL_HOLD_REQ)
  | .resumeReq who n => some (who, disp n, DISP_CTRL_RESUME_REQ)
  | .dispCntClr who n => some (who, disp n, DISP_CTRL_CNT_CLR)
  | .doutRestart who n => some (who, dout n, DOUT_CTRL_RESTART)
  | .doutRetrain who n => some (who, dout n, DOUT_CTRL_RETRAIN)
  | .doutCntClr who n => some (who, dout n, DOUT_CTRL_CNT_CLR)
  | .wakeReq who => some (who, uhub, UH_WAKE_WAKE_REQ)
  | .uhCntClr who => some (who, uhub, UH_CNT_CLR_CLR)
  | .txTail who n q _ _ => some (who, eth n, ETH_Q_TX_PTR_TAIL.nth q)
  | .rxTail who n q _ _ => some (who, eth n, ETH_Q_RX_PTR_TAIL.nth q)
  | .ethBindChange who n _ _ => some (who, eth n, ETH_CFG_Q_BIND)
  | .ethCntClr who n => some (who, eth n, ETH_CNT_CLR_CLR)
  | .memCntClr who => some (who, memp, MEM_CNT_CLR_CLR)
  | .hardReset who n => some (who, pd n, PD_CTRL_HARD_RESET)
  | .softReset who n => some (who, pd n, PD_CTRL_SOFT_RESET)
  | .errRecovery who n => some (who, pd n, PD_CTRL_ERR_RECOVERY)
  | .swapPr who n => some (who, pd n, PD_CTRL_SWAP_PR)
  | .swapDr who n => some (who, pd n, PD_CTRL_SWAP_DR)
  | .swapVconn who n => some (who, pd n, PD_CTRL_SWAP_VCONN)
  | .eprEnter who n => some (who, pd n, PD_CTRL_EPR_ENTER)
  | .eprExit who n => some (who, pd n, PD_CTRL_EPR_EXIT)
  | .pdTxSend who n => some (who, pd n, PD_TX_CTRL_SEND)
  | .pdCntClr who n => some (who, pd n, PD_CNT_CLR_CLR)
  | .enterD2 who => some (who, aon, AON_PS_CTRL_GO)
  | .enterYoyo who => some (who, aon, AON_PS_CTRL_GO)
  | .enterOff who => some (who, aon, AON_PS_CTRL_GO)
  | .padRelease who => some (who, aon, AON_PAD_RELEASE)
  | .aonCntClr who => some (who, aon, AON_CNT_CLR_CLR)
  | .otpProgram who _ _ => some (who, sec, SEC_OTP_CMD_GO)
  | .measExtend who _ => some (who, sec, SEC_MEAS_CMD_GO)
  | .sign who => some (who, sec, SEC_SIGN_CMD_GO)
  | .load who _ _ => some (who, sec, SEC_KS_CMD_GO)
  | .derive who _ _ => some (who, sec, SEC_KS_CMD_GO)
  | .zeroise who _ => some (who, sec, SEC_KS_CMD_GO)
  | .zeroiseAll who => some (who, sec, SEC_KS_CMD_GO)
  | .challenge who _ => some (who, sec, SEC_DBG_CTRL_CHALLENGE)
  | .dbgRespPush who _ => some (who, sec, SEC_DBG_RESP_DATA)
  | .verify who _ => some (who, sec, SEC_DBG_CTRL_VERIFY)
  | .bistRunGo who _ => some (who, bist, BIST_RUN_GO)
  | .bistCntClr who => some (who, bist, BIST_CNT_CLR_CLR)
  | .go who c _ _ _ => some (who, mbch c, MB_DOORBELL_GO)
  | .abort who c => some (who, mbch c, MB_DOORBELL_ABORT)
  | .done who c => some (who, mbch c, MB_RESULT_DONE)
  | .mbCntClr who => some (who, mbx, MB_CNT_CLR_CLR)
  | _ => none

/-- Source `n` of a page is not pending, and at the severity it acts with it neither contains nor resets (R51, R422). -/
abbrev State.mild (s : State) (p : Page) (n : Nat) : Prop :=
  s.is p (PG_ERR_STATUS_SRC.nth n) = false ∧ min (s.rd p (p.sevField n)) (capSev p) ≤ 1

/-- The state in which the lanes of a port start to train in a mode (R60): DETECT, STD for a standard's modes, else OFF. -/
def trainsFrom (mode : Nat) : Nat := if mode = 1 ∨ mode = 2 then 1 else if 3 ≤ mode ∧ mode ≤ 7 then 10 else 0

/-- The commands that erase or write the boot flash: a firmware update's (R445), and the start of Moabeuc, which
invalidates the copy of a trial that failed (R406). -/
def mayWriteFlash : Instr → Bool
  | .fwBegin _ _ | .fwData _ _ | .fwActivate _ _ | .fwRollback _ _ | .fwReady => true
  | _ => false

/-- The commands that can program the OTP (R401, R402, R445): the two that do, and those in which a general register write
takes place, which may be a write of SEC_OTP_CMD. -/
def mayProgramOtp : Instr → Bool
  | .otpProgram _ _ _ | .svnCommit _ => true
  | .registerWrite _ _ | .usb4ConfigAccess _ _ | .remoteAccess _ _ _ _ _ | .regWrite | .smbWrite _ _ | .readStart _ _
  | .ctrlResponseRx | .ctrlTimeout _ _ | .fwReady | .derivationDone _ _ => true
  | _ => false

/-! ### The state's form -/

/-- The tables of fields are sorted and the byte memories are in their canonical form. -/
structure State.Inv (s : State) : Prop where
  regs : Tab.sorted s.regs = true
  act : Tab.sorted s.act = true
  dram : Mem.wf 0 s.dram = true
  flash : Mem.wf 0xFF s.flash = true
  otp : Mem.wf 0 s.otp = true
  aonRam : Mem.wf 0 s.aonRam = true

/-- Every bit of a memory that is 1 in `m` is 1 in `n` (R401). -/
def BitsKept (m n : Mem) : Prop :=
  ∀ a i, (Mem.read 0 m a).getLsbD i = true → (Mem.read 0 n a).getLsbD i = true

end Sys2Proof.Machine
end

