-- ==== Sys2Proof/WellFormed.lean ====
section
/-! DEFINITION. Which operands a command can carry: pages that exist, numbers within the widths of the messages and registers they stand in. Every other limit is in an operand's type. -/

namespace Sys2Proof

/-! ### Checks -/

/-- A number fits in `n` bits. -/
def isBits (n v : Nat) : Bool := decide (v < 2 ^ n)

/-- The page has a header of its own (R40, R41) and exists. -/
def Page.hasHeader (p : Page) : Bool := p.kind.hasHeader && decide (p.inst < p.kind.count)

/-- How many pads or lanes a page of the lane layout has (R80, R82). -/
def PageKind.pads : PageKind → Nat
  | .lane | .dplane => 4
  | .pelane => 8
  | .ulane | .elane => 1
  | _ => 0

/-- The page has the lane layout. -/
def isLane (p : Page) : Bool := p.kind.pads != 0 && decide (p.inst < p.kind.count)

/-- The page has the lane layout and has this pad. -/
def isPad (p : Page) (pad : Nat) : Bool := decide (pad < p.kind.pads) && decide (p.inst < p.kind.count)

/-- The output of a memory error in the switch buffer is one of the twenty (R166). -/
def CellFault.ok : CellFault → Bool
  | .ce o | .ue o | .ptr o => decide (o < 20)

/-- The measurements of a training stage fit their fields (R60, R63, R65, R66, R70). -/
def StageOut.ok : StageOut → Bool
  | .detect | .tsync => true
  | .orient inv lmap _ _ _ => isBits 4 inv && isBits 8 lmap
  | .eqLoad cls => isBits 2 cls
  | .adapt cs => cs.length == 4 && cs.all fun c => isBits 8 c.1 && isBits 8 c.2.1 && isBits 8 c.2.2
  | .rtt ms far _ => ms.length == 4 && (ms.all fun m => isBits 66 m.1 && isBits 66 m.2.1 && isBits 16 m.2.2) && isBits 16 far

/-- The header words and payload of a control packet (R87, R142). -/
def Ctrl.ok (c : Ctrl) : Bool :=
  isBits 16 c.dest && isBits 16 c.src && isBits 8 c.cop && isBits 8 c.ttl && isBits 1 c.dom && isBits 4 c.status &&
    isBits 10 c.tag && c.words.all (isBits 32)

/-- The fields of a DATA or CTRL packet (R87). -/
def Pkt.ok (p : Pkt) : Bool :=
  isBits 2 p.cls && decide (p.len ≤ 256) && isBits 12 p.seq &&
    match p.body with
    | .data id adapt ctr _ => isBits 16 id && isBits 16 adapt && isBits 32 ctr
    | .ctrl c => c.ok

/-- The identifiers and lengths of a TLP (R233). -/
def Tlp.ok (t : Tlp) : Bool := isBits 16 t.req && isBits 10 t.tag && isBits 13 t.len

/-- A rectangle lies in 16-bit coordinates (R269). -/
def Rect.ok (r : Rect) : Bool := isBits 16 r.x && isBits 16 r.y && isBits 16 r.w && isBits 16 r.h

/-- The numbers of a stream's MSA (R263). -/
def Msa.ok (m : Msa) : Bool :=
  [m.htotal, m.hactive, m.hstart, m.hsw, m.vtotal, m.vactive, m.vstart, m.vsw].all (isBits 16) && isBits 1 m.hsp &&
    isBits 1 m.vsp && isBits 24 m.pclk && [6, 8, 10, 12].contains m.bpc

/-- What a stream packet brings (R263). -/
def StreamEvt.ok : StreamEvt → Bool
  | .msa m => m.ok
  | .line _ _ => true

/-- A hop entry write (R121 to R124). -/
def HopWrite.ok (w : HopWrite) : Bool :=
  isBits 6 w.adapter && isBits 11 w.hop && isBits 6 w.outAdapter && isBits 11 w.outHop && isBits 3 w.prio &&
    isBits 8 w.weight

/-- A DRAM request (R333, R337): one of the clients, an address within 32 GiB. -/
def MemReq.ok (r : MemReq) : Bool := isBits 3 r.client && isBits 35 r.addr && isBits 32 r.len

/-- The hub port, or the codes of an upstream's sources (R305). -/
def UsbOwner.ok : UsbOwner → Bool
  | .port n _ _ _ _ => decide (1 ≤ n ∧ n ≤ 6)
  | .up d src3 up2 => isBits 1 d && isBits 4 src3 && isBits 4 up2

/-- A control request of the embedded device (R309, R318). -/
def UsbReq.ok : UsbReq → Bool
  | .setAddress a => isBits 7 a
  | .setConfig c => isBits 8 c
  | .setInterface i alt ch => decide (i ≤ 2) && isBits 8 alt && isBits 4 ch
  | .setRate r => isBits 4 r
  | .read | .remoteWake _ | .write => true

/-- A USB PD message: a header and up to seven data objects, or the words of an extended message (R348, R363). -/
def isMsg (raw : List Nat) : Bool := decide (raw.length ≤ 66) && raw.all (isBits 32)

/-! ### The commands -/

/-- The operands of a command are such as a sender can give. (log 10, DESIGN CHOICE) -/
def Instr.wellFormed : Instr → Bool
  | .powerOnReset _ _ _ _ _ _ => true
  | .pinReset => true
  | .resetNRelease _ _ _ => true
  | .supplyLoss _ => true
  | .chipSoftwareReset _ _ => true
  | .mgmtReset _ _ => true
  | .aonWdtExpiry => true
  | .watchdogKick _ _ => true
  | .gatedAccess _ _ _ => true
  | .refclkLoss _ => true
  | .turnover => true
  | .cellSlot held faults => isBits 20 held && faults.all CellFault.ok
  | .calendarSlot => true
  | .registerWrite _ _ => true
  | .popRead _ _ => true
  | .blockSoftReset _ p => p.hasHeader
  | .softResetComplete p => p.hasHeader
  | .enable _ p _ => p.hasHeader
  | .levelChange _ p _ => p.hasHeader
  | .derivationDone p vals => p.hasHeader && (vals.all fun v => decide (v.1 < 1024) && isBits 32 v.2)
  | .intForce _ p _ => p.hasHeader
  | .intEnableWrite _ p _ => p.hasHeader
  | .intAck _ p _ => p.hasHeader
  | .errAck _ p _ => p.hasHeader
  | .graceExpiry p => p.hasHeader
  | .arm _ p _ _ => p.hasHeader
  | .cancel _ p _ => p.hasHeader
  | .extLock _ p => p.hasHeader
  | .allLock _ p => p.hasHeader
  | .remoteAccess _ _ _ _ _ => true
  | .modeChange _ _ mode => isBits 4 mode
  | .retrain _ p => isLane p
  | .lnCntClr _ p => isLane p
  | .trainStageDone _ out => out.ok
  | .trainStageFail _ pads => isBits 4 pads
  | .retryWaitExpiry _ => true
  | .los p pad => isPad p pad
  | .lol p pad => isPad p pad
  | .codewordFramingLost _ _ => true
  | .losRelease p pad => isPad p pad
  | .farEndRetrain _ => true
  | .padRecheckDone _ _ _ => true
  | .marginStart _ p pad => isPad p pad
  | .marginDone p pad _ errors => isPad p pad && isBits 32 errors
  | .eyeRefresh p pad height width worst => isPad p pad && isBits 8 height && isBits 8 width && isBits 2 worst
  | .sbuServeFrame _ type hops epoch tRx stamp _ => isBits 4 type && isBits 4 hops && isBits 48 epoch && isBits 32 tRx && isBits 66 stamp
  | .sbuFollowEdge _ stamp _ => isBits 66 stamp
  | .followEdgeSend _ => true
  | .tsyncStepReq _ _ => true
  | .codewordRx _ cwNum lane setId _ symErrs _ _ => isBits 24 cwNum && isBits 2 lane && isBits 4 setId && isBits 8 symErrs
  | .packetRx _ ty _ p pb => isBits 4 ty && p.ok && pb.all (isBits 12)
  | .ackRx _ seq => isBits 12 seq
  | .nakRx _ _ seq => isBits 12 seq
  | .creditRx _ entries => entries.all fun e => isBits 16 e.1 && isBits 32 e.2
  | .pairDropRx _ lmask dir => isBits 4 lmask && isBits 1 dir
  | .addReqRx _ lmask dir => isBits 4 lmask && isBits 1 dir
  | .addReadyRx _ lmask dir => isBits 4 lmask && isBits 1 dir
  | .pairSetRx _ newSet lmask fromCw => isBits 4 newSet && isBits 4 lmask && isBits 24 fromCw
  | .turnPrep _ target set => isBits 16 target && isBits 2 set
  | .turnOk _ target => isBits 16 target
  | .turnNak _ => true
  | .joinFail _ => true
  | .lpReq _ depth => isBits 2 depth
  | .lpAck _ depth => isBits 2 depth
  | .lpNak _ => true
  | .txPacketBoundary _ => true
  | .ackDue _ => true
  | .nakRepeat _ => true
  | .replayTimeout _ => true
  | .creditTimer _ => true
  | .creditRefresh _ => true
  | .turnPadLock _ _ => true
  | .turnWiden _ => true
  | .lpIdleExpiry _ => true
  | .linkWake _ => true
  | .lpWakeDetect _ => true
  | .lpExitDone _ => true
  | .lkCntClr _ _ => true
  | .usb4ConfigAccess _ _ => true
  | .hopEntryWrite _ w => w.ok
  | .pathEntryWrite _ _ _ _ value => isBits 32 value
  | .ctrlPacketRx => true
  | .identify => true
  | .setHubId => true
  | .regRead => true
  | .regWrite => true
  | .portEvent => true
  | .relay => true
  | .pathSetup => true
  | .pathRelease => true
  | .pathDown => true
  | .turnArm => true
  | .turnCancel => true
  | .isoShort => true
  | .isoOk => true
  | .ctrlBadReq => true
  | .ctrlResponseRx => true
  | .ctrlTimeout _ _ => true
  | .addHoldExpiry _ => true
  | .delEntryFree _ => true
  | .upPortDownTimeout _ => true
  | .pcCntClr _ => true
  | .frameTimeout _ _ _ => true
  | .swOutRestart _ _ => true
  | .captureDrain => true
  | .swCapRd _ _ => true
  | .swCntClr _ => true
  | .shaperEligible _ => true
  | .almCntClr _ _ => true
  | .portRst _ => true
  | .peLinkReset _ _ => true
  | .peCntClr _ => true
  | .pcaCntClr _ _ => true
  | .brCntClr _ => true
  | .tlpFromLocal _ t => t.ok
  | .tlpFromTunnel _ _ _ t => t.ok
  | .npIssue _ => true
  | .completionFromTunnel _ t => t.ok
  | .cplTimeout _ _ _ => true
  | .lockedRequest _ _ t => t.ok
  | .unlock _ => true
  | .lockTimeout _ => true
  | .pcaRelease _ _ => true
  | .pcaModeWrite _ _ _ _ _ _ => true
  | .sidebandUpdateSend _ _ => true
  | .sidebandUpdateRx _ _ _ => true
  | .sidebandPulseEnd _ => true
  | .hostWarmReset _ => true
  | .setAddr _ _ => true
  | .smbWrite _ words => words.all (isBits 32)
  | .readStart _ _ => true
  | .smbReadDone => true
  | .readData _ => true
  | .smbStatus => true
  | .select _ _ => true
  | .smbProto => true
  | .alertResponse => true
  | .smbDiscard => true
  | .brRselWrite _ _ => true
  | .prefetchExpiry => true
  | .vblankStart _ => true
  | .lineStart _ _ => true
  | .streamPacketRx _ _ e => e.ok
  | .streamTimeout _ => true
  | .holdReq _ _ _ => true
  | .resumeReq _ _ => true
  | .dispCntClr _ _ => true
  | .writeRect _ _ _ _ r _ => r.ok
  | .fillRect _ _ _ _ r _ => r.ok
  | .copyRect _ _ _ _ _ r _ _ => r.ok
  | .commit _ _ _ _ => true
  | .fence _ _ _ => true
  | .readRect _ _ _ _ _ r => r.ok
  | .badOp _ _ _ _ => true
  | .copyForwardDone _ _ => true
  | .auxRequest _ _ _ _ => true
  | .auxReply _ _ => true
  | .auxTimeout _ => true
  | .plug _ _ => true
  | .unplug _ => true
  | .irqHpd _ _ => true
  | .dpTrainDone _ _ _ => true
  | .readbackFrameEnd _ rows => rows.all fun r => r.all (isBits 30)
  | .rbLoss _ => true
  | .doutRestart _ _ => true
  | .doutRetrain _ _ => true
  | .doutCntClr _ _ => true
  | .overcurrent _ => true
  | .portOwnerChange _ o => o.ok
  | .usbOutPacket _ _ _ => true
  | .usbInToken _ _ => true
  | .microframeStart => true
  | .fbRefresh _ => true
  | .mclkLoss => true
  | .wakeReq _ => true
  | .remoteWakeSignal => true
  | .hostResume _ _ => true
  | .usbBusReset _ _ => true
  | .statusStage => true
  | .setup r _ => r.ok
  | .uhCntClr _ => true
  | .ethFrameRx _ _ _ _ => true
  | .pauseRx _ _ => true
  | .ethTunnelFrame _ _ _ _ _ => true
  | .ethStatusUpdate _ _ _ _ _ => true
  | .linkStateTimer _ _ => true
  | .txTail _ _ _ _ descs => descs.all fun d => isBits 16 d.vlan
  | .rxTail _ _ _ _ sizes => sizes.all (isBits 16)
  | .tsCompletionTimeout _ _ _ => true
  | .ethDmaError _ _ => true
  | .ethBindChange _ _ _ _ => true
  | .irqModExpiry _ _ => true
  | .ethCntClr _ _ => true
  | .dramTraining _ _ => true
  | .dqsCheck => true
  | .dramRequest new _ => new.all MemReq.ok
  | .srEntry => true
  | .pdEntry => true
  | .srExit => true
  | .memCntClr _ => true
  | .ccAttach _ _ _ => true
  | .detach _ _ => true
  | .ccOv _ => true
  | .sourceCapabilities _ raw => isMsg raw
  | .request _ raw => isMsg raw
  | .accept _ raw => isMsg raw
  | .reject _ raw => isMsg raw
  | .wait _ raw => isMsg raw
  | .waitRetry _ => true
  | .psRdy _ raw _ => isMsg raw
  | .prSwap _ raw => isMsg raw
  | .drSwap _ raw => isMsg raw
  | .vconnSwap _ raw => isMsg raw
  | .frSwap _ raw => isMsg raw
  | .frsSignal _ _ => true
  | .supplyFailGpio => true
  | .hardResetRx _ => true
  | .softResetRx _ raw => isMsg raw
  | .eprKeepalive _ raw => isMsg raw
  | .discoverIdentity _ _ _ raw => isMsg raw
  | .discoverModes _ _ _ raw => isMsg raw
  | .enterMode _ _ raw => isMsg raw
  | .enterUsb _ raw => isMsg raw
  | .authenticationMsg _ _ => true
  | .hardReset _ _ => true
  | .softReset _ _ => true
  | .errRecovery _ _ => true
  | .swapPr _ _ => true
  | .swapDr _ _ => true
  | .swapVconn _ _ => true
  | .eprEnter _ _ => true
  | .eprExit _ _ => true
  | .pdSequenceStart _ => true
  | .sinktxExpiry _ => true
  | .eprKaTimer _ => true
  | .eprKaLost _ => true
  | .ppsReqTimer _ => true
  | .ppsTimeout _ => true
  | .senderResponseTimeout _ => true
  | .srcRecover _ => true
  | .errorRecoveryDone _ => true
  | .drSwapWait _ => true
  | .pdTxSend _ _ => true
  | .pdCntClr _ _ => true
  | .dbatStart _ _ => true
  | .ovTrip _ _ _ => true
  | .ocTrip _ _ _ => true
  | .rcTrip _ _ _ => true
  | .vconnOc _ => true
  | .thermWarn _ => true
  | .thermTrip _ => true
  | .thermRelease _ => true
  | .dischFail _ _ => true
  | .transTimeout _ _ _ => true
  | .dischargeComplete _ _ => true
  | .pathClose _ _ => true
  | .closeWaitTimeout _ => true
  | .setContract _ _ _ _ _ _ _ => true
  | .closePath _ _ _ _ => true
  | .openPath _ _ _ _ => true
  | .discharge _ _ _ => true
  | .vconnReq _ _ _ _ => true
  | .frsArm _ _ _ _ => true
  | .clearTrip _ _ _ => true
  | .setLimit _ _ _ _ _ => true
  | .safeReset _ _ => true
  | .patch _ _ _ _ _ => true
  | .lockstepMismatch => true
  | .safeClockFault => true
  | .safeWatchdog => true
  | .safeSramUe => true
  | .safeSupplyLow => true
  | .safetyResetComplete => true
  | .enterD2 _ => true
  | .enterYoyo _ => true
  | .enterOff _ => true
  | .drainTimeout => true
  | .d1Entry _ _ => true
  | .d1Exit _ _ => true
  | .yoyoSample cc vbus _ _ => (cc.length == 6 && cc.all (isBits 6)) && (vbus.length == 6 && vbus.all (isBits 16))
  | .forcedOff => true
  | .pwrBtnWake => true
  | .dbatWake _ => true
  | .gpioEdgeWake _ _ => true
  | .alarmExpiry => true
  | .groupInRange => true
  | .exitTimeout => true
  | .exitRetry => true
  | .padRelease _ => true
  | .retentionRamAccess _ _ _ _ _ => true
  | .aonCntClr _ => true
  | .bootRomStart _ _ _ _ _ => true
  | .recoveryImageRx _ _ => true
  | .otpProgram _ _ _ => true
  | .measExtend _ _ => true
  | .sign _ => true
  | .load _ _ _ => true
  | .derive _ _ _ => true
  | .zeroise _ _ => true
  | .zeroiseAll _ => true
  | .challenge _ _ => true
  | .dbgRespPush _ _ => true
  | .verify _ _ => true
  | .nonceExpiry => true
  | .keyGraceEnd _ => true
  | .getVersion _ => true
  | .getCapabilities _ => true
  | .negotiateAlgorithms _ _ => true
  | .getDigests _ => true
  | .getCertificate _ _ _ _ => true
  | .spdmChallenge _ _ digest => isBits 384 digest
  | .getMeasurements _ _ _ digest => isBits 384 digest
  | .keyExchange _ _ _ digest => isBits 384 digest
  | .finish _ => true
  | .heartbeat _ => true
  | .keyUpdate _ => true
  | .endSession _ => true
  | .spdmUnsupported _ => true
  | .sliceCopyDone => true
  | .sliceCopyTimeout => true
  | .sliceMarchDone _ => true
  | .sliceRestoreDone => true
  | .bistRunGo _ _ => true
  | .logicBistDone _ _ => true
  | .bistCntClr _ => true
  | .fwReady => true
  | .engineHalt _ => true
  | .engineRestart _ => true
  | .go _ _ _ _ _ => true
  | .requestTaken _ => true
  | .abort _ _ => true
  | .done _ _ => true
  | .getInfo _ => true
  | .power _ => true
  | .dpGrant _ => true
  | .keyBind _ key => key.all (isBits 256)
  | .logRead _ words => words.all (isBits 32)
  | .ctrlSend _ => true
  | .fwBegin _ _ => true
  | .fwData _ _ => true
  | .fwEnd _ => true
  | .fwActivate _ _ => true
  | .fwCommit _ => true
  | .fwRollback _ _ => true
  | .svnCommit _ => true
  | .fwUpdateTimeout => true
  | .mbCntClr _ => true
  | .stdLinkTrained _ _ => true
  | .stdLinkDown _ => true
  | .pcieLinkUp _ _ _ => true
  | .pcieLinkDown _ => true
  | .pePerstNDeassert => true
  | .pcieWake _ _ => true
  | .usbPortConnect _ _ _ => true
  | .downstreamWake _ _ => true
  | .usbSuspend _ _ => true
  | .setPortFeature _ _ _ _ => true
  | .mclkReturn => true
  | .sampleFrame _ => true
  | .pauseQuantaExpiry _ => true
  | .padReadd _ _ => true
  | .refclkRestore => true
  | .safeSupplyReturn => true
  | .boardInputChange _ _ => true
  | .rpChange _ _ => true
  | .eprMode _ raw => isMsg raw
  | .srcTransition _ => true
  | .psRdyTimeout _ => true
  | .sourceCapabilitiesRepeat _ => true
  | .noResponseTimeout _ => true
  | .goodcrcMissing _ => true
  | .rngHealthFail => true

end Sys2Proof
end

