-- ==== Sys2Proof/Certificates/Slice0/Obligations.lean ====
section
/-! DEFINITION. The statements about the hub: for every command, where it completes and with what result; what commands leave alone; which writes have no effect; and invariants of every step. -/

open Sys2Proof Sys2Proof.Machine Sys2Proof.Reg

/-- A step runs the command at the front of the queue (00_scope.md). For every state whose queue begins with a command c
and goes on with rest, one step is exec of c on the state whose queue is rest, whatever exec answers. -/
def Obligations.StepRunsTheCommandInFront : Prop :=
  ∀ (s : State) (c : Instr) (rest : List Instr), s.pending = c :: rest → step s = exec c { s with pending := rest }

/-- With no command waiting a step is one nanosecond of hub time (R15, 01_architecture.md). For every state with an
empty queue and no reset of Moabeuc due, one step adds 1 to hub time (modulo 2^64) and to the model's clock and
changes nothing else. That an empty queue is a tick is the model's choice (log entry 2). -/
def Obligations.IdleStepAdvancesHubTime : Prop :=
  ∀ s : State, s.pending = [] → s.rd mbx FW_RESET = 0 →
    step s = .next { s with time := s.time + 1, clock := s.clock + 1 }

/-- Enable, interrupt, error and lock writes to a page's header (R41, R42, R46, R52, R55, R469). On every page with a
header, when the write is accepted: ENABLE written 0 reads 0, and written 1 reads 1 on every page but the SW and
UHUB pages; INT_ENABLE_WRITE leaves in each enable bit the bit written; INT_ACK clears each interrupt bit written 1;
INT_FORCE with a mask of reserved bits only changes nothing; ERR_ACK clears SRC and ESC of the highest source
acknowledged; EXT_LOCK and ALL_LOCK leave their bit 1 and change no other register. Where no bit becomes enabled
over a status bit, INT_ENABLE_WRITE sends nothing. -/
def Obligations.HeaderBitsTakeWhatIsWritten : Prop :=
  (∀ s who p, p.hasHeader = true → s.accepts who p p.enableField →
    Gives (.enable who p false) s fun t => t.rd p p.enableField = 0 ∧ OnlyKeys [key p p.enableField] s t) ∧
  (∀ s who p, p.hasHeader = true → p.kind ≠ .sw → p.kind ≠ .uhub → s.accepts who p p.enableField →
    Gives (.enable who p true) s fun t => t.rd p p.enableField = 1) ∧
  (∀ s who p (m : Fin 4294967296), p.hasHeader = true → s.accepts who p (PG_INT_ENABLE_EN.nth 0) →
    (∀ i, i < 32 → (m : Nat).testBit i = true → s.is p (PG_INT i) = false) →
    Gives (.intEnableWrite who p m) s fun t =>
      (∀ i, i < 32 → t.rd p (PG_INT_ENABLE_EN.nth i) = if (m : Nat).testBit i then 1 else 0) ∧ t.out = s.out) ∧
  (∀ s who p (m : Fin 4294967296), p.hasHeader = true → s.accepts who p (PG_INT 0) →
    Gives (.intAck who p m) s fun t =>
      (∀ i, i < 32 → t.rd p (PG_INT i) = if (m : Nat).testBit i then 0 else s.rd p (PG_INT i)) ∧
      OnlyKeys ((List.range 32).map fun i => key p (PG_INT i)) s t) ∧
  (∀ s who p i, p.hasHeader = true → s.accepts who p (PG_INT_FORCE_FORCE.nth 0) → i < 32 → (i < 5 ∨ 7 < i) →
    s.is p (PG_INT_ENABLE_EN.nth i) = false →
    ∀ h, Gives (.intForce who p ⟨2 ^ i, h⟩) s fun t => t.rd p (PG_INT i) = 1 ∧ OnlyKeys [key p (PG_INT i)] s t) ∧
  (∀ s who p n, p.hasHeader = true → p ≠ glb → s.accepts who p (PG_ERR_STATUS_SRC.nth 0) → n < p.kind.info.nsrc →
    ∀ h, Gives (.errAck who p ⟨2 ^ n, h⟩) s fun t =>
      t.rd p (PG_ERR_STATUS_SRC.nth n) = 0 ∧ t.rd p (PG_ERR_STATUS_ESC.nth n) = 0 ∧
      (s.captured p n = true → t.rd p PG_ERR_FIRST_VALID = 0)) ∧
  (∀ s who p, p.hasHeader = true → s.accepts who p PG_LOCK_EXT_LOCK →
    Gives (.extLock who p) s fun t => t.rd p PG_LOCK_EXT_LOCK = 1 ∧ OnlyKeys [key p PG_LOCK_EXT_LOCK] s t) ∧
  (∀ s who p, p.hasHeader = true → s.accepts who p PG_LOCK_ALL_LOCK →
    Gives (.allLock who p) s fun t => t.rd p PG_LOCK_ALL_LOCK = 1 ∧ OnlyKeys [key p PG_LOCK_ALL_LOCK] s t)

/-- Block soft reset, level changes, the grace timer and cancel act on their page (R41, R45, R47, R50, R53, R470). For a
page with a header: an accepted BLOCK_SOFT_RESET of a page that no adapter engine serves (and that is neither SAFE
nor BIST) leaves IN_RESET and SRST 1; SOFT_RESET_COMPLETE of a page in reset, of a block that restarts nothing,
leaves IN_RESET, SRST and CONTAINED 0, and of a page not in reset changes nothing; LEVEL_CHANGE to basic sets
DERIVING and clears EXPERT, to expert (with LEVEL_DONE not enabled) sets EXPERT and LEVEL_DONE and clears DERIVING;
DERIVATION_DONE of a page at the basic level, Moabeuc running, clears DERIVING; GRACE_EXPIRY that is due sets ESC of
every unacknowledged Notify source of a page whose highest level is Notify and restarts the timer; CANCEL disarms an
armed page, and LK_PAIR. -/
def Obligations.PageCommandsSetTheirPage : Prop :=
  (∀ s who p, p.hasHeader = true → p ≠ safe → p ≠ bist → enginesOf p = [] → s.is p PG_STATUS_IN_RESET = false →
    s.accepts who p PG_CTRL_SRST →
    Gives (.blockSoftReset who p) s fun t => t.rd p PG_STATUS_IN_RESET = 1 ∧ t.rd p PG_CTRL_SRST = 1) ∧
  (∀ s p, p.hasHeader = true → p ≠ safe → p.kind ∉ [PageKind.sw, .pca, .disp, .dout, .uhub, .pd] →
    s.is p PG_STATUS_IN_RESET = true →
    Gives (.softResetComplete p) s fun t =>
      t.rd p PG_STATUS_IN_RESET = 0 ∧ t.rd p PG_CTRL_SRST = 0 ∧ t.rd p PG_STATUS_CONTAINED = 0) ∧
  (∀ s p, p.hasHeader = true → s.is p PG_STATUS_IN_RESET = false → exec (.softResetComplete p) s = .next s) ∧
  (∀ s who p, p.hasHeader = true → p.kind.info.basic = 1 → p.kind.info.expert = 1 → s.is p PG_CTRL_EXPERT = true →
    s.accepts who p PG_CTRL_EXPERT →
    Gives (.levelChange who p false) s fun t => t.rd p PG_CTRL_EXPERT = 0 ∧ t.rd p PG_STATUS_DERIVING = 1 ∧
      OnlyKeys [key p PG_CTRL_EXPERT, key p PG_STATUS_DERIVING] s t) ∧
  (∀ s who p, p.hasHeader = true → p.kind.info.basic = 1 → p.kind.info.expert = 1 → s.is p PG_CTRL_EXPERT = false →
    s.is p (PG_INT_ENABLE_EN.nth intLevelDone) = false → s.accepts who p PG_CTRL_EXPERT →
    Gives (.levelChange who p true) s fun t => t.rd p PG_CTRL_EXPERT = 1 ∧ t.rd p PG_STATUS_DERIVING = 0 ∧
      t.rd p (PG_INT intLevelDone) = 1 ∧
      OnlyKeys [key p PG_CTRL_EXPERT, key p PG_STATUS_DERIVING, key p (PG_INT intLevelDone)] s t) ∧
  (∀ s p vals, p.hasHeader = true → p.kind ≠ .almSh → s.moabeuc = true → s.is p PG_STATUS_DERIVING = true →
    s.is p PG_CTRL_EXPERT = false → s.gated p = false →
    Gives (.derivationDone p vals) s fun t => t.rd p PG_STATUS_DERIVING = 0) ∧
  (∀ s p n, p.hasHeader = true → p.kind.info.notifyCap = true → n < p.kind.info.nsrc →
    s.is p PG_ERR_GRACE_REMAIN = true → s.rd p PG_GRACE_TIME + s.rd p PG_ERR_GRACE_REMAIN * 1000 ≤ s.clock →
    s.is p (PG_ERR_STATUS_SRC.nth n) = true → s.rd p (PG_EFF_SEV.nth n) = 1 →
    Gives (.graceExpiry p) s fun t =>
      t.rd p (PG_ERR_STATUS_ESC.nth n) = 1 ∧ t.rd p PG_ERR_GRACE_REMAIN = s.rd p PG_ERR_GRACE_GRACE % 65536) ∧
  (∀ s who p, p.hasHeader = true → s.accepts who p PG_SHADOW_CTRL_CANCEL →
    Gives (.cancel who p false) s fun t => t.rd p PG_SHADOW_CTRL_ARMED = 0) ∧
  (∀ s who n, n < 6 → s.accepts who (link n) LK_PAIR_SCTRL_CANCEL →
    Gives (.cancel who (link n) true) s fun t => t.rd (link n) LK_PAIR_SCTRL_ARMED = 0 ∧
      OnlyKeys [key (link n) LK_PAIR_SCTRL_ARMED] s t)

/-- ARM arms a page, or reports a target too near or too far as late (R47, R48, R50, R352). With PG_SHADOW_CTRL writable
by the initiator and the page not armed: on a page whose boundary is a turnover, a TARGET that lies less than 2 or
more than 32,767 epochs ahead sets LATE and ARM_LATE and leaves ARMED 0, and a TARGET within that range arms the SW
and SHPCTL pages, and PATHCTL at the expert level, with that TARGET; a DOUT page and the UHUB page are armed at
once; a PD page with an explicit contract is armed and queues a negotiation. A write of ARM to an armed page is
dropped with cause 1. -/
def Obligations.ArmingAPageFollowsItsBoundary : Prop :=
  (∀ s who p (g : Fin 65536), p.hasHeader = true → p.kind.info.bound = 1 → s.is p PG_SHADOW_CTRL_ARMED = false →
    s.accepts who p PG_SHADOW_CTRL_ARM → s.refusal p who PG_SHADOW_CTRL_TARGET = 0 →
    s.leadOf g < 2 ∨ 32767 < s.leadOf g →
    Gives (.arm who p false g) s fun t => t.rd p PG_SHADOW_CTRL_LATE = 1 ∧ t.rd p PG_SHADOW_CTRL_ARMED = 0 ∧
      t.rd p (PG_INT intArmLate) = 1) ∧
  (∀ s who p (g : Fin 65536), p = sw ∨ p = shpctl ∨ (p = pathctl ∧ s.is pathctl PG_CTRL_EXPERT = true) →
    s.is p PG_SHADOW_CTRL_ARMED = false → s.accepts who p PG_SHADOW_CTRL_ARM → s.refusal p who PG_SHADOW_CTRL_TARGET = 0 →
    2 ≤ s.leadOf g → s.leadOf g ≤ 32767 →
    Gives (.arm who p false g) s fun t => t.rd p PG_SHADOW_CTRL_ARMED = 1 ∧ t.rd p PG_SHADOW_CTRL_TARGET = g ∧
      OnlyKeys [key p PG_SHADOW_CTRL_ARMED, key p PG_SHADOW_CTRL_TARGET] s t) ∧
  (∀ s who p (g : Fin 65536), p.hasHeader = true → p.kind = .dout ∨ p.kind = .uhub →
    s.is p PG_SHADOW_CTRL_ARMED = false → s.accepts who p PG_SHADOW_CTRL_ARM → s.refusal p who PG_SHADOW_CTRL_TARGET = 0 →
    Gives (.arm who p false g) s fun t => t.rd p PG_SHADOW_CTRL_ARMED = 1 ∧
      OnlyKeys [key p PG_SHADOW_CTRL_ARMED, key p PG_SHADOW_CTRL_TARGET] s t) ∧
  (∀ s who n (g : Fin 65536), n < 6 → s.is (pd n) PG_SHADOW_CTRL_ARMED = false → s.is (pd n) PD_STATUS_CONTRACT = true →
    s.accepts who (pd n) PG_SHADOW_CTRL_ARM → s.refusal (pd n) who PG_SHADOW_CTRL_TARGET = 0 →
    Gives (.arm who (pd n) false g) s fun t => t.rd (pd n) PG_SHADOW_CTRL_ARMED = 1 ∧ t.rdBit (pd n) PD_Q 2 = true) ∧
  (∀ s who p (g : Fin 65536), p.hasHeader = true → s.awake → s.gated p = false → s.is p PG_SHADOW_CTRL_ARMED = true →
    s.refusal p who PG_SHADOW_CTRL_ARM = 1 → s.refusal p who PG_SHADOW_CTRL_TARGET = 1 →
    s.is p (PG_INT_ENABLE_EN.nth intWrDrop) = false →
    Gives (.arm who p false g) s fun t => t.rd p PG_STATUS_DROP_WHY = 1 ∧ t.rd p PG_STATUS_DROP_SRC = initCode who ∧
      t.rd p (PG_INT intWrDrop) = 1 ∧ t.rd p PG_SHADOW_CTRL_ARMED = s.rd p PG_SHADOW_CTRL_ARMED)

/-- An unassigned address reads 0, ignores writes, and raises nothing (R38). For every state, initiator and address at
which no page lies: POP_READ (a read of any word) returns 0 to its reader and changes nothing else, REGISTER_WRITE
changes nothing, and so do a read and a write through USB4 configuration space; an access to a page whose island is
gated reads 0 or is dropped by R14. A host's access in a low-power state is the wake of R386 besides. -/
def Obligations.AccessesToUnassignedAddresses : Prop :=
  (∀ s who (a : Fin 16777216), pageAt (a / 4 * 4) = none →
    exec (.popRead who a) s = .next ((s.send (.readData who 0)).hostWake s.ps who)) ∧
  (∀ s who (a : Fin 16777216) be v, pageAt (a / 4 * 4) = none →
    exec (.registerWrite who (.word a be v)) s = .next (s.hostWake s.ps who)) ∧
  (∀ s (d : Fin 2) (a : Fin 16777216) be v, pageAt (a / 4 * 4) = none →
    exec (.usb4ConfigAccess d (.read a)) s = .next (s.send (.readData (domInit d) 0)) ∧
    exec (.usb4ConfigAccess d (.write a be v)) s = .next s) ∧
  (∀ s who (a : Fin 16777216) be v p, pageAt (a / 4 * 4) = some p → who ≠ .jtag → s.gated p = true →
    exec (.popRead who a) s =
      .next ((((s.gatedAccess (a / 4 * 4) false).send (.readData who 0))).hostWake s.ps who) ∧
    exec (.registerWrite who (.word a be v)) s = .next ((s.gatedAccess (a / 4 * 4) true).hostWake s.ps who))

/-- An access to a gated island reads 0 or is dropped, and is recorded (R14, R16). In D0 or D1, an access to an address
whose page lies in a gated island leaves GLB_GATED_ADDR holding the address and direction and the source of
GATED_ACCESS pending; a read answers 0; and memories, active settings and every register outside the GLB page are as
before. -/
def Obligations.GatedAccessesAreRecorded : Prop :=
  ∀ s who (a : Fin 33554432) wr p, pageAt a = some p → s.gated p = true → s.awake →
    Gives (.gatedAccess who a wr) s fun t =>
      t.rd glb GLB_GATED_ADDR_ADDR = a ∧ t.rd glb GLB_GATED_ADDR_WRITE = (if wr then 1 else 0) ∧
      t.rd glb (PG_ERR_STATUS_SRC.nth 0) = 1 ∧ (wr = false → ∃ l, t.out = l ++ [.readData who 0]) ∧
      (t.act, t.dram, t.flash, t.otp, t.aonRam) = (s.act, s.dram, s.flash, s.otp, s.aonRam) ∧
      ∀ q f, q.hasHeader = true → q ≠ glb → f.bit < 0x8000 → t.rd q f = s.rd q f

/-- The PATH and SHP windows map their tables directly (R40). Path table entry k lies at 0x0030_0000 + 32 k and shaper s
at 0x0058_0000 + 16 s; neither carries a header; the page that governs the first is PATHCTL and the second SHPCTL;
every other kind of page carries the common header and governs itself. -/
def Obligations.TableWindowsCarryNoHeader : Prop :=
  (∀ k, (path k).base = 0x300000 + 32 * k ∧ headerOf (path k) = pathctl ∧ (path k).hasHeader = false) ∧
  (∀ k, (shaper k).base = 0x580000 + 16 * k ∧ headerOf (shaper k) = shpctl ∧ (shaper k).hasHeader = false) ∧
  (∀ p : Page, p.kind ≠ .path → p.kind ≠ .shaper → p.inst < p.kind.count → p.hasHeader = true ∧ headerOf p = p) ∧
  (∀ k, k < 8192 → ∀ a, 0x300000 + 32 * k ≤ a → a < 0x300000 + 32 * k + 32 → pageAt a = some (path k)) ∧
  (∀ k, k < 4096 → ∀ a, 0x580000 + 16 * k ≤ a → a < 0x580000 + 16 * k + 16 → pageAt a = some (shaper k))

/-- The embedded management function sends its requests on EP2 IN (R308). For every domain whose management function is
the embedded one and an entry below 512: a request of an entry that is not masked, with the device configured and
room for it, appends one packet of 4 bytes to the EP2 IN buffer, after the packets already there, whose value is the
entry number; it sends no MSI-X message; a masked entry is held in its pending bit instead, as R55 sets out. -/
def Obligations.EmbeddedFunctionReplacesMsix : Prop :=
  (∀ (s : State) d e, e < 512 → s.embMgmt d = true → s.embConfigured = true →
    s.is glb (GLB_MSIX_MASKED.nth (512 * d + e)) = false → s.epRoom 4 4 = true →
    ∃ b, (s.sendMsix d e).usb.bufs.list 4 = s.usb.bufs.list 4 ++ [b] ∧ b.length = 4 ∧ leNat b = e ∧
      (s.sendMsix d e).out = s.out ∧ (s.sendMsix d e).regs = s.regs) ∧
  (∀ (s : State) d e, e < 512 → d < 2 → s.embMgmt d = true → s.embConfigured = true →
    s.is glb (GLB_MSIX_MASKED.nth (512 * d + e)) = true →
    (s.sendMsix d e).rd glb (GLB_MSIX_PENDING.nth (512 * d + e)) = 1 ∧ (s.sendMsix d e).usb = s.usb ∧
      (s.sendMsix d e).out = s.out)

/-- Where the pages of the PCIE region lie (R253). The port page lies at 0x0060_0000 with instance 0, PCA_n at
0x0060_1000 + n × 0x1000 with instance 1 + n, the bridges at 0x0060_9000 with instance 9; each has BLOCK 0x0060, SEF
0xFFFF and no shadowed settings; the rest of the region is unassigned. -/
def Obligations.PciePagesArePlaced : Prop :=
  (pcie.base = 0x600000 ∧ pcie.kind.info.instBase + pcie.inst = 0) ∧
  (∀ n, n < 8 → (pca n).base = 0x601000 + n * 0x1000 ∧ (pca n).kind.info.instBase + (pca n).inst = 1 + n) ∧
  (bridge.base = 0x609000 ∧ bridge.kind.info.instBase + bridge.inst = 9) ∧
  (∀ k ∈ [PageKind.pcie, .pca, .bridge], k.info.block = 0x60 ∧ k.info.sef = 0xFFFF ∧ k.info.bound = 0) ∧
  (∀ a, 0x600000 ≤ a → a < 0x601000 → pageAt a = some pcie) ∧
  (∀ a n, n < 8 → 0x601000 + n * 0x1000 ≤ a → a < 0x602000 + n * 0x1000 → pageAt a = some (pca n)) ∧
  (∀ a, 0x609000 ≤ a → a < 0x60A000 → pageAt a = some bridge) ∧
  (∀ a, 0x60A000 ≤ a → a < 0x700000 → pageAt a = none)

/-- Lane training: mode changes, stages, failures and retries (R60, R61, R69, R70, R79). On every tunnel port.
MODE_CHANGE to another mode, accepted, with the link down and no domain bound, sets MODE, clears RETRIES and
PAD_FAIL and starts training (DETECT for modes 1 and 2, STD for 3 to 7, else OFF); to the present mode it leaves the
lanes as they are. RETRAIN with the link down starts training; in mode 0 it changes nothing. A TRAIN_STAGE_DONE of
the present stage moves DETECT to ORIENT, EQ_LOAD, ADAPT and RTT in order, and RTT of a following end whose partner
serves to TSYNC with RTT_NS the largest round trip; a report of another stage changes nothing. TRAIN_STAGE_FAIL
below RETRY_MAX counts a retry, stores the stage and goes to RETRY_WAIT, whose expiry starts training again. -/
def Obligations.TrainingGoesStageByStage : Prop :=
  (∀ s who (n : Fin 6) m, m < 16 → s.accepts who (lane n) LN_CTRL_MODE → s.mode n ≠ m → s.linkUp n = false →
    s.bound 0 = false → s.bound 1 = false →
    Gives (.modeChange who n m) s fun t => t.mode n = m ∧ t.rd (lane n) LN_STATUS_STATE = trainsFrom m ∧
      t.rd (lane n) LN_STATUS_RETRIES = 0 ∧ t.rd (lane n) LN_STATUS_PAD_FAIL = 0 ∧ t.out = s.out) ∧
  (∀ s who (n : Fin 6), s.mode n < 16 → s.accepts who (lane n) LN_CTRL_MODE →
    Gives (.modeChange who n (s.mode n)) s fun t => OnlyKeys [key (pd n) PD_CHOSEN] s t) ∧
  (∀ s who (n : Fin 6), s.accepts who (lane n) LN_CTRL_RETRAIN → s.mode n ≠ 0 → s.linkUp n = false →
    Gives (.retrain who (lane n)) s fun t => t.rd (lane n) LN_STATUS_STATE = trainsFrom (s.mode n)) ∧
  (∀ s who (n : Fin 6), s.accepts who (lane n) LN_CTRL_RETRAIN → s.mode n = 0 →
    exec (.retrain who (lane n)) s = .next s) ∧
  (∀ s (n : Fin 6), s.rd (lane n) LN_STATUS_STATE = 1 → s.rdBit glb GLB_REFCLK_LOST n = false →
    Gives (.trainStageDone n .detect) s fun t => t.rd (lane n) LN_STATUS_STATE = 2 ∧
      t.rd (lane n) (PR_STATUS_SIG.nth 2) = 1 ∧ t.rd (lane n) (PR_STATUS_SIG.nth 3) = 1) ∧
  (∀ s (n : Fin 6) inv lmap v f m, s.rd (lane n) LN_STATUS_STATE = 2 →
    Gives (.trainStageDone n (.orient inv lmap v f m)) s fun t => t.rd (lane n) LN_STATUS_STATE = 3 ∧
      t.rd (lane n) LN_ORIENT_VALID = 1 ∧ t.rd (lane n) (PR_STATUS_LOCK.nth 2) = 1) ∧
  (∀ s (n : Fin 6) cls, s.rd (lane n) LN_STATUS_STATE = 3 →
    Gives (.trainStageDone n (.eqLoad cls)) s fun t => t.rd (lane n) LN_STATUS_STATE = 4) ∧
  (∀ s (n : Fin 6) cs, s.rd (lane n) LN_STATUS_STATE = 4 →
    Gives (.trainStageDone n (.adapt cs)) s fun t => t.rd (lane n) LN_STATUS_STATE = 5) ∧
  (∀ s (n : Fin 6) (a b c : Nat) far, s.rd (lane n) LN_STATUS_STATE = 5 → s.timeRole n = 2 → b - a - c ≤ 3000 →
    s.is (lane n) LN_TSYNC_STATUS_LOCKED = false →
    Gives (.trainStageDone n (.rtt [(a, b, c)] far false)) s fun t => t.rd (lane n) LN_STATUS_STATE = 6 ∧
      t.rd (lane n) LN_RTT_VALID = 1 ∧ t.rd (lane n) LN_RTT_RTT_NS = b - a - c) ∧
  (∀ s (n : Fin 6), s.rd (lane n) LN_STATUS_STATE ≠ 1 → exec (.trainStageDone n .detect) s = .next s) ∧
  (∀ s (n : Fin 6) pads, 1 ≤ s.rd (lane n) LN_STATUS_STATE → s.rd (lane n) LN_STATUS_STATE ≤ 6 →
    s.rd (lane n) LN_STATUS_RETRIES < 255 →
    s.rd (lane n) LN_STATUS_RETRIES + 1 < orOne (s.rd (lane n) LN_CTRL_RETRY_MAX) →
    Gives (.trainStageFail n pads) s fun t => t.rd (lane n) LN_STATUS_STATE = 8 ∧
      t.rd (lane n) LN_STATUS_RETRIES = s.rd (lane n) LN_STATUS_RETRIES + 1 ∧
      t.rd (lane n) LN_STATUS_FAIL_STAGE = s.rd (lane n) LN_STATUS_STATE) ∧
  (∀ s (n : Fin 6), s.rd (lane n) LN_STATUS_STATE = 8 →
    Gives (.retryWaitExpiry n) s fun t => t.rd (lane n) LN_STATUS_STATE = trainsFrom (s.mode n))

/-- Loss of signal, of lock and of framing, their release, and a far end that retrains (R68, R69, R82, R103). LOS or LOL
of a receiving lane of a page whose link is up, the source not pending and at Notify or below, clears SIG or LOCK
and counts; during training of a Kloyr port below RETRY_MAX it counts and goes to RETRY_WAIT; LOS_RELEASE sets SIG
and changes nothing else. CODEWORD_FRAMING_LOST of one of several receiving pads of a Fysoelo link counts as LOL,
takes the pad out of RX_PADS, masks it and queues a PAIR DROP of its lane. FAR_END_RETRAIN of a Kloyr link leaves
the lanes at the start of training in their mode, with LOS and LOL neither raised nor counted. -/
def Obligations.PadSignalsAreSupervised : Prop :=
  (∀ s p pad, p.kind = .pelane ∨ p.kind = .ulane → isPad p pad = true → s.lnState p = 7 →
    s.is p (PR_STATUS_LP.nth pad) = false → s.rd p (LN_LOL_TIME.nth pad) = 0 → s.mild p 0 →
    s.rd p (PR_EVENT_CNT_LOS_CNT.nth pad) < 65535 →
    Gives (.los p pad) s fun t => t.rd p (PR_STATUS_SIG.nth pad) = 0 ∧ t.rd p (PG_ERR_STATUS_SRC.nth 0) = 1 ∧
      t.rd p (PR_EVENT_CNT_LOS_CNT.nth pad) = s.rd p (PR_EVENT_CNT_LOS_CNT.nth pad) + 1) ∧
  (∀ s p pad, p.kind = .pelane ∨ p.kind = .ulane → isPad p pad = true → s.lnState p = 7 →
    s.is p (PR_STATUS_LP.nth pad) = false → s.rd p (LN_LOS_TIME.nth pad) = 0 → s.mild p 1 →
    s.rd p (PR_EVENT_CNT_LOL_CNT.nth pad) < 65535 →
    Gives (.lol p pad) s fun t => t.rd p (PR_STATUS_LOCK.nth pad) = 0 ∧ t.rd p (PG_ERR_STATUS_SRC.nth 1) = 1 ∧
      t.rd p (PR_EVENT_CNT_LOL_CNT.nth pad) = s.rd p (PR_EVENT_CNT_LOL_CNT.nth pad) + 1) ∧
  (∀ s (n : Fin 6) pad, pad < 4 → s.rd (lane n) (PR_STATUS_DIR.nth pad) = 2 → 2 ≤ s.rd (lane n) LN_STATUS_STATE →
    s.rd (lane n) LN_STATUS_STATE ≤ 6 → s.is (lane n) (PR_STATUS_LP.nth pad) = false →
    s.rd (lane n) (LN_LOS_TIME.nth pad) = 0 → s.rd (lane n) (LN_LOL_TIME.nth pad) = 0 →
    s.rd (lane n) LN_STATUS_RETRIES < 255 →
    s.rd (lane n) LN_STATUS_RETRIES + 1 < orOne (s.rd (lane n) LN_CTRL_RETRY_MAX) →
    (Gives (.los (lane n) pad) s fun t => t.rd (lane n) LN_STATUS_STATE = 8 ∧ t.rd (lane n) (PR_STATUS_SIG.nth pad) = 0) ∧
    (Gives (.lol (lane n) pad) s fun t => t.rd (lane n) LN_STATUS_STATE = 8 ∧ t.rd (lane n) (PR_STATUS_LOCK.nth pad) = 0)) ∧
  (∀ s p pad, isPad p pad = true →
    Gives (.losRelease p pad) s fun t => t.rd p (PR_STATUS_SIG.nth pad) = 1 ∧ OnlyKeys [key p (PR_STATUS_SIG.nth pad)] s t) ∧
  (∀ s (n : Fin 6) (pad : Fin 4), s.mode n = 1 → s.rd (lane n) LN_STATUS_STATE = 7 →
    s.rd (lane n) (PR_STATUS_DIR.nth pad) = 2 → s.is (lane n) (PR_STATUS_LP.nth pad) = false →
    s.rd (lane n) (LN_LOS_TIME.nth pad) = 0 → s.mild (lane n) 1 → s.mild (link n) 1 →
    s.is (link n) LK_STATUS_JOINING = false → s.rd (link n) LK_STATUS_RX_PADS < 16 →
    minus4 (s.rd (link n) LK_STATUS_RX_PADS) (2 ^ (pad : Nat)) ≠ 0 →
    s.rd (lane n) (PR_EVENT_CNT_LOL_CNT.nth pad) < 65535 →
    Gives (.codewordFramingLost n pad) s fun t =>
      t.rd (lane n) (PR_EVENT_CNT_LOL_CNT.nth pad) = s.rd (lane n) (PR_EVENT_CNT_LOL_CNT.nth pad) + 1 ∧
      t.rd (link n) LK_STATUS_RX_PADS = minus4 (s.rd (link n) LK_STATUS_RX_PADS) (2 ^ (pad : Nat)) ∧
      t.is (lane n) (PR_STATUS_LP.nth pad) = true ∧
      t.linkq.list n = s.linkq.list n ++ [pairMsg 1 0 (2 ^ s.rd (lane n) (PR_STATUS_LANE.nth pad)) 1 0 0 0]) ∧
  (∀ s (n : Fin 6), s.kloyr n = true → s.rd (lane n) LN_STATUS_STATE = 7 →
    Gives (.farEndRetrain n) s fun t => t.rd (lane n) LN_STATUS_STATE = trainsFrom (t.mode n) ∧
      t.rd (lane n) LN_ORIENT_VALID = 0)

/-- Rechecks and re-adds of pads, margining, eye reports and lane counters (R62, R77, R78, R79, R80, R82, R104).
PAD_RECHECK_DONE of a pad being added queues ADD_READY if it passes, and if it fails a DROP, after which the pad is
no longer being added; PAD_READD of a dropped pad with its premises queues ADD_REQ and marks the pad. MARGIN_START,
accepted, sets BUSY and clears the result, and during a run changes nothing; MARGIN_DONE ends a run with DONE and
the error count, saturated, or with ABORTED; EYE_REFRESH shows the measured values of a receiving pad of active
lanes; LN_CNT_CLR clears every pad's counters. -/
def Obligations.PadsRejoinMarginAndReport : Prop :=
  (∀ s (n : Fin 6) (pad : Fin 4), s.kloyr n = true → s.rd (lane n) LN_STATUS_STATE = 7 →
    s.rdBit (link n) LK_ADD_PADS pad = true →
    Gives (.padRecheckDone n pad true) s fun t =>
      t = s.queueLink n (pairMsg 3 0 (2 ^ s.rd (lane n) (PR_STATUS_LANE.nth pad)) 1 0 0 0)) ∧
  (∀ s (n : Fin 6) (pad : Fin 4), s.kloyr n = true → s.rd (lane n) LN_STATUS_STATE = 7 →
    s.rdBit (link n) LK_ADD_PADS pad = true → s.rd (link n) LK_ADD_PADS < 16 → s.mild (link n) 1 →
    Gives (.padRecheckDone n pad false) s fun t => t.rdBit (link n) LK_ADD_PADS pad = false ∧
      t.rd (link n) LK_LAST_DROP_CAUSE = 4 ∧ t.rd (link n) LK_LAST_DROP_PADS = 2 ^ (pad : Nat) ∧
      t.linkq.list n = s.linkq.list n ++ [pairMsg 1 0 (2 ^ s.rd (lane n) (PR_STATUS_LANE.nth pad)) 1 0 0 0]) ∧
  (∀ s (n : Fin 6) (pad : Fin 4), s.rd (lane n) LN_STATUS_STATE = 7 → s.mode n = 1 →
    s.rdBit (link n) LK_OUT_PADS pad = true → s.is glb GLB_MOABEUC_HALTED = false →
    s.rdBit (link n) LK_PAIR_PAD_EN pad = true → s.rd (link n) LK_ADD_PADS < 16 →
    Gives (.padReadd n pad) s fun t => t.rdBit (link n) LK_ADD_PADS pad = true ∧
      t.linkq.list n = s.linkq.list n ++ [pairMsg 2 0 (2 ^ s.rd (lane n) (PR_STATUS_LANE.nth pad))
        (if s.rd (lane n) (PR_STATUS_DIR.nth pad) = 1 then 0 else 1) 0 0 0]) ∧
  (∀ s who p pad, isPad p pad = true → p.kind ≠ .dplane → s.accepts who p (PR_MARGIN_CTRL_START.nth pad) →
    s.is p (PR_MARGIN_CTRL_BUSY.nth pad) = false →
    Gives (.marginStart who p pad) s fun t => t.rd p (PR_MARGIN_CTRL_BUSY.nth pad) = 1 ∧
      t.rd p (PR_MARGIN_RESULT_DONE.nth pad) = 0 ∧ t.rd p (PR_MARGIN_RESULT_ABORTED.nth pad) = 0 ∧
      t.rd p (PR_MARGIN_RESULT_ERRORS.nth pad) = 0 ∧
      OnlyKeys [key p (PR_MARGIN_CTRL_BUSY.nth pad), key p (PR_MARGIN_RESULT_DONE.nth pad),
        key p (PR_MARGIN_RESULT_ABORTED.nth pad), key p (PR_MARGIN_RESULT_ERRORS.nth pad)] s t) ∧
  (∀ s who p pad, isPad p pad = true → s.accepts who p (PR_MARGIN_CTRL_START.nth pad) →
    s.is p (PR_MARGIN_CTRL_BUSY.nth pad) = true → exec (.marginStart who p pad) s = .next s) ∧
  (∀ s p pad e, isPad p pad = true → s.is p (PR_MARGIN_CTRL_BUSY.nth pad) = true →
    s.is p (PR_STATUS_LP.nth pad) = false → s.lnState p = 7 →
    Gives (.marginDone p pad false e) s fun t => t.rd p (PR_MARGIN_CTRL_BUSY.nth pad) = 0 ∧
      t.rd p (PR_MARGIN_RESULT_DONE.nth pad) = 1 ∧ t.rd p (PR_MARGIN_RESULT_ERRORS.nth pad) = min e 16777215) ∧
  (∀ s p pad e, isPad p pad = true → s.is p (PR_MARGIN_CTRL_BUSY.nth pad) = true →
    Gives (.marginDone p pad true e) s fun t => t.rd p (PR_MARGIN_CTRL_BUSY.nth pad) = 0 ∧
      t.rd p (PR_MARGIN_RESULT_ABORTED.nth pad) = 1 ∧ t.rd p (PR_MARGIN_RESULT_DONE.nth pad) = s.rd p (PR_MARGIN_RESULT_DONE.nth pad)) ∧
  (∀ s (n : Fin 6) pad h w x, pad < 4 → h < 256 → w < 256 → x < 4 → s.rd (lane n) (PR_STATUS_DIR.nth pad) = 2 →
    s.rd (lane n) LN_STATUS_STATE = 7 →
    Gives (.eyeRefresh (lane n) pad h w x) s fun t => t.rd (lane n) (PR_EYE_EYE_H.nth pad) = h ∧
      t.rd (lane n) (PR_EYE_EYE_W.nth pad) = w ∧ t.rd (lane n) (PR_EYE_WORST.nth pad) = x) ∧
  (∀ s who p, isLane p = true → s.accepts who p LN_CTRL_CNT_CLR →
    Gives (.lnCntClr who p) s fun t => ∀ i, i < 8 → t.rd p (PR_ERR_CNT_SYM_ERR.nth i) = 0 ∧
      t.rd p (PR_EVENT_CNT_LOS_CNT.nth i) = 0 ∧ t.rd p (PR_EVENT_CNT_LOL_CNT.nth i) = 0)

/-- What the ends of a time-sync exchange send, stamp and compute (R73, R74, R75). On a Kloyr port. A following end
discards a serve frame with a bad CRC (its exchange is skipped); with a good one it stores HOPS one higher (at most
15), T1 and T2; a TYPE 3 frame does no more. A complete exchange before the first step computes OFFSET = ((T2 − T1)
− (T4 − T3) + ASYM_CORR)/2 and steps hub time back by it, with no page armed. A serving end stamps a follow edge as
T4. A following end sends its edge 8,192 ns into its epoch and keeps that instant as T3. TSYNC_STEP_REQ sets STEP on
a following port and has no effect on another. -/
def Obligations.TimeSyncExchangesOverSbu : Prop :=
  (∀ s (n : Fin 6) ty h e r a, s.kloyr n = true → s.timeRole n = 2 →
    Gives (.sbuServeFrame n ty h e r a false) s fun t => t.rd (lane n) LN_PREV_OK = 0 ∧
      OnlyKeys [key (lane n) LN_PREV_OK] s t) ∧
  (∀ s (n : Fin 6) h e r a, s.kloyr n = true → s.timeRole n = 2 → e < 2 ^ 48 → a < 2 ^ 66 →
    Gives (.sbuServeFrame n 3 h e r a true) s fun t => t.rd (lane n) LN_TSYNC_STATUS_HOPS = min 15 (h + 1) ∧
      t.rd (lane n) LN_T1_EPOCH = e ∧ t.rd (lane n) LN_T2 = a ∧ t.rd (lane n) LN_PREV_OK = 1 ∧
      OnlyKeys [key (lane n) LN_TSYNC_STATUS_HOPS, key (lane n) LN_T1_EPOCH, key (lane n) LN_T2, key (lane n) LN_PREV_OK] s t) ∧
  (∀ s (n : Fin 6) h e r a, s.kloyr n = true → s.timeRole n = 2 → e < 2 ^ 48 → r < 2 ^ 32 → r ≤ e * 65536 →
    e * 65536 - r < 2 ^ 32 → s.is (lane n) LN_PREV_OK = true → 0 < s.rd (lane n) LN_T3 → s.rd (lane n) LN_T3 < a →
    s.rd (lane n) LN_STATUS_STATE ≠ 7 → s.is (lane n) LN_TSYNC_STEPPED = false →
    (∀ p ∈ bound1, s.is p PG_SHADOW_CTRL_ARMED = false) →
    Gives (.sbuServeFrame n 1 h e r a true) s fun t =>
      let t1 : Int := s.rd (lane n) LN_T1_EPOCH * 65536
      let t2 : Int := s.rd (lane n) LN_T2
      let t3 : Int := s.rd (lane n) LN_T3
      let t4 : Int := e * 65536 - (((e * 65536 + 2 ^ 32 - r) % 2 ^ 32 : Nat) : Int)
      let off := ((t2 - t1) - (t4 - t3) + signed 8 (s.rd (lane n) LN_TSYNC_CTRL_ASYM_CORR)) / 2
      t.rd (lane n) LN_TSYNC_OFFSET_OFFSET = unsigned 32 off ∧ t.time = s.time + BitVec.ofInt 64 (-(offsetNs off)) ∧
      t.rd (lane n) LN_TSYNC_STEPPED = 1) ∧
  (∀ s (n : Fin 6) a, s.kloyr n = true → s.timeRole n = 1 → a < 2 ^ 66 →
    Gives (.sbuFollowEdge n a true) s fun t => t.rd (lane n) LN_T4 = a ∧ t.rd (lane n) LN_T4_NEW = 1 ∧
      OnlyKeys [key (lane n) LN_T4, key (lane n) LN_T4_NEW] s t) ∧
  (∀ s (n : Fin 6) a, exec (.sbuFollowEdge n a false) s = .next s) ∧
  (∀ s (n : Fin 6), s.mode n = 1 → s.timeRole n = 2 → s.rd (lane n) LN_STATUS_STATE ≠ 0 →
    s.rd (lane n) LN_STATUS_STATE ≠ 9 → s.is (lane n) LN_EXCH = true →
    Gives (.followEdgeSend n) s fun t =>
      t.rd (lane n) LN_T3 = s.time.toNat / 2 ^ 14 * 65536 + 4 * 8192 ∧ t.rd (lane n) LN_EXCH = 0 ∧
      t.rd (lane n) LN_MISSING = 0 ∧ t.out = s.out ++ [.sbu n 2 0 s.epoch 0]) ∧
  (∀ s who (n : Fin 6), s.accepts who (lane n) LN_TSYNC_CTRL_STEP → s.timeRole n = 2 →
    Gives (.tsyncStepReq who n) s fun t => t.rd (lane n) LN_TSYNC_CTRL_STEP = 1 ∧
      OnlyKeys [key (lane n) LN_TSYNC_CTRL_STEP] s t) ∧
  (∀ s who (n : Fin 6), s.accepts who (lane n) LN_TSYNC_CTRL_STEP → s.timeRole n ≠ 2 →
    exec (.tsyncStepReq who n) s = .next s)

/-- What a Kloyr link does with codewords and packets that arrive (R86, R88, R93, R94, R101, R103). On a Kloyr link in
service. An uncorrectable codeword counts, starts a resynchronisation and leaves a NAK due; a decoded one outside
STANDBY is followed: its set and the number after its own are expected next, and a packet header ends the
resynchronisation. A well-formed packet, outside a resynchronisation and in Fysoelo mode: the expected CTRL packet,
with room in the pool, advances NEXT_RX, ends the gap and waits to be handled; one ahead of sequence is discarded
and counted, leaving a gap; a duplicate is discarded and counted, and an acknowledgement is due. A packet whose HCRC
fails counts as malformed and resynchronises. During a resynchronisation nothing is read. -/
def Obligations.ReceiverFollowsSequenceNumbers : Prop :=
  (∀ s (n : Fin 6) cw ln set e h, s.inService n = true → s.rd (linkCnt n) LK_CNT_FEC_UNCORR < 2 ^ 32 - 1 →
    Gives (.codewordRx n cw ln set false e true h) s fun t =>
      t.rd (linkCnt n) LK_CNT_FEC_UNCORR = s.rd (linkCnt n) LK_CNT_FEC_UNCORR + 1 ∧ t.rd (link n) LK_RESYNC = 1 ∧
      t.rd (link n) LK_NAK_DUE = 1 ∧ t.rd (link n) LK_GAP = 1) ∧
  (∀ s (n : Fin 6) cw ln set e h, s.inService n = true → set < 16 →
    Gives (.codewordRx n cw ln set false e false h) s fun t =>
      t.rd (link n) LK_RX_SET = set ∧ t.rd (link n) LK_CW_RX = (cw + 1) % 2 ^ 24 ∧
      t.rd (link n) LK_RESYNC = (if h then 0 else s.rd (link n) LK_RESYNC)) ∧
  (∀ s (n : Fin 6) ty hc p pb, s.inService n = true → s.is (link n) LK_RESYNC = true →
    exec (.packetRx n ty hc p pb) s = .next s) ∧
  (∀ s (n : Fin 6) ty p pb, s.inService n = true → s.is (link n) LK_RESYNC = false → s.mild (link n) 7 →
    s.rd (linkCnt n) LK_CNT_MALFORMED < 2 ^ 32 - 1 →
    Gives (.packetRx n ty false p pb) s fun t =>
      t.rd (linkCnt n) LK_CNT_MALFORMED = s.rd (linkCnt n) LK_CNT_MALFORMED + 1 ∧ t.rd (link n) LK_RESYNC = 1 ∧
      t.rd (link n) LK_GAP = 1 ∧ t.rd (link n) LK_SEQ_NEXT_RX = s.rd (link n) LK_SEQ_NEXT_RX) ∧
  (∀ s (n : Fin 6) p c pb, s.inService n = true → s.mode n = 1 → s.is (link n) LK_RESYNC = false →
    s.malformed n 2 true p = false → p.body = .ctrl c → p.seq = s.rd (link n) LK_SEQ_NEXT_RX → p.seq < 4096 →
    creditsOf p.len ≤ (s.rd (link n) LK_CP_GRANT + 2 ^ 32 - s.rd (link n) LK_CP_RXD) % 2 ^ 32 →
    Gives (.packetRx n 2 true p pb) s fun t => t.rd (link n) LK_SEQ_NEXT_RX = (p.seq + 1) % 4096 ∧
      t.rd (link n) LK_GAP = 0 ∧ t.rd (link n) LK_NAK_DUE = 0 ∧ t.ctrlIn = s.ctrlIn ++ [((n : Nat), c)]) ∧
  (∀ s (n : Fin 6) ty p pb, s.inService n = true → s.mode n = 1 → s.is (link n) LK_RESYNC = false → ty ≠ 3 →
    s.malformed n ty true p = false → 0 < (p.seq + 4096 - s.rd (link n) LK_SEQ_NEXT_RX) % 4096 →
    (p.seq + 4096 - s.rd (link n) LK_SEQ_NEXT_RX) % 4096 < 2048 →
    s.rd (linkCnt n) LK_CNT_GAP_DISCARD < 2 ^ 32 - 1 →
    Gives (.packetRx n ty true p pb) s fun t => t.is (link n) LK_GAP = true ∧
      t.rd (linkCnt n) LK_CNT_GAP_DISCARD = s.rd (linkCnt n) LK_CNT_GAP_DISCARD + 1 ∧
      t.rd (link n) LK_SEQ_NEXT_RX = s.rd (link n) LK_SEQ_NEXT_RX ∧ t.ctrlIn = s.ctrlIn ∧ t.waiting = s.waiting) ∧
  (∀ s (n : Fin 6) ty p pb, s.inService n = true → s.mode n = 1 → s.is (link n) LK_RESYNC = false → ty ≠ 3 →
    s.malformed n ty true p = false → 2048 ≤ (p.seq + 4096 - s.rd (link n) LK_SEQ_NEXT_RX) % 4096 →
    s.rd (linkCnt n) LK_CNT_DUP_DISCARD < 2 ^ 32 - 1 →
    Gives (.packetRx n ty true p pb) s fun t => t.rd (link n) LK_ACK_DUE = 1 ∧
      t.rd (linkCnt n) LK_CNT_DUP_DISCARD = s.rd (linkCnt n) LK_CNT_DUP_DISCARD + 1 ∧
      OnlyKeys [key (link n) LK_ACK_DUE, key (linkCnt n) LK_CNT_DUP_DISCARD] s t)

/-- Acknowledgements, replays and credits of a Kloyr link (R92, R93, R94, R96, R98, R99). On a Kloyr link in service. An
acknowledgement releases exactly the held packets up to its number, modulo 4,096; a NAK and a replay timeout leave
every held packet to be sent again, below REPLAY_MAX; a credit entry of the control pool raises its limit, modulo
2^32, and never lowers it. ACK_DUE makes an acknowledgement due when packets are unacknowledged, NAK_REPEAT makes a
NAK due during a gap. The credit timer makes an update due for the pool with credits freed, and the refresh for the
pool and every path with an allocation. At a packet boundary in ACTIVE the LINK packet at the head of the queue
leaves, within its budget, with the acknowledgement word. -/
def Obligations.ReplayAndCreditsFollowTheFarEnd : Prop :=
  (∀ s (n : Fin 6) seq, s.inService n = true →
    Gives (.ackRx n seq) s fun t => t.replay.list n =
      (s.replay.list n).filter fun x => !((seq + 4096 - x.pkt.seq) % 4096 < 2048)) ∧
  (∀ s (n : Fin 6) seq, s.inService n = true → s.replay.list n ≠ [] →
    s.rd (link n) LK_REPLAYS < orOne (s.rd (link n) LK_CTRL_REPLAY_MAX) → s.rd (linkCnt n) LK_CNT_NAK_RX < 2 ^ 32 - 1 →
    Gives (.nakRx n false seq) s fun t =>
      t.replay.list n = (s.replay.list n).map (fun x => { x with due := true }) ∧
      t.rd (linkCnt n) LK_CNT_NAK_RX = s.rd (linkCnt n) LK_CNT_NAK_RX + 1) ∧
  (∀ s (n : Fin 6), s.inService n = true → s.replay.list n ≠ [] →
    s.rd (link n) LK_REPLAYS < orOne (s.rd (link n) LK_CTRL_REPLAY_MAX) →
    Gives (.replayTimeout n) s fun t =>
      t.replay.list n = (s.replay.list n).map (fun x => { x with due := true }) ∧
      t.rd (link n) LK_REPLAYS = (s.rd (link n) LK_REPLAYS + 1) % 256) ∧
  (∀ s (n : Fin 6) cum, s.inService n = true → s.rd (link n) LK_CPOOL_TX_LIMIT < 2 ^ 32 → cum < 2 ^ 32 →
    Gives (.creditRx n [(0, cum)]) s fun t =>
      t.rd (link n) LK_CPOOL_TX_LIMIT = (if (cum + 2 ^ 32 - s.rd (link n) LK_CPOOL_TX_LIMIT) % 2 ^ 32 < 2 ^ 31 then cum
        else s.rd (link n) LK_CPOOL_TX_LIMIT) ∧
      OnlyKeys [key (link n) LK_CPOOL_TX_LIMIT] s t) ∧
  (∀ s (n : Fin 6), s.inService n = true → s.rd (link n) LK_UNACK_RX ≠ 0 →
    Gives (.ackDue n) s fun t => t.rd (link n) LK_ACK_DUE = 1 ∧ OnlyKeys [key (link n) LK_ACK_DUE] s t) ∧
  (∀ s (n : Fin 6), s.inService n = true → s.is (link n) LK_GAP = true →
    Gives (.nakRepeat n) s fun t => t.rd (link n) LK_NAK_DUE = 1 ∧ OnlyKeys [key (link n) LK_NAK_DUE] s t) ∧
  (∀ s (n : Fin 6), s.inService n = true → s.rd (link n) LK_CP_FREED ≠ 0 →
    Gives (.creditTimer n) s fun t => 0 ∈ t.creditDue.list n ∧
      (∀ k ∈ s.entries, s.rd (path k) PT_W0_IN_PORT = n → s.rd (path k) PT_FREED ≠ 0 →
        s.rd (path k) PT_W0_IN_PATH_ID ∈ t.creditDue.list n) ∧ t.regs = s.regs) ∧
  (∀ s (n : Fin 6), s.inService n = true →
    Gives (.creditRefresh n) s fun t => 0 ∈ t.creditDue.list n ∧
      (∀ k ∈ s.entries, s.rd (path k) PT_W0_IN_PORT = n → s.rd (path k) PT_W3_ALLOC ≠ 0 →
        s.rd (path k) PT_W0_STATE = 1 → s.rd (path k) PT_W0_IN_PATH_ID ∈ t.creditDue.list n) ∧ t.regs = s.regs) ∧
  (∀ s (n : Fin 6) m rest, s.kloyr n = true → s.rd (link n) LK_STATUS_STATE = 1 → s.rd (link n) LK_DROP_OPEN ≠ 2 →
    s.is (link n) LK_PAIR_SCTRL_ARMED = false → s.linkq.list n = m :: rest → s.rd (link n) LK_TOKENS ≤ 1024000 →
    1000 * linkBytes m ≤ s.rd (link n) LK_TOKENS →
    Gives (.txPacketBoundary n) s fun t => t.linkq.list n = rest ∧
      t.out = s.out ++ [.linkMsg n (s.is (link n) LK_RX_ANY) (s.is (link n) LK_NAK_DUE)
        ((s.rd (link n) LK_SEQ_NEXT_RX + 4095) % 4096) m] ∧
      t.rd (link n) LK_NAK_DUE = 0 ∧ t.rd (link n) LK_ACK_DUE = 0)

/-- Lanes dropped and added again, and turnarounds of a Fysoelo link (R91, R103, R104, R105, R106, R110). On a link in
service. PAIR_DROP of lanes the far end transmits, none of them being added, takes their live pads out of RX_PADS;
in KH520 legacy mode it takes the link down. ADD_REQ marks the pads of its lanes that are out, and in legacy mode is
refused with DROP; ADD_READY with pads being added, and JOIN_FAIL of a transmitting turned pad, change the transmit
set under the next SET_ID. PAIR_SET gives RX_PADS the pads of its lanes and expects its SET_ID. TURN_PREP before an
arm waits, and in legacy mode is answered with TURN_NAK; TURN_OK for the armed epoch sets TURN_OK; TURN_NAK disarms
LK_SET with TURN_ABORT. A turned pad that has locked joins RX_PADS; one that has not stays out with JOIN_FAIL;
TURN_WIDEN sends SET for the widened set. -/
def Obligations.LinksChangeTheirPairSets : Prop :=
  (∀ s (n : Fin 6) lm, s.inService n = true → s.mode n = 1 → s.mild (link n) 1 →
    (∀ p ∈ s.padsOf n 2 lm, s.rdBit (link n) LK_ADD_PADS p = false) →
    ((s.padsOf n 2 lm).filter fun p => s.rdBit (link n) LK_STATUS_RX_PADS p) ≠ [] →
    Gives (.pairDropRx n lm 0) s fun t => t.rd (link n) LK_STATUS_RX_PADS =
        minus4 (s.rd (link n) LK_STATUS_RX_PADS)
          (padMask ((s.padsOf n 2 lm).filter fun p => s.rdBit (link n) LK_STATUS_RX_PADS p)) ∧
      t.rd (link n) LK_LAST_DROP_CAUSE = 2) ∧
  (∀ s (n : Fin 6) lm d, s.inService n = true → s.mode n = 2 → s.bound 0 = false → s.bound 1 = false →
    Gives (.pairDropRx n lm d) s fun t => t.rd (alm n) ALM_ACC_BROKEN = 1 ∧ t.rd pathctl (PC_REFUSED.nth n) = 0) ∧
  (∀ s (n : Fin 6) lm d p, s.inService n = true → s.mode n = 1 → p ∈ s.padsOf n (if d = 1 then 1 else 2) lm →
    s.rdBit (link n) LK_OUT_PADS p = true → s.rd (link n) LK_ADD_PADS < 16 →
    Gives (.addReqRx n lm d) s fun t => t.rdBit (link n) LK_ADD_PADS p = true ∧ OnlyKeys [key (link n) LK_ADD_PADS] s t) ∧
  (∀ s (n : Fin 6) lm, s.inService n = true → s.mode n = 2 →
    exec (.addReqRx n lm 1) s = .next (s.queueLink n (pairMsg 1 0 lm 0 0 0 0))) ∧
  (∀ s (n : Fin 6) lm d, s.inService n = true →
    ((s.padsOf n (if d = 1 then 1 else 2) lm).filter fun p => s.rdBit (link n) LK_ADD_PADS p) ≠ [] →
    Gives (.addReadyRx n lm d) s fun t =>
      t.rd (link n) LK_STATUS_SET_ID = (s.rd (link n) LK_STATUS_SET_ID + 1) % 16) ∧
  (∀ s (n : Fin 6) id lm cw, s.inService n = true → id < 16 →
    Gives (.pairSetRx n id lm cw) s fun t => t.rd (link n) LK_RX_SET = id ∧ t.rd (link n) LK_DROP_SENT = 0 ∧
      t.rd (link n) LK_STATUS_RX_PADS = padMask (s.padsOf n 2 lm) ∧ t.rd (link n) LK_CW_RX = cw % 2 ^ 24) ∧
  (∀ s (n : Fin 6) g set, s.inService n = true → s.mode n = 1 → s.is (link n) PG_SHADOW_CTRL_ARMED = false →
    g < 65536 → set < 4 →
    Gives (.turnPrep n g set) s fun t => t.rd (link n) LK_PREP_VALID = 1 ∧ t.rd (link n) LK_PREP_TARGET = g ∧
      t.rd (link n) LK_PREP_SET = set ∧
      OnlyKeys [key (link n) LK_PREP_VALID, key (link n) LK_PREP_TARGET, key (link n) LK_PREP_SET] s t) ∧
  (∀ s (n : Fin 6) g set, s.inService n = true → s.mode n = 2 → s.is (link n) PG_SHADOW_CTRL_ARMED = false →
    g < 65536 →
    Gives (.turnPrep n g set) s fun t => t.rd (link n) LK_PREP_VALID = 0 ∧
      t.linkq.list n = s.linkq.list n ++ [pairMsg 7 0 0 0 0 g (setCode (s.rd (link n) LK_SET_SET))]) ∧
  (∀ s (n : Fin 6) g, s.inService n = true → s.is (link n) PG_SHADOW_CTRL_ARMED = true → g < 65536 →
    s.rd (link n) PG_SHADOW_CTRL_TARGET = g →
    Gives (.turnOk n g) s fun t => t.rd (link n) LK_STATUS_TURN_OK = 1 ∧ OnlyKeys [key (link n) LK_STATUS_TURN_OK] s t) ∧
  (∀ s (n : Fin 6), s.is (link n) PG_SHADOW_CTRL_ARMED = true → s.mild (link n) 2 →
    Gives (.turnNak n) s fun t => t.rd (link n) PG_SHADOW_CTRL_ARMED = 0 ∧ t.rd (link n) LK_STATUS_TURN_OK = 0 ∧
      t.rd (link n) (PG_ERR_STATUS_SRC.nth 2) = 1) ∧
  (∀ s (n : Fin 6), s.inService n = true → s.mild (link n) 1 → s.rd (link n) LK_STATUS_TX_PADS < 16 →
    s.rdBit (link n) LK_STATUS_TX_PADS (s.rd (link n) LK_TURN_PAD) = true →
    Gives (.joinFail n) s fun t => t.rd (link n) LK_DROP_OPEN = 2 ∧
      t.rd (link n) LK_STATUS_SET_ID = (s.rd (link n) LK_STATUS_SET_ID + 1) % 16) ∧
  (∀ s (n : Fin 6), s.inService n = true → s.rd (link n) LK_TURN_STEP = 1 → s.rd (link n) LK_TURN_PAD < 4 →
    s.rd (link n) LK_STATUS_RX_PADS < 16 →
    Gives (.turnPadLock n true) s fun t => t.rd (link n) LK_TURN_STEP = 0 ∧ t.rd (link n) LK_STATUS_JOINING = 0 ∧
      t.rdBit (link n) LK_STATUS_RX_PADS (s.rd (link n) LK_TURN_PAD) = true) ∧
  (∀ s (n : Fin 6), s.inService n = true → s.rd (link n) LK_TURN_STEP = 1 → s.rd (link n) LK_TURN_PAD < 4 →
    s.mild (link n) 1 →
    Gives (.turnPadLock n false) s fun t => t.rd (link n) LK_TURN_STEP = 0 ∧ t.rd (link n) LK_NAK_DUE = 1 ∧
      t.linkq.list n = s.linkq.list n ++
        [pairMsg 8 0 (2 ^ s.rd (lane n) (PR_STATUS_LANE.nth (s.rd (link n) LK_TURN_PAD))) 0 0 0 0]) ∧
  (∀ s (n : Fin 6), s.inService n = true → s.rd (link n) LK_TURN_STEP = 2 → s.rd (link n) LK_TURN_PAD < 4 →
    Gives (.turnWiden n) s fun t => t.rd (link n) LK_TURN_STEP = 0 ∧ t.rd (link n) LK_STATUS_JOINING = 0 ∧
      t.rd (link n) LK_STATUS_SET_ID = (s.rd (link n) LK_STATUS_SET_ID + 1) % 16)

/-- Low-power requests, answers, wakes and exits of a link (R106, R107, R108, R109). On a link in service. An LP_REQ
that crosses one of this end goes on at the shallower depth without an answer; one that finds this end as idle is
answered with LP_ACK at the shallower of its depth and LP_MAX, else with LP_NAK. LP_ACK of an outstanding request
agrees the entry, LP_NAK abandons it with a refusal. An idle link asks for its deepest state once. LINK_WAKE takes a
quiet or sleeping link to EXIT, a sleeping one with its burst, and changes nothing in ACTIVE; LP_WAKE_DETECT takes
it there too, and merges with a wake of this end; LP_EXIT_DONE brings it back to ACTIVE. -/
def Obligations.LinksEnterAndLeaveLowPower : Prop :=
  (∀ s (n : Fin 6) d, s.inService n = true → s.rd (link n) LK_LP_SENT ≠ 0 → d < 4 →
    Gives (.lpReq n d) s fun t => t.rd (link n) LK_STATUS_STATE = 4 ∧ t.rd (link n) LK_LP_SENT = 0 ∧
      t.rd (link n) LK_LP_DEPTH = min (s.rd (link n) LK_LP_SENT) d ∧ t.linkq = s.linkq) ∧
  (∀ s (n : Fin 6) d, s.inService n = true → s.rd (link n) LK_LP_SENT = 0 → s.lpReady n = true → d < 4 →
    Gives (.lpReq n d) s fun t => t.rd (link n) LK_STATUS_STATE = 4 ∧
      t.rd (link n) LK_LP_DEPTH = min d (s.lpMax n) ∧
      t.linkq.list n = s.linkq.list n ++ [.lp 2 (min d (s.lpMax n))]) ∧
  (∀ s (n : Fin 6) d, s.inService n = true → s.rd (link n) LK_LP_SENT = 0 → s.lpReady n = false →
    exec (.lpReq n d) s = .next (s.queueLink n (.lp 3 0))) ∧
  (∀ s (n : Fin 6) d, s.inService n = true → s.rd (link n) LK_LP_SENT ≠ 0 → d < 4 →
    Gives (.lpAck n d) s fun t => t.rd (link n) LK_STATUS_STATE = 4 ∧ t.rd (link n) LK_LP_SENT = 0 ∧
      t.rd (link n) LK_LP_DEPTH = d) ∧
  (∀ s (n : Fin 6), s.inService n = true → s.rd (link n) LK_LP_SENT ≠ 0 → s.rd (link n) LK_STATUS_STATE ≠ 4 →
    s.mild (link n) 10 →
    Gives (.lpNak n) s fun t => t.rd (link n) LK_LP_SENT = 0 ∧ t.rd (link n) (PG_ERR_STATUS_SRC.nth 10) = 1 ∧
      t.rd (link n) LK_STATUS_STATE = s.rd (link n) LK_STATUS_STATE) ∧
  (∀ s (n : Fin 6), s.inService n = true → s.rd (link n) LK_LP_SENT = 0 → s.rd (link n) LK_STATUS_STATE = 4 →
    Gives (.lpNak n) s fun t => t.rd (link n) LK_STATUS_STATE = 1 ∧ t.rd (link n) LK_LP_DEPTH = 0) ∧
  (∀ s (n : Fin 6), s.inService n = true → s.lpReady n = true → s.rd (link n) LK_LP_SENT = 0 →
    Gives (.lpIdleExpiry n) s fun t => t.rd (link n) LK_LP_SENT = s.lpMax n ∧
      t.linkq.list n = s.linkq.list n ++ [.lp 1 (s.lpMax n)]) ∧
  (∀ s (n : Fin 6), s.inService n = true → s.rd (link n) LK_STATUS_STATE = 2 ∨ s.rd (link n) LK_STATUS_STATE = 3 →
    Gives (.linkWake n) s fun t => t.rd (link n) LK_STATUS_STATE = 5 ∧ t.rd (link n) LK_OWN_WAKE = 1 ∧
      t.out = (if s.rd (link n) LK_STATUS_STATE = 3 then s.out ++ [.wake n] else s.out)) ∧
  (∀ s (n : Fin 6), s.rd (link n) LK_STATUS_STATE = 1 → exec (.linkWake n) s = .next s) ∧
  (∀ s (n : Fin 6), s.inService n = true → s.awake →
    s.rd (link n) LK_STATUS_STATE = 2 ∨ s.rd (link n) LK_STATUS_STATE = 3 →
    Gives (.lpWakeDetect n) s fun t => t.rd (link n) LK_STATUS_STATE = 5 ∧ OnlyKeys [key (link n) LK_STATUS_STATE] s t) ∧
  (∀ s (n : Fin 6), s.inService n = true → s.rd (link n) LK_STATUS_STATE = 5 → s.is (link n) LK_OWN_WAKE = true →
    s.rd (linkCnt n) LK_CNT_WAKE_MERGED < 2 ^ 32 - 1 →
    Gives (.lpWakeDetect n) s fun t =>
      t.rd (linkCnt n) LK_CNT_WAKE_MERGED = s.rd (linkCnt n) LK_CNT_WAKE_MERGED + 1) ∧
  (∀ s (n : Fin 6), s.inService n = true → s.rd (link n) LK_STATUS_STATE = 5 →
    Gives (.lpExitDone n) s fun t => t.rd (link n) LK_STATUS_STATE = 1 ∧ t.rd (link n) LK_OWN_WAKE = 0)

/-- Control packets are delivered, answered, passed on and timed out (R141, R142, R143, R144, R145, R146, R246, R249,
R468). The oldest CTRL packet of a port that does not refuse, addressed to this hub's ID in its slot, crosses to the
management endpoint. Of the packets delivered here the oldest request of its opcode is handled: IDENTIFY is answered
with the identity, whose second word holds the two hub IDs and whose sixth the ports that are up and the slots
bound; REG_READ of words with no block bit is answered with W0 and the words as the remote initiator reads them,
REG_WRITE writes its words as that initiator and is answered with no words, and either with a range out of bounds is
refused with BAD_REQ, as is a reserved opcode; PORT_EVENT at the root enters the event FIFO of its domain while it
holds less than 64 packets; RELAY sends its inner packet of at most 240 B out of the named port with TTL = 1; a
response that no recorded request awaits leaves, one that Uhlok awaits ends the request and enters the event FIFO. A
recorded request whose time has passed ends, counted, with CTRL_TIMEOUT. -/
def Obligations.ControlPacketsReachTheirHub : Prop :=
  (∀ s port c rest, s.ctrlIn = (port, c) :: rest → port ≤ 5 → s.is pathctl (PC_REFUSED.nth port) = false →
    s.hubId c.dom ≠ 0 → c.dest = s.hubId c.dom →
    exec .ctrlPacketRx s =
      .next ({ s with ctrlIn := rest }.enterCtrl port 0x17 (creditsOf (4 * c.words.length)) c)) ∧
  (∀ s u port c, s.takeLocal (fun c => c.cop = 1 && !c.rsp) = some (u, port, c) →
    exec .identify s = .next (u.answer port c 0 u.identity) ∧ u.identity.length = 6 ∧
    u.identity.getD 1 0 = u.hubId 1 * 65536 + u.hubId 0 ∧
    (∀ n, n < 6 → (u.identity.getD 5 0).testBit n = u.linkUp n) ∧
    (∀ d, d < 2 → (u.identity.getD 5 0).testBit (16 + d) = u.bound d)) ∧
  (∀ s u port c a n, s.takeLocal (fun c => c.cop = 3 && !c.rsp) = some (u, port, c) → regRange c = some (a, n) →
    (ctrlWord c 0).testBit 31 = false →
    exec .regRead s = .next ((u.readWords a n).1.answer port c 0
      ((bit ((List.range n).any fun i => !sefAt (a + 4 * i)) * 2 ^ 31 + (n - 1) * 2 ^ 24 + a) :: (u.readWords a n).2))) ∧
  (∀ s u port c, s.takeLocal (fun c => c.cop = 3 && !c.rsp) = some (u, port, c) → regRange c = none →
    exec .regRead s = .next (u.refuse port c 7 [])) ∧
  (∀ s u port c a, s.takeLocal (fun c => c.cop = 4 && !c.rsp) = some (u, port, c) → regRange c = some (a, 1) →
    c.words.length = 2 →
    exec .regWrite s = .next ((u.writeWord .remote a (if ctrlWord c 0 / 2 ^ 28 = 0 then 15 else ctrlWord c 0 / 2 ^ 28)
      (ctrlWord c 1)).answer port c 0 [])) ∧
  (∀ s u port c, s.takeLocal (fun c => c.cop = 4 && !c.rsp) = some (u, port, c) → regRange c = none →
    exec .regWrite s = .next (u.refuse port c 7 [])) ∧
  (∀ s u port c, s.takeLocal (fun c => !knownCop c.cop && !c.rsp) = some (u, port, c) →
    exec .ctrlBadReq s = .next (u.refuse port c 7 [])) ∧
  (∀ s u port c, s.takeLocal (fun c => c.cop = 5 && !c.rsp) = some (u, port, c) → c.dom < 2 → u.bound c.dom = true →
    u.rd pathctl (PC_ROOT_UP_PORT.nth c.dom) = 0x17 → (u.events.list (4 + c.dom)).length < 64 →
    Gives .portEvent s fun t =>
      t.events.list (4 + c.dom) = u.events.list (4 + c.dom) ++ [(ctrlWords c).length :: ctrlWords c] ∧
      t.rd (mbch (4 + c.dom)) (PG_INT 9) = 1 ∧ t.waiting = u.waiting) ∧
  (∀ s u port c i, s.takeLocal (fun c => c.cop = 6 && !c.rsp) = some (u, port, c) →
    parseCtrl (c.words.drop 1) = some i → ctrlWord c 0 % 8 ≤ 5 → i.words.length ≤ 56 →
    u.ctrlPort (ctrlWord c 0 % 8) = true →
    exec .relay s = .next (u.enterCtrl 0x17 (ctrlWord c 0 % 8) 0 { i with ttl := 1 })) ∧
  (∀ s u port c, s.takeLocal (fun c => c.rsp) = some (u, port, c) →
    (∀ r ∈ u.reqs ++ u.endedReads, ¬(r.dom = c.dom ∧ r.tag = c.tag ∧ r.cop = c.cop)) →
    exec .ctrlResponseRx s = .next u) ∧
  (∀ s u port c r, s.takeLocal (fun c => c.rsp) = some (u, port, c) → c.dom < 2 →
    u.reqs.find? (fun r => r.dom = c.dom && r.tag = c.tag && r.cop = c.cop) = some r → r.use = 0 → r.expect = 1 →
    (u.events.list (4 + c.dom)).length < 64 →
    Gives .ctrlResponseRx s fun t => t.reqs = u.reqs.erase r ∧
      t.events.list (4 + c.dom) = u.events.list (4 + c.dom) ++ [(ctrlWords c).length :: ctrlWords c]) ∧
  (∀ s dom tag r, s.reqs.find? (fun r => r.dom = dom && r.tag = tag && r.expect != 0) = some r → r.use = 0 →
    r.time + s.ctrlTo ≤ s.clock → s.mild pathctl 10 → s.rd pathctl PC_CNT_CTRL_TO < 2 ^ 32 - 1 →
    Gives (.ctrlTimeout dom tag) s fun t => t.reqs = s.reqs.erase r ∧
      t.rd pathctl PC_CNT_CTRL_TO = s.rd pathctl PC_CNT_CTRL_TO + 1 ∧ t.rd pathctl (PG_ERR_STATUS_SRC.nth 10) = 1)

/-- SET_HUB_ID binds a slot, changes its hub ID and releases it; a lost upstream port releases it (R145, R149, R159,
R160, R161). SET_HUB_ID with two words and an ID other than 0 and 0xFFFF, PATHCTL at the basic level and Moabeuc
running: a slot that is not bound, whose tag the other slot does not hold, is bound to that ID, tag and port, and
the port is no longer refused; a bound slot with the same tag, none of whose paths exists, takes the new ID; with
another tag, which the other bound slot does not hold either while that slot is bound, the port, carrying no slot,
is refused and REFUSED is raised. At the expert level every SET_HUB_ID is refused with DENIED. UP_PORT_DOWN_TIMEOUT
of a bound slot whose upstream port is down, PATHCTL armed, waits as a release; not armed, its ACTIVE entries become
DEL, the slot is releasing, and PATHCTL is armed. -/
def Obligations.SlotsAreBoundAndReleased : Prop :=
  (∀ s u port c, s.moabeuc = true → s.takeLocal (fun c => c.cop = 2 && !c.rsp) = some (u, port, c) →
    u.is pathctl PG_CTRL_EXPERT = true → exec .setHubId s = .next (u.refuse port c 8 [])) ∧
  (∀ s u port c, s.moabeuc = true → s.takeLocal (fun c => c.cop = 2 && !c.rsp) = some (u, port, c) →
    u.is pathctl PG_CTRL_EXPERT = false → 2 ≤ c.words.length → ctrlWord c 0 % 65536 ≠ 0xFFFF →
    ctrlWord c 0 % 65536 ≠ 0 → c.dom < 2 → port ≤ 5 → u.bound c.dom = false →
    ¬(u.bound (1 - c.dom) = true ∧ u.rd pathctl (PC_TAG_DOM_TAG.nth (1 - c.dom)) = ctrlWord c 1) →
    Gives .setHubId s fun t => t.bound c.dom = true ∧
      t.rd pathctl (PC_DOM_HUB_ID.nth c.dom) = ctrlWord c 0 % 65536 ∧
      t.rd pathctl (PC_TAG_DOM_TAG.nth c.dom) = ctrlWord c 1 % 2 ^ 32 ∧
      t.rd pathctl (PC_ROOT_ROOT_ID.nth c.dom) = c.src % 65536 ∧ t.rd pathctl (PC_ROOT_UP_PORT.nth c.dom) = port ∧
      t.rd pathctl (PC_REFUSED.nth port) = 0) ∧
  (∀ s u port c, s.moabeuc = true → s.takeLocal (fun c => c.cop = 2 && !c.rsp) = some (u, port, c) →
    u.is pathctl PG_CTRL_EXPERT = false → 2 ≤ c.words.length → ctrlWord c 0 % 65536 ≠ 0xFFFF →
    ctrlWord c 0 % 65536 ≠ 0 → c.dom < 2 → u.bound c.dom = true → u.rd pathctl (PC_TAG_DOM_TAG.nth c.dom) = ctrlWord c 1 →
    (∀ k ∈ u.entries, u.rd (path k) PT_W0_DOM ≠ c.dom) →
    Gives .setHubId s fun t => t.rd pathctl (PC_DOM_HUB_ID.nth c.dom) = ctrlWord c 0 % 65536 ∨
      u.rd pathctl (PC_DOM_HUB_ID.nth c.dom) = ctrlWord c 0 % 65536) ∧
  (∀ s u port c, s.moabeuc = true → s.takeLocal (fun c => c.cop = 2 && !c.rsp) = some (u, port, c) →
    u.is pathctl PG_CTRL_EXPERT = false → 2 ≤ c.words.length → ctrlWord c 0 % 65536 ≠ 0xFFFF → c.dom < 2 → port ≤ 5 →
    u.bound c.dom = true → u.bound (1 - c.dom) = true → u.rd pathctl (PC_TAG_DOM_TAG.nth c.dom) ≠ ctrlWord c 1 →
    u.rd pathctl (PC_TAG_DOM_TAG.nth (1 - c.dom)) ≠ ctrlWord c 1 →
    (∀ d, d < 2 → u.rd pathctl (PC_ROOT_UP_PORT.nth d) ≠ port) → u.mild pathctl 5 →
    Gives .setHubId s fun t => t.rd pathctl (PC_REFUSED.nth port) = 1 ∧ t.rd pathctl (PG_ERR_STATUS_SRC.nth 5) = 1 ∧
      t.rd pathctl (PC_TAG_DOM_TAG.nth c.dom) = u.rd pathctl (PC_TAG_DOM_TAG.nth c.dom) ∧
      t.rd pathctl PC_LAST_REFUSE_CODE = 6) ∧
  (∀ s (d : Fin 2), s.moabeuc = true → s.is pathctl PG_CTRL_EXPERT = false → s.bound d = true →
    s.rd pathctl (PC_ROOT_UP_PORT.nth d) ≤ 5 → s.linkUp (s.rd pathctl (PC_ROOT_UP_PORT.nth d)) = false →
    s.is pathctl PG_SHADOW_CTRL_ARMED = true →
    Gives (.upPortDownTimeout d) s fun t => t.rd pathctl (PC_RELEASING.nth d) = 2 ∧
      OnlyKeys [key pathctl (PC_RELEASING.nth d)] s t) ∧
  (∀ s (d : Fin 2), s.moabeuc = true → s.is pathctl PG_CTRL_EXPERT = false → s.bound d = true →
    s.rd pathctl (PC_ROOT_UP_PORT.nth d) ≤ 5 → s.linkUp (s.rd pathctl (PC_ROOT_UP_PORT.nth d)) = false →
    s.is pathctl PG_SHADOW_CTRL_ARMED = false → Tab.sorted s.regs = true →
    Gives (.upPortDownTimeout d) s fun t => t.rd pathctl (PC_RELEASING.nth d) = 1 ∧
      t.rd pathctl PG_SHADOW_CTRL_ARMED = 1 ∧
      ∀ k ∈ s.entries, s.rd (path k) PT_W0_DOM = d → s.rd (path k) PT_W0_STATE = 1 → t.rd (path k) PT_W0_STATE = 3)

/-- Path entries are written, admitted, released, freed and declared down (R136, R137, R138, R147, R149, R156, R157,
R225). A write that only turns the state of an ACTIVE entry into DEL is kept, and one that changes another field of
an ACTIVE entry is dropped with ENTRY_REJECT. An applied DEL entry of which the hub holds nothing becomes FREE;
while a packet of it waits it stays. An ADD entry of Moabeuc's that expires becomes FREE with ENTRY_REJECT.
PATH_SETUP at the expert level is refused with DENIED; PATHCTL not armed, from the root of a bound slot, an admitted
entry stands in ADD at the lowest free index with the chosen path ID, and is answered; a refused one is answered
with its code. PATH_RELEASE of an entry of the slot makes ADD FREE and ACTIVE DEL. PATH_DOWN from upstream declares
the carrying entries it lists down, with the reason and port recorded. ISO_SHORT and ISO_OK about a path that leaves
by a tunnel port go on out of that port with the egress path ID. -/
def Obligations.PathTableTakesEntriesAndReleases : Prop :=
  (∀ s who (k : Fin 8192) (v : Fin 4294967296), s.accepts who (path k) { PT_W0_STATE with acc := .sh } →
    (∀ f ∈ entryFields, s.rd (path k) f < 2 ^ f.len) → s.rd (path k) PT_W0_STATE = 1 →
    (v : Nat) / 2 ^ 24 = 3 * 64 + s.rd (path k) PT_W0_DOM * 32 + s.rd (path k) PT_W0_IN_PORT →
    Gives (.pathEntryWrite who k 0 8 v) s fun t => t.rd (path k) PT_W0_STATE = 3 ∧
      (∀ f ∈ entryFields, f ≠ PT_W0_STATE → t.rd (path k) f = s.rd (path k) f) ∧
      OnlyKeys ((entryWord 0).map (key (path k))) s t) ∧
  (∀ s who (k : Fin 8192) (v : Fin 4294967296), s.accepts who (path k) { PT_W0_STATE with acc := .sh } →
    s.rd (path k) PT_W0_STATE = 1 → (v : Nat) / 2 ^ 20 ≠ s.rd (path k) PT_W3_ALLOC → s.mild pathctl 6 →
    Gives (.pathEntryWrite who k 3 15 v) s fun t => t.rd pathctl (PG_ERR_STATUS_SRC.nth 6) = 1 ∧
      ∀ f ∈ entryFields, t.rd (path k) f = s.rd (path k) f) ∧
  (∀ s (k : Fin 8192), s.rd (path k) PT_W0_STATE = 3 → s.is (path k) PT_APPLIED_DEL = true →
    (∀ q ∈ s.waiting, q.entry ≠ (k : Nat)) → (∀ f ∈ s.flows, ∀ c ∈ f.cells, c.entry ≠ (k : Nat)) →
    (∀ e ∈ s.queues, ∀ f ∈ e.2, ∀ c ∈ f.untaken, c.entry ≠ (k : Nat)) →
    (∀ e ∈ s.rel, ∀ r ∈ e.2, ∀ c, r.cell = some c → c.entry ≠ (k : Nat)) → (∀ e ∈ s.staged, ∀ x ∈ e.2, x.entry ≠ (k : Nat)) →
    Gives (.delEntryFree k) s fun t => t.rd (path k) PT_W0_STATE = 0 ∧ t.rd (path k) PT_W0_DOWN = 0 ∧
      OnlyKeys ([PT_W0_STATE, PT_W0_DOWN, PT_APPLIED_DEL, PT_FAILED_OVER, PT_KEY_GRACE, PT_MOAB].map (key (path k))) s t) ∧
  (∀ s (k : Fin 8192) q, q ∈ s.waiting → q.entry = (k : Nat) → exec (.delEntryFree k) s = .next s) ∧
  (∀ s (k : Fin 8192), s.moabeuc = true → s.rd (path k) PT_W0_STATE = 2 → s.is (path k) PT_MOAB = true →
    s.is pathctl PC_CFG_ADD_HOLD = true → s.mild pathctl 6 →
    Gives (.addHoldExpiry k) s fun t => t.rd (path k) PT_W0_STATE = 0 ∧ t.rd pathctl (PG_ERR_STATUS_SRC.nth 6) = 1) ∧
  (∀ s u port c, s.moabeuc = true → s.takeLocal (fun c => c.cop = 0x10 && !c.rsp) = some (u, port, c) →
    u.is pathctl PG_CTRL_EXPERT = true → Gives .pathSetup s fun t => t.rd pathctl PC_LAST_REFUSE_CODE = 8 ∧
      t.rd pathctl PC_LAST_REFUSE_COP = 0x10) ∧
  (∀ s u port c x k id shaper group, s.moabeuc = true →
    s.takeLocal (fun c => c.cop = 0x10 && !c.rsp) = some (u, port, c) →
    u.is pathctl PG_CTRL_EXPERT = false → u.is pathctl PG_SHADOW_CTRL_ARMED = false → u.bound c.dom = true → c.dom < 2 →
    c.src = u.rd pathctl (PC_ROOT_ROOT_ID.nth c.dom) →
    u.takesPath c ((ctrlWord c 6 + u.hopTerm (ctrlWord c 0 / 2 ^ 24 % 32) (ctrlWord c 0 / 65536 % 32)) % 2 ^ 32) =
      .inl (x, k, id, shaper, group) →
    Gives .pathSetup s fun t => u.freeIndex = some k ∧ t.rd (path k) PT_W0_STATE = 2 ∧ t.rd (path k) PT_W0_DOM = c.dom ∧
      t.rd (path k) PT_W0_IN_PORT = ctrlWord c 0 / 2 ^ 24 % 32 ∧ t.rd (path k) PT_W0_IN_PATH_ID = id % 65536 ∧
      t.rd (path k) PT_W4_RSV_UNITS = ctrlWord c 3 % 8192 ∧ t.rd (path k) PT_MOAB = 1) ∧
  (∀ s u port c r, s.moabeuc = true → s.takeLocal (fun c => c.cop = 0x10 && !c.rsp) = some (u, port, c) →
    u.is pathctl PG_CTRL_EXPERT = false → u.is pathctl PG_SHADOW_CTRL_ARMED = false → u.bound c.dom = true →
    c.src = u.rd pathctl (PC_ROOT_ROOT_ID.nth c.dom) →
    u.takesPath c ((ctrlWord c 6 + u.hopTerm (ctrlWord c 0 / 2 ^ 24 % 32) (ctrlWord c 0 / 65536 % 32)) % 2 ^ 32) = .inr r →
    Gives .pathSetup s fun t => t.rd pathctl PC_LAST_REFUSE_CODE = r.status ∧ t.rd pathctl PC_LAST_REFUSE_VALID = 1) ∧
  (∀ s u port c, s.moabeuc = true → s.takeLocal (fun c => c.cop = 0x11 && !c.rsp) = some (u, port, c) →
    u.is pathctl PG_CTRL_EXPERT = false → u.is pathctl PG_SHADOW_CTRL_ARMED = false → c.words ≠ [] →
    u.rd (path (ctrlWord c 0 % 8192)) PT_W0_DOM = c.dom →
    u.rd (path (ctrlWord c 0 % 8192)) PT_W0_IN_PATH_ID = ctrlWord c 0 / 65536 →
    (u.rd (path (ctrlWord c 0 % 8192)) PT_W0_STATE = 1 ∨ u.rd (path (ctrlWord c 0 % 8192)) PT_W0_STATE = 2) →
    Gives .pathRelease s fun t => t.rd (path (ctrlWord c 0 % 8192)) PT_W0_STATE =
      if u.rd (path (ctrlWord c 0 % 8192)) PT_W0_STATE = 1 then 3 else 0) ∧
  (∀ s u port c k reason id, s.takeLocal (fun c => c.cop = 0x12 && !c.rsp) = some (u, port, c) → reason < 8 → id < 65536 →
    c.words = [reason * 65536 + 1, id * 65536] → port ≤ 5 → k < 8192 → k ∈ u.entries → u.carries k = true →
    u.rd (path k) PT_W0_DOM = c.dom → u.rd (path k) PT_W0_IN_PORT = port → u.rd (path k) PT_W0_IN_PATH_ID = id →
    (∀ j ∈ u.entries, u.rd (path j) PT_W1_OUT_PORT ≤ 5) → u.mild pathctl 8 →
    Gives .pathDown s fun t => t.rd (path k) PT_W0_DOWN = 1 ∧ t.rd pathctl PC_LAST_DOWN_REASON = reason ∧
      t.rd pathctl PC_LAST_DOWN_PORT = port ∧ t.rd pathctl (PG_ERR_STATUS_SRC.nth 8) = 1) ∧
  (∀ s u port c k id e, s.takeLocal (fun c => c.cop = 0x24 && !c.rsp) = some (u, port, c) → id < 65536 → e ≤ 5 →
    c.words = [1, id * 65536] → u.lookup port id = some k → u.is (path k) PT_W1_MC_EN = false →
    u.rd (path k) PT_W0_DOM < 2 → u.rd (path k) PT_W1_OUT_PORT = e → u.ctrlPort e = true →
    Gives .isoShort s fun t => t.regs = u.regs ∧ ∃ q, t.waiting = u.waiting ++ [q] ∧ q.outPort = e ∧
      q.pkt.body = .ctrl ⟨0xFFFF, u.hubId (u.rd (path k) PT_W0_DOM), 0x24, 1, false, u.rd (path k) PT_W0_DOM, 0, 0,
        [1, u.rd (path k) PT_W1_OUT_PATH_ID * 65536]⟩) ∧
  (∀ s u port c k id e, s.takeLocal (fun c => c.cop = 0x25 && !c.rsp) = some (u, port, c) → id < 65536 → e ≤ 5 →
    c.words = [1, id * 65536] → u.lookup port id = some k → u.is (path k) PT_W1_MC_EN = false →
    u.rd (path k) PT_W0_DOM < 2 → u.rd (path k) PT_W1_OUT_PORT = e → u.ctrlPort e = true →
    Gives .isoOk s fun t => t.regs = u.regs ∧ ∃ q, t.waiting = u.waiting ++ [q] ∧ q.outPort = e ∧
      q.pkt.body = .ctrl ⟨0xFFFF, u.hubId (u.rd (path k) PT_W0_DOM), 0x25, 1, false, u.rd (path k) PT_W0_DOM, 0, 0,
        [1, u.rd (path k) PT_W1_OUT_PATH_ID * 65536]⟩)

/-- TURN_ARM arms the pages it names for one epoch, TURN_CANCEL disarms them (R48, R216, R217, R218, R219, R226). A
TURN_ARM with one hub word, naming this hub's ID in a bound slot and only the SW page, which is not armed; the slot
has no domain arm pending, hub time is in step, and the epoch lies 2 to 32,767 epochs ahead: the SW page is armed
for that epoch, and the domain arm is recorded as pending with its ID and mask. With an epoch nearer than 2 it fails
with reason 1, recorded and raised, and the page stays as it is. A TURN_CANCEL with the recorded ID of a pending arm
of the SW page, still armed, disarms it and records the cancel; one with another ID changes nothing. -/
def Obligations.DomainArmsAreRecordedAndCancelled : Prop :=
  (∀ s u port c armId own e, s.moabeuc = true → s.takeLocal (fun c => c.cop = 0x20 && !c.rsp) = some (u, port, c) →
    c.dom < 2 → armId < 65536 → own < 65536 → own ≠ 0 → e < 2 ^ 48 →
    c.words = [armId * 65536 + e / 2 ^ 32, e % 2 ^ 32, 1, own * 65536, 0, 2 ^ 28] →
    u.rd pathctl (PC_DOM_HUB_ID.nth c.dom) = own → u.bound c.dom = true →
    u.rd shpctl (DA_STATE_STATE.nth c.dom) ≠ 1 → u.outOfSync = false → u.epoch + 2 ≤ e → e ≤ u.epoch + 32767 →
    u.is sw PG_SHADOW_CTRL_ARMED = false →
    Gives .turnArm s fun t => t.rd sw PG_SHADOW_CTRL_ARMED = 1 ∧ t.rd sw PG_SHADOW_CTRL_TARGET = e % 65536 ∧
      t.rd shpctl (DA_STATE_STATE.nth c.dom) = 1 ∧ t.rd shpctl (DA_STATE_ARM_ID.nth c.dom) = armId ∧
      t.rd shpctl (DA_EPOCH.nth c.dom) = e ∧ t.daMask c.dom = 2 ^ 28) ∧
  (∀ s u port c armId own e, s.moabeuc = true → s.takeLocal (fun c => c.cop = 0x20 && !c.rsp) = some (u, port, c) →
    c.dom < 2 → armId < 65536 → own < 65536 → own ≠ 0 → e < 2 ^ 48 →
    c.words = [armId * 65536 + e / 2 ^ 32, e % 2 ^ 32, 1, own * 65536, 0, 2 ^ 28] →
    u.rd pathctl (PC_DOM_HUB_ID.nth c.dom) = own → u.bound c.dom = true →
    u.rd shpctl (DA_STATE_STATE.nth c.dom) ≠ 1 → u.outOfSync = false → e < u.epoch + 2 → u.mild shpctl 0 →
    Gives .turnArm s fun t => t.rd shpctl (DA_STATE_STATE.nth c.dom) = 3 ∧
      t.rd shpctl (DA_STATE_REASON.nth c.dom) = 1 ∧ t.rd shpctl (PG_ERR_STATUS_SRC.nth 0) = 1 ∧
      t.rd sw PG_SHADOW_CTRL_ARMED = u.rd sw PG_SHADOW_CTRL_ARMED ∧ t.rd pathctl PC_LAST_REFUSE_CODE = 8) ∧
  (∀ s u port c armId, s.moabeuc = true → s.takeLocal (fun c => c.cop = 0x21 && !c.rsp) = some (u, port, c) →
    c.dom < 2 → armId < 65536 → ctrlWord c 0 / 65536 = armId → u.rd shpctl (DA_STATE_ARM_ID.nth c.dom) = armId →
    u.rd shpctl (DA_STATE_STATE.nth c.dom) = 1 → u.daMask c.dom = 2 ^ 28 → u.is sw PG_SHADOW_CTRL_ARMED = true →
    u.mild shpctl 1 →
    Gives .turnCancel s fun t => t.rd sw PG_SHADOW_CTRL_ARMED = 0 ∧ t.rd shpctl (DA_STATE_STATE.nth c.dom) = 3 ∧
      t.rd shpctl (DA_STATE_REASON.nth c.dom) = 0 ∧ t.rd shpctl (PG_ERR_STATUS_SRC.nth 1) = 1) ∧
  (∀ s u port c, s.moabeuc = true → s.takeLocal (fun c => c.cop = 0x21 && !c.rsp) = some (u, port, c) →
    u.rd shpctl (DA_STATE_ARM_ID.nth c.dom) ≠ ctrlWord c 0 / 65536 → exec .turnCancel s = .next u)

/-- USB4 enumeration, configuration accesses, hop entries and the standard's links (R116, R119, R120, R121, R123, R125,
R136, R140, R156). Router enumeration is answered while Moabeuc runs, in role 0b01 only with the host interface
adapter enabled, and else not at all; the enable is what is written; a read gives the host the word it reads and a
write is the host's write. A hop entry write, accepted, changes nothing at the expert level, waits while PATHCTL is
armed, and at the basic level with Valid = 0 of an entry in ADD frees that entry and arms PATHCTL. On a port in
state STD, STD_LINK_TRAINED leaves the link up with the directions it found, once more down in between when it was
up; STD_LINK_DOWN of a link that is up leaves it down, on a USB4 port with LINK_DOWN raised, the entries of other
ports untouched. -/
def Obligations.Usb4HostsAndLinksAreServed : Prop :=
  (∀ s (d : Fin 2), s.moabeuc = true → (s.rd glb GLB_STRAP_ROLE ≠ 1 ∨ s.is glb (GLB_HIA_EN.nth d) = true) →
    exec (.usb4ConfigAccess d .enumerate) s = .next (s.send (.router d))) ∧
  (∀ s (d : Fin 2), s.rd glb GLB_STRAP_ROLE = 1 → s.is glb (GLB_HIA_EN.nth d) = false →
    exec (.usb4ConfigAccess d .enumerate) s = .next s) ∧
  (∀ s (d : Fin 2) on, Gives (.usb4ConfigAccess d (.hostInterface on)) s fun t =>
    t.rd glb (GLB_HIA_EN.nth d) = bit on ∧ OnlyKeys [key glb (GLB_HIA_EN.nth d)] s t) ∧
  (∀ s (d : Fin 2) a, Gives (.usb4ConfigAccess d (.read a)) s fun t =>
    t.out = (s.readWord (domInit d) (a.val / 4 * 4)).1.out ++ [.readData (domInit d) (s.readWord (domInit d) (a.val / 4 * 4)).2]) ∧
  (∀ s (d : Fin 2) a be v, exec (.usb4ConfigAccess d (.write a be v)) s =
    .next (s.writeWord (domInit d) (a.val / 4 * 4) be.val v.val)) ∧
  (∀ s (d : Fin 2) w, s.accepts (domInit d) (path 0) { PT_W0_STATE with lvl := .b } → s.is pathctl PG_CTRL_EXPERT = true →
    exec (.hopEntryWrite d w) s = .next s) ∧
  (∀ s (d : Fin 2) w, s.accepts (domInit d) (path 0) { PT_W0_STATE with lvl := .b } → s.is pathctl PG_CTRL_EXPERT = false →
    s.is pathctl PG_SHADOW_CTRL_ARMED = true →
    exec (.hopEntryWrite d w) s = .next { s with hopq := s.hopq ++ [((d : Nat), w)] }) ∧
  (∀ s (d : Fin 2) w k, s.accepts (domInit d) (path 0) { PT_W0_STATE with lvl := .b } → s.moabeuc = true →
    s.is pathctl PG_CTRL_EXPERT = false → s.is pathctl PG_SHADOW_CTRL_ARMED = false → w.valid = false →
    s.adapterUsed d w.adapter = true → s.adapterUsed d w.outAdapter = true → k < 8192 →
    s.hopAt (adapterCode w.adapter) w.hop = some k → s.rd (path k) PT_W0_STATE = 2 →
    Gives (.hopEntryWrite d w) s fun t => t.rd (path k) PT_W0_STATE = 0 ∧ t.rd pathctl PG_SHADOW_CTRL_ARMED = 1 ∧
      t.hopq = s.hopq) ∧
  (∀ s (n : Fin 6) dirs, s.rd (lane n) LN_STATUS_STATE = 10 → s.is (lane n) LN_STD_UP = false → s.mild (lane n) 4 →
    s.bound 0 = false → s.bound 1 = false →
    Gives (.stdLinkTrained n dirs) s fun t => t.rd (lane n) LN_STD_UP = 1 ∧
      ∀ p, p < 4 → t.rd (lane n) (PR_STATUS_DIR.nth p) = dirs / 4 ^ p % 4) ∧
  (∀ s (n : Fin 6), s.rd (lane n) LN_STATUS_STATE = 10 → s.is (lane n) LN_STD_UP = true → s.usb4 n = true →
    s.mild (link n) 9 → s.bound 0 = false → s.bound 1 = false →
    (∀ k ∈ s.entries, s.rd (path k) PT_W0_IN_PORT ≠ (n : Nat) ∧ s.rd (path k) PT_W1_OUT_PORT ≠ (n : Nat)) →
    Gives (.stdLinkDown n) s fun t => t.rd (lane n) LN_STD_UP = 0 ∧ t.rd (link n) (PG_ERR_STATUS_SRC.nth 9) = 1 ∧
      t.rd (alm n) ALM_ACC_BROKEN = 1)

/-- The path table decides where a packet of a path goes, and a failed path fails over (R138, R139, R153, R154, R156). A
packet whose port and path ID have no entry in ACTIVE or DEL has no path: it is counted in PC_CNT_NO_PATH with the
error raised. One whose unicast entry is not DOWN takes that entry, and no state changes. One whose entry is DOWN
takes the usable backup, and the first of them records the failover with its entry and counts it; without a usable
backup it is discarded and counted. An entry to be replaced is found by port, path ID and kind of protection. -/
def Obligations.PacketsFollowThePathTable : Prop :=
  (∀ (s : State) port id, s.lookup port id = none → s.mild pathctl 7 → s.rd pathctl PC_CNT_NO_PATH < 2 ^ 32 - 1 →
    (s.route port id).2 = none ∧ (s.route port id).1.rd pathctl PC_CNT_NO_PATH = s.rd pathctl PC_CNT_NO_PATH + 1 ∧
      (s.route port id).1.rd pathctl (PG_ERR_STATUS_SRC.nth 7) = 1) ∧
  (∀ (s : State) port id k, s.lookup port id = some k → s.is (path k) PT_W1_MC_EN = false →
    s.is (path k) PT_W0_DOWN = false → s.route port id = (s, some k)) ∧
  (∀ (s : State) port id k, s.lookup port id = some k → s.is (path k) PT_W1_MC_EN = false →
    s.is (path k) PT_W0_DOWN = true → s.backupOf k = none → s.rd pathctl PC_CNT_DOWN_DISCARD < 2 ^ 32 - 1 →
    (s.route port id).2 = none ∧
      (s.route port id).1.rd pathctl PC_CNT_DOWN_DISCARD = s.rd pathctl PC_CNT_DOWN_DISCARD + 1) ∧
  (∀ (s : State) port id k b, k < 8192 → s.lookup port id = some k → s.is (path k) PT_W1_MC_EN = false →
    s.is (path k) PT_W0_DOWN = true → s.backupOf k = some b → s.is (path k) PT_FAILED_OVER = false →
    s.rd pathctl PC_CNT_FAILOVER < 2 ^ 32 - 1 → s.mild pathctl 9 →
    (s.route port id).2 = some b ∧ (s.route port id).1.rd (path k) PT_FAILED_OVER = 1 ∧
      (s.route port id).1.rd pathctl PC_LAST_FAILOVER_VALID = 1 ∧
      (s.route port id).1.rd pathctl PC_LAST_FAILOVER_ENTRY = k ∧
      (s.route port id).1.rd pathctl PC_CNT_FAILOVER = s.rd pathctl PC_CNT_FAILOVER + 1) ∧
  (∀ (s : State) port id k, s.lookup port id = some k → k ∈ s.entries ∧ s.rd (path k) PT_W0_IN_PORT = port ∧
    s.rd (path k) PT_W0_IN_PATH_ID = id ∧ (s.rd (path k) PT_W0_STATE = 1 ∨ s.rd (path k) PT_W0_STATE = 3))

/-- Cell slots, timer frames, restarts of halted outputs and the capture ring (R166, R171, R172, R188, R192, R471).
CELL_SLOT takes hub time to the next multiple of 8 ns, and while FABRIC is gated does nothing else. FRAME_TIMEOUT of
a flow towards one output whose oldest cell has waited long enough, from an idle input of a switch that may start
frames, with room at the output: a frame of that input opens in the queue of output and class, begun in this slot,
with the cell at its first position; without room nothing changes. An accepted SW_OUT_RESTART clears HALTED of
exactly the outputs written 1, and CONTAINED reads 1 only while something is halted. An accepted SW_CAP_RD gives the
read position. CAPTURE_DRAIN with the DRAM up writes the oldest entry's bytes at its place in the DRAM ring, no
other byte, and frees it on chip; with the DRAM not up nothing changes. -/
def Obligations.FramesAndCapturesMoveThroughTheSwitch : Prop :=
  (∀ s held faults, s.time.toNat + 8 < 2 ^ 64 → s.rd aon AON_ENT_STEP ≠ 1 →
    Gives (.cellSlot held faults) s fun t => t.time.toNat = (s.time.toNat / 8 + 1) * 8) ∧
  (∀ s held faults, s.gated sw = true → Gives (.cellSlot held faults) s fun t =>
    t = { s with time := t.time, clock := t.clock } ∧ s.clock < t.clock ∧ t.clock ≤ s.clock + 8) ∧
  (∀ s (i : Fin 20) (tgt : Fin 544) (cls : Fin 4) f c cs, (tgt : Nat) < 20 →
    s.flows.find? (fun f => f.inp = (i : Nat) && f.tgt = (tgt : Nat) && f.cls = (cls : Nat)) = some f → f.cells = c :: cs →
    s.framesStart = true → (∀ g ∈ s.progs, g.inp ≠ (i : Nat) ∧ g.fid ≠ s.rd sw SW_FID) → s.rd sw SW_FID < 2 ^ 32 →
    c.time + orOne (s.rd sw SW_CFG_FRAME_TO) * 8 ≤ s.time.toNat → s.room tgt cls = true →
    Gives (.frameTimeout i tgt cls) s fun t => ∃ fr ∈ t.queues.list (4 * (tgt : Nat) + cls), fr.inp = i ∧
      fr.slot = s.time.toNat / 8 ∧ fr.opened = false ∧ fr.ents[0]? = some ⟨false, false, some c⟩) ∧
  (∀ s (i : Fin 20) (tgt : Fin 544) (cls : Fin 4), s.room tgt cls = false →
    exec (.frameTimeout i tgt cls) s = .next s) ∧
  (∀ s who (mask : Fin 1048576), s.accepts who sw SW_OUT_RESTART_RESTART →
    Gives (.swOutRestart who mask) s fun t =>
      (∀ k, k < 20 → t.rd sw (SW_OUT_OCC_HALTED.nth k) =
        if (mask : Nat).testBit k then 0 else s.rd sw (SW_OUT_OCC_HALTED.nth k)) ∧
      t.rd sw PG_STATUS_CONTAINED = (if t.swHalted then 1 else 0) ∧
      OnlyKeys (key sw PG_STATUS_CONTAINED :: (List.range 20).map fun k => key sw (SW_OUT_OCC_HALTED.nth k)) s t) ∧
  (∀ s who (v : Fin 4294967296), s.accepts who sw SW_CAP_RD_RD →
    Gives (.swCapRd who v) s fun t => t.rd sw SW_CAP_RD_RD = v ∧ OnlyKeys [key sw SW_CAP_RD_RD] s t) ∧
  (∀ s n rest, s.capDrain = n :: rest → s.dramUp = true →
    s.capAddr n + (s.capture.list n).length ≤ s.usable →
    Gives .captureDrain s fun t => t.capDrain = rest ∧ t.capture.list n = [] ∧
      (∀ i, i < (s.capture.list n).length → Mem.read 0 t.dram (s.capAddr n + i) = (s.capture.list n).getD i 0) ∧
      ∀ a, a < s.capAddr n ∨ s.capAddr n + (s.capture.list n).length ≤ a → Mem.read 0 t.dram a = Mem.read 0 s.dram a) ∧
  (∀ s, s.dramUp = false → exec .captureDrain s = .next s)

/-- Calendar slots earn rows their credit; a shaper becomes eligible with its tokens (R197, R200, R204, R205, R206).
CALENDAR_SLOT, FABRIC not gated, takes hub time to the next multiple of 64 ns. Slot t of the 256 gives a fabric port
with ISO_UNITS of class 1, and a valid row of a tunnel port that is not rejected, its units' bytes of the slot, up
to the cap of the row; a rejected row earns nothing. Over the 256 slots of an epoch a row of u units earns exactly
64 u bytes. SHAPER_ELIGIBLE of a waiting shaper whose time has come, no packet waiting, sets its tokens to what they
are now, and a shaper with no debt no longer waits; one that does not wait is unchanged. -/
def Obligations.CalendarAndShapersGiveCredit : Prop :=
  (∀ s, s.time.toNat + 64 < 2 ^ 64 → s.gated (alm 0) = false →
    Gives .calendarSlot s fun t => t.time.toNat = (s.time.toNat / 64 + 1) * 64 ∧
      (∀ k, k < 20 → s.is (alm (6 + k)) ALM_ISO_ISO_UNITS = true →
        t.rd (alm (6 + k)) (ALM_CREDIT.nth 0) = unsigned 32 (min
          (signed 32 (s.rd (alm (6 + k)) (ALM_CREDIT.nth 0)) +
            (slotBytes (s.rd (alm (6 + k)) ALM_ISO_ISO_UNITS) (t.time.toNat / 64 % 256) : Nat))
          (rowCap (s.rd (alm (6 + k)) ALM_ISO_ISO_UNITS) : Nat))) ∧
      (∀ e r, e < 6 → r < 64 → s.is (alm e) (ALM_ROW_V.nth r) = true → s.is (alm e) (ALM_ROW_BAD.nth r) = false →
        t.rd (alm e) (ALM_CREDIT.nth r) = unsigned 32 (min
          (signed 32 (s.rd (alm e) (ALM_CREDIT.nth r)) +
            (slotBytes (s.rd (alm e) (ALM_ROW_UNITS.nth r)) (t.time.toNat / 64 % 256) : Nat))
          (rowCap (s.rd (alm e) (ALM_ROW_UNITS.nth r)) : Nat))) ∧
      (∀ e r, e < 6 → r < 64 → s.is (alm e) (ALM_ROW_BAD.nth r) = true →
        t.rd (alm e) (ALM_CREDIT.nth r) = s.rd (alm e) (ALM_CREDIT.nth r))) ∧
  (∀ u, ((List.range 256).map fun t => slotBytes u t).sum = 64 * u) ∧
  (∀ s (k : Fin 4096), s.is (shaper k) SH_WAIT = true →
    (s.time.toNat + 2 ^ 32 - s.rd (shaper k) SH_W3_NEXT_ELIG) % 2 ^ 32 < 2 ^ 31 → s.waiting = [] → 0 ≤ s.shTokens k →
    Gives (.shaperEligible k) s fun t => t.rd (shaper k) SH_WAIT = 0 ∧ t.rd (shaper k) SH_W3_NEXT_ELIG = 0 ∧
      t.rd (shaper k) SH_W2_TOKENS = unsigned 32 (s.shTokens k) % 2 ^ 32) ∧
  (∀ s (k : Fin 4096), s.is (shaper k) SH_WAIT = false → exec (.shaperEligible k) s = .next s)

/-- What a turnover applies: the path table, the Almanac, shapers, and the page's own state (R15, R18, R49, R138, R205,
R207, R209, R214, R215). After TURNOVER the present epoch is the one whose turnover has been handled. A page that
applies is no longer armed and shows APPLIED; a page reported late is disarmed with LATE. When the path table
applies, every ADD entry of a table whose indices are distinct becomes ACTIVE, and every DEL entry is an applied
one. When an Almanac page applies, every allocation field of the active page takes the shadow copy. When the shapers
apply, a shaper's active rate and burst are the written ones; when a link's settings apply, so are they. -/
def Obligations.TurnoverAppliesArmedPages : Prop :=
  (∀ s, Gives .turnover s fun t => t.rd glb GLB_TURN_EPOCH = t.epoch) ∧
  (∀ (s : State) p, p ∈ bound1 → (s.applyTurn p).rd p PG_SHADOW_CTRL_ARMED = 0 ∧
    (s.applyTurn p).rd p PG_SHADOW_CTRL_APPLIED = 1) ∧
  (∀ (s : State) p, p ∈ bound1 → (s.lateArm p).rd p PG_SHADOW_CTRL_ARMED = 0 ∧ (s.lateArm p).rd p PG_SHADOW_CTRL_LATE = 1 ∧
    (s.lateArm p).act = s.act) ∧
  (∀ (s : State) k, Tab.sorted s.regs = true → k ∈ s.entries →
    (s.rd (path k) PT_W0_STATE = 2 → s.pathApply.rd (path k) PT_W0_STATE = 1) ∧
    (s.rd (path k) PT_W0_STATE = 3 →
      s.pathApply.rd (path k) PT_W0_STATE = 3 ∧ s.pathApply.rd (path k) PT_APPLIED_DEL = 1)) ∧
  (∀ (s : State) e f i, e < 26 → f ∈ almAllocFields → i < f.cnt →
    (s.almApply e).rd (alm e) (f.nth i) = s.rd (almSh e) (f.nth i) % 2 ^ f.len) ∧
  (∀ (s : State) k, k < 4096 → s.rd (shaper k) SH_W0_RATE < 2 ^ 17 → s.rd (shaper k) SH_W0_BURST < 2 ^ 15 →
    (s.shApply k).rd (shaper k) SH_W1_RATE_ACT = s.rd (shaper k) SH_W0_RATE ∧
    (s.shApply k).rd (shaper k) SH_W1_BURST_ACT = s.rd (shaper k) SH_W0_BURST) ∧
  (∀ (s : State) n f, n < 6 → f ∈ shFields (link n) → f.cnt = 1 →
    (s.applyFields (link n) (shFields (link n))).rdA (link n) f = s.rd (link n) f % 2 ^ f.len)

/-- Resets of the PCIe port and its links, links up and down, and the host warm reset (R228, R229, R244, R254, R255,
R386). Outside role 0b01 an accepted port reset takes BIFUR and MAX_GEN over and puts every link into reset for 100
µs; an accepted link reset does so for that link alone. A link that is attached, whose reset has ended, that no
mirrored PERST holds and whose reference is present comes up with at most the lanes of BIFUR and the generation in
force. A link that goes down raises LINK_DOWN and is not active. In role 0b01, the host warm reset, outside a power-
state entry, puts the port page and every PCA page into a block soft reset and leaves PE_PERST_N asserted; outside
that role its PERST changes no PCIe page. The deassertion of PE_PERST_N in that role is noted, and repeated changes
nothing. -/
def Obligations.PciePortAndLinksComeUp : Prop :=
  (∀ s who, s.accepts who pcie PE_CFG_PORT_RST → s.endpointRole = false → s.clock + 100000 < 2 ^ 64 →
    Gives (.portRst who) s fun t => t.rd pcie PE_BIFUR_ACT = s.rd pcie PE_CFG_BIFUR % 4 ∧
      ∀ l, l < 4 → t.rd pcie (PE_LINK_STS_RST_N.nth l) = 0 ∧ t.rd pcie (PE_LINK_STS_DL_ACTIVE.nth l) = 0 ∧
        t.rd pcie (PE_RST_END.nth l) = s.clock + 100000) ∧
  (∀ s who (l : Fin 4), s.accepts who pcie (PE_LINK_CFG_RESET.nth l) → s.endpointRole = false →
    s.clock + 100000 < 2 ^ 64 →
    Gives (.peLinkReset who l) s fun t => t.rd pcie (PE_LINK_STS_RST_N.nth l) = 0 ∧
      t.rd pcie (PE_RST_END.nth l) = s.clock + 100000 ∧
      OnlyKeys [key pcie (PE_LINK_STS_RST_N.nth l), key pcie (PE_LINK_STS_DL_ACTIVE.nth l),
        key pcie (PE_LINK_STS_LTSSM.nth l), key pcie (PE_RST_END.nth l)] s t) ∧
  (∀ s (l : Fin 4) (w : Fin 9) (g : Fin 6), s.gated pcie = false → s.attach l ≠ 0 →
    bifurLanes (s.rd pcie PE_BIFUR_ACT) l ≠ 0 → s.rd pcie (PE_RST_END.nth l) ≤ s.clock →
    s.rdBit glb GLB_REFCLK_LOST 6 = false → s.perstHeld l = false → s.endpointRole = false →
    s.rd pcie PE_GEN_ACT < 8 → s.mild ⟨.pelane, 0⟩ 4 →
    Gives (.pcieLinkUp l w g) s fun t => t.rd pcie (PE_LINK_STS_DL_ACTIVE.nth l) = 1 ∧
      t.rd pcie (PE_LINK_STS_WIDTH.nth l) = min (orOne w) (bifurLanes (s.rd pcie PE_BIFUR_ACT) l) ∧
      t.rd pcie (PE_LINK_STS_GEN.nth l) = min (orOne g) (s.rd pcie PE_GEN_ACT)) ∧
  (∀ s (l : Fin 4), s.is pcie (PE_LINK_STS_DL_ACTIVE.nth l) = true → s.mild pcie 0 →
    Gives (.pcieLinkDown l) s fun t => t.rd pcie (PE_LINK_STS_DL_ACTIVE.nth l) = 0 ∧
      t.rd pcie (PG_ERR_STATUS_SRC.nth 0) = 1) ∧
  (∀ s, s.endpointRole = true → s.ps ≠ 5 → s.gated pcie = false → (∀ n, n < 8 → s.gated (pca n) = false) →
    Gives (.hostWarmReset none) s fun t => t.rd pcie PE_PERST_N = 0 ∧ t.is pcie PG_STATUS_IN_RESET = true ∧
      ∀ n, n < 8 → t.is (pca n) PG_STATUS_IN_RESET = true) ∧
  (∀ s, s.endpointRole = false → s.ps ≠ 5 → s.moabeuc = false → exec (.hostWarmReset none) s = .next s) ∧
  (∀ s, s.endpointRole = true → s.is pcie PE_PERST_N = false → s.ps ≤ 1 →
    Gives .pePerstNDeassert s fun t => t.rd pcie PE_PERST_N = 1) ∧
  (∀ s, s.is pcie PE_PERST_N = true → exec .pePerstNDeassert s = .next s)

/-- TLPs pass a PCA with its request table, queues, reservations and locks (R232, R233, R234, R235, R236, R237, R238,
R239). At a PCA that is in a mode, not contained and with its paths up, and TLPs with no check failed: a posted TLP
of its own side goes into the tunnel, and a non-posted one enters the request table while there is room. With the
paths down a non-posted one is answered UR and counted. A posted TLP from the tunnel waits while its local side
takes none, and is issued when it does. A completion that matches an entry in time goes out, the last one removing
it; one that matches none is counted and raised. NP_ISSUE issues the oldest request when no reservation is needed
and its side is up. CPL_TIMEOUT answers UR, counts, raises and removes the entry. An MRdLk from the tunnel in UP
mode locks; UNLOCK and LOCK_TIMEOUT send an Unlock and end it. RELEASE ends containment with the paths up and is
ignored otherwise. A change of MODE empties table and queues. -/
def Obligations.AdaptersCarryTlps : Prop :=
  (∀ s (n : Fin 8) x, x.ecrcBad = false → x.poisoned = false → x.malformed = false → x.kind = .posted →
    s.pcaMode n ≠ 0 → s.pcaShut n = false → exec (.tlpFromLocal n x) s = .next (s.tlpOut n x)) ∧
  (∀ s (n : Fin 8) x, x.ecrcBad = false → x.poisoned = false → x.malformed = false → x.kind = .mrd →
    s.pcaMode n ≠ 0 → s.pcaShut n = false → (s.pcaOf n).held = [] → s.tableRoom n = true → s.mild pcie 5 →
    Gives (.tlpFromLocal n x) s fun t =>
      (t.pcaOf n).reqs = (s.pcaOf n).reqs ++ [⟨x.req, x.tag, s.clock⟩] ∧ (t.pcaOf n).held = []) ∧
  (∀ s (n : Fin 8) x, x.ecrcBad = false → x.poisoned = false → x.malformed = false → x.kind = .mrd →
    s.pcaMode n ≠ 0 → s.pcaShut n = true → s.rd (pca n) PCA_CNT_UR_GEN < 2 ^ 32 - 1 →
    Gives (.tlpFromLocal n x) s fun t => t.out = s.out ++ [.ur n x.req x.tag] ∧
      t.rd (pca n) PCA_CNT_UR_GEN = s.rd (pca n) PCA_CNT_UR_GEN + 1 ∧ t.pcas = s.pcas) ∧
  (∀ s (n : Fin 8) x, x.ecrcBad = false → x.poisoned = false → x.malformed = false → x.kind = .posted →
    s.pcaMode n ≠ 0 → s.pcaPathUp n = true → s.is (pca n) PG_STATUS_CONTAINED = false → s.mild pcie 5 →
    (s.pcaOf n).join = [] → s.localUp n = false →
    Gives (.tlpFromTunnel n 0 false x) s fun t => (t.pcaOf n).posted = (s.pcaOf n).posted ++ [x]) ∧
  (∀ s (n : Fin 8) x, x.ecrcBad = false → x.poisoned = false → x.malformed = false → x.kind = .posted →
    s.pcaMode n ≠ 0 → s.pcaPathUp n = true → s.is (pca n) PG_STATUS_CONTAINED = false → s.mild pcie 5 →
    (s.pcaOf n).join = [] → s.localUp n = true →
    Gives (.tlpFromTunnel n 0 false x) s fun t => (t.pcaOf n).posted = [] ∧ .tlp n x ∈ t.out) ∧
  (∀ s (n : Fin 8) x r, x.ecrcBad = false → x.poisoned = false → x.malformed = false → x.last = true →
    s.pcaMode n ≠ 0 → s.pcaPathUp n = true → s.is (pca n) PG_STATUS_CONTAINED = false → s.mild pcie 5 →
    (s.pcaOf n).join = [] → (∀ e ∈ s.pcas, e.2.held = []) →
    (s.pcaOf n).reqs.find? (fun r => r.req = x.req && r.tag = x.tag) = some r → s.timedOut n r = false →
    Gives (.completionFromTunnel n x) s fun t => .tlp n { x with kind := .cpl } ∈ t.out ∧
      (t.pcaOf n).reqs = (s.pcaOf n).reqs.filter (fun y => y != r)) ∧
  (∀ s (n : Fin 8) x, x.ecrcBad = false → x.poisoned = false → x.malformed = false →
    s.pcaMode n ≠ 0 → s.pcaPathUp n = true → s.is (pca n) PG_STATUS_CONTAINED = false → s.mild pcie 5 →
    (∀ r ∈ (s.pcaOf n).reqs, ¬(r.req = x.req ∧ r.tag = x.tag)) → s.mild (pca n) 3 →
    s.rd (pca n) PCA_CNT_UNEXP_CPL < 2 ^ 32 - 1 →
    Gives (.completionFromTunnel n x) s fun t => t.rd (pca n) (PG_ERR_STATUS_SRC.nth 3) = 1 ∧
      t.rd (pca n) PCA_CNT_UNEXP_CPL = s.rd (pca n) PCA_CNT_UNEXP_CPL + 1) ∧
  (∀ s (n : Fin 8) x rest, (s.pcaOf n).np = x :: rest → s.localUp n = true → s.reserves n = false → s.mild pcie 5 →
    Gives (.npIssue n) s fun t => (t.pcaOf n).np = rest ∧ .tlp n x ∈ t.out ∧ t.rd (pca n) PCA_STATE_CPL_WAIT = 0) ∧
  (∀ s (n : Fin 8) x rest, (s.pcaOf n).np = x :: rest → s.localUp n = true → s.reserves n = true →
    s.rd pcie PE_POOL_FREE < unitsFor x →
    Gives (.npIssue n) s fun t => t.rd (pca n) PCA_STATE_CPL_WAIT = 1 ∧ OnlyKeys [key (pca n) PCA_STATE_CPL_WAIT] s t) ∧
  (∀ s (n : Fin 8) (req : Fin 65536) (tag : Fin 1024) r,
    (s.pcaOf n).reqs.find? (fun r => r.req = req.val && r.tag = tag.val) = some r → s.timedOut n r = true →
    (∀ e ∈ s.pcas, e.2.held = []) → s.mild pcie 5 → s.mild (pca n) 0 → s.rd (pca n) PCA_CNT_TIMEOUT < 2 ^ 32 - 1 →
    Gives (.cplTimeout n req tag) s fun t => .ur n req.val tag.val ∈ t.out ∧
      (t.pcaOf n).reqs = (s.pcaOf n).reqs.filter (fun y => y != r) ∧
      t.rd (pca n) PCA_CNT_TIMEOUT = s.rd (pca n) PCA_CNT_TIMEOUT + 1 ∧ t.rd (pca n) (PG_ERR_STATUS_SRC.nth 0) = 1) ∧
  (∀ s (n : Fin 8) x, x.ecrcBad = false → x.poisoned = false → x.malformed = false → s.pcaMode n = 2 →
    s.endpointRole = false → s.pcaPathUp n = true → s.is (pca n) PG_STATUS_CONTAINED = false → s.mild pcie 5 →
    (s.pcaOf n).join = [] → (s.pcaOf n).np = [] →
    Gives (.lockedRequest n true x) s fun t => .tlp n { x with kind := .mrdLk } ∈ t.out ∧
      t.rd (pca n) PCA_STATE_LOCKED = 1 ∧ (t.pcaOf n).np = []) ∧
  (∀ s (n : Fin 8) x, x.ecrcBad = false → x.poisoned = false → x.malformed = false → 2 ≤ s.pcaMode n →
    s.mild (pca n) 4 →
    Gives (.lockedRequest n false x) s fun t => .ur n x.req x.tag ∈ t.out ∧ t.rd (pca n) (PG_ERR_STATUS_SRC.nth 4) = 1) ∧
  (∀ s (n : Fin 8), s.is (pca n) PCA_STATE_LOCKED = true →
    exec (.unlock n) s = .next ((s.send (.unlock n)).wr (pca n) PCA_STATE_LOCKED 0)) ∧
  (∀ s (n : Fin 8), s.is (pca n) PCA_STATE_LOCKED = false → exec (.unlock n) s = .next s) ∧
  (∀ s (n : Fin 8), s.is (pca n) PCA_STATE_LOCKED = true → s.mild (pca n) 2 →
    s.rd (pca n) PCA_LOCK_TIME + orOne (s.rd (pca n) PCA_CFG_LOCK_TO) * 1000000 ≤ s.clock →
    Gives (.lockTimeout n) s fun t => .unlock n ∈ t.out ∧ t.rd (pca n) PCA_STATE_LOCKED = 0 ∧
      t.rd (pca n) (PG_ERR_STATUS_SRC.nth 2) = 1) ∧
  (∀ s who (n : Fin 8), s.accepts who (pca n) PCA_CTRL_RELEASE → s.pcaPathUp n = true →
    Gives (.pcaRelease who n) s fun t => t.rd (pca n) PG_STATUS_CONTAINED = 0 ∧
      OnlyKeys [key (pca n) PG_STATUS_CONTAINED] s t) ∧
  (∀ s who (n : Fin 8), s.accepts who (pca n) PCA_CTRL_RELEASE → s.pcaPathUp n = false →
    exec (.pcaRelease who n) s = .next s) ∧
  (∀ s who (n : Fin 8) (m : Fin 4) (d : Fin 2) (tx rx : Fin 65536), s.accepts who (pca n) PCA_CTRL_MODE →
    s.rd (pca n) PCA_CTRL_MODE ≠ m.val → s.rd (pca n) PCA_CTRL_DOM = d.val → s.rd (pca n) PCA_TUN_TX_HANDLE = tx.val →
    s.rd (pca n) PCA_TUN_RX_HANDLE = rx.val →
    Gives (.pcaModeWrite who n m d tx rx) s fun t => t.rd (pca n) PCA_CTRL_MODE = m ∧ t.pcaOf n = Pca.empty ∧
      t.rd (pca n) PCA_REQ_OUT = 0)

/-- Sideband updates are sent, taken in order, and their pulses end (R240, R241, R242, R243). A PCA in a mode with its
paths up whose first update is due sends one: the sequence number advances, and the word sent is the local word.
With its paths down nothing is sent. The first update that arrives is taken: its word is the far word, its number is
noted and its levels stand at the local side; a later one whose number is not 1 to 127 ahead is ignored. Before the
hold ends SIDEBAND_PULSE_END changes nothing; after it a pulse has ended and the levels are those of the far word. -/
def Obligations.SidebandsAreMirrored : Prop :=
  (∀ s (n : Fin 8) (lv : Fin 32), s.pcaMode n ≠ 0 → s.pcaPathUp n = true → s.rd (pca n) PCA_SB_TIME = 0 →
    s.clock + 1 < 2 ^ 65 →
    Gives (.sidebandUpdateSend n lv) s fun t => t.rd (pca n) PCA_SB_SEQ = (s.rd (pca n) PCA_SB_SEQ + 1) % 256 ∧
      t.rd (pca n) PCA_SB_SENT = t.rd (pca n) PCA_SB_LOCAL_WORD ∧ t.rd (pca n) PCA_SB_TIME = s.clock + 1 ∧
      t.rd (pca n) PCA_SB_LOCAL_WORD % 32 = s.sentLevels n lv) ∧
  (∀ s (n : Fin 8) (lv : Fin 32), s.pcaMode n ≠ 0 → s.pcaPathUp n = false →
    Gives (.sidebandUpdateSend n lv) s fun t => t.rd (pca n) PCA_SB_SEQ = s.rd (pca n) PCA_SB_SEQ ∧
      OnlyKeys [key (pca n) PCA_SB_LOCAL_WORD] s t) ∧
  (∀ s (n : Fin 8) (seq : Fin 256) (w : Fin 4294967296), s.is (pca n) PCA_SB_RXV = false →
    s.rd (pca n) PCA_HOLD ≤ s.clock →
    Gives (.sidebandUpdateRx n seq w) s fun t => t.rd (pca n) PCA_SB_FAR_WORD = w ∧ t.rd (pca n) PCA_SB_RXSEQ = seq ∧
      t.rd (pca n) PCA_SB_RXV = 1 ∧ t.rd (pca n) PCA_LV = (w : Nat) % 32) ∧
  (∀ s (n : Fin 8) (seq : Fin 256) w, s.is (pca n) PCA_SB_RXV = true →
    ((seq : Nat) + 256 - s.rd (pca n) PCA_SB_RXSEQ) % 256 = 0 ∨
      127 < ((seq : Nat) + 256 - s.rd (pca n) PCA_SB_RXSEQ) % 256 →
    exec (.sidebandUpdateRx n seq w) s = .next s) ∧
  (∀ s (n : Fin 8), s.clock < s.rd (pca n) PCA_HOLD → exec (.sidebandPulseEnd n) s = .next s) ∧
  (∀ s (n : Fin 8), s.rd (pca n) PCA_HOLD ≤ s.clock → s.is (pca n) PCA_PULSE = true →
    Gives (.sidebandPulseEnd n) s fun t => t.rd (pca n) PCA_PULSE = 0 ∧
      t.rd (pca n) PCA_LV = s.rd (pca n) PCA_SB_FAR_WORD % 32)

/-- The REMOTE window, the SMBus target and prefetched words (R56, R245, R246, R247, R248, R250, R251, R472). A host or
Moabeuc reads a word of a peer hub, with the bridge at work, no access of its own waiting or writing, nothing
prefetched and a TAG free: the request is recorded under the lowest free TAG. With no hub selected the read ends at
once with 0 and CTRL_TIMEOUT. Other initiators do not reach the window. A BR_RSEL write changes the writer's copy
and drops its prefetched blocks. At the SMBus target, PEC off or good: SET_ADDR sets the pointer, a word aligned;
SMB_WRITE of one word of this hub writes it and advances the pointer; READ_START of 1 to 8 words of this hub with
nothing read ahead leaves the read BUSY with its address; SELECT sets its copy; a count out of range raises
SMB_PROTO, as does another code; a bad PEC raises SMB_PEC and nothing else is done. SMB_READ_DONE makes a complete
read READY; READ_DATA gives status and data, and collecting it frees the result and advances the pointer; SMB_STATUS
gives the status byte, ALERT_RESPONSE the address; a result held too long is discarded and counted; expired
prefetched blocks are dropped. -/
def Obligations.BridgesReadAndWriteRemoteHubs : Prop :=
  (∀ s who (off : Fin 16777216) be v tag, who = .host0 ∨ who = .host1 ∨ who = .marionette → s.awake →
    s.works bridge = true → s.remHub who ≠ 0 → s.remHub who ≠ 0xFFFF → s.bound (s.remSlot who) = true →
    s.hubId (s.remSlot who) ≠ s.remHub who → s.prefetch = [] → (∀ y ∈ s.remq, y.who ≠ who) →
    (∀ r ∈ s.reqs, r.use ≠ remUse who) → s.freeTag (s.remSlot who) = some tag →
    Gives (.remoteAccess who off false be v) s fun t => t.reqs = s.reqs ++
      [⟨s.remSlot who, tag, 3, s.remHub who, 1, remUse who, (off : Nat) / 4 * 4, s.clock⟩]) ∧
  (∀ s who (off : Fin 16777216) be v tag, who = .host0 ∨ who = .host1 ∨ who = .marionette → s.awake →
    s.works bridge = true → s.remHub who = 0 → (∀ y ∈ s.remq, y.who ≠ who) →
    (∀ r ∈ s.reqs, r.use ≠ remUse who) → s.freeTag (s.remSlot who) = some tag → s.mild pathctl 10 →
    Gives (.remoteAccess who off false be v) s fun t => .readData who 0 ∈ t.out ∧ t.reqs = s.reqs ∧
      t.rd pathctl (PG_ERR_STATUS_SRC.nth 10) = 1) ∧
  (∀ s who off wr be v, who = .engineOwn ∨ who = .engineOther ∨ who = .remote ∨ who = .jtag ∨ who = .smbus →
    exec (.remoteAccess who off wr be v) s = .next s) ∧
  (∀ s who (hub : Fin 65536), who = .host0 ∨ who = .host1 ∨ who = .marionette ∨ who = .smbus ∨ who = .ngunov →
    s.accepts who bridge BR_RSEL_HUB_ID →
    Gives (.brRselWrite who hub) s fun t => t.remHub who = hub ∧ (∀ b ∈ t.prefetch, b.who ≠ who) ∧
      ∀ w, initCode w < 7 → initCode w ≠ initCode who → t.remHub w = s.remHub w) ∧
  (∀ s ok (a : Fin 33554432), s.is bridge BR_SMB_CFG_PEC = false ∨ ok = true → s.smb = none →
    Gives (.setAddr ok a) s fun t => t.rd bridge BR_SMB_PTR_ADDR = (a : Nat) / 4 * 4 ∧
      OnlyKeys [key bridge BR_SMB_PTR_ADDR] s t) ∧
  (∀ s ok w, s.is bridge BR_SMB_CFG_PEC = false ∨ ok = true → s.rd bridge BR_SMB_PTR_ADDR + 4 ≤ 0x1000000 →
    exec (.smbWrite ok [w]) s = .next
      (((s.pfDrop fun b => b.who = .smbus).writeWord .smbus (s.rd bridge BR_SMB_PTR_ADDR) 15 w).wr bridge
        BR_SMB_PTR_ADDR (s.rd bridge BR_SMB_PTR_ADDR + 4))) ∧
  (∀ s ok (n : Fin 256), s.is bridge BR_SMB_CFG_PEC = false ∨ ok = true → 1 ≤ (n : Nat) → (n : Nat) ≤ 8 →
    s.rd bridge BR_SMB_PTR_ADDR + 4 * (n : Nat) ≤ 0x1000000 → s.prefetch = [] →
    Gives (.readStart ok n) s fun t => t.rd bridge BR_SMB_STATUS_STATE = 1 ∧
      t.rd bridge BR_SMB_STATUS_NWORDS = (n : Nat) - 1 ∧
      ∃ r, t.smb = some r ∧ r.addr = s.rd bridge BR_SMB_PTR_ADDR ∧ r.miss = 0 ∧ r.words.length = n) ∧
  (∀ s ok (n : Fin 256), s.is bridge BR_SMB_CFG_PEC = false ∨ ok = true → (n : Nat) = 0 ∨ 8 < (n : Nat) →
    s.mild bridge 2 → Gives (.readStart ok n) s fun t => t.rd bridge (PG_ERR_STATUS_SRC.nth 2) = 1 ∧ t.smb = s.smb) ∧
  (∀ s ok (hub : Fin 65536), s.is bridge BR_SMB_CFG_PEC = false ∨ ok = true → s.accepts .smbus bridge BR_RSEL_HUB_ID →
    Gives (.select ok hub) s fun t => t.remHub .smbus = hub) ∧
  (∀ s c, c = .setAddr false 0 ∨ c = .smbWrite false [0] ∨ c = .readStart false 1 ∨ c = .select false 1 →
    s.is bridge BR_SMB_CFG_PEC = true → s.mild bridge 1 →
    Gives c s fun t => t.rd bridge (PG_ERR_STATUS_SRC.nth 1) = 1 ∧ t.smb = s.smb ∧
      t.rd bridge BR_SMB_PTR_ADDR = s.rd bridge BR_SMB_PTR_ADDR) ∧
  (∀ s, s.mild bridge 2 → Gives .smbProto s fun t => t.rd bridge (PG_ERR_STATUS_SRC.nth 2) = 1 ∧ t.smb = s.smb) ∧
  (∀ s r, s.smb = some r → r.miss = 0 → s.rd bridge BR_SMB_STATUS_STATE = 1 →
    Gives .smbReadDone s fun t => t.rd bridge BR_SMB_STATUS_STATE = 2 ∧ t.smb = some { r with time := s.clock }) ∧
  (∀ s r, s.smb = some r → s.rd bridge BR_SMB_STATUS_STATE = 2 → s.is bridge BR_CFG_PF_EN = false →
    Gives (.readData true) s fun t => t.smb = none ∧ t.rd bridge BR_SMB_STATUS_STATE = 0 ∧
      t.rd bridge BR_SMB_PTR_ADDR = smbAddr (s.rd bridge BR_SMB_PTR_ADDR) (s.rd bridge BR_SMB_STATUS_NWORDS + 1) ∧
      t.out = s.out ++ [.smbus (2 :: r.words.flatMap fun v => leBytes 4 v) (s.is bridge BR_SMB_CFG_PEC)]) ∧
  (∀ s, exec .smbStatus s = .next (s.send (.smbus [BitVec.ofNat 8 (bit (s.is bridge BR_LD_STATUS_VALID) * 32 +
    bit s.smbAlert * 16 + s.rd bridge BR_SMB_STATUS_STATE)] (s.is bridge BR_SMB_CFG_PEC)))) ∧
  (∀ s, exec .alertResponse s = .next (s.send (.smbAlert (s.rd bridge BR_SMB_CFG_ADDR)))) ∧
  (∀ s r, s.smb = some r → s.rd bridge BR_SMB_STATUS_STATE = 2 ∨ s.rd bridge BR_SMB_STATUS_STATE = 3 →
    r.time + clamp 4 4000 (s.rd bridge BR_CFG_DISC_TO) * 16000 ≤ s.clock → s.mild bridge 0 →
    s.rd bridge BR_CNT_DISCARD < 2 ^ 32 - 1 →
    Gives .smbDiscard s fun t => t.smb = none ∧ t.rd bridge BR_SMB_STATUS_STATE = 4 ∧
      t.rd bridge BR_CNT_DISCARD = s.rd bridge BR_CNT_DISCARD + 1) ∧
  (∀ s, exec .prefetchExpiry s =
    .next { s with prefetch := s.prefetch.filter fun b => !decide (b.time + s.pfLife ≤ s.clock) })

/-- Streams, holds, resumes, lines and vertical blanking of an output (R261, R262, R263, R265, R275, R276, R279, R280,
R282, R284). Of an output that is in no locked pair. A stream packet on another handle is discarded, counted and
raises CMD_ERR; an MSA begins a stream frame, shown with its active size. A stream that is silent for two frame
periods is no longer present, and in PASS outside vertical blanking raises STREAM_LOST and forces a hold with cause
5. An accepted HOLD_REQ in PASS asks for a hold, and with RESUME_REQ, or RESUME_REQ alone, takes a HELD output to
RESUMING. VBLANK_START of a RETAINED output with nothing pending shows the CRC of the frame, begins blanking and its
normal length; in PASS with a hold asked for and the frame just shown captured, the output is HELD with that cause,
scanning that capture. LINE_START in blanking of an output whose frame may not start counts the line; in RETAINED at
the end of the blanking it starts the next frame. -/
def Obligations.PipelinesTakeStreamsAndHold : Prop :=
  (∀ s (n : Fin 4) (h : Fin 65536) e, s.works (disp n) = true → s.rd (disp n) DISP_PATH_A_PT_HANDLE ≠ h.val →
    s.mild (disp n) 4 → s.rd (disp n) DISP_CNT_CMD_ERR < 2 ^ 32 - 1 →
    Gives (.streamPacketRx n h e) s fun t => t.rd (disp n) DISP_CNT_CMD_ERR = s.rd (disp n) DISP_CNT_CMD_ERR + 1 ∧
      t.rd (disp n) (PG_ERR_STATUS_SRC.nth 4) = 1 ∧ t.disps = s.disps) ∧
  (∀ s (n : Fin 4) (h : Fin 65536) m, s.works (disp n) = true → s.rd (disp n) DISP_PATH_A_PT_HANDLE = h.val → h ≠ 0 →
    s.dst n ≠ 0 → (s.dispOf n).msa = none →
    Gives (.streamPacketRx n h (.msa m)) s fun t => (t.dispOf n).msa = some m ∧ t.rd (disp n) DISP_STATUS_STREAM = 1 ∧
      t.rd (disp n) DISP_STREAM_HACTIVE = m.hactive % 65536 ∧ t.rd (disp n) DISP_STREAM_VACTIVE = m.vactive % 65536 ∧
      t.rd (disp n) DISP_SLINE = 0) ∧
  (∀ s (n : Fin 4) m, s.gated (disp n) = false → (s.dispOf n).msa = some m → s.dst n = 1 → s.paired n = false →
    s.rd (disp n) DISP_STIME + s.twoPeriods n ≤ s.clock → s.is (disp n) DISP_VB = false →
    s.is (disp n) DISP_FORCED = false → s.mild (disp n) 1 →
    Gives (.streamTimeout n) s fun t => t.rd (disp n) DISP_STATUS_STREAM = 0 ∧ t.rd (disp n) DISP_FORCED = 5 ∧
      t.rd (disp n) (PG_ERR_STATUS_SRC.nth 1) = 1) ∧
  (∀ s who (n : Fin 4), s.accepts who (disp n) DISP_CTRL_HOLD_REQ → s.paired n = false → s.dst n = 1 →
    s.is (disp n) DISP_HOLD_RQ = false →
    Gives (.holdReq who n false) s fun t => t.rd (disp n) DISP_HOLD_RQ = 1 ∧ OnlyKeys [key (disp n) DISP_HOLD_RQ] s t) ∧
  (∀ s who (n : Fin 4) c, c = .resumeReq who n ∧ s.accepts who (disp n) DISP_CTRL_RESUME_REQ ∨
      c = .holdReq who n true ∧ s.accepts who (disp n) DISP_CTRL_HOLD_REQ → s.paired n = false → s.dst n = 2 →
    Gives c s fun t => t.dst n = 3 ∧ OnlyKeys [key (disp n) DISP_STATUS_STATE, key (disp n) DISP_STIME] s t) ∧
  (∀ s (n : Fin 4), s.gated (disp n) = false → s.atVblank n = true → s.dst n = 4 → s.paired n = false →
    s.is (disp n) PG_SHADOW_CTRL_ARMED = false → s.is (dout n) PG_SHADOW_CTRL_ARMED = false →
    (s.dispOf n).commits = [] → s.mayLengthen n = false → s.normalBlank n < 2 ^ 17 →
    Gives (.vblankStart n) s fun t => t.rd (disp n) DISP_VB = 1 ∧ t.rd (disp n) DISP_LINE = 0 ∧
      t.rd (disp n) DISP_HEAD_CRC_CRC = crc32End (s.rd (disp n) DISP_RUNCRC) % 2 ^ 32 ∧
      t.rd (disp n) DISP_BLANK = s.normalBlank n ∧ t.dst n = 4) ∧
  (∀ s (n : Fin 4) c, s.gated (disp n) = false → s.atVblank n = true → s.dst n = 1 → s.paired n = false →
    s.is (disp n) PG_SHADOW_CTRL_ARMED = false → s.is (dout n) PG_SHADOW_CTRL_ARMED = false →
    (s.dispOf n).commits = [] → s.is (disp n) DISP_FORCED = false → s.rd (disp n) DISP_HOLD_RQ = c → 1 ≤ c → c ≤ 2 →
    s.capShown n = true →
    Gives (.vblankStart n) s fun t => t.dst n = 2 ∧ t.rd (disp n) DISP_STATUS_HOLD_CAUSE = c ∧
      t.rd (disp n) DISP_HOLD_RQ = 0 ∧ t.rd (disp n) DISP_SCAN = s.rd (disp n) DISP_STATUS_CAP_BUF % 2) ∧
  (∀ s (n : Fin 4) k, s.gated (disp n) = false → s.paired n = false → s.is (disp n) DISP_VB = true →
    s.dst n = 2 ∨ s.dst n = 4 → s.frameReady n = false → s.rd (disp n) DISP_LINE < 2 ^ 17 - 1 →
    Gives (.lineStart n k) s fun t => t.rd (disp n) DISP_LINE = s.rd (disp n) DISP_LINE + 1 ∧
      t.rd (disp n) DISP_VB = s.rd (disp n) DISP_VB ∧ t.out = s.out) ∧
  (∀ s (n : Fin 4) k, s.works (disp n) = true → s.is (disp n) PG_STATUS_CONTAINED = false → s.paired n = false →
    s.is (disp n) DISP_VB = true → s.dst n = 4 → s.rd (disp n) DISP_BLANK ≤ s.rd (disp n) DISP_LINE →
    (s.dispOf n).commits = [] → s.mild (disp n) 0 →
    Gives (.lineStart n k) s fun t => t.rd (disp n) DISP_VB = 0 ∧
      t.rd (disp n) DISP_FRAME = (s.rd (disp n) DISP_FRAME + 1) % 2 ^ 32)

/-- Rectangles, commits, fences and copy-forward of the retained path (R266, R268, R269, R270, R271). Of an enabled
output's retained path with no command waiting, on its handle, the DRAM up, the named surface shown, the rectangle
within it and no commit pending or copy running on it, and for one row below USABLE: WRITE_RECT stores the row at
its place in the back copy, FILL_RECT stores the colour's bytes in every pixel, COPY_RECT between surfaces of one
format stores the source row as it was, and each changes no other byte of the DRAM and is counted. COMMIT marks
exactly the surfaces of its mask as pending and joins the commits, FENCE and READ_RECT change no byte of the DRAM
and are counted. A BAD_OP is counted as an error and raised; an opcode of the table is none. While the DRAM is not
up a write waits. COPY_FORWARD_DONE of a row of damage makes it equal in the back copy, and ends the copy. -/
def Obligations.RetainedCommandsChangeSurfaces : Prop :=
  let ready := fun (s : State) (n : Fin 4) (h : Fin 65536) (f : Fin 8) (r : Rect) =>
    s.works (disp n) = true ∧ s.rd (disp n) DISP_PATH_A_RC_HANDLE = h.val ∧ h ≠ 0 ∧ (s.dispOf n).cmds = [] ∧
    s.dramUp = true ∧ s.surfOn n f = true ∧ s.inSurf n f r = true ∧ r.h = 1 ∧
    s.is (disp n) (SURF_STATE_COMMIT_PEND.nth f) = false ∧ s.is (disp n) (SURF_STATE_COPYING.nth f) = false ∧
    s.surfAddr n f true r.x r.y + r.w * fmtBytes (s.fmt n f) ≤ s.usable ∧ s.rd (disp n) DISP_CNT_CMD < 2 ^ 32 - 1
  let stored := fun (s t : State) (n : Fin 4) (f : Fin 8) (r : Rect) (bs : List Byte) =>
    (∀ i, i < bs.length → Mem.read 0 t.dram (s.surfAddr n f true r.x r.y + i) = bs.getD i 0) ∧
    (∀ a, a < s.surfAddr n f true r.x r.y ∨ s.surfAddr n f true r.x r.y + bs.length ≤ a →
      Mem.read 0 t.dram a = Mem.read 0 s.dram a) ∧
    t.rd (disp n) DISP_CNT_CMD = s.rd (disp n) DISP_CNT_CMD + 1
  (∀ s n h id f r data, ready s n h f r → data.length = r.w * fmtBytes (s.fmt n f) →
    Gives (.writeRect n h id f r data) s fun t => stored s t n f r data) ∧
  (∀ s n h id f r (v : Fin 4294967296), ready s n h f r →
    Gives (.fillRect n h id f r v) s fun t =>
      stored s t n f r (List.replicate r.w (leBytes (fmtBytes (s.fmt n f)) v)).flatten) ∧
  (∀ s n h id f (g : Fin 8) r (sx sy : Fin 65536), ready s n h f r → s.surfOn n g = true → s.fmt n f = s.fmt n g →
    s.inSurf n g ⟨sx, sy, r.w, r.h⟩ = true →
    Gives (.copyRect n h id f g r sx sy) s fun t =>
      stored s t n f r (s.memBytes (s.surfAddr n g true sx sy) (r.w * fmtBytes (s.fmt n g)))) ∧
  (∀ s (n : Fin 4) (h id : Fin 65536) (m : Fin 256), s.works (disp n) = true →
    s.rd (disp n) DISP_PATH_A_RC_HANDLE = h.val → h ≠ 0 → (s.dispOf n).cmds = [] →
    Gives (.commit n h id m) s fun t => (t.dispOf n).commits = (s.dispOf n).commits ++ [(id.val, m.val)] ∧
      ∀ f, f < 8 → t.rd (disp n) (SURF_STATE_COMMIT_PEND.nth f) =
        if m.val.testBit f then 1 else s.rd (disp n) (SURF_STATE_COMMIT_PEND.nth f)) ∧
  (∀ s (n : Fin 4) (h id : Fin 65536), s.works (disp n) = true → s.rd (disp n) DISP_PATH_A_RC_HANDLE = h.val → h ≠ 0 →
    (s.dispOf n).cmds = [] → s.rd (disp n) DISP_CNT_CMD < 2 ^ 32 - 1 →
    Gives (.fence n h id) s fun t => t.rd (disp n) DISP_CNT_CMD = s.rd (disp n) DISP_CNT_CMD + 1 ∧ t.dram = s.dram) ∧
  (∀ s n h id f r, ready s n h f r →
    Gives (.readRect n h id f false r) s fun t => t.rd (disp n) DISP_CNT_CMD = s.rd (disp n) DISP_CNT_CMD + 1 ∧
      t.dram = s.dram ∧ t.fresh = s.fresh + 1) ∧
  (∀ s (n : Fin 4) (h id : Fin 65536) (op : Fin 256), s.works (disp n) = true →
    s.rd (disp n) DISP_PATH_A_RC_HANDLE = h.val → h ≠ 0 → (s.dispOf n).cmds = [] → ¬(1 ≤ op.val ∧ op.val ≤ 6) →
    s.mild (disp n) 4 → s.rd (disp n) DISP_CNT_CMD_ERR < 2 ^ 32 - 1 →
    Gives (.badOp n h id op) s fun t => t.rd (disp n) DISP_CNT_CMD_ERR = s.rd (disp n) DISP_CNT_CMD_ERR + 1 ∧
      t.rd (disp n) (PG_ERR_STATUS_SRC.nth 4) = 1) ∧
  (∀ s n h id (op : Fin 256), 1 ≤ op.val → op.val ≤ 6 → exec (.badOp n h id op) s = .next s) ∧
  (∀ s (n : Fin 4) (h id : Fin 65536) (f : Fin 8) r data, s.works (disp n) = true →
    s.rd (disp n) DISP_PATH_A_RC_HANDLE = h.val → h ≠ 0 → (s.dispOf n).cmds = [] → s.dramUp = false →
    s.rd memp MEM_STATUS_STATE ≠ 5 → s.surfOn n f = true → s.inSurf n f r = true →
    exec (.writeRect n h id f r data) s =
      .next (s.setDisp n { s.dispOf n with cmds := [.write id.val f.val r data] })) ∧
  (∀ s (n : Fin 4) (f : Fin 8) r, s.is (disp n) (SURF_STATE_COPYING.nth f) = true → s.dramUp = true →
    (s.dispOf n).copies.list f = [r] → r.h = 1 → (s.dispOf n).cmds = [] →
    s.surfAddr n f true r.x r.y + r.w * fmtBytes (s.fmt n f) ≤ s.usable →
    Gives (.copyForwardDone n f) s fun t => t.rd (disp n) (SURF_STATE_COPYING.nth f) = 0 ∧
      ∀ i, i < r.w * fmtBytes (s.fmt n f) → Mem.read 0 t.dram (s.surfAddr n f true r.x r.y + i) =
        (s.getRow n f false r 0).getD i 0)

/-- AUX, hot plug, training, picture checks and restarts of an output (R287, R288, R290, R291, R292, R295, R296, R299,
R300). A hub's AUX request on an idle queue goes to the sink at once; a fifth waiting host request is not taken. A
reply to a hub request ends it; without one the request is sent again while below RETRY. PLUG shows HPD and, Moabeuc
running, trains; UNPLUG takes HPD and the trained link away; IRQ_HPD of a trained link whose sink asks for it raises
LINK_LOST and trains again. DP_TRAIN_DONE with success shows the trained rate and lanes; a failure above the lowest
rate trains one rate lower, and at the lowest with one lane raises TRAIN_FAIL. READBACK_FRAME_END of an RETAINED
frame compares its CRC with that of the pipeline: equal it matches, different it is counted. RB_LOSS raises
RB_FAULT. An accepted DOUT_RESTART lifts containment; DOUT_RETRAIN with a sink trains. -/
def Obligations.OutputsServeTheirSink : Prop :=
  (∀ s (n : Fin 4) h bs, s.works (dout n) = true → (s.dispOf n).aux = [] →
    Gives (.auxRequest n h false bs) s fun t => (t.dispOf n).aux = [⟨false, bs⟩] ∧ t.out = s.out ++ [.aux n bs] ∧
      t.rd (dout n) DOUT_AUX_TRY = 0) ∧
  (∀ s (n : Fin 4) (h : Fin 65536) bs, s.works (dout n) = true → h ≠ 0 → s.rd (disp n) DISP_PATH_A_PT_HANDLE = h.val →
    4 ≤ ((s.dispOf n).aux.tail.filter fun a => a.host).length → exec (.auxRequest n h true bs) s = .next s) ∧
  (∀ s (n : Fin 4) b bs, (s.dispOf n).aux = [⟨false, b⟩] →
    exec (.auxReply n bs) s = .next (s.setDisp n { s.dispOf n with aux := [] })) ∧
  (∀ s (n : Fin 4) a rest, (s.dispOf n).aux = a :: rest → s.rd (dout n) DOUT_AUX_TIME + 400000 ≤ s.clock →
    s.rd (dout n) DOUT_AUX_TRY < s.rd (dout n) DOUT_AUX_CFG_RETRY → s.rd (dout n) DOUT_AUX_TRY < 15 →
    Gives (.auxTimeout n) s fun t => t.rd (dout n) DOUT_AUX_TRY = s.rd (dout n) DOUT_AUX_TRY + 1 ∧
      t.out = s.out ++ [.aux n a.bytes] ∧ t.disps = s.disps) ∧
  (∀ s (n : Fin 4) l, s.gated (dout n) = false → s.is aon AON_PAD_HELD = false → s.is (dout n) DOUT_HPD_PIN = false →
    s.moabeuc = true → s.rd (dout n) DOUT_CNT_HPD < 2 ^ 32 - 1 →
    Gives (.plug n l) s fun t => t.rd (dout n) DOUT_LINK_STS_HPD = 1 ∧ t.rd (dout n) DOUT_TRAINING = 1 ∧
      t.rd (dout n) DOUT_CNT_HPD = s.rd (dout n) DOUT_CNT_HPD + 1) ∧
  (∀ s (n : Fin 4), s.gated (dout n) = false → s.is aon AON_PAD_HELD = false → s.is (dout n) DOUT_HPD_PIN = true →
    Gives (.unplug n) s fun t => t.rd (dout n) DOUT_LINK_STS_HPD = 0 ∧ t.rd (dout n) DOUT_LINK_STS_TRAINED = 0 ∧
      t.rd (dout n) DOUT_TRAINING = 0 ∧ t.rd (disp n) DISP_STATUS_STATE = s.rd (disp n) DISP_STATUS_STATE) ∧
  (∀ s (n : Fin 4), s.gated (dout n) = false → s.is aon AON_PAD_HELD = false → s.is (dout n) DOUT_LINK_STS_HPD = true →
    s.is (dout n) DOUT_LINK_STS_TRAINED = true → s.mild (dout n) 5 →
    Gives (.irqHpd n true) s fun t => t.rd (dout n) DOUT_LINK_STS_TRAINED = 0 ∧ t.rd (dout n) DOUT_TRAINING = 1 ∧
      t.rd (dout n) (PG_ERR_STATUS_SRC.nth 5) = 1) ∧
  (∀ s (n : Fin 4) l, s.gated (dout n) = false → s.is (dout n) DOUT_TRAINING = true →
    s.rd (dout n) DOUT_WANT_RATE < 5 → s.rd (dout n) DOUT_WANT_LANES < 8 → s.mild (dout n) 4 →
    Gives (.dpTrainDone n true l) s fun t => t.rd (dout n) DOUT_LINK_STS_TRAINED = 1 ∧ t.rd (dout n) DOUT_TRAINING = 0 ∧
      t.rd (dout n) DOUT_LINK_STS_RATE = s.rd (dout n) DOUT_WANT_RATE ∧
      t.rd (dout n) DOUT_LINK_STS_LANES = s.rd (dout n) DOUT_WANT_LANES) ∧
  (∀ s (n : Fin 4) l, s.gated (dout n) = false → s.is (dout n) DOUT_TRAINING = true →
    0 < s.rd (dout n) DOUT_WANT_RATE → s.rd (dout n) DOUT_WANT_RATE < 5 →
    Gives (.dpTrainDone n false l) s fun t => t.rd (dout n) DOUT_WANT_RATE = s.rd (dout n) DOUT_WANT_RATE - 1 ∧
      t.rd (dout n) DOUT_TRAINING = 1 ∧
      t.out = s.out ++ [.dpTrain n (s.rd (dout n) DOUT_WANT_RATE - 1) (s.rd (dout n) DOUT_WANT_LANES)]) ∧
  (∀ s (n : Fin 4) l, s.gated (dout n) = false → s.is (dout n) DOUT_TRAINING = true →
    s.rd (dout n) DOUT_WANT_RATE = 0 → s.rd (dout n) DOUT_WANT_LANES ≤ 1 → s.mild (dout n) 3 →
    Gives (.dpTrainDone n false l) s fun t => t.rd (dout n) DOUT_TRAINING = 0 ∧
      t.rd (dout n) (PG_ERR_STATUS_SRC.nth 3) = 1) ∧
  (∀ s (n : Fin 4) rows crc, s.gated (dout n) = false → s.is (dout n) DOUT_LINK_STS_TRAINED = true →
    s.rd (disp n) DISP_ENDST = 4 → s.is (dout n) DOUT_FIRST = false → s.is (dout n) DOUT_RB_OUT = false →
    s.rdA (dout n) DOUT_CHK_CFG_CRC_EN = 1 → s.rdA (dout n) DOUT_REG_CFG_EN = 0 →
    crc = crc32End (rows.foldl (fun c row => crc32Run c (checkBytes false row)) 0xFFFFFFFF) →
    s.mild (dout n) 0 → s.rd (dout n) DOUT_CNT_CRC_MIS < 2 ^ 32 - 1 →
    Gives (.readbackFrameEnd n rows) s fun t => t.rd (dout n) DOUT_PIN_CRC_CRC = crc % 2 ^ 32 ∧
      t.rd (dout n) DOUT_CHK_STS_CMP = 1 ∧
      (crc = s.rd (disp n) DISP_HEAD_CRC_CRC → t.rd (dout n) DOUT_CHK_STS_MATCH = 1 ∧ t.rd (dout n) DOUT_CHK_STS_RUN = 0 ∧
        t.rd (dout n) DOUT_CNT_CRC_MIS = s.rd (dout n) DOUT_CNT_CRC_MIS) ∧
      (crc ≠ s.rd (disp n) DISP_HEAD_CRC_CRC → t.rd (dout n) DOUT_CHK_STS_MATCH = 0 ∧
        t.rd (dout n) DOUT_CNT_CRC_MIS = s.rd (dout n) DOUT_CNT_CRC_MIS + 1)) ∧
  (∀ s (n : Fin 4), s.gated (dout n) = false → s.is (dout n) DOUT_LINK_STS_TRAINED = true → s.mild (dout n) 2 →
    Gives (.rbLoss n) s fun t => t.rd (dout n) DOUT_RB_OUT = 1 ∧ t.rd (dout n) (PG_ERR_STATUS_SRC.nth 2) = 1) ∧
  (∀ s who (n : Fin 4), s.accepts who (dout n) DOUT_CTRL_RESTART →
    Gives (.doutRestart who n) s fun t => t.rd (dout n) PG_STATUS_CONTAINED = 0 ∧
      OnlyKeys [key (dout n) PG_STATUS_CONTAINED] s t) ∧
  (∀ s who (n : Fin 4), s.accepts who (dout n) DOUT_CTRL_RETRAIN → s.is (dout n) DOUT_LINK_STS_HPD = true →
    Gives (.doutRetrain who n) s fun t => t.rd (dout n) DOUT_TRAINING = 1 ∧ t.rd (dout n) DOUT_LINK_STS_TRAINED = 0 ∧
      .dpTrain n (s.wanted n).1 (s.wanted n).2 ∈ t.out)

/-- Ports, owners, suspend, resume, wake and reset of the USB hub (R302, R304, R305, R306, R315, R316, R317, R386). Of a
hub that works. Overcurrent of a powered port turns its power off, shows OC, resets its state and is counted and
raised. A hub-class request acts on a port of the logical hub: it powers it, clears its power, resets, suspends,
resumes or disables it; on a port that is not the hub's own it does nothing. A write that changes no owner changes
nothing; a changed owner clears the port and keeps its power off for PWR_GOOD; a moved upstream is offered where it
is presented. A connect or disconnect on a powered port gives its state and its change bit. Suspend, resume and bus
reset give the upstream its state, and the embedded device its own. WAKE_REQ of a suspended device that may wake
makes a wake pending; after 5 ms of suspend the device signals it; a suspended port's wake is passed upstream, and
remembered. -/
def Obligations.UsbPortsAndUpstreamsFollowTheirHosts : Prop :=
  (∀ s (n : Fin 6), s.works uhub = true → s.is uhub (UH_PORT_PWR.nth n) = true → s.mild uhub 0 →
    s.rd uhub UH_CNT_OC < 2 ^ 32 - 1 →
    Gives (.overcurrent n) s fun t => t.rd uhub (UH_PORT_PWR.nth n) = 0 ∧ t.rd uhub (UH_PORT_OC.nth n) = 1 ∧
      t.rd uhub (UH_PORT_SS_STATE.nth n) = 0 ∧ t.rd uhub UH_CNT_OC = s.rd uhub UH_CNT_OC + 1 ∧
      t.rd uhub (PG_ERR_STATUS_SRC.nth 0) = 1) ∧
  (∀ s (d : Fin 2) (p : Fin 13) (n : Nat) (f : PortFeature) v, s.hubOn d = true → (p : Nat) = n + 1 → n < 6 →
    s.ownsHs d n = true →
    (f = .clearPower ∧ v = 0) ∨ (f = .reset ∧ 2 ≤ s.rd uhub (UH_PORT_HS_STATE.nth n) ∧ v = 3) ∨
      (f = .suspend ∧ s.rd uhub (UH_PORT_HS_STATE.nth n) = 3 ∧ v = 4) ∨
      (f = .resume ∧ s.rd uhub (UH_PORT_HS_STATE.nth n) = 4 ∧ v = 3) ∨
      (f = .disable ∧ 2 ≤ s.rd uhub (UH_PORT_HS_STATE.nth n) ∧ v = 2) →
    Gives (.setPortFeature d p false f) s fun t => t.rd uhub (UH_PORT_HS_STATE.nth n) = v ∧
      OnlyKeys [key uhub (UH_PORT_HS_STATE.nth n), key uhub (UH_PORT_PWR.nth n)] s t) ∧
  (∀ s (d : Fin 2) (p : Fin 13) (n : Nat) f, s.hubOn d = true → (p : Nat) = n + 1 → n < 6 → s.ownsHs d n = false →
    exec (.setPortFeature d p false f) s = .next s) ∧
  (∀ s (d : Fin 2), s.hubOn d = true → s.rd uhub UH_CFG_EMB_DOM = d.val → s.embAwake = true →
    Gives (.setPortFeature d 7 false .suspend) s fun t => t.rd uhub UH_STATUS_EMB = 4 ∧
      t.rd uhub UH_EMB_PREV = s.rd uhub UH_STATUS_EMB ∧ t.rd uhub UH_SUSP_TIME = s.clock % 2 ^ 64) ∧
  (∀ s who (n : Fin 6) p h (d td : Fin 2), s.rd uhub (UH_PORT_PRESENT.nth n) = (if p then 1 else 0) →
    s.rd uhub (UH_PORT_HS_PIN.nth n) = (if h then 1 else 0) → s.rd uhub (UH_PORT_TDOM.nth n) = td.val →
    s.rd uhub (UH_PORT_DOM.nth n) = d.val →
    exec (.portOwnerChange who (.port n p (d == 1) h (td == 1))) s = .next s ∧
    (s.accepts who uhub (UH_PORT_DOM.nth n) → s.hsPin n = false →
      Gives (.portOwnerChange who (.port n p (d == 0) h (td == 1))) s fun t =>
        t.rd uhub (UH_PORT_DOM.nth n) = 1 - d.val ∧ t.rd uhub (UH_PORT_SS_STATE.nth n) = 0 ∧
        t.rd uhub (UH_PORT_HS_STATE.nth n) = 0 ∧ t.rd uhub (UH_PORT_PWR.nth n) = 0 ∧
        t.rd uhub (UH_OFF_UNTIL.nth n) = (s.clock + s.rd uhub UH_PORT_CFG_PWR_GOOD * 2000000) % 2 ^ 64)) ∧
  (∀ s who (v : Fin 16) src3, s.accepts who uhub UH_CFG_UP2_0 → s.rd uhub UH_CFG_SRC3_0 = src3 → src3 < 4 →
    s.rd uhub UH_CFG_UP2_0 ≤ 5 → s.rd uhub UH_CFG_UP2_0 ≠ v.val → s.rd uhub UH_CFG_EMB_DOM = 1 →
    Gives (.portOwnerChange who (.up 0 src3 v)) s fun t => t.rd uhub UH_CFG_UP2_0 = v.val ∧
      t.rd uhub UH_STATUS_HS_0 = if s.hubOn 0 && decide ((v : Nat) ≤ 5) then 1 else 0) ∧
  (∀ s (n : Fin 12) c, s.works uhub = true → s.ps ≤ 1 →
    ((n : Nat) < 6 → s.is uhub (UH_PORT_HS_STATE.nth n) = true →
      Gives (.usbPortConnect n false c) s fun t => t.rd uhub (UH_PORT_HS_STATE.nth n) = (if c then 2 else 1) ∧
        t.rd uhub (UH_CHG_HS.nth n) % 2 = 1) ∧
    (6 ≤ (n : Nat) → s.is uhub (UH_TSS_STATE.nth (n - 6)) = true →
      Gives (.usbPortConnect n true c) s fun t => t.rd uhub (UH_TSS_STATE.nth (n - 6)) = (if c then 3 else 1) ∧
        t.rd uhub (UH_CHG_SS.nth n) % 2 = 1)) ∧
  (∀ s (d : Fin 2), s.works uhub = true →
    (s.rd uhub (upHs d) = 1 → Gives (.usbSuspend d 0) s fun t => t.rd uhub (upHs d) = 2 ∧ t.rd uhub (PG_INT 9) = 1) ∧
    (s.rd uhub (upSs d) = 2 → Gives (.usbSuspend d 1) s fun t => t.rd uhub (upSs d) = 5 ∧ t.rd uhub (PG_INT 9) = 1) ∧
    (s.embAwake = true → s.rd uhub UH_CFG_EMB_DOM = d.val → Gives (.usbSuspend d 2) s fun t =>
      t.rd uhub UH_STATUS_EMB = 4 ∧ t.rd uhub (PG_INT 9) = 1) ∧
    (s.ps ≤ 1 → s.rd uhub (upHs d) = 2 → s.mild uhub 6 → Gives (.hostResume d false) s fun t =>
      t.rd uhub (upHs d) = 1 ∧ t.rd uhub (PG_INT 10) = 1 ∧
      (s.rd uhub UH_CFG_EMB_DOM = d.val → s.rd uhub UH_STATUS_EMB = 4 →
        t.rd uhub UH_STATUS_EMB = s.rd uhub UH_EMB_PREV % 16 ∧ t.rd uhub UH_WAKE_PEND = 0)) ∧
    (s.ps ≤ 1 → s.rd uhub (upSs d) = 5 → s.mild uhub 6 → Gives (.hostResume d true) s fun t =>
      t.rd uhub (upSs d) = 2 ∧ t.rd uhub (UH_DOWN_WAKE.nth d) = 0)) ∧
  (∀ s who, s.accepts who uhub UH_WAKE_WAKE_REQ → s.works uhub = true → s.rd uhub UH_STATUS_EMB = 4 →
    s.is uhub UH_WAKE_RWE = true → s.rd uhub (upHs (s.rd uhub UH_CFG_EMB_DOM)) ≠ 3 →
    Gives (.wakeReq who) s fun t => t.rd uhub UH_WAKE_PEND = 1 ∧ OnlyKeys [key uhub UH_WAKE_PEND] s t) ∧
  (∀ s, s.works uhub = true → s.is uhub UH_WAKE_PEND = true → s.rd uhub UH_STATUS_EMB = 4 → s.is uhub UH_K_END = false →
    s.rd uhub UH_SUSP_TIME + 5000000 ≤ s.clock →
    Gives .remoteWakeSignal s fun t => t.rd uhub (upHs (s.rd uhub UH_CFG_EMB_DOM)) = 3 ∧
      t.rd uhub UH_K_END = (s.clock + 2000001) % 2 ^ 65 ∧ t.out = s.out ++ [.usbResume (s.rd uhub UH_CFG_EMB_DOM)]) ∧
  (∀ s (d : Fin 2) (n : Fin 12), s.hubOn d = true → s.ps ≤ 1 →
    ((n : Nat) < 6 → s.ownsHs d n = true → s.rd uhub (UH_PORT_HS_STATE.nth n) = 4 → s.rd uhub (upHs d) = 2 →
      Gives (.downstreamWake n false) s fun t => t.rd uhub (UH_PORT_HS_STATE.nth n) = 3 ∧
        t.rd uhub (UH_DOWN_WAKE.nth d) = 1 ∧ t.out = s.out ++ [.usbResume d]) ∧
    (s.ownsSs d n = true → s.rd uhub (ssField n) = 6 → s.rd uhub (upSs d) = 5 →
      Gives (.downstreamWake n true) s fun t => t.rd uhub (ssField n) = 3 ∧ t.rd uhub (UH_DOWN_WAKE.nth d) = 1 ∧
        t.out = s.out ++ [.usbResume d])) ∧
  (∀ s (d : Fin 2), s.hubOn d = true → s.mild uhub 5 →
    (s.is uhub (upHs d) = true → Gives (.usbBusReset d false) s fun t => t.rd uhub (upHs d) = 1 ∧
      t.rd uhub (UH_DOWN_WAKE.nth d) = 0 ∧ t.rd uhub (PG_INT 8) = 1 ∧
      (s.rd uhub UH_CFG_EMB_DOM = d.val → s.is uhub UH_STATUS_EMB = true → t.rd uhub UH_STATUS_EMB = 1)) ∧
    (s.is uhub (upSs d) = true → Gives (.usbBusReset d true) s fun t => t.rd uhub (upSs d) = 2 ∧
      t.rd uhub (PG_INT 8) = 1))

/-- Endpoints, microframes, audio and control transfers of the embedded device (R309, R310, R311, R312, R313, R314,
R318). Of the embedded device, attached and not suspended. An OUT packet with a bad CRC, not isochronous, changes
nothing; one with room in its buffer is accepted and held; a playback packet joins the playback buffer with its
microframe. An IN token takes NAK from an empty buffer, else the oldest packet, which stays until it is
acknowledged. A microframe counts, and drops what capture holds from more than two microframes before. The feedback
value is refreshed from the count of MCLK cycles every 2^FB_P microframes. A lost MCLK is shown and raised, its
return shown; without it a sample frame sends zeros; with it, the whole frame received two microframes before. A
SETUP begins a control transfer, and its status stage makes the request take effect. -/
def Obligations.EmbeddedDeviceMovesItsData : Prop :=
  (∀ s bs, exec (.usbOutPacket 1 false bs) s = .next s) ∧
  (∀ s bs, s.embAwake = true → s.rd uhub UH_STATUS_EMB = 3 → s.moabeuc = false → s.epRoom 2 512 = true →
    Gives (.usbOutPacket 1 true bs) s fun t => t.out = s.out ++ [.usbHandshake 1 false true] ∧
      t.usb.bufs.list 2 = s.usb.bufs.list 2 ++ [bs] ∧ t.regs = s.regs) ∧
  (∀ s bs, s.embAwake = true → s.rd uhub UH_STATUS_EMB = 3 → s.is uhub UH_AUD_STATUS_OUT_ALT = true →
    s.is uhub PG_STATUS_CONTAINED = false → s.epRoom 5 bs.length = true →
    exec (.usbOutPacket 3 true bs) s =
      .next { s with usb := { s.usb with play := s.usb.play ++ [(s.rd uhub UH_MF, bs)] } }) ∧
  (∀ s ack, s.embAwake = true → s.rd uhub UH_STATUS_EMB = 3 →
    (s.usb.bufs.list 3 = [] → exec (.usbInToken 1 ack) s = .next (s.send (.usbHandshake 1 true false))) ∧
    (∀ b l, s.usb.bufs.list 3 = b :: l → Gives (.usbInToken 1 ack) s fun t => t.out = s.out ++ [.usbData 1 b] ∧
      t.usb.bufs.list 3 = (if ack then l else b :: l) ∧ t.regs = s.regs)) ∧
  (∀ s, s.works uhub = true → s.is uhub PG_SHADOW_CTRL_ARMED = false → s.usb.alts = [] →
    s.rd uhub UH_MF < 2 ^ 64 - 1 →
    Gives .microframeStart s fun t => t.rd uhub UH_MF = s.rd uhub UH_MF + 1 ∧ OnlyKeys [key uhub UH_MF]
      { s with usb := { s.usb with cap := s.usb.cap.filter fun e => s.rd uhub UH_MF ≤ e.1 + 1 } } t) ∧
  (∀ s (c : Fin 4294967296), s.works uhub = true → s.rd uhub UH_FB_MF + 2 ^ s.fbP ≤ s.rd uhub UH_MF →
    Gives (.fbRefresh c) s fun t => t.rd uhub UH_FB_FB = s.feedback c % 2 ^ 32 ∧
      t.rd uhub UH_FB_MF = s.rd uhub UH_MF % 2 ^ 64 ∧ OnlyKeys [key uhub UH_FB_FB, key uhub UH_FB_MF] s t) ∧
  (∀ s, s.works uhub = true →
    (s.is uhub UH_AUD_STATUS_MCLK_OK = true → s.mild uhub 1 → Gives .mclkLoss s fun t =>
      t.rd uhub UH_AUD_STATUS_MCLK_OK = 0 ∧ t.rd uhub (PG_ERR_STATUS_SRC.nth 1) = 1) ∧
    Gives .mclkReturn s fun t => t.rd uhub UH_AUD_STATUS_MCLK_OK = 1 ∧ OnlyKeys [key uhub UH_AUD_STATUS_MCLK_OK] s t) ∧
  (∀ s ins, s.is uhub UH_AUD_STATUS_MCLK_OK = false →
    exec (.sampleFrame ins) s = .next (s.send (.i2s (List.replicate (4 * s.outCh) 0)))) ∧
  (∀ s ins k b l, s.works uhub = true → s.is uhub UH_AUD_STATUS_MCLK_OK = true → s.is uhub PG_STATUS_CONTAINED = false →
    s.is uhub UH_AUD_STATUS_OUT_ALT = true → s.is uhub UH_AUD_STATUS_IN_ALT = false → s.usb.play = (k, b) :: l →
    k + 2 ≤ s.rd uhub UH_MF → b.length = 4 * s.outCh → s.rdA uhub UH_AUD_CFG_MUTE_OUT = 0 →
    exec (.sampleFrame ins) s = .next (({ s with usb := { s.usb with play := l } }).send (.i2s b))) ∧
  (∀ s r (len : Fin 65536), s.embAwake = true → s.usb.ctl = none →
    Gives (.setup r len) s fun t => t.usb.ctl = some ⟨r, len⟩ ∧ t.regs = s.regs ∧
      t.usb.bufs = s.usb.bufs.keep fun k => 2 ≤ k) ∧
  (∀ s a, s.embAwake = true → s.usb.ctl = some ⟨.setAddress a, 0⟩ → 0 < a → a < 128 →
    Gives .statusStage s fun t => t.usb.ctl = none ∧ t.rd uhub UH_ADDR = a ∧
      t.rd uhub UH_STATUS_EMB = max 2 (s.rd uhub UH_STATUS_EMB)) ∧
  (∀ s on, s.embAwake = true → s.usb.ctl = some ⟨.remoteWake on, 0⟩ →
    Gives .statusStage s fun t => t.usb.ctl = none ∧ t.rd uhub UH_WAKE_RWE = if on then 1 else 0)


/-- Reception, transmission, tunnel, status and rings of an Ethernet port (R322, R323, R324, R325, R327, R328, R329,
R330, R331). A frame that fails its FCS on a working MAC half with a line is dropped and counted; an accepted one is
counted and, while its path is absent, held with its queue. PAUSE stops transmission for its quanta of 512 bit
times, and its expiry lets the frame that waits leave. A packet of a tunnelled frame joins the pieces before it; the
last towards the MAC half sends the frame. A link-state update to a queue half shows link and speed; the timer of a
local port shows its own. A tail at or beyond the ring's size is recorded and raises Q_ERR; one within it moves the
tail, one whole descriptor fetched leaves as a frame and completes, and posted RX buffers join the queue's. A
missing timestamp completes with STATUS 3 after 10 ms, a DMA error disables the queue pair, a bind change resets
both halves, a moderated interrupt leaves when its time is up. -/
def Obligations.EthernetMovesFrames : Prop :=
  (∀ s (n : Fin 2) a bs, s.works (eth n) = true → s.ethMac n = true → s.is (eth n) ETH_LINE = true →
    s.mild (eth n) 2 → s.rd (eth n) ETH_CNT_RX_FCS < 2 ^ 32 - 1 → s.rd (eth n) ETH_CNT_RX_DROP < 2 ^ 32 - 1 →
    Gives (.ethFrameRx n false a bs) s fun t => t.rd (eth n) ETH_CNT_RX_FCS = s.rd (eth n) ETH_CNT_RX_FCS + 1 ∧
      t.rd (eth n) ETH_CNT_RX_DROP = s.rd (eth n) ETH_CNT_RX_DROP + 1 ∧ t.rd (eth n) (PG_ERR_STATUS_SRC.nth 2) = 1 ∧
      t.eths = s.eths) ∧
  (∀ s (n : Fin 2) bs, s.works (eth n) = true → s.ethJoin n = .mac → s.is (eth n) ETH_LINE = true →
    bs.length + 4 ≤ s.mtu n → bs.length ≤ s.rd (eth n) ETH_BUF_RXQ_CAP * 1024 → (s.ethOf n).rx = [] →
    s.rd (eth n) (ETH_TUN_TX_HANDLE.nth 0) = 0 → s.rd (eth n) (ETH_TUN_TX_HANDLE.nth 1) = 0 →
    s.rd (eth n) ETH_CNT_RX_FRM < 2 ^ 32 - 1 →
    Gives (.ethFrameRx n true true bs) s fun t => t.rd (eth n) ETH_CNT_RX_FRM = s.rd (eth n) ETH_CNT_RX_FRM + 1 ∧
      (t.ethOf n).rx = [⟨s.rxQueue n bs, false, s.rssHash n bs, if s.stamped n bs then some s.time.toNat else none, bs⟩]) ∧
  (∀ s (n : Fin 2) (q : Fin 65536), s.works (eth n) = true → s.ethMac n = true → s.is (eth n) ETH_CFG_PAUSE_EN = true →
    q ≠ 0 → Gives (.pauseRx n q) s fun t => t.rd (eth n) ETH_STATUS_RX_PAUSED = 1 ∧
      t.rd (eth n) ETH_PAUSE_END =
        (s.clock + q * 512 * 1000000 / max 1 (ethRate (s.rd (eth n) ETH_CFG_MODE))) % 2 ^ 64) ∧
  (∀ s (n : Fin 2) f, s.works (eth n) = true → s.is (eth n) ETH_STATUS_RX_PAUSED = true →
    s.rd (eth n) ETH_PAUSE_END ≤ s.clock → (s.ethOf n).txq = [f] → f.tsReq = false →
    Gives (.pauseQuantaExpiry n) s fun t => t.rd (eth n) ETH_STATUS_RX_PAUSED = 0 ∧ (t.ethOf n).txq = [] ∧
      t.out = s.out ++ [.ethTx n f.bytes]) ∧
  (∀ s (n : Fin 2) toMac (g : Bool) bs, s.works (eth n) = true → s.ethJoin n ≠ .loc →
    (if toMac then s.ethMac n else s.ethQueue n) = true →
    Gives (.ethTunnelFrame n toMac g true bs) s fun t => t.regs = s.regs ∧
      (t.ethOf n).join.list ((if toMac then 2 else 0) + if g then 1 else 0) =
        (s.ethOf n).join.list ((if toMac then 2 else 0) + if g then 1 else 0) ++ bs) ∧
  (∀ s (n : Fin 2) (g : Bool) bs all, s.works (eth n) = true → s.ethJoin n = .mac →
    s.is (eth n) ETH_STATUS_RX_PAUSED = false → (s.ethOf n).join.list (if g then 3 else 2) ++ bs = all →
    (leNat (cut all 11 1)).testBit 0 = false →
    Gives (.ethTunnelFrame n true g false bs) s fun t =>
      t.out = s.out ++ [.ethTx n ((all.drop 16).take (leNat (cut all 8 2)))] ∧
      (t.ethOf n).join.list (if g then 3 else 2) = []) ∧
  (∀ s (n : Fin 2) (w0 w1 w2 w3 : Fin 4294967296), s.works (eth n) = true → s.ethJoin n = .queue →
    w0.val / 2 ^ 28 = 1 → w0.val % 2 = 1 →
    Gives (.ethStatusUpdate n w0 w1 w2 w3) s fun t => t.rd (eth n) ETH_STATUS_LINK = 1 ∧
      t.rd (eth n) ETH_STATUS_SPEED = w0.val / 16 % 16) ∧
  (∀ s (n : Fin 2) (up : Bool), s.works (eth n) = true → s.ethJoin n = .loc → s.mild (eth n) 0 →
    s.rd (eth n) ETH_CFG_MODE = 1 → s.rd (eth n) ETH_LINE = (if up then 0 else 1) →
    Gives (.linkStateTimer n up) s fun t => t.rd (eth n) ETH_STATUS_LINK = (if up then 1 else 0) ∧
      t.rd (eth n) ETH_STATUS_SPEED = if up then 1 else 0) ∧
  (∀ s who (n : Fin 2) (q : Fin 32) (tail : Fin 65536) ds, s.accepts who (eth n) (ETH_Q_TX_PTR_TAIL.nth q) →
    (s.rd (eth n) (ETH_Q_TX_RING_SIZE.nth q) ≤ tail.val → s.mild (eth n) 1 →
      Gives (.txTail who n q tail ds) s fun t => t.rd (eth n) ETH_STATUS_LAST_Q = q.val ∧
        t.rd (eth n) (PG_ERR_STATUS_SRC.nth 1) = 1 ∧
        t.rd (eth n) (ETH_Q_TX_PTR_TAIL.nth q) = s.rd (eth n) (ETH_Q_TX_PTR_TAIL.nth q)) ∧
    (∀ d, s.works (eth n) = true → s.ethJoin n = .loc → s.is (eth n) ETH_LINE = true →
      s.is (eth n) ETH_STATUS_RX_PAUSED = false → s.rd (eth n) ETH_IRQ_MOD = 0 →
      ringOk (s.rd (eth n) (ETH_Q_TX_RING_EN.nth q)) (s.rd (eth n) (ETH_Q_TX_RING_SIZE.nth q)) = true →
      s.rd (eth n) (ETH_Q_TX_PTR_HEAD.nth q) < s.rd (eth n) (ETH_Q_TX_RING_SIZE.nth q) →
      tail.val = (s.rd (eth n) (ETH_Q_TX_PTR_HEAD.nth q) + 1) % s.rd (eth n) (ETH_Q_TX_RING_SIZE.nth q) →
      (s.ethOf n).txd.list q = [] → d.eop = true → d.tsReq = false → d.csum = false → d.vlanIns = false →
      0 < d.data.length → d.data.length ≤ s.mtu n →
      Gives (.txTail who n q tail (d :: ds)) s fun t => t.rd (eth n) (ETH_Q_TX_PTR_TAIL.nth q) = tail.val ∧
        t.rd (eth n) (ETH_Q_TX_PTR_HEAD.nth q) = tail.val ∧ t.out = s.out ++ [.ethTx n d.data,
          .ethTxDone n q (s.rd (eth n) (ETH_Q_TX_PTR_HEAD.nth q)) 0 0, .ethIrq n q])) ∧
  (∀ s who (n : Fin 2) (q : Fin 32) (tail : Fin 65536) sizes, s.accepts who (eth n) (ETH_Q_RX_PTR_TAIL.nth q) →
    tail.val < s.rd (eth n) (ETH_Q_RX_RING_SIZE.nth q) → s.works (eth n) = true → s.ethJoin n = .queue →
    (s.ethOf n).qwait = [] →
    Gives (.rxTail who n q tail sizes) s fun t => t.rd (eth n) (ETH_Q_RX_PTR_TAIL.nth q) = tail.val ∧
      (t.ethOf n).rxd.list q = (s.ethOf n).rxd.list q ++
        sizes.take ((tail + s.rd (eth n) (ETH_Q_RX_RING_SIZE.nth q) - s.rd (eth n) (ETH_Q_RX_PTR_TAIL.nth q)) %
          s.rd (eth n) (ETH_Q_RX_RING_SIZE.nth q))) ∧
  (∀ s (n : Fin 2) (q : Fin 32) (idx : Fin 65536) at', (s.ethOf n).stamps = [(q.val, idx.val, at')] →
    at' + 10000000 ≤ s.clock → s.rd (eth n) ETH_IRQ_MOD = 0 →
    Gives (.tsCompletionTimeout n q idx) s fun t => (t.ethOf n).stamps = [] ∧
      t.out = s.out ++ [.ethTxDone n q idx 3 0, .ethIrq n q]) ∧
  (∀ s (n : Fin 2) (q : Fin 32), s.works (eth n) = true → s.ethQueue n = true → s.mild (eth n) 1 →
    Gives (.ethDmaError n q) s fun t => t.rd (eth n) (ETH_Q_TX_RING_EN.nth q) = 0 ∧
      t.rd (eth n) (ETH_Q_RX_RING_EN.nth q) = 0 ∧ t.rd (eth n) ETH_STATUS_LAST_Q = q.val ∧
      (t.ethOf n).txd.list q = [] ∧ (t.ethOf n).rxd.list q = []) ∧
  (∀ s who (n : Fin 2) (q m : Fin 4), s.accepts who (eth n) ETH_CFG_Q_BIND →
    s.rd (eth n) ETH_CFG_Q_BIND ≠ q.val → (ethBind q m).2 = false →
    Gives (.ethBindChange who n q m) s fun t => t.rd (eth n) ETH_CFG_Q_BIND = q.val ∧
      t.rd (eth n) ETH_CFG_MAC_BIND = m.val ∧ t.ethOf n = Eth.empty ∧ t.rd (eth n) ETH_STATUS_LINK = 0 ∧
      ∀ i, i < 32 → t.rd (eth n) (ETH_Q_TX_RING_EN.nth i) = 0 ∧ t.rd (eth n) (ETH_Q_RX_RING_EN.nth i) = 0) ∧
  (∀ s (n : Fin 2) (e : Fin 33), s.is (eth n) (ETH_IRQ_PEND.nth e) = true →
    s.rd (eth n) (ETH_IRQ_TIME.nth e) + s.rd (eth n) ETH_IRQ_MOD * 1000 ≤ s.clock + 1 →
    Gives (.irqModExpiry n e) s fun t => t.out = s.out ++ [.ethIrq n e] ∧ t.rd (eth n) (ETH_IRQ_PEND.nth e) = 0)

/-- Training, requests and low power of the DRAM controller (R333, R334, R336, R337, R338). Stored training results
whose check passes are restored, the DRAM then up with its capacity usable; a failed training shows the channels
that failed and no stored results. While the DRAM is off or trains, requests wait. An urgent client's only request
below USABLE is served at once: a read returns the bytes that lie there, a write changes exactly its bytes. With no
request waiting and every deadline far enough away the controller enters self-refresh, or power-down after 64 ns
without traffic; a waiting request brings it back. The check of write DQ timing shows nothing. -/
def Obligations.TheDramServesAndRests : Prop :=
  (∀ s (f : Fin 256), s.gated memp = false → s.rd memp MEM_STATUS_STATE = 0 → s.is memp MEM_TRAINED = true →
    s.is aon AON_DRAM_LOST = false → (∀ n, n < 4 → (s.dispOf n).cmds = []) →
    Gives (.dramTraining true f) s fun t => t.rd memp MEM_STATUS_STATE = 2 ∧ t.rd memp MEM_STATUS_RESTORED = 1 ∧
      t.rd memp MEM_CAP_USABLE = usableMib (s.rd memp MEM_INSTALLED) (s.rd memp MEM_ECC_ACT) % 2 ^ 16 ∧ t.dram = s.dram) ∧
  (∀ s (f : Fin 256), s.gated memp = false → s.rd memp MEM_STATUS_STATE = 0 → f ≠ 0 → s.memq = [] → s.mild memp 3 →
    Gives (.dramTraining false f) s fun t => t.rd memp MEM_STATUS_STATE = 5 ∧ t.rd memp MEM_STATUS_FAIL_CH = f.val ∧
      t.rd memp MEM_TRAINED = 0 ∧ t.rd memp (PG_ERR_STATUS_SRC.nth 3) = 1) ∧
  (∀ s, exec .dqsCheck s = .next s) ∧
  (∀ s l e, s.rd memp MEM_STATUS_STATE ≤ 1 → exec (.dramRequest l e) s = .next { s with
    memq := s.memq ++ l.map fun (r : MemReq) => (s.clock, { r with client := r.client % 8 }) }) ∧
  (∀ s r d, s.dramUp = true → s.memq = [] → r.client < 7 → r.addr + r.len ≤ s.usable → r.write = none →
    s.memDeadline r.client = some d → d - s.clock < 128 * s.rd memp MEM_ARB_URG →
    Gives (.dramRequest [r] .clean) s fun t => t.memq = [] ∧ t.dram = s.dram ∧
      t.out = s.out ++ [.memData r.client false (Mem.readList 0 s.dram r.addr r.len)]) ∧
  (∀ s r d bs, s.dramUp = true → s.memq = [] → r.client < 7 → r.addr + bs.length ≤ s.usable → r.write = some bs →
    s.memDeadline r.client = some d → d - s.clock < 128 * s.rd memp MEM_ARB_URG →
    Gives (.dramRequest [r] .clean) s fun t => t.memq = [] ∧ t.out = s.out ∧
      ∀ a, Mem.read 0 t.dram a = if r.addr ≤ a ∧ a < r.addr + bs.length then bs.getD (a - r.addr) 0
        else Mem.read 0 s.dram a) ∧
  (∀ s, s.gated memp = false → s.memq = [] → s.is memp MEM_SR_CFG_SR_EN = true →
    s.rd memp MEM_STATUS_STATE = 2 ∨ s.rd memp MEM_STATUS_STATE = 3 → s.slackAtLeast (s.srEnter + s.srExit) = true →
    Gives .srEntry s fun t => t.rd memp MEM_STATUS_STATE = 4 ∧ t.dram = s.dram ∧ t.out = s.out) ∧
  (∀ s, s.gated memp = false → s.memq = [] → s.is memp MEM_SR_CFG_PD_EN = true → s.rd memp MEM_STATUS_STATE = 2 →
    s.rd memp MEM_BUSY + 64 ≤ s.clock → s.slackAtLeast 250 = true →
    Gives .pdEntry s fun t => t.rd memp MEM_STATUS_STATE = 3 ∧ t.dram = s.dram ∧ t.out = s.out) ∧
  (∀ s, s.gated memp = false → s.memq ≠ [] → s.rd memp MEM_STATUS_STATE = 3 ∨ s.rd memp MEM_STATUS_STATE = 4 →
    Gives .srExit s fun t => t.rd memp MEM_STATUS_STATE = 2 ∧ t.memq = s.memq ∧ t.out = s.out)


/-- Attach, detach, contracts and power-role moves of a PD port (R343, R345, R347, R350, R351, R352, R355, R356, R359,
R360, R362). In D0 or D1. An attach that policy allows gives the port its role, orientation and record; a detach
opens both switches and clears role and record; CC_OV turns VCONN off; a dead board's port becomes the one that
powers it. At the basic level, a source accepts a Request within an offered fixed object, energy limit and budget
after the island opened the transition window, and rejects one for no object; capabilities are stored by a sink;
Accept leads a sink to wait for PS_RDY, which makes the contract and begins discovery on the cable; a Reject raises
CONTRACT_REFUSED; a Wait is retried after 100 ms with the chosen request. A source in transition sends PS_RDY at its
new voltage, or discharges for a swap; swaps are accepted or rejected as policy says; an armed sink follows the Fast
Role Swap signal. -/
def Obligations.PdAttachesAndMovesPower : Prop :=
  let live := fun (s : State) (n : Fin 6) => s.works (pd n) = true ∧ s.pdAttached n = true ∧
    s.expert (pd n) = false ∧ s.pdMoab = true
  (∀ s (n : Fin 6) (cc : Fin 64) vbus code pin, s.ps ≤ 1 → s.works (pd n) = true → s.rd (pd n) PD_STATUS_STATE ≤ 1 →
    s.is aon (AON_PRESENT.nth n) = true → s.is safe PG_STATUS_IN_RESET = false → ccActive cc = (code, pin) →
    2 ≤ code → code ≤ 5 → s.roleMay n (code == 2) = true →
    Gives (.ccAttach n cc vbus) s fun t => t.rd (pd n) PD_STATUS_STATE = (if code = 2 then 2 else 3) ∧
      t.rd (pd n) PD_STATUS_PR = (if code = 2 then 1 else 0) ∧ t.rd (pd n) PD_STATUS_DR = (if code = 2 then 1 else 0) ∧
      t.rd (pd n) PD_STATUS_ORIENT = pin ∧ t.rd (pd n) PD_ATTACH_VALID = 1 ∧ t.rd (pd n) (PG_INT 8) = 1 ∧
      (code ≠ 2 → t.rd (pd n) PD_STATUS_PARTNER_RP = code - 2)) ∧
  (∀ s (n : Fin 6) vbus, s.ps ≤ 1 → s.rd safe (SP_ROLE.nth n) ≠ 0 → s.gated (pd n) = false → s.mild (pd n) 0 →
    s.is (pd n) PD_CHOSEN = false → s.linkUp n = false →
    Gives (.detach n vbus) s fun t => t.rd safe (SP_ROLE.nth n) = 0 ∧ t.srcOn n = false ∧ t.snkOn n = false ∧
      t.rd (pd n) PD_STATUS_STATE = 0 ∧ t.rd (pd n) PD_ATTACH_VALID = 0 ∧ t.rd (pd n) PD_STATUS_CONTRACT = 0 ∧
      t.rd (pd n) (PG_INT 9) = 1) ∧
  (∀ s (n : Fin 6), s.gated (pd n) = false → s.mild (pd n) 8 → Gives (.ccOv n) s fun t =>
    t.rd safe (SP_STATE_VCONN.nth n) = 0 ∧ t.rd (pd n) PD_STATUS_VCONN = 0 ∧
    t.rd (pd n) (PG_ERR_STATUS_SRC.nth 8) = 1) ∧
  (∀ s (n : Fin 6) vbus, s.is glb GLB_STRAP_DBAT = true → s.rd aon AON_SUPPLY_STS_IN_RANGE = 0 →
    Gives (.dbatStart n vbus) s fun t => t.rd aon AON_DBAT = 1 ∧ t.rd aon AON_DBAT_PORT = n.val ∧
      t.rd aon AON_SUPPLY_STS_IN_RANGE = 1024) ∧
  (∀ s (n : Fin 6) raw, live s n → s.mild (pd n) 3 → s.pdSource n = false →
    Gives (.sourceCapabilities n raw) s fun t => ∀ i, i < 11 →
      t.rd (pd n) (PD_CAPS.nth i) = (raw.drop 1).getD i 0 % 2 ^ 32) ∧
  (∀ s (n : Fin 6) raw pos p, live s n → s.pdSource n = true → raw.getD 1 0 / 2 ^ 28 % 16 = pos → 1 ≤ pos → pos ≤ 11 →
    s.rd (pd n) (PD_OFFER.nth (pos - 1)) = p → p ≠ 0 → pdoKind p = 0 → raw.getD 1 0 / 2 ^ 10 % 1024 ≤ p % 1024 →
    s.energyFails n (pdoHi p) = false →
    watts (pdoHi p) (raw.getD 1 0 / 2 ^ 10 % 1024 * 10) ≤ s.budgetLeft n → s.gated safe = false →
    s.is safe PG_STATUS_IN_RESET = false → s.is safe (SP_STATE_TRIPPED.nth n) = false → s.rd safe (SP_ROLE.nth n) ≠ 0 →
    Gives (.request n raw) s fun t => t.out = s.out ++ [.safeRsp .marionette (2 ^ 24), .pd n 0 .accept] ∧
      t.rd (pd n) PD_ST = 2 ∧ t.rd safe (SP_STATE_TRANS.nth n) = 1 ∧ t.rd (pd n) PD_PV = pdoHi p) ∧
  (∀ s (n : Fin 6) raw, live s n → s.pdSource n = true → raw.getD 1 0 = 0 → s.is (pd n) PD_ARMNEG = false →
    Gives (.request n raw) s fun t => t.out = s.out ++ [.pd n 0 .reject] ∧ t.rd (pd n) PD_ST = 0) ∧
  (∀ s (n : Fin 6) raw, live s n → s.rd (pd n) PD_ST = 3 →
    (Gives (.accept n raw) s fun t => t.rd (pd n) PD_ST = 4) ∧
    (s.mild (pd n) 3 → s.is (pd n) PD_ARMNEG = false → Gives (.reject n raw) s fun t =>
      t.rd (pd n) (PG_ERR_STATUS_SRC.nth 3) = 1 ∧ t.rd (pd n) PD_ST = 0) ∧
    (s.rd (pd n) PD_WAITS < 2 → Gives (.wait n raw) s fun t =>
      t.rd (pd n) PD_WAITS = s.rd (pd n) PD_WAITS + 1 ∧ t.rd (pd n) PD_ST = 31)) ∧
  (∀ s (n : Fin 6) i v c, s.pdBasic n = true → s.rd (pd n) PD_ST = 31 → s.pdAged n 100 = true →
    s.sinkPick n = some (i, v, c) → Gives (.waitRetry n) s fun t => t.rd (pd n) PD_ST = 3 ∧
      t.out = s.out ++ [.pd n 0 (.request (rdoFor (i + 1) (s.rd (pd n) (PD_CAPS.nth i)) v c))]) ∧
  (∀ s (n : Fin 6) raw, live s n → s.rd (pd n) PD_ST = 4 → s.pdSource n = false → s.is aon AON_DBAT = false →
    s.is (pd n) PG_SHADOW_CTRL_ARMED = false → s.is (pd n) PD_DISC = false → s.is (pd n) PD_STATUS_VCONN = true →
    Gives (.psRdy n raw false) s fun t => t.rd (pd n) PD_STATUS_CONTRACT = 1 ∧
      t.rd (pd n) PD_CONTRACT_VOLT = s.rd (pd n) PD_PV / 20 % 2 ^ 12 ∧
      t.rd (pd n) PD_CONTRACT_OBJ = s.rd (pd n) PD_PICK % 16 ∧ t.rd (pd n) PD_ST = 21 ∧ t.rd (pd n) (PG_INT 10) = 1 ∧
      ∃ l, t.out = s.out ++ l ++ [.pd n 1 .discoverIdentity]) ∧
  (∀ s (n : Fin 6), s.pdBasic n = true → s.pdAged n 28 = true →
    (s.rd (pd n) PD_ST = 2 → Gives (.srcTransition n) s fun t =>
      ∃ l, t.out = s.out ++ .supply n (s.rd (pd n) PD_PV) :: .pd n 0 .psRdy :: l) ∧
    (s.rd (pd n) PD_ST = 7 → Gives (.srcTransition n) s fun t => t.rd (pd n) PD_STATUS_PHASE = 3 ∧
      t.rd (pd n) PD_ST = 8)) ∧
  (∀ s (n : Fin 6) raw, live s n → s.is (pd n) PD_ARMNEG = false →
    (s.is (pd n) PD_POLICY_ACC_PR = true → s.pdSource n = true → Gives (.prSwap n raw) s fun t =>
      t.out = s.out ++ [.pd n 0 .accept] ∧ t.rd (pd n) PD_STATUS_PHASE = 2 ∧ t.rd (pd n) PD_ST = 7) ∧
    (s.is (pd n) PD_POLICY_ACC_PR = false → s.mild (pd n) 2 → Gives (.prSwap n raw) s fun t =>
      t.rd (pd n) (PG_ERR_STATUS_SRC.nth 2) = 1 ∧ ∃ l, t.out = s.out ++ .pd n 0 .reject :: l) ∧
    (s.is (pd n) PD_POLICY_ACC_DR = true → s.rd (pd n) PD_STATUS_DR < 2 → s.rd (pd n) PD_CNT_SWAP_DR < 255 →
      Gives (.drSwap n raw) s fun t => t.rd (pd n) PD_STATUS_DR = 1 - s.rd (pd n) PD_STATUS_DR ∧
        t.rd (pd n) PD_CNT_SWAP_DR = s.rd (pd n) PD_CNT_SWAP_DR + 1 ∧ t.rd (pd n) (PG_INT 11) = 1 ∧
        ∃ l, t.out = s.out ++ .pd n 0 .accept :: l) ∧
    (s.is (pd n) PD_POLICY_ACC_VCONN = true → s.is (pd n) PD_STATUS_VCONN = true → Gives (.vconnSwap n raw) s fun t =>
      t.out = s.out ++ [.pd n 0 .accept] ∧ t.rd (pd n) PD_STATUS_PHASE = 8 ∧ t.rd (pd n) PD_ST = 14) ∧
    (s.rd (pd n) PD_ST = 16 → Gives (.frSwap n raw) s fun t => t.rd (pd n) PD_STATUS_PHASE = 6 ∧
      t.out = s.out ++ [.pd n 0 .accept, .pd n 0 .psRdy] ∧ t.rd (pd n) PD_ST = 19)) ∧
  (∀ s (n : Fin 6) vbus, s.pdBasic n = true → s.is (pd n) PD_STATUS_FRS_ARMED = true →
    s.is safe (SP_STATE_FRS.nth n) = true → s.pdSource n = false → s.is safe (SP_STATE_TRIPPED.nth n) = false →
    Gives (.frsSignal n vbus) s fun t => t.out = s.out ++ [.supply n 5000, .pd n 0 .frSwap] ∧
      t.snkOn n = false ∧ t.rd (pd n) PD_STATUS_PHASE = 5 ∧ t.rd (pd n) PD_STATUS_FRS_ARMED = 0 ∧
      t.rd (pd n) PD_ST = 15) ∧
  (∀ s, s.rd glb (GLB_GPIO.nth 14) ≠ 255 → (∀ n, n < 6 → s.is (pd n) PD_POLICY_FRS_EN = false) →
    Gives .supplyFailGpio s fun t => t.rd glb GLB_SUPPLY_OK = 0 ∧ OnlyKeys [key glb GLB_SUPPLY_OK] s t)

/-- Resets, EPR, PPS, discovery and mode messages of a PD port (R346, R348, R350, R356, R361, R362, R363). At the basic
level. A received hard reset takes a port attached as sink back to the start, and one attached as source to recovery
at 5 V; the recovery closes the switch again at 5 V after 700 ms; Error Recovery ends in an unattached port after 30
ms. A received Soft Reset is counted and answered. EPR mode is left when the partner ends it, entered when it agrees
and refused where policy does not allow it; keep-alives are answered, and sent when due; a lost keep-alive and a
missed PPS request of a source are followed by Hard Reset; a sink repeats its PPS request. The partner's identity
leads to its modes, the cable's mode to the partner's identity; an unsupported mode is refused, an unsupported USB
mode rejected; a UFP without Enter Mode for 100 ms sends DR_Swap once. Authentication is answered Not Supported at
both levels, and at the expert level a message goes to the FIFO. -/
def Obligations.PdDiscoversAndKeepsContracts : Prop :=
  let live := fun (s : State) (n : Fin 6) => s.works (pd n) = true ∧ s.pdAttached n = true ∧
    s.expert (pd n) = false ∧ s.pdMoab = true
  (∀ s (n : Fin 6), s.works (pd n) = true → s.pdAttached n = true → s.rd (pd n) PD_HR_TIME = 0 →
    (s.rd (pd n) PD_ATTACH_ATT_PR = 0 → Gives (.hardResetRx n) s fun t => t.rd (pd n) PD_ST = 0) ∧
    (s.rd (pd n) PD_ATTACH_ATT_PR = 1 → s.rd (pd n) PD_STATUS_PHASE < 5 → Gives (.hardResetRx n) s fun t =>
      t.rd (pd n) PD_ST = 29 ∧ ∃ l, t.out = s.out ++ l ++ [.supply n 5000])) ∧
  (∀ s (n : Fin 6), s.works (pd n) = true → s.rd (pd n) PD_ST = 29 → s.pdAged n 700 = true →
    Gives (.srcRecover n) s fun t => t.rd (pd n) PD_ST = (if s.pdBasic n then 1 else 0) ∧
      t.rd (pd n) PD_SUPPLY = 5000 ∧ ∃ l, t.out = s.out ++ .supply n 5000 :: l) ∧
  (∀ s (n : Fin 6), s.rd (pd n) PD_STATUS_STATE = 5 → s.pdAged n 30 = true → s.is (pd n) PD_CHOSEN = false →
    s.linkUp n = false → Gives (.errorRecoveryDone n) s fun t => t.rd (pd n) PD_STATUS_STATE = 0 ∧
      t.rd (pd n) PD_ATTACH_VALID = 0 ∧ t.rd (pd n) PD_ST = 0 ∧ t.out = s.out) ∧
  (∀ s (n : Fin 6) raw, live s n → s.pdSource n = false →
    (s.rd (pd n) PD_CNT_SR_RX < 2 ^ 16 - 1 → Gives (.softResetRx n raw) s fun t => t.out = s.out ++ [.pd n 0 .accept] ∧
      t.rd (pd n) PD_CNT_SR_RX = s.rd (pd n) PD_CNT_SR_RX + 1 ∧ t.rd (pd n) PD_ST = 0) ∧
    (raw.getD 1 0 / 2 ^ 24 = 5 → Gives (.eprMode n raw) s fun t => t.rd (pd n) PD_STATUS_EPR = 0 ∧ t.out = s.out) ∧
    (raw.getD 1 0 / 2 ^ 24 = 3 → s.rd (pd n) PD_ST = 18 → Gives (.eprMode n raw) s fun t =>
      t.rd (pd n) PD_STATUS_EPR = 1 ∧ t.rd (pd n) PD_ST = 0) ∧
    (raw.getD 1 0 / 2 ^ 24 = 1 → Gives (.eprMode n raw) s fun t => t.out = s.out ++ [.pd n 0 (.eprMode 4)])) ∧
  (∀ s (n : Fin 6) raw, live s n → s.pdSource n = true → s.is (pd n) PD_STATUS_EPR = true →
    Gives (.eprKeepalive n raw) s fun t => t.rd (pd n) PD_KA_TIME = s.clock % 2 ^ 64 ∧
      t.out = s.out ++ [.pd n 0 (.eprKeepAlive true)]) ∧
  (∀ s (n : Fin 6), s.pdBasic n = true →
    (s.is (pd n) PD_STATUS_EPR = true → s.pdSource n = false →
      s.rd (pd n) PD_KA_TIME + clamp 25 50 (s.rd (pd n) PD_TMR_EPR_KA) * 10000000 ≤ s.clock →
      Gives (.eprKaTimer n) s fun t => t.rd (pd n) PD_KA_TIME = s.clock % 2 ^ 64 ∧
        t.out = s.out ++ [.pd n 0 (.eprKeepAlive false)]) ∧
    (s.is (pd n) PD_STATUS_EPR = true → s.pdSource n = true → s.is aon AON_DBAT = false → s.mild (pd n) 6 →
      s.rd (pd n) PD_KA_TIME + 875000000 ≤ s.clock →
      Gives (.eprKaLost n) s fun t => ∃ l l', t.out = s.out ++ l ++ .pd n 0 .hardReset :: l') ∧
    (s.pdProg n = true → s.pdSource n = true → s.is aon AON_DBAT = false → s.mild (pd n) 7 →
      s.rd (pd n) PD_PPS_TIME + 13500000000 ≤ s.clock →
      Gives (.ppsTimeout n) s fun t => ∃ l l', t.out = s.out ++ l ++ .pd n 0 .hardReset :: l') ∧
    (s.pdProg n = true → s.pdSource n = false → s.rd (pd n) PD_ST = 0 →
      s.rd (pd n) PD_PPS_TIME + clamp 1000 9000 (s.rd (pd n) PD_TMR_PPS_REQ) * 1000000 ≤ s.clock →
      Gives (.ppsReqTimer n) s fun t => t.out = s.out ++ [.pd n 0 (.request (s.rd (pd n) PD_RDO))] ∧
        t.rd (pd n) PD_ST = 3) ∧
    (s.rd (pd n) PD_ST = 28 → s.pdAged n 100 = true → s.is (pd n) PD_DRS_DONE = false →
      Gives (.drSwapWait n) s fun t => t.out = s.out ++ [.pd n 0 .drSwap] ∧ t.rd (pd n) PD_ST = 12 ∧
        t.rd (pd n) PD_DRS_DONE = 1)) ∧
  (∀ s (n : Fin 6) raw, live s n →
    (s.rd (pd n) PD_ST = 24 → Gives (.discoverIdentity n 0 true raw) s fun t =>
      t.out = s.out ++ [.pd n 0 (.discoverModes (s.rd glb GLB_KLOYR_SVID))] ∧ t.rd (pd n) PD_ST = 25 ∧
      t.rd (pd n) PD_ATTACH_USB4 = raw.getD 5 0 / 2 ^ 27 % 2) ∧
    (s.rd (pd n) PD_ST = 23 → s.rd (pd n) PD_STATUS_DR = 1 → Gives (.discoverModes n 1 true raw) s fun t =>
      t.rd (pd n) PD_ATTACH_RATE32 = raw.getLast?.getD 0 / 2 ^ 27 % 2 ∧
      t.out = s.out ++ [.pd n 0 .discoverIdentity] ∧ t.rd (pd n) PD_ST = 24) ∧
    (s.rd (pd n) PD_ST ≠ 26 → s.rd (pd n) PD_STATUS_DR = 0 →
      (raw.getLast?.getD 0 = 0 ∨ 3 ≤ raw.getLast?.getD 0 → ∀ a, Gives (.enterMode n a raw) s fun t =>
        t.out = s.out ++ [.pd n 0 (.enterModeAns false)]) ∧
      (∀ v a, raw.getLast?.getD 0 = v → v = 1 ∨ v = 2 → (s.rd (pd n) PD_MODES).testBit (v - 1) = true →
        Gives (.enterMode n a raw) s fun t => ∃ l, t.out = s.out ++ .pd n 0 (.enterModeAns true) :: l)) ∧
    (s.rd (pd n) PD_STATUS_DR = 0 → raw.getD 1 0 / 2 ^ 28 % 8 = 0 →
      Gives (.enterUsb n raw) s fun t => ∃ l, t.out = s.out ++ .pd n 0 .accept :: l) ∧
    (s.rd (pd n) PD_MODES = 0 → raw.getD 1 0 / 2 ^ 28 % 8 = 2 →
      Gives (.enterUsb n raw) s fun t => t.out = s.out ++ [.pd n 0 .reject])) ∧
  (∀ s (n : Fin 6) sop, s.works (pd n) = true → s.pdAttached n = true →
    Gives (.authenticationMsg n sop) s fun t => t.out = s.out ++ [.pd n sop .notSupported]) ∧
  (∀ s (n : Fin 6) w, s.works (pd n) = true → s.pdAttached n = true → s.expert (pd n) = true → s.pdRx.list n = [] →
    Gives (.request n [w]) s fun t => t.pdRx.list n = [w % 65536] ∧ t.rd (pd n) PD_RX_STATUS_NONEMPTY = 1 ∧
      t.rd (pd n) (PG_INT 12) = 1)

/-- Software requests, sequences and timers of a PD port (R347, R349, R356, R362, R363, R364). An accepted write of a
request bit queues its request and changes nothing else; ERR_RECOVERY starts Error Recovery at once. A sequence of a
source first sets SinkTxNG and waits for the timer, that of a sink starts at SinkTxOk, and its message goes out. At
the expert level an answer leaves at once. A new Rp of the partner is shown, with what it says about SinkTx. A
source without a contract repeats its capabilities, as offered; a response that does not come ends an EPR entry, and
a missing answer to a Request, a missing PS_RDY and a partner that stopped answering are followed by Hard Reset. A
message without GoodCRC is sent again, counted as failed after two retries. -/
def Obligations.PdRequestsAndTimersRun : Prop :=
  (∀ s who (n : Fin 6) c f b, (c, f, b) ∈ ([(.hardReset who n, PD_CTRL_HARD_RESET, 0),
      (.softReset who n, PD_CTRL_SOFT_RESET, 1), (.swapVconn who n, PD_CTRL_SWAP_VCONN, 3),
      (.swapDr who n, PD_CTRL_SWAP_DR, 4), (.swapPr who n, PD_CTRL_SWAP_PR, 5), (.eprEnter who n, PD_CTRL_EPR_ENTER, 6),
      (.eprExit who n, PD_CTRL_EPR_EXIT, 7)] : List (Instr × Field × Nat)) → s.accepts who (pd n) f →
    Gives c s fun t => (t.rd (pd n) PD_Q).testBit b = true ∧ OnlyKeys [key (pd n) PD_Q] s t) ∧
  (∀ s who (n : Fin 6), s.accepts who (pd n) PD_CTRL_ERR_RECOVERY → s.pdAttached n = true → s.mild (pd n) 9 →
    s.is (pd n) PD_CHOSEN = false → s.linkUp n = false →
    Gives (.errRecovery who n) s fun t => t.rd (pd n) PD_STATUS_STATE = 5 ∧ t.rd (pd n) PD_ST = 30 ∧
      t.srcOn n = false ∧ t.snkOn n = false ∧ t.rd (pd n) (PG_ERR_STATUS_SRC.nth 9) = 1) ∧
  (∀ s (n : Fin 6), s.pdBasic n = true → s.pdAttached n = true → s.is (pd n) PG_STATUS_CONTAINED = false →
    s.rd (pd n) PD_Q = 16 → s.rd (pd n) PD_ST = 0 → s.is (pd n) PD_PEND = false →
    (s.pdSource n = true → Gives (.pdSequenceStart n) s fun t => t.rd (pd n) PD_STATUS_SINKTX = 2 ∧
      t.rd (pd n) PD_PEND = 5 ∧ t.out = s.out) ∧
    (s.pdSource n = false → s.rd (pd n) PD_STATUS_SINKTX = 1 → Gives (.pdSequenceStart n) s fun t =>
      t.rd (pd n) PD_Q = 0 ∧ t.rd (pd n) PD_ST = 12 ∧ t.out = s.out ++ [.pd n 0 .drSwap])) ∧
  (∀ s (n : Fin 6), s.pdBasic n = true → s.rd (pd n) PD_PEND = 5 →
    s.pdAged n (clamp 16 20 (s.rd (pd n) PD_TMR_SINKTX)) = true →
    Gives (.sinktxExpiry n) s fun t => t.rd (pd n) PD_PEND = 0 ∧ t.rd (pd n) PD_ST = 12 ∧
      t.out = s.out ++ [.pd n 0 .drSwap]) ∧
  (∀ s who (n : Fin 6), s.accepts who (pd n) PD_TX_CTRL_SEND → s.expert (pd n) = true → s.pdAttached n = true →
    s.is (pd n) PD_RESP = true →
    Gives (.pdTxSend who n) s fun t => t.rd (pd n) PD_TX_CTRL_RESULT = 1 ∧ t.rd (pd n) PD_RESP = 0 ∧
      t.out = s.out ++ [.pd n (s.rd (pd n) PD_TX_CTRL_SOP) (.raw ((List.range (min 8 (s.rd (pd n) PD_TX_CTRL_WORDS))).map
        fun i => s.rd (pd n) (PD_TX_BUF_DATA.nth i)))]) ∧
  (∀ s (n : Fin 6) (rp : Fin 4), s.works (pd n) = true → s.pdAttached n = true → s.pdSource n = false →
    s.rd (pd n) PD_PEND ≠ 9 →
    Gives (.rpChange n rp) s fun t => t.rd (pd n) PD_STATUS_PARTNER_RP = rp.val ∧
      t.rd (pd n) PD_STATUS_SINKTX = (if rp.val = 3 then 1 else if rp.val = 2 then 2 else 0) ∧
      OnlyKeys [key (pd n) PD_STATUS_PARTNER_RP, key (pd n) PD_STATUS_SINKTX] s t) ∧
  (∀ s (n : Fin 6), s.pdBasic n = true → s.rd (pd n) PD_STATUS_STATE = 2 → s.is (pd n) PD_STATUS_CONTRACT = false →
    s.rd (pd n) PD_ST ≤ 1 → s.rd (pd n) PD_CAPS_N < 50 → s.pdAged n 150 = true →
    Gives (.sourceCapabilitiesRepeat n) s fun t => t.rd (pd n) PD_CAPS_N = s.rd (pd n) PD_CAPS_N + 1 ∧
      t.rd (pd n) PD_ST = 1 ∧
      t.out = s.out ++ [.pd n 0 (.sourceCaps (s.is (pd n) PD_STATUS_EPR) (s.offers n))]) ∧
  (∀ s (n : Fin 6), s.pdBasic n = true → s.pdAged n 30 = true → s.rd (pd n) PD_ST = 18 →
    Gives (.senderResponseTimeout n) s fun t => t.rd (pd n) PD_ST = 0 ∧ t.out = s.out) ∧
  (∀ s (n : Fin 6) c, s.pdBasic n = true → s.is aon AON_DBAT = false →
    c = .senderResponseTimeout n ∧ s.pdAged n 30 = true ∧ s.rd (pd n) PD_ST = 3 ∨
    c = .psRdyTimeout n ∧ s.pdAged n 925 = true ∧ s.rd (pd n) PD_ST = 4 ∨
    c = .noResponseTimeout n ∧ s.pdAged n 5000 = true ∧ s.pdAttached n = true ∧
      s.is (pd n) PD_STATUS_CONTRACT = false ∧ s.is (pd n) PD_ATTACH_PD = true →
    Gives c s fun t => ∃ l, t.out = s.out ++ .pd n 0 .hardReset :: l) ∧
  (∀ s (n : Fin 6) sop m, Tab.find s.pdLast n.val = some (sop, m) → s.works (pd n) = true →
    s.expert (pd n) = false →
    (s.rd (pd n) PD_TXFAIL < 2 → Gives (.goodcrcMissing n) s fun t => t.out = s.out ++ [.pd n sop m] ∧
      t.rd (pd n) PD_TXFAIL = s.rd (pd n) PD_TXFAIL + 1) ∧
    (2 ≤ s.rd (pd n) PD_TXFAIL → s.rd (pd n) PD_CNT_MSG_FAIL < 2 ^ 32 - 1 → s.mild (pd n) 4 →
      Gives (.goodcrcMissing n) s fun t => t.rd (pd n) PD_CNT_MSG_FAIL = s.rd (pd n) PD_CNT_MSG_FAIL + 1 ∧
        t.rd (pd n) PD_TXFAIL = 0 ∧ t.rd (pd n) (PG_ERR_STATUS_SRC.nth 4) = 1))


/-- Trips, temperature, discharge, the interlock and the safety reset (R344, R354, R359, R367, R368, R370, R371, R372,
R375, R385). In D0 or D1, with the island powered. Overvoltage, overcurrent, reverse current and a transition open
too long each open both switches of the port, turn its VCONN off, and show the trip with what was measured; a
discharge that has not ended after 265 ms trips the port and goes on. VCONN overcurrent turns VCONN off. A
temperature at the warning is notified; one at 115 °C sets THERM and takes the hub to the thermal wait for Off, and
the release below 100 °C clears it. A discharge is over at 0.8 V. A waiting close happens, answered OK, once the
interlock lets it: the sink switch within its window, the source switch at 0.8 V or after a Fast Role Swap signal;
after 1 s it is answered STATE. A health fault starts the safety reset, with its cause and count, every switch open;
its completion loads the image's limits. -/
def Obligations.TripsAndHealthOpenThePowerStage : Prop :=
  (∀ s (n : Fin 6) (v i : Fin 65536) c k, s.ps ≤ 1 → s.safeOn = true → s.rd safe (SP_QUIET.nth n) ≤ s.clock →
    s.is safe (SP_STATE_TRIPPED.nth n) = false → s.rd safe (SP_CNT_TRIP.nth n) < 2 ^ 32 - 1 →
    c = .ovTrip n v i ∧ k = 1 ∧ s.rd safe (SP_LIM_OV_MV.nth n) < v.val ∨
    c = .ocTrip n v i ∧ k = 2 ∧ s.rd safe (SP_OCCFG_IMAX_MA.nth n) < (signed 16 i).natAbs ∨
    c = .rcTrip n v i ∧ k = 3 ∧ s.rd safe (SP_ROLE.nth n) = 1 ∧ signed 16 i < -(s.rd safe (SP_RC_RC_MA.nth n) : Int) ∨
    c = .transTimeout n v i ∧ k = 9 ∧ s.is safe (SP_STATE_TRANS.nth n) = true ∧
      s.rd safe (SP_TRANS_TIME.nth n) + 1000000000 ≤ s.clock →
    Gives c s fun t => t.srcOn n = false ∧ t.snkOn n = false ∧ t.rd safe (SP_STATE_VCONN.nth n) = 0 ∧
      t.rd safe (SP_STATE_TRIPPED.nth n) = 1 ∧ t.rd safe (SP_STATE_TRIP.nth n) = k ∧
      t.rd safe (SP_TRIP_VAL_VBUS_MV.nth n) = v.val ∧ t.rd safe (SP_TRIP_VAL_IBUS_MA.nth n) = i.val ∧
      t.rd safe (SP_CNT_TRIP.nth n) = s.rd safe (SP_CNT_TRIP.nth n) + 1 ∧ t.is safe (PG_ERR_STATUS_SRC.nth k) = true) ∧
  (∀ s (n : Fin 6) (v : Fin 65536), s.ps ≤ 1 → s.safeOn = true → s.is safe (SP_STATE_DISCH.nth n) = true →
    (800 < v.val → s.is safe (SP_DISCH_FAILED.nth n) = false →
      s.rd safe (SP_DISCH_TIME.nth n) + 265000000 ≤ s.clock → s.rd safe (SP_QUIET.nth n) ≤ s.clock →
      s.is safe (SP_STATE_TRIPPED.nth n) = false → s.rd aon AON_ENT_STEP ≠ 2 →
      Gives (.dischFail n v) s fun t => t.rd safe (SP_STATE_TRIPPED.nth n) = 1 ∧ t.rd safe (SP_STATE_TRIP.nth n) = 7 ∧
        t.is safe (SP_STATE_DISCH.nth n) = true) ∧
    (v.val ≤ 800 → s.rd (pd n) PD_ST ≠ 8 → s.rd aon AON_ENT_STEP ≠ 2 →
      Gives (.dischargeComplete n v) s fun t => t.rd safe (SP_STATE_DISCH.nth n) = 0 ∧
        t.rd safe (SP_VBUS.nth n) = v.val ∧ t.out = s.out)) ∧
  (∀ s (n : Fin 6), s.ps ≤ 1 → s.safeOn = true → s.is safe (SP_STATE_VCONN.nth n) = true → s.gated (pd n) = false →
    s.mild (pd n) 5 → Gives (.vconnOc n) s fun t => t.rd safe (SP_STATE_VCONN.nth n) = 0 ∧
      t.rd (pd n) PD_STATUS_VCONN = 0 ∧ t.is safe (PG_ERR_STATUS_SRC.nth 4) = true ∧
      t.rd (pd n) (PG_ERR_STATUS_SRC.nth 5) = 1) ∧
  (∀ s (tj : Fin 256), s.safeOn = true →
    (signed 8 (s.rd safe SF_THERM_WARN_C) ≤ signed 8 tj → Gives (.thermWarn tj) s fun t =>
      t.is safe (PG_ERR_STATUS_SRC.nth 5) = true ∧ t.rd safe SF_THERM_TJ_MAX = tj.val) ∧
    (115 ≤ signed 8 tj → s.is safe SF_STATUS_THERM = false → s.ps ≤ 1 → Gives (.thermTrip tj) s fun t =>
      t.ps = 5 ∧ t.rd aon AON_ENT_TARGET = 4 ∧ t.rd aon AON_ENT_THERM = 1 ∧ t.rd aon AON_ENT_STEP = 3) ∧
    (signed 8 tj < 100 → s.is safe SF_STATUS_THERM = true → s.rd aon AON_ENT_STEP ≠ 3 →
      Gives (.thermRelease tj) s fun t => t.rd safe SF_STATUS_THERM = 0 ∧ t.rd safe SF_THERM_TJ_MAX = tj.val ∧
        OnlyKeys [key safe SF_STATUS_THERM, key safe SF_THERM_TJ_MAX] s t)) ∧
  (∀ s (n : Fin 6) (v : Fin 65536) r, s.safeOn = true → s.coldStop = false → Tab.find s.closers n.val = some r →
    r.mbx = false → s.is safe (SP_STATE_DISCH.nth n) = false →
    (r.w1 % 2 = 1 → s.srcOn n = false → s.rd safe (SP_WIN_WIN_LO_MV.nth n) ≤ v.val →
      v.val ≤ s.rd safe (SP_WIN_WIN_HI_MV.nth n) →
      Gives (.pathClose n v) s fun t => t.snkOn n = true ∧ t.rd safe (SP_STATE_CLOSE_WAIT.nth n) = 0 ∧
        Tab.find t.closers n.val = none ∧ t.out = s.out ++ [.safeRsp r.who (r.cmd * 2 ^ 24 + r.tag)]) ∧
    (r.w1 % 2 = 0 → s.snkOn n = false → v.val ≤ 800 → s.rd (pd n) PD_ST ≠ 11 →
      Gives (.pathClose n v) s fun t => t.srcOn n = true ∧ t.rd safe (SP_STATE_CLOSE_WAIT.nth n) = 0 ∧
        t.out = s.out ++ [.safeRsp r.who (r.cmd * 2 ^ 24 + r.tag)])) ∧
  (∀ s (n : Fin 6) (v : Fin 65536), s.safeOn = true → s.coldStop = false → Tab.find s.closers n.val = none →
    s.is safe (SP_FRS_SEEN.nth n) = true → v.val < 4750 → s.snkOn n = false →
    s.is safe (SP_STATE_DISCH.nth n) = false → s.rd (pd n) PD_ST ≠ 11 →
    Gives (.pathClose n v) s fun t => t.srcOn n = true ∧ t.rd safe (SP_FRS_SEEN.nth n) = 0 ∧ t.out = s.out) ∧
  (∀ s (n : Fin 6) r, s.is safe (SP_STATE_CLOSE_WAIT.nth n) = true →
    s.rd safe (SP_CLOSE_TIME.nth n) + 1000000000 ≤ s.clock → Tab.find s.closers n.val = some r → r.mbx = false →
    Gives (.closeWaitTimeout n) s fun t => t.rd safe (SP_STATE_CLOSE_WAIT.nth n) = 0 ∧
      t.out = s.out ++ [.safeRsp r.who (r.cmd * 2 ^ 24 + 3 * 2 ^ 16 + r.tag)]) ∧
  (∀ s c k, (c, k) ∈ ([(.lockstepMismatch, 1), (.safeClockFault, 2), (.safeWatchdog, 3), (.safeSramUe, 4),
      (.safeSupplyLow, 5)] : List (Instr × Nat)) → s.safeOn = true → s.ps ≠ 3 → s.is safe PG_STATUS_IN_RESET = false →
    s.rd safe SF_CNT_RST < 2 ^ 32 - 1 →
    Gives c s fun t => t.rd safe PG_STATUS_IN_RESET = 1 ∧ t.rd safe SF_RST_CAUSE = k ∧
      t.rd safe SF_CNT_RST = s.rd safe SF_CNT_RST + 1 ∧
      (∀ n, n < 6 → t.srcOn n = false ∧ t.snkOn n = false ∧ t.rd safe (SP_STATE_VCONN.nth n) = 0) ∧
      (k = 5 → t.rd safe SF_CLK_BAD = 1)) ∧
  (∀ s, Gives .safeSupplyReturn s fun t => t.rd safe SF_CLK_BAD = 0 ∧ OnlyKeys [key safe SF_CLK_BAD] s t) ∧
  (∀ s, s.is safe PG_STATUS_IN_RESET = true → s.is safe SF_CLK_BAD = false → s.safeq = [] →
    Gives .safetyResetComplete s fun t => t.rd safe PG_STATUS_IN_RESET = 0 ∧
      t.rd safe SF_LAST_RST_CAUSE = s.rd safe SF_RST_CAUSE % 8 ∧ t.is safe (PG_ERR_STATUS_SRC.nth 11) = true ∧
      ∀ n, n < 6 → t.rd safe (SP_CFG_LIMIT_MJ.nth n) = s.imageValue n 1 ∧
        t.rd safe (SP_CFG_CBULK_UF.nth n) = s.imageValue n 0)

/-- The commands of the Ngunov island (R345, R351, R354, R369, R370, R373, R374, R375). Of requests of Marionette to the
island, not gated and not in its reset, for an attached port that is not tripped. SET_CONTRACT within the energy
limit opens the transition window, or settles the contract with its overvoltage limit; over the limit it is refused
and raised. CLOSE_PATH of the source closes at once at 0.8 V, of the sink waits. OPEN_PATH opens its switch,
DISCHARGE starts with both open, VCONN and FRS follow their requests, SET_LIMIT sets limits within the image's,
CLEAR_TRIP clears a trip whose condition has gone and is answered STATE otherwise. SAFE_RESET is answered and begins
the safety reset with cause 6. PATCH takes effect as its check says. Each answer names the command, its status and
its tag. A host's request is answered DENIED and does nothing else; during the safety reset a request waits. -/
def Obligations.TheIslandAnswersRequests : Prop :=
  let up := fun (s : State) => s.gated safe = false ∧ s.is safe PG_STATUS_IN_RESET = false
  let on := fun (s : State) (p : Fin 256) => s.gated safe = false ∧ s.is safe PG_STATUS_IN_RESET = false ∧ p.val ≤ 5 ∧
    s.rd safe (SP_ROLE.nth p) ≠ 0 ∧ s.is safe (SP_STATE_TRIPPED.nth p) = false
  let ans := fun (s t : State) (cmd status : Nat) (tag : Fin 65536) =>
    t.out = s.out ++ [.safeRsp .marionette (cmd * 2 ^ 24 + status * 2 ^ 16 + tag)]
  (∀ s p tag (lo hi ic : Fin 65536), on s p → lo ≤ hi →
    (s.energyFails p hi = false → Gives (.setContract .marionette p tag lo hi ic 0) s fun t => ans s t 1 0 tag ∧
      t.rd safe (SP_STATE_TRANS.nth p) = 1 ∧ t.rd safe (SP_NLO.nth p) = lo.val ∧ t.rd safe (SP_NHI.nth p) = hi.val) ∧
    (s.energyFails p hi = false → s.is safe (SP_STATE_TRANS.nth p) = true →
      Gives (.setContract .marionette p tag lo hi ic 1) s fun t => ans s t 1 0 tag ∧
        t.rd safe (SP_STATE_TRANS.nth p) = 0 ∧ t.rd safe (SP_EXPL.nth p) = 1 ∧ t.rd safe (SP_VHI.nth p) = hi.val ∧
        t.rd safe (SP_LIM_OV_MV.nth p) = min 65535 (hi.val * 110 / 100 + 500)) ∧
    (s.energyFails p hi = true → Gives (.setContract .marionette p tag lo hi ic 0) s fun t =>
      t.is safe (PG_ERR_STATUS_SRC.nth 10) = true ∧ t.rd safe (SP_STATE_TRANS.nth p) = s.rd safe (SP_STATE_TRANS.nth p) ∧
      ∃ l, t.out = s.out ++ l ++ [.safeRsp .marionette (2 ^ 24 + 2 ^ 16 + tag)])) ∧
  (∀ s p tag, on s p → s.is safe (SP_STATE_CLOSE_WAIT.nth p) = false →
    (s.coldStop = false → s.srcOn p = false → s.snkOn p = false → s.is safe (SP_STATE_DISCH.nth p) = false →
      s.rd safe (SP_VBUS.nth p) ≤ 800 →
      Gives (.closePath .marionette p tag false) s fun t => ans s t 2 0 tag ∧ t.srcOn p = true) ∧
    (s.snkOn p = false → Gives (.closePath .marionette p tag true) s fun t => t.out = s.out ∧
      t.rd safe (SP_STATE_CLOSE_WAIT.nth p) = 1 ∧ t.snkOn p = false ∧
      Tab.find t.closers p.val = some ⟨.marionette, 2, p, tag, 1, 0, 0, false⟩)) ∧
  (∀ s p tag b, on s p → Tab.find s.closers p.val = none →
    Gives (.openPath .marionette p tag b) s fun t => ans s t 3 0 tag ∧ (if b then t.snkOn p else t.srcOn p) = false) ∧
  (∀ s p tag, on s p → s.srcOn p = false → s.snkOn p = false →
    Gives (.discharge .marionette p tag) s fun t => ans s t 4 0 tag ∧ t.rd safe (SP_STATE_DISCH.nth p) = 1) ∧
  (∀ s p tag b, on s p → s.vconnMay p = true →
    Gives (.vconnReq .marionette p tag b) s fun t => ans s t 5 0 tag ∧
      t.rd safe (SP_STATE_VCONN.nth p) = (if b then 1 else 0) ∧ t.rd (pd p) PD_STATUS_VCONN = if b then 1 else 0) ∧
  (∀ s p tag b, on s p → Gives (.frsArm .marionette p tag b) s fun t => ans s t 6 0 tag ∧
    t.rd safe (SP_STATE_FRS.nth p) = (if b then 1 else 0) ∧
    OnlyKeys [key safe (SP_STATE_FRS.nth p)] s { t with out := s.out }) ∧
  (∀ s (p : Fin 256) tag, up s → p.val ≤ 5 → s.rd safe (SP_ROLE.nth p) ≠ 0 → s.is safe (SP_STATE_TRIPPED.nth p) = true →
    (s.tripGone p = true → Gives (.clearTrip .marionette p tag) s fun t => ans s t 7 0 tag ∧
      t.rd safe (SP_STATE_TRIPPED.nth p) = 0 ∧ (t.rd safe SF_STATUS_TRIPPED).testBit p = false) ∧
    (s.tripGone p = false → exec (.clearTrip .marionette p tag) s =
      .next (s.send (.safeRsp .marionette (7 * 2 ^ 24 + 3 * 2 ^ 16 + tag))))) ∧
  (∀ s p tag (lim : Fin 65536) (pct : Fin 256), on s p → lim ≤ s.imageValue p 1 → 100 ≤ pct.val → pct.val ≤ 125 →
    Gives (.setLimit .marionette p tag lim pct) s fun t => ans s t 8 0 tag ∧
      t.rd safe (SP_CFG_LIMIT_MJ.nth p) = lim.val ∧ t.rd safe (SP_OCCFG_OC_PCT.nth p) = pct.val) ∧
  (∀ s tag, up s → Gives (.safeReset .marionette tag) s fun t => t.rd safe PG_STATUS_IN_RESET = 1 ∧
    t.rd safe SF_RST_CAUSE = 6 ∧ (∀ n, n < 6 → t.srcOn n = false ∧ t.snkOn n = false) ∧
    ∃ l, t.out = s.out ++ .safeRsp .marionette (9 * 2 ^ 24 + tag) :: l) ∧
  (∀ s tag (a b c : Fin 4294967296), up s →
    (∀ n, n < 6 → s.is safe (SP_STATE_TRANS.nth n) = false ∧ s.is safe (SP_STATE_CLOSE_WAIT.nth n) = false) →
    Gives (.patch .marionette tag a b c) s fun t =>
      ans s t 10 (if Config.patchOk a b c s.dram then 0 else 4) tag ∧
      t.rd safe SF_STATUS_PATCH_OK = if Config.patchOk a b c s.dram then 1 else s.rd safe SF_STATUS_PATCH_OK) ∧
  (∀ s p tag, up s → exec (.discharge .host0 p tag) s =
    .next (s.send (.safeRsp .host0 (4 * 2 ^ 24 + 6 * 2 ^ 16 + tag)))) ∧
  (∀ s who p tag, s.gated safe = false → s.is safe PG_STATUS_IN_RESET = true →
    exec (.discharge who p tag) s = .next { s with safeq := s.safeq ++ [⟨who, 4, p, tag, 0, 0, 0, false⟩] })


/-- Power-on, pin, chip and MGMT resets, watchdog, supplies and clocks (R1, R17, R29, R390, R393, R394, R395, R396,
R399, R400). A power-on keeps OTP and flash, empties the retention RAM and leaves every switch open; the straps are
sampled at once, or at the rising edge of RESET_N if it is low. A pin reset is counted and recorded as cause 1,
loses the DRAM contents and holds RESET_N; a chip software reset with its key as cause 3 with its initiator, an MGMT
reset as cause 4 with MGMT held in reset; without their key neither does anything. The watchdog's expiry raises its
source and is cause 5; the kick restarts it only with its key. A lost VCONN_IN is shown and changes nothing else;
the loss of a main supply in D0 to D2 is cause 2. A lost reference clock is shown and raised, a port's link that
runs from it trains again, and PCIe links go down; its return shows. A board input shows which supplies are in
range. -/
def Obligations.WideResetsKeepWhatTheySay : Prop :=
  (∀ s (role : Fin 4) b d (r : Fin 2048) v low, role ≠ 3 →
    Gives (.powerOnReset role b d r v low) s fun t => t.otp = s.otp ∧ t.flash = s.flash ∧ t.aonRam = [] ∧ t.act = [] ∧
      t.ps = 0 ∧ t.rd aon AON_SUPPLY_STS_IN_RANGE = r.val ∧ t.rd aon AON_DRAM_LOST = 1 ∧
      (∀ n, n < 6 → t.srcOn n = false ∧ t.snkOn n = false) ∧
      t.rd glb GLB_RESET_N_LOW = (if low then 1 else 0) ∧ t.rd glb GLB_STRAP_ROLE = if low then 0 else role.val) ∧
  (∀ s, s.rd glb GLB_RST_CNT_PIN < 255 → Gives .pinReset s fun t => t.ps = 0 ∧ t.rd glb GLB_RESET_N_LOW = 1 ∧
    t.rd glb GLB_RST_CNT_PIN = s.rd glb GLB_RST_CNT_PIN + 1 ∧ t.rd glb GLB_RST_CAUSE_LAST = 1 ∧
    t.rd aon AON_DRAM_LOST = 1 ∧ t.otp = s.otp ∧ t.flash = s.flash ∧ t.aonRam = s.aonRam ∧ t.disps = [] ∧
    ∀ n, n < 6 → t.srcOn n = s.srcOn n ∧ t.snkOn n = s.snkOn n) ∧
  (∀ s (role : Fin 4) b d, s.is glb GLB_RESET_N_LOW = true →
    Gives (.resetNRelease role b d) s fun t => t.rd glb GLB_RESET_N_LOW = 0 ∧ t.rd glb GLB_STRAP_ROLE = role.val ∧
      t.rd glb GLB_STRAP_BOOT = (if b then 1 else 0) ∧ t.rd glb GLB_STRAP_STRAP_ERR = if role = 3 then 1 else 0) ∧
  (∀ s who (k : Fin 256), s.accepts who glb GLB_SRST_CHIP →
    (k ≠ 0xA5 → exec (.chipSoftwareReset who k) s = .next s) ∧
    (k = 0xA5 → s.rd glb GLB_RST_CNT_CHIP < 255 → Gives (.chipSoftwareReset who k) s fun t => t.ps = 0 ∧
      t.rd glb GLB_RST_CAUSE_LAST = 3 ∧ t.rd glb GLB_RST_CAUSE_SRC = initCode who ∧
      t.rd glb GLB_RST_CNT_CHIP = s.rd glb GLB_RST_CNT_CHIP + 1 ∧ t.dram = s.dram ∧ t.aonRam = s.aonRam)) ∧
  (∀ s who (k : Fin 256), s.accepts who glb GLB_SRST_MGMT →
    (k ≠ 0xA5 → exec (.mgmtReset who k) s = .next s) ∧
    (k = 0xA5 → s.rd glb GLB_RST_CNT_MGMT < 255 → Gives (.mgmtReset who k) s fun t =>
      t.rd glb GLB_RST_CAUSE_LAST = 4 ∧ t.rd glb GLB_RST_CAUSE_SRC = initCode who ∧ t.islandUp 2 = false ∧
      t.rd glb GLB_RST_CNT_MGMT = s.rd glb GLB_RST_CNT_MGMT + 1 ∧ t.moabeuc = false ∧ t.dram = s.dram)) ∧
  (∀ s, s.is aon AON_WDT_EN = true → s.gated mbx = false →
    s.rd aon AON_WDT_TIME + orOne (s.rd aon AON_WDT_TIMEOUT) * 1000000 ≤ s.clock →
    Gives .aonWdtExpiry s fun t => t.rd glb GLB_RST_CAUSE_LAST = 5 ∧ t.rd glb GLB_RST_CAUSE_SRC = 0 ∧
      t.islandUp 2 = false ∧ t.moabeuc = false ∧ t.is aon (PG_ERR_STATUS_SRC.nth 6) = true) ∧
  (∀ s who (k : Fin 4294967296), s.accepts who aon AON_WDT_KICK_KEY →
    (k.val ≠ 0x5A5A → exec (.watchdogKick who k) s = .next s) ∧
    (k.val = 0x5A5A → Gives (.watchdogKick who k) s fun t => t.rd aon AON_WDT_TIME = s.clock % 2 ^ 64 ∧
      OnlyKeys [key aon AON_WDT_TIME] s t)) ∧
  (∀ s, Gives (.supplyLoss 11) s fun t => t.rd aon AON_VCONN_IN = 0 ∧ OnlyKeys [key aon AON_VCONN_IN] s t) ∧
  (∀ s (k : Fin 12), k.val ≤ 7 → s.ps ≤ 2 → Gives (.supplyLoss k) s fun t =>
    t.rdBit aon AON_SUPPLY_STS_IN_RANGE k = false ∧ t.ps = 0 ∧ t.rd glb GLB_RST_CAUSE_LAST = 2 ∧
    t.rd aon AON_DRAM_LOST = 1) ∧
  (∀ s (m : Fin 128),
    ((∀ n, n < 6 → m.val.testBit n = true → s.gated (lane n) = true) → s.mild pcie 0 →
      Gives (.refclkLoss m) s fun t => t.rd glb GLB_REFCLK_LOST = m.val ∧ t.is glb (PG_ERR_STATUS_SRC.nth 2) = true ∧
        (m.val.testBit 6 = true → ∀ l, l < 4 → t.rd pcie (PE_LINK_STS_DL_ACTIVE.nth l) = 0)) ∧
    (∀ n : Fin 6, m.val = 2 ^ n.val → s.gated (lane n) = false → s.linkUp n = false →
      Gives (.refclkLoss m) s fun t => t.rd glb GLB_REFCLK_LOST = m.val ∧
        t.rd (lane n) LN_STATUS_STATE = trainsFrom (s.mode n))) ∧
  (∀ s, Gives .refclkRestore s fun t => t.rd glb GLB_REFCLK_LOST = 0 ∧ OnlyKeys [key glb GLB_REFCLK_LOST] s t) ∧
  (∀ s p (r : Fin 2048), 3 < s.rd glb GLB_ISL_PWR_PWR → Gives (.boardInputChange p r) s fun t =>
    t.rd aon AON_SUPPLY_STS_IN_RANGE = r.val ∧ (p = true → t.rd glb GLB_SUPPLY_OK = 1) ∧
    OnlyKeys [key aon AON_SUPPLY_STS_IN_RANGE, key aon AON_SUPPLY_STS_BRD, key glb GLB_SUPPLY_OK] s t)

/-- Entries, wakes and exits of the power states (R378, R379, R380, R381, R383, R384, R386, R387, R389, R397, R399).
Links all in low power lead from D0 to D1, counted, and back. An accepted entry request that nothing stands against
takes the hub, with its switch empty, to D2, to Yo-yo with its image and its pads held, or to Off once no port is
charged; one that is refused shows its cause, raised. A drain that takes too long is refused with cause 4; a held
power button forces an entry. A Yo-yo sample is counted and dated; a temperature at its limit, the button, DBAT_VIN,
a GPIO edge and the alarm begin the exit from Yo-yo or Off and show the cause, each where it is enabled; PCIe wakes
from D2. The last supply group in range completes the exit; one that is late is waited for and tried once more, and
then the hub goes back. PAD_RELEASE releases the pads. The retention RAM reads and takes words, directly or at its
address register, which advances. -/
def Obligations.PowerStatesAreEnteredAndLeft : Prop :=
  (∀ s (u : Fin 64) (m : Fin 65536), (s.ps = 0 → (s.showLtssm m).allLow u = true → s.rd aon AON_CNT_D1 < 2 ^ 32 - 1 →
      Gives (.d1Entry u m) s fun t => t.ps = 1 ∧ t.rd aon AON_CNT_D1 = s.rd aon AON_CNT_D1 + 1) ∧
    (s.ps = 1 → (s.showLtssm m).allLow u = false → Gives (.d1Exit u m) s fun t => t.ps = 0)) ∧
  (∀ s who, s.accepts who aon AON_PS_CTRL_GO → s.is bist BIST_SLICE_STS_RUNNING = false → s.switchEmpty = true →
    (s.entryRefusal 2 = 0 → Gives (.enterD2 who) s fun t => t.ps = 2 ∧ t.rd aon AON_ENT_STEP = 0 ∧
      t.rdBit glb GLB_ISL_CLK_CLK_OK 3 = false) ∧
    (s.entryRefusal 3 = 0 → Gives (.enterYoyo who) s fun t => t.ps = 3 ∧ t.rd aon AON_ENT_STEP = 0 ∧
      t.rd aon AON_PAD_HELD = 1 ∧ t.rd aon AON_IMG_OK = 1 ∧ t.rd glb GLB_ISL_PWR_PWR = 3) ∧
    (s.entryRefusal 4 = 0 → (∀ n, n < 6 → s.rd safe (SP_VBUS.nth n) ≤ 800 ∧ s.is safe (SP_STATE_DISCH.nth n) = false) →
      Gives (.enterOff who) s fun t => t.ps = 4 ∧ t.rd aon AON_ENT_STEP = 0 ∧ t.rd aon AON_PINS_FLOAT = 1 ∧
        t.rd aon AON_DRAM_LOST = 1)) ∧
  (∀ s who c k, s.accepts who aon AON_PS_CTRL_GO →
    c = .enterD2 who ∧ s.entryRefusal 2 = k ∨ c = .enterYoyo who ∧ s.entryRefusal 3 = k ∨
      c = .enterOff who ∧ s.entryRefusal 4 = k → k ≠ 0 →
    Gives c s fun t => t.rd aon AON_PS_STATUS_REFUSE = k ∧ t.ps = s.ps ∧ t.is aon (PG_ERR_STATUS_SRC.nth 1) = true) ∧
  (∀ s, s.rd aon AON_ENT_STEP = 1 → s.rd aon AON_ENT_TIME + orOne (s.rd aon AON_DRAIN_DRAIN_US) * 1000 ≤ s.clock →
    s.switchEmpty = false → s.is aon AON_ENT_FORCED = false →
    Gives .drainTimeout s fun t => t.ps = s.rd aon AON_WAS_D1 % 8 ∧ t.rd aon AON_ENT_STEP = 0 ∧
      t.rd aon AON_PS_STATUS_REFUSE = 4) ∧
  (∀ s, s.is aon AON_BTN_FORCE_S = true → s.ps ≤ 2 → s.is aon AON_ENT_THERM = false →
    s.is bist BIST_SLICE_STS_RUNNING = false → s.switchEmpty = false →
    Gives .forcedOff s fun t => t.ps = 5 ∧ t.rd aon AON_ENT_TARGET = 4 ∧ t.rd aon AON_ENT_FORCED = 1 ∧
      t.rd aon AON_ENT_STEP = 1 ∧ t.is aon (PG_ERR_STATUS_SRC.nth 5) = true) ∧
  (∀ s cc v (temp g : Fin 256), s.ps = 3 → s.rd aon AON_YY_TIME + s.yyPeriod ≤ s.clock →
    s.rd aon AON_CNT_SAMPLE < 2 ^ 32 - 1 →
    (s.rd aon AON_WAKE_EN_EN = 0 → Gives (.yoyoSample cc v temp g) s fun t => t.ps = 3 ∧
      t.rd aon AON_CNT_SAMPLE = s.rd aon AON_CNT_SAMPLE + 1 ∧ t.rd aon AON_YY_TIME = s.clock % 2 ^ 64) ∧
    (s.rd aon AON_WAKE_EN_EN = 16 → signed 8 (s.rd aon AON_YY_TEMP_HI_C) ≤ signed 8 temp →
      Gives (.yoyoSample cc v temp g) s fun t => t.ps = 6 ∧ t.rd aon AON_EXIT_FROM = 3 ∧
        t.rd aon AON_WAKE_CAUSE_VALID = 1 ∧ t.rd aon AON_WAKE_CAUSE_CAUSE = 5 ∧ t.rd aon AON_WAKE_CAUSE_FROM = 3)) ∧
  (∀ s c k i v, s.ps = 4 → (s.rd aon AON_WAKE_EN_EN).testBit (k - 1) = true →
    c = .pwrBtnWake ∧ k = 1 ∧ i = 0 ∧ v = 0 ∨
    (∃ mv : Fin 65536, c = .dbatWake mv ∧ 4000 < mv.val ∧ k = 2 ∧ i = 0 ∧ v = mv.val) ∨
    (∃ (g : Fin 8) (l : Bool), c = .gpioEdgeWake g l ∧ s.gpioMode g = 2 ∧ k = 6 ∧ i = g.val ∧ v = if l then 1 else 0) ∨
    c = .alarmExpiry ∧ s.is aon AON_ALARM_MS = true ∧
      s.rd aon AON_ALARM_TIME + s.rd aon AON_ALARM_MS * 1000000 ≤ s.clock ∧ k = 7 ∧ i = 0 ∧ v = 0 →
    Gives c s fun t => t.ps = 6 ∧ t.rd aon AON_EXIT_FROM = 4 ∧ t.rd aon AON_WAKE_CAUSE_VALID = 1 ∧
      t.rd aon AON_WAKE_CAUSE_CAUSE = k ∧ t.rd aon AON_WAKE_CAUSE_FROM = 4 ∧ t.rd aon AON_WAKE_CAUSE_INDEX = i ∧
      t.rd aon AON_WAKE_CAUSE_VALUE = v) ∧
  (∀ s c, s.ps ≤ 1 → c = .pwrBtnWake ∨ (∃ g l, c = .gpioEdgeWake g l) → exec c s = .next s) ∧
  (∀ s (l : Fin 4), s.ps ≤ 1 → Gives (.pcieWake l true) s fun t => t.rd pcie (PE_LINK_STS_CLKREQ_N.nth l) = 0 ∧
    OnlyKeys [key pcie (PE_LINK_STS_CLKREQ_N.nth l)] s t) ∧
  (∀ s (l : Fin 4), s.ps = 2 → (s.rd aon AON_WAKE_EN_EN).testBit 9 = true → s.endpointRole = false →
    s.rd aon AON_PIX = 0 → (∀ n, n < 4 → s.gated (dout n) = true) → s.rd memp MEM_STATUS_STATE ≠ 4 →
    Gives (.pcieWake l false) s fun t => t.ps = 0 ∧ t.rd aon AON_WAKE_CAUSE_CAUSE = 10 ∧
      t.rd aon AON_WAKE_CAUSE_INDEX = l.val ∧ t.rdBit glb GLB_ISL_CLK_CLK_OK 3 = true) ∧
  (∀ s, s.ps = 6 → s.is aon AON_EXIT_WAIT = false →
    (s.rd aon AON_EXIT_TIME + 1000000 ≤ s.clock → s.rd aon AON_EXIT_GROUP = 3 → s.rd aon AON_EXIT_FROM = 3 →
      Gives .groupInRange s fun t => t.ps = 0 ∧ t.rd glb GLB_RST_CAUSE_LAST = 7 ∧
        t.rd aon AON_WDT_TIME = s.clock % 2 ^ 64) ∧
    (s.rd aon AON_EXIT_TIME + 20000000 ≤ s.clock → s.is aon AON_EXIT_TRIED = false →
      Gives .exitTimeout s fun t => t.rd aon AON_EXIT_WAIT = 1 ∧ t.rd aon AON_EXIT_TIME = s.clock % 2 ^ 64 ∧
        t.is aon (PG_ERR_STATUS_SRC.nth 4) = true ∧ t.ps = 6) ∧
    (s.rd aon AON_EXIT_TIME + 20000000 ≤ s.clock → s.is aon AON_EXIT_TRIED = true → s.rd aon AON_EXIT_FROM = 3 →
      Gives .exitTimeout s fun t => t.ps = 3 ∧ t.rd aon AON_EXIT_TRIED = 0)) ∧
  (∀ s, s.ps = 6 → s.is aon AON_EXIT_WAIT = true → s.rd aon AON_EXIT_TIME + 100000000 ≤ s.clock →
    Gives .exitRetry s fun t => t.rd aon AON_EXIT_WAIT = 0 ∧ t.rd aon AON_EXIT_TRIED = 1 ∧
      OnlyKeys [key aon AON_EXIT_WAIT, key aon AON_EXIT_TRIED, key aon AON_EXIT_TIME] s t) ∧
  (∀ s who, s.accepts who aon AON_PAD_RELEASE → Gives (.padRelease who) s fun t => t.rd aon AON_PAD_HELD = 0 ∧
    OnlyKeys [key aon AON_PAD_HELD, key aon AON_FANS_LOW] s t) ∧
  (∀ s (a : Fin 16384) (v : Fin 4294967296) (be : Fin 16) ue,
    exec (.retentionRamAccess .marionette (some a) none be false) s = .next (s.send (.readData .marionette
      (leNat ((List.range 4).map fun b => Mem.read 0 s.aonRam (4 * a + b))))) ∧
    (4 * a.val < 0x3000 → Gives (.retentionRamAccess .marionette (some a) (some v) be ue) s fun t =>
      t.regs = s.regs ∧ t.out = s.out ∧ ∀ k, Mem.read 0 t.aonRam k =
        if 4 * a ≤ k ∧ k < 4 * a + 4 ∧ be.val.testBit (k - 4 * a) = true then BitVec.ofNat 8 (v / 256 ^ (k - 4 * a))
        else Mem.read 0 s.aonRam k)) ∧
  (∀ s who (be : Fin 16), s.rd aon AON_RAM_ADDR_ADDR < 2 ^ 14 - 1 →
    Gives (.retentionRamAccess who none none be false) s fun t =>
      t.rd aon AON_RAM_ADDR_ADDR = s.rd aon AON_RAM_ADDR_ADDR + 1 ∧ t.out = s.out ++ [.readData who
        (leNat ((List.range 4).map fun b => Mem.read 0 s.aonRam (4 * s.rd aon AON_RAM_ADDR_ADDR + b)))])


/-- Boot, OTP, measurement, signing, key slots and debug access (R401, R402, R403, R406, R407, R408, R411, R412, R413,
R416, R417, R418). The boot ROM, where MGMT may start, runs MGMT, measures, and without BOOT goes to recovery; in
test mode it stops there. A recovery image through SMBus runs exactly when its check passes. OTP_PROGRAM sets
exactly the bits written, where the rules allow, and otherwise none. MEAS_EXTEND extends banks 6 and 7 and refuses
the others; SIGN gives the signature over the digest, and fails without identity. LOAD moves the staged key into a
slot, DERIVE the derived key, ZEROISE a free value, ZEROISE_ALL invalidates every slot and the staged key; a slot in
use is refused. A challenge makes a fresh nonce; a pushed word joins the response; a verify uses up the nonce, is
refused without one or after three failures, and grants exactly on proof; a nonce ends after 60 s. An RNG failure is
raised; the grace of a replaced key ends an epoch later. -/
def Obligations.BootKeysAndDebugFollowTheirRules : Prop :=
  (∀ s i m te (pe : Fin 65536) (fe : Fin 4), s.rdBit glb GLB_ISL_PWR_PWR 2 = true →
    s.rdBit glb GLB_ISL_RST_IN_RESET 2 = true → s.is glb GLB_RESET_N_LOW = false → s.is aon AON_TEST = false →
    s.ps ≤ 2 → s.is glb GLB_LBIST_RUNNING = false →
    Gives (.bootRomStart i m te pe fe) s fun t => t.otp = s.otp ∧ t.flash = s.flash ∧
      (te = true → t.rd sec SEC_BOOT_RESULT = 3 ∧ t.rd aon AON_TEST = 1) ∧
      (te = false → s.coldStop = false → s.rd glb GLB_STRAP_BOOT = 0 → t.rd sec SEC_BOOT_RESULT = 1 ∧
        t.rd sec SEC_RECOVERY = 1 ∧ t.islandUp 2 = true ∧ t.rd sec SEC_ID_ID_OK = (if i then 1 else 0) ∧
        t.rd sec SEC_BOOT_FAIL_A = 8 ∧ t.rd sec SEC_BOOT_FAIL_B = 8)) ∧
  (∀ s bs, s.is sec SEC_RECOVERY = true → Gives (.recoveryImageRx .smbus bs) s fun t =>
    if s.checkImage (fun a n => (bs.drop a).take n) = 0 then t.rd mbx MB_FW_PHASE = 1 ∧ t.rd sec SEC_RECOVERY = 0
    else t = s) ∧
  (∀ s who (w : Fin 512), s.accepts who sec SEC_OTP_CMD_GO → s.rd sec SEC_OTP_WDATA_DATA < 2 ^ 32 →
    (s.otpMay w (s.rd sec SEC_OTP_WDATA_DATA) = true → Gives (.otpProgram who w 0) s fun t =>
      t.rd sec SEC_OTP_CMD_RESULT = 0 ∧ t.otpWord w = s.otpWord w ||| s.rd sec SEC_OTP_WDATA_DATA ∧
      ∀ a, a < 4 * w ∨ 4 * w + 4 ≤ a → Mem.read 0 t.otp a = Mem.read 0 s.otp a) ∧
    (∀ l, s.otpMay w (s.rd sec SEC_OTP_WDATA_DATA) = false → Gives (.otpProgram who w l) s fun t =>
      t.rd sec SEC_OTP_CMD_RESULT = 1 ∧ t.otp = s.otp)) ∧
  (∀ s who (b : Fin 8), s.accepts who sec SEC_MEAS_CMD_GO →
    (6 ≤ b.val → Gives (.measExtend who b) s fun t => t.rd sec SEC_MEAS_CMD_REFUSED = 0 ∧
      ∀ i, i < 12 → t.rd sec (MEAS_VALUE.nth (12 * b + i)) = natWord 12 (Config.sha384
        (beBytes 48 (s.bank b) ++ beBytes 48 (s.regsNat SEC_DIGEST_DIGEST 12))) i) ∧
    (b.val < 6 → Gives (.measExtend who b) s fun t => t.rd sec SEC_MEAS_CMD_REFUSED = 1 ∧
      OnlyKeys [key sec SEC_MEAS_CMD_REFUSED, key sec SEC_MEAS_CMD_BANK] s t)) ∧
  (∀ s who, s.accepts who sec SEC_SIGN_CMD_GO →
    (s.is sec SEC_ID_ID_OK = true → Gives (.sign who) s fun t => t.rd sec SEC_SIGN_CMD_FAIL = 0 ∧
      t.fresh = s.fresh + 1 ∧ ∀ i, i < 24 → t.rd sec (SEC_SIG_SIG.nth i) =
        natWord 24 (beNat (s.signBytes (s.regsNat SEC_DIGEST_DIGEST 12))) i) ∧
    (s.is sec SEC_ID_ID_OK = false → Gives (.sign who) s fun t => t.rd sec SEC_SIGN_CMD_FAIL = 1)) ∧
  (∀ s who (k : Fin 64) (salt : Fin 65536), s.accepts who sec SEC_KS_CMD_GO → s.slotBusy k = false →
    (Gives (.load who k salt) s fun t => t.rd sec (KS_SLOT_VALID.nth k) = 1 ∧ t.rd sec (KS_SLOT_SALT.nth k) = salt.val ∧
      t.rd sec (KS_SLOT_ORIGIN.nth k) = 0 ∧ t.rd sec (KS_KEY.nth k) = s.regsNat KS_STAGE_KEY 8 % 2 ^ 256 ∧
      t.rd sec SEC_KS_STATUS_RESULT = 0 ∧ ∀ i, i < 8 → t.rd sec (KS_STAGE_KEY.nth i) = 0) ∧
    (s.rngBad = false → (Gives (.derive who k salt) s fun t => t.rd sec (KS_SLOT_VALID.nth k) = 1 ∧
        t.rd sec (KS_SLOT_SALT.nth k) = salt.val ∧ t.rd sec (KS_SLOT_ORIGIN.nth k) = 1 ∧
        t.rd sec (KS_KEY.nth k) = s.derived % 2 ^ 256 ∧ t.rd sec SEC_KS_STATUS_RESULT = 0) ∧
      Gives (.zeroise who k) s fun t => t.rd sec (KS_SLOT_VALID.nth k) = 0 ∧
        t.rd sec (KS_KEY.nth k) = s.freeNat % 2 ^ 256 ∧ t.fresh = s.fresh + 2 ∧ t.rd sec SEC_KS_STATUS_RESULT = 0)) ∧
  (∀ s who (k : Fin 64) salt c, s.accepts who sec SEC_KS_CMD_GO → s.slotBusy k = true →
    c = .load who k salt ∨ c = .derive who k salt ∨ c = .zeroise who k →
    Gives c s fun t => t.rd sec SEC_KS_STATUS_RESULT = 1 ∧ t.is sec (PG_ERR_STATUS_SRC.nth 3) = true ∧
      t.rd sec (KS_KEY.nth k) = s.rd sec (KS_KEY.nth k) ∧ t.rd sec (KS_SLOT_VALID.nth k) = s.rd sec (KS_SLOT_VALID.nth k)) ∧
  (∀ s who, s.accepts who sec SEC_KS_CMD_GO → Gives (.zeroiseAll who) s fun t => t.rd sec SEC_KS_STATUS_RESULT = 0 ∧
    (∀ k, k < 64 → t.rd sec (KS_SLOT_VALID.nth k) = 0) ∧ ∀ i, i < 8 → t.rd sec (KS_STAGE_KEY.nth i) = 0) ∧
  (∀ s (e : Fin 8192), s.is (path e) PT_KEY_GRACE = true → s.epoch ≠ s.rd (path e) PT_GRACE_EPOCH →
    Gives (.keyGraceEnd e) s fun t => t.rd (path e) PT_KEY_GRACE = 0 ∧ OnlyKeys [key (path e) PT_KEY_GRACE] s t) ∧
  (∀ s who (l : Fin 4), s.accepts who sec SEC_DBG_CTRL_CHALLENGE → s.rngBad = false →
    Gives (.challenge who l) s fun t => t.rd sec SEC_NONCE_OK = 1 ∧ t.rd sec SEC_NONCE_TIME = s.clock % 2 ^ 64 ∧
      t.rd sec SEC_DBG_CTRL_RESULT = 0 ∧ t.dbgResp = [] ∧ t.fresh = s.fresh + 1 ∧
      ∀ i, i < 12 → t.rd sec (SEC_DBG_NONCE_NONCE.nth i) = natWord 12 s.freeNat i) ∧
  (∀ s who (w : Fin 4294967296), s.accepts who sec SEC_DBG_RESP_DATA →
    exec (.dbgRespPush who w) s = .next { s with dbgResp := s.dbgResp ++ [w.val] }) ∧
  (∀ s who (l : Fin 4), s.accepts who sec SEC_DBG_CTRL_VERIFY →
    (3 ≤ s.rd sec SEC_DBG_CTRL_FAILS → Gives (.verify who l) s fun t => t.rd sec SEC_DBG_CTRL_RESULT = 3 ∧
      t.rd sec SEC_NONCE_OK = 0 ∧ t.is sec (PG_ERR_STATUS_SRC.nth 5) = true) ∧
    (s.rd sec SEC_DBG_CTRL_FAILS < 3 → s.is sec SEC_NONCE_OK = false → Gives (.verify who l) s fun t =>
      t.rd sec SEC_DBG_CTRL_RESULT = 2 ∧ t.rd sec SEC_DBG_CTRL_FAILS = s.rd sec SEC_DBG_CTRL_FAILS + 1 ∧
      t.rd sec SEC_DBG_CTRL_GRANTED = s.rd sec SEC_DBG_CTRL_GRANTED) ∧
    (s.rd sec SEC_DBG_CTRL_FAILS < 3 → s.lockBit 4 = false → s.is sec SEC_NONCE_OK = true →
      s.clock ≤ s.rd sec SEC_NONCE_TIME + 60000000000 → l.val = 1 → Gives (.verify who l) s fun t =>
        t.rd sec SEC_DBG_CTRL_RESULT = (if s.dbgProof 1 then 1 else 2) ∧ t.rd sec SEC_NONCE_OK = 0 ∧
        t.rd sec SEC_DBG_CTRL_GRANTED = if s.dbgProof 1 then 1 else s.rd sec SEC_DBG_CTRL_GRANTED)) ∧
  (∀ s, s.is sec SEC_NONCE_OK = true → s.rd sec SEC_NONCE_TIME + 60000000000 ≤ s.clock →
    Gives .nonceExpiry s fun t => t.rd sec SEC_NONCE_OK = 0 ∧ OnlyKeys [key sec SEC_NONCE_OK] s t) ∧
  (∀ s, Gives .rngHealthFail s fun t => t.rngBad = true)

/-- The SPDM responder (R409, R410, R411). While Moabeuc serves. GET_VERSION opens or reopens a connection, and finds no
room for a fifth; GET_CAPABILITIES and NEGOTIATE_ALGORITHMS take it on in that order, and every later request before
them is answered Unexpected. Digests and certificate are those of the chain of slot 0; a challenge and a key
exchange are signed over the digest of the transcript, and a connection holds at most one session; measurements are
the banks asked for. FINISH, HEARTBEAT, KEY_UPDATE and END_SESSION act on the session in its order. Another request
is answered Unsupported. Each answers with exactly one message and changes no register. -/
def Obligations.SpdmRequestsAreAnswered : Prop :=
  let sends := fun (s t : State) (ep : Fin 256) (r : SpdmRsp) => t.out = s.out ++ [.spdm ep r] ∧ t.regs = s.regs
  (∀ s (ep : Fin 256), s.moabeuc = true →
    ((Tab.find s.spdm ep.val).isSome = true ∨ s.spdm.length < 4 → Gives (.getVersion ep) s fun t =>
      sends s t ep .version ∧ t.spdmOf ep = ⟨1, 0, 0⟩) ∧
    ((Tab.find s.spdm ep.val).isSome = false → 4 ≤ s.spdm.length → Gives (.getVersion ep) s fun t =>
      sends s t ep (.error 3) ∧ t.spdm = s.spdm) ∧
    (1 ≤ (s.spdmOf ep).st → Gives (.getCapabilities ep) s fun t => sends s t ep .capabilities ∧
      (t.spdmOf ep).st = max 2 (s.spdmOf ep).st) ∧
    (2 ≤ (s.spdmOf ep).st → Gives (.negotiateAlgorithms ep true) s fun t => sends s t ep .algorithms ∧
      (t.spdmOf ep).st = 3) ∧
    (Gives (.spdmUnsupported ep) s fun t => sends s t ep (.error 7) ∧ t.spdm = s.spdm)) ∧
  (∀ s (ep : Fin 256), s.moabeuc = true → 3 ≤ (s.spdmOf ep).st →
    (Gives (.getDigests ep) s fun t => sends s t ep
      (if s.chain = [] then .digests 0 0 else .digests 1 (Config.sha384 s.chain))) ∧
    (∀ off len : Fin 65536, off.val < s.chain.length → Gives (.getCertificate ep 0 off len) s fun t =>
      sends s t ep (.certificate ((s.chain.drop off).take len))) ∧
    (∀ d, s.idGood = true → Gives (.spdmChallenge ep 0 d) s fun t => sends s t ep (.challengeAuth (s.signBytes d))) ∧
    (∀ (i : Fin 256) d, Gives (.getMeasurements ep i false d) s fun t =>
      sends s t ep (.measurements (s.spdmBlocks i) none)) ∧
    (∀ (n : Fin 65536) d, s.idGood = true → (s.spdmOf ep).sess = 0 → Gives (.keyExchange ep 0 n d) s fun t =>
      sends s t ep (.keyExchange n (s.signBytes d)) ∧ t.spdmOf ep = ⟨3, 1, n⟩) ∧
    ((s.spdmOf ep).sess = 1 → Gives (.finish ep) s fun t => sends s t ep .finish ∧ (t.spdmOf ep).sess = 2) ∧
    ((s.spdmOf ep).sess = 2 → (Gives (.heartbeat ep) s fun t => sends s t ep .heartbeat ∧ t.spdm = s.spdm) ∧
      (Gives (.keyUpdate ep) s fun t => sends s t ep .keyUpdate ∧ t.spdm = s.spdm) ∧
      Gives (.endSession ep) s fun t => sends s t ep .endSession ∧ t.spdmOf ep = ⟨3, 0, 0⟩)) ∧
  (∀ s (ep : Fin 256) c, s.moabeuc = true → (s.spdmOf ep).st < 3 →
    c = .getDigests ep ∨ (∃ k a b, c = .getCertificate ep k a b) ∨ (∃ k d, c = .spdmChallenge ep k d) ∨
      (∃ i g d, c = .getMeasurements ep i g d) ∨ (∃ k n d, c = .keyExchange ep k n d) ∨ c = .finish ep ∨
      c = .heartbeat ep ∨ c = .keyUpdate ep ∨ c = .endSession ep →
    exec c s = .next (s.send (.spdm ep (.error 4))))


/-- The slice test and the logic BIST (R427, R428, R429, R430, R431, R432, R433). Of a slice under test with nothing
that waits for its end. Its copy leads to the march; a copy that has not ended after 5 µs is counted, and the slice
deferred to the next turnover. A march that passes leads to the restore, whose end ends the test and counts the
slice; one that fails records slice and group, uses the group's spare, and is counted. BIST_RUN queues a slice below
5,120 unless one is queued. The logic BIST's end shows the islands that failed both runs, holds every island but AON
and SAFE in reset for their start, and passes exactly when none failed. -/
def Obligations.SelfTestsReportWhatTheyFind : Prop :=
  let quiet := fun (s : State) => s.is bist BIST_RESET_DUE = false ∧ s.rd aon AON_ENT_STEP ≠ 4
  (∀ s, s.inPhase 1 = true →
    (Gives .sliceCopyDone s fun t => t.inPhase 2 = true ∧ OnlyKeys [key bist BIST_SLICE_STS_PHASE] s t) ∧
    (quiet s → s.rd bist BIST_START + 5000 ≤ s.clock → s.is bist BIST_IS_RUN = false →
      s.rd bist BIST_CNT_DEFER < 2 ^ 32 - 1 → Gives .sliceCopyTimeout s fun t =>
        t.rd bist BIST_CNT_DEFER = s.rd bist BIST_CNT_DEFER + 1 ∧ t.rd bist BIST_SLICE_STS_RUNNING = 0 ∧
        t.rd bist BIST_RETRY = 1 ∧ t.rd bist BIST_POS = s.rd bist BIST_SLICE_STS_SLICE % 2 ^ 13)) ∧
  (∀ s, s.inPhase 2 = true →
    (Gives (.sliceMarchDone false) s fun t => t.inPhase 3 = true ∧ OnlyKeys [key bist BIST_SLICE_STS_PHASE] s t) ∧
    (quiet s → s.mild bist 0 → s.clock ≤ s.rd bist BIST_START + 18000 → s.rd bist BIST_SLICE_STS_SLICE < 5120 →
      s.rd bist BIST_CNT_FAIL < 2 ^ 32 - 1 → Gives (.sliceMarchDone true) s fun t =>
        t.rd bist BIST_FAIL_VALID = 1 ∧ t.rd bist BIST_FAIL_SLICE = s.rd bist BIST_SLICE_STS_SLICE ∧
        t.rd bist BIST_FAIL_GROUP = sliceGroup (s.rd bist BIST_SLICE_STS_SLICE) ∧
        t.spareUsed (sliceGroup (s.rd bist BIST_SLICE_STS_SLICE)) = true ∧
        t.rd bist BIST_CNT_FAIL = s.rd bist BIST_CNT_FAIL + 1 ∧ t.rd bist BIST_SLICE_STS_RUNNING = 0 ∧
        t.rd bist (PG_ERR_STATUS_SRC.nth 0) = 1)) ∧
  (∀ s, s.inPhase 3 = true → quiet s → s.clock ≤ s.rd bist BIST_START + 18000 → s.is bist BIST_IS_RUN = false →
    s.rd bist BIST_TESTED < 2 ^ 13 - 1 →
    Gives .sliceRestoreDone s fun t => t.rd bist BIST_SLICE_STS_RUNNING = 0 ∧
      t.rd bist BIST_TESTED = s.rd bist BIST_TESTED + 1 ∧ t.out = s.out) ∧
  (∀ s who (n : Fin 8192), s.accepts who bist BIST_RUN_GO →
    (s.is bist BIST_SLICE_STS_RUN_BUSY = false → Gives (.bistRunGo who n) s fun t => t.rd bist BIST_RUN_SLICE = n.val ∧
      t.rd bist BIST_SLICE_STS_RUN_BUSY = (if n.val < 5120 then 1 else s.rd bist BIST_SLICE_STS_RUN_BUSY) ∧
      OnlyKeys [key bist BIST_RUN_SLICE, key bist BIST_SLICE_STS_RUN_BUSY] s t) ∧
    (s.is bist BIST_SLICE_STS_RUN_BUSY = true → exec (.bistRunGo who n) s = .next s)) ∧
  (∀ s (a b : Fin 131072), s.is glb GLB_LBIST_RUNNING = true → s.mild bist 3 →
    Gives (.logicBistDone a b) s fun t => t.rd glb GLB_LBIST_RUNNING = 0 ∧ t.rd bist BIST_LB_STS_RAN = 1 ∧
      t.rd bist BIST_LB_STS_FAIL = Nat.land (Nat.land a 0x1FFFC) b ∧
      t.rd bist BIST_LB_STS_PASS = (if Nat.land (Nat.land a 0x1FFFC) b = 0 then 1 else 0) ∧
      ∀ i, 2 ≤ i → i < 17 → t.rdBit glb GLB_ISL_RST_IN_RESET i = true)

/-- Doorbell, requests, aborts and the host commands of the mailboxes (R127, R141, R144, R413, R438, R441, R442, R443,
R444, R446). A GO on an idle channel stores command, length and tag and makes it BUSY; one on a busy channel is
counted and raised. A request is taken, or answered at once where no command or channel fits; ABORT withdraws it
before it is taken, and asks for an end after; DONE is acknowledged. A taken request is answered with its status,
response words and length, DONE for BUSY and the interrupt: GET_INFO with identity and firmware; POWER for the
present state at once, with the cause where an entry is refused, and before an entry to D2; DP_GRANT refused at the
expert level, BUSY while the paths are armed, else granted with the epoch; KEY_BIND stores the key delivered;
LOG_READ returns the log; CTRL_SEND sends a packet of its own domain. An engine that halts stops, and is dead after
three halts within 1 s; a restart is counted and raised. FW_READY makes Moabeuc ready. -/
def Obligations.MailboxChannelsServeRequests : Prop :=
  let held := fun (s : State) (c : Fin 16) (cmd : Nat) => s.moabeuc = true ∧ s.is (mbch c) MB_RESULT_BUSY = true ∧
    s.is (mbch c) MB_RESULT_TAKEN = true ∧ s.rd (mbch c) MB_DOORBELL_CMD = cmd ∧
    s.is (mbch c) MBC_ABORT = false ∧ s.is (mbch c) MBC_USB = false
  let said := fun (t : State) (c : Fin 16) (status : Nat) (ws : List Nat) =>
    t.rd (mbch c) MB_RESULT_STATUS = status ∧ t.rd (mbch c) MB_RESULT_LEN = ws.length ∧
    t.rd (mbch c) MB_RESULT_DONE = 1 ∧ t.rd (mbch c) MB_RESULT_BUSY = 0 ∧ t.rd (mbch c) (PG_INT 8) = 1 ∧
    ∀ i, i < ws.length → t.rd (mbch c) (MB_RSP_DATA.nth i) = ws.getD i 0 % 2 ^ 32
  (∀ s who (c : Fin 16) (cmd len tag : Fin 256), s.accepts who (mbch c) MB_DOORBELL_GO →
    (s.is (mbch c) MB_RESULT_BUSY = false → s.is (mbch c) MB_RESULT_DONE = false → c.val ≠ 15 →
      Gives (.go who c cmd len tag) s fun t => t.rd (mbch c) MB_RESULT_BUSY = 1 ∧
        t.rd (mbch c) MB_DOORBELL_CMD = cmd.val ∧ t.rd (mbch c) MB_DOORBELL_LEN = len.val ∧
        t.rd (mbch c) MB_DOORBELL_TAG = tag.val ∧ t.out = s.out) ∧
    (s.is (mbch c) MB_RESULT_BUSY = true → s.rd mbx MB_CNT_PROTO < 2 ^ 32 - 1 → Gives (.go who c cmd len tag) s fun t =>
      t.rd mbx MB_CNT_PROTO = s.rd mbx MB_CNT_PROTO + 1 ∧ t.is mbx (PG_ERR_STATUS_SRC.nth 0) = true)) ∧
  (∀ s (c : Fin 16), s.moabeuc = true → c.val ≠ 15 → s.is (mbch c) MB_RESULT_BUSY = true →
    s.is (mbch c) MB_RESULT_TAKEN = false → s.is (mbch c) MBC_USB = false → s.is (mbch c) MBC_ABORT = false →
    (mbAllowed (s.rd (mbch c) MB_DOORBELL_CMD) c = some true → Gives (.requestTaken c) s fun t =>
      t.rd (mbch c) MB_RESULT_TAKEN = 1 ∧ OnlyKeys [key (mbch c) MB_RESULT_TAKEN] s t) ∧
    (mbAllowed (s.rd (mbch c) MB_DOORBELL_CMD) c = some false → Gives (.requestTaken c) s fun t => said t c 2 []) ∧
    (mbAllowed (s.rd (mbch c) MB_DOORBELL_CMD) c = none → Gives (.requestTaken c) s fun t => said t c 1 [])) ∧
  (∀ s who (c : Fin 16), s.accepts who (mbch c) MB_DOORBELL_ABORT → s.is (mbch c) MB_RESULT_BUSY = true →
    (s.is (mbch c) MB_RESULT_TAKEN = false → s.is (mbch c) MBC_USB = false →
      Gives (.abort who c) s fun t => said t c 4 []) ∧
    (s.is (mbch c) MB_RESULT_TAKEN = true → Gives (.abort who c) s fun t => t.rd (mbch c) MBC_ABORT = 1 ∧
      OnlyKeys [key (mbch c) MBC_ABORT] s t)) ∧
  (∀ s who (c : Fin 16), s.accepts who (mbch c) MB_RESULT_DONE → Gives (.done who c) s fun t =>
    t.rd (mbch c) MB_RESULT_DONE = 0 ∧ OnlyKeys [key (mbch c) MB_RESULT_DONE] s t) ∧
  (∀ s (c : Fin 16), c.val ≤ 2 →
    (held s c 1 → Gives (.getInfo c) s fun t =>
      said t c 0 [s.chipId, s.fwWord, s.rd mbx MB_SEQ_SEQ, s.otpSvn, s.rd mbx MB_FW_COPY]) ∧
    (held s c 2 → s.rd (mbch c) MB_DOORBELL_LEN ≠ 0 → s.mbWord c 0 % 8 = 0 → s.ps ≤ 1 →
      Gives (.power c) s fun t => said t c 0 [] ∧ t.ps = s.ps) ∧
    (∀ k, held s c 2 → s.rd (mbch c) MB_DOORBELL_LEN ≠ 0 → s.mbWord c 0 % 8 = 2 → s.ps ≤ 1 → s.entryRefusal 2 = k →
      k ≠ 0 → Gives (.power c) s fun t => said t c 7 [k] ∧ t.ps = s.ps ∧ t.rd aon AON_PS_STATUS_REFUSE = k) ∧
    (held s c 2 → s.rd (mbch c) MB_DOORBELL_LEN ≠ 0 → s.mbWord c 0 % 8 = 2 → s.entryRefusal 2 = 0 →
      s.is bist BIST_SLICE_STS_RUNNING = false → s.switchEmpty = true → Gives (.power c) s fun t => t.ps = 2) ∧
    (∀ ws, held s c 5 → s.rd (mbch c) MB_DOORBELL_LEN ≠ 0 → ws.length ≤ 255 → Gives (.logRead c ws) s fun t =>
      said t c 0 ws)) ∧
  (∀ s (c : Fin 16), c.val ≤ 1 →
    (held s c 3 → s.rd (mbch c) MB_DOORBELL_LEN ≠ 0 →
      (s.is pathctl PG_CTRL_EXPERT = true → Gives (.dpGrant c) s fun t => said t c 7 []) ∧
      (s.is pathctl PG_CTRL_EXPERT = false → s.is pathctl PG_SHADOW_CTRL_ARMED = true →
        Gives (.dpGrant c) s fun t => said t c 3 []) ∧
      (s.is pathctl PG_CTRL_EXPERT = false → s.is pathctl PG_SHADOW_CTRL_ARMED = false → s.entries = [] →
        Gives (.dpGrant c) s fun t => said t c 0 [(s.epoch + 3) % 65536] ∧
          t.rd (dout (s.mbWord c 0 % 4)) DOUT_GRANT_V = 1 ∧
          t.rd (dout (s.mbWord c 0 % 4)) DOUT_GRANT = s.mbWord c 0 / 65536 % 8192)) ∧
    (held s c 4 → 3 ≤ s.rd (mbch c) MB_DOORBELL_LEN → ∀ k slot, s.mbWord c 2 / 65536 % 64 = slot →
      s.slotBusy slot = false → Gives (.keyBind c (some k)) s fun t => said t c 0 [] ∧
        t.rd sec (KS_KEY.nth slot) = k % 2 ^ 256 ∧ t.rd sec (KS_SLOT_VALID.nth slot) = 1 ∧
        t.rd sec (KS_SLOT_SALT.nth slot) = s.mbWord c 2 % 65536)) ∧
  (∀ s (c : Fin 16), c.val = 4 ∨ c.val = 5 → held s c 0x10 →
    (parseCtrl (s.mbReq c) = none → Gives (.ctrlSend c) s fun t => said t c 1 []) ∧
    (∀ k, parseCtrl (s.mbReq c) = some k → k.dom ≠ c.val - 4 → Gives (.ctrlSend c) s fun t => said t c 2 []) ∧
    (∀ k, parseCtrl (s.mbReq c) = some k → k.dom = c.val - 4 → s.hubId k.dom ≠ 0 → k.dest = s.hubId k.dom →
      Gives (.ctrlSend c) s fun t => said t c 0 [])) ∧
  (∀ s (e : Fin 24), s.rdBit mbx MB_ENG_RUN e = true → engineCode e = none ∨ s.entries = [] →
    (s.rd mbx (ENG_H2.nth e) = 0 → Gives (.engineHalt e) s fun t => t.rdBit mbx MB_ENG_RUN e = false ∧
      t.rd mbx (ENG_H1.nth e) = (s.clock + 1) % 2 ^ 65 ∧ t.rd mbx (ENG_DEAD.nth e) = s.rd mbx (ENG_DEAD.nth e)) ∧
    (s.is mbx (ENG_H2.nth e) = true → s.clock + 1 ≤ s.rd mbx (ENG_H2.nth e) + 1000000000 →
      Gives (.engineHalt e) s fun t => t.rdBit mbx MB_ENG_RUN e = false ∧ t.rd mbx (ENG_DEAD.nth e) = 1 ∧
        t.rd (enginePage e) (enginePage e).enableField = 0)) ∧
  (∀ s (e : Fin 24), s.moabeuc = true → s.rdBit mbx MB_ENG_RUN e = false → s.is mbx (ENG_DEAD.nth e) = false →
    s.rd mbx MB_CNT_RESTART < 2 ^ 32 - 1 →
    Gives (.engineRestart e) s fun t => t.rdBit mbx MB_ENG_RUN e = true ∧
      t.rd mbx MB_CNT_RESTART = s.rd mbx MB_CNT_RESTART + 1 ∧ t.is mbx (PG_ERR_STATUS_SRC.nth 2) = true) ∧
  (∀ s, s.imageRuns = true → s.is mbx MB_FW_FW_READY = false → s.is aon AON_DBAT = false →
    Gives .fwReady s fun t => t.rd mbx MB_FW_FW_READY = 1 ∧ t.rd mbx MB_FW_PHASE = 4)

/-- The firmware update commands (R401, R402, R404, R406, R445). Of a request taken on channels 0 to 2 with no other
channel's update. FW_BEGIN erases exactly the other copy and notes length and channel; FW_DATA clears bits of
exactly the bytes it names, and leaves the first four; FW_END answers what the check of the staged copy says;
FW_ACTIVATE of a checked copy programs its first four bytes, opens the trial and makes the MGMT reset due; FW_COMMIT
closes the trial; FW_ROLLBACK erases the running copy's header and makes the reset due; SVN_COMMIT without a trial
takes the OTP's SVN to the running image's and clears no bit; an update ends after 10 s without data. -/
def Obligations.FirmwareUpdatesRewriteTheOtherCopy : Prop :=
  let held := fun (s : State) (c : Fin 16) (cmd : Nat) => c.val ≤ 2 ∧ s.moabeuc = true ∧
    s.is (mbch c) MB_RESULT_BUSY = true ∧ s.is (mbch c) MB_RESULT_TAKEN = true ∧ s.rd (mbch c) MB_DOORBELL_CMD = cmd ∧
    s.is (mbch c) MBC_ABORT = false ∧ s.is (mbch c) MBC_USB = false ∧ s.rd mbx MB_FW_COPY ≤ 1
  let said := fun (t : State) (c : Fin 16) (status : Nat) => t.rd (mbch c) MB_RESULT_STATUS = status ∧
    t.rd (mbch c) MB_RESULT_DONE = 1 ∧ t.rd (mbch c) MB_RESULT_BUSY = 0
  let here := fun (s : State) (a : Nat) => Mem.read 0xFF s.flash a
  (∀ s (c : Fin 16), held s c 0x20 → s.rd mbx FW_CH = 0 → s.rd (mbch c) MB_DOORBELL_LEN ≠ 0 →
    s.copyOff s.otherCopy < s.copyOff (1 - s.otherCopy) →
    Gives (.fwBegin c true) s fun t => said t c 0 ∧ t.rd mbx FW_CH = c.val + 1 ∧
      t.rd mbx FW_LEN = s.mbWord c 0 % 2 ^ 32 ∧ ∀ a, here t a =
        if s.copyOff s.otherCopy ≤ a ∧ a < s.copyOff (1 - s.otherCopy) then 0xFF else here s a) ∧
  (∀ s (c : Fin 16) off bs, held s c 0x21 → s.rd mbx FW_CH = c.val + 1 → 2 ≤ s.rd (mbch c) MB_DOORBELL_LEN →
    off = s.mbWord c 0 → bs = ((s.mbReq c).drop 1).flatMap (fun w => leBytes 4 w) → off + bs.length ≤ s.rd mbx FW_LEN →
    Gives (.fwData c true) s fun t => said t c 0 ∧ ∀ a, here t a =
      if s.copyOff s.otherCopy + off ≤ a ∧ a < s.copyOff s.otherCopy + off + bs.length ∧ s.copyOff s.otherCopy + 4 ≤ a
      then here s a &&& bs.getD (a - (s.copyOff s.otherCopy + off)) 0 else here s a) ∧
  (∀ s (c : Fin 16), held s c 0x22 → s.rd mbx FW_CH = c.val + 1 →
    Gives (.fwEnd c) s fun t => said t c (if s.checkImage s.stagedImage = 0 then 0 else 6) ∧
      t.rd mbx FW_CHECKED = (if s.checkImage s.stagedImage = 0 then 1 else 0) ∧ t.flash = s.flash) ∧
  (∀ s (c : Fin 16), held s c 0x23 → s.rd mbx FW_CH = c.val + 1 → s.is mbx FW_CHECKED = true →
    Gives (.fwActivate c true) s fun t => said t c 0 ∧ t.rd aon AON_TRIAL_OPEN = 1 ∧ t.rd mbx FW_CH = 0 ∧
      t.rd mbx FW_RESET = (s.clock + 1000001) % 2 ^ 65 ∧ ∀ a, here t a =
        if s.copyOff s.otherCopy ≤ a ∧ a < s.copyOff s.otherCopy + 4 then
          ([0x4B, 0x48, 0x49, 0x4D] : List Byte).getD (a - s.copyOff s.otherCopy) 0 else here s a) ∧
  (∀ s (c : Fin 16), held s c 0x24 → s.rd mbx FW_CH = 0 → Gives (.fwCommit c) s fun t => said t c 0 ∧
    t.rd aon AON_TRIAL_OPEN = 0 ∧ t.rd mbx MB_FW_TRIAL = 0 ∧ t.flash = s.flash) ∧
  (∀ s (c : Fin 16), held s c 0x25 → s.rd mbx FW_CH = 0 →
    (imgNum (s.flashImage s.otherCopy) 12 2 < s.otpSvn → ∀ ok, Gives (.fwRollback c ok) s fun t => said t c 7 ∧
      t.flash = s.flash) ∧
    (s.otpSvn ≤ imgNum (s.flashImage s.otherCopy) 12 2 → Gives (.fwRollback c true) s fun t => said t c 0 ∧
      t.rd mbx FW_RESET = (s.clock + 1000001) % 2 ^ 65 ∧ ∀ a, here t a =
        if s.copyOff (s.rd mbx MB_FW_COPY) ≤ a ∧ a < s.copyOff (s.rd mbx MB_FW_COPY) + 4096 then 0xFF else here s a)) ∧
  (∀ s (c : Fin 16), held s c 0x26 → s.rd mbx FW_CH = 0 →
    (s.is aon AON_TRIAL_OPEN = true → Gives (.svnCommit c) s fun t => said t c 7 ∧ t.otp = s.otp) ∧
    (s.is aon AON_TRIAL_OPEN = false → Gives (.svnCommit c) s fun t => said t c 0 ∧ BitsKept s.otp t.otp ∧
      t.otpSvn = max s.otpSvn (min 128 (s.rd sec SEC_BOOT_IMG_SVN)))) ∧
  (∀ s, s.is mbx FW_CH = true → s.rd mbx FW_TIME + 10000000000 ≤ s.clock →
    Gives .fwUpdateTimeout s fun t => t.rd mbx FW_CH = 0 ∧ t.rd mbx FW_CHECKED = 0 ∧
      OnlyKeys [key mbx FW_CH, key mbx FW_CHECKED] s t)


/-- A write of a page's counter clear sets its counters to 0 and nothing else (R113, R163, R194, R209, R254, R256, R258,
R284, R300, R319, R339, R341). Of a write that the hub accepts, for the pages LKCNT, PATHCTL, SW, ALM, PCIE, PCA,
bridges, DISP, DOUT, UHUB, ETH, MEM, and besides them PD (R363), AON (R399), BIST (R434) and MBX (R446): the
counters that the page's rule lists read 0, and no register but those counters changes, nor any other part of the
state. -/
def Obligations.CountersAreClearedByTheirPage : Prop :=
  let clears := fun (c : Instr) (s : State) (p : Page) (fs : List Field) =>
    Gives c s fun t => (∀ f ∈ fs, t.rd p f = 0) ∧ OnlyKeys (fs.map (key p)) s t
  (∀ s who (n : Fin 6), s.accepts who (linkCnt n) LK_CNT_CLR_CLR →
    clears (.lkCntClr who n) s (linkCnt n) (PageKind.linkCnt.blockFields.filter fun f => f.acc = .ro)) ∧
  (∀ s who, s.accepts who pathctl PC_CNT_CLR_CLR → clears (.pcCntClr who) s pathctl
    [PC_CNT_NO_PATH, PC_CNT_DOWN_DISCARD, PC_CNT_TTL, PC_CNT_CTRL_TO, PC_CNT_SEAL, PC_CNT_FAILOVER]) ∧
  (∀ s who, s.accepts who sw SW_CNT_CLR_CLR → clears (.swCntClr who) s sw
    ([SW_CNT_RESET_DISCARD, SW_CNT_UE, SW_CNT_MC_SKIP, SW_CAP_LOST] ++ (List.range 20).flatMap fun k =>
      [SW_CNT_CELL.nth k, SW_CNT_PAD.nth k, SW_CNT_WAIT.nth k, SW_CNT_FRM.nth k, SW_CNT_TFRM.nth k])) ∧
  (∀ s who (e : Fin 26), s.accepts who (alm e) ALM_CNT_CLR_CLR → clears (.almCntClr who e) s (alm e)
    [ALM_CNT_TURN, ALM_CNT_PROTECT, ALM_CNT_SHORT, ALM_CNT_NOROW]) ∧
  (∀ s who, s.accepts who pcie PE_CNT_CLR_CLR → clears (.peCntClr who) s pcie
    [PE_CNT_RX_ERR, PE_CNT_ECRC, PE_CNT_POISON, PE_REQ_PEAK]) ∧
  (∀ s who (n : Fin 8), s.accepts who (pca n) PCA_CNT_CLR_CLR → clears (.pcaCntClr who n) s (pca n)
    [PCA_CNT_UR_GEN, PCA_CNT_UNEXP_CPL, PCA_CNT_POSTED_DROP, PCA_CNT_UP_DROP, PCA_CNT_TIMEOUT, PCA_CNT_SB_TX, PCA_REQ_PEAK]) ∧
  (∀ s who, s.accepts who bridge BR_CNT_CLR_CLR → clears (.brCntClr who) s bridge
    [BR_CNT_DISCARD, BR_CNT_POP_LOST, BR_CNT_PF_HIT]) ∧
  (∀ s who (n : Fin 4), s.accepts who (disp n) DISP_CTRL_CNT_CLR → clears (.dispCntClr who n) s (disp n)
    [DISP_CNT_UNDERRUN, DISP_CNT_SUBST, DISP_CNT_HOLD, DISP_CNT_RESUME, DISP_CNT_CAP_BAD, DISP_CNT_CMD, DISP_CNT_CMD_ERR]) ∧
  (∀ s who (n : Fin 4), s.accepts who (dout n) DOUT_CTRL_CNT_CLR → clears (.doutCntClr who n) s (dout n)
    [DOUT_CNT_TRAIN, DOUT_CNT_CRC_MIS, DOUT_CNT_REG_MIS, DOUT_CNT_AUX_TO, DOUT_CNT_HPD]) ∧
  (∀ s who, s.accepts who uhub UH_CNT_CLR_CLR → clears (.uhCntClr who) s uhub
    [UH_CNT_ISO_DROP, UH_CNT_AUD_UNDER, UH_CNT_AUD_OVER, UH_CNT_WAKE_MERGED, MGMT_CTL_ABORT, UH_CNT_OC]) ∧
  (∀ s who (n : Fin 2), s.accepts who (eth n) ETH_CNT_CLR_CLR → clears (.ethCntClr who n) s (eth n)
    [ETH_CNT_RX_FRM, ETH_CNT_TX_FRM, ETH_CNT_RX_DROP, ETH_CNT_RX_FCS, ETH_CNT_SPILL, ETH_CNT_PAUSE_RX, ETH_CNT_PAUSE_TX,
      ETH_CNT_PATH_DROP]) ∧
  (∀ s who, s.accepts who memp MEM_CNT_CLR_CLR → clears (.memCntClr who) s memp [MEM_CNT_CE, MEM_CNT_UE, MEM_CNT_LINK]) ∧
  (∀ s who (n : Fin 6), s.accepts who (pd n) PD_CNT_CLR_CLR → clears (.pdCntClr who n) s (pd n)
    [PD_CNT_HR_RX, PD_CNT_HR_TX, PD_CNT_SR_RX, PD_CNT_SR_TX, PD_CNT_MSG_FAIL, PD_CNT_SWAP_PR, PD_CNT_SWAP_DR, PD_CNT_SWAP_VC,
      PD_CNT_SWAP_FR, PD_CNT_DETACH_TR]) ∧
  (∀ s who, s.accepts who aon AON_CNT_CLR_CLR → clears (.aonCntClr who) s aon
    [AON_CNT_D1, AON_CNT_D2, AON_CNT_YOYO, AON_CNT_SAMPLE]) ∧
  (∀ s who, s.accepts who bist BIST_CNT_CLR_CLR → clears (.bistCntClr who) s bist
    [BIST_CNT_FAIL, BIST_CNT_DEFER, BIST_CNT_ABORT, BIST_CNT_SKIP]) ∧
  (∀ s who, s.accepts who mbx MB_CNT_CLR_CLR → clears (.mbCntClr who) s mbx [MB_CNT_RESTART, MB_CNT_PROTO])

/-- The state after reset (R15, R16, 01_architecture.md). After reset the state is in canonical form; no command waits
and no message has been sent; hub time is 0; AON and SAFE are powered, clocked and out of reset, MGMT, FABRIC, MEM
and PERI powered and not clocked, and all other islands off; the hub is in D0; and every field of every page, and
every active setting, reads the reset value of its register table (for a field without one, the value that log entry
3 names). -/
def Obligations.ResetLeavesTheStatedValues : Prop :=
  State.reset.Inv ∧ State.reset.pending = [] ∧ State.reset.out = [] ∧ State.reset.time = 0 ∧
  (State.reset.rd glb GLB_ISL_PWR_PWR = 0x3F ∧ State.reset.rd glb GLB_ISL_CLK_CLK_OK = 3 ∧
    (∀ i, i < 17 → State.reset.rdBit glb GLB_ISL_RST_IN_RESET i = decide (2 ≤ i))) ∧
  State.reset.ps = 0 ∧
  ∀ p f, State.reset.rd p f = f.rst ∧ State.reset.rdA p f = f.rst

/-- From any state in canonical form, a step leaves the canonical form (R15, R39, R334, R401, R402, R397). For every
state in canonical form (the tables of registers and of active settings sorted without repeats; DRAM, flash, OTP and
retention RAM sorted, without repeats, and with no byte listed that equals what an unlisted one reads): if a step,
of any command at the front of the queue or of the empty queue, answers a next state, that state is in canonical
form. -/
def Obligations.EveryStepKeepsTheCanonicalForm : Prop :=
  ∀ s t : State, s.Inv → step s = .next t → t.Inv

/-- No step returns an OTP bit to 0, and only named commands program one (R401, R402, R445). For every state and every
step that answers a next state: each bit of the OTP that was 1 is 1 after it. A command that is neither OTP_PROGRAM
nor SVN_COMMIT, nor one of those in which a general register write takes place (which may be one of SEC_OTP_CMD),
leaves the OTP as it is. -/
def Obligations.OtpBitsAreOnlyProgrammed : Prop :=
  (∀ s t : State, step s = .next t → BitsKept s.otp t.otp) ∧
  (∀ (c : Instr) (s t : State), exec c s = .next t → mayProgramOtp c = false → t.otp = s.otp)

/-- Only the firmware update commands and the start of Moabeuc change the boot flash (R406, R445). For every command but
FW_BEGIN, FW_DATA, FW_ACTIVATE and FW_ROLLBACK, which erase, write, activate or invalidate a copy, and FW_READY,
which invalidates a copy whose trial failed: exec answers a next state in which the boot flash is as before. -/
def Obligations.FlashChangesOnlyInFirmwareUpdates : Prop :=
  ∀ (c : Instr) (s : State), mayWriteFlash c = false → Gives c s fun t => t.flash = s.flash

/-- Every command completes, leaves the queue alone, and takes back nothing that was sent (00_scope.md, R15). For every
command and every state, exec answers a next state: no command faults and none is refused. In that state the waiting
commands are as before; the messages sent before are still there, in order, with what the command sends after them;
and neither the clock nor the count of free values has gone back. -/
def Obligations.EveryCommandAnswers : Prop :=
  ∀ (c : Instr) (s : State), Gives c s fun t => t.pending = s.pending ∧ s.out <+: t.out ∧ s.clock ≤ t.clock ∧ s.fresh ≤ t.fresh

/-- A command that is a register write has no effect where the write is gated, in reset or refused (R14, R41, R43, R44,
R46, R50). For every command that is a write of one field of a page (the table of writesField), a page and field
that exist, the hub in D0 or D1. If the page's island is gated, GLB_GATED_ADDR holds the word's address with WRITE,
GATED_ACCESS is pending, and every register of every other page, every active setting and every memory is as before.
If the page is in its block soft reset and the field lies at 0x080 or above, nothing changes. Otherwise, if a rule
refuses the write, PG_STATUS holds the cause and the initiator, WR_DROP is set, and, where WR_DROP is not enabled
and the page is not SAFE, nothing else in the state changes. -/
def Obligations.WritesWithoutRightHaveNoEffect : Prop :=
  ∀ (c : Instr) (s : State) who p f, writesField c = some (who, p, f) → c.wellFormed = true → s.awake →
    (s.gated p = true → Gives c s fun t => t.rd glb GLB_GATED_ADDR_ADDR = p.base + f.bit / 32 * 4 ∧
      t.rd glb GLB_GATED_ADDR_WRITE = 1 ∧ t.is glb (PG_ERR_STATUS_SRC.nth 0) = true ∧
      (t.act, t.dram, t.flash, t.otp, t.aonRam) = (s.act, s.dram, s.flash, s.otp, s.aonRam) ∧
      ∀ q g, q.hasHeader = true → q ≠ glb → g.bit < 0x8000 → t.rd q g = s.rd q g) ∧
    (s.gated p = false → s.is p PG_STATUS_IN_RESET = true → 0x400 ≤ f.bit → exec c s = .next s) ∧
    (s.gated p = false → (s.is p PG_STATUS_IN_RESET = false ∨ f.bit < 0x400) → s.refusal p who f ≠ 0 →
      Gives c s fun t => t.rd p PG_STATUS_DROP_WHY = s.refusal p who f ∧ t.rd p PG_STATUS_DROP_SRC = initCode who ∧
        t.is p (PG_INT intWrDrop) = true ∧
        (p ≠ safe → s.is p (PG_INT_ENABLE_EN.nth intWrDrop) = false →
          OnlyKeys [key p PG_STATUS_DROP_WHY, key p PG_STATUS_DROP_SRC, key p (PG_INT intWrDrop)] s t))

/-- A write to the SAFE page by anyone but the Ngunov island changes no setting of it (R43, R367, R377). For every word
of the SAFE page, any byte enables and value, and every initiator but the Ngunov island and JTAG, the hub in D0 or
D1: every field of the page at 0x080 and above, but for the record of denied writes, reads as before. If the island
is not gated, PG_STATUS records cause 4 and the initiator, the record holds the word's address and the initiator,
and WRITE_DENIED is pending. -/
def Obligations.SafetyRegistersTakeOnlyTheIslandsWrites : Prop :=
  ∀ s who (a : Fin 16777216) be v, s.awake → who ≠ .ngunov → who ≠ .jtag → pageAt (a / 4 * 4) = some safe →
    Gives (.registerWrite who (.word a be v)) s fun t =>
      (∀ f : Field, 0x400 ≤ f.bit → f.bit < 0x8000 → f.bit / 32 ≠ SF_WD_ADDR_ADDR.bit / 32 → f.bit / 32 ≠ SF_WD_CNT.bit / 32 →
        t.rd safe f = s.rd safe f) ∧
      (s.gated safe = false → t.rd safe PG_STATUS_DROP_WHY = 4 ∧ t.rd safe PG_STATUS_DROP_SRC = initCode who ∧
        t.rd safe SF_WD_ADDR_ADDR = a.val / 4 * 4 ∧ t.rd safe SF_WD_ADDR_SRC = initCode who ∧
        t.is safe (PG_ERR_STATUS_SRC.nth 0) = true)
end

