-- ==== Sys2Proof/Laws/Tab.lean ====
section
/-! SUPPORT. Laws of the sparse tables and of the byte memories: a read after a write, and the canonical form that every operation keeps. -/

namespace Sys2Proof

/-! ### The order of the keys -/

/-- A table is sorted exactly when its keys rise pairwise. -/
theorem Tab.sorted_iff {α : Type} (t : Tab α) : Tab.sorted t = true ↔ t.Pairwise fun x y => x.1 < y.1 := by
  induction t with
  | nil => simp [Tab.sorted]
  | cons a t ih =>
    cases t with
    | nil => simp [Tab.sorted]
    | cons b t =>
      simp only [Tab.sorted, Bool.and_eq_true, decide_eq_true_eq, ih]
      constructor
      · rintro ⟨hab, hp⟩
        refine List.pairwise_cons.2 ⟨fun x hx => ?_, hp⟩
        rcases List.mem_cons.1 hx with rfl | hx
        · exact hab
        · exact Nat.lt_trans hab ((List.pairwise_cons.1 hp).1 x hx)
      · intro h
        obtain ⟨h1, h2⟩ := List.pairwise_cons.1 h
        exact ⟨h1 b (by simp), h2⟩

/-- Entries removed leave a table sorted. -/
theorem Tab.sorted_filter {α : Type} {t : Tab α} (q : Nat × α → Bool) (h : Tab.sorted t = true) :
    Tab.sorted (t.filter q : Tab α) = true := by
  rw [Tab.sorted_iff] at *
  exact h.filter q

theorem Tab.sorted_del {α : Type} {t : Tab α} (k : Nat) (h : Tab.sorted t = true) : Tab.sorted (t.del k) = true :=
  Tab.sorted_filter _ h

theorem Tab.sorted_keep {α : Type} {t : Tab α} (q : Nat → Bool) (h : Tab.sorted t = true) :
    Tab.sorted (t.keep q) = true :=
  Tab.sorted_filter _ h

/-- An entry of a table after a put is the new one or an old one. -/
theorem Tab.mem_put {α : Type} {t : Tab α} {k : Nat} {v : α} {e : Nat × α} (h : e ∈ t.put k v) : e = (k, v) ∨ e ∈ t := by
  induction t with
  | nil => simpa [Tab.put] using h
  | cons a t ih =>
    unfold Tab.put at h
    split at h
    · simpa using h
    · split at h
      · rcases List.mem_cons.1 h with h | h
        · exact .inl h
        · exact .inr (List.mem_cons_of_mem _ h)
      · rcases List.mem_cons.1 h with h | h
        · exact .inr (by simp [h])
        · rcases ih h with h | h
          · exact .inl h
          · exact .inr (List.mem_cons_of_mem _ h)

theorem Tab.sorted_put {α : Type} {t : Tab α} (k : Nat) (v : α) (h : Tab.sorted t = true) :
    Tab.sorted (t.put k v) = true := by
  rw [Tab.sorted_iff] at *
  induction t with
  | nil => simp [Tab.put]
  | cons a t ih =>
    obtain ⟨h1, h2⟩ := List.pairwise_cons.1 h
    unfold Tab.put
    split
    · next hk =>
      refine List.pairwise_cons.2 ⟨fun x hx => ?_, h⟩
      rcases List.mem_cons.1 hx with rfl | hx
      · exact hk
      · exact Nat.lt_trans hk (h1 x hx)
    · split
      · next hk => exact List.pairwise_cons.2 ⟨fun x hx => by simpa [hk] using h1 x hx, h2⟩
      · next h3 h4 =>
        refine List.pairwise_cons.2 ⟨fun x hx => ?_, ih h2⟩
        rcases Tab.mem_put hx with rfl | hx
        · simp only; omega
        · exact h1 x hx

/-! ### Reads after writes -/

/-- A key below all keys of a table is not listed. -/
theorem Tab.find_none_of_lt {α : Type} {t : Tab α} {k : Nat} (h : ∀ e ∈ t, k < e.1) : t.find k = none := by
  induction t with
  | nil => rfl
  | cons a t ih =>
    have := h a (by simp)
    unfold Tab.find
    rw [if_neg (by omega)]
    exact ih fun e he => h e (by simp [he])

@[simp] theorem Tab.find_nil {α : Type} (k : Nat) : Tab.find ([] : Tab α) k = none := rfl

/-- What is put at a key is found there. -/
@[simp] theorem Tab.find_put_self {α : Type} (t : Tab α) (k : Nat) (v : α) : (t.put k v).find k = some v := by
  induction t with
  | nil => simp [Tab.put, Tab.find]
  | cons a t ih =>
    unfold Tab.put
    split
    · simp [Tab.find]
    · split
      · simp [Tab.find]
      · next h => simp only [Tab.find]; rw [if_neg (by omega)]; exact ih

/-- A put leaves every other key alone. -/
theorem Tab.find_put_ne {α : Type} (t : Tab α) {j k : Nat} (v : α) (h : j ≠ k) : (t.put k v).find j = t.find j := by
  induction t with
  | nil => simp [Tab.put, Tab.find, Ne.symm h]
  | cons a t ih =>
    unfold Tab.put
    split
    · simp [Tab.find, Ne.symm h]
    · split
      · next hk => simp only [Tab.find]; rw [if_neg (Ne.symm h), if_neg (by omega)]
      · simp only [Tab.find, ih]

/-- A removed key is not found. -/
@[simp] theorem Tab.find_del_self {α : Type} (t : Tab α) (k : Nat) : (t.del k).find k = none := by
  induction t with
  | nil => rfl
  | cons a t ih =>
    unfold Tab.del at *
    by_cases h : a.1 = k
    · simpa [h] using ih
    · simp [h, Tab.find, ih]

/-- A removal leaves every other key alone. -/
theorem Tab.find_del_ne {α : Type} (t : Tab α) {j k : Nat} (h : j ≠ k) : (t.del k).find j = t.find j := by
  induction t with
  | nil => rfl
  | cons a t ih =>
    unfold Tab.del at *
    by_cases ha : a.1 = k
    · simp only [List.filter, ha, bne_self_eq_false, ih, Tab.find]
      rw [if_neg (Ne.symm h)]
    · simp [ha, Tab.find, ih]

theorem Tab.find_put {α : Type} (t : Tab α) (j k : Nat) (v : α) :
    (t.put k v).find j = if j = k then some v else t.find j := by
  split
  · next h => rw [h, Tab.find_put_self]
  · next h => rw [Tab.find_put_ne _ _ h]

theorem Tab.find_del {α : Type} (t : Tab α) (j k : Nat) : (t.del k).find j = if j = k then none else t.find j := by
  split
  · next h => rw [h, Tab.find_del_self]
  · next h => rw [Tab.find_del_ne _ h]

/-- The list at a key after it was set. -/
@[simp] theorem Tab.list_setList_self {α : Type} (t : Tab (List α)) (k : Nat) (l : List α) :
    (t.setList k l).list k = l := by
  unfold Tab.setList Tab.list
  split
  · simp
  · simp

theorem Tab.list_setList_ne {α : Type} (t : Tab (List α)) {j k : Nat} (l : List α) (h : j ≠ k) :
    (t.setList k l).list j = t.list j := by
  unfold Tab.setList Tab.list
  split
  · rw [Tab.find_del_ne _ h]
  · rw [Tab.find_put_ne _ _ h]

/-! ### Byte memories -/

theorem Mem.wf_iff (d : Byte) (m : Mem) : Mem.wf d m = true ↔ Tab.sorted m = true ∧ ∀ e ∈ m, e.2 ≠ d := by
  simp [Mem.wf]

theorem Mem.wf_nil (d : Byte) : Mem.wf d [] = true := rfl

theorem Mem.wf_filter {d : Byte} {m : Mem} (q : Host.Cell → Bool) (h : Mem.wf d m = true) :
    Mem.wf d (m.filter q) = true := by
  rw [Mem.wf_iff] at *
  exact ⟨Tab.sorted_filter q h.1, fun e he => h.2 e ((List.mem_filter.1 he).1)⟩

theorem Mem.wf_clear {d : Byte} {m : Mem} (a n : Nat) (h : Mem.wf d m = true) : Mem.wf d (m.clear a n) = true :=
  Mem.wf_filter _ h

/-- A write keeps the canonical form. -/
theorem Mem.wf_write {d : Byte} {m : Mem} (a : Nat) (v : Byte) (h : Mem.wf d m = true) :
    Mem.wf d (Mem.write d m a v) = true := by
  unfold Mem.write
  split
  · exact Mem.wf_filter _ h
  · next hv =>
    rw [Mem.wf_iff] at *
    refine ⟨Tab.sorted_put a v h.1, fun e he => ?_⟩
    rcases Tab.mem_put he with rfl | he
    · exact hv
    · exact h.2 e he

theorem Mem.wf_writeList {d : Byte} {m : Mem} (a : Nat) (l : List Byte) (h : Mem.wf d m = true) :
    Mem.wf d (Mem.writeList d m a l) = true := by
  induction l generalizing m a with
  | nil => exact h
  | cons b l ih => exact ih (a + 1) (Mem.wf_write a b h)

/-- A byte after a write: the byte written at its address, what was there elsewhere. -/
theorem Mem.read_write (d : Byte) (m : Mem) (a b : Nat) (v : Byte) :
    Mem.read d (Mem.write d m a v) b = if b = a then v else Mem.read d m b := by
  unfold Mem.read Mem.write
  split
  · next h => rw [Tab.find_del]; split <;> simp [h]
  · rw [Tab.find_put]; split <;> simp

/-- A byte after bytes were written from `a` on. -/
theorem Mem.read_writeList (d : Byte) (m : Mem) (a b : Nat) (l : List Byte) :
    Mem.read d (Mem.writeList d m a l) b = if a ≤ b ∧ b < a + l.length then l.getD (b - a) d else Mem.read d m b := by
  induction l generalizing m a with
  | nil => simp only [Mem.writeList, List.length_nil]; rw [if_neg (by omega)]
  | cons x l ih =>
    rw [Mem.writeList, ih, Mem.read_write]
    simp only [List.length_cons]
    by_cases h1 : b = a
    · subst h1; rw [if_neg (by omega), if_pos rfl, if_pos (by omega)]; simp
    · by_cases h2 : a + 1 ≤ b ∧ b < a + 1 + l.length
      · rw [if_pos h2, if_pos (by omega)]
        obtain ⟨k, hk⟩ : ∃ k, b = a + 1 + k := ⟨b - (a + 1), by omega⟩
        subst hk
        have e1 : a + 1 + k - (a + 1) = k := by omega
        have e2 : a + 1 + k - a = k + 1 := by omega
        rw [e1, e2, List.getD_cons_succ]
      · rw [if_neg h2, if_neg h1, if_neg (by omega)]

/-- A byte after bytes were cleared. -/
theorem Mem.read_clear (d : Byte) (m : Mem) (a n b : Nat) :
    Mem.read d (m.clear a n) b = if a ≤ b ∧ b < a + n then d else Mem.read d m b := by
  unfold Mem.read Mem.clear
  induction m with
  | nil => simp
  | cons x m ih =>
    by_cases hx : a ≤ x.1 ∧ x.1 < a + n
    · have : (!(decide (a ≤ x.1) && decide (x.1 < a + n))) = false := by simp [hx]
      rw [List.filter_cons_of_neg (by simp [hx]), ih]
      split
      · rfl
      · next h => simp only [Tab.find]; rw [if_neg (by rintro rfl; exact h hx)]
    · rw [List.filter_cons_of_pos (by simp; omega)]
      simp only [Tab.find]
      by_cases hb : x.1 = b
      · subst hb; simp [hx]
      · rw [if_neg hb, if_neg hb, ih]

end Sys2Proof
end

