-- ==== Sys2Proof/Laws/State.lean ====
section
/-! SUPPORT. What each basic update of the state leaves alone, field by field, and the reads of fields after writes. -/

namespace Sys2Proof.Machine

/-! ### When a field is set -/

@[simp] theorem State.wr_pending (s : State) (p : Page) (f : Field) (v : Nat) : (s.wr p f v).pending = s.pending := rfl
@[simp] theorem State.wr_act (s : State) (p : Page) (f : Field) (v : Nat) : (s.wr p f v).act = s.act := rfl
@[simp] theorem State.wr_time (s : State) (p : Page) (f : Field) (v : Nat) : (s.wr p f v).time = s.time := rfl
@[simp] theorem State.wr_clock (s : State) (p : Page) (f : Field) (v : Nat) : (s.wr p f v).clock = s.clock := rfl
@[simp] theorem State.wr_fresh (s : State) (p : Page) (f : Field) (v : Nat) : (s.wr p f v).fresh = s.fresh := rfl
@[simp] theorem State.wr_out (s : State) (p : Page) (f : Field) (v : Nat) : (s.wr p f v).out = s.out := rfl
@[simp] theorem State.wr_uid (s : State) (p : Page) (f : Field) (v : Nat) : (s.wr p f v).uid = s.uid := rfl
@[simp] theorem State.wr_replay (s : State) (p : Page) (f : Field) (v : Nat) : (s.wr p f v).replay = s.replay := rfl
@[simp] theorem State.wr_linkq (s : State) (p : Page) (f : Field) (v : Nat) : (s.wr p f v).linkq = s.linkq := rfl
@[simp] theorem State.wr_creditDue (s : State) (p : Page) (f : Field) (v : Nat) : (s.wr p f v).creditDue = s.creditDue := rfl
@[simp] theorem State.wr_waiting (s : State) (p : Page) (f : Field) (v : Nat) : (s.wr p f v).waiting = s.waiting := rfl
@[simp] theorem State.wr_flows (s : State) (p : Page) (f : Field) (v : Nat) : (s.wr p f v).flows = s.flows := rfl
@[simp] theorem State.wr_progs (s : State) (p : Page) (f : Field) (v : Nat) : (s.wr p f v).progs = s.progs := rfl
@[simp] theorem State.wr_queues (s : State) (p : Page) (f : Field) (v : Nat) : (s.wr p f v).queues = s.queues := rfl
@[simp] theorem State.wr_rel (s : State) (p : Page) (f : Field) (v : Nat) : (s.wr p f v).rel = s.rel := rfl
@[simp] theorem State.wr_relOrder (s : State) (p : Page) (f : Field) (v : Nat) : (s.wr p f v).relOrder = s.relOrder := rfl
@[simp] theorem State.wr_dead (s : State) (p : Page) (f : Field) (v : Nat) : (s.wr p f v).dead = s.dead := rfl
@[simp] theorem State.wr_staged (s : State) (p : Page) (f : Field) (v : Nat) : (s.wr p f v).staged = s.staged := rfl
@[simp] theorem State.wr_mcSh (s : State) (p : Page) (f : Field) (v : Nat) : (s.wr p f v).mcSh = s.mcSh := rfl
@[simp] theorem State.wr_mcAct (s : State) (p : Page) (f : Field) (v : Nat) : (s.wr p f v).mcAct = s.mcAct := rfl
@[simp] theorem State.wr_capture (s : State) (p : Page) (f : Field) (v : Nat) : (s.wr p f v).capture = s.capture := rfl
@[simp] theorem State.wr_capDrain (s : State) (p : Page) (f : Field) (v : Nat) : (s.wr p f v).capDrain = s.capDrain := rfl
@[simp] theorem State.wr_ctrlIn (s : State) (p : Page) (f : Field) (v : Nat) : (s.wr p f v).ctrlIn = s.ctrlIn := rfl
@[simp] theorem State.wr_ctrlLocal (s : State) (p : Page) (f : Field) (v : Nat) : (s.wr p f v).ctrlLocal = s.ctrlLocal := rfl
@[simp] theorem State.wr_reqs (s : State) (p : Page) (f : Field) (v : Nat) : (s.wr p f v).reqs = s.reqs := rfl
@[simp] theorem State.wr_endedReads (s : State) (p : Page) (f : Field) (v : Nat) : (s.wr p f v).endedReads = s.endedReads := rfl
@[simp] theorem State.wr_remq (s : State) (p : Page) (f : Field) (v : Nat) : (s.wr p f v).remq = s.remq := rfl
@[simp] theorem State.wr_prefetch (s : State) (p : Page) (f : Field) (v : Nat) : (s.wr p f v).prefetch = s.prefetch := rfl
@[simp] theorem State.wr_smb (s : State) (p : Page) (f : Field) (v : Nat) : (s.wr p f v).smb = s.smb := rfl
@[simp] theorem State.wr_heldReqs (s : State) (p : Page) (f : Field) (v : Nat) : (s.wr p f v).heldReqs = s.heldReqs := rfl
@[simp] theorem State.wr_hopq (s : State) (p : Page) (f : Field) (v : Nat) : (s.wr p f v).hopq = s.hopq := rfl
@[simp] theorem State.wr_events (s : State) (p : Page) (f : Field) (v : Nat) : (s.wr p f v).events = s.events := rfl
@[simp] theorem State.wr_pcas (s : State) (p : Page) (f : Field) (v : Nat) : (s.wr p f v).pcas = s.pcas := rfl
@[simp] theorem State.wr_disps (s : State) (p : Page) (f : Field) (v : Nat) : (s.wr p f v).disps = s.disps := rfl
@[simp] theorem State.wr_eths (s : State) (p : Page) (f : Field) (v : Nat) : (s.wr p f v).eths = s.eths := rfl
@[simp] theorem State.wr_memq (s : State) (p : Page) (f : Field) (v : Nat) : (s.wr p f v).memq = s.memq := rfl
@[simp] theorem State.wr_safeq (s : State) (p : Page) (f : Field) (v : Nat) : (s.wr p f v).safeq = s.safeq := rfl
@[simp] theorem State.wr_closers (s : State) (p : Page) (f : Field) (v : Nat) : (s.wr p f v).closers = s.closers := rfl
@[simp] theorem State.wr_pdRx (s : State) (p : Page) (f : Field) (v : Nat) : (s.wr p f v).pdRx = s.pdRx := rfl
@[simp] theorem State.wr_pdLast (s : State) (p : Page) (f : Field) (v : Nat) : (s.wr p f v).pdLast = s.pdLast := rfl
@[simp] theorem State.wr_stickyImg (s : State) (p : Page) (f : Field) (v : Nat) : (s.wr p f v).stickyImg = s.stickyImg := rfl
@[simp] theorem State.wr_eqTable (s : State) (p : Page) (f : Field) (v : Nat) : (s.wr p f v).eqTable = s.eqTable := rfl
@[simp] theorem State.wr_usb (s : State) (p : Page) (f : Field) (v : Nat) : (s.wr p f v).usb = s.usb := rfl
@[simp] theorem State.wr_cfg (s : State) (p : Page) (f : Field) (v : Nat) : (s.wr p f v).cfg = s.cfg := rfl
@[simp] theorem State.wr_dbgResp (s : State) (p : Page) (f : Field) (v : Nat) : (s.wr p f v).dbgResp = s.dbgResp := rfl
@[simp] theorem State.wr_spdm (s : State) (p : Page) (f : Field) (v : Nat) : (s.wr p f v).spdm = s.spdm := rfl
@[simp] theorem State.wr_dram (s : State) (p : Page) (f : Field) (v : Nat) : (s.wr p f v).dram = s.dram := rfl
@[simp] theorem State.wr_flash (s : State) (p : Page) (f : Field) (v : Nat) : (s.wr p f v).flash = s.flash := rfl
@[simp] theorem State.wr_otp (s : State) (p : Page) (f : Field) (v : Nat) : (s.wr p f v).otp = s.otp := rfl
@[simp] theorem State.wr_aonRam (s : State) (p : Page) (f : Field) (v : Nat) : (s.wr p f v).aonRam = s.aonRam := rfl

/-! ### When an active value is set -/

@[simp] theorem State.wrA_pending (s : State) (p : Page) (f : Field) (v : Nat) : (s.wrA p f v).pending = s.pending := rfl
@[simp] theorem State.wrA_regs (s : State) (p : Page) (f : Field) (v : Nat) : (s.wrA p f v).regs = s.regs := rfl
@[simp] theorem State.wrA_time (s : State) (p : Page) (f : Field) (v : Nat) : (s.wrA p f v).time = s.time := rfl
@[simp] theorem State.wrA_clock (s : State) (p : Page) (f : Field) (v : Nat) : (s.wrA p f v).clock = s.clock := rfl
@[simp] theorem State.wrA_fresh (s : State) (p : Page) (f : Field) (v : Nat) : (s.wrA p f v).fresh = s.fresh := rfl
@[simp] theorem State.wrA_out (s : State) (p : Page) (f : Field) (v : Nat) : (s.wrA p f v).out = s.out := rfl
@[simp] theorem State.wrA_uid (s : State) (p : Page) (f : Field) (v : Nat) : (s.wrA p f v).uid = s.uid := rfl
@[simp] theorem State.wrA_replay (s : State) (p : Page) (f : Field) (v : Nat) : (s.wrA p f v).replay = s.replay := rfl
@[simp] theorem State.wrA_linkq (s : State) (p : Page) (f : Field) (v : Nat) : (s.wrA p f v).linkq = s.linkq := rfl
@[simp] theorem State.wrA_creditDue (s : State) (p : Page) (f : Field) (v : Nat) : (s.wrA p f v).creditDue = s.creditDue := rfl
@[simp] theorem State.wrA_waiting (s : State) (p : Page) (f : Field) (v : Nat) : (s.wrA p f v).waiting = s.waiting := rfl
@[simp] theorem State.wrA_flows (s : State) (p : Page) (f : Field) (v : Nat) : (s.wrA p f v).flows = s.flows := rfl
@[simp] theorem State.wrA_progs (s : State) (p : Page) (f : Field) (v : Nat) : (s.wrA p f v).progs = s.progs := rfl
@[simp] theorem State.wrA_queues (s : State) (p : Page) (f : Field) (v : Nat) : (s.wrA p f v).queues = s.queues := rfl
@[simp] theorem State.wrA_rel (s : State) (p : Page) (f : Field) (v : Nat) : (s.wrA p f v).rel = s.rel := rfl
@[simp] theorem State.wrA_relOrder (s : State) (p : Page) (f : Field) (v : Nat) : (s.wrA p f v).relOrder = s.relOrder := rfl
@[simp] theorem State.wrA_dead (s : State) (p : Page) (f : Field) (v : Nat) : (s.wrA p f v).dead = s.dead := rfl
@[simp] theorem State.wrA_staged (s : State) (p : Page) (f : Field) (v : Nat) : (s.wrA p f v).staged = s.staged := rfl
@[simp] theorem State.wrA_mcSh (s : State) (p : Page) (f : Field) (v : Nat) : (s.wrA p f v).mcSh = s.mcSh := rfl
@[simp] theorem State.wrA_mcAct (s : State) (p : Page) (f : Field) (v : Nat) : (s.wrA p f v).mcAct = s.mcAct := rfl
@[simp] theorem State.wrA_capture (s : State) (p : Page) (f : Field) (v : Nat) : (s.wrA p f v).capture = s.capture := rfl
@[simp] theorem State.wrA_capDrain (s : State) (p : Page) (f : Field) (v : Nat) : (s.wrA p f v).capDrain = s.capDrain := rfl
@[simp] theorem State.wrA_ctrlIn (s : State) (p : Page) (f : Field) (v : Nat) : (s.wrA p f v).ctrlIn = s.ctrlIn := rfl
@[simp] theorem State.wrA_ctrlLocal (s : State) (p : Page) (f : Field) (v : Nat) : (s.wrA p f v).ctrlLocal = s.ctrlLocal := rfl
@[simp] theorem State.wrA_reqs (s : State) (p : Page) (f : Field) (v : Nat) : (s.wrA p f v).reqs = s.reqs := rfl
@[simp] theorem State.wrA_endedReads (s : State) (p : Page) (f : Field) (v : Nat) : (s.wrA p f v).endedReads = s.endedReads := rfl
@[simp] theorem State.wrA_remq (s : State) (p : Page) (f : Field) (v : Nat) : (s.wrA p f v).remq = s.remq := rfl
@[simp] theorem State.wrA_prefetch (s : State) (p : Page) (f : Field) (v : Nat) : (s.wrA p f v).prefetch = s.prefetch := rfl
@[simp] theorem State.wrA_smb (s : State) (p : Page) (f : Field) (v : Nat) : (s.wrA p f v).smb = s.smb := rfl
@[simp] theorem State.wrA_heldReqs (s : State) (p : Page) (f : Field) (v : Nat) : (s.wrA p f v).heldReqs = s.heldReqs := rfl
@[simp] theorem State.wrA_hopq (s : State) (p : Page) (f : Field) (v : Nat) : (s.wrA p f v).hopq = s.hopq := rfl
@[simp] theorem State.wrA_events (s : State) (p : Page) (f : Field) (v : Nat) : (s.wrA p f v).events = s.events := rfl
@[simp] theorem State.wrA_pcas (s : State) (p : Page) (f : Field) (v : Nat) : (s.wrA p f v).pcas = s.pcas := rfl
@[simp] theorem State.wrA_disps (s : State) (p : Page) (f : Field) (v : Nat) : (s.wrA p f v).disps = s.disps := rfl
@[simp] theorem State.wrA_eths (s : State) (p : Page) (f : Field) (v : Nat) : (s.wrA p f v).eths = s.eths := rfl
@[simp] theorem State.wrA_memq (s : State) (p : Page) (f : Field) (v : Nat) : (s.wrA p f v).memq = s.memq := rfl
@[simp] theorem State.wrA_safeq (s : State) (p : Page) (f : Field) (v : Nat) : (s.wrA p f v).safeq = s.safeq := rfl
@[simp] theorem State.wrA_closers (s : State) (p : Page) (f : Field) (v : Nat) : (s.wrA p f v).closers = s.closers := rfl
@[simp] theorem State.wrA_pdRx (s : State) (p : Page) (f : Field) (v : Nat) : (s.wrA p f v).pdRx = s.pdRx := rfl
@[simp] theorem State.wrA_pdLast (s : State) (p : Page) (f : Field) (v : Nat) : (s.wrA p f v).pdLast = s.pdLast := rfl
@[simp] theorem State.wrA_stickyImg (s : State) (p : Page) (f : Field) (v : Nat) : (s.wrA p f v).stickyImg = s.stickyImg := rfl
@[simp] theorem State.wrA_eqTable (s : State) (p : Page) (f : Field) (v : Nat) : (s.wrA p f v).eqTable = s.eqTable := rfl
@[simp] theorem State.wrA_usb (s : State) (p : Page) (f : Field) (v : Nat) : (s.wrA p f v).usb = s.usb := rfl
@[simp] theorem State.wrA_cfg (s : State) (p : Page) (f : Field) (v : Nat) : (s.wrA p f v).cfg = s.cfg := rfl
@[simp] theorem State.wrA_dbgResp (s : State) (p : Page) (f : Field) (v : Nat) : (s.wrA p f v).dbgResp = s.dbgResp := rfl
@[simp] theorem State.wrA_spdm (s : State) (p : Page) (f : Field) (v : Nat) : (s.wrA p f v).spdm = s.spdm := rfl
@[simp] theorem State.wrA_dram (s : State) (p : Page) (f : Field) (v : Nat) : (s.wrA p f v).dram = s.dram := rfl
@[simp] theorem State.wrA_flash (s : State) (p : Page) (f : Field) (v : Nat) : (s.wrA p f v).flash = s.flash := rfl
@[simp] theorem State.wrA_otp (s : State) (p : Page) (f : Field) (v : Nat) : (s.wrA p f v).otp = s.otp := rfl
@[simp] theorem State.wrA_aonRam (s : State) (p : Page) (f : Field) (v : Nat) : (s.wrA p f v).aonRam = s.aonRam := rfl

/-! ### When a bit of a field is set -/

@[simp] theorem State.wrBit_pending (s : State) (p : Page) (f : Field) (i : Nat) (b : Bool) : (s.wrBit p f i b).pending = s.pending := rfl
@[simp] theorem State.wrBit_act (s : State) (p : Page) (f : Field) (i : Nat) (b : Bool) : (s.wrBit p f i b).act = s.act := rfl
@[simp] theorem State.wrBit_time (s : State) (p : Page) (f : Field) (i : Nat) (b : Bool) : (s.wrBit p f i b).time = s.time := rfl
@[simp] theorem State.wrBit_clock (s : State) (p : Page) (f : Field) (i : Nat) (b : Bool) : (s.wrBit p f i b).clock = s.clock := rfl
@[simp] theorem State.wrBit_fresh (s : State) (p : Page) (f : Field) (i : Nat) (b : Bool) : (s.wrBit p f i b).fresh = s.fresh := rfl
@[simp] theorem State.wrBit_out (s : State) (p : Page) (f : Field) (i : Nat) (b : Bool) : (s.wrBit p f i b).out = s.out := rfl
@[simp] theorem State.wrBit_uid (s : State) (p : Page) (f : Field) (i : Nat) (b : Bool) : (s.wrBit p f i b).uid = s.uid := rfl
@[simp] theorem State.wrBit_replay (s : State) (p : Page) (f : Field) (i : Nat) (b : Bool) : (s.wrBit p f i b).replay = s.replay := rfl
@[simp] theorem State.wrBit_linkq (s : State) (p : Page) (f : Field) (i : Nat) (b : Bool) : (s.wrBit p f i b).linkq = s.linkq := rfl
@[simp] theorem State.wrBit_creditDue (s : State) (p : Page) (f : Field) (i : Nat) (b : Bool) : (s.wrBit p f i b).creditDue = s.creditDue := rfl
@[simp] theorem State.wrBit_waiting (s : State) (p : Page) (f : Field) (i : Nat) (b : Bool) : (s.wrBit p f i b).waiting = s.waiting := rfl
@[simp] theorem State.wrBit_flows (s : State) (p : Page) (f : Field) (i : Nat) (b : Bool) : (s.wrBit p f i b).flows = s.flows := rfl
@[simp] theorem State.wrBit_progs (s : State) (p : Page) (f : Field) (i : Nat) (b : Bool) : (s.wrBit p f i b).progs = s.progs := rfl
@[simp] theorem State.wrBit_queues (s : State) (p : Page) (f : Field) (i : Nat) (b : Bool) : (s.wrBit p f i b).queues = s.queues := rfl
@[simp] theorem State.wrBit_rel (s : State) (p : Page) (f : Field) (i : Nat) (b : Bool) : (s.wrBit p f i b).rel = s.rel := rfl
@[simp] theorem State.wrBit_relOrder (s : State) (p : Page) (f : Field) (i : Nat) (b : Bool) : (s.wrBit p f i b).relOrder = s.relOrder := rfl
@[simp] theorem State.wrBit_dead (s : State) (p : Page) (f : Field) (i : Nat) (b : Bool) : (s.wrBit p f i b).dead = s.dead := rfl
@[simp] theorem State.wrBit_staged (s : State) (p : Page) (f : Field) (i : Nat) (b : Bool) : (s.wrBit p f i b).staged = s.staged := rfl
@[simp] theorem State.wrBit_mcSh (s : State) (p : Page) (f : Field) (i : Nat) (b : Bool) : (s.wrBit p f i b).mcSh = s.mcSh := rfl
@[simp] theorem State.wrBit_mcAct (s : State) (p : Page) (f : Field) (i : Nat) (b : Bool) : (s.wrBit p f i b).mcAct = s.mcAct := rfl
@[simp] theorem State.wrBit_capture (s : State) (p : Page) (f : Field) (i : Nat) (b : Bool) : (s.wrBit p f i b).capture = s.capture := rfl
@[simp] theorem State.wrBit_capDrain (s : State) (p : Page) (f : Field) (i : Nat) (b : Bool) : (s.wrBit p f i b).capDrain = s.capDrain := rfl
@[simp] theorem State.wrBit_ctrlIn (s : State) (p : Page) (f : Field) (i : Nat) (b : Bool) : (s.wrBit p f i b).ctrlIn = s.ctrlIn := rfl
@[simp] theorem State.wrBit_ctrlLocal (s : State) (p : Page) (f : Field) (i : Nat) (b : Bool) : (s.wrBit p f i b).ctrlLocal = s.ctrlLocal := rfl
@[simp] theorem State.wrBit_reqs (s : State) (p : Page) (f : Field) (i : Nat) (b : Bool) : (s.wrBit p f i b).reqs = s.reqs := rfl
@[simp] theorem State.wrBit_endedReads (s : State) (p : Page) (f : Field) (i : Nat) (b : Bool) : (s.wrBit p f i b).endedReads = s.endedReads := rfl
@[simp] theorem State.wrBit_remq (s : State) (p : Page) (f : Field) (i : Nat) (b : Bool) : (s.wrBit p f i b).remq = s.remq := rfl
@[simp] theorem State.wrBit_prefetch (s : State) (p : Page) (f : Field) (i : Nat) (b : Bool) : (s.wrBit p f i b).prefetch = s.prefetch := rfl
@[simp] theorem State.wrBit_smb (s : State) (p : Page) (f : Field) (i : Nat) (b : Bool) : (s.wrBit p f i b).smb = s.smb := rfl
@[simp] theorem State.wrBit_heldReqs (s : State) (p : Page) (f : Field) (i : Nat) (b : Bool) : (s.wrBit p f i b).heldReqs = s.heldReqs := rfl
@[simp] theorem State.wrBit_hopq (s : State) (p : Page) (f : Field) (i : Nat) (b : Bool) : (s.wrBit p f i b).hopq = s.hopq := rfl
@[simp] theorem State.wrBit_events (s : State) (p : Page) (f : Field) (i : Nat) (b : Bool) : (s.wrBit p f i b).events = s.events := rfl
@[simp] theorem State.wrBit_pcas (s : State) (p : Page) (f : Field) (i : Nat) (b : Bool) : (s.wrBit p f i b).pcas = s.pcas := rfl
@[simp] theorem State.wrBit_disps (s : State) (p : Page) (f : Field) (i : Nat) (b : Bool) : (s.wrBit p f i b).disps = s.disps := rfl
@[simp] theorem State.wrBit_eths (s : State) (p : Page) (f : Field) (i : Nat) (b : Bool) : (s.wrBit p f i b).eths = s.eths := rfl
@[simp] theorem State.wrBit_memq (s : State) (p : Page) (f : Field) (i : Nat) (b : Bool) : (s.wrBit p f i b).memq = s.memq := rfl
@[simp] theorem State.wrBit_safeq (s : State) (p : Page) (f : Field) (i : Nat) (b : Bool) : (s.wrBit p f i b).safeq = s.safeq := rfl
@[simp] theorem State.wrBit_closers (s : State) (p : Page) (f : Field) (i : Nat) (b : Bool) : (s.wrBit p f i b).closers = s.closers := rfl
@[simp] theorem State.wrBit_pdRx (s : State) (p : Page) (f : Field) (i : Nat) (b : Bool) : (s.wrBit p f i b).pdRx = s.pdRx := rfl
@[simp] theorem State.wrBit_pdLast (s : State) (p : Page) (f : Field) (i : Nat) (b : Bool) : (s.wrBit p f i b).pdLast = s.pdLast := rfl
@[simp] theorem State.wrBit_stickyImg (s : State) (p : Page) (f : Field) (i : Nat) (b : Bool) : (s.wrBit p f i b).stickyImg = s.stickyImg := rfl
@[simp] theorem State.wrBit_eqTable (s : State) (p : Page) (f : Field) (i : Nat) (b : Bool) : (s.wrBit p f i b).eqTable = s.eqTable := rfl
@[simp] theorem State.wrBit_usb (s : State) (p : Page) (f : Field) (i : Nat) (b : Bool) : (s.wrBit p f i b).usb = s.usb := rfl
@[simp] theorem State.wrBit_cfg (s : State) (p : Page) (f : Field) (i : Nat) (b : Bool) : (s.wrBit p f i b).cfg = s.cfg := rfl
@[simp] theorem State.wrBit_dbgResp (s : State) (p : Page) (f : Field) (i : Nat) (b : Bool) : (s.wrBit p f i b).dbgResp = s.dbgResp := rfl
@[simp] theorem State.wrBit_spdm (s : State) (p : Page) (f : Field) (i : Nat) (b : Bool) : (s.wrBit p f i b).spdm = s.spdm := rfl
@[simp] theorem State.wrBit_dram (s : State) (p : Page) (f : Field) (i : Nat) (b : Bool) : (s.wrBit p f i b).dram = s.dram := rfl
@[simp] theorem State.wrBit_flash (s : State) (p : Page) (f : Field) (i : Nat) (b : Bool) : (s.wrBit p f i b).flash = s.flash := rfl
@[simp] theorem State.wrBit_otp (s : State) (p : Page) (f : Field) (i : Nat) (b : Bool) : (s.wrBit p f i b).otp = s.otp := rfl
@[simp] theorem State.wrBit_aonRam (s : State) (p : Page) (f : Field) (i : Nat) (b : Bool) : (s.wrBit p f i b).aonRam = s.aonRam := rfl

/-! ### When a counter is raised -/

@[simp] theorem State.sat_pending (s : State) (p : Page) (f : Field) (n : Nat) : (s.sat p f n).pending = s.pending := rfl
@[simp] theorem State.sat_act (s : State) (p : Page) (f : Field) (n : Nat) : (s.sat p f n).act = s.act := rfl
@[simp] theorem State.sat_time (s : State) (p : Page) (f : Field) (n : Nat) : (s.sat p f n).time = s.time := rfl
@[simp] theorem State.sat_clock (s : State) (p : Page) (f : Field) (n : Nat) : (s.sat p f n).clock = s.clock := rfl
@[simp] theorem State.sat_fresh (s : State) (p : Page) (f : Field) (n : Nat) : (s.sat p f n).fresh = s.fresh := rfl
@[simp] theorem State.sat_out (s : State) (p : Page) (f : Field) (n : Nat) : (s.sat p f n).out = s.out := rfl
@[simp] theorem State.sat_uid (s : State) (p : Page) (f : Field) (n : Nat) : (s.sat p f n).uid = s.uid := rfl
@[simp] theorem State.sat_replay (s : State) (p : Page) (f : Field) (n : Nat) : (s.sat p f n).replay = s.replay := rfl
@[simp] theorem State.sat_linkq (s : State) (p : Page) (f : Field) (n : Nat) : (s.sat p f n).linkq = s.linkq := rfl
@[simp] theorem State.sat_creditDue (s : State) (p : Page) (f : Field) (n : Nat) : (s.sat p f n).creditDue = s.creditDue := rfl
@[simp] theorem State.sat_waiting (s : State) (p : Page) (f : Field) (n : Nat) : (s.sat p f n).waiting = s.waiting := rfl
@[simp] theorem State.sat_flows (s : State) (p : Page) (f : Field) (n : Nat) : (s.sat p f n).flows = s.flows := rfl
@[simp] theorem State.sat_progs (s : State) (p : Page) (f : Field) (n : Nat) : (s.sat p f n).progs = s.progs := rfl
@[simp] theorem State.sat_queues (s : State) (p : Page) (f : Field) (n : Nat) : (s.sat p f n).queues = s.queues := rfl
@[simp] theorem State.sat_rel (s : State) (p : Page) (f : Field) (n : Nat) : (s.sat p f n).rel = s.rel := rfl
@[simp] theorem State.sat_relOrder (s : State) (p : Page) (f : Field) (n : Nat) : (s.sat p f n).relOrder = s.relOrder := rfl
@[simp] theorem State.sat_dead (s : State) (p : Page) (f : Field) (n : Nat) : (s.sat p f n).dead = s.dead := rfl
@[simp] theorem State.sat_staged (s : State) (p : Page) (f : Field) (n : Nat) : (s.sat p f n).staged = s.staged := rfl
@[simp] theorem State.sat_mcSh (s : State) (p : Page) (f : Field) (n : Nat) : (s.sat p f n).mcSh = s.mcSh := rfl
@[simp] theorem State.sat_mcAct (s : State) (p : Page) (f : Field) (n : Nat) : (s.sat p f n).mcAct = s.mcAct := rfl
@[simp] theorem State.sat_capture (s : State) (p : Page) (f : Field) (n : Nat) : (s.sat p f n).capture = s.capture := rfl
@[simp] theorem State.sat_capDrain (s : State) (p : Page) (f : Field) (n : Nat) : (s.sat p f n).capDrain = s.capDrain := rfl
@[simp] theorem State.sat_ctrlIn (s : State) (p : Page) (f : Field) (n : Nat) : (s.sat p f n).ctrlIn = s.ctrlIn := rfl
@[simp] theorem State.sat_ctrlLocal (s : State) (p : Page) (f : Field) (n : Nat) : (s.sat p f n).ctrlLocal = s.ctrlLocal := rfl
@[simp] theorem State.sat_reqs (s : State) (p : Page) (f : Field) (n : Nat) : (s.sat p f n).reqs = s.reqs := rfl
@[simp] theorem State.sat_endedReads (s : State) (p : Page) (f : Field) (n : Nat) : (s.sat p f n).endedReads = s.endedReads := rfl
@[simp] theorem State.sat_remq (s : State) (p : Page) (f : Field) (n : Nat) : (s.sat p f n).remq = s.remq := rfl
@[simp] theorem State.sat_prefetch (s : State) (p : Page) (f : Field) (n : Nat) : (s.sat p f n).prefetch = s.prefetch := rfl
@[simp] theorem State.sat_smb (s : State) (p : Page) (f : Field) (n : Nat) : (s.sat p f n).smb = s.smb := rfl
@[simp] theorem State.sat_heldReqs (s : State) (p : Page) (f : Field) (n : Nat) : (s.sat p f n).heldReqs = s.heldReqs := rfl
@[simp] theorem State.sat_hopq (s : State) (p : Page) (f : Field) (n : Nat) : (s.sat p f n).hopq = s.hopq := rfl
@[simp] theorem State.sat_events (s : State) (p : Page) (f : Field) (n : Nat) : (s.sat p f n).events = s.events := rfl
@[simp] theorem State.sat_pcas (s : State) (p : Page) (f : Field) (n : Nat) : (s.sat p f n).pcas = s.pcas := rfl
@[simp] theorem State.sat_disps (s : State) (p : Page) (f : Field) (n : Nat) : (s.sat p f n).disps = s.disps := rfl
@[simp] theorem State.sat_eths (s : State) (p : Page) (f : Field) (n : Nat) : (s.sat p f n).eths = s.eths := rfl
@[simp] theorem State.sat_memq (s : State) (p : Page) (f : Field) (n : Nat) : (s.sat p f n).memq = s.memq := rfl
@[simp] theorem State.sat_safeq (s : State) (p : Page) (f : Field) (n : Nat) : (s.sat p f n).safeq = s.safeq := rfl
@[simp] theorem State.sat_closers (s : State) (p : Page) (f : Field) (n : Nat) : (s.sat p f n).closers = s.closers := rfl
@[simp] theorem State.sat_pdRx (s : State) (p : Page) (f : Field) (n : Nat) : (s.sat p f n).pdRx = s.pdRx := rfl
@[simp] theorem State.sat_pdLast (s : State) (p : Page) (f : Field) (n : Nat) : (s.sat p f n).pdLast = s.pdLast := rfl
@[simp] theorem State.sat_stickyImg (s : State) (p : Page) (f : Field) (n : Nat) : (s.sat p f n).stickyImg = s.stickyImg := rfl
@[simp] theorem State.sat_eqTable (s : State) (p : Page) (f : Field) (n : Nat) : (s.sat p f n).eqTable = s.eqTable := rfl
@[simp] theorem State.sat_usb (s : State) (p : Page) (f : Field) (n : Nat) : (s.sat p f n).usb = s.usb := rfl
@[simp] theorem State.sat_cfg (s : State) (p : Page) (f : Field) (n : Nat) : (s.sat p f n).cfg = s.cfg := rfl
@[simp] theorem State.sat_dbgResp (s : State) (p : Page) (f : Field) (n : Nat) : (s.sat p f n).dbgResp = s.dbgResp := rfl
@[simp] theorem State.sat_spdm (s : State) (p : Page) (f : Field) (n : Nat) : (s.sat p f n).spdm = s.spdm := rfl
@[simp] theorem State.sat_dram (s : State) (p : Page) (f : Field) (n : Nat) : (s.sat p f n).dram = s.dram := rfl
@[simp] theorem State.sat_flash (s : State) (p : Page) (f : Field) (n : Nat) : (s.sat p f n).flash = s.flash := rfl
@[simp] theorem State.sat_otp (s : State) (p : Page) (f : Field) (n : Nat) : (s.sat p f n).otp = s.otp := rfl
@[simp] theorem State.sat_aonRam (s : State) (p : Page) (f : Field) (n : Nat) : (s.sat p f n).aonRam = s.aonRam := rfl

/-! ### When an event is counted -/

@[simp] theorem State.count_pending (s : State) (p : Page) (f : Field) : (s.count p f).pending = s.pending := rfl
@[simp] theorem State.count_act (s : State) (p : Page) (f : Field) : (s.count p f).act = s.act := rfl
@[simp] theorem State.count_time (s : State) (p : Page) (f : Field) : (s.count p f).time = s.time := rfl
@[simp] theorem State.count_clock (s : State) (p : Page) (f : Field) : (s.count p f).clock = s.clock := rfl
@[simp] theorem State.count_fresh (s : State) (p : Page) (f : Field) : (s.count p f).fresh = s.fresh := rfl
@[simp] theorem State.count_out (s : State) (p : Page) (f : Field) : (s.count p f).out = s.out := rfl
@[simp] theorem State.count_uid (s : State) (p : Page) (f : Field) : (s.count p f).uid = s.uid := rfl
@[simp] theorem State.count_replay (s : State) (p : Page) (f : Field) : (s.count p f).replay = s.replay := rfl
@[simp] theorem State.count_linkq (s : State) (p : Page) (f : Field) : (s.count p f).linkq = s.linkq := rfl
@[simp] theorem State.count_creditDue (s : State) (p : Page) (f : Field) : (s.count p f).creditDue = s.creditDue := rfl
@[simp] theorem State.count_waiting (s : State) (p : Page) (f : Field) : (s.count p f).waiting = s.waiting := rfl
@[simp] theorem State.count_flows (s : State) (p : Page) (f : Field) : (s.count p f).flows = s.flows := rfl
@[simp] theorem State.count_progs (s : State) (p : Page) (f : Field) : (s.count p f).progs = s.progs := rfl
@[simp] theorem State.count_queues (s : State) (p : Page) (f : Field) : (s.count p f).queues = s.queues := rfl
@[simp] theorem State.count_rel (s : State) (p : Page) (f : Field) : (s.count p f).rel = s.rel := rfl
@[simp] theorem State.count_relOrder (s : State) (p : Page) (f : Field) : (s.count p f).relOrder = s.relOrder := rfl
@[simp] theorem State.count_dead (s : State) (p : Page) (f : Field) : (s.count p f).dead = s.dead := rfl
@[simp] theorem State.count_staged (s : State) (p : Page) (f : Field) : (s.count p f).staged = s.staged := rfl
@[simp] theorem State.count_mcSh (s : State) (p : Page) (f : Field) : (s.count p f).mcSh = s.mcSh := rfl
@[simp] theorem State.count_mcAct (s : State) (p : Page) (f : Field) : (s.count p f).mcAct = s.mcAct := rfl
@[simp] theorem State.count_capture (s : State) (p : Page) (f : Field) : (s.count p f).capture = s.capture := rfl
@[simp] theorem State.count_capDrain (s : State) (p : Page) (f : Field) : (s.count p f).capDrain = s.capDrain := rfl
@[simp] theorem State.count_ctrlIn (s : State) (p : Page) (f : Field) : (s.count p f).ctrlIn = s.ctrlIn := rfl
@[simp] theorem State.count_ctrlLocal (s : State) (p : Page) (f : Field) : (s.count p f).ctrlLocal = s.ctrlLocal := rfl
@[simp] theorem State.count_reqs (s : State) (p : Page) (f : Field) : (s.count p f).reqs = s.reqs := rfl
@[simp] theorem State.count_endedReads (s : State) (p : Page) (f : Field) : (s.count p f).endedReads = s.endedReads := rfl
@[simp] theorem State.count_remq (s : State) (p : Page) (f : Field) : (s.count p f).remq = s.remq := rfl
@[simp] theorem State.count_prefetch (s : State) (p : Page) (f : Field) : (s.count p f).prefetch = s.prefetch := rfl
@[simp] theorem State.count_smb (s : State) (p : Page) (f : Field) : (s.count p f).smb = s.smb := rfl
@[simp] theorem State.count_heldReqs (s : State) (p : Page) (f : Field) : (s.count p f).heldReqs = s.heldReqs := rfl
@[simp] theorem State.count_hopq (s : State) (p : Page) (f : Field) : (s.count p f).hopq = s.hopq := rfl
@[simp] theorem State.count_events (s : State) (p : Page) (f : Field) : (s.count p f).events = s.events := rfl
@[simp] theorem State.count_pcas (s : State) (p : Page) (f : Field) : (s.count p f).pcas = s.pcas := rfl
@[simp] theorem State.count_disps (s : State) (p : Page) (f : Field) : (s.count p f).disps = s.disps := rfl
@[simp] theorem State.count_eths (s : State) (p : Page) (f : Field) : (s.count p f).eths = s.eths := rfl
@[simp] theorem State.count_memq (s : State) (p : Page) (f : Field) : (s.count p f).memq = s.memq := rfl
@[simp] theorem State.count_safeq (s : State) (p : Page) (f : Field) : (s.count p f).safeq = s.safeq := rfl
@[simp] theorem State.count_closers (s : State) (p : Page) (f : Field) : (s.count p f).closers = s.closers := rfl
@[simp] theorem State.count_pdRx (s : State) (p : Page) (f : Field) : (s.count p f).pdRx = s.pdRx := rfl
@[simp] theorem State.count_pdLast (s : State) (p : Page) (f : Field) : (s.count p f).pdLast = s.pdLast := rfl
@[simp] theorem State.count_stickyImg (s : State) (p : Page) (f : Field) : (s.count p f).stickyImg = s.stickyImg := rfl
@[simp] theorem State.count_eqTable (s : State) (p : Page) (f : Field) : (s.count p f).eqTable = s.eqTable := rfl
@[simp] theorem State.count_usb (s : State) (p : Page) (f : Field) : (s.count p f).usb = s.usb := rfl
@[simp] theorem State.count_cfg (s : State) (p : Page) (f : Field) : (s.count p f).cfg = s.cfg := rfl
@[simp] theorem State.count_dbgResp (s : State) (p : Page) (f : Field) : (s.count p f).dbgResp = s.dbgResp := rfl
@[simp] theorem State.count_spdm (s : State) (p : Page) (f : Field) : (s.count p f).spdm = s.spdm := rfl
@[simp] theorem State.count_dram (s : State) (p : Page) (f : Field) : (s.count p f).dram = s.dram := rfl
@[simp] theorem State.count_flash (s : State) (p : Page) (f : Field) : (s.count p f).flash = s.flash := rfl
@[simp] theorem State.count_otp (s : State) (p : Page) (f : Field) : (s.count p f).otp = s.otp := rfl
@[simp] theorem State.count_aonRam (s : State) (p : Page) (f : Field) : (s.count p f).aonRam = s.aonRam := rfl

/-! ### When a message is sent -/

@[simp] theorem State.send_pending (s : State) (m : Out) : (s.send m).pending = s.pending := rfl
@[simp] theorem State.send_regs (s : State) (m : Out) : (s.send m).regs = s.regs := rfl
@[simp] theorem State.send_act (s : State) (m : Out) : (s.send m).act = s.act := rfl
@[simp] theorem State.send_time (s : State) (m : Out) : (s.send m).time = s.time := rfl
@[simp] theorem State.send_clock (s : State) (m : Out) : (s.send m).clock = s.clock := rfl
@[simp] theorem State.send_fresh (s : State) (m : Out) : (s.send m).fresh = s.fresh := rfl
@[simp] theorem State.send_uid (s : State) (m : Out) : (s.send m).uid = s.uid := rfl
@[simp] theorem State.send_replay (s : State) (m : Out) : (s.send m).replay = s.replay := rfl
@[simp] theorem State.send_linkq (s : State) (m : Out) : (s.send m).linkq = s.linkq := rfl
@[simp] theorem State.send_creditDue (s : State) (m : Out) : (s.send m).creditDue = s.creditDue := rfl
@[simp] theorem State.send_waiting (s : State) (m : Out) : (s.send m).waiting = s.waiting := rfl
@[simp] theorem State.send_flows (s : State) (m : Out) : (s.send m).flows = s.flows := rfl
@[simp] theorem State.send_progs (s : State) (m : Out) : (s.send m).progs = s.progs := rfl
@[simp] theorem State.send_queues (s : State) (m : Out) : (s.send m).queues = s.queues := rfl
@[simp] theorem State.send_rel (s : State) (m : Out) : (s.send m).rel = s.rel := rfl
@[simp] theorem State.send_relOrder (s : State) (m : Out) : (s.send m).relOrder = s.relOrder := rfl
@[simp] theorem State.send_dead (s : State) (m : Out) : (s.send m).dead = s.dead := rfl
@[simp] theorem State.send_staged (s : State) (m : Out) : (s.send m).staged = s.staged := rfl
@[simp] theorem State.send_mcSh (s : State) (m : Out) : (s.send m).mcSh = s.mcSh := rfl
@[simp] theorem State.send_mcAct (s : State) (m : Out) : (s.send m).mcAct = s.mcAct := rfl
@[simp] theorem State.send_capture (s : State) (m : Out) : (s.send m).capture = s.capture := rfl
@[simp] theorem State.send_capDrain (s : State) (m : Out) : (s.send m).capDrain = s.capDrain := rfl
@[simp] theorem State.send_ctrlIn (s : State) (m : Out) : (s.send m).ctrlIn = s.ctrlIn := rfl
@[simp] theorem State.send_ctrlLocal (s : State) (m : Out) : (s.send m).ctrlLocal = s.ctrlLocal := rfl
@[simp] theorem State.send_reqs (s : State) (m : Out) : (s.send m).reqs = s.reqs := rfl
@[simp] theorem State.send_endedReads (s : State) (m : Out) : (s.send m).endedReads = s.endedReads := rfl
@[simp] theorem State.send_remq (s : State) (m : Out) : (s.send m).remq = s.remq := rfl
@[simp] theorem State.send_prefetch (s : State) (m : Out) : (s.send m).prefetch = s.prefetch := rfl
@[simp] theorem State.send_smb (s : State) (m : Out) : (s.send m).smb = s.smb := rfl
@[simp] theorem State.send_heldReqs (s : State) (m : Out) : (s.send m).heldReqs = s.heldReqs := rfl
@[simp] theorem State.send_hopq (s : State) (m : Out) : (s.send m).hopq = s.hopq := rfl
@[simp] theorem State.send_events (s : State) (m : Out) : (s.send m).events = s.events := rfl
@[simp] theorem State.send_pcas (s : State) (m : Out) : (s.send m).pcas = s.pcas := rfl
@[simp] theorem State.send_disps (s : State) (m : Out) : (s.send m).disps = s.disps := rfl
@[simp] theorem State.send_eths (s : State) (m : Out) : (s.send m).eths = s.eths := rfl
@[simp] theorem State.send_memq (s : State) (m : Out) : (s.send m).memq = s.memq := rfl
@[simp] theorem State.send_safeq (s : State) (m : Out) : (s.send m).safeq = s.safeq := rfl
@[simp] theorem State.send_closers (s : State) (m : Out) : (s.send m).closers = s.closers := rfl
@[simp] theorem State.send_pdRx (s : State) (m : Out) : (s.send m).pdRx = s.pdRx := rfl
@[simp] theorem State.send_pdLast (s : State) (m : Out) : (s.send m).pdLast = s.pdLast := rfl
@[simp] theorem State.send_stickyImg (s : State) (m : Out) : (s.send m).stickyImg = s.stickyImg := rfl
@[simp] theorem State.send_eqTable (s : State) (m : Out) : (s.send m).eqTable = s.eqTable := rfl
@[simp] theorem State.send_usb (s : State) (m : Out) : (s.send m).usb = s.usb := rfl
@[simp] theorem State.send_cfg (s : State) (m : Out) : (s.send m).cfg = s.cfg := rfl
@[simp] theorem State.send_dbgResp (s : State) (m : Out) : (s.send m).dbgResp = s.dbgResp := rfl
@[simp] theorem State.send_spdm (s : State) (m : Out) : (s.send m).spdm = s.spdm := rfl
@[simp] theorem State.send_dram (s : State) (m : Out) : (s.send m).dram = s.dram := rfl
@[simp] theorem State.send_flash (s : State) (m : Out) : (s.send m).flash = s.flash := rfl
@[simp] theorem State.send_otp (s : State) (m : Out) : (s.send m).otp = s.otp := rfl
@[simp] theorem State.send_aonRam (s : State) (m : Out) : (s.send m).aonRam = s.aonRam := rfl

/-! ### When a free value is taken -/

@[simp] theorem State.tookFree_pending (s : State) : (s.tookFree).pending = s.pending := rfl
@[simp] theorem State.tookFree_regs (s : State) : (s.tookFree).regs = s.regs := rfl
@[simp] theorem State.tookFree_act (s : State) : (s.tookFree).act = s.act := rfl
@[simp] theorem State.tookFree_time (s : State) : (s.tookFree).time = s.time := rfl
@[simp] theorem State.tookFree_clock (s : State) : (s.tookFree).clock = s.clock := rfl
@[simp] theorem State.tookFree_out (s : State) : (s.tookFree).out = s.out := rfl
@[simp] theorem State.tookFree_uid (s : State) : (s.tookFree).uid = s.uid := rfl
@[simp] theorem State.tookFree_replay (s : State) : (s.tookFree).replay = s.replay := rfl
@[simp] theorem State.tookFree_linkq (s : State) : (s.tookFree).linkq = s.linkq := rfl
@[simp] theorem State.tookFree_creditDue (s : State) : (s.tookFree).creditDue = s.creditDue := rfl
@[simp] theorem State.tookFree_waiting (s : State) : (s.tookFree).waiting = s.waiting := rfl
@[simp] theorem State.tookFree_flows (s : State) : (s.tookFree).flows = s.flows := rfl
@[simp] theorem State.tookFree_progs (s : State) : (s.tookFree).progs = s.progs := rfl
@[simp] theorem State.tookFree_queues (s : State) : (s.tookFree).queues = s.queues := rfl
@[simp] theorem State.tookFree_rel (s : State) : (s.tookFree).rel = s.rel := rfl
@[simp] theorem State.tookFree_relOrder (s : State) : (s.tookFree).relOrder = s.relOrder := rfl
@[simp] theorem State.tookFree_dead (s : State) : (s.tookFree).dead = s.dead := rfl
@[simp] theorem State.tookFree_staged (s : State) : (s.tookFree).staged = s.staged := rfl
@[simp] theorem State.tookFree_mcSh (s : State) : (s.tookFree).mcSh = s.mcSh := rfl
@[simp] theorem State.tookFree_mcAct (s : State) : (s.tookFree).mcAct = s.mcAct := rfl
@[simp] theorem State.tookFree_capture (s : State) : (s.tookFree).capture = s.capture := rfl
@[simp] theorem State.tookFree_capDrain (s : State) : (s.tookFree).capDrain = s.capDrain := rfl
@[simp] theorem State.tookFree_ctrlIn (s : State) : (s.tookFree).ctrlIn = s.ctrlIn := rfl
@[simp] theorem State.tookFree_ctrlLocal (s : State) : (s.tookFree).ctrlLocal = s.ctrlLocal := rfl
@[simp] theorem State.tookFree_reqs (s : State) : (s.tookFree).reqs = s.reqs := rfl
@[simp] theorem State.tookFree_endedReads (s : State) : (s.tookFree).endedReads = s.endedReads := rfl
@[simp] theorem State.tookFree_remq (s : State) : (s.tookFree).remq = s.remq := rfl
@[simp] theorem State.tookFree_prefetch (s : State) : (s.tookFree).prefetch = s.prefetch := rfl
@[simp] theorem State.tookFree_smb (s : State) : (s.tookFree).smb = s.smb := rfl
@[simp] theorem State.tookFree_heldReqs (s : State) : (s.tookFree).heldReqs = s.heldReqs := rfl
@[simp] theorem State.tookFree_hopq (s : State) : (s.tookFree).hopq = s.hopq := rfl
@[simp] theorem State.tookFree_events (s : State) : (s.tookFree).events = s.events := rfl
@[simp] theorem State.tookFree_pcas (s : State) : (s.tookFree).pcas = s.pcas := rfl
@[simp] theorem State.tookFree_disps (s : State) : (s.tookFree).disps = s.disps := rfl
@[simp] theorem State.tookFree_eths (s : State) : (s.tookFree).eths = s.eths := rfl
@[simp] theorem State.tookFree_memq (s : State) : (s.tookFree).memq = s.memq := rfl
@[simp] theorem State.tookFree_safeq (s : State) : (s.tookFree).safeq = s.safeq := rfl
@[simp] theorem State.tookFree_closers (s : State) : (s.tookFree).closers = s.closers := rfl
@[simp] theorem State.tookFree_pdRx (s : State) : (s.tookFree).pdRx = s.pdRx := rfl
@[simp] theorem State.tookFree_pdLast (s : State) : (s.tookFree).pdLast = s.pdLast := rfl
@[simp] theorem State.tookFree_stickyImg (s : State) : (s.tookFree).stickyImg = s.stickyImg := rfl
@[simp] theorem State.tookFree_eqTable (s : State) : (s.tookFree).eqTable = s.eqTable := rfl
@[simp] theorem State.tookFree_usb (s : State) : (s.tookFree).usb = s.usb := rfl
@[simp] theorem State.tookFree_cfg (s : State) : (s.tookFree).cfg = s.cfg := rfl
@[simp] theorem State.tookFree_dbgResp (s : State) : (s.tookFree).dbgResp = s.dbgResp := rfl
@[simp] theorem State.tookFree_spdm (s : State) : (s.tookFree).spdm = s.spdm := rfl
@[simp] theorem State.tookFree_dram (s : State) : (s.tookFree).dram = s.dram := rfl
@[simp] theorem State.tookFree_flash (s : State) : (s.tookFree).flash = s.flash := rfl
@[simp] theorem State.tookFree_otp (s : State) : (s.tookFree).otp = s.otp := rfl
@[simp] theorem State.tookFree_aonRam (s : State) : (s.tookFree).aonRam = s.aonRam := rfl

@[simp] theorem State.send_out (s : State) (m : Out) : (s.send m).out = s.out ++ [m] := rfl
@[simp] theorem State.tookFree_fresh (s : State) : s.tookFree.fresh = s.fresh + 1 := rfl

/-! ### Reads of fields -/

/-- A field of the registers reads the same when the registers are the same. -/
theorem State.rd_of_regs {s t : State} (h : t.regs = s.regs) (p : Page) (f : Field) : t.rd p f = s.rd p f := by
  unfold State.rd; rw [h]

theorem State.rdA_of_act {s t : State} (h : t.act = s.act) (p : Page) (f : Field) : t.rdA p f = s.rdA p f := by
  unfold State.rdA; rw [h]

@[simp] theorem State.rd_send (s : State) (m : Out) (p : Page) (f : Field) : (s.send m).rd p f = s.rd p f := rfl
@[simp] theorem State.rd_tookFree (s : State) (p : Page) (f : Field) : s.tookFree.rd p f = s.rd p f := rfl
@[simp] theorem State.rd_wrA (s : State) (p q : Page) (f g : Field) (v : Nat) : (s.wrA q g v).rd p f = s.rd p f := rfl
@[simp] theorem State.rdA_wr (s : State) (p q : Page) (f g : Field) (v : Nat) : (s.wr q g v).rdA p f = s.rdA p f := rfl
@[simp] theorem State.rdA_send (s : State) (m : Out) (p : Page) (f : Field) : (s.send m).rdA p f = s.rdA p f := rfl
@[simp] theorem State.rdA_tookFree (s : State) (p : Page) (f : Field) : s.tookFree.rdA p f = s.rdA p f := rfl

/-- A table of fields after one of them is set. -/
theorem find_putField (t : Tab Nat) (j k v rst : Nat) :
    (Tab.find (putField t k v rst) j).getD rst = if j = k then v else (Tab.find t j).getD rst := by
  unfold putField
  split
  · next h => rw [Tab.find_del]; split <;> simp [h]
  · rw [Tab.find_put]; split <;> simp

/-- The key of another field is left alone. -/
theorem find_putField_ne (t : Tab Nat) {j k : Nat} (v rst : Nat) (h : j ≠ k) :
    Tab.find (putField t k v rst) j = Tab.find t j := by
  unfold putField
  split
  · rw [Tab.find_del_ne _ h]
  · rw [Tab.find_put_ne _ _ h]

/-- A field that has just been written reads as the value, cut to its width. -/
@[simp] theorem State.rd_wr_self (s : State) (p : Page) (f : Field) (v : Nat) :
    (s.wr p f v).rd p f = v % 2 ^ f.len := by
  unfold State.rd State.wr
  rw [find_putField, if_pos rfl]

/-- A write of another field is not seen. -/
theorem State.rd_wr_ne (s : State) {p q : Page} {f g : Field} (v : Nat) (h : key p f ≠ key q g) :
    (s.wr q g v).rd p f = s.rd p f := by
  unfold State.rd State.wr
  rw [find_putField_ne _ _ _ h]

/-- Fields of one page at different places are different. -/
theorem State.rd_wr_bit (s : State) {p : Page} {f g : Field} (v : Nat) (h : f.bit ≠ g.bit) :
    (s.wr p g v).rd p f = s.rd p f :=
  s.rd_wr_ne v (by unfold key; omega)

@[simp] theorem State.rdA_wrA_self (s : State) (p : Page) (f : Field) (v : Nat) :
    (s.wrA p f v).rdA p f = v % 2 ^ f.len := by
  unfold State.rdA State.wrA
  rw [find_putField, if_pos rfl]

theorem State.rdA_wrA_ne (s : State) {p q : Page} {f g : Field} (v : Nat) (h : key p f ≠ key q g) :
    (s.wrA q g v).rdA p f = s.rdA p f := by
  unfold State.rdA State.wrA
  rw [find_putField_ne _ _ _ h]

/-- What a key of the registers holds after a write of a field. -/
theorem State.find_wr_ne (s : State) {p : Page} {f : Field} (v : Nat) {k : Nat} (h : k ≠ key p f) :
    Tab.find (s.wr p f v).regs k = Tab.find s.regs k :=
  find_putField_ne _ _ _ h

@[simp] theorem State.when_true (s : State) (f : State → State) : s.when true f = f s := rfl
@[simp] theorem State.when_false (s : State) (f : State → State) : s.when false f = s := rfl

end Sys2Proof.Machine
end

