-- ==== Sys2Proof/Laws/Access.lean ====
section
/-! SUPPORT. What a register write that a command is does, in each of its four cases (R14, R41, R50 of spec/03_register_model.md), and what raising an error source and counting do. -/

namespace Sys2Proof.Machine

open Reg

/-! ### The four cases of a write -/

/-- In D0 or D1 no access wakes the hub. -/
theorem State.hostWake_awake (s : State) {st : Nat} (who : Initiator) (h : st ≤ 1) : s.hostWake st who = s := by
  unfold State.hostWake
  split
  · simp [h]
  · rfl

theorem State.access_awake {s : State} (who : Initiator) (p : Page) (f : Field) (act : State → State) (h : s.awake) :
    s.access who p f act = s.accessNow who p f act :=
  State.hostWake_awake _ who h

/-- An accepted write has its effect, and nothing besides. -/
theorem State.access_accepts {s : State} {who : Initiator} {p : Page} {f : Field} (act : State → State)
    (h : s.accepts who p f) : s.access who p f act = act s := by
  obtain ⟨ha, hg, hr, hf⟩ := h
  rw [State.access_awake who p f act ha]
  unfold State.accessNow
  rcases hr with hr | hr <;> simp [hg, hr, hf]

/-- A write of a gated page is recorded only (R14). -/
theorem State.access_gated {s : State} {p : Page} (who : Initiator) (f : Field) (act : State → State) (ha : s.awake)
    (hg : s.gated p = true) : s.access who p f act = s.gatedAccess (p.base + f.bit / 32 * 4) true := by
  rw [State.access_awake who p f act ha]
  simp [State.accessNow, hg]

/-- A write that a block soft reset drops (R41). -/
theorem State.access_inReset {s : State} {p : Page} {f : Field} (who : Initiator) (act : State → State) (ha : s.awake)
    (hg : s.gated p = false) (hr : s.is (headerOf p) PG_STATUS_IN_RESET = true) (hb : blockBit p f.bit = true) :
    s.access who p f act = s := by
  rw [State.access_awake who p f act ha]
  simp [State.accessNow, hg, hr, hb]

/-- A refused write is recorded as dropped, with its cause (R50). -/
theorem State.access_refused {s : State} {who : Initiator} {p : Page} {f : Field} (act : State → State) (ha : s.awake)
    (hg : s.gated p = false) (hr : s.is (headerOf p) PG_STATUS_IN_RESET = false ∨ blockBit p f.bit = false)
    (hf : s.refusal p who f ≠ 0) :
    s.access who p f act = s.drop (headerOf p) who (s.refusal p who f) (p.base + f.bit / 32 * 4) := by
  rw [State.access_awake who p f act ha]
  unfold State.accessNow
  rcases hr with hr | hr <;> simp [hg, hr, hf]

/-- The commands that write one register complete wherever the write is accepted. -/
theorem gives_access {c : Instr} {s : State} {who : Initiator} {p : Page} {f : Field} {act : State → State}
    {q : State → Prop} (hc : exec c s = .next (s.access who p f act)) (h : s.accepts who p f) (hq : q (act s)) :
    Gives c s q :=
  ⟨act s, by rw [hc, State.access_accepts act h], hq⟩

/-! ### Reads after writes -/

theorem State.rd_wr (s : State) (p q : Page) (f g : Field) (v : Nat) (hk : key p f = key q g → f = g) :
    (s.wr q g v).rd p f = if key p f = key q g then v % 2 ^ g.len else s.rd p f := by
  split
  · rename_i h
    have hfg := hk h
    subst hfg
    have hp : (s.wr q f v).rd p f = (s.wr q f v).rd q f := by unfold State.rd; rw [h]
    rw [hp, State.rd_wr_self]
  · rename_i h
    exact State.rd_wr_ne s v h

theorem State.is_wr_self (s : State) (p : Page) (f : Field) (v : Nat) :
    (s.wr p f v).is p f = decide (v % 2 ^ f.len ≠ 0) := by
  unfold State.is
  rw [State.rd_wr_self]
  by_cases h : v % 2 ^ f.len = 0 <;> simp [h]

theorem State.is_wr_ne (s : State) {p q : Page} {f g : Field} (v : Nat) (h : key p f ≠ key q g) :
    (s.wr q g v).is p f = s.is p f := by
  unfold State.is
  rw [State.rd_wr_ne s v h]

/-- A counter of a page adds 1 and stops at its highest value. -/
theorem State.rd_count_self (s : State) (p : Page) (f : Field) (h : s.rd p f + 1 < 2 ^ f.len) :
    (s.count p f).rd p f = s.rd p f + 1 := by
  unfold State.count State.sat
  rw [State.rd_wr_self]
  have : min (s.rd p f + 1) (2 ^ f.len - 1) = s.rd p f + 1 := by omega
  rw [this, Nat.mod_eq_of_lt h]

/-! ### Error sources -/

/-- Raising a source that is not pending and whose severity is Log or Notify (R51 to R53): it becomes pending at that
severity, is captured if no fault is, requests the ERR interrupt from Notify up, and the grace timer follows. -/
theorem State.raise_mild {s : State} {p : Page} {n : Nat} (h : s.mild p n) :
    s.raise p n =
      (((((s.wr p (PG_ERR_STATUS_SRC.nth n) 1).wr p (PG_EFF_SEV.nth n) (min (s.rd p (p.sevField n)) (capSev p))).when
          (!((s.wr p (PG_ERR_STATUS_SRC.nth n) 1).wr p (PG_EFF_SEV.nth n)
            (min (s.rd p (p.sevField n)) (capSev p))).is p PG_ERR_FIRST_VALID) fun t =>
          t.captureErr p n (min (s.rd p (p.sevField n)) (capSev p))).when
        (1 ≤ min (s.rd p (p.sevField n)) (capSev p)) fun t => t.setInt p intErr).graceUpdate p) := by
  obtain ⟨hn, hv⟩ := h
  unfold State.raise State.raiseBy
  simp only [hn, Bool.false_eq_true, if_false, State.sevEffect]
  rw [if_neg (by omega), if_neg (by omega)]

end Sys2Proof.Machine
end

