-- ==== Sys2Proof/Laws/Bytes.lean ====
section
/-! SUPPORT. Laws of the conversions between numbers and bytes, and of programming a word of the OTP. -/

namespace Sys2Proof.Machine

/-- Bit `8 k + i` of the number that bytes spell is bit `i` of byte `k`. -/
theorem leNat_testBit (bs : List Byte) (k i : Nat) (hi : i < 8) :
    (leNat bs).testBit (8 * k + i) = (bs.getD k 0).getLsbD i := by
  induction bs generalizing k with
  | nil => simp [leNat]
  | cons b t ih =>
    have hb : b.toNat < 2 ^ 8 := b.isLt
    cases k with
    | zero =>
      simp only [leNat, List.getD_cons_zero, Nat.mul_zero, Nat.zero_add]
      rw [show b.toNat + 256 * leNat t = 2 ^ 8 * leNat t + b.toNat by omega, Nat.testBit_two_pow_mul_add _ hb,
        if_pos hi, BitVec.getLsbD]
    | succ k =>
      simp only [leNat, List.getD_cons_succ]
      rw [show b.toNat + 256 * leNat t = 2 ^ 8 * leNat t + b.toNat by omega, Nat.testBit_two_pow_mul_add _ hb,
        if_neg (by omega), show 8 * (k + 1) + i - 8 = 8 * k + i by omega, ih]

@[simp] theorem leBytes_length (n v : Nat) : (leBytes n v).length = n := by simp [leBytes]

/-- Bit `i` of byte `k` of a number's bytes is bit `8 k + i` of the number. -/
theorem leBytes_getLsbD (n v k i : Nat) (hk : k < n) (hi : i < 8) :
    ((leBytes n v).getD k 0).getLsbD i = v.testBit (8 * k + i) := by
  have h : (leBytes n v).getD k 0 = BitVec.ofNat 8 (v / 256 ^ k) := by
    simp [leBytes, List.getD_eq_getElem?_getD, hk]
  rw [h, BitVec.getLsbD_ofNat, show (256 : Nat) ^ k = 2 ^ (8 * k) by rw [Nat.pow_mul],
    Nat.testBit_div_two_pow]
  simp [hi, Nat.add_comm]

theorem Mem.readList_length (d : Byte) (m : Mem) (a n : Nat) : (Mem.readList d m a n).length = n := by
  induction n generalizing a with
  | zero => rfl
  | succ n ih => simp [Mem.readList, ih]

theorem Mem.readList_getD (d e : Byte) (m : Mem) (a n k : Nat) (h : k < n) :
    (Mem.readList d m a n).getD k e = Mem.read d m (a + k) := by
  induction n generalizing a k with
  | zero => omega
  | succ n ih =>
    cases k with
    | zero => simp [Mem.readList]
    | succ k =>
      simp only [Mem.readList, List.getD_cons_succ]
      rw [ih (a + 1) k (by omega)]
      congr 1
      omega

/-- A bit of the OTP after bits of a word were set: set if it was, or if the word's new bits have it (R402). -/
theorem State.otpSet_bit (s : State) (w bits a i : Nat) (hi : i < 8) :
    (Mem.read 0 (s.otpSet w bits).otp a).getLsbD i =
      ((Mem.read 0 s.otp a).getLsbD i ||
        decide (4 * w ≤ a ∧ a < 4 * w + 4) && bits.testBit (8 * (a - 4 * w) + i)) := by
  unfold State.otpSet
  simp only [Mem.read_writeList, leBytes_length]
  by_cases h : 4 * w ≤ a ∧ a < 4 * w + 4
  · rw [if_pos h, leBytes_getLsbD _ _ _ _ (by omega) hi, Nat.testBit_or, State.otpWord, leNat_testBit _ _ _ hi,
      State.otpBytes, Mem.readList_getD _ _ _ _ _ _ (by omega), show 4 * w + (a - 4 * w) = a by omega]
    simp [h]
  · rw [if_neg h]
    simp [h]

end Sys2Proof.Machine
end

