-- ==== Sys2Proof/Laws/Leads.lean ====
section
/-! SUPPORT. What every operation of the hub keeps, said once: the queue of commands, the order of time, the messages already sent, the OTP's bits and the canonical form; and, but for the operations that write them, the flash and the OTP. -/

namespace Sys2Proof.Machine

open Reg

/-- `t` may follow `s` in a step: the waiting commands are the same, time and the count of free values do not go back,
messages sent stay sent, OTP bits stay set, and the canonical form is kept. With `fl` the flash is the same, with `ot` the
OTP. -/
structure State.Leads (fl ot : Bool) (s t : State) : Prop where
  pending : t.pending = s.pending
  clock : s.clock ≤ t.clock
  fresh : s.fresh ≤ t.fresh
  out : s.out <+: t.out
  bits : BitsKept s.otp t.otp
  inv : s.Inv → t.Inv
  flash : fl = true → t.flash = s.flash
  otp : ot = true → t.otp = s.otp

/-- Every next state of an outcome may follow `s`. -/
def State.LeadsR (fl ot : Bool) (s : State) (x : Res) : Prop := ∀ t, x = .next t → s.Leads fl ot t

theorem State.Leads.refl (fl ot : Bool) (s : State) : s.Leads fl ot s :=
  ⟨rfl, Nat.le_refl _, Nat.le_refl _, List.prefix_refl _, fun _ _ h => h, id, fun _ => rfl, fun _ => rfl⟩

theorem State.Leads.trans {fl ot : Bool} {r s t : State} (h : r.Leads fl ot s) (g : s.Leads fl ot t) : r.Leads fl ot t :=
  ⟨g.pending.trans h.pending, Nat.le_trans h.clock g.clock, Nat.le_trans h.fresh g.fresh, h.out.trans g.out,
    fun a i x => g.bits a i (h.bits a i x), fun x => g.inv (h.inv x), fun x => (g.flash x).trans (h.flash x),
    fun x => (g.otp x).trans (h.otp x)⟩

/-- A state that differs from `s` in none of the parts that the relation speaks of. -/
theorem State.leads_same {fl ot : Bool} {r s t : State} (h : r.Leads fl ot s) (h1 : t.pending = s.pending)
    (h2 : t.clock = s.clock) (h3 : t.fresh = s.fresh) (h4 : t.out = s.out) (h5 : t.regs = s.regs) (h6 : t.act = s.act)
    (h7 : t.dram = s.dram) (h8 : t.flash = s.flash) (h9 : t.otp = s.otp) (h10 : t.aonRam = s.aonRam) :
    r.Leads fl ot t :=
  h.trans ⟨h1, Nat.le_of_eq h2.symm, Nat.le_of_eq h3.symm, h4 ▸ List.prefix_refl _, fun _ _ x => h9 ▸ x,
    fun i => ⟨h5 ▸ i.regs, h6 ▸ i.act, h7 ▸ i.dram, h8 ▸ i.flash, h9 ▸ i.otp, h10 ▸ i.aonRam⟩, fun _ => h8, fun _ => h9⟩

/-- A record update of the other parts. -/
theorem State.leads_mk {fl ot : Bool} {r s : State} (h : r.Leads fl ot s) (x3 : BitVec 64) (x7 : Nat) (x8 : Tab
    (List Held)) (x9 : Tab (List LinkMsg)) (x10 : Tab (List Nat)) (x11 : List QPkt) (x12 : List Flow) (x13 : List
    Prog) (x14 : Tab (List Frame)) (x15 : Tab (List Rel)) (x16 : Tab (List Nat)) (x17 : List Nat) (x18 : Tab (List
    StQ)) (x19 : Tab Nat) (x20 : Tab Nat) (x21 : Tab (List Byte)) (x22 : List Nat) (x23 : List (Nat × Ctrl)) (x24 :
    List (Nat × Ctrl)) (x25 : List Req) (x26 : List Req) (x27 : List RemAcc) (x28 : List PfBlock) (x29 : Option
    SmbRead) (x30 : List (Nat × Ctrl)) (x31 : List (Nat × HopWrite)) (x32 : Tab (List (List Nat))) (x33 : Tab Pca)
    (x34 : Tab Disp) (x35 : Tab Eth) (x36 : List (Nat × MemReq)) (x37 : List SafeReq) (x38 : Tab SafeReq) (x39 : Tab
    (List Nat)) (x40 : Tab (Nat × PdMsg)) (x41 : Tab Nat) (x42 : List EqEntry) (x43 : Usb) (x44 : List Byte) (x45 :
    List Nat) (x46 : Tab Spdm) : r.Leads fl ot (State.mk s.pending s.regs s.act x3 s.clock s.fresh s.out x7 x8 x9
    x10 x11 x12 x13 x14 x15 x16 x17 x18 x19 x20 x21 x22 x23 x24 x25 x26 x27 x28 x29 x30 x31 x32 x33 x34 x35 x36 x37
    x38 x39 x40 x41 x42 x43 x44 x45 x46 s.dram s.flash s.otp s.aonRam) :=
  State.leads_same h rfl rfl rfl rfl rfl rfl rfl rfl rfl rfl

theorem sorted_putField {t : Tab Nat} (k v rst : Nat) (h : Tab.sorted t = true) :
    Tab.sorted (putField t k v rst) = true := by
  unfold putField
  split
  · exact Tab.sorted_del _ h
  · exact Tab.sorted_put _ _ h

theorem State.leads_wr {fl ot : Bool} {r s : State} (h : r.Leads fl ot s) (p : Page) (f : Field) (v : Nat) :
    r.Leads fl ot (s.wr p f v) :=
  h.trans ⟨rfl, Nat.le_refl _, Nat.le_refl _, List.prefix_refl _, fun _ _ x => x,
    fun i => ⟨sorted_putField _ _ _ i.regs, i.act, i.dram, i.flash, i.otp, i.aonRam⟩, fun _ => rfl, fun _ => rfl⟩

theorem State.leads_wrA {fl ot : Bool} {r s : State} (h : r.Leads fl ot s) (p : Page) (f : Field) (v : Nat) :
    r.Leads fl ot (s.wrA p f v) :=
  h.trans ⟨rfl, Nat.le_refl _, Nat.le_refl _, List.prefix_refl _, fun _ _ x => x,
    fun i => ⟨i.regs, sorted_putField _ _ _ i.act, i.dram, i.flash, i.otp, i.aonRam⟩, fun _ => rfl, fun _ => rfl⟩

theorem State.leads_send {fl ot : Bool} {r s : State} (h : r.Leads fl ot s) (m : Out) : r.Leads fl ot (s.send m) :=
  h.trans ⟨rfl, Nat.le_refl _, Nat.le_refl _, List.prefix_append _ _, fun _ _ x => x,
    fun i => ⟨i.regs, i.act, i.dram, i.flash, i.otp, i.aonRam⟩, fun _ => rfl, fun _ => rfl⟩

theorem State.leads_fresh {fl ot : Bool} {r s : State} (h : r.Leads fl ot s) (n : Nat) :
    r.Leads fl ot { s with fresh := s.fresh + n } :=
  h.trans ⟨rfl, Nat.le_refl _, Nat.le_add_right _ _, List.prefix_refl _, fun _ _ x => x,
    fun i => ⟨i.regs, i.act, i.dram, i.flash, i.otp, i.aonRam⟩, fun _ => rfl, fun _ => rfl⟩

theorem State.leads_tookFree {fl ot : Bool} {r s : State} (h : r.Leads fl ot s) : r.Leads fl ot s.tookFree :=
  State.leads_fresh h 1

theorem State.leads_clock {fl ot : Bool} {r s : State} (h : r.Leads fl ot s) (x : BitVec 64) (n : Nat) :
    r.Leads fl ot { s with time := x, clock := s.clock + n } :=
  h.trans ⟨rfl, Nat.le_add_right _ _, Nat.le_refl _, List.prefix_refl _, fun _ _ x => x,
    fun i => ⟨i.regs, i.act, i.dram, i.flash, i.otp, i.aonRam⟩, fun _ => rfl, fun _ => rfl⟩

theorem State.leads_keep {fl ot : Bool} {r s : State} (h : r.Leads fl ot s) (q q' : Nat → Bool) :
    r.Leads fl ot { s with regs := s.regs.keep q, act := s.act.keep q' } :=
  h.trans ⟨rfl, Nat.le_refl _, Nat.le_refl _, List.prefix_refl _, fun _ _ x => x,
    fun i => ⟨Tab.sorted_keep _ i.regs, Tab.sorted_keep _ i.act, i.dram, i.flash, i.otp, i.aonRam⟩, fun _ => rfl,
    fun _ => rfl⟩

theorem State.leads_dram {fl ot : Bool} {r s : State} (h : r.Leads fl ot s) (m : Mem)
    (hm : Mem.wf 0 s.dram = true → Mem.wf 0 m = true) : r.Leads fl ot { s with dram := m } :=
  h.trans ⟨rfl, Nat.le_refl _, Nat.le_refl _, List.prefix_refl _, fun _ _ x => x,
    fun i => ⟨i.regs, i.act, hm i.dram, i.flash, i.otp, i.aonRam⟩, fun _ => rfl, fun _ => rfl⟩

theorem State.leads_aonRam {fl ot : Bool} {r s : State} (h : r.Leads fl ot s) (m : Mem)
    (hm : Mem.wf 0 s.aonRam = true → Mem.wf 0 m = true) : r.Leads fl ot { s with aonRam := m } :=
  h.trans ⟨rfl, Nat.le_refl _, Nat.le_refl _, List.prefix_refl _, fun _ _ x => x,
    fun i => ⟨i.regs, i.act, i.dram, i.flash, i.otp, hm i.aonRam⟩, fun _ => rfl, fun _ => rfl⟩

theorem State.leads_flash {ot : Bool} {r s : State} (h : r.Leads false ot s) (m : Mem)
    (hm : Mem.wf 0xFF s.flash = true → Mem.wf 0xFF m = true) : r.Leads false ot { s with flash := m } :=
  h.trans ⟨rfl, Nat.le_refl _, Nat.le_refl _, List.prefix_refl _, fun _ _ x => x,
    fun i => ⟨i.regs, i.act, i.dram, hm i.flash, i.otp, i.aonRam⟩, by simp, fun _ => rfl⟩

/-! ### Control -/

theorem State.leads_when {fl ot : Bool} {r s : State} (h : r.Leads fl ot s) (b : Bool) (f : State → State)
    (hf : ∀ t, r.Leads fl ot t → r.Leads fl ot (f t)) : r.Leads fl ot (s.when b f) := by
  unfold State.when
  split
  · exact hf _ h
  · exact h

theorem State.leads_foldl {α : Type} {fl ot : Bool} {r s : State} (h : r.Leads fl ot s) (l : List α)
    (g : State → α → State) (hg : ∀ t x, r.Leads fl ot t → r.Leads fl ot (g t x)) : r.Leads fl ot (l.foldl g s) := by
  induction l generalizing s with
  | nil => exact h
  | cons a l ih => exact ih (hg _ _ h)

theorem State.leads_foldl_fst {α β : Type} {fl ot : Bool} {r : State} {x : State × β} (h : r.Leads fl ot x.1) (l : List α)
    (g : State × β → α → State × β) (hg : ∀ t a, r.Leads fl ot t.1 → r.Leads fl ot (g t a).1) :
    r.Leads fl ot (l.foldl g x).1 := by
  induction l generalizing x with
  | nil => exact h
  | cons a l ih => exact ih (hg _ _ h)

theorem State.leads_letSS {fl ot : Bool} {r : State} {a : State} {b : State → State} (h : r.Leads fl ot a)
    (hf : ∀ t, r.Leads fl ot t → r.Leads fl ot (b t)) : r.Leads fl ot (have x := a; b x) :=
  hf _ h

theorem State.leads_letSP {γ : Type} {fl ot : Bool} {r : State} {a : State} {b : State → State × γ} (h : r.Leads fl ot a)
    (hf : ∀ t, r.Leads fl ot t → r.Leads fl ot (b t).1) : r.Leads fl ot (have x := a; b x).1 :=
  hf _ h

theorem State.leads_letSR {fl ot : Bool} {r : State} {a : State} {b : State → Res} (h : r.Leads fl ot a)
    (hf : ∀ t, r.Leads fl ot t → r.LeadsR fl ot (b t)) : r.LeadsR fl ot (have x := a; b x) :=
  hf _ h

theorem State.leads_letPS {β : Type} {fl ot : Bool} {r : State} {a : State × β} {b : State × β → State} (h : r.Leads fl ot a.1)
    (hf : ∀ t, r.Leads fl ot t.1 → r.Leads fl ot (b t)) : r.Leads fl ot (have x := a; b x) :=
  hf _ h

theorem State.leads_letPP {β γ : Type} {fl ot : Bool} {r : State} {a : State × β} {b : State × β → State × γ} (h : r.Leads fl ot a.1)
    (hf : ∀ t, r.Leads fl ot t.1 → r.Leads fl ot (b t).1) : r.Leads fl ot (have x := a; b x).1 :=
  hf _ h

theorem State.leads_letPR {β : Type} {fl ot : Bool} {r : State} {a : State × β} {b : State × β → Res} (h : r.Leads fl ot a.1)
    (hf : ∀ t, r.Leads fl ot t.1 → r.LeadsR fl ot (b t)) : r.LeadsR fl ot (have x := a; b x) :=
  hf _ h

theorem State.leads_letOS {β : Type} {fl ot : Bool} {r : State} {a : β} {b : β → State}
    (hf : ∀ t, r.Leads fl ot (b t)) : r.Leads fl ot (have x := a; b x) :=
  hf _

theorem State.leads_letOP {β γ : Type} {fl ot : Bool} {r : State} {a : β} {b : β → State × γ}
    (hf : ∀ t, r.Leads fl ot (b t).1) : r.Leads fl ot (have x := a; b x).1 :=
  hf _

theorem State.leads_letOR {β : Type} {fl ot : Bool} {r : State} {a : β} {b : β → Res}
    (hf : ∀ t, r.LeadsR fl ot (b t)) : r.LeadsR fl ot (have x := a; b x) :=
  hf _

theorem State.leads_ite_fst {β : Type} {fl ot : Bool} {r : State} {a b : State × β} {c : Prop} [Decidable c]
    (h : r.Leads fl ot a.1) (g : r.Leads fl ot b.1) : r.Leads fl ot (if c then a else b).1 := by
  split <;> assumption

theorem State.leads_ite {fl ot : Bool} {r a b : State} {c : Prop} [Decidable c] (h : r.Leads fl ot a)
    (g : r.Leads fl ot b) : r.Leads fl ot (if c then a else b) := by
  split <;> assumption

theorem State.leads_of_fst {β : Type} {fl ot : Bool} {r s : State} {p : State × β} {b : β} (e : p = (s, b))
    (h : r.Leads fl ot p.1) : r.Leads fl ot s := by
  rw [e] at h; exact h

theorem State.leads_of_fst' {β : Type} {fl ot : Bool} {r s : State} {p : State × β} {b : β} (e : (s, b) = p)
    (h : r.Leads fl ot p.1) : r.Leads fl ot s := by
  rw [← e] at h; exact h

theorem State.leads_pair {β : Type} {fl ot : Bool} {r s : State} {b : β} (h : r.Leads fl ot s) :
    r.Leads fl ot (s, b).1 := h

theorem State.leadsR_next {fl ot : Bool} {r s : State} (h : r.Leads fl ot s) : r.LeadsR fl ot (.next s) := by
  rintro t ⟨⟩; exact h

theorem State.leadsR_ite {fl ot : Bool} {r : State} {a b : Res} {c : Prop} [Decidable c] (h : r.LeadsR fl ot a)
    (g : r.LeadsR fl ot b) : r.LeadsR fl ot (if c then a else b) := by
  split <;> assumption

end Sys2Proof.Machine
end

