-- ==== Sys2Proof/Laws/Lead/Ops.lean ====
section
/-! SUPPORT. What the operations of Machine/Ops.lean keep (State.Leads of Laws/Leads.lean). -/

namespace Sys2Proof.Machine

open Reg

theorem State.leads_clearFields {fl ot : Bool} {r s : State} (h : r.Leads fl ot s) (p : Page) (fs : List Field) :
    r.Leads fl ot (State.clearFields s p fs) := by
  unfold State.clearFields
  exact State.leads_foldl h _ _ fun x0 y0 hx0 => State.leads_wr hx0 _ _ _

theorem State.leads_sat {fl ot : Bool} {r s : State} (h : r.Leads fl ot s) (p : Page) (f : Field) (n : Nat) : r.Leads
    fl ot (State.sat s p f n) := by
  unfold State.sat
  exact State.leads_wr h _ _ _

theorem State.leads_wrBit {fl ot : Bool} {r s : State} (h : r.Leads fl ot s) (p : Page) (f : Field) (i : Nat) (b :
    Bool) : r.Leads fl ot (State.wrBit s p f i b) := by
  unfold State.wrBit
  exact State.leads_wr h _ _ _

theorem State.leads_count {fl ot : Bool} {r s : State} (h : r.Leads fl ot s) (p : Page) (f : Field) : r.Leads fl ot
    (State.count s p f) := by
  unfold State.count
  exact State.leads_sat h _ _ _

end Sys2Proof.Machine
end

