-- ==== Sys2Proof/Laws/Lead/Reset.lean ====
section
/-! SUPPORT. What the operations of Machine/Reset.lean keep (State.Leads of Laws/Leads.lean). -/

namespace Sys2Proof.Machine

open Reg

theorem State.leads_dueCredit {fl ot : Bool} {r s : State} (h : r.Leads fl ot s) (port : Nat) (id : Nat) : r.Leads fl
    ot (State.dueCredit s port id) := by
  unfold State.dueCredit
  extract_lets -merge -underBinder +onlyGivenNames x0
  try clear_value x0
  exact State.leads_ite h (State.leads_mk h ..)

theorem State.leads_freeBuf {fl ot : Bool} {r s : State} (h : r.Leads fl ot s) (q : QPkt) : r.Leads fl ot
    (State.freeBuf s q) := by
  unfold State.freeBuf
  refine State.leads_ite ?_ ?_
  · exact h
  · extract_lets -merge -underBinder +onlyGivenNames x0
    try clear_value x0
    split
    · extract_lets -merge -underBinder +onlyGivenNames x1
      have hx1 : r.Leads fl ot x1 := State.leads_wr h _ _ _
      clear_value x1
      extract_lets -merge -underBinder +onlyGivenNames x2
      have hx2 : r.Leads fl ot x2 := State.leads_wr hx1 _ _ _
      clear_value x2
      exact State.leads_when hx2 _ _ (fun x3 hx3 => State.leads_dueCredit hx3 _ _)
    · exact State.leads_wr h _ _ _
    · extract_lets -merge -underBinder +onlyGivenNames x4
      try clear_value x4
      extract_lets -merge -underBinder +onlyGivenNames x5
      have hx5 : r.Leads fl ot x5 := State.leads_wr h _ _ _
      clear_value x5
      extract_lets -merge -underBinder +onlyGivenNames x6
      have hx6 : r.Leads fl ot x6 := State.leads_wr hx5 _ _ _
      clear_value x6
      exact State.leads_when hx6 _ _ (fun x7 hx7 => State.leads_dueCredit hx7 _ _)

theorem State.leads_killCells {fl ot : Bool} {r s : State} (h : r.Leads fl ot s) (k : Nat) (cs : List Cell) : r.Leads
    fl ot (State.killCells s k cs) := by
  unfold State.killCells
  extract_lets -merge -underBinder +onlyGivenNames x0
  try clear_value x0
  exact State.leads_mk h ..

theorem State.leads_discardOutput {fl ot : Bool} {r s : State} (h : r.Leads fl ot s) (k : Nat) : r.Leads fl ot
    (State.discardOutput s k) := by
  unfold State.discardOutput
  extract_lets -merge -underBinder +onlyGivenNames x0
  try clear_value x0
  extract_lets -merge -underBinder +onlyGivenNames x1
  have hx1 : r.Leads fl ot x1 := State.leads_killCells (State.leads_sat h _ _ _) _ _
  clear_value x1
  exact State.leads_mk hx1 ..

theorem State.leads_haltOutput {fl ot : Bool} {r s : State} (h : r.Leads fl ot s) (k : Nat) : r.Leads fl ot
    (State.haltOutput s k) := by
  unfold State.haltOutput
  exact State.leads_wr (State.leads_discardOutput h _) _ _ _

theorem State.leads_putPca {fl ot : Bool} {r s : State} (h : r.Leads fl ot s) (n : Nat) (p : Pca) : r.Leads fl ot
    (State.putPca s n p) := by
  unfold State.putPca
  exact State.leads_mk h ..

theorem State.leads_setDisp {fl ot : Bool} {r s : State} (h : r.Leads fl ot s) (n : Nat) (d : Disp) : r.Leads fl ot
    (State.setDisp s n d) := by
  unfold State.setDisp
  exact State.leads_mk h ..

theorem State.leads_pcieTotals {fl ot : Bool} {r s : State} (h : r.Leads fl ot s) (n : Nat) : r.Leads fl ot
    (State.pcieTotals s n) := by
  unfold State.pcieTotals
  extract_lets -merge -underBinder +onlyGivenNames x0
  try clear_value x0
  extract_lets -merge -underBinder +onlyGivenNames x1
  have hx1 : r.Leads fl ot x1 := State.leads_wr h _ _ _
  clear_value x1
  extract_lets -merge -underBinder +onlyGivenNames x2
  have hx2 : r.Leads fl ot x2 := State.leads_wr hx1 _ _ _
  clear_value x2
  extract_lets -merge -underBinder +onlyGivenNames x3
  have hx3 : r.Leads fl ot x3 := State.leads_wr hx2 _ _ _
  clear_value x3
  exact State.leads_wr hx3 _ _ _

theorem State.leads_setEth {fl ot : Bool} {r s : State} (h : r.Leads fl ot s) (n : Nat) (e : Eth) : r.Leads fl ot
    (State.setEth s n e) := by
  unfold State.setEth
  exact State.leads_mk h ..

theorem State.leads_haltSwitch {fl ot : Bool} {r s : State} (h : r.Leads fl ot s) (n : Nat) : r.Leads fl ot
    (State.haltSwitch s n) := by
  unfold State.haltSwitch
  extract_lets -merge -underBinder +onlyGivenNames x0
  try clear_value x0
  exact State.leads_ite (State.leads_haltOutput h _) (State.leads_ite (State.leads_wr h _ _ _) (State.leads_wr h _ _ _))

theorem State.leads_urTo {fl ot : Bool} {r s : State} (h : r.Leads fl ot s) (n : Nat) (req : Nat) (tag : Nat) : r.Leads
    fl ot (State.urTo s n req tag) := by
  unfold State.urTo
  exact State.leads_count (State.leads_send h _) _ _

theorem State.leads_pcaDiscard {fl ot : Bool} {r s : State} (h : r.Leads fl ot s) (n : Nat) : r.Leads fl ot
    (State.pcaDiscard s n) := by
  unfold State.pcaDiscard
  extract_lets -merge -underBinder +onlyGivenNames x0
  try clear_value x0
  extract_lets -merge -underBinder +onlyGivenNames x1
  have hx1 : r.Leads fl ot x1 := State.leads_foldl h _ _ fun x2 y2 hx2 => State.leads_urTo hx2 _ _ _
  clear_value x1
  extract_lets -merge -underBinder +onlyGivenNames x3
  have hx3 : r.Leads fl ot x3 := State.leads_foldl hx1 _ _ fun x4 y4 hx4 => State.leads_urTo hx4 _ _ _
  clear_value x3
  extract_lets -merge -underBinder +onlyGivenNames x5
  have hx5 : r.Leads fl ot x5 := State.leads_pcieTotals (State.leads_putPca (State.leads_sat hx3 _ _ _) _ _) _
  clear_value x5
  exact State.leads_wr (State.leads_wr hx5 _ _ _) _ _ _

theorem State.leads_emptySwitch {fl ot : Bool} {r s : State} (h : r.Leads fl ot s) : r.Leads fl ot (State.emptySwitch
    s) := by
  unfold State.emptySwitch
  extract_lets -merge -underBinder +onlyGivenNames x0
  try clear_value x0
  extract_lets -merge -underBinder +onlyGivenNames x1
  try clear_value x1
  extract_lets -merge -underBinder +onlyGivenNames x2
  have hx2 : r.Leads fl ot x2 := State.leads_sat h _ _ _
  clear_value x2
  extract_lets -merge -underBinder +onlyGivenNames x3
  have hx3 : r.Leads fl ot x3 := State.leads_foldl hx2 _ _ fun x4 y4 hx4 => State.leads_freeBuf hx4 _
  clear_value x3
  exact State.leads_mk hx3 ..

theorem State.leads_resetBlockData {fl ot : Bool} {r s : State} (h : r.Leads fl ot s) (p : Page) : r.Leads fl ot
    (State.resetBlockData s p) := by
  unfold State.resetBlockData
  split
  · exact State.leads_emptySwitch h
  · exact State.leads_pcaDiscard h _
  · exact State.leads_pcieTotals h _
  · exact State.leads_setDisp h _ _
  · exact State.leads_setEth h _ _
  · exact State.leads_mk h ..
  · exact State.leads_mk h ..
  · exact State.leads_mk h ..
  · exact State.leads_mk h ..
  · exact State.leads_mk h ..
  · exact State.leads_setDisp h _ _
  · exact h

theorem State.leads_usbPush {fl ot : Bool} {r s : State} (h : r.Leads fl ot s) (k : Nat) (bs : List Byte) : r.Leads fl
    ot (State.usbPush s k bs) := by
  unfold State.usbPush
  exact State.leads_mk h ..

end Sys2Proof.Machine
end

