-- ==== Sys2Proof/Laws/Lead/Flags.lean ====
section
/-! SUPPORT. What the operations of Machine/Flags.lean keep (State.Leads of Laws/Leads.lean). -/

namespace Sys2Proof.Machine

open Reg

theorem State.leads_sendMsix {fl ot : Bool} {r s : State} (h : r.Leads fl ot s) (d : Nat) (e : Nat) : r.Leads fl ot
    (State.sendMsix s d e) := by
  unfold State.sendMsix
  extract_lets -merge -underBinder +onlyGivenNames x0
  try clear_value x0
  extract_lets -merge -underBinder +onlyGivenNames x1
  have hx1 : r.Leads fl ot x1 := State.leads_wr h _ _ _
  clear_value x1
  exact State.leads_ite (State.leads_ite h (State.leads_ite hx1 (State.leads_usbPush h _ _))) (State.leads_ite h
      (State.leads_ite (State.leads_send h _) hx1))

theorem State.leads_request {fl ot : Bool} {r s : State} (h : r.Leads fl ot s) (p : Page) : r.Leads fl ot
    (State.request s p) := by
  unfold State.request
  exact State.leads_ite h (State.leads_sendMsix h _ _)

theorem State.leads_setInt {fl ot : Bool} {r s : State} (h : r.Leads fl ot s) (p : Page) (i : Nat) : r.Leads fl ot
    (State.setInt s p i) := by
  unfold State.setInt
  extract_lets -merge -underBinder +onlyGivenNames x0
  try clear_value x0
  exact State.leads_when (State.leads_wr h _ _ _) _ _ (fun x1 hx1 => State.leads_request hx1 _)

theorem State.leads_contain {fl ot : Bool} {r s : State} (h : r.Leads fl ot s) (p : Page) (n : Nat) : r.Leads fl ot
    (State.contain s p n) := by
  unfold State.contain
  extract_lets -merge -underBinder +onlyGivenNames x0
  have hx0 : r.Leads fl ot x0 := State.leads_wr h _ _ _
  clear_value x0
  split
  · exact State.leads_wr hx0 _ _ _
  · exact State.leads_haltSwitch hx0 _
  · exact hx0

theorem State.leads_sevEffect {fl ot : Bool} {r s : State} (h : r.Leads fl ot s) (reset : State → Page → State) (p :
    Page) (n : Nat) (v : Nat) (hreset : ∀ t p, r.Leads fl ot t → r.Leads fl ot (reset t p)) : r.Leads fl ot
    (State.sevEffect s reset p n v) := by
  unfold State.sevEffect
  extract_lets -merge -underBinder +onlyGivenNames x0
  have hx0 : r.Leads fl ot x0 := State.leads_when h _ _ (fun x1 hx1 => State.leads_setInt hx1 _ _)
  clear_value x0
  exact State.leads_ite (State.leads_contain hx0 _ _) (State.leads_ite (hreset _ _ hx0) hx0)

theorem State.leads_graceUpdate {fl ot : Bool} {r s : State} (h : r.Leads fl ot s) (p : Page) : r.Leads fl ot
    (State.graceUpdate s p) := by
  unfold State.graceUpdate
  exact State.leads_ite (State.leads_ite h (State.leads_wr (State.leads_wr h _ _ _) _ _ _)) (State.leads_wr h _ _ _)

theorem State.leads_escalateBy {fl ot : Bool} {r s : State} (h : r.Leads fl ot s) (reset : State → Page → State) (p :
    Page) (n : Nat) (hreset : ∀ t p, r.Leads fl ot t → r.Leads fl ot (reset t p)) : r.Leads fl ot (State.escalateBy s
    reset p n) := by
  unfold State.escalateBy
  extract_lets -merge -underBinder +onlyGivenNames x0
  try clear_value x0
  extract_lets -merge -underBinder +onlyGivenNames x1
  have hx1 : r.Leads fl ot x1 := State.leads_wr h _ _ _
  clear_value x1
  refine State.leads_ite ?_ ?_
  · exact hx1
  · extract_lets -merge -underBinder +onlyGivenNames x2
    have hx2 : r.Leads fl ot x2 := State.leads_wr hx1 _ _ _
    clear_value x2
    extract_lets -merge -underBinder +onlyGivenNames x3
    have hx3 : r.Leads fl ot x3 := State.leads_when hx2 _ _ (fun x4 hx4 => State.leads_wr hx4 _ _ _)
    clear_value x3
    exact State.leads_graceUpdate (State.leads_sevEffect hx3 _ _ _ _ (fun x5 y5_0 hx5 => hreset _ _ hx5)) _

theorem State.leads_resetWhere {fl ot : Bool} {r s : State} (h : r.Leads fl ot s) (q : Page → Cls → Bool) : r.Leads fl
    ot (State.resetWhere s q) := by
  unfold State.resetWhere
  dsimp only
  repeat' (with_reducible first
    | assumption | apply State.leads_when | apply State.leads_foldl | intro _ | apply State.leads_keep
    | apply State.leads_ite | apply State.leads_of_fst (by assumption) | split | apply State.leads_mk)

theorem State.leads_resetShadow {fl ot : Bool} {r s : State} (h : r.Leads fl ot s) (p : Page) (fs : List Field) :
    r.Leads fl ot (State.resetShadow s p fs) := by
  unfold State.resetShadow
  exact State.leads_foldl h _ _ fun x0 y0 hx0 => State.leads_foldl hx0 _ _ fun x1 y1 hx1 => State.leads_wrA
      (State.leads_wr hx1 _ _ _) _ _ _

theorem State.leads_resetArm {fl ot : Bool} {r s : State} (h : r.Leads fl ot s) (p : Page) : r.Leads fl ot
    (State.resetArm s p) := by
  unfold State.resetArm
  extract_lets -merge -underBinder +onlyGivenNames x0
  have hx0 : r.Leads fl ot x0 := (by
      unfold x0
      refine State.leads_when ?_ _ _ (fun x1 hx1 => ?_)
      · exact h
      · extract_lets -merge -underBinder +onlyGivenNames x2
        have hx2 : r.Leads fl ot x2 := State.leads_resetShadow hx1 _ _
        clear_value x2
        exact State.leads_when hx2 _ _ (fun x3 hx3 => State.leads_clearFields hx3 _ _))
  clear_value x0
  extract_lets -merge -underBinder +onlyGivenNames x4
  have hx4 : r.Leads fl ot x4 := State.leads_when hx0 _ _ (fun x5 hx5 => State.leads_resetShadow hx5 _ _)
  clear_value x4
  exact State.leads_when (State.leads_wr hx4 _ _ _) _ _ (fun x6 hx6 => State.leads_wr hx6 _ _ _)

theorem State.leads_resetPage {fl ot : Bool} {r s : State} (h : r.Leads fl ot s) (p : Page) : r.Leads fl ot
    (State.resetPage s p) := by
  unfold State.resetPage
  refine State.leads_ite ?_ ?_
  · exact h
  · extract_lets -merge -underBinder +onlyGivenNames x0
    have hx0 : r.Leads fl ot x0 := State.leads_resetArm h _
    clear_value x0
    extract_lets -merge -underBinder +onlyGivenNames x1
    have hx1 : r.Leads fl ot x1 := State.leads_resetBlockData (State.leads_resetWhere hx0 _) _
    clear_value x1
    exact State.leads_wr (State.leads_wr hx1 _ _ _) _ _ _

theorem State.leads_captureErr {fl ot : Bool} {r s : State} (h : r.Leads fl ot s) (p : Page) (n : Nat) (v : Nat) :
    r.Leads fl ot (State.captureErr s p n v) := by
  unfold State.captureErr
  exact State.leads_wr (State.leads_wr (State.leads_wr (State.leads_wr (State.leads_wr (State.leads_wr h _ _ _) _ _ _)
      _ _ _) _ _ _) _ _ _) _ _ _

theorem State.leads_raiseBy {fl ot : Bool} {r s : State} (h : r.Leads fl ot s) (reset : State → Page → State) (p :
    Page) (n : Nat) (hreset : ∀ t p, r.Leads fl ot t → r.Leads fl ot (reset t p)) : r.Leads fl ot (State.raiseBy s
    reset p n) := by
  unfold State.raiseBy
  refine State.leads_ite ?_ ?_
  · extract_lets -merge -underBinder +onlyGivenNames x0
    have hx0 : r.Leads fl ot x0 := State.leads_when h _ _ (fun x1 hx1 => State.leads_count hx1 _ _)
    clear_value x0
    exact State.leads_ite (State.leads_when hx0 _ _ (fun x2 hx2 => State.leads_wr hx2 _ _ _)) (State.leads_escalateBy
        hx0 _ _ _ (fun x3 y3_0 hx3 => hreset _ _ hx3))
  · extract_lets -merge -underBinder +onlyGivenNames x4
    try clear_value x4
    extract_lets -merge -underBinder +onlyGivenNames x5
    have hx5 : r.Leads fl ot x5 := State.leads_wr (State.leads_wr h _ _ _) _ _ _
    clear_value x5
    extract_lets -merge -underBinder +onlyGivenNames x6
    have hx6 : r.Leads fl ot x6 := State.leads_when hx5 _ _ (fun x7 hx7 => State.leads_captureErr hx7 _ _ _)
    clear_value x6
    exact State.leads_graceUpdate (State.leads_sevEffect hx6 _ _ _ _ (fun x8 y8_0 hx8 => hreset _ _ hx8)) _

theorem State.leads_sliceIdle {fl ot : Bool} {r s : State} (h : r.Leads fl ot s) : r.Leads fl ot (State.sliceIdle s) :=
    by
  unfold State.sliceIdle
  extract_lets -merge -underBinder +onlyGivenNames x0
  have hx0 : r.Leads fl ot x0 := State.leads_when h _ _ (fun x1 hx1 => State.leads_wr hx1 _ _ _)
  clear_value x0
  extract_lets -merge -underBinder +onlyGivenNames x2
  have hx2 : r.Leads fl ot x2 := State.leads_clearFields hx0 _ _
  clear_value x2
  exact State.leads_wr hx2 _ _ _

theorem State.leads_sliceAbort {fl ot : Bool} {r s : State} (h : r.Leads fl ot s) : r.Leads fl ot (State.sliceAbort s)
    := by
  unfold State.sliceAbort
  extract_lets -merge -underBinder +onlyGivenNames x0
  have hx0 : r.Leads fl ot x0 := State.leads_count (State.leads_sliceIdle h) _ _
  clear_value x0
  exact State.leads_ite (State.leads_when hx0 _ _ (fun x1 hx1 => State.leads_wr (State.leads_count hx1 _ _) _ _ _))
      (State.leads_raiseBy hx0 _ _ _ (fun x2 y2_0 hx2 => State.leads_resetPage hx2 _))

theorem State.leads_softReset {fl ot : Bool} {r s : State} (h : r.Leads fl ot s) (p : Page) : r.Leads fl ot
    (State.softReset s p) := by
  unfold State.softReset
  exact State.leads_ite (State.leads_wr h _ _ _) (State.leads_ite h (State.leads_resetPage (State.leads_when h _ _ (fun
      x0 hx0 => State.leads_sliceAbort hx0)) _))

theorem State.leads_escalate {fl ot : Bool} {r s : State} (h : r.Leads fl ot s) (p : Page) (n : Nat) : r.Leads fl ot
    (State.escalate s p n) := by
  unfold State.escalate
  exact State.leads_escalateBy h _ _ _ (fun x0 y0_0 hx0 => State.leads_softReset hx0 _)

theorem State.leads_releaseMsix {fl ot : Bool} {r s : State} (h : r.Leads fl ot s) (d : Nat) : r.Leads fl ot
    (State.releaseMsix s d) := by
  unfold State.releaseMsix
  exact State.leads_foldl h _ _ fun x0 y0 hx0 => State.leads_when hx0 _ _ (fun x1 hx1 => State.leads_sendMsix
      (State.leads_wr hx1 _ _ _) _ _)

theorem State.leads_raise {fl ot : Bool} {r s : State} (h : r.Leads fl ot s) (p : Page) (n : Nat) : r.Leads fl ot
    (State.raise s p n) := by
  unfold State.raise
  exact State.leads_raiseBy h _ _ _ (fun x0 y0_0 hx0 => State.leads_softReset hx0 _)

theorem State.leads_drop {fl ot : Bool} {r s : State} (h : r.Leads fl ot s) (p : Page) (who : Initiator) (why : Nat)
    (addr : Nat) : r.Leads fl ot (State.drop s p who why addr) := by
  unfold State.drop
  extract_lets -merge -underBinder +onlyGivenNames x0
  have hx0 : r.Leads fl ot x0 := State.leads_setInt (State.leads_wr (State.leads_wr h _ _ _) _ _ _) _ _
  clear_value x0
  refine State.leads_when ?_ _ _ (fun x1 hx1 => ?_)
  · exact hx0
  · extract_lets -merge -underBinder +onlyGivenNames x2
    have hx2 : r.Leads fl ot x2 := State.leads_wr (State.leads_wr hx1 _ _ _) _ _ _
    clear_value x2
    exact State.leads_raise (State.leads_count hx2 _ _) _ _

theorem State.leads_ackErr {fl ot : Bool} {r s : State} (h : r.Leads fl ot s) (p : Page) (n : Nat) : r.Leads fl ot
    (State.ackErr s p n) := by
  unfold State.ackErr
  extract_lets -merge -underBinder +onlyGivenNames x0
  have hx0 : r.Leads fl ot x0 := State.leads_when h _ _ (fun x1 hx1 => State.leads_wr hx1 _ _ _)
  clear_value x0
  extract_lets -merge -underBinder +onlyGivenNames x2
  have hx2 : r.Leads fl ot x2 := State.leads_wr (State.leads_wr (State.leads_wr hx0 _ _ _) _ _ _) _ _ _
  clear_value x2
  exact State.leads_graceUpdate hx2 _

theorem State.leads_applyFields {fl ot : Bool} {r s : State} (h : r.Leads fl ot s) (p : Page) (fs : List Field) :
    r.Leads fl ot (State.applyFields s p fs) := by
  unfold State.applyFields
  exact State.leads_foldl h _ _ fun x0 y0 hx0 => State.leads_foldl hx0 _ _ fun x1 y1 hx1 => State.leads_wrA hx1 _ _ _

end Sys2Proof.Machine
end

