-- ==== Sys2Proof/Laws/Lead/Operands.lean ====
section
/-! SUPPORT. What the operations of Machine/Operands.lean keep (State.Leads of Laws/Leads.lean). -/

namespace Sys2Proof.Machine

open Reg

theorem State.leads_gatedAccess {fl ot : Bool} {r s : State} (h : r.Leads fl ot s) (addr : Nat) (write : Bool) :
    r.Leads fl ot (State.gatedAccess s addr write) := by
  unfold State.gatedAccess
  extract_lets -merge -underBinder +onlyGivenNames x0
  have hx0 : r.Leads fl ot x0 := State.leads_wr (State.leads_wr h _ _ _) _ _ _
  clear_value x0
  exact State.leads_raise (State.leads_count hx0 _ _) _ _

end Sys2Proof.Machine
end

