-- ==== Sys2Proof/Laws/Lead/MemOps.lean ====
section
/-! SUPPORT. What the operations of Machine/MemOps.lean keep (State.Leads of Laws/Leads.lean). -/

namespace Sys2Proof.Machine

open Reg

theorem State.leads_memAccrue {fl ot : Bool} {r s : State} (h : r.Leads fl ot s) (t : Nat) : r.Leads fl ot
    (State.memAccrue s t) := by
  unfold State.memAccrue
  extract_lets -merge -underBinder +onlyGivenNames x0
  try clear_value x0
  extract_lets -merge -underBinder +onlyGivenNames x1
  try clear_value x1
  extract_lets -merge -underBinder +onlyGivenNames x2
  have hx2 : r.Leads fl ot x2 := State.leads_when h _ _ (fun x3 hx3 => State.leads_sat hx3 _ _ _)
  clear_value x2
  extract_lets -merge -underBinder +onlyGivenNames x4
  have hx4 : r.Leads fl ot x4 := State.leads_when hx2 _ _ (fun x5 hx5 => State.leads_sat hx5 _ _ _)
  clear_value x4
  exact State.leads_wr hx4 _ _ _

theorem State.leads_memRoll {fl ot : Bool} {r s : State} (h : r.Leads fl ot s) : r.Leads fl ot (State.memRoll s) := by
  unfold State.memRoll
  extract_lets -merge -underBinder +onlyGivenNames x0
  try clear_value x0
  extract_lets -merge -underBinder +onlyGivenNames x1
  try clear_value x1
  refine State.leads_ite ?_ ?_
  · exact State.leads_memAccrue h _
  · extract_lets -merge -underBinder +onlyGivenNames x2
    try clear_value x2
    extract_lets -merge -underBinder +onlyGivenNames x3
    try clear_value x3
    extract_lets -merge -underBinder +onlyGivenNames x4
    have hx4 : r.Leads fl ot x4 := State.leads_memAccrue h _
    clear_value x4
    extract_lets -merge -underBinder +onlyGivenNames x5
    try clear_value x5
    extract_lets -merge -underBinder +onlyGivenNames x6
    try clear_value x6
    extract_lets -merge -underBinder +onlyGivenNames x7
    have hx7 : r.Leads fl ot x7 := State.leads_wr (State.leads_wr hx4 _ _ _) _ _ _
    clear_value x7
    extract_lets -merge -underBinder +onlyGivenNames x8
    have hx8 : r.Leads fl ot x8 := State.leads_foldl hx7 _ _ fun x9 y9 hx9 => State.leads_wr (State.leads_wr hx9 _ _ _)
        _ _ _
    clear_value x8
    extract_lets -merge -underBinder +onlyGivenNames x10
    have hx10 : r.Leads fl ot x10 := State.leads_wr (State.leads_wr (State.leads_wr hx8 _ _ _) _ _ _) _ _ _
    clear_value x10
    exact State.leads_memAccrue (State.leads_wr hx10 _ _ _) _

theorem State.leads_memReport {fl ot : Bool} {r s : State} (h : r.Leads fl ot s) (k : Nat) (tol : Nat) : r.Leads fl ot
    (State.memReport s k tol) := by
  unfold State.memReport
  exact State.leads_wr (State.leads_wr h _ _ _) _ _ _

theorem State.leads_memTouch {fl ot : Bool} {r s : State} (h : r.Leads fl ot s) (k : Nat) (n : Nat) : r.Leads fl ot
    (State.memTouch s k n) := by
  unfold State.memTouch
  extract_lets -merge -underBinder +onlyGivenNames x0
  have hx0 : r.Leads fl ot x0 := State.leads_memRoll h
  clear_value x0
  extract_lets -merge -underBinder +onlyGivenNames x1
  have hx1 : r.Leads fl ot x1 := State.leads_when hx0 _ _ (fun x2 hx2 => State.leads_wr hx2 _ _ _)
  clear_value x1
  exact State.leads_wr (State.leads_sat hx1 _ _ _) _ _ _

theorem State.leads_addrErr {fl ot : Bool} {r s : State} (h : r.Leads fl ot s) : r.Leads fl ot (State.addrErr s) := by
  unfold State.addrErr
  exact State.leads_raise h _ _

theorem State.leads_memWrite {fl ot : Bool} {r s : State} (h : r.Leads fl ot s) (k a : Nat) (bs : List Byte) :
    r.Leads fl ot (State.memWrite s k a bs) := by
  unfold State.memWrite
  split
  · extract_lets room u t
    have ht : r.Leads fl ot t := State.leads_dram (State.leads_memTouch h k bs.length) _ (Mem.wf_writeList _ _)
    exact State.leads_when ht _ _ fun u hu => State.leads_addrErr hu
  · exact State.leads_when h _ _ fun u hu => State.leads_addrErr hu

theorem State.leads_memState {fl ot : Bool} {r s : State} (h : r.Leads fl ot s) (st : Nat) : r.Leads fl ot
    (State.memState s st) := by
  unfold State.memState
  exact State.leads_wr (State.leads_memRoll h) _ _ _

theorem State.leads_memRead {fl ot : Bool} {r s : State} (h : r.Leads fl ot s) (k : Nat) (a : Nat) (n : Nat) : r.Leads
    fl ot (State.memRead s k a n) := by
  unfold State.memRead
  exact State.leads_ite (State.leads_when (State.leads_memTouch h _ _) _ _ (fun x0 hx0 => State.leads_addrErr hx0))
      (State.leads_when h _ _ (fun x1 hx1 => State.leads_addrErr hx1))

end Sys2Proof.Machine
end

