-- ==== Sys2Proof/Laws/Lead/SwitchOps.lean ====
section
/-! SUPPORT. What the operations of Machine/SwitchOps.lean keep (State.Leads of Laws/Leads.lean). -/

namespace Sys2Proof.Machine

open Reg

theorem State.leads_takeEntry {fl ot : Bool} {r s : State} (h : r.Leads fl ot s) (k : Nat) (c : Nat) (f : Frame) (pos :
    Nat) (e : Ent) : r.Leads fl ot (State.takeEntry s k c f pos e) := by
  unfold State.takeEntry
  extract_lets -merge -underBinder +onlyGivenNames x0
  try clear_value x0
  extract_lets -merge -underBinder +onlyGivenNames x1
  try clear_value x1
  extract_lets -merge -underBinder +onlyGivenNames x2
  try clear_value x2
  exact State.leads_mk h ..

theorem State.leads_popPad {fl ot : Bool} {r s : State} (h : r.Leads fl ot s) (k : Nat) (c : Nat) : r.Leads fl ot
    (State.popPad s k c) := by
  unfold State.popPad
  split
  · exact State.leads_ite (State.leads_count (State.leads_takeEntry h _ _ _ _ _) _ _) h
  · exact h

theorem State.leads_stage {fl ot : Bool} {r s : State} (h : r.Leads fl ot s) (port : Nat) (q : QPkt) : r.Leads fl ot
    (State.stage s port q) := by
  unfold State.stage
  extract_lets -merge -underBinder +onlyGivenNames x0
  try clear_value x0
  extract_lets -merge -underBinder +onlyGivenNames x1
  try clear_value x1
  extract_lets -merge -underBinder +onlyGivenNames x2
  try clear_value x2
  exact State.leads_mk h ..

theorem State.leads_leave {fl ot : Bool} {r s : State} (h : r.Leads fl ot s) (k : Nat) (q : QPkt) : r.Leads fl ot
    (State.leave s k q) := by
  unfold State.leave
  extract_lets -merge -underBinder +onlyGivenNames x0
  try clear_value x0
  refine State.leads_ite ?_ ?_
  · exact State.leads_ite (State.leads_raise (State.leads_count h _ _) _ _) (State.leads_stage h _ _)
  · split
    · exact State.leads_mk h ..
    · exact State.leads_send h _

theorem State.leads_startFrame {fl ot : Bool} {r s : State} (h : r.Leads fl ot s) (i : Nat) (f : Flow) (timer : Bool) :
    r.Leads fl ot (State.startFrame s i f timer) := by
  unfold State.startFrame
  extract_lets -merge -underBinder +onlyGivenNames x0
  try clear_value x0
  extract_lets -merge -underBinder +onlyGivenNames x1
  try clear_value x1
  extract_lets -merge -underBinder +onlyGivenNames x2
  try clear_value x2
  extract_lets -merge -underBinder +onlyGivenNames x3
  try clear_value x3
  extract_lets -merge -underBinder +onlyGivenNames x4
  try clear_value x4
  extract_lets -merge -underBinder +onlyGivenNames x5
  have hx5 : r.Leads fl ot x5 := State.leads_mk h ..
  clear_value x5
  extract_lets -merge -underBinder +onlyGivenNames x6
  have hx6 : r.Leads fl ot x6 := State.leads_sat (State.leads_wr (State.leads_wr hx5 _ _ _) _ _ _) _ _ _
  clear_value x6
  extract_lets -merge -underBinder +onlyGivenNames x7
  have hx7 : r.Leads fl ot x7 := State.leads_foldl hx6 _ _ fun x8 y8 hx8 => State.leads_wr hx8 _ _ _
  clear_value x7
  exact State.leads_when (State.leads_count hx7 _ _) _ _ (fun x9 hx9 => State.leads_count hx9 _ _)

theorem State.leads_capLost {fl ot : Bool} {r s : State} (h : r.Leads fl ot s) (raised : Bool) : r.Leads fl ot
    (State.capLost s raised) := by
  unfold State.capLost
  exact State.leads_when (State.leads_count h _ _) _ _ (fun x0 hx0 => State.leads_raise hx0 _ _)

theorem State.leads_capElect {fl ot : Bool} {r s : State} (h : r.Leads fl ot s) (point : Nat) (port : Nat) (cls : Nat)
    (pathId : Nat) : r.Leads fl ot (State.capElect s point port cls pathId).1 := by
  unfold State.capElect
  refine State.leads_foldl_fst ?_ _ _ fun x0 y0 hx0 => ?_
  · exact State.leads_pair h
  refine State.leads_ite_fst ?_ ?_
  · extract_lets -merge -underBinder +onlyGivenNames x1
    try clear_value x1
    exact State.leads_pair (State.leads_wr hx0 _ _ _)
  · exact hx0

theorem State.leads_fillCtrl {fl ot : Bool} {r s : State} (h : r.Leads fl ot s) (e : Nat) : r.Leads fl ot
    (State.fillCtrl s e) := by
  unfold State.fillCtrl
  extract_lets -merge -underBinder +onlyGivenNames x0
  try clear_value x0
  extract_lets -merge -underBinder +onlyGivenNames x1
  try clear_value x1
  exact State.leads_wr (State.leads_wr h _ _ _) _ _ _

theorem State.leads_setTokens {fl ot : Bool} {r s : State} (h : r.Leads fl ot s) (h : Nat) (t : Int) : r.Leads fl ot
    (State.setTokens s h t) := by
  unfold State.setTokens
  dsimp only
  repeat' (with_reducible first
    | assumption | apply State.leads_wr | apply State.leads_when | apply State.leads_foldl | intro _
    | apply State.leads_ite | apply State.leads_of_fst (by assumption) | split)

theorem State.leads_watchRoom {fl ot : Bool} {r s : State} (h : r.Leads fl ot s) (idle : List Nat) : r.Leads fl ot
    (State.watchRoom s idle) := by
  unfold State.watchRoom
  extract_lets -merge -underBinder +onlyGivenNames x0
  try clear_value x0
  refine State.leads_foldl ?_ _ _ fun x1 y1 hx1 => ?_
  · exact h
  extract_lets -merge -underBinder +onlyGivenNames x2
  try clear_value x2
  extract_lets -merge -underBinder +onlyGivenNames x3
  have hx3 : r.Leads fl ot x3 := State.leads_when hx1 _ _ (fun x4 hx4 => State.leads_count hx4 _ _)
  clear_value x3
  refine State.leads_ite ?_ ?_
  · extract_lets -merge -underBinder +onlyGivenNames x5
    try clear_value x5
    extract_lets -merge -underBinder +onlyGivenNames x6
    have hx6 : r.Leads fl ot x6 := State.leads_wr (State.leads_wr hx3 _ _ _) _ _ _
    clear_value x6
    exact State.leads_when hx6 _ _ (fun x7 hx7 => State.leads_raise (State.leads_wr hx7 _ _ _) _ _)
  · exact State.leads_ite (State.leads_wr hx3 _ _ _) hx3

theorem State.leads_watchPool {fl ot : Bool} {r s : State} (h : r.Leads fl ot s) : r.Leads fl ot (State.watchPool s) :=
    by
  unfold State.watchPool
  extract_lets -merge -underBinder +onlyGivenNames x0
  try clear_value x0
  extract_lets -merge -underBinder +onlyGivenNames x1
  try clear_value x1
  extract_lets -merge -underBinder +onlyGivenNames x2
  try clear_value x2
  extract_lets -merge -underBinder +onlyGivenNames x3
  try clear_value x3
  extract_lets -merge -underBinder +onlyGivenNames x4
  have hx4 : r.Leads fl ot x4 := State.leads_wr (State.leads_wr h _ _ _) _ _ _
  clear_value x4
  exact State.leads_when hx4 _ _ (fun x5 hx5 => State.leads_raise (State.leads_wr hx5 _ _ _) _ _)

theorem State.leads_openFrame {fl ot : Bool} {r s : State} (h : r.Leads fl ot s) (k : Nat) (c : Nat) : r.Leads fl ot
    (State.openFrame s k c) := by
  unfold State.openFrame
  extract_lets -merge -underBinder +onlyGivenNames x0
  try clear_value x0
  split
  · exact h
  · refine State.leads_ite ?_ ?_
    · exact h
    · extract_lets -merge -underBinder +onlyGivenNames x1
      try clear_value x1
      exact State.leads_mk h ..

theorem State.leads_noteRel {fl ot : Bool} {r s : State} (h : r.Leads fl ot s) (k : Nat) (c : Nat) : r.Leads fl ot
    (State.noteRel s k c) := by
  unfold State.noteRel
  extract_lets -merge -underBinder +onlyGivenNames x0
  try clear_value x0
  split
  · exact State.leads_ite (State.leads_mk h ..) h
  · exact h

theorem State.leads_readCell {fl ot : Bool} {r s : State} (h : r.Leads fl ot s) (k : Nat) (c : Nat) (faults : List
    CellFault) : r.Leads fl ot (State.readCell s k c faults) := by
  unfold State.readCell
  split
  · exact h
  · split
    · exact h
    · extract_lets -merge -underBinder +onlyGivenNames x0
      try clear_value x0
      extract_lets -merge -underBinder +onlyGivenNames x1
      have hx1 : r.Leads fl ot x1 := State.leads_count (State.leads_takeEntry h _ _ _ _ _) _ _
      clear_value x1
      extract_lets -merge -underBinder +onlyGivenNames x2
      try clear_value x2
      extract_lets -merge -underBinder +onlyGivenNames x3
      try clear_value x3
      extract_lets -merge -underBinder +onlyGivenNames x4
      have hx4 : r.Leads fl ot x4 := State.leads_mk hx1 ..
      clear_value x4
      extract_lets -merge -underBinder +onlyGivenNames x5
      have hx5 : r.Leads fl ot x5 := State.leads_when hx4 _ _ (fun x6 hx6 => State.leads_raise (State.leads_wr hx6 _ _
          _) _ _)
      clear_value x5
      extract_lets -merge -underBinder +onlyGivenNames x7
      have hx7 : r.Leads fl ot x7 := State.leads_when hx5 _ _ (fun x8 hx8 => State.leads_raise (State.leads_wr
          (State.leads_sat (State.leads_killCells hx8 _ _) _ _ _) _ _ _) _ _)
      clear_value x7
      exact State.leads_noteRel hx7 _ _

theorem State.leads_almDrr {fl ot : Bool} {r s : State} (h : r.Leads fl ot s) (e : Nat) (f2 : Bool × Nat) (f3 : Bool ×
    Nat) : r.Leads fl ot (State.almDrr s e f2 f3).1 := by
  unfold State.almDrr
  extract_lets -merge -underBinder +onlyGivenNames x0
  try clear_value x0
  extract_lets -merge -underBinder +onlyGivenNames x1
  try clear_value x1
  split
  · exact State.leads_pair h
  · exact State.leads_pair (State.leads_wr (State.leads_wr (State.leads_wr h _ _ _) _ _ _) _ _ _)

theorem State.leads_payRow {fl ot : Bool} {r s : State} (h : r.Leads fl ot s) (e : Nat) (a_r : Nat) (n : Nat) : r.Leads
    fl ot (State.payRow s e a_r n) := by
  unfold State.payRow
  exact State.leads_wr h _ _ _

theorem State.leads_payCtrl {fl ot : Bool} {r s : State} (h : r.Leads fl ot s) (e : Nat) (n : Nat) : r.Leads fl ot
    (State.payCtrl s e n) := by
  unfold State.payCtrl
  exact State.leads_wr h _ _ _

theorem State.leads_readClass {fl ot : Bool} {r s : State} (h : r.Leads fl ot s) (k : Nat) : r.Leads fl ot
    (State.readClass s k).1 := by
  unfold State.readClass
  extract_lets -merge -underBinder +onlyGivenNames x0
  try clear_value x0
  extract_lets -merge -underBinder +onlyGivenNames x1
  try clear_value x1
  extract_lets -merge -underBinder +onlyGivenNames x2
  try clear_value x2
  extract_lets -merge -underBinder +onlyGivenNames x3
  have hx3 : r.Leads fl ot x3 := State.leads_fillCtrl h _
  clear_value x3
  exact State.leads_ite_fst (State.leads_pair (State.leads_payCtrl hx3 _ _)) (State.leads_ite_fst (State.leads_pair
      (State.leads_payRow hx3 _ _ _)) (State.leads_almDrr hx3 _ _ _))

theorem State.leads_capReport {fl ot : Bool} {r s : State} (h : r.Leads fl ot s) : r.Leads fl ot (State.capReport s) :=
    by
  unfold State.capReport
  exact State.leads_memReport h _ _

theorem State.leads_capWrite {fl ot : Bool} {r s : State} (h : r.Leads fl ot s) (bytes : Nat → List Byte) : r.Leads fl
    ot (State.capWrite s bytes) := by
  unfold State.capWrite
  extract_lets -merge -underBinder +onlyGivenNames x0
  try clear_value x0
  extract_lets -merge -underBinder +onlyGivenNames x1
  try clear_value x1
  extract_lets -merge -underBinder +onlyGivenNames x2
  try clear_value x2
  extract_lets -merge -underBinder +onlyGivenNames x3
  try clear_value x3
  refine State.leads_ite ?_ ?_
  · exact State.leads_capLost h _
  · refine State.leads_ite ?_ ?_
    · exact State.leads_capLost h _
    · extract_lets -merge -underBinder +onlyGivenNames x4
      have hx4 : r.Leads fl ot x4 := State.leads_when h _ _ (fun x5 hx5 => State.leads_capLost hx5 _)
      clear_value x4
      extract_lets -merge -underBinder +onlyGivenNames x6
      try clear_value x6
      extract_lets -merge -underBinder +onlyGivenNames x7
      try clear_value x7
      exact State.leads_capReport (State.leads_wr (State.leads_mk hx4 ..) _ _ _)

theorem State.leads_capturePoint {fl ot : Bool} {r s : State} (h : r.Leads fl ot s) (point : Nat) (hdr : List Byte) (p
    : Pkt) (inPort : Nat) (outPort : Nat) (cls : Nat) (entry : Nat) (inPath : Nat) (outPath : Nat) (mc : Bool) (secret
    : Bool) : r.Leads fl ot (State.capturePoint s point hdr p inPort outPort cls entry inPath outPath mc secret) := by
  unfold State.capturePoint
  refine State.leads_ite ?_ ?_
  · exact h
  · extract_lets -merge -underBinder +onlyGivenNames x0
    try clear_value x0
    extract_lets -merge -underBinder +onlyGivenNames x1
    try clear_value x1
    split
    · rename_i y2_0 heq2
      have hy2 := State.leads_of_fst (fl := fl) (ot := ot) (r := r) heq2 (State.leads_capElect h _ _ _ _)
      exact hy2
    · rename_i y3_0 y3_1 heq3
      have hy3 := State.leads_of_fst (fl := fl) (ot := ot) (r := r) heq3 (State.leads_capElect h _ _ _ _)
      extract_lets -merge -underBinder +onlyGivenNames x4
      try clear_value x4
      refine State.leads_ite ?_ ?_
      · exact State.leads_capLost hy3 _
      · extract_lets -merge -underBinder +onlyGivenNames x5
        have hx5 : r.Leads fl ot x5 := State.leads_wr hy3 _ _ _
        clear_value x5
        extract_lets -merge -underBinder +onlyGivenNames x6
        try clear_value x6
        extract_lets -merge -underBinder +onlyGivenNames x7
        try clear_value x7
        extract_lets -merge -underBinder +onlyGivenNames x8
        try clear_value x8
        extract_lets -merge -underBinder +onlyGivenNames x9
        try clear_value x9
        extract_lets -merge -underBinder +onlyGivenNames x10
        try clear_value x10
        extract_lets -merge -underBinder +onlyGivenNames x11
        try clear_value x11
        extract_lets -merge -underBinder +onlyGivenNames x12
        try clear_value x12
        exact State.leads_capWrite hx5 _

theorem State.leads_egressCapture {fl ot : Bool} {r s : State} (h : r.Leads fl ot s) (k : Nat) (q : QPkt) : r.Leads fl
    ot (State.egressCapture s k q) := by
  unfold State.egressCapture
  split
  · extract_lets -merge -underBinder +onlyGivenNames x0
    try clear_value x0
    extract_lets -merge -underBinder +onlyGivenNames x1
    try clear_value x1
    extract_lets -merge -underBinder +onlyGivenNames x2
    try clear_value x2
    extract_lets -merge -underBinder +onlyGivenNames z3_0 x3
    try clear_value x3
    extract_lets -merge -underBinder +onlyGivenNames x4
    try clear_value x4
    exact State.leads_capturePoint h _ _ _ _ _ _ _ _ _ _ _

theorem State.leads_release {fl ot : Bool} {r s : State} (h : r.Leads fl ot s) (k : Nat) : r.Leads fl ot (State.release
    s k) := by
  unfold State.release
  split
  · exact h
  · extract_lets -merge -underBinder +onlyGivenNames x0
    try clear_value x0
    extract_lets -merge -underBinder +onlyGivenNames x1
    have hx1 : r.Leads fl ot x1 := State.leads_mk h ..
    clear_value x1
    extract_lets -merge -underBinder +onlyGivenNames x2
    have hx2 : r.Leads fl ot x2 := State.leads_noteRel hx1 _ _
    clear_value x2
    extract_lets -merge -underBinder +onlyGivenNames x3
    have hx3 : r.Leads fl ot x3 := State.leads_foldl hx2 _ _ fun x4 y4 hx4 => State.leads_egressCapture hx4 _ _
    clear_value x3
    exact State.leads_foldl hx3 _ _ fun x5 y5 hx5 => State.leads_ite (State.leads_mk hx5 ..) (State.leads_leave hx5 _ _)

theorem State.leads_outputSlot {fl ot : Bool} {r s : State} (h : r.Leads fl ot s) (k : Nat) (held : Nat) (faults : List
    CellFault) : r.Leads fl ot (State.outputSlot s k held faults) := by
  unfold State.outputSlot
  extract_lets -merge -underBinder +onlyGivenNames x0
  have hx0 : r.Leads fl ot x0 := State.leads_when h _ _ (fun x1 hx1 => State.leads_raise (State.leads_wr hx1 _ _ _) _ _)
  clear_value x0
  extract_lets -merge -underBinder +onlyGivenNames x2
  have hx2 : r.Leads fl ot x2 := State.leads_foldl hx0 _ _ fun x3 y3 hx3 => State.leads_popPad (State.leads_openFrame
      hx3 _ _) _ _
  clear_value x2
  refine State.leads_ite ?_ ?_
  · exact hx2
  · extract_lets -merge -underBinder +onlyGivenNames x4
    have hx4 : r.Leads fl ot x4 := (by
        unfold x4
        split
        · rename_i y5_0 y5_1 heq5
          have hy5 := State.leads_of_fst (fl := fl) (ot := ot) (r := r) heq5 (State.leads_readClass hx2 _)
          exact State.leads_readCell hy5 _ _ _
        · rename_i y6_0 heq6
          have hy6 := State.leads_of_fst (fl := fl) (ot := ot) (r := r) heq6 (State.leads_readClass hx2 _)
          exact hy6)
    clear_value x4
    exact State.leads_ite hx4 (State.leads_release hx4 _)

theorem State.leads_setFlow {fl ot : Bool} {r s : State} (h : r.Leads fl ot s) (inp : Nat) (tgt : Nat) (cls : Nat) (f :
    List Cell → List Cell) : r.Leads fl ot (State.setFlow s inp tgt cls f) := by
  unfold State.setFlow
  extract_lets -merge -underBinder +onlyGivenNames x0
  try clear_value x0
  extract_lets -merge -underBinder +onlyGivenNames x1
  try clear_value x1
  extract_lets -merge -underBinder +onlyGivenNames x2
  try clear_value x2
  extract_lets -merge -underBinder +onlyGivenNames x3
  try clear_value x3
  exact State.leads_mk h ..

theorem State.leads_writePos {fl ot : Bool} {r s : State} (h : r.Leads fl ot s) (g : Prog) : r.Leads fl ot
    (State.writePos s g) := by
  unfold State.writePos
  extract_lets -merge -underBinder +onlyGivenNames x0
  try clear_value x0
  extract_lets -merge -underBinder +onlyGivenNames x1
  have hx1 : r.Leads fl ot x1 := State.leads_ite (State.leads_mk h ..) h
  clear_value x1
  refine State.leads_ite ?_ ?_
  · exact hx1
  · extract_lets -merge -underBinder +onlyGivenNames x2
    try clear_value x2
    extract_lets -merge -underBinder +onlyGivenNames x3
    have hx3 : r.Leads fl ot x3 := State.leads_setFlow hx1 _ _ _ _
    clear_value x3
    extract_lets -merge -underBinder +onlyGivenNames x4
    have hx4 : r.Leads fl ot x4 := State.leads_mk hx3 ..
    clear_value x4
    split
    · exact hx4
    · exact State.leads_foldl hx4 _ _ fun x5 y5 hx5 => State.leads_freeBuf hx5 _

theorem State.leads_noPath {fl ot : Bool} {r s : State} (h : r.Leads fl ot s) : r.Leads fl ot (State.noPath s) := by
  unfold State.noPath
  exact State.leads_raise (State.leads_count h _ _) _ _

theorem State.leads_passShaper {fl ot : Bool} {r s : State} (h : r.Leads fl ot s) (q : QPkt) : r.Leads fl ot
    (State.passShaper s q) := by
  unfold State.passShaper
  split
  · exact h
  · exact State.leads_setTokens h _ _

theorem State.leads_promote {fl ot : Bool} {r s : State} (h : r.Leads fl ot s) : r.Leads fl ot (State.promote s) := by
  unfold State.promote
  extract_lets x
  have hx : r.Leads fl ot x.1 := by
    refine State.leads_foldl_fst h _ _ fun t q ht => ?_
    dsimp only
    split
    · exact State.leads_noPath ht
    · split
      · exact ht
      · exact State.leads_pair (State.leads_setFlow (State.leads_passShaper ht _) _ _ _ _)
  clear_value x
  exact State.leads_mk hx ..

theorem State.leads_startFrames {fl ot : Bool} {r s : State} (h : r.Leads fl ot s) (n : Nat) (todo : List Nat) :
    r.Leads fl ot (State.startFrames n s todo) := by
  induction n generalizing s todo with
  | zero => exact h
  | succ n ih =>
    unfold State.startFrames
    extract_lets wants
    clear_value wants
    split
    · exact h
    · split
      · exact ih (State.leads_startFrame h _ _ _) _
      · extract_lets k rivals last win
        clear_value win
        split
        · exact h
        · exact ih (State.leads_startFrame h _ _ _) _

theorem State.leads_cellSlot {fl ot : Bool} {r s : State} (h : r.Leads fl ot s) (held : Nat) (faults : List CellFault)
    : r.Leads fl ot (State.cellSlot s held faults) := by
  unfold State.cellSlot
  extract_lets -merge -underBinder +onlyGivenNames x0
  have hx0 : r.Leads fl ot x0 := State.leads_promote h
  clear_value x0
  extract_lets -merge -underBinder +onlyGivenNames x1
  have hx1 : r.Leads fl ot x1 := State.leads_foldl hx0 _ _ fun x2 y2 hx2 => State.leads_outputSlot hx2 _ _ _
  clear_value x1
  extract_lets -merge -underBinder +onlyGivenNames x3
  try clear_value x3
  extract_lets -merge -underBinder +onlyGivenNames x4
  have hx4 : r.Leads fl ot x4 := State.leads_foldl hx1 _ _ fun x5 y5 hx5 => State.leads_writePos hx5 _
  clear_value x4
  extract_lets -merge -underBinder +onlyGivenNames x6
  try clear_value x6
  extract_lets -merge -underBinder +onlyGivenNames x7
  have hx7 : r.Leads fl ot x7 := State.leads_ite (State.leads_startFrames hx4 _ _) hx4
  clear_value x7
  extract_lets -merge -underBinder +onlyGivenNames x8
  have hx8 : r.Leads fl ot x8 := State.leads_foldl hx7 _ _ fun x9 y9 hx9 => State.leads_writePos hx9 _
  clear_value x8
  exact State.leads_watchPool (State.leads_watchRoom hx8 _)

theorem State.leads_setMc {fl ot : Bool} {r s : State} (h : r.Leads fl ot s) (g : Nat) (w : Nat) (v : Nat) : r.Leads fl
    ot (State.setMc s g w v) := by
  unfold State.setMc
  exact State.leads_mk h ..

theorem State.leads_route {fl ot : Bool} {r s : State} (h : r.Leads fl ot s) (port : Nat) (pathId : Nat) : r.Leads fl
    ot (State.route s port pathId).1 := by
  unfold State.route
  split
  · exact State.leads_pair (State.leads_noPath h)
  · extract_lets -merge -underBinder +onlyGivenNames x0
    try clear_value x0
    refine State.leads_ite_fst ?_ ?_
    · exact State.leads_pair (State.leads_noPath h)
    · refine State.leads_ite_fst ?_ ?_
      · exact State.leads_pair h
      · split
        · exact State.leads_pair (State.leads_count h _ _)
        · extract_lets -merge -underBinder +onlyGivenNames x1
          try clear_value x1
          extract_lets -merge -underBinder +onlyGivenNames x2
          have hx2 : r.Leads fl ot x2 := State.leads_when h _ _ (fun x3 hx3 => State.leads_raise (State.leads_count
              (State.leads_wr (State.leads_wr (State.leads_wr hx3 _ _ _) _ _ _) _ _ _) _ _) _ _)
          clear_value x2
          exact State.leads_pair hx2

theorem State.leads_enterCtrl {fl ot : Bool} {r s : State} (h : r.Leads fl ot s) (inPort : Nat) (outPort : Nat) (icost
    : Nat) (c : Ctrl) : r.Leads fl ot (State.enterCtrl s inPort outPort icost c) := by
  unfold State.enterCtrl
  extract_lets -merge -underBinder +onlyGivenNames x0
  try clear_value x0
  extract_lets -merge -underBinder +onlyGivenNames x1
  try clear_value x1
  exact State.leads_mk h ..

theorem State.leads_enter {fl ot : Bool} {r s : State} (h : r.Leads fl ot s) (k : Nat) (inPort : Nat) (inPath : Nat)
    (icost : Nat) (adapt : Nat) (bytes : List Byte) : r.Leads fl ot (State.enter s k inPort inPath icost adapt bytes)
    := by
  unfold State.enter
  extract_lets -merge -underBinder +onlyGivenNames x0
  try clear_value x0
  extract_lets -merge -underBinder +onlyGivenNames x1
  try clear_value x1
  extract_lets -merge -underBinder +onlyGivenNames x2
  try clear_value x2
  extract_lets -merge -underBinder +onlyGivenNames x3
  try clear_value x3
  extract_lets -merge -underBinder +onlyGivenNames x4
  try clear_value x4
  extract_lets -merge -underBinder +onlyGivenNames x5
  try clear_value x5
  extract_lets -merge -underBinder +onlyGivenNames x6
  try clear_value x6
  extract_lets -merge -underBinder +onlyGivenNames x7
  try clear_value x7
  exact State.leads_mk h ..

theorem State.leads_inject {fl ot : Bool} {r s : State} (h : r.Leads fl ot s) (port : Nat) (pathId : Nat) (adapt : Nat)
    (bytes : List Byte) : r.Leads fl ot (State.inject s port pathId adapt bytes) := by
  unfold State.inject
  split
  · rename_i y0_0 heq0
    have hy0 := State.leads_of_fst (fl := fl) (ot := ot) (r := r) heq0 (State.leads_route h _ _)
    exact hy0
  · rename_i y1_0 y1_1 heq1
    have hy1 := State.leads_of_fst (fl := fl) (ot := ot) (r := r) heq1 (State.leads_route h _ _)
    refine State.leads_ite ?_ ?_
    · exact State.leads_noPath hy1
    · extract_lets -merge -underBinder +onlyGivenNames x2
      try clear_value x2
      extract_lets -merge -underBinder +onlyGivenNames x3
      try clear_value x3
      extract_lets -merge -underBinder +onlyGivenNames x4
      try clear_value x4
      extract_lets -merge -underBinder +onlyGivenNames x5
      try clear_value x5
      extract_lets -merge -underBinder +onlyGivenNames x6
      have hx6 : r.Leads fl ot x6 := State.leads_capturePoint hy1 _ _ _ _ _ _ _ _ _ _ _
      clear_value x6
      exact State.leads_enter hx6 _ _ _ _ _ _

theorem State.leads_accSent {fl ot : Bool} {r s : State} (h : r.Leads fl ot s) (e : Nat) : r.Leads fl ot (State.accSent
    s e) := by
  unfold State.accSent
  extract_lets -merge -underBinder +onlyGivenNames x0
  try clear_value x0
  exact State.leads_wr (State.leads_wr h _ _ _) _ _ _

end Sys2Proof.Machine
end

