-- ==== Sys2Proof/Laws/Lead/PcieOps.lean ====
section
/-! SUPPORT. What the operations of Machine/PcieOps.lean keep (State.Leads of Laws/Leads.lean). -/

namespace Sys2Proof.Machine

open Reg

theorem State.leads_sample {fl ot : Bool} {r s : State} (h : r.Leads fl ot s) (n : Nat) (lv : Nat) : r.Leads fl ot
    (State.sample s n lv) := by
  unfold State.sample
  extract_lets -merge -underBinder +onlyGivenNames x0
  try clear_value x0
  extract_lets -merge -underBinder +onlyGivenNames x1
  try clear_value x1
  extract_lets -merge -underBinder +onlyGivenNames x2
  try clear_value x2
  extract_lets -merge -underBinder +onlyGivenNames x3
  try clear_value x3
  extract_lets -merge -underBinder +onlyGivenNames x4
  try clear_value x4
  exact State.leads_wr h _ _ _

theorem State.leads_unexpected {fl ot : Bool} {r s : State} (h : r.Leads fl ot s) (n : Nat) : r.Leads fl ot
    (State.unexpected s n) := by
  unfold State.unexpected
  exact State.leads_raise (State.leads_count h _ _) _ _

theorem State.leads_sendPieces {fl ot : Bool} {r s : State} (h : r.Leads fl ot s) (n : Nat) (l : List (List Byte)) :
    r.Leads fl ot (State.sendPieces s n l) := by
  induction l generalizing s with
  | nil => exact h
  | cons b l ih =>
    cases l with
    | nil => exact State.leads_inject h _ _ _ _
    | cons c l => exact ih (State.leads_inject h _ _ _ _)

theorem State.leads_tlpOut {fl ot : Bool} {r s : State} (h : r.Leads fl ot s) (n : Nat) (t : Tlp) : r.Leads fl ot
    (State.tlpOut s n t) := by
  unfold State.tlpOut
  exact State.leads_sendPieces h _ _

theorem State.leads_pcaCounts {fl ot : Bool} {r s : State} (h : r.Leads fl ot s) (n : Nat) : r.Leads fl ot
    (State.pcaCounts s n) := by
  unfold State.pcaCounts
  extract_lets -merge -underBinder +onlyGivenNames x0
  try clear_value x0
  extract_lets -merge -underBinder +onlyGivenNames x1
  have hx1 : r.Leads fl ot x1 := State.leads_pcieTotals h _
  clear_value x1
  extract_lets -merge -underBinder +onlyGivenNames x2
  have hx2 : r.Leads fl ot x2 := State.leads_wr (State.leads_wr hx1 _ _ _) _ _ _
  clear_value x2
  extract_lets -merge -underBinder +onlyGivenNames x3
  have hx3 : r.Leads fl ot x3 := State.leads_wr hx2 _ _ _
  clear_value x3
  exact State.leads_when hx3 _ _ (fun x4 hx4 => State.leads_raise hx4 _ _)

theorem State.leads_setPca {fl ot : Bool} {r s : State} (h : r.Leads fl ot s) (n : Nat) (p : Pca) : r.Leads fl ot
    (State.setPca s n p) := by
  unfold State.setPca
  exact State.leads_pcaCounts (State.leads_putPca h _ _) _

theorem State.leads_admitHeld {fl ot : Bool} {r s : State} (h : r.Leads fl ot s) (k n : Nat) :
    r.Leads fl ot (State.admitHeld k s n) := by
  induction k generalizing s with
  | zero => exact h
  | succ k ih =>
    unfold State.admitHeld
    extract_lets p
    split
    · exact h
    · split
      · exact ih (State.leads_tlpOut (State.leads_setPca h _ _) _ _)
      · exact h

theorem State.leads_admitAll {fl ot : Bool} {r s : State} (h : r.Leads fl ot s) : r.Leads fl ot (State.admitAll s) := by
  unfold State.admitAll
  exact State.leads_foldl h _ _ fun x0 y0 hx0 => State.leads_admitHeld hx0 _ _

theorem State.leads_cplTimeout {fl ot : Bool} {r s : State} (h : r.Leads fl ot s) (n : Nat) (a_r : NpReq) : r.Leads fl
    ot (State.cplTimeout s n a_r) := by
  unfold State.cplTimeout
  extract_lets -merge -underBinder +onlyGivenNames x0
  try clear_value x0
  extract_lets -merge -underBinder +onlyGivenNames x1
  have hx1 : r.Leads fl ot x1 := State.leads_setPca h _ _
  clear_value x1
  exact State.leads_admitAll (State.leads_raise (State.leads_count (State.leads_urTo hx1 _ _ _) _ _) _ _)

theorem State.leads_cplIn {fl ot : Bool} {r s : State} (h : r.Leads fl ot s) (n : Nat) (t : Tlp) : r.Leads fl ot
    (State.cplIn s n t) := by
  unfold State.cplIn
  extract_lets -merge -underBinder +onlyGivenNames x0
  try clear_value x0
  split
  · exact State.leads_unexpected h _
  · refine State.leads_ite ?_ ?_
    · exact State.leads_unexpected (State.leads_cplTimeout h _ _) _
    · extract_lets -merge -underBinder +onlyGivenNames x1
      have hx1 : r.Leads fl ot x1 := State.leads_send h _
      clear_value x1
      exact State.leads_ite (State.leads_admitAll (State.leads_setPca hx1 _ _)) hx1

theorem State.leads_issuePosted {fl ot : Bool} {r s : State} (h : r.Leads fl ot s) (n : Nat) : r.Leads fl ot
    (State.issuePosted s n) := by
  unfold State.issuePosted
  extract_lets -merge -underBinder +onlyGivenNames x0
  try clear_value x0
  exact State.leads_ite (State.leads_foldl (State.leads_setPca h _ _) _ _ fun x1 y1 hx1 => State.leads_send hx1 _) h

theorem State.leads_noteTlp {fl ot : Bool} {r s : State} (h : r.Leads fl ot s) (t : Tlp) : r.Leads fl ot (State.noteTlp
    s t) := by
  unfold State.noteTlp
  extract_lets -merge -underBinder +onlyGivenNames x0
  have hx0 : r.Leads fl ot x0 := State.leads_when h _ _ (fun x1 hx1 => State.leads_raise (State.leads_count hx1 _ _) _
      _)
  clear_value x0
  exact State.leads_when hx0 _ _ (fun x2 hx2 => State.leads_raise (State.leads_count hx2 _ _) _ _)

theorem State.leads_fromTunnel {fl ot : Bool} {r s : State} (h : r.Leads fl ot s) (n : Nat) (kind : Nat) (more : Bool)
    (t : Tlp) : r.Leads fl ot (State.fromTunnel s n kind more t) := by
  unfold State.fromTunnel
  extract_lets -merge -underBinder +onlyGivenNames x0
  try clear_value x0
  refine State.leads_ite ?_ ?_
  · exact h
  · refine State.leads_ite ?_ ?_
    · exact State.leads_raise h _ _
    · refine State.leads_ite ?_ ?_
      · exact State.leads_ite h (State.leads_ite (State.leads_urTo h _ _ _) (State.leads_ite (State.leads_unexpected h
            _) (State.leads_raise (State.leads_count h _ _) _ _)))
      · refine State.leads_ite ?_ ?_
        · exact State.leads_setPca h _ _
        · extract_lets -merge -underBinder +onlyGivenNames x1
          try clear_value x1
          extract_lets -merge -underBinder +onlyGivenNames x2
          try clear_value x2
          extract_lets -merge -underBinder +onlyGivenNames x3
          have hx3 : r.Leads fl ot x3 := State.leads_noteTlp (State.leads_setPca h _ _) _
          clear_value x3
          refine State.leads_ite ?_ ?_
          · exact State.leads_raise hx3 _ _
          · split
            · exact State.leads_cplIn hx3 _ _
            · exact State.leads_wr (State.leads_send hx3 _) _ _ _
            · exact State.leads_issuePosted (State.leads_setPca hx3 _ _) _
            · exact State.leads_setPca hx3 _ _

theorem State.leads_unlockNow {fl ot : Bool} {r s : State} (h : r.Leads fl ot s) (n : Nat) : r.Leads fl ot
    (State.unlockNow s n) := by
  unfold State.unlockNow
  exact State.leads_ite (State.leads_wr (State.leads_send h _) _ _ _) h

theorem State.leads_linkRst {fl ot : Bool} {r s : State} (h : r.Leads fl ot s) (l : Nat) (on : Bool) : r.Leads fl ot
    (State.linkRst s l on) := by
  unfold State.linkRst
  exact State.leads_ite (State.leads_wr (State.leads_wr (State.leads_wr h _ _ _) _ _ _) _ _ _) (State.leads_when h _ _
      (fun x0 hx0 => State.leads_wr hx0 _ _ _))

theorem State.leads_applyPerst {fl ot : Bool} {r s : State} (h : r.Leads fl ot s) (n : Nat) (on : Bool) : r.Leads fl ot
    (State.applyPerst s n on) := by
  unfold State.applyPerst
  extract_lets -merge -underBinder +onlyGivenNames x0
  have hx0 : r.Leads fl ot x0 := State.leads_when h _ _ (fun x1 hx1 => State.leads_pcaDiscard hx1 _)
  clear_value x0
  exact State.leads_foldl hx0 _ _ fun x2 y2 hx2 => State.leads_when hx2 _ _ (fun x3 hx3 => State.leads_linkRst hx3 _ _)

theorem State.leads_applyLevels {fl ot : Bool} {r s : State} (h : r.Leads fl ot s) (n : Nat) (lv : Nat) (pulse : Nat) :
    r.Leads fl ot (State.applyLevels s n lv pulse) := by
  unfold State.applyLevels
  extract_lets -merge -underBinder +onlyGivenNames x0
  try clear_value x0
  extract_lets -merge -underBinder +onlyGivenNames x1
  try clear_value x1
  extract_lets -merge -underBinder +onlyGivenNames x2
  try clear_value x2
  extract_lets -merge -underBinder +onlyGivenNames x3
  have hx3 : r.Leads fl ot x3 := State.leads_when h _ _ (fun x4 hx4 => State.leads_applyPerst hx4 _ _)
  clear_value x3
  extract_lets -merge -underBinder +onlyGivenNames x5
  have hx5 : r.Leads fl ot x5 := State.leads_when hx3 _ _ (fun x6 hx6 => State.leads_send hx6 _)
  clear_value x5
  exact State.leads_wr (State.leads_wr (State.leads_wr hx5 _ _ _) _ _ _) _ _ _

theorem State.leads_sbPulseEnd {fl ot : Bool} {r s : State} (h : r.Leads fl ot s) (n : Nat) : r.Leads fl ot
    (State.sbPulseEnd s n) := by
  unfold State.sbPulseEnd
  extract_lets -merge -underBinder +onlyGivenNames x0
  try clear_value x0
  extract_lets -merge -underBinder +onlyGivenNames x1
  try clear_value x1
  exact State.leads_ite h (State.leads_ite (State.leads_ite (State.leads_applyLevels h _ _ _) h) (State.leads_wr
      (State.leads_applyLevels h _ _ _) _ _ _))

theorem State.leads_releaseUnits {fl ot : Bool} {r s : State} (h : r.Leads fl ot s) (n : Nat) (t : Tlp) : r.Leads fl ot
    (State.releaseUnits s n t) := by
  unfold State.releaseUnits
  extract_lets -merge -underBinder +onlyGivenNames x0
  try clear_value x0
  split
  · exact h
  · extract_lets -merge -underBinder +onlyGivenNames x1
    try clear_value x1
    extract_lets -merge -underBinder +onlyGivenNames x2
    try clear_value x2
    exact State.leads_setPca h _ _

theorem State.leads_fromLocal {fl ot : Bool} {r s : State} (h : r.Leads fl ot s) (n : Nat) (t : Tlp) : r.Leads fl ot
    (State.fromLocal s n t) := by
  unfold State.fromLocal
  extract_lets -merge -underBinder +onlyGivenNames x0
  try clear_value x0
  extract_lets -merge -underBinder +onlyGivenNames x1
  have hx1 : r.Leads fl ot x1 := State.leads_noteTlp h _
  clear_value x1
  refine State.leads_ite ?_ ?_
  · exact hx1
  · refine State.leads_ite ?_ ?_
    · exact State.leads_raise hx1 _ _
    · refine State.leads_ite ?_ ?_
      · exact State.leads_raise (State.leads_urTo hx1 _ _ _) _ _
      · refine State.leads_ite ?_ ?_
        · exact State.leads_ite (State.leads_urTo hx1 _ _ _) (State.leads_ite hx1 (State.leads_raise (State.leads_count
              hx1 _ _) _ _))
        · refine State.leads_ite ?_ ?_
          · extract_lets -merge -underBinder +onlyGivenNames x2
            try clear_value x2
            exact State.leads_admitHeld (State.leads_setPca hx1 _ _) _ _
          · exact State.leads_tlpOut (State.leads_when hx1 _ _ (fun x3 hx3 => State.leads_releaseUnits hx3 _ _)) _ _

theorem State.leads_sbRx {fl ot : Bool} {r s : State} (h : r.Leads fl ot s) (n : Nat) (seq : Nat) (word : Nat) :
    r.Leads fl ot (State.sbRx s n seq word) := by
  unfold State.sbRx
  extract_lets -merge -underBinder +onlyGivenNames x0
  try clear_value x0
  extract_lets -merge -underBinder +onlyGivenNames x1
  try clear_value x1
  refine State.leads_ite ?_ ?_
  · exact h
  · extract_lets -merge -underBinder +onlyGivenNames x2
    try clear_value x2
    extract_lets -merge -underBinder +onlyGivenNames x3
    try clear_value x3
    extract_lets -merge -underBinder +onlyGivenNames x4
    try clear_value x4
    extract_lets -merge -underBinder +onlyGivenNames x5
    try clear_value x5
    extract_lets -merge -underBinder +onlyGivenNames x6
    have hx6 : r.Leads fl ot x6 := State.leads_wr (State.leads_wr (State.leads_wr h _ _ _) _ _ _) _ _ _
    clear_value x6
    extract_lets -merge -underBinder +onlyGivenNames x7
    try clear_value x7
    exact State.leads_ite (State.leads_ite hx6 (State.leads_applyLevels hx6 _ _ _)) (State.leads_wr hx6 _ _ _)

theorem State.leads_npIssue {fl ot : Bool} {r s : State} (h : r.Leads fl ot s) (n : Nat) : r.Leads fl ot (State.npIssue
    s n) := by
  unfold State.npIssue
  extract_lets -merge -underBinder +onlyGivenNames x0
  try clear_value x0
  split
  · exact h
  · refine State.leads_ite ?_ ?_
    · exact h
    · extract_lets -merge -underBinder +onlyGivenNames x1
      try clear_value x1
      refine State.leads_ite ?_ ?_
      · exact State.leads_wr h _ _ _
      · extract_lets -merge -underBinder +onlyGivenNames x2
        try clear_value x2
        extract_lets -merge -underBinder +onlyGivenNames x3
        have hx3 : r.Leads fl ot x3 := State.leads_send (State.leads_wr (State.leads_setPca h _ _) _ _ _) _
        clear_value x3
        exact State.leads_when hx3 _ _ (fun x4 hx4 => State.leads_wr (State.leads_wr hx4 _ _ _) _ _ _)

theorem State.leads_pcaDown {fl ot : Bool} {r s : State} (h : r.Leads fl ot s) (n : Nat) : r.Leads fl ot (State.pcaDown
    s n) := by
  unfold State.pcaDown
  extract_lets -merge -underBinder +onlyGivenNames x0
  try clear_value x0
  extract_lets -merge -underBinder +onlyGivenNames x1
  have hx1 : r.Leads fl ot x1 := State.leads_pcaDiscard (State.leads_unlockNow h _) _
  clear_value x1
  extract_lets -merge -underBinder +onlyGivenNames x2
  have hx2 : r.Leads fl ot x2 := State.leads_when hx1 _ _ (fun x3 hx3 => State.leads_raise hx3 _ _)
  clear_value x2
  exact State.leads_ite (State.leads_send hx2 _) (State.leads_when hx2 _ _ (fun x4 hx4 => State.leads_raise hx4 _ _))

theorem State.leads_sbSend {fl ot : Bool} {r s : State} (h : r.Leads fl ot s) (n : Nat) : r.Leads fl ot (State.sbSend s
    n) := by
  unfold State.sbSend
  extract_lets -merge -underBinder +onlyGivenNames x0
  try clear_value x0
  extract_lets -merge -underBinder +onlyGivenNames x1
  try clear_value x1
  extract_lets -merge -underBinder +onlyGivenNames x2
  try clear_value x2
  extract_lets -merge -underBinder +onlyGivenNames x3
  try clear_value x3
  extract_lets -merge -underBinder +onlyGivenNames x4
  try clear_value x4
  extract_lets -merge -underBinder +onlyGivenNames x5
  try clear_value x5
  refine State.leads_ite ?_ ?_
  · exact h
  · extract_lets -merge -underBinder +onlyGivenNames x6
    try clear_value x6
    extract_lets -merge -underBinder +onlyGivenNames x7
    have hx7 : r.Leads fl ot x7 := State.leads_inject h _ _ _ _
    clear_value x7
    exact State.leads_count (State.leads_wr (State.leads_wr (State.leads_wr hx7 _ _ _) _ _ _) _ _ _) _ _

end Sys2Proof.Machine
end

