-- ==== Sys2Proof/Laws/Lead/DispOps.lean ====
section
/-! SUPPORT. What the operations of Machine/DispOps.lean keep (State.Leads of Laws/Leads.lean). -/

namespace Sys2Proof.Machine

open Reg

theorem State.leads_enterHeld {fl ot : Bool} {r s : State} (h : r.Leads fl ot s) (n : Nat) (cause : Nat) : r.Leads fl
    ot (State.enterHeld s n cause) := by
  unfold State.enterHeld
  extract_lets -merge -underBinder +onlyGivenNames x0
  try clear_value x0
  extract_lets -merge -underBinder +onlyGivenNames x1
  have hx1 : r.Leads fl ot x1 := State.leads_count (State.leads_wr (State.leads_wr h _ _ _) _ _ _) _ _
  clear_value x1
  exact State.leads_setInt hx1 _ _

theorem State.leads_noHold {fl ot : Bool} {r s : State} (h : r.Leads fl ot s) (n : Nat) : r.Leads fl ot (State.noHold s
    n) := by
  unfold State.noHold
  extract_lets -merge -underBinder +onlyGivenNames x0
  try clear_value x0
  exact State.leads_wr (State.leads_wr (State.leads_wr (State.leads_wr h _ _ _) _ _ _) _ _ _) _ _ _

theorem State.leads_goHeld {fl ot : Bool} {r s : State} (h : r.Leads fl ot s) (n : Nat) (cause : Nat) : r.Leads fl ot
    (State.goHeld s n cause) := by
  unfold State.goHeld
  extract_lets -merge -underBinder +onlyGivenNames x0
  try clear_value x0
  extract_lets -merge -underBinder +onlyGivenNames z1_0 x1
  have hx1 : r.Leads fl ot x1 := State.leads_setDisp (State.leads_noHold h _) _ _
  clear_value x1
  exact State.leads_ite (State.leads_enterHeld (State.leads_wr hx1 _ _ _) _ _) (State.leads_wr hx1 _ _ _)

theorem State.leads_goForced {fl ot : Bool} {r s : State} (h : r.Leads fl ot s) (n : Nat) (cause : Nat) : r.Leads fl ot
    (State.goForced s n cause) := by
  unfold State.goForced
  exact State.leads_goHeld (State.leads_raise h _ _) _ _

theorem State.leads_forceOne {fl ot : Bool} {r s : State} (h : r.Leads fl ot s) (n : Nat) (cause : Nat) : r.Leads fl ot
    (State.forceOne s n cause) := by
  unfold State.forceOne
  extract_lets -merge -underBinder +onlyGivenNames x0
  try clear_value x0
  exact State.leads_ite (State.leads_ite (State.leads_goForced h _ _) (State.leads_when h _ _ (fun x1 hx1 =>
      State.leads_wr hx1 _ _ _))) (State.leads_ite (State.leads_enterHeld h _ _) h)

theorem State.leads_refreshStep {fl ot : Bool} {r s : State} (h : r.Leads fl ot s) (ns : List Nat) : r.Leads fl ot
    (State.refreshStep s ns) := by
  unfold State.refreshStep
  extract_lets -merge -underBinder +onlyGivenNames x0
  try clear_value x0
  refine State.leads_foldl ?_ _ _ fun x1 y1 hx1 => ?_
  · exact h
  extract_lets -merge -underBinder +onlyGivenNames x2
  try clear_value x2
  extract_lets -merge -underBinder +onlyGivenNames x3
  have hx3 : r.Leads fl ot x3 := State.leads_wr hx1 _ _ _
  clear_value x3
  extract_lets -merge -underBinder +onlyGivenNames x4
  have hx4 : r.Leads fl ot x4 := State.leads_when (State.leads_wr hx3 _ _ _) _ _ (fun x5 hx5 => State.leads_setInt hx5
      _ _)
  clear_value x4
  exact State.leads_wr hx4 _ _ _

theorem State.leads_capBad {fl ot : Bool} {r s : State} (h : r.Leads fl ot s) (n : Nat) : r.Leads fl ot (State.capBad s
    n) := by
  unfold State.capBad
  exact State.leads_wr (State.leads_raise (State.leads_count h _ _) _ _) _ _ _

theorem State.leads_complete {fl ot : Bool} {r s : State} (h : r.Leads fl ot s) (n : Nat) (id : Nat) (status : Nat) (op
    : Nat) (frame : Nat) (data : List Byte) : r.Leads fl ot (State.complete s n id status op frame data) := by
  unfold State.complete
  extract_lets -merge -underBinder +onlyGivenNames x0
  try clear_value x0
  refine State.leads_ite ?_ ?_
  · exact h
  · extract_lets -merge -underBinder +onlyGivenNames x1
    try clear_value x1
    extract_lets -merge -underBinder +onlyGivenNames x2
    try clear_value x2
    exact State.leads_foldl h _ _ fun x3 y3 hx3 => State.leads_inject hx3 _ _ _ _

theorem State.leads_cmdErr {fl ot : Bool} {r s : State} (h : r.Leads fl ot s) (n : Nat) : r.Leads fl ot (State.cmdErr s
    n) := by
  unfold State.cmdErr
  exact State.leads_raise (State.leads_count h _ _) _ _

theorem State.leads_cmdFail {fl ot : Bool} {r s : State} (h : r.Leads fl ot s) (n : Nat) (id : Nat) (status : Nat) (op
    : Nat) : r.Leads fl ot (State.cmdFail s n id status op) := by
  unfold State.cmdFail
  exact State.leads_cmdErr (State.leads_complete h _ _ _ _ _ _) _

theorem State.leads_abortCmds {fl ot : Bool} {r s : State} (h : r.Leads fl ot s) (n : Nat) : r.Leads fl ot
    (State.abortCmds s n) := by
  unfold State.abortCmds
  extract_lets -merge -underBinder +onlyGivenNames x0
  try clear_value x0
  extract_lets -merge -underBinder +onlyGivenNames x1
  have hx1 : r.Leads fl ot x1 := State.leads_setDisp h _ _
  clear_value x1
  extract_lets -merge -underBinder +onlyGivenNames x2
  have hx2 : r.Leads fl ot x2 := State.leads_foldl hx1 _ _ fun x3 y3 hx3 => State.leads_cmdFail hx3 _ _ _ _
  clear_value x2
  extract_lets -merge -underBinder +onlyGivenNames x4
  have hx4 : r.Leads fl ot x4 := State.leads_foldl hx2 _ _ fun x5 y5 hx5 => State.leads_cmdFail hx5 _ _ _ _
  clear_value x4
  exact State.leads_foldl hx4 _ _ fun x6 y6 hx6 => State.leads_wr hx6 _ _ _

theorem State.leads_modeState {fl ot : Bool} {r s : State} (h : r.Leads fl ot s) (n : Nat) (old : Nat) : r.Leads fl ot
    (State.modeState s n old) := by
  unfold State.modeState
  extract_lets -merge -underBinder +onlyGivenNames x0
  try clear_value x0
  extract_lets -merge -underBinder +onlyGivenNames x1
  try clear_value x1
  extract_lets -merge -underBinder +onlyGivenNames x2
  try clear_value x2
  extract_lets -merge -underBinder +onlyGivenNames x3
  have hx3 : r.Leads fl ot x3 := State.leads_when h _ _ (fun x4 hx4 => State.leads_wr hx4 _ _ _)
  clear_value x3
  extract_lets -merge -underBinder +onlyGivenNames x5
  have hx5 : r.Leads fl ot x5 := State.leads_wr hx3 _ _ _
  clear_value x5
  extract_lets -merge -underBinder +onlyGivenNames x6
  have hx6 : r.Leads fl ot x6 := State.leads_when hx5 _ _ (fun x7 hx7 => State.leads_abortCmds (State.leads_noHold hx7
      _) _)
  clear_value x6
  refine State.leads_ite ?_ ?_
  · exact hx6
  · extract_lets -merge -underBinder +onlyGivenNames x8
    try clear_value x8
    extract_lets -merge -underBinder +onlyGivenNames x9
    try clear_value x9
    extract_lets -merge -underBinder +onlyGivenNames x10
    have hx10 : r.Leads fl ot x10 := State.leads_wr hx6 _ _ _
    clear_value x10
    exact State.leads_when hx10 _ _ (fun x11 hx11 => State.leads_wr (State.leads_wr (State.leads_wr hx11 _ _ _) _ _ _)
        _ _ _)

theorem State.leads_trainAt {fl ot : Bool} {r s : State} (h : r.Leads fl ot s) (n : Nat) (rate : Nat) (lanes : Nat) :
    r.Leads fl ot (State.trainAt s n rate lanes) := by
  unfold State.trainAt
  extract_lets -merge -underBinder +onlyGivenNames x0
  try clear_value x0
  extract_lets -merge -underBinder +onlyGivenNames x1
  have hx1 : r.Leads fl ot x1 := State.leads_wr (State.leads_wr (State.leads_wr h _ _ _) _ _ _) _ _ _
  clear_value x1
  exact State.leads_send (State.leads_wr (State.leads_wr hx1 _ _ _) _ _ _) _

theorem State.leads_startTrain {fl ot : Bool} {r s : State} (h : r.Leads fl ot s) (n : Nat) : r.Leads fl ot
    (State.startTrain s n) := by
  unfold State.startTrain
  exact State.leads_ite (State.leads_trainAt h _ _ _) h

theorem State.leads_auxConfig {fl ot : Bool} {r s : State} (h : r.Leads fl ot s) (n : Nat) (bs : List Byte) : r.Leads
    fl ot (State.auxConfig s n bs) := by
  unfold State.auxConfig
  extract_lets -merge -underBinder +onlyGivenNames x0
  try clear_value x0
  extract_lets -merge -underBinder +onlyGivenNames x1
  try clear_value x1
  extract_lets -merge -underBinder +onlyGivenNames x2
  have hx2 : r.Leads fl ot x2 := (by
      unfold x2
      split
      · split
        · exact State.leads_wr (State.leads_wr h _ _ _) _ _ _
        · exact h
      · exact h)
  clear_value x2
  extract_lets -merge -underBinder +onlyGivenNames x3
  have hx3 : r.Leads fl ot x3 := (by
      unfold x3
      split
      · exact State.leads_wr hx2 _ _ _
      · exact hx2)
  clear_value x3
  exact State.leads_startTrain hx3 _

theorem State.leads_sideSend {fl ot : Bool} {r s : State} (h : r.Leads fl ot s) (n : Nat) (kind : Nat) (bs : List Byte)
    : r.Leads fl ot (State.sideSend s n kind bs) := by
  unfold State.sideSend
  extract_lets -merge -underBinder +onlyGivenNames x0
  try clear_value x0
  exact State.leads_ite h (State.leads_inject h _ _ _ _)

theorem State.leads_auxServe {fl ot : Bool} {r s : State} (h : r.Leads fl ot s) (k n : Nat) :
    r.Leads fl ot (State.auxServe k s n) := by
  induction k generalizing s with
  | zero => exact h
  | succ k ih =>
    unfold State.auxServe
    extract_lets q
    split
    · exact h
    · extract_lets pop
      have hp : ∀ t, r.Leads fl ot t → r.Leads fl ot (pop t) := fun t ht => State.leads_setDisp ht _ _
      clear_value pop
      split
      · exact ih (State.leads_auxConfig (State.leads_sideSend (hp _ h) _ _ _) _ _)
      · split
        · exact ih (State.leads_sideSend (hp _ h) _ _ _)
        · exact State.leads_send (State.leads_wr (State.leads_wr h _ _ _) _ _ _) _

theorem State.leads_dispForce {fl ot : Bool} {r s : State} (h : r.Leads fl ot s) (n : Nat) (cause : Nat) : r.Leads fl
    ot (State.dispForce s n cause) := by
  unfold State.dispForce
  exact State.leads_foldl h _ _ fun x0 y0 hx0 => State.leads_forceOne hx0 _ _

theorem State.leads_dispDown {fl ot : Bool} {r s : State} (h : r.Leads fl ot s) (n : Nat) (id : Nat) : r.Leads fl ot
    (State.dispDown s n id) := by
  unfold State.dispDown
  refine State.leads_ite ?_ ?_
  · extract_lets -merge -underBinder +onlyGivenNames x0
    try clear_value x0
    extract_lets -merge -underBinder +onlyGivenNames x1
    try clear_value x1
    extract_lets -merge -underBinder +onlyGivenNames x2
    try clear_value x2
    extract_lets -merge -underBinder +onlyGivenNames x3
    have hx3 : r.Leads fl ot x3 := State.leads_setDisp h _ _
    clear_value x3
    exact State.leads_dispForce (State.leads_when hx3 _ _ (fun x4 hx4 => State.leads_auxServe hx4 _ _)) _ _
  · exact h

theorem State.leads_resume {fl ot : Bool} {r s : State} (h : r.Leads fl ot s) (n : Nat) : r.Leads fl ot (State.resume s
    n) := by
  unfold State.resume
  exact State.leads_foldl h _ _ fun x0 y0 hx0 => State.leads_when hx0 _ _ (fun x1 hx1 => State.leads_wr (State.leads_wr
      hx1 _ _ _) _ _ _)

theorem State.leads_askHold {fl ot : Bool} {r s : State} (h : r.Leads fl ot s) (n : Nat) (why : Nat) : r.Leads fl ot
    (State.askHold s n why) := by
  unfold State.askHold
  refine State.leads_foldl ?_ _ _ fun x0 y0 hx0 => ?_
  · exact h
  extract_lets -merge -underBinder +onlyGivenNames x1
  try clear_value x1
  exact State.leads_ite (State.leads_when hx0 _ _ (fun x2 hx2 => State.leads_wr hx2 _ _ _)) (State.leads_when hx0 _ _
      (fun x3 hx3 => State.leads_enterHeld hx3 _ _))

theorem State.leads_staticStep {fl ot : Bool} {r s : State} (h : r.Leads fl ot s) (n : Nat) (crc : Nat) : r.Leads fl ot
    (State.staticStep s n crc) := by
  unfold State.staticStep
  extract_lets -merge -underBinder +onlyGivenNames x0
  try clear_value x0
  extract_lets -merge -underBinder +onlyGivenNames x1
  try clear_value x1
  extract_lets -merge -underBinder +onlyGivenNames x2
  try clear_value x2
  extract_lets -merge -underBinder +onlyGivenNames x3
  have hx3 : r.Leads fl ot x3 := State.leads_wr (State.leads_wr h _ _ _) _ _ _
  clear_value x3
  extract_lets -merge -underBinder +onlyGivenNames x4
  have hx4 : r.Leads fl ot x4 := State.leads_when hx3 _ _ (fun x5 hx5 => State.leads_wr hx5 _ _ _)
  clear_value x4
  extract_lets -merge -underBinder +onlyGivenNames x6
  have hx6 : r.Leads fl ot x6 := State.leads_when hx4 _ _ (fun x7 hx7 => State.leads_when (State.leads_setInt
      (State.leads_wr hx7 _ _ _) _ _) _ _ (fun x8 hx8 => State.leads_askHold hx8 _ _))
  clear_value x6
  extract_lets -merge -underBinder +onlyGivenNames x9
  try clear_value x9
  extract_lets -merge -underBinder +onlyGivenNames x10
  try clear_value x10
  exact State.leads_when hx6 _ _ (fun x11 hx11 => State.leads_resume hx11 _)

theorem State.leads_frameEnd {fl ot : Bool} {r s : State} (h : r.Leads fl ot s) (n : Nat) (m : Msa) (len : Nat) :
    r.Leads fl ot (State.frameEnd s n m len) := by
  unfold State.frameEnd
  extract_lets -merge -underBinder +onlyGivenNames x0
  try clear_value x0
  refine State.leads_ite ?_ ?_
  · exact h
  · refine State.leads_ite ?_ ?_
    · exact State.leads_when h _ _ (fun x1 hx1 => State.leads_capBad hx1 _)
    · extract_lets -merge -underBinder +onlyGivenNames x2
      try clear_value x2
      extract_lets -merge -underBinder +onlyGivenNames x3
      have hx3 : r.Leads fl ot x3 := (by
          unfold x3
          refine State.leads_when ?_ _ _ (fun x4 hx4 => ?_)
          · exact h
          · refine State.leads_ite ?_ ?_
            · extract_lets -merge -underBinder +onlyGivenNames x5
              try clear_value x5
              extract_lets -merge -underBinder +onlyGivenNames x6
              try clear_value x6
              extract_lets -merge -underBinder +onlyGivenNames x7
              have hx7 : r.Leads fl ot x7 := State.leads_setDisp hx4 _ _
              clear_value x7
              exact State.leads_wr (State.leads_wr (State.leads_wr hx7 _ _ _) _ _ _) _ _ _
            · exact State.leads_capBad hx4 _)
      clear_value x3
      exact State.leads_staticStep hx3 _ _

theorem State.leads_putRows {fl ot : Bool} {r s : State} (h : r.Leads fl ot s) (n : Nat) (f : Nat) (a_r : Rect) (row :
    Nat → List Byte) : r.Leads fl ot (State.putRows s n f a_r row) := by
  unfold State.putRows
  exact State.leads_foldl h _ _ fun x0 y0 hx0 => State.leads_memWrite hx0 _ _ _

theorem State.leads_damage {fl ot : Bool} {r s : State} (h : r.Leads fl ot s) (n : Nat) (f : Nat) (a_r : Rect) :
    r.Leads fl ot (State.damage s n f a_r) := by
  unfold State.damage
  refine State.leads_ite ?_ ?_
  · extract_lets -merge -underBinder +onlyGivenNames x0
    try clear_value x0
    extract_lets -merge -underBinder +onlyGivenNames x1
    try clear_value x1
    exact State.leads_wr (State.leads_setDisp h _ _) _ _ _
  · exact h

theorem State.leads_cmdDo {fl ot : Bool} {r s : State} (h : r.Leads fl ot s) (n : Nat) (c : DispCmd) : r.Leads fl ot
    (State.cmdDo s n c) := by
  unfold State.cmdDo
  dsimp only
  repeat' (with_reducible first
    | assumption | apply State.leads_cmdFail | apply State.leads_complete | apply State.leads_count
    | apply State.leads_damage | apply State.leads_memRead | apply State.leads_putRows | apply State.leads_setDisp
    | apply State.leads_tookFree | apply State.leads_wr | apply State.leads_when | apply State.leads_foldl
    | intro _ | apply State.leads_fresh | apply State.leads_ite | apply State.leads_of_fst (by assumption) | split
    | apply State.leads_mk)

theorem State.leads_cmdRun {fl ot : Bool} {r s : State} (h : r.Leads fl ot s) (k n : Nat) :
    r.Leads fl ot (State.cmdRun k s n) := by
  induction k generalizing s with
  | zero => exact h
  | succ k ih =>
    unfold State.cmdRun
    extract_lets d
    split
    · exact h
    · split
      · exact h
      · exact ih (State.leads_cmdDo (State.leads_setDisp h _ _) _ _)

theorem State.leads_cmdGo {fl ot : Bool} {r s : State} (h : r.Leads fl ot s) (n : Nat) : r.Leads fl ot (State.cmdGo s
    n) := by
  unfold State.cmdGo
  exact State.leads_cmdRun h _ _

theorem State.leads_copyDone {fl ot : Bool} {r s : State} (h : r.Leads fl ot s) (n : Nat) (f : Nat) : r.Leads fl ot
    (State.copyDone s n f) := by
  unfold State.copyDone
  extract_lets -merge -underBinder +onlyGivenNames x0
  try clear_value x0
  extract_lets -merge -underBinder +onlyGivenNames x1
  try clear_value x1
  extract_lets -merge -underBinder +onlyGivenNames x2
  have hx2 : r.Leads fl ot x2 := State.leads_setDisp h _ _
  clear_value x2
  extract_lets -merge -underBinder +onlyGivenNames x3
  have hx3 : r.Leads fl ot x3 := (by
      unfold x3
      refine State.leads_foldl ?_ _ _ fun x4 y4 hx4 => ?_
      · exact hx2
      extract_lets -merge -underBinder +onlyGivenNames x5
      try clear_value x5
      exact State.leads_memRead (State.leads_putRows hx4 _ _ _ _) _ _ _)
  clear_value x3
  exact State.leads_cmdGo (State.leads_wr hx3 _ _ _) _

theorem State.leads_pairSkew {fl ot : Bool} {r s : State} (h : r.Leads fl ot s) (n : Nat) (skew : Nat) : r.Leads fl ot
    (State.pairSkew s n skew) := by
  unfold State.pairSkew
  exact State.leads_foldl h _ _ fun x0 y0 hx0 => State.leads_when (State.leads_wr hx0 _ _ _) _ _ (fun x1 hx1 =>
      State.leads_raise hx1 _ _)

theorem State.leads_flip {fl ot : Bool} {r s : State} (h : r.Leads fl ot s) (n : Nat) : r.Leads fl ot (State.flip s n)
    := by
  unfold State.flip
  extract_lets -merge -underBinder +onlyGivenNames x0
  try clear_value x0
  refine State.leads_ite ?_ ?_
  · exact h
  · extract_lets -merge -underBinder +onlyGivenNames x1
    try clear_value x1
    extract_lets -merge -underBinder +onlyGivenNames x2
    try clear_value x2
    extract_lets -merge -underBinder +onlyGivenNames x3
    have hx3 : r.Leads fl ot x3 := (by
        unfold x3
        refine State.leads_foldl ?_ _ _ fun x4 y4 hx4 => ?_
        · exact h
        extract_lets -merge -underBinder +onlyGivenNames x5
        have hx5 : r.Leads fl ot x5 := State.leads_wr hx4 _ _ _
        clear_value x5
        refine State.leads_ite ?_ ?_
        · exact hx5
        · extract_lets -merge -underBinder +onlyGivenNames x6
          try clear_value x6
          extract_lets -merge -underBinder +onlyGivenNames x7
          try clear_value x7
          extract_lets -merge -underBinder +onlyGivenNames x8
          try clear_value x8
          extract_lets -merge -underBinder +onlyGivenNames x9
          have hx9 : r.Leads fl ot x9 := State.leads_setDisp hx5 _ _
          clear_value x9
          extract_lets -merge -underBinder +onlyGivenNames x10
          have hx10 : r.Leads fl ot x10 := State.leads_wr (State.leads_wr hx9 _ _ _) _ _ _
          clear_value x10
          exact State.leads_wr hx10 _ _ _)
    clear_value x3
    extract_lets -merge -underBinder +onlyGivenNames z11_0 x11
    have hx11 : r.Leads fl ot x11 := State.leads_setDisp hx3 _ _
    clear_value x11
    extract_lets -merge -underBinder +onlyGivenNames x12
    have hx12 : r.Leads fl ot x12 := State.leads_foldl hx11 _ _ fun x13 y13 hx13 => State.leads_complete hx13 _ _ _ _ _
        _
    clear_value x12
    exact State.leads_cmdGo (State.leads_when hx12 _ _ (fun x14 hx14 => State.leads_wr hx14 _ _ _)) _

theorem State.leads_underrun {fl ot : Bool} {r s : State} (h : r.Leads fl ot s) (n : Nat) : r.Leads fl ot
    (State.underrun s n) := by
  unfold State.underrun
  exact State.leads_raise (State.leads_count h _ _) _ _

theorem State.leads_emit {fl ot : Bool} {r s : State} (h : r.Leads fl ot s) (n : Nat) (y : Nat) (dsc : Bool) (ws : List
    Nat) : r.Leads fl ot (State.emit s n y dsc ws) := by
  unfold State.emit
  extract_lets -merge -underBinder +onlyGivenNames x0
  try clear_value x0
  extract_lets -merge -underBinder +onlyGivenNames x1
  try clear_value x1
  exact State.leads_wr (State.leads_when h _ _ (fun x2 hx2 => State.leads_send hx2 _)) _ _ _

theorem State.leads_scanPass {fl ot : Bool} {r s : State} (h : r.Leads fl ot s) (n : Nat) (y : Nat) : r.Leads fl ot
    (State.scanPass s n y) := by
  unfold State.scanPass
  extract_lets -merge -underBinder +onlyGivenNames x0
  try clear_value x0
  extract_lets -merge -underBinder +onlyGivenNames x1
  try clear_value x1
  extract_lets -merge -underBinder +onlyGivenNames x2
  try clear_value x2
  extract_lets -merge -underBinder +onlyGivenNames x3
  try clear_value x3
  extract_lets -merge -underBinder +onlyGivenNames x4
  try clear_value x4
  split
  · exact State.leads_emit (State.leads_setDisp h _ _) _ _ _ _
  · extract_lets -merge -underBinder +onlyGivenNames x5
    have hx5 : r.Leads fl ot x5 := State.leads_underrun h _
    clear_value x5
    split
    · exact State.leads_ite (State.leads_emit (State.leads_count hx5 _ _) _ _ _ _) (State.leads_emit hx5 _ _ _ _)
    · exact State.leads_emit hx5 _ _ _ _

theorem State.leads_refillOne {fl ot : Bool} {r s : State} (h : r.Leads fl ot s) (n : Nat) : r.Leads fl ot
    (State.refillOne s n) := by
  unfold State.refillOne
  extract_lets -merge -underBinder +onlyGivenNames x0
  try clear_value x0
  exact State.leads_ite (State.leads_wr (State.leads_memTouch h _ _) _ _ _) h

theorem State.leads_refill {fl ot : Bool} {r s : State} (h : r.Leads fl ot s) (n : Nat) : r.Leads fl ot (State.refill s
    n) := by
  unfold State.refill
  extract_lets -merge -underBinder +onlyGivenNames x0
  have hx0 : r.Leads fl ot x0 := State.leads_refillOne h _
  clear_value x0
  exact State.leads_ite (State.leads_foldl hx0 _ _ fun x1 y1 hx1 => State.leads_when hx1 _ _ (fun x2 hx2 =>
      State.leads_refillOne hx2 _)) hx0

theorem State.leads_scanDram {fl ot : Bool} {r s : State} (h : r.Leads fl ot s) (n : Nat) (y : Nat) (dsc : Bool) (ws :
    List Nat) : r.Leads fl ot (State.scanDram s n y dsc ws) := by
  unfold State.scanDram
  extract_lets -merge -underBinder +onlyGivenNames x0
  try clear_value x0
  extract_lets -merge -underBinder +onlyGivenNames x1
  try clear_value x1
  extract_lets -merge -underBinder +onlyGivenNames x2
  try clear_value x2
  extract_lets -merge -underBinder +onlyGivenNames x3
  try clear_value x3
  extract_lets -merge -underBinder +onlyGivenNames x4
  try clear_value x4
  extract_lets -merge -underBinder +onlyGivenNames x5
  have hx5 : r.Leads fl ot x5 := State.leads_when h _ _ (fun x6 hx6 => State.leads_underrun hx6 _)
  clear_value x5
  extract_lets -merge -underBinder +onlyGivenNames x7
  try clear_value x7
  extract_lets -merge -underBinder +onlyGivenNames x8
  have hx8 : r.Leads fl ot x8 := State.leads_emit (State.leads_wr hx5 _ _ _) _ _ _ _
  clear_value x8
  exact State.leads_when hx8 _ _ (fun x9 hx9 => State.leads_refill hx9 _)

theorem State.leads_scanLine {fl ot : Bool} {r s : State} (h : r.Leads fl ot s) (n : Nat) (y : Nat) : r.Leads fl ot
    (State.scanLine s n y) := by
  unfold State.scanLine
  extract_lets -merge -underBinder +onlyGivenNames x0
  try clear_value x0
  split
  · exact State.leads_scanPass h _ _
  · split
    · exact State.leads_scanDram h _ _ _ _
    · exact h
  · split
    · exact State.leads_scanDram h _ _ _ _
    · exact h
  · exact State.leads_scanDram h _ _ _ _
  · exact h

theorem State.leads_fitCheck {fl ot : Bool} {r s : State} (h : r.Leads fl ot s) (n : Nat) : r.Leads fl ot
    (State.fitCheck s n) := by
  unfold State.fitCheck
  extract_lets -merge -underBinder +onlyGivenNames x0
  try clear_value x0
  exact State.leads_ite h (State.leads_ite (State.leads_wr h _ _ _) (State.leads_raise (State.leads_wr h _ _ _) _ _))

theorem State.leads_appliedPage {fl ot : Bool} {r s : State} (h : r.Leads fl ot s) (p : Page) : r.Leads fl ot
    (State.appliedPage s p) := by
  unfold State.appliedPage
  exact State.leads_setInt (State.leads_wr (State.leads_wr h _ _ _) _ _ _) _ _

theorem State.leads_reportTol {fl ot : Bool} {r s : State} (h : r.Leads fl ot s) (n : Nat) : r.Leads fl ot
    (State.reportTol s n) := by
  unfold State.reportTol
  extract_lets -merge -underBinder +onlyGivenNames x0
  try clear_value x0
  extract_lets -merge -underBinder +onlyGivenNames x1
  try clear_value x1
  exact State.leads_memReport (State.leads_wr (State.leads_wr h _ _ _) _ _ _) _ _

theorem State.leads_lineOne {fl ot : Bool} {r s : State} (h : r.Leads fl ot s) (n : Nat) : r.Leads fl ot (State.lineOne
    s n) := by
  unfold State.lineOne
  extract_lets -merge -underBinder +onlyGivenNames x0
  try clear_value x0
  extract_lets -merge -underBinder +onlyGivenNames x1
  try clear_value x1
  extract_lets -merge -underBinder +onlyGivenNames x2
  have hx2 : r.Leads fl ot x2 := State.leads_reportTol h _
  clear_value x2
  refine State.leads_ite ?_ ?_
  · extract_lets -merge -underBinder +onlyGivenNames x3
    have hx3 : r.Leads fl ot x3 := State.leads_wr hx2 _ _ _
    clear_value x3
    exact State.leads_when hx3 _ _ (fun x4 hx4 => State.leads_wr (State.leads_wr hx4 _ _ _) _ _ _)
  · exact State.leads_ite (State.leads_scanLine (State.leads_wr hx2 _ _ _) _ _) hx2

theorem State.leads_takeMsa {fl ot : Bool} {r s : State} (h : r.Leads fl ot s) (n : Nat) : r.Leads fl ot (State.takeMsa
    s n) := by
  unfold State.takeMsa
  split
  · exact h
  · exact State.leads_foldl h _ _ fun x0 y0 hx0 => State.leads_wrA hx0 _ _ _

theorem State.leads_retime {fl ot : Bool} {r s : State} (h : r.Leads fl ot s) (n : Nat) : r.Leads fl ot (State.retime s
    n) := by
  unfold State.retime
  extract_lets -merge -underBinder +onlyGivenNames x0
  try clear_value x0
  exact State.leads_ite h (State.leads_ite (State.leads_startTrain h _) (State.leads_fitCheck h _))

theorem State.leads_startFrameAt {fl ot : Bool} {r s : State} (h : r.Leads fl ot s) (n : Nat) : r.Leads fl ot
    (State.startFrameAt s n) := by
  unfold State.startFrameAt
  extract_lets -merge -underBinder +onlyGivenNames x0
  try clear_value x0
  extract_lets -merge -underBinder +onlyGivenNames x1
  try clear_value x1
  extract_lets -merge -underBinder +onlyGivenNames x2
  have hx2 : r.Leads fl ot x2 := State.leads_when h _ _ (fun x3 hx3 => State.leads_flip hx3 _)
  clear_value x2
  extract_lets -merge -underBinder +onlyGivenNames x4
  have hx4 : r.Leads fl ot x4 := (by
      unfold x4
      refine State.leads_when ?_ _ _ (fun x5 hx5 => ?_)
      · exact hx2
      · extract_lets -merge -underBinder +onlyGivenNames x6
        have hx6 : r.Leads fl ot x6 := State.leads_when hx5 _ _ (fun x7 hx7 => State.leads_wr (State.leads_setInt
            (State.leads_count hx7 _ _) _ _) _ _ _)
        clear_value x6
        extract_lets -merge -underBinder +onlyGivenNames x8
        try clear_value x8
        extract_lets -merge -underBinder +onlyGivenNames x9
        have hx9 : r.Leads fl ot x9 := State.leads_when (State.leads_takeMsa (State.leads_wr (State.leads_wr hx6 _ _ _)
            _ _ _) _) _ _ (fun x10 hx10 => State.leads_retime hx10 _)
        clear_value x9
        exact State.leads_wr (State.leads_wr hx9 _ _ _) _ _ _)
  clear_value x4
  extract_lets -merge -underBinder +onlyGivenNames x11
  try clear_value x11
  extract_lets -merge -underBinder +onlyGivenNames x12
  have hx12 : r.Leads fl ot x12 := State.leads_wr (State.leads_wr (State.leads_wr hx4 _ _ _) _ _ _) _ _ _
  clear_value x12
  extract_lets -merge -underBinder +onlyGivenNames x13
  have hx13 : r.Leads fl ot x13 := State.leads_wr (State.leads_wr (State.leads_wr (State.leads_wr hx12 _ _ _) _ _ _) _
      _ _) _ _ _
  clear_value x13
  extract_lets -merge -underBinder +onlyGivenNames x14
  have hx14 : r.Leads fl ot x14 := State.leads_wr (State.leads_wr (State.leads_wr hx13 _ _ _) _ _ _) _ _ _
  clear_value x14
  exact State.leads_when hx14 _ _ (fun x15 hx15 => State.leads_wr (State.leads_wr hx15 _ _ _) _ _ _)

theorem State.leads_lineStart {fl ot : Bool} {r s : State} (h : r.Leads fl ot s) (n : Nat) (skew : Nat) : r.Leads fl ot
    (State.lineStart s n skew) := by
  unfold State.lineStart
  extract_lets -merge -underBinder +onlyGivenNames x0
  try clear_value x0
  extract_lets -merge -underBinder +onlyGivenNames x1
  try clear_value x1
  extract_lets -merge -underBinder +onlyGivenNames x2
  try clear_value x2
  refine State.leads_ite ?_ ?_
  · extract_lets -merge -underBinder +onlyGivenNames x3
    try clear_value x3
    extract_lets -merge -underBinder +onlyGivenNames x4
    have hx4 : r.Leads fl ot x4 := State.leads_when (State.leads_foldl h _ _ fun x6 y6 hx6 => State.leads_startFrameAt
        hx6 _) _ _ (fun x5 hx5 => State.leads_pairSkew hx5 _ _)
    clear_value x4
    exact State.leads_foldl hx4 _ _ fun x7 y7 hx7 => State.leads_lineOne hx7 _
  · exact State.leads_foldl h _ _ fun x8 y8 hx8 => State.leads_lineOne hx8 _

theorem State.leads_streamLine {fl ot : Bool} {r s : State} (h : r.Leads fl ot s) (n : Nat) (whole : Bool) (bs : List
    Byte) : r.Leads fl ot (State.streamLine s n whole bs) := by
  unfold State.streamLine
  dsimp only
  repeat' (with_reducible first
    | assumption | apply State.leads_frameEnd | apply State.leads_memWrite | apply State.leads_setDisp
    | apply State.leads_wr | apply State.leads_when | apply State.leads_foldl | intro _ | apply State.leads_ite
    | apply State.leads_of_fst (by assumption) | split)

theorem State.leads_holdStep {fl ot : Bool} {r s : State} (h : r.Leads fl ot s) (ns : List Nat) : r.Leads fl ot
    (State.holdStep s ns) := by
  unfold State.holdStep
  extract_lets -merge -underBinder +onlyGivenNames x0
  try clear_value x0
  extract_lets -merge -underBinder +onlyGivenNames x1
  try clear_value x1
  extract_lets -merge -underBinder +onlyGivenNames x2
  try clear_value x2
  split
  · exact State.leads_foldl h _ _ fun x3 y3 hx3 => State.leads_goForced hx3 _ _
  · exact h
  · refine State.leads_ite ?_ ?_
    · exact State.leads_foldl h _ _ fun x4 y4 hx4 => State.leads_goHeld hx4 _ _
    · refine State.leads_foldl ?_ _ _ fun x5 y5 hx5 => ?_
      · exact h
      extract_lets -merge -underBinder +onlyGivenNames x6
      try clear_value x6
      extract_lets -merge -underBinder +onlyGivenNames x7
      try clear_value x7
      exact State.leads_ite (State.leads_raise (State.leads_noHold hx5 _) _ _) (State.leads_wr (State.leads_wr hx5 _ _
          _) _ _ _)

theorem State.leads_pairStep {fl ot : Bool} {r s : State} (h : r.Leads fl ot s) (n : Nat) : r.Leads fl ot
    (State.pairStep s n) := by
  unfold State.pairStep
  extract_lets -merge -underBinder +onlyGivenNames x0
  try clear_value x0
  extract_lets -merge -underBinder +onlyGivenNames x1
  try clear_value x1
  refine State.leads_ite ?_ ?_
  · exact State.leads_ite h (State.leads_wr (State.leads_wr (State.leads_wr h _ _ _) _ _ _) _ _ _)
  · refine State.leads_ite ?_ ?_
    · exact h
    · extract_lets -merge -underBinder +onlyGivenNames x2
      try clear_value x2
      extract_lets -merge -underBinder +onlyGivenNames x3
      try clear_value x3
      extract_lets -merge -underBinder +onlyGivenNames x4
      have hx4 : r.Leads fl ot x4 := State.leads_wr (State.leads_wr h _ _ _) _ _ _
      clear_value x4
      exact State.leads_ite (State.leads_wr (State.leads_wr (State.leads_wr hx4 _ _ _) _ _ _) _ _ _) (State.leads_when
          hx4 _ _ (fun x5 hx5 => State.leads_raise hx5 _ _))

theorem State.leads_endFrame {fl ot : Bool} {r s : State} (h : r.Leads fl ot s) (n : Nat) : r.Leads fl ot
    (State.endFrame s n) := by
  unfold State.endFrame
  extract_lets -merge -underBinder +onlyGivenNames x0
  try clear_value x0
  extract_lets -merge -underBinder +onlyGivenNames x1
  have hx1 : r.Leads fl ot x1 := State.leads_when h _ _ (fun x2 hx2 => State.leads_wr hx2 _ _ _)
  clear_value x1
  exact State.leads_wr (State.leads_wr (State.leads_wr hx1 _ _ _) _ _ _) _ _ _

theorem State.leads_applyDisp {fl ot : Bool} {r s : State} (h : r.Leads fl ot s) (n : Nat) : r.Leads fl ot
    (State.applyDisp s n) := by
  unfold State.applyDisp
  extract_lets -merge -underBinder +onlyGivenNames x0
  try clear_value x0
  extract_lets -merge -underBinder +onlyGivenNames x1
  try clear_value x1
  extract_lets -merge -underBinder +onlyGivenNames x2
  try clear_value x2
  extract_lets -merge -underBinder +onlyGivenNames x3
  try clear_value x3
  extract_lets -merge -underBinder +onlyGivenNames x4
  try clear_value x4
  extract_lets -merge -underBinder +onlyGivenNames x5
  try clear_value x5
  extract_lets -merge -underBinder +onlyGivenNames x6
  have hx6 : r.Leads fl ot x6 := h
  clear_value x6
  extract_lets -merge -underBinder +onlyGivenNames x7
  have hx7 : r.Leads fl ot x7 := State.leads_appliedPage (State.leads_applyFields h _ _) _
  clear_value x7
  extract_lets -merge -underBinder +onlyGivenNames z8_0 x8
  have hx8 : r.Leads fl ot x8 := State.leads_setDisp hx7 _ _
  clear_value x8
  extract_lets -merge -underBinder +onlyGivenNames x9
  try clear_value x9
  exact State.leads_when (State.leads_modeState hx8 _ _) _ _ (fun x10 hx10 => State.leads_retime hx10 _)

theorem State.leads_applyDout {fl ot : Bool} {r s : State} (h : r.Leads fl ot s) (n : Nat) : r.Leads fl ot
    (State.applyDout s n) := by
  unfold State.applyDout
  extract_lets -merge -underBinder +onlyGivenNames x0
  try clear_value x0
  extract_lets -merge -underBinder +onlyGivenNames x1
  try clear_value x1
  extract_lets -merge -underBinder +onlyGivenNames x2
  have hx2 : r.Leads fl ot x2 := State.leads_appliedPage (State.leads_applyFields h _ _) _
  clear_value x2
  extract_lets -merge -underBinder +onlyGivenNames x3
  have hx3 : r.Leads fl ot x3 := State.leads_wr hx2 _ _ _
  clear_value x3
  exact State.leads_when hx3 _ _ (fun x4 hx4 => State.leads_wr hx4 _ _ _)

theorem State.leads_applyOutput {fl ot : Bool} {r s : State} (h : r.Leads fl ot s) (n : Nat) : r.Leads fl ot
    (State.applyOutput s n) := by
  unfold State.applyOutput
  extract_lets -merge -underBinder +onlyGivenNames x0
  have hx0 : r.Leads fl ot x0 := State.leads_when h _ _ (fun x1 hx1 => State.leads_applyDisp hx1 _)
  clear_value x0
  exact State.leads_when hx0 _ _ (fun x2 hx2 => State.leads_applyDout hx2 _)

theorem State.leads_vblank {fl ot : Bool} {r s : State} (h : r.Leads fl ot s) (n : Nat) : r.Leads fl ot (State.vblank s
    n) := by
  unfold State.vblank
  extract_lets -merge -underBinder +onlyGivenNames x0
  try clear_value x0
  extract_lets -merge -underBinder +onlyGivenNames x1
  have hx1 : r.Leads fl ot x1 := State.leads_foldl h _ _ fun x2 y2 hx2 => State.leads_endFrame hx2 _
  clear_value x1
  extract_lets -merge -underBinder +onlyGivenNames x3
  have hx3 : r.Leads fl ot x3 := State.leads_foldl hx1 _ _ fun x4 y4 hx4 => State.leads_applyOutput hx4 _
  clear_value x3
  extract_lets -merge -underBinder +onlyGivenNames x5
  have hx5 : r.Leads fl ot x5 := State.leads_ite (State.leads_pairStep hx3 _) hx3
  clear_value x5
  extract_lets -merge -underBinder +onlyGivenNames x6
  have hx6 : r.Leads fl ot x6 := State.leads_holdStep hx5 _
  clear_value x6
  extract_lets -merge -underBinder +onlyGivenNames x7
  have hx7 : r.Leads fl ot x7 := State.leads_foldl hx6 _ _ fun x8 y8 hx8 => State.leads_setDisp (State.leads_flip hx8
      _) _ _
  clear_value x7
  extract_lets -merge -underBinder +onlyGivenNames x9
  have hx9 : r.Leads fl ot x9 := State.leads_refreshStep hx7 _
  clear_value x9
  exact State.leads_foldl hx9 _ _ fun x10 y10 hx10 => State.leads_when hx10 _ _ (fun x11 hx11 => State.leads_refill
      hx11 _)

theorem State.leads_cmdIn {fl ot : Bool} {r s : State} (h : r.Leads fl ot s) (n : Nat) (handle : Nat) (c : DispCmd) :
    r.Leads fl ot (State.cmdIn s n handle c) := by
  unfold State.cmdIn
  refine State.leads_ite ?_ ?_
  · exact h
  · refine State.leads_ite ?_ ?_
    · exact State.leads_cmdErr h _
    · extract_lets -merge -underBinder +onlyGivenNames x0
      try clear_value x0
      exact State.leads_cmdGo (State.leads_setDisp h _ _) _

theorem State.leads_streamMsa {fl ot : Bool} {r s : State} (h : r.Leads fl ot s) (n : Nat) (m : Msa) : r.Leads fl ot
    (State.streamMsa s n m) := by
  unfold State.streamMsa
  extract_lets -merge -underBinder +onlyGivenNames x0
  try clear_value x0
  extract_lets -merge -underBinder +onlyGivenNames x1
  try clear_value x1
  extract_lets -merge -underBinder +onlyGivenNames x2
  try clear_value x2
  extract_lets -merge -underBinder +onlyGivenNames x3
  try clear_value x3
  extract_lets -merge -underBinder +onlyGivenNames x4
  have hx4 : r.Leads fl ot x4 := State.leads_when h _ _ (fun x5 hx5 => State.leads_dispForce (State.leads_raise hx5 _
      _) _ _)
  clear_value x4
  extract_lets -merge -underBinder +onlyGivenNames x6
  have hx6 : r.Leads fl ot x6 := State.leads_when hx4 _ _ (fun x7 hx7 => State.leads_capBad hx7 _)
  clear_value x6
  extract_lets -merge -underBinder +onlyGivenNames z8_0 x8
  have hx8 : r.Leads fl ot x8 := State.leads_setDisp hx6 _ _
  clear_value x8
  extract_lets -merge -underBinder +onlyGivenNames x9
  have hx9 : r.Leads fl ot x9 := State.leads_wr (State.leads_wr (State.leads_wr hx8 _ _ _) _ _ _) _ _ _
  clear_value x9
  extract_lets -merge -underBinder +onlyGivenNames x10
  have hx10 : r.Leads fl ot x10 := State.leads_wr (State.leads_wr hx9 _ _ _) _ _ _
  clear_value x10
  extract_lets -merge -underBinder +onlyGivenNames x11
  have hx11 : r.Leads fl ot x11 := State.leads_wr (State.leads_wr (State.leads_wr (State.leads_wr (State.leads_wr hx10
      _ _ _) _ _ _) _ _ _) _ _ _) _ _ _
  clear_value x11
  exact State.leads_wr (State.leads_wr (State.leads_wr (State.leads_wr hx11 _ _ _) _ _ _) _ _ _) _ _ _

theorem State.leads_dispCheck {fl ot : Bool} {r s : State} (h : r.Leads fl ot s) (n : Nat) : r.Leads fl ot
    (State.dispCheck s n) := by
  unfold State.dispCheck
  extract_lets -merge -underBinder +onlyGivenNames x0
  try clear_value x0
  split
  · exact State.leads_wr (State.leads_wr (State.leads_wr h _ _ _) _ _ _) _ _ _
  · extract_lets -merge -underBinder +onlyGivenNames x1
    have hx1 : r.Leads fl ot x1 := State.leads_wr (State.leads_wr (State.leads_wr h _ _ _) _ _ _) _ _ _
    clear_value x1
    exact State.leads_raise (State.leads_wr hx1 _ _ _) _ _

theorem State.leads_auxEnd {fl ot : Bool} {r s : State} (h : r.Leads fl ot s) (n : Nat) (reply : List Byte) : r.Leads
    fl ot (State.auxEnd s n reply) := by
  unfold State.auxEnd
  extract_lets -merge -underBinder +onlyGivenNames x0
  try clear_value x0
  split
  · exact h
  · extract_lets -merge -underBinder +onlyGivenNames x1
    have hx1 : r.Leads fl ot x1 := State.leads_setDisp h _ _
    clear_value x1
    exact State.leads_auxServe (State.leads_when hx1 _ _ (fun x2 hx2 => State.leads_sideSend hx2 _ _ _)) _ _

theorem State.leads_dispShort {fl ot : Bool} {r s : State} (h : r.Leads fl ot s) (n : Nat) (id : Nat) (short : Bool) :
    r.Leads fl ot (State.dispShort s n id short) := by
  unfold State.dispShort
  exact State.leads_when h _ _ (fun x0 hx0 => State.leads_dispForce hx0 _ _)

end Sys2Proof.Machine
end

