-- ==== Sys2Proof/Laws/Lead/EqOps.lean ====
section
/-! SUPPORT. What the operations of Machine/EqOps.lean keep (State.Leads of Laws/Leads.lean). -/

namespace Sys2Proof.Machine

open Reg

theorem State.leads_eqSrc {fl ot : Bool} {r s : State} (h : r.Leads fl ot s) (p : Page) (i : Nat) (src : Nat) : r.Leads
    fl ot (State.eqSrc s p i src) := by
  unfold State.eqSrc
  extract_lets -merge -underBinder +onlyGivenNames x0
  try clear_value x0
  exact State.leads_when h _ _ (fun x1 hx1 => State.leads_wr hx1 _ _ _)

theorem State.leads_eqPads {fl ot : Bool} {r s : State} (h : r.Leads fl ot s) (p : Page) (base : Nat) (rate : Nat) (cls
    : Nat) (pads : List Nat) : r.Leads fl ot (State.eqPads s p base rate cls pads) := by
  unfold State.eqPads
  extract_lets -merge -underBinder +onlyGivenNames x0
  have hx0 : r.Leads fl ot x0 := State.leads_wr h _ _ _
  clear_value x0
  extract_lets -merge -underBinder +onlyGivenNames x1
  have hx1 : r.Leads fl ot x1 := State.leads_when hx0 _ _ (fun x2 hx2 => State.leads_raise hx2 _ _)
  clear_value x1
  refine State.leads_foldl ?_ _ _ fun x3 y3 hx3 => ?_
  · exact hx1
  refine State.leads_ite ?_ ?_
  · exact State.leads_eqSrc (State.leads_wr hx3 _ _ _) _ _ _
  · extract_lets -merge -underBinder +onlyGivenNames x4
    try clear_value x4
    extract_lets -merge -underBinder +onlyGivenNames x5
    have hx5 : r.Leads fl ot x5 := State.leads_eqSrc hx3 _ _ _
    clear_value x5
    split
    · exact hx5
    · exact State.leads_wr (State.leads_wr (State.leads_wr (State.leads_wr hx5 _ _ _) _ _ _) _ _ _) _ _ _

end Sys2Proof.Machine
end

