-- ==== Sys2Proof/Laws/Lead/WakeOps.lean ====
section
/-! SUPPORT. What the operations of Machine/WakeOps.lean keep (State.Leads of Laws/Leads.lean). -/

namespace Sys2Proof.Machine

open Reg

theorem State.leads_setClk {fl ot : Bool} {r s : State} (h : r.Leads fl ot s) (i : Nat) (b : Bool) : r.Leads fl ot
    (State.setClk s i b) := by
  unfold State.setClk
  exact State.leads_wrBit h _ _ _ _

theorem State.leads_setRst {fl ot : Bool} {r s : State} (h : r.Leads fl ot s) (i : Nat) (b : Bool) : r.Leads fl ot
    (State.setRst s i b) := by
  unfold State.setRst
  exact State.leads_wrBit h _ _ _ _

theorem State.leads_setPwr {fl ot : Bool} {r s : State} (h : r.Leads fl ot s) (i : Nat) (b : Bool) : r.Leads fl ot
    (State.setPwr s i b) := by
  unfold State.setPwr
  exact State.leads_wrBit h _ _ _ _

theorem State.leads_runIsland {fl ot : Bool} {r s : State} (h : r.Leads fl ot s) (i : Nat) : r.Leads fl ot
    (State.runIsland s i) := by
  unfold State.runIsland
  exact State.leads_setRst (State.leads_setClk (State.leads_setPwr h _ _) _ _) _ _

theorem State.leads_stopIsland {fl ot : Bool} {r s : State} (h : r.Leads fl ot s) (i : Nat) : r.Leads fl ot
    (State.stopIsland s i) := by
  unfold State.stopIsland
  exact State.leads_setRst (State.leads_setClk (State.leads_setPwr h _ _) _ _) _ _

theorem State.leads_setPs {fl ot : Bool} {r s : State} (h : r.Leads fl ot s) (n : Nat) : r.Leads fl ot (State.setPs s
    n) := by
  unfold State.setPs
  exact State.leads_wr h _ _ _

theorem State.leads_drive {fl ot : Bool} {r s : State} (h : r.Leads fl ot s) (g : Nat) (on : Bool) : r.Leads fl ot
    (State.drive s g on) := by
  unfold State.drive
  extract_lets -merge -underBinder +onlyGivenNames x0
  try clear_value x0
  refine State.leads_when ?_ _ _ (fun x1 hx1 => ?_)
  · exact h
  · split
    · exact State.leads_wr hx1 _ _ _
    · exact State.leads_wr hx1 _ _ _
    · exact State.leads_wr hx1 _ _ _

theorem State.leads_exitGroup {fl ot : Bool} {r s : State} (h : r.Leads fl ot s) (g : Nat) : r.Leads fl ot
    (State.exitGroup s g) := by
  unfold State.exitGroup
  extract_lets -merge -underBinder +onlyGivenNames x0
  try clear_value x0
  exact State.leads_wr (State.leads_wr (State.leads_drive h _ _) _ _ _) _ _ _

theorem State.leads_accessNow {fl ot : Bool} {r s : State} (h : r.Leads fl ot s) (who : Initiator) (p : Page) (f :
    Field) (act : State → State) (hact : ∀ t, r.Leads fl ot t → r.Leads fl ot (act t)) : r.Leads fl ot (State.accessNow
    s who p f act) := by
  unfold State.accessNow
  extract_lets -merge -underBinder +onlyGivenNames x0
  try clear_value x0
  exact State.leads_ite (State.leads_gatedAccess h _ _) (State.leads_ite h (State.leads_ite (hact _ h)
      (State.leads_drop h _ _ _ _)))

theorem State.leads_startExit {fl ot : Bool} {r s : State} (h : r.Leads fl ot s) (src : Nat) : r.Leads fl ot
    (State.startExit s src) := by
  unfold State.startExit
  extract_lets -merge -underBinder +onlyGivenNames x0
  have hx0 : r.Leads fl ot x0 := State.leads_wr (State.leads_wr (State.leads_setPs h _) _ _ _) _ _ _
  clear_value x0
  exact State.leads_exitGroup (State.leads_wr (State.leads_wr hx0 _ _ _) _ _ _) _

theorem State.leads_undoEntry {fl ot : Bool} {r s : State} (h : r.Leads fl ot s) : r.Leads fl ot (State.undoEntry s) :=
    by
  unfold State.undoEntry
  exact State.leads_ite (State.leads_wr (State.leads_setPs h _) _ _ _) (State.leads_startExit h _)

theorem State.leads_leaveD2 {fl ot : Bool} {r s : State} (h : r.Leads fl ot s) : r.Leads fl ot (State.leaveD2 s) := by
  unfold State.leaveD2
  extract_lets -merge -underBinder +onlyGivenNames x0
  have hx0 : r.Leads fl ot x0 := State.leads_setPs (State.leads_setClk h _ _) _
  clear_value x0
  extract_lets -merge -underBinder +onlyGivenNames x1
  have hx1 : r.Leads fl ot x1 := State.leads_foldl hx0 _ _ fun x2 y2 hx2 => State.leads_when hx2 _ _ (fun x3 hx3 =>
      State.leads_setPwr hx3 _ _)
  clear_value x1
  extract_lets -merge -underBinder +onlyGivenNames x4
  have hx4 : r.Leads fl ot x4 := State.leads_when hx1 _ _ (fun x5 hx5 => State.leads_memState hx5 _)
  clear_value x4
  exact State.leads_foldl hx4 _ _ fun x6 y6 hx6 => State.leads_when hx6 _ _ (fun x7 hx7 => State.leads_startTrain hx7 _)

theorem State.leads_pushWake {fl ot : Bool} {r s : State} (h : r.Leads fl ot s) (src : Nat) (cause : Nat) (aborted :
    Nat) (index : Nat) (value : Nat) : r.Leads fl ot (State.pushWake s src cause aborted index value) := by
  unfold State.pushWake
  extract_lets -merge -underBinder +onlyGivenNames x0
  have hx0 : r.Leads fl ot x0 := State.leads_wr (State.leads_wr (State.leads_wr (State.leads_wr h _ _ _) _ _ _) _ _ _)
      _ _ _
  clear_value x0
  extract_lets -merge -underBinder +onlyGivenNames x1
  have hx1 : r.Leads fl ot x1 := State.leads_wr (State.leads_wr hx0 _ _ _) _ _ _
  clear_value x1
  extract_lets -merge -underBinder +onlyGivenNames x2
  try clear_value x2
  extract_lets -merge -underBinder +onlyGivenNames x3
  try clear_value x3
  exact State.leads_foldl hx1 _ _ fun x4 y4 hx4 => State.leads_wr hx4 _ _ _

theorem State.leads_wakes {fl ot : Bool} {r s : State} (h : r.Leads fl ot s) (l : List (Nat × Nat × Nat)) : r.Leads fl
    ot (State.wakes s l) := by
  unfold State.wakes
  extract_lets -merge -underBinder +onlyGivenNames x0
  try clear_value x0
  extract_lets -merge -underBinder +onlyGivenNames x1
  try clear_value x1
  extract_lets -merge -underBinder +onlyGivenNames x2
  try clear_value x2
  extract_lets -merge -underBinder +onlyGivenNames x3
  try clear_value x3
  extract_lets -merge -underBinder +onlyGivenNames x4
  try clear_value x4
  extract_lets -merge -underBinder +onlyGivenNames x5
  have hx5 : r.Leads fl ot x5 := State.leads_foldl h _ _ fun x6 y6 hx6 => State.leads_pushWake hx6 _ _ _ _ _
  clear_value x5
  exact State.leads_ite hx5 (State.leads_ite (State.leads_raise (State.leads_undoEntry hx5) _ _) (State.leads_ite
      (State.leads_leaveD2 hx5) (State.leads_startExit hx5 _)))

theorem State.leads_wake {fl ot : Bool} {r s : State} (h : r.Leads fl ot s) (cause : Nat) (index : Nat) (value : Nat) :
    r.Leads fl ot (State.wake s cause index value) := by
  unfold State.wake
  exact State.leads_wakes h _

theorem State.leads_hostWake {fl ot : Bool} {r s : State} (h : r.Leads fl ot s) (st : Nat) (who : Initiator) : r.Leads
    fl ot (State.hostWake s st who) := by
  unfold State.hostWake
  split
  · exact State.leads_ite h (State.leads_wake h _ _ _)
  · exact h

theorem State.leads_access {fl ot : Bool} {r s : State} (h : r.Leads fl ot s) (who : Initiator) (p : Page) (f : Field)
    (act : State → State) (hact : ∀ t, r.Leads fl ot t → r.Leads fl ot (act t)) : r.Leads fl ot (State.access s who p f
    act) := by
  unfold State.access
  exact State.leads_hostWake (State.leads_accessNow h _ _ _ _ (fun x0 hx0 => hact _ hx0)) _ _

end Sys2Proof.Machine
end

