-- ==== Sys2Proof/Laws/Lead/Display.lean ====
section
/-! SUPPORT. What the operations of Machine/Display.lean keep (State.Leads of Laws/Leads.lean). -/

namespace Sys2Proof.Machine

open Reg

theorem State.leads_execDoutCntClr {fl ot : Bool} {r s : State} (h : r.Leads fl ot s) (who : Initiator) (n : Nat) :
    r.LeadsR fl ot (execDoutCntClr who n s) := by
  unfold execDoutCntClr
  exact State.leadsR_next (State.leads_access h _ _ _ _ (fun x0 hx0 => State.leads_clearFields hx0 _ _))

theorem State.leads_execBadOp {fl ot : Bool} {r s : State} (h : r.Leads fl ot s) (n : Nat) (handle : Nat) (id : Nat)
    (op : Nat) : r.LeadsR fl ot (execBadOp n handle id op s) := by
  unfold execBadOp
  exact State.leadsR_next (State.leads_ite h (State.leads_cmdIn h _ _ _))

theorem State.leads_hpdEvent {fl ot : Bool} {r s : State} (h : r.Leads fl ot s) (n : Nat) (code : Nat) : r.Leads fl ot
    (State.hpdEvent s n code) := by
  unfold State.hpdEvent
  exact State.leads_sideSend (State.leads_setInt (State.leads_count h _ _) _ _) _ _ _

theorem State.leads_execDpTrainDone {fl ot : Bool} {r s : State} (h : r.Leads fl ot s) (n : Nat) (ok : Bool) (lttpr :
    Nat) : r.LeadsR fl ot (execDpTrainDone n ok lttpr s) := by
  unfold execDpTrainDone
  extract_lets -merge -underBinder +onlyGivenNames x0
  try clear_value x0
  extract_lets -merge -underBinder +onlyGivenNames x1
  try clear_value x1
  extract_lets -merge -underBinder +onlyGivenNames x2
  try clear_value x2
  refine State.leadsR_next ?_
  refine State.leads_when ?_ _ _ (fun x3 hx3 => ?_)
  · exact h
  · refine State.leads_ite ?_ ?_
    · extract_lets -merge -underBinder +onlyGivenNames x4
      have hx4 : r.Leads fl ot x4 := State.leads_wr (State.leads_wr (State.leads_wr hx3 _ _ _) _ _ _) _ _ _
      clear_value x4
      extract_lets -merge -underBinder +onlyGivenNames x5
      have hx5 : r.Leads fl ot x5 := State.leads_wr (State.leads_wr (State.leads_wr hx4 _ _ _) _ _ _) _ _ _
      clear_value x5
      extract_lets -merge -underBinder +onlyGivenNames x6
      have hx6 : r.Leads fl ot x6 := State.leads_eqPads hx5 _ _ _ _ _
      clear_value x6
      exact State.leads_fitCheck (State.leads_setInt (State.leads_count hx6 _ _) _ _) _
    · exact State.leads_ite (State.leads_trainAt hx3 _ _ _) (State.leads_ite (State.leads_trainAt hx3 _ _ _)
          (State.leads_raise (State.leads_count (State.leads_wr hx3 _ _ _) _ _) _ _))

theorem State.leads_execAuxRequest {fl ot : Bool} {r s : State} (h : r.Leads fl ot s) (n : Nat) (handle : Nat) (host :
    Bool) (bytes : List Byte) : r.LeadsR fl ot (execAuxRequest n handle host bytes s) := by
  unfold execAuxRequest
  extract_lets -merge -underBinder +onlyGivenNames x0
  try clear_value x0
  refine State.leadsR_next ?_
  refine State.leads_ite ?_ ?_
  · exact h
  · refine State.leads_ite ?_ ?_
    · exact State.leads_cmdErr h _
    · refine State.leads_ite ?_ ?_
      · exact h
      · extract_lets -merge -underBinder +onlyGivenNames x1
        have hx1 : r.Leads fl ot x1 := State.leads_setDisp h _ _
        clear_value x1
        exact State.leads_ite (State.leads_auxServe hx1 _ _) hx1

theorem State.leads_doutLost {fl ot : Bool} {r s : State} (h : r.Leads fl ot s) (n : Nat) : r.Leads fl ot
    (State.doutLost s n) := by
  unfold State.doutLost
  extract_lets -merge -underBinder +onlyGivenNames x0
  have hx0 : r.Leads fl ot x0 := State.leads_wr h _ _ _
  clear_value x0
  exact State.leads_when hx0 _ _ (fun x1 hx1 => State.leads_wr (State.leads_wr hx1 _ _ _) _ _ _)

theorem State.leads_execIrqHpd {fl ot : Bool} {r s : State} (h : r.Leads fl ot s) (n : Nat) (retrain : Bool) : r.LeadsR
    fl ot (execIrqHpd n retrain s) := by
  unfold execIrqHpd
  extract_lets -merge -underBinder +onlyGivenNames x0
  try clear_value x0
  exact State.leadsR_next (State.leads_when h _ _ (fun x1 hx1 => State.leads_when (State.leads_hpdEvent hx1 _ _) _ _
      (fun x2 hx2 => State.leads_startTrain (State.leads_doutLost (State.leads_raise hx2 _ _) _) _)))

theorem State.leads_checkRegion {fl ot : Bool} {r s : State} (h : r.Leads fl ot s) (n : Nat) (cmp : Bool)
    (rows : List (List Nat)) (k : Nat) : r.Leads fl ot (State.checkRegion s n cmp rows k).1 := by
  unfold State.checkRegion
  extract_lets d bit
  have hb : ∀ f b t, r.Leads fl ot t → r.Leads fl ot (bit f b t) := fun f b t ht => State.leads_wrBit ht _ _ _ _
  clear_value bit
  split
  · exact hb _ _ _ (hb _ _ _ (hb _ _ _ h))
  · split
    · exact hb _ _ _ (hb _ _ _ (hb _ _ _ h))
    · extract_lets +onlyGivenNames x
      have hx : r.Leads fl ot x := State.leads_wr (hb _ _ _ h) _ _ _
      clear_value x
      refine State.leads_ite_fst ?_ ?_
      · exact State.leads_wr (hb _ _ _ (hb _ _ _ hx)) _ _ _
      · exact State.leads_wr (State.leads_count (hb _ _ _ (hb _ _ _ hx)) _ _) _ _ _

theorem State.leads_execReadbackFrameEnd {fl ot : Bool} {r s : State} (h : r.Leads fl ot s) (n : Nat) (rows : List
    (List Nat)) : r.LeadsR fl ot (execReadbackFrameEnd n rows s) := by
  unfold execReadbackFrameEnd
  extract_lets -merge -underBinder +onlyGivenNames x0
  try clear_value x0
  extract_lets -merge -underBinder +onlyGivenNames x1
  try clear_value x1
  extract_lets -merge -underBinder +onlyGivenNames x2
  try clear_value x2
  extract_lets -merge -underBinder +onlyGivenNames x3
  try clear_value x3
  extract_lets -merge -underBinder +onlyGivenNames x4
  try clear_value x4
  extract_lets -merge -underBinder +onlyGivenNames x5
  try clear_value x5
  extract_lets -merge -underBinder +onlyGivenNames x6
  try clear_value x6
  refine State.leadsR_next ?_
  refine State.leads_when ?_ _ _ (fun x7 hx7 => ?_)
  · exact h
  · extract_lets -merge -underBinder +onlyGivenNames x8
    have hx8 : r.Leads fl ot x8 := State.leads_when hx7 _ _ (fun x9 hx9 => State.leads_wr (State.leads_wr hx9 _ _ _) _
        _ _)
    clear_value x8
    extract_lets -merge -underBinder +onlyGivenNames x10
    try clear_value x10
    extract_lets -merge -underBinder +onlyGivenNames x11
    try clear_value x11
    extract_lets -merge -underBinder +onlyGivenNames x12
    have hx12 : r.Leads fl ot x12 := State.leads_wr hx8 _ _ _
    clear_value x12
    extract_lets -merge -underBinder +onlyGivenNames x13
    have hx13 : r.Leads fl ot x13 := (by
        unfold x13
        refine State.leads_when ?_ _ _ (fun x14 hx14 => ?_)
        · exact hx12
        · extract_lets -merge -underBinder +onlyGivenNames x15
          have hx15 : r.Leads fl ot x15 := State.leads_wr hx14 _ _ _
          clear_value x15
          refine State.leads_ite ?_ ?_
          · exact State.leads_wr hx15 _ _ _
          · extract_lets -merge -underBinder +onlyGivenNames x16
            try clear_value x16
            extract_lets -merge -underBinder +onlyGivenNames x17
            have hx17 : r.Leads fl ot x17 := State.leads_count (State.leads_count hx15 _ _) _ _
            clear_value x17
            exact State.leads_when hx17 _ _ (fun x18 hx18 => State.leads_raise hx18 _ _))
    clear_value x13
    extract_lets -merge -underBinder +onlyGivenNames x19
    have hx19 : r.Leads fl ot x19.1 := (by
        unfold x19
        refine State.leads_foldl_fst ?_ _ _ fun x20 y20 hx20 => ?_
        · exact State.leads_pair hx13
        extract_lets -merge -underBinder +onlyGivenNames x21
        have hx21 : r.Leads fl ot x21.1 := State.leads_checkRegion hx20 _ _ _ _
        clear_value x21
        exact State.leads_pair hx21)
    clear_value x19
    extract_lets -merge -underBinder +onlyGivenNames x22
    have hx22 : r.Leads fl ot x22 := State.leads_when hx19 _ _ (fun x23 hx23 => State.leads_raise hx23 _ _)
    clear_value x22
    exact State.leads_wr (State.leads_wr hx22 _ _ _) _ _ _

theorem State.leads_execDispCntClr {fl ot : Bool} {r s : State} (h : r.Leads fl ot s) (who : Initiator) (n : Nat) :
    r.LeadsR fl ot (execDispCntClr who n s) := by
  unfold execDispCntClr
  exact State.leadsR_next (State.leads_access h _ _ _ _ (fun x0 hx0 => State.leads_clearFields hx0 _ _))

theorem State.leads_execDoutRestart {fl ot : Bool} {r s : State} (h : r.Leads fl ot s) (who : Initiator) (n : Nat) :
    r.LeadsR fl ot (execDoutRestart who n s) := by
  unfold execDoutRestart
  exact State.leadsR_next (State.leads_access h _ _ _ _ (fun x0 hx0 => State.leads_wr hx0 _ _ _))

theorem State.leads_execFence {fl ot : Bool} {r s : State} (h : r.Leads fl ot s) (n : Nat) (handle : Nat) (id : Nat) :
    r.LeadsR fl ot (execFence n handle id s) := by
  unfold execFence
  exact State.leadsR_next (State.leads_cmdIn h _ _ _)

theorem State.leads_execAuxTimeout {fl ot : Bool} {r s : State} (h : r.Leads fl ot s) (n : Nat) : r.LeadsR fl ot
    (execAuxTimeout n s) := by
  unfold execAuxTimeout
  extract_lets -merge -underBinder +onlyGivenNames x0
  try clear_value x0
  refine State.leadsR_next ?_
  split
  · exact h
  · exact State.leads_ite h (State.leads_ite (State.leads_send (State.leads_wr (State.leads_wr h _ _ _) _ _ _) _)
        (State.leads_auxEnd (State.leads_raise (State.leads_count h _ _) _ _) _ _))

theorem State.leads_execRbLoss {fl ot : Bool} {r s : State} (h : r.Leads fl ot s) (n : Nat) : r.LeadsR fl ot
    (execRbLoss n s) := by
  unfold execRbLoss
  extract_lets -merge -underBinder +onlyGivenNames x0
  try clear_value x0
  exact State.leadsR_next (State.leads_when h _ _ (fun x1 hx1 => State.leads_raise (State.leads_wr hx1 _ _ _) _ _))

theorem State.leads_execUnplug {fl ot : Bool} {r s : State} (h : r.Leads fl ot s) (n : Nat) : r.LeadsR fl ot
    (execUnplug n s) := by
  unfold execUnplug
  extract_lets -merge -underBinder +onlyGivenNames x0
  try clear_value x0
  refine State.leadsR_next ?_
  refine State.leads_when ?_ _ _ (fun x1 hx1 => ?_)
  · exact h
  · extract_lets -merge -underBinder +onlyGivenNames x2
    have hx2 : r.Leads fl ot x2 := State.leads_wr (State.leads_wr (State.leads_wr (State.leads_wr (State.leads_wr hx1 _
        _ _) _ _ _) _ _ _) _ _ _) _ _ _
    clear_value x2
    exact State.leads_hpdEvent (State.leads_doutLost hx2 _) _ _

theorem State.leads_execVblankStart {fl ot : Bool} {r s : State} (h : r.Leads fl ot s) (n : Nat) : r.LeadsR fl ot
    (execVblankStart n s) := by
  unfold execVblankStart
  exact State.leadsR_next (State.leads_when h _ _ (fun x0 hx0 => State.leads_vblank hx0 _))

theorem State.leads_execCopyRect {fl ot : Bool} {r s : State} (h : r.Leads fl ot s) (n : Nat) (handle : Nat) (id : Nat)
    (surf : Nat) (src : Nat) (a_r : Rect) (sx : Nat) (sy : Nat) : r.LeadsR fl ot (execCopyRect n handle id surf src a_r
    sx sy s) := by
  unfold execCopyRect
  exact State.leadsR_next (State.leads_cmdIn h _ _ _)

theorem State.leads_execStreamTimeout {fl ot : Bool} {r s : State} (h : r.Leads fl ot s) (n : Nat) : r.LeadsR fl ot
    (execStreamTimeout n s) := by
  unfold execStreamTimeout
  extract_lets -merge -underBinder +onlyGivenNames x0
  try clear_value x0
  refine State.leadsR_next ?_
  refine State.leads_when ?_ _ _ (fun x1 hx1 => ?_)
  · exact h
  · extract_lets -merge -underBinder +onlyGivenNames x2
    have hx2 : r.Leads fl ot x2 := State.leads_wr hx1 _ _ _
    clear_value x2
    exact State.leads_ite (State.leads_dispForce (State.leads_raise hx2 _ _) _ _) hx2

theorem State.leads_execPlug {fl ot : Bool} {r s : State} (h : r.Leads fl ot s) (n : Nat) (lanes : Nat) : r.LeadsR fl
    ot (execPlug n lanes s) := by
  unfold execPlug
  extract_lets -merge -underBinder +onlyGivenNames x0
  try clear_value x0
  refine State.leadsR_next ?_
  refine State.leads_when ?_ _ _ (fun x1 hx1 => ?_)
  · exact h
  · extract_lets -merge -underBinder +onlyGivenNames x2
    have hx2 : r.Leads fl ot x2 := State.leads_wr (State.leads_wr (State.leads_wr (State.leads_wr hx1 _ _ _) _ _ _) _ _
        _) _ _ _
    clear_value x2
    extract_lets -merge -underBinder +onlyGivenNames x3
    have hx3 : r.Leads fl ot x3 := State.leads_hpdEvent hx2 _ _
    clear_value x3
    exact State.leads_ite (State.leads_startTrain hx3 _) (State.leads_wr hx3 _ _ _)

theorem State.leads_execCopyForwardDone {fl ot : Bool} {r s : State} (h : r.Leads fl ot s) (n : Nat) (surf : Nat) :
    r.LeadsR fl ot (execCopyForwardDone n surf s) := by
  unfold execCopyForwardDone
  exact State.leadsR_next (State.leads_when h _ _ (fun x0 hx0 => State.leads_copyDone hx0 _ _))

theorem State.leads_execCommit {fl ot : Bool} {r s : State} (h : r.Leads fl ot s) (n : Nat) (handle : Nat) (id : Nat)
    (mask : Nat) : r.LeadsR fl ot (execCommit n handle id mask s) := by
  unfold execCommit
  exact State.leadsR_next (State.leads_cmdIn h _ _ _)

theorem State.leads_execDoutRetrain {fl ot : Bool} {r s : State} (h : r.Leads fl ot s) (who : Initiator) (n : Nat) :
    r.LeadsR fl ot (execDoutRetrain who n s) := by
  unfold execDoutRetrain
  exact State.leadsR_next (State.leads_access h _ _ _ _ (fun x0 hx0 => State.leads_startTrain hx0 _))

theorem State.leads_execLineStart {fl ot : Bool} {r s : State} (h : r.Leads fl ot s) (n : Nat) (skew : Nat) : r.LeadsR
    fl ot (execLineStart n skew s) := by
  unfold execLineStart
  exact State.leadsR_next (State.leads_when h _ _ (fun x0 hx0 => State.leads_lineStart hx0 _ _))

theorem State.leads_execFillRect {fl ot : Bool} {r s : State} (h : r.Leads fl ot s) (n : Nat) (handle : Nat) (id : Nat)
    (surf : Nat) (a_r : Rect) (colour : Nat) : r.LeadsR fl ot (execFillRect n handle id surf a_r colour s) := by
  unfold execFillRect
  exact State.leadsR_next (State.leads_cmdIn h _ _ _)

theorem State.leads_execReadRect {fl ot : Bool} {r s : State} (h : r.Leads fl ot s) (n : Nat) (handle : Nat) (id : Nat)
    (surf : Nat) (cap : Bool) (a_r : Rect) : r.LeadsR fl ot (execReadRect n handle id surf cap a_r s) := by
  unfold execReadRect
  exact State.leadsR_next (State.leads_cmdIn h _ _ _)

theorem State.leads_execHoldReq {fl ot : Bool} {r s : State} (h : r.Leads fl ot s) (who : Initiator) (n : Nat) (resume
    : Bool) : r.LeadsR fl ot (execHoldReq who n resume s) := by
  unfold execHoldReq
  exact State.leadsR_next (State.leads_access h _ _ _ _ (fun x0 hx0 => State.leads_ite (State.leads_resume hx0 _)
      (State.leads_askHold hx0 _ _)))

theorem State.leads_execResumeReq {fl ot : Bool} {r s : State} (h : r.Leads fl ot s) (who : Initiator) (n : Nat) :
    r.LeadsR fl ot (execResumeReq who n s) := by
  unfold execResumeReq
  exact State.leadsR_next (State.leads_access h _ _ _ _ (fun x0 hx0 => State.leads_resume hx0 _))

theorem State.leads_execStreamPacketRx {fl ot : Bool} {r s : State} (h : r.Leads fl ot s) (n : Nat) (handle : Nat) (e :
    StreamEvt) : r.LeadsR fl ot (execStreamPacketRx n handle e s) := by
  unfold execStreamPacketRx
  refine State.leadsR_next ?_
  refine State.leads_ite ?_ ?_
  · exact h
  · refine State.leads_ite ?_ ?_
    · exact State.leads_cmdErr h _
    · refine State.leads_ite ?_ ?_
      · exact h
      · split
        · exact State.leads_streamMsa h _ _
        · exact State.leads_streamLine h _ _ _

theorem State.leads_execWriteRect {fl ot : Bool} {r s : State} (h : r.Leads fl ot s) (n : Nat) (handle : Nat) (id :
    Nat) (surf : Nat) (a_r : Rect) (data : List Byte) : r.LeadsR fl ot (execWriteRect n handle id surf a_r data s) := by
  unfold execWriteRect
  exact State.leadsR_next (State.leads_cmdIn h _ _ _)

theorem State.leads_execAuxReply {fl ot : Bool} {r s : State} (h : r.Leads fl ot s) (n : Nat) (bytes : List Byte) :
    r.LeadsR fl ot (execAuxReply n bytes s) := by
  unfold execAuxReply
  exact State.leadsR_next (State.leads_auxEnd h _ _)

end Sys2Proof.Machine
end

