-- ==== Sys2Proof/Laws/Lead/EthOps.lean ====
section
/-! SUPPORT. What the operations of Machine/EthOps.lean keep (State.Leads of Laws/Leads.lean). -/

namespace Sys2Proof.Machine

open Reg

theorem State.leads_ethPieces {fl ot : Bool} {r s : State} (h : r.Leads fl ot s) (n i kind : Nat)
    (l : List (List Byte)) : r.Leads fl ot (State.ethPieces s n i kind l) := by
  induction l generalizing s with
  | nil => exact h
  | cons b l ih =>
    cases l with
    | nil => exact State.leads_inject h _ _ _ _
    | cons c l => exact ih (State.leads_inject h _ _ _ _)

theorem State.leads_ethIntr {fl ot : Bool} {r s : State} (h : r.Leads fl ot s) (n : Nat) (e : Nat) : r.Leads fl ot
    (State.ethIntr s n e) := by
  unfold State.ethIntr
  extract_lets -merge -underBinder +onlyGivenNames x0
  try clear_value x0
  extract_lets -merge -underBinder +onlyGivenNames x1
  try clear_value x1
  extract_lets -merge -underBinder +onlyGivenNames x2
  try clear_value x2
  exact State.leads_ite (State.leads_send (State.leads_wr (State.leads_wr h _ _ _) _ _ _) _) (State.leads_wr h _ _ _)

theorem State.leads_ethReset {fl ot : Bool} {r s : State} (h : r.Leads fl ot s) (n : Nat) : r.Leads fl ot
    (State.ethReset s n) := by
  unfold State.ethReset
  extract_lets -merge -underBinder +onlyGivenNames x0
  try clear_value x0
  extract_lets -merge -underBinder +onlyGivenNames x1
  try clear_value x1
  extract_lets -merge -underBinder +onlyGivenNames x2
  have hx2 : r.Leads fl ot x2 := State.leads_sat h _ _ _
  clear_value x2
  extract_lets -merge -underBinder +onlyGivenNames x3
  have hx3 : r.Leads fl ot x3 := State.leads_foldl hx2 _ _ fun x4 y4 hx4 => State.leads_wr (State.leads_wr hx4 _ _ _) _
      _ _
  clear_value x3
  exact State.leads_clearFields (State.leads_setEth hx3 _ _) _ _

theorem State.leads_rxDrop {fl ot : Bool} {r s : State} (h : r.Leads fl ot s) (n : Nat) : r.Leads fl ot (State.rxDrop s
    n) := by
  unfold State.rxDrop
  exact State.leads_raise (State.leads_count h _ _) _ _

theorem State.leads_pauseCheck {fl ot : Bool} {r s : State} (h : r.Leads fl ot s) (n : Nat) : r.Leads fl ot
    (State.pauseCheck s n) := by
  unfold State.pauseCheck
  extract_lets -merge -underBinder +onlyGivenNames x0
  try clear_value x0
  extract_lets -merge -underBinder +onlyGivenNames x1
  try clear_value x1
  extract_lets -merge -underBinder +onlyGivenNames x2
  try clear_value x2
  extract_lets -merge -underBinder +onlyGivenNames x3
  try clear_value x3
  extract_lets -merge -underBinder +onlyGivenNames x4
  try clear_value x4
  exact State.leads_ite h (State.leads_ite (State.leads_send (State.leads_count (State.leads_wr h _ _ _) _ _) _)
      (State.leads_ite (State.leads_send (State.leads_count (State.leads_wr h _ _ _) _ _) _) h))

theorem State.leads_txComplete {fl ot : Bool} {r s : State} (h : r.Leads fl ot s) (n : Nat) (q : Nat) (idx : Nat)
    (status : Nat) (ts : Nat) : r.Leads fl ot (State.txComplete s n q idx status ts) := by
  unfold State.txComplete
  exact State.leads_ethIntr (State.leads_send h _) _ _

theorem State.leads_ethLink {fl ot : Bool} {r s : State} (h : r.Leads fl ot s) (n : Nat) (up : Bool) (mode : Nat) :
    r.Leads fl ot (State.ethLink s n up mode) := by
  unfold State.ethLink
  extract_lets -merge -underBinder +onlyGivenNames x0
  try clear_value x0
  extract_lets -merge -underBinder +onlyGivenNames x1
  try clear_value x1
  extract_lets -merge -underBinder +onlyGivenNames x2
  have hx2 : r.Leads fl ot x2 := State.leads_wr (State.leads_wr h _ _ _) _ _ _
  clear_value x2
  exact State.leads_ite hx2 (State.leads_when (State.leads_ethIntr (State.leads_setInt hx2 _ _) _ _) _ _ (fun x3 hx3 =>
      State.leads_raise hx3 _ _))

theorem State.leads_ethDown {fl ot : Bool} {r s : State} (h : r.Leads fl ot s) (n : Nat) : r.Leads fl ot (State.ethDown
    s n) := by
  unfold State.ethDown
  extract_lets -merge -underBinder +onlyGivenNames x0
  try clear_value x0
  extract_lets -merge -underBinder +onlyGivenNames x1
  have hx1 : r.Leads fl ot x1 := State.leads_setEth h _ _
  clear_value x1
  extract_lets -merge -underBinder +onlyGivenNames x2
  have hx2 : r.Leads fl ot x2 := State.leads_foldl hx1 _ _ fun x3 y3 hx3 => State.leads_txComplete hx3 _ _ _ _ _
  clear_value x2
  extract_lets -merge -underBinder +onlyGivenNames x4
  try clear_value x4
  extract_lets -merge -underBinder +onlyGivenNames x5
  have hx5 : r.Leads fl ot x5 := State.leads_sat hx2 _ _ _
  clear_value x5
  exact State.leads_ite hx5 (State.leads_ite (State.leads_ethLink hx5 _ _ _) (State.leads_when hx5 _ _ (fun x6 hx6 =>
      State.leads_raise hx6 _ _)))

theorem State.leads_ethReport {fl ot : Bool} {r s : State} (h : r.Leads fl ot s) (n : Nat) : r.Leads fl ot
    (State.ethReport s n) := by
  unfold State.ethReport
  extract_lets -merge -underBinder +onlyGivenNames x0
  try clear_value x0
  extract_lets -merge -underBinder +onlyGivenNames x1
  try clear_value x1
  exact State.leads_memReport h _ _

theorem State.leads_ethTunnel {fl ot : Bool} {r s : State} (h : r.Leads fl ot s) (n : Nat) (i : Nat) (kind : Nat) (bs :
    List Byte) : r.Leads fl ot (State.ethTunnel s n i kind bs) := by
  unfold State.ethTunnel
  exact State.leads_ethPieces h _ _ _ _

theorem State.leads_rxWrite {fl ot : Bool} {r s : State} (h : r.Leads fl ot s) (n : Nat) (f : EthFrame) {t : State}
    (e : State.rxWrite s n f = some t) : r.Leads fl ot t := by
  unfold State.rxWrite at e
  dsimp only at e
  split at e
  · cases e
  · split at e
    · cases e
    · injection e with e
      rw [← e]
      exact State.leads_ethIntr (State.leads_send (State.leads_wr (State.leads_setEth h _ _) _ _ _) _) _ _

theorem State.leads_macDrain {fl ot : Bool} {r s : State} (h : r.Leads fl ot s) (n : Nat) : r.Leads fl ot
    (State.macDrain s n) := by
  unfold State.macDrain
  extract_lets e out
  have hout : ∀ t f, r.Leads fl ot t → r.Leads fl ot (out t f) := fun t f ht =>
    State.leads_when ht _ _ fun u hu => State.leads_memTouch hu _ _
  clear_value out
  split
  rename_i s1 left heq
  have h1 := State.leads_of_fst heq (State.leads_foldl_fst (r := r) (fl := fl) (ot := ot) h _ _ fun t f ht => by
    split
    · exact ht
    · split
      · split
        · rename_i u hu
          exact hout _ _ (State.leads_rxWrite ht _ _ hu)
        · exact ht
      · extract_lets i
        split
        · exact State.leads_ethTunnel (hout _ _ ht) _ _ _ _
        · exact ht)
  exact State.leads_ethReport (State.leads_pauseCheck (State.leads_setEth h1 _ _) _) _

theorem State.leads_rxPlace {fl ot : Bool} {r s : State} (h : r.Leads fl ot s) (n : Nat) (f : EthFrame) : r.Leads fl ot
    (State.rxPlace s n f) := by
  unfold State.rxPlace
  extract_lets -merge -underBinder +onlyGivenNames x0
  try clear_value x0
  extract_lets -merge -underBinder +onlyGivenNames x1
  try clear_value x1
  extract_lets -merge -underBinder +onlyGivenNames x2
  try clear_value x2
  extract_lets -merge -underBinder +onlyGivenNames x3
  try clear_value x3
  extract_lets -merge -underBinder +onlyGivenNames x4
  try clear_value x4
  extract_lets -merge -underBinder +onlyGivenNames x5
  try clear_value x5
  extract_lets -merge -underBinder +onlyGivenNames x6
  try clear_value x6
  extract_lets -merge -underBinder +onlyGivenNames x7
  try clear_value x7
  refine State.leads_ite ?_ ?_
  · exact State.leads_rxDrop h _
  · refine State.leads_ite ?_ ?_
    · extract_lets -merge -underBinder +onlyGivenNames x8
      try clear_value x8
      extract_lets -merge -underBinder +onlyGivenNames x9
      try clear_value x9
      extract_lets -merge -underBinder +onlyGivenNames x10
      have hx10 : r.Leads fl ot x10 := State.leads_memWrite h _ _ _
      clear_value x10
      extract_lets -merge -underBinder +onlyGivenNames x11
      have hx11 : r.Leads fl ot x11 := State.leads_when hx10 _ _ (fun x12 hx12 => State.leads_memWrite hx12 _ _ _)
      clear_value x11
      extract_lets -merge -underBinder +onlyGivenNames x13
      have hx13 : r.Leads fl ot x13 := State.leads_count (State.leads_wr hx11 _ _ _) _ _
      clear_value x13
      exact State.leads_macDrain (State.leads_setEth hx13 _ _) _
    · exact State.leads_ite (State.leads_macDrain (State.leads_setEth h _ _) _) (State.leads_pauseCheck
          (State.leads_rxDrop h _) _)

theorem State.leads_txStamp {fl ot : Bool} {r s : State} (h : r.Leads fl ot s) (n : Nat) (q : Nat) (idx : Nat) (ts :
    Nat) : r.Leads fl ot (State.txStamp s n q idx ts) := by
  unfold State.txStamp
  extract_lets -merge -underBinder +onlyGivenNames x0
  try clear_value x0
  exact State.leads_ite (State.leads_txComplete (State.leads_setEth h _ _) _ _ _ _ _) h

theorem State.leads_lineTx {fl ot : Bool} {r s : State} (h : r.Leads fl ot s) (n : Nat) (f : EthSend) : r.Leads fl ot
    (State.lineTx s n f) := by
  unfold State.lineTx
  extract_lets -merge -underBinder +onlyGivenNames x0
  have hx0 : r.Leads fl ot x0 := State.leads_count (State.leads_send h _) _ _
  clear_value x0
  extract_lets -merge -underBinder +onlyGivenNames x1
  try clear_value x1
  exact State.leads_ite hx0 (State.leads_ite (State.leads_txStamp hx0 _ _ _ _) (State.leads_ethTunnel hx0 _ _ _ _))

theorem State.leads_macTx {fl ot : Bool} {r s : State} (h : r.Leads fl ot s) (n : Nat) (f : EthSend) : r.Leads fl ot
    (State.macTx s n f) := by
  unfold State.macTx
  refine State.leads_ite ?_ ?_
  · extract_lets -merge -underBinder +onlyGivenNames x0
    try clear_value x0
    exact State.leads_setEth h _ _
  · exact State.leads_lineTx h _ _

theorem State.leads_txFrame {fl ot : Bool} {r s : State} (h : r.Leads fl ot s) (n : Nat) (q : Nat) (idx : Nat) (ds :
    List TxDesc) : r.Leads fl ot (State.txFrame s n q idx ds) := by
  unfold State.txFrame
  dsimp only
  repeat' (with_reducible first
    | assumption | apply State.leads_ethTunnel | apply State.leads_macTx | apply State.leads_setEth
    | apply State.leads_txComplete | apply State.leads_when | apply State.leads_foldl | intro _
    | apply State.leads_ite | apply State.leads_of_fst (by assumption) | split)

theorem State.leads_lineState {fl ot : Bool} {r s : State} (h : r.Leads fl ot s) (n : Nat) (up : Bool) : r.Leads fl ot
    (State.lineState s n up) := by
  unfold State.lineState
  extract_lets -merge -underBinder +onlyGivenNames x0
  try clear_value x0
  extract_lets -merge -underBinder +onlyGivenNames x1
  try clear_value x1
  refine State.leads_when ?_ _ _ (fun x2 hx2 => ?_)
  · exact h
  · extract_lets -merge -underBinder +onlyGivenNames x3
    try clear_value x3
    extract_lets -merge -underBinder +onlyGivenNames x4
    try clear_value x4
    extract_lets -merge -underBinder +onlyGivenNames x5
    have hx5 : r.Leads fl ot x5 := State.leads_when (State.leads_wr hx2 _ _ _) _ _ (fun x6 hx6 => State.leads_raise hx6
        _ _)
    clear_value x5
    extract_lets -merge -underBinder +onlyGivenNames x7
    have hx7 : r.Leads fl ot x7 := State.leads_when hx5 _ _ (fun x8 hx8 => State.leads_eqPads hx8 _ _ _ _ _)
    clear_value x7
    refine State.leads_when ?_ _ _ (fun x9 hx9 => ?_)
    · exact hx7
    · extract_lets -merge -underBinder +onlyGivenNames x10
      have hx10 : r.Leads fl ot x10 := State.leads_wr hx9 _ _ _
      clear_value x10
      refine State.leads_ite ?_ ?_
      · exact State.leads_ethLink hx10 _ _ _
      · extract_lets -merge -underBinder +onlyGivenNames x11
        have hx11 : r.Leads fl ot x11 := State.leads_ethTunnel hx10 _ _ _ _
        clear_value x11
        exact State.leads_when hx11 _ _ (fun x12 hx12 => State.leads_raise hx12 _ _)

theorem State.leads_ethStandby {fl ot : Bool} {r s : State} (h : r.Leads fl ot s) (n : Nat) : r.Leads fl ot
    (State.ethStandby s n) := by
  unfold State.ethStandby
  extract_lets -merge -underBinder +onlyGivenNames x0
  try clear_value x0
  extract_lets -merge -underBinder +onlyGivenNames x1
  have hx1 : r.Leads fl ot x1 := State.leads_sat h _ _ _
  clear_value x1
  extract_lets -merge -underBinder +onlyGivenNames x2
  have hx2 : r.Leads fl ot x2 := State.leads_setEth hx1 _ _
  clear_value x2
  exact State.leads_when (State.leads_wr hx2 _ _ _) _ _ (fun x3 hx3 => State.leads_ethLink hx3 _ _ _)

theorem State.leads_macResume {fl ot : Bool} {r s : State} (h : r.Leads fl ot s) (n : Nat) : r.Leads fl ot
    (State.macResume s n) := by
  unfold State.macResume
  extract_lets -merge -underBinder +onlyGivenNames x0
  try clear_value x0
  exact State.leads_foldl (State.leads_setEth (State.leads_wr h _ _ _) _ _) _ _ fun x1 y1 hx1 => State.leads_lineTx hx1
      _ _

theorem State.leads_txFrames {fl ot : Bool} {r s : State} (h : r.Leads fl ot s) (n q size k i : Nat)
    (acc ds : List TxDesc) : r.Leads fl ot (State.txFrames s n q size k i acc ds) := by
  induction ds generalizing s k i acc with
  | nil => unfold State.txFrames; exact State.leads_setEth h _ _
  | cons d ds ih =>
    cases k with
    | zero => exact h
    | succ k =>
      unfold State.txFrames
      split
      · exact ih (State.leads_txFrame h _ _ _ _) _ _ _
      · exact ih h _ _ _

theorem State.leads_qDrain {fl ot : Bool} {r s : State} (h : r.Leads fl ot s) (n : Nat) : r.Leads fl ot
    (State.qDrain s n) := by
  unfold State.qDrain
  extract_lets e
  split
  rename_i s1 left heq
  have h1 := State.leads_of_fst heq (State.leads_foldl_fst (r := r) (fl := fl) (ot := ot) h _ _ fun t f ht => by
    split
    · exact ht
    · split
      · rename_i u hu
        exact State.leads_rxWrite ht _ _ hu
      · exact ht)
  exact State.leads_setEth h1 _ _

end Sys2Proof.Machine
end

