-- ==== Sys2Proof/Laws/Lead/Ethernet.lean ====
section
/-! SUPPORT. What the operations of Machine/Ethernet.lean keep (State.Leads of Laws/Leads.lean). -/

namespace Sys2Proof.Machine

open Reg

theorem State.leads_execEthFrameRx {fl ot : Bool} {r s : State} (h : r.Leads fl ot s) (n : Nat) (fcsOk : Bool) (accept
    : Bool) (bytes : List Byte) : r.LeadsR fl ot (execEthFrameRx n fcsOk accept bytes s) := by
  unfold execEthFrameRx
  extract_lets -merge -underBinder +onlyGivenNames x0
  try clear_value x0
  refine State.leadsR_next ?_
  refine State.leads_when ?_ _ _ (fun x1 hx1 => ?_)
  · exact h
  · refine State.leads_ite ?_ ?_
    · exact State.leads_rxDrop (State.leads_count hx1 _ _) _
    · refine State.leads_ite ?_ ?_
      · exact State.leads_rxDrop hx1 _
      · extract_lets -merge -underBinder +onlyGivenNames x2
        try clear_value x2
        exact State.leads_rxPlace (State.leads_count hx1 _ _) _ _

theorem State.leads_execEthStatusUpdate {fl ot : Bool} {r s : State} (h : r.Leads fl ot s) (n : Nat) (w0 : Nat) (w1 :
    Nat) (w2 : Nat) (w3 : Nat) : r.LeadsR fl ot (execEthStatusUpdate n w0 w1 w2 w3 s) := by
  unfold execEthStatusUpdate
  refine State.leadsR_next ?_
  refine State.leads_when ?_ _ _ (fun x0 hx0 => ?_)
  · exact h
  · split
    · exact State.leads_ethLink hx0 _ _ _
    · exact State.leads_txStamp hx0 _ _ _ _
    · exact hx0

theorem State.leads_execPauseQuantaExpiry {fl ot : Bool} {r s : State} (h : r.Leads fl ot s) (n : Nat) : r.LeadsR fl ot
    (execPauseQuantaExpiry n s) := by
  unfold execPauseQuantaExpiry
  extract_lets -merge -underBinder +onlyGivenNames x0
  try clear_value x0
  exact State.leadsR_next (State.leads_when h _ _ (fun x1 hx1 => State.leads_macResume hx1 _))

theorem State.leads_tailBad {fl ot : Bool} {r s : State} (h : r.Leads fl ot s) (n : Nat) (q : Nat) : r.Leads fl ot
    (State.tailBad s n q) := by
  unfold State.tailBad
  exact State.leads_raise (State.leads_wr h _ _ _) _ _

theorem State.leads_execRxTail {fl ot : Bool} {r s : State} (h : r.Leads fl ot s) (who : Initiator) (n : Nat) (q : Nat)
    (tail : Nat) (sizes : List Nat) : r.LeadsR fl ot (execRxTail who n q tail sizes s) := by
  unfold execRxTail
  extract_lets -merge -underBinder +onlyGivenNames x0
  try clear_value x0
  refine State.leadsR_next ?_
  refine State.leads_access ?_ _ _ _ _ (fun x1 hx1 => ?_)
  · exact h
  · extract_lets -merge -underBinder +onlyGivenNames x2
    try clear_value x2
    refine State.leads_ite ?_ ?_
    · exact State.leads_tailBad hx1 _ _
    · extract_lets -merge -underBinder +onlyGivenNames x3
      try clear_value x3
      extract_lets -merge -underBinder +onlyGivenNames x4
      have hx4 : r.Leads fl ot x4 := State.leads_wr hx1 _ _ _
      clear_value x4
      refine State.leads_ite ?_ ?_
      · exact hx4
      · extract_lets -merge -underBinder +onlyGivenNames x5
        try clear_value x5
        extract_lets -merge -underBinder +onlyGivenNames x6
        try clear_value x6
        extract_lets -merge -underBinder +onlyGivenNames x7
        have hx7 : r.Leads fl ot x7 := State.leads_setEth hx4 _ _
        clear_value x7
        exact State.leads_when (State.leads_qDrain hx7 _) _ _ (fun x8 hx8 => State.leads_macDrain hx8 _)

theorem State.leads_execLinkStateTimer {fl ot : Bool} {r s : State} (h : r.Leads fl ot s) (n : Nat) (up : Bool) :
    r.LeadsR fl ot (execLinkStateTimer n up s) := by
  unfold execLinkStateTimer
  exact State.leadsR_next (State.leads_lineState h _ _)

theorem State.leads_execEthCntClr {fl ot : Bool} {r s : State} (h : r.Leads fl ot s) (who : Initiator) (n : Nat) :
    r.LeadsR fl ot (execEthCntClr who n s) := by
  unfold execEthCntClr
  exact State.leadsR_next (State.leads_access h _ _ _ _ (fun x0 hx0 => State.leads_clearFields hx0 _ _))

theorem State.leads_execEthBindChange {fl ot : Bool} {r s : State} (h : r.Leads fl ot s) (who : Initiator) (n : Nat) (q
    : Nat) (m : Nat) : r.LeadsR fl ot (execEthBindChange who n q m s) := by
  unfold execEthBindChange
  extract_lets -merge -underBinder +onlyGivenNames x0
  try clear_value x0
  refine State.leadsR_next ?_
  refine State.leads_access ?_ _ _ _ _ (fun x1 hx1 => ?_)
  · exact h
  · refine State.leads_ite ?_ ?_
    · exact hx1
    · extract_lets -merge -underBinder +onlyGivenNames x2
      have hx2 : r.Leads fl ot x2 := State.leads_wr (State.leads_wr (State.leads_ethReset hx1 _) _ _ _) _ _ _
      clear_value x2
      exact State.leads_when hx2 _ _ (fun x3 hx3 => State.leads_raise hx3 _ _)

theorem State.leads_execIrqModExpiry {fl ot : Bool} {r s : State} (h : r.Leads fl ot s) (n : Nat) (entry : Nat) :
    r.LeadsR fl ot (execIrqModExpiry n entry s) := by
  unfold execIrqModExpiry
  extract_lets -merge -underBinder +onlyGivenNames x0
  try clear_value x0
  exact State.leadsR_next (State.leads_when h _ _ (fun x1 hx1 => State.leads_ethIntr hx1 _ _))

theorem State.leads_execTxTail {fl ot : Bool} {r s : State} (h : r.Leads fl ot s) (who : Initiator) (n : Nat) (q : Nat)
    (tail : Nat) (descs : List TxDesc) : r.LeadsR fl ot (execTxTail who n q tail descs s) := by
  unfold execTxTail
  extract_lets -merge -underBinder +onlyGivenNames x0
  try clear_value x0
  refine State.leadsR_next ?_
  refine State.leads_access ?_ _ _ _ _ (fun x1 hx1 => ?_)
  · exact h
  · extract_lets -merge -underBinder +onlyGivenNames x2
    try clear_value x2
    refine State.leads_ite ?_ ?_
    · exact State.leads_tailBad hx1 _ _
    · extract_lets -merge -underBinder +onlyGivenNames x3
      have hx3 : r.Leads fl ot x3 := State.leads_wr hx1 _ _ _
      clear_value x3
      refine State.leads_ite ?_ ?_
      · exact hx3
      · extract_lets -merge -underBinder +onlyGivenNames x4
        try clear_value x4
        extract_lets -merge -underBinder +onlyGivenNames x5
        try clear_value x5
        extract_lets -merge -underBinder +onlyGivenNames x6
        try clear_value x6
        extract_lets -merge -underBinder +onlyGivenNames x7
        have hx7 : r.Leads fl ot x7 := State.leads_wr hx3 _ _ _
        clear_value x7
        exact State.leads_txFrames hx7 _ _ _ _ _ _ _

theorem State.leads_execTsCompletionTimeout {fl ot : Bool} {r s : State} (h : r.Leads fl ot s) (n : Nat) (q : Nat) (idx
    : Nat) : r.LeadsR fl ot (execTsCompletionTimeout n q idx s) := by
  unfold execTsCompletionTimeout
  extract_lets -merge -underBinder +onlyGivenNames x0
  try clear_value x0
  exact State.leadsR_next (State.leads_when h _ _ (fun x1 hx1 => State.leads_txComplete (State.leads_setEth hx1 _ _) _
      _ _ _ _))

theorem State.leads_execEthTunnelFrame {fl ot : Bool} {r s : State} (h : r.Leads fl ot s) (n : Nat) (toMac : Bool) (g :
    Bool) (more : Bool) (bytes : List Byte) : r.LeadsR fl ot (execEthTunnelFrame n toMac g more bytes s) := by
  unfold execEthTunnelFrame
  extract_lets -merge -underBinder +onlyGivenNames x0
  try clear_value x0
  extract_lets -merge -underBinder +onlyGivenNames x1
  try clear_value x1
  extract_lets -merge -underBinder +onlyGivenNames x2
  try clear_value x2
  extract_lets -merge -underBinder +onlyGivenNames x3
  try clear_value x3
  refine State.leadsR_next ?_
  refine State.leads_when ?_ _ _ (fun x4 hx4 => ?_)
  · exact h
  · extract_lets -merge -underBinder +onlyGivenNames x5
    try clear_value x5
    extract_lets -merge -underBinder +onlyGivenNames x6
    try clear_value x6
    refine State.leads_ite ?_ ?_
    · exact State.leads_setEth hx4 _ _
    · extract_lets -merge -underBinder +onlyGivenNames x7
      have hx7 : r.Leads fl ot x7 := State.leads_setEth hx4 _ _
      clear_value x7
      extract_lets -merge -underBinder +onlyGivenNames x8
      try clear_value x8
      extract_lets -merge -underBinder +onlyGivenNames x9
      try clear_value x9
      extract_lets -merge -underBinder +onlyGivenNames x10
      try clear_value x10
      refine State.leads_ite ?_ ?_
      · exact State.leads_macTx hx7 _ _
      · extract_lets -merge -underBinder +onlyGivenNames x11
        try clear_value x11
        extract_lets -merge -underBinder +onlyGivenNames x12
        try clear_value x12
        exact State.leads_qDrain (State.leads_setEth hx7 _ _) _

theorem State.leads_execEthDmaError {fl ot : Bool} {r s : State} (h : r.Leads fl ot s) (n : Nat) (q : Nat) : r.LeadsR
    fl ot (execEthDmaError n q s) := by
  unfold execEthDmaError
  extract_lets -merge -underBinder +onlyGivenNames x0
  try clear_value x0
  refine State.leadsR_next ?_
  refine State.leads_when ?_ _ _ (fun x1 hx1 => ?_)
  · exact h
  · extract_lets -merge -underBinder +onlyGivenNames x2
    try clear_value x2
    extract_lets -merge -underBinder +onlyGivenNames x3
    have hx3 : r.Leads fl ot x3 := State.leads_wr (State.leads_wr hx1 _ _ _) _ _ _
    clear_value x3
    extract_lets -merge -underBinder +onlyGivenNames x4
    have hx4 : r.Leads fl ot x4 := State.leads_setEth hx3 _ _
    clear_value x4
    exact State.leads_raise (State.leads_wr hx4 _ _ _) _ _

theorem State.leads_execPauseRx {fl ot : Bool} {r s : State} (h : r.Leads fl ot s) (n : Nat) (quanta : Nat) : r.LeadsR
    fl ot (execPauseRx n quanta s) := by
  unfold execPauseRx
  extract_lets -merge -underBinder +onlyGivenNames x0
  try clear_value x0
  refine State.leadsR_next ?_
  refine State.leads_when ?_ _ _ (fun x1 hx1 => ?_)
  · exact h
  · extract_lets -merge -underBinder +onlyGivenNames x2
    have hx2 : r.Leads fl ot x2 := State.leads_count hx1 _ _
    clear_value x2
    refine State.leads_ite ?_ ?_
    · exact State.leads_macResume hx2 _
    · extract_lets -merge -underBinder +onlyGivenNames x3
      try clear_value x3
      exact State.leads_wr (State.leads_wr hx2 _ _ _) _ _ _

end Sys2Proof.Machine
end

