-- ==== Sys2Proof/Laws/Lead/SafeOps.lean ====
section
/-! SUPPORT. What the operations of Machine/SafeOps.lean keep (State.Leads of Laws/Leads.lean). -/

namespace Sys2Proof.Machine

open Reg

theorem State.leads_mbWords {fl ot : Bool} {r s : State} (h : r.Leads fl ot s) (c : Nat) (ws : List Nat) : r.Leads fl
    ot (State.mbWords s c ws) := by
  unfold State.mbWords
  exact State.leads_foldl h _ _ fun x0 y0 hx0 => State.leads_wr hx0 _ _ _

theorem State.leads_mbUsb {fl ot : Bool} {r s : State} (h : r.Leads fl ot s) (c : Nat) : r.Leads fl ot (State.mbUsb s
    c) := by
  unfold State.mbUsb
  extract_lets -merge -underBinder +onlyGivenNames x0
  try clear_value x0
  extract_lets -merge -underBinder +onlyGivenNames x1
  try clear_value x1
  extract_lets -merge -underBinder +onlyGivenNames x2
  try clear_value x2
  extract_lets -merge -underBinder +onlyGivenNames x3
  try clear_value x3
  extract_lets -merge -underBinder +onlyGivenNames x4
  have hx4 : r.Leads fl ot x4 := State.leads_foldl h _ _ fun x5 y5 hx5 => State.leads_usbPush hx5 _ _
  clear_value x4
  exact State.leads_wr (State.leads_wr hx4 _ _ _) _ _ _

theorem State.leads_mbDone {fl ot : Bool} {r s : State} (h : r.Leads fl ot s) (c : Nat) (status : Nat) (len : Nat) :
    r.Leads fl ot (State.mbDone s c status len) := by
  unfold State.mbDone
  extract_lets -merge -underBinder +onlyGivenNames x0
  try clear_value x0
  extract_lets -merge -underBinder +onlyGivenNames x1
  have hx1 : r.Leads fl ot x1 := State.leads_wr (State.leads_wr (State.leads_wr h _ _ _) _ _ _) _ _ _
  clear_value x1
  extract_lets -merge -underBinder +onlyGivenNames x2
  have hx2 : r.Leads fl ot x2 := State.leads_wr (State.leads_wr (State.leads_wr hx1 _ _ _) _ _ _) _ _ _
  clear_value x2
  exact State.leads_ite (State.leads_mbUsb hx2 _) (State.leads_setInt hx2 _ _)

theorem State.leads_safeAnswer {fl ot : Bool} {r s : State} (h : r.Leads fl ot s) (a_r : SafeReq) (status : Nat) :
    r.Leads fl ot (State.safeAnswer s a_r status) := by
  unfold State.safeAnswer
  extract_lets -merge -underBinder +onlyGivenNames x0
  try clear_value x0
  extract_lets -merge -underBinder +onlyGivenNames x1
  have hx1 : r.Leads fl ot x1 := State.leads_send h _
  clear_value x1
  exact State.leads_when hx1 _ _ (fun x2 hx2 => State.leads_mbDone (State.leads_mbWords hx2 _ _) _ _ _)

theorem State.leads_endClose {fl ot : Bool} {r s : State} (h : r.Leads fl ot s) (n : Nat) (status : Nat) : r.Leads fl
    ot (State.endClose s n status) := by
  unfold State.endClose
  extract_lets -merge -underBinder +onlyGivenNames x0
  have hx0 : r.Leads fl ot x0 := State.leads_wr h _ _ _
  clear_value x0
  split
  · exact State.leads_safeAnswer (State.leads_mk hx0 ..) _ _
  · exact hx0

theorem State.leads_openBoth {fl ot : Bool} {r s : State} (h : r.Leads fl ot s) (n : Nat) : r.Leads fl ot
    (State.openBoth s n) := by
  unfold State.openBoth
  exact State.leads_wr (State.leads_wr (State.leads_wr h _ _ _) _ _ _) _ _ _

theorem State.leads_safeLimits {fl ot : Bool} {r s : State} (h : r.Leads fl ot s) (n : Nat) : r.Leads fl ot
    (State.safeLimits s n) := by
  unfold State.safeLimits
  extract_lets -merge -underBinder +onlyGivenNames x0
  try clear_value x0
  extract_lets -merge -underBinder +onlyGivenNames x1
  try clear_value x1
  extract_lets -merge -underBinder +onlyGivenNames x2
  try clear_value x2
  extract_lets -merge -underBinder +onlyGivenNames x3
  try clear_value x3
  extract_lets -merge -underBinder +onlyGivenNames x4
  try clear_value x4
  extract_lets -merge -underBinder +onlyGivenNames x5
  have hx5 : r.Leads fl ot x5 := State.leads_wr h _ _ _
  clear_value x5
  extract_lets -merge -underBinder +onlyGivenNames x6
  have hx6 : r.Leads fl ot x6 := State.leads_wr hx5 _ _ _
  clear_value x6
  extract_lets -merge -underBinder +onlyGivenNames x7
  have hx7 : r.Leads fl ot x7 := State.leads_wr hx6 _ _ _
  clear_value x7
  exact State.leads_wr hx7 _ _ _

theorem State.leads_discharge {fl ot : Bool} {r s : State} (h : r.Leads fl ot s) (n : Nat) : r.Leads fl ot
    (State.discharge s n) := by
  unfold State.discharge
  refine State.leads_ite ?_ ?_
  · exact h
  · extract_lets -merge -underBinder +onlyGivenNames x0
    have hx0 : r.Leads fl ot x0 := State.leads_ite h (State.leads_wr h _ _ _)
    clear_value x0
    exact State.leads_wr (State.leads_wr hx0 _ _ _) _ _ _

theorem State.leads_vconnOff {fl ot : Bool} {r s : State} (h : r.Leads fl ot s) (n : Nat) : r.Leads fl ot
    (State.vconnOff s n) := by
  unfold State.vconnOff
  exact State.leads_wr (State.leads_wr h _ _ _) _ _ _

theorem State.leads_trip {fl ot : Bool} {r s : State} (h : r.Leads fl ot s) (n : Nat) (src : Nat) (disch : Bool) :
    r.Leads fl ot (State.trip s n src disch) := by
  unfold State.trip
  refine State.leads_ite ?_ ?_
  · exact h
  · extract_lets -merge -underBinder +onlyGivenNames x0
    try clear_value x0
    extract_lets -merge -underBinder +onlyGivenNames x1
    try clear_value x1
    extract_lets -merge -underBinder +onlyGivenNames x2
    have hx2 : r.Leads fl ot x2 := State.leads_wr (State.leads_endClose (State.leads_vconnOff (State.leads_openBoth h
        _) _) _ _) _ _ _
    clear_value x2
    extract_lets -merge -underBinder +onlyGivenNames x3
    have hx3 : r.Leads fl ot x3 := State.leads_when (State.leads_safeLimits hx2 _) _ _ (fun x4 hx4 =>
        State.leads_discharge hx4 _)
    clear_value x3
    refine State.leads_ite ?_ ?_
    · exact State.leads_when hx3 _ _ (fun x5 hx5 => State.leads_wr hx5 _ _ _)
    · extract_lets -merge -underBinder +onlyGivenNames x6
      have hx6 : r.Leads fl ot x6 := State.leads_wr (State.leads_wrBit (State.leads_wr hx3 _ _ _) _ _ _ _) _ _ _
      clear_value x6
      extract_lets -merge -underBinder +onlyGivenNames x7
      have hx7 : r.Leads fl ot x7 := State.leads_wr (State.leads_wr hx6 _ _ _) _ _ _
      clear_value x7
      extract_lets -merge -underBinder +onlyGivenNames x8
      have hx8 : r.Leads fl ot x8 := State.leads_count (State.leads_wr hx7 _ _ _) _ _
      clear_value x8
      exact State.leads_wake (State.leads_raise hx8 _ _) _ _ _

theorem State.leads_safePatch {fl ot : Bool} {r s : State} (h : r.Leads fl ot s) (a_r : SafeReq) : r.Leads fl ot
    (State.safePatch s a_r).1 := by
  unfold State.safePatch
  extract_lets -merge -underBinder +onlyGivenNames x0
  try clear_value x0
  refine State.leads_ite_fst ?_ ?_
  · exact State.leads_pair h
  · refine State.leads_ite_fst ?_ ?_
    · extract_lets -merge -underBinder +onlyGivenNames x1
      try clear_value x1
      extract_lets -merge -underBinder +onlyGivenNames x2
      have hx2 : r.Leads fl ot x2 := State.leads_wr (State.leads_wr h _ _ _) _ _ _
      clear_value x2
      exact State.leads_pair (State.leads_wr (State.leads_wr hx2 _ _ _) _ _ _)
    · exact State.leads_pair h

theorem State.leads_pdVoid {fl ot : Bool} {r s : State} (h : r.Leads fl ot s) (n : Nat) : r.Leads fl ot (State.pdVoid s
    n) := by
  unfold State.pdVoid
  extract_lets -merge -underBinder +onlyGivenNames x0
  try clear_value x0
  extract_lets -merge -underBinder +onlyGivenNames x1
  have hx1 : r.Leads fl ot x1 := State.leads_clearFields h _ _
  clear_value x1
  exact hx1

theorem State.leads_safetyReset {fl ot : Bool} {r s : State} (h : r.Leads fl ot s) (cause : Nat) : r.Leads fl ot
    (State.safetyReset s cause) := by
  unfold State.safetyReset
  refine State.leads_ite ?_ ?_
  · exact h
  · extract_lets -merge -underBinder +onlyGivenNames x0
    try clear_value x0
    extract_lets -merge -underBinder +onlyGivenNames x1
    have hx1 : r.Leads fl ot x1 := State.leads_when h _ _ (fun x2 hx2 => State.leads_sliceAbort hx2)
    clear_value x1
    extract_lets -merge -underBinder +onlyGivenNames x3
    have hx3 : r.Leads fl ot x3 := State.leads_foldl hx1 _ _ fun x4 y4 hx4 => State.leads_vconnOff
        (State.leads_endClose hx4 _ _) _
    clear_value x3
    extract_lets -merge -underBinder +onlyGivenNames x5
    have hx5 : r.Leads fl ot x5 := State.leads_resetWhere hx3 _
    clear_value x5
    extract_lets -merge -underBinder +onlyGivenNames x6
    have hx6 : r.Leads fl ot x6 := State.leads_foldl hx5 _ _ fun x7 y7 hx7 => State.leads_when hx7 _ _ (fun x8 hx8 =>
        State.leads_discharge hx8 _)
    clear_value x6
    extract_lets -merge -underBinder +onlyGivenNames x9
    have hx9 : r.Leads fl ot x9 := State.leads_foldl hx6 _ _ fun x10 y10 hx10 => State.leads_when (State.leads_pdVoid
        hx10 _) _ _ (fun x11 hx11 => State.leads_wr hx11 _ _ _)
    clear_value x9
    exact State.leads_wr (State.leads_wr (State.leads_wr hx9 _ _ _) _ _ _) _ _ _

theorem State.leads_voidContract {fl ot : Bool} {r s : State} (h : r.Leads fl ot s) (n : Nat) (ic : Nat) : r.Leads fl
    ot (State.voidContract s n ic) := by
  unfold State.voidContract
  extract_lets -merge -underBinder +onlyGivenNames x0
  have hx0 : r.Leads fl ot x0 := State.leads_wr (State.leads_wr (State.leads_wr h _ _ _) _ _ _) _ _ _
  clear_value x0
  exact State.leads_safeLimits (State.leads_wr (State.leads_wr hx0 _ _ _) _ _ _) _

theorem State.leads_safeDetach {fl ot : Bool} {r s : State} (h : r.Leads fl ot s) (n : Nat) : r.Leads fl ot
    (State.safeDetach s n) := by
  unfold State.safeDetach
  extract_lets -merge -underBinder +onlyGivenNames x0
  have hx0 : r.Leads fl ot x0 := State.leads_wr (State.leads_vconnOff (State.leads_endClose (State.leads_openBoth h _)
      _ _) _) _ _ _
  clear_value x0
  extract_lets -merge -underBinder +onlyGivenNames x1
  have hx1 : r.Leads fl ot x1 := State.leads_wr (State.leads_wr (State.leads_discharge hx0 _) _ _ _) _ _ _
  clear_value x1
  exact State.leads_raise (State.leads_voidContract hx1 _ _) _ _

theorem State.leads_setLimit {fl ot : Bool} {r s : State} (h : r.Leads fl ot s) (a_r : SafeReq) (n : Nat) : r.Leads fl
    ot (State.setLimit s a_r n).1 := by
  unfold State.setLimit
  extract_lets -merge -underBinder +onlyGivenNames x0
  try clear_value x0
  extract_lets -merge -underBinder +onlyGivenNames x1
  try clear_value x1
  exact State.leads_ite_fst (State.leads_pair h) (State.leads_pair (State.leads_safeLimits (State.leads_wr
      (State.leads_wr h _ _ _) _ _ _) _))

theorem State.leads_closeNow {fl ot : Bool} {r s : State} (h : r.Leads fl ot s) (n : Nat) (sink : Bool) : r.Leads fl ot
    (State.closeNow s n sink) := by
  unfold State.closeNow
  exact State.leads_ite (State.leads_wr h _ _ _) (State.leads_wr (State.leads_wr h _ _ _) _ _ _)

theorem State.leads_closePath {fl ot : Bool} {r s : State} (h : r.Leads fl ot s) (a_r : SafeReq) (n : Nat) : r.Leads fl
    ot (State.closePath s a_r n).1 := by
  unfold State.closePath
  extract_lets -merge -underBinder +onlyGivenNames x0
  try clear_value x0
  refine State.leads_ite_fst ?_ ?_
  · exact State.leads_pair h
  · refine State.leads_ite_fst ?_ ?_
    · exact State.leads_pair h
    · refine State.leads_ite_fst ?_ ?_
      · exact State.leads_pair (State.leads_closeNow h _ _)
      · extract_lets -merge -underBinder +onlyGivenNames x1
        have hx1 : r.Leads fl ot x1 := State.leads_wr (State.leads_wr h _ _ _) _ _ _
        clear_value x1
        exact State.leads_pair (State.leads_mk hx1 ..)

theorem State.leads_setContract {fl ot : Bool} {r s : State} (h : r.Leads fl ot s) (a_r : SafeReq) (n : Nat) : r.Leads
    fl ot (State.setContract s a_r n).1 := by
  unfold State.setContract
  extract_lets -merge -underBinder +onlyGivenNames x0
  try clear_value x0
  extract_lets -merge -underBinder +onlyGivenNames x1
  try clear_value x1
  extract_lets -merge -underBinder +onlyGivenNames x2
  try clear_value x2
  refine State.leads_ite_fst ?_ ?_
  · exact State.leads_pair h
  · refine State.leads_ite_fst ?_ ?_
    · exact State.leads_pair h
    · refine State.leads_ite_fst ?_ ?_
      · exact State.leads_pair (State.leads_raise h _ _)
      · refine State.leads_ite_fst ?_ ?_
        · extract_lets -merge -underBinder +onlyGivenNames x3
          have hx3 : r.Leads fl ot x3 := State.leads_wr (State.leads_wr (State.leads_wr h _ _ _) _ _ _) _ _ _
          clear_value x3
          exact State.leads_pair (State.leads_safeLimits (State.leads_wr (State.leads_wr hx3 _ _ _) _ _ _) _)
        · extract_lets -merge -underBinder +onlyGivenNames x4
          have hx4 : r.Leads fl ot x4 := State.leads_wr (State.leads_wr (State.leads_wr h _ _ _) _ _ _) _ _ _
          clear_value x4
          exact State.leads_pair (State.leads_safeLimits (State.leads_wr (State.leads_wr hx4 _ _ _) _ _ _) _)

theorem State.leads_openPath {fl ot : Bool} {r s : State} (h : r.Leads fl ot s) (a_r : SafeReq) (n : Nat) : r.Leads fl
    ot (State.openPath s a_r n).1 := by
  unfold State.openPath
  extract_lets -merge -underBinder +onlyGivenNames x0
  try clear_value x0
  extract_lets -merge -underBinder +onlyGivenNames x1
  have hx1 : r.Leads fl ot x1 := (by
      unfold x1
      split
      · exact State.leads_when h _ _ (fun x2 hx2 => State.leads_endClose hx2 _ _)
      · exact h)
  clear_value x1
  exact State.leads_pair (State.leads_wr hx1 _ _ _)

theorem State.leads_safePort {fl ot : Bool} {r s : State} (h : r.Leads fl ot s) (a_r : SafeReq) (n : Nat) : r.Leads fl
    ot (State.safePort s a_r n).1 := by
  unfold State.safePort
  refine State.leads_ite_fst ?_ ?_
  · exact State.leads_pair h
  · refine State.leads_ite_fst ?_ ?_
    · exact State.leads_pair h
    · split
      · exact State.leads_setContract h _ _
      · exact State.leads_closePath h _ _
      · exact State.leads_openPath h _ _
      · exact State.leads_ite_fst (State.leads_pair h) (State.leads_pair (State.leads_discharge h _))
      · exact State.leads_ite_fst (State.leads_pair (State.leads_vconnOff h _)) (State.leads_ite_fst (State.leads_pair
            (State.leads_wr (State.leads_wr h _ _ _) _ _ _)) (State.leads_pair h))
      · exact State.leads_pair (State.leads_wr h _ _ _)
      · exact State.leads_ite_fst (State.leads_pair h) (State.leads_ite_fst (State.leads_pair (State.leads_wrBit
            (State.leads_wr h _ _ _) _ _ _ _)) (State.leads_pair h))
      · exact State.leads_setLimit h _ _

theorem State.leads_safeAll {fl ot : Bool} {r s : State} (h : r.Leads fl ot s) (a_r : SafeReq) : r.Leads fl ot
    (State.safeAll s a_r).1 := by
  unfold State.safeAll
  extract_lets -merge -underBinder +onlyGivenNames x0
  try clear_value x0
  refine State.leads_ite_fst ?_ ?_
  · exact State.leads_pair h
  · refine State.leads_foldl_fst ?_ _ _ fun x1 y1 hx1 => ?_
    · exact State.leads_pair h
    extract_lets -merge -underBinder +onlyGivenNames x2
    have hx2 : r.Leads fl ot x2.1 := State.leads_safePort hx1 _ _
    clear_value x2
    exact State.leads_pair hx2

theorem State.leads_safeServe {fl ot : Bool} {r s : State} (h : r.Leads fl ot s) (a_r : SafeReq) : r.Leads fl ot
    (State.safeServe s a_r) := by
  unfold State.safeServe
  refine State.leads_ite ?_ ?_
  · exact State.leads_safeAnswer h _ _
  · refine State.leads_ite ?_ ?_
    · exact State.leads_safeAnswer h _ _
    · refine State.leads_ite ?_ ?_
      · exact State.leads_safeAnswer h _ _
      · refine State.leads_ite ?_ ?_
        · exact State.leads_safetyReset (State.leads_safeAnswer h _ _) _
        · extract_lets -merge -underBinder +onlyGivenNames x0
          have hx0 : r.Leads fl ot x0.1 := State.leads_ite_fst (State.leads_safePatch h _) (State.leads_ite_fst
              (State.leads_pair h) (State.leads_ite_fst (State.leads_safeAll h _) (State.leads_safePort h _ _)))
          clear_value x0
          split
          · exact State.leads_safeAnswer hx0 _ _
          · exact hx0

theorem State.leads_safeDrain {fl ot : Bool} {r s : State} (h : r.Leads fl ot s) (k : Nat) :
    r.Leads fl ot (State.safeDrain k s) := by
  induction k generalizing s with
  | zero => exact h
  | succ k ih =>
    unfold State.safeDrain
    split
    · exact h
    · split
      · exact h
      · exact ih (State.leads_safeServe (State.leads_mk h ..) _)

theorem State.leads_loadImage {fl ot : Bool} {r s : State} (h : r.Leads fl ot s) : r.Leads fl ot (State.loadImage s) :=
    by
  unfold State.loadImage
  refine State.leads_foldl ?_ _ _ fun x0 y0 hx0 => ?_
  · exact h
  extract_lets -merge -underBinder +onlyGivenNames x1
  have hx1 : r.Leads fl ot x1 := State.leads_wr (State.leads_wr hx0 _ _ _) _ _ _
  clear_value x1
  exact State.leads_wr (State.leads_wr hx1 _ _ _) _ _ _

theorem State.leads_measure {fl ot : Bool} {r s : State} (h : r.Leads fl ot s) (n : Nat) (vbus : Nat) (ibus : Nat) :
    r.Leads fl ot (State.measure s n vbus ibus) := by
  unfold State.measure
  exact State.leads_wr (State.leads_wr h _ _ _) _ _ _

theorem State.leads_safeReq {fl ot : Bool} {r s : State} (h : r.Leads fl ot s) (a_r : SafeReq) : r.Leads fl ot
    (State.safeReq s a_r) := by
  unfold State.safeReq
  exact State.leads_ite h (State.leads_ite (State.leads_mk h ..) (State.leads_safeServe h _))

theorem State.leads_safetyDone {fl ot : Bool} {r s : State} (h : r.Leads fl ot s) : r.Leads fl ot (State.safetyDone s)
    := by
  unfold State.safetyDone
  extract_lets -merge -underBinder +onlyGivenNames x0
  have hx0 : r.Leads fl ot x0 := State.leads_loadImage (State.leads_wr h _ _ _)
  clear_value x0
  extract_lets -merge -underBinder +onlyGivenNames x1
  have hx1 : r.Leads fl ot x1 := State.leads_when hx0 _ _ (fun x2 hx2 => State.leads_wr (State.leads_wr hx2 _ _ _) _ _
      _)
  clear_value x1
  extract_lets -merge -underBinder +onlyGivenNames x3
  have hx3 : r.Leads fl ot x3 := State.leads_raise (State.leads_wr hx1 _ _ _) _ _
  clear_value x3
  exact State.leads_safeDrain hx3 _

end Sys2Proof.Machine
end

