-- ==== Sys2Proof/Laws/Lead/MbxOps.lean ====
section
/-! SUPPORT. What the operations of Machine/MbxOps.lean keep (State.Leads of Laws/Leads.lean). -/

namespace Sys2Proof.Machine

open Reg

theorem State.leads_mbGo {fl ot : Bool} {r s : State} (h : r.Leads fl ot s) (who : Initiator) (c : Nat) (cmd : Nat)
    (len : Nat) (tag : Nat) : r.Leads fl ot (State.mbGo s who c cmd len tag) := by
  unfold State.mbGo
  extract_lets -merge -underBinder +onlyGivenNames x0
  try clear_value x0
  refine State.leads_ite ?_ ?_
  · exact State.leads_raise (State.leads_count h _ _) _ _
  · extract_lets -merge -underBinder +onlyGivenNames x1
    have hx1 : r.Leads fl ot x1 := State.leads_wr (State.leads_wr (State.leads_wr h _ _ _) _ _ _) _ _ _
    clear_value x1
    extract_lets -merge -underBinder +onlyGivenNames x2
    have hx2 : r.Leads fl ot x2 := State.leads_wr (State.leads_wr (State.leads_wr hx1 _ _ _) _ _ _) _ _ _
    clear_value x2
    exact State.leads_ite (State.leads_safeReq (State.leads_wr hx2 _ _ _) _) hx2

theorem State.leads_mbFinish {fl ot : Bool} {r s : State} (h : r.Leads fl ot s) (c : Nat) (status : Nat) (ws : List
    Nat) : r.Leads fl ot (State.mbFinish s c status ws) := by
  unfold State.mbFinish
  extract_lets -merge -underBinder +onlyGivenNames x0
  try clear_value x0
  exact State.leads_mbDone (State.leads_mbWords h _ _) _ _ _

theorem State.leads_mbAbort {fl ot : Bool} {r s : State} (h : r.Leads fl ot s) (c : Nat) : r.Leads fl ot (State.mbAbort
    s c) := by
  unfold State.mbAbort
  extract_lets -merge -underBinder +onlyGivenNames x0
  try clear_value x0
  exact State.leads_ite h (State.leads_ite (State.leads_wr h _ _ _) (State.leads_mbDone h _ _ _))

end Sys2Proof.Machine
end

