-- ==== Sys2Proof/Laws/Lead/UsbOps.lean ====
section
/-! SUPPORT. What the operations of Machine/UsbOps.lean keep (State.Leads of Laws/Leads.lean). -/

namespace Sys2Proof.Machine

open Reg

theorem State.leads_epsClear {fl ot : Bool} {r s : State} (h : r.Leads fl ot s) : r.Leads fl ot (State.epsClear s) := by
  unfold State.epsClear
  exact State.leads_mk h ..

theorem State.leads_audArm {fl ot : Bool} {r s : State} (h : r.Leads fl ot s) : r.Leads fl ot (State.audArm s) := by
  unfold State.audArm
  extract_lets -merge -underBinder +onlyGivenNames x0
  try clear_value x0
  refine State.leads_ite ?_ ?_
  · exact h
  · extract_lets -merge -underBinder +onlyGivenNames x1
    have hx1 : r.Leads fl ot x1 := State.leads_when h _ _ (fun x2 hx2 => State.leads_wr hx2 _ _ _)
    clear_value x1
    extract_lets -merge -underBinder +onlyGivenNames x3
    have hx3 : r.Leads fl ot x3 := State.leads_when hx1 _ _ (fun x4 hx4 => State.leads_wr hx4 _ _ _)
    clear_value x3
    extract_lets -merge -underBinder +onlyGivenNames x5
    have hx5 : r.Leads fl ot x5 := State.leads_when hx3 _ _ (fun x6 hx6 => State.leads_wr hx6 _ _ _)
    clear_value x5
    exact State.leads_wr (State.leads_clearFields hx5 _ _) _ _ _

theorem State.leads_ctlApply {fl ot : Bool} {r s : State} (h : r.Leads fl ot s) (a_r : UsbReq) : r.Leads fl ot
    (State.ctlApply s a_r) := by
  unfold State.ctlApply
  split
  · exact h
  · exact h
  · exact State.leads_wr (State.leads_wr h _ _ _) _ _ _
  · exact State.leads_ite (State.leads_wr (State.leads_clearFields (State.leads_epsClear h) _ _) _ _ _) (State.leads_wr
        h _ _ _)
  · refine State.leads_ite ?_ ?_
    · exact State.leads_wr h _ _ _
    · refine State.leads_ite ?_ ?_
      · extract_lets -merge -underBinder +onlyGivenNames z0_0 x0
        have hx0 : r.Leads fl ot x0 := State.leads_mk h ..
        clear_value x0
        exact State.leads_ite hx0 (State.leads_audArm (State.leads_wr hx0 _ _ _))
      · exact h
  · exact State.leads_wr h _ _ _
  · extract_lets -merge -underBinder +onlyGivenNames x1
    have hx1 : r.Leads fl ot x1 := State.leads_wr h _ _ _
    clear_value x1
    extract_lets -merge -underBinder +onlyGivenNames x2
    have hx2 : r.Leads fl ot x2 := State.leads_when hx1 _ _ (fun x3 hx3 => State.leads_setInt hx3 _ _)
    clear_value x2
    exact State.leads_audArm hx2

theorem State.leads_statusStage {fl ot : Bool} {r s : State} (h : r.Leads fl ot s) : r.Leads fl ot (State.statusStage
    s) := by
  unfold State.statusStage
  split
  · exact State.leads_ite (State.leads_ctlApply (State.leads_mk h ..) _) h
  · exact h

theorem State.leads_ctlAbort {fl ot : Bool} {r s : State} (h : r.Leads fl ot s) : r.Leads fl ot (State.ctlAbort s) := by
  unfold State.ctlAbort
  exact State.leads_raise (State.leads_count h _ _) _ _

theorem State.leads_usbSetup {fl ot : Bool} {r s : State} (h : r.Leads fl ot s) (a_r : UsbReq) (len : Nat) : r.Leads fl
    ot (State.usbSetup s a_r len) := by
  unfold State.usbSetup
  extract_lets -merge -underBinder +onlyGivenNames x0
  have hx0 : r.Leads fl ot x0 := (by
      unfold x0
      split
      · exact State.leads_ite (State.leads_statusStage h) (State.leads_ctlAbort h)
      · exact h)
  clear_value x0
  exact State.leads_mk hx0 ..

theorem State.leads_ep1Request {fl ot : Bool} {r s : State} (h : r.Leads fl ot s) (ws : List Nat) : r.Leads fl ot
    (State.ep1Request s ws) := by
  unfold State.ep1Request
  extract_lets -merge -underBinder +onlyGivenNames x0
  try clear_value x0
  extract_lets -merge -underBinder +onlyGivenNames x1
  try clear_value x1
  split
  · exact h
  · extract_lets -merge -underBinder +onlyGivenNames x2
    try clear_value x2
    refine State.leads_ite ?_ ?_
    · exact h
    · refine State.leads_ite ?_ ?_
      · extract_lets -merge -underBinder +onlyGivenNames x3
        try clear_value x3
        extract_lets -merge -underBinder +onlyGivenNames x4
        have hx4 : r.Leads fl ot x4 := State.leads_when h _ _ (fun x5 hx5 => State.leads_wr (State.leads_foldl hx5 _ _
            fun x6 y6 hx6 => State.leads_wr hx6 _ _ _) _ _ _)
        clear_value x4
        exact State.leads_hostWake (State.leads_mbGo hx4 _ _ _ _ _) _ _
      · exact State.leads_when h _ _ (fun x7 hx7 => State.leads_mbAbort hx7 _)

theorem State.leads_usbServe {fl ot : Bool} {r s : State} (h : r.Leads fl ot s) : r.Leads fl ot (State.usbServe s) := by
  unfold State.usbServe
  refine State.leads_ite ?_ ?_
  · exact h
  · extract_lets -merge -underBinder +onlyGivenNames x0
    try clear_value x0
    extract_lets -merge -underBinder +onlyGivenNames z1_0 x1
    have hx1 : r.Leads fl ot x1 := State.leads_mk h ..
    clear_value x1
    refine State.leads_foldl ?_ _ _ fun x2 y2 hx2 => ?_
    · exact hx1
    extract_lets -merge -underBinder +onlyGivenNames x3
    try clear_value x3
    extract_lets -merge -underBinder +onlyGivenNames x4
    try clear_value x4
    exact State.leads_ite (State.leads_ep1Request (State.leads_mk hx2 ..) _) (State.leads_mk hx2 ..)

theorem State.leads_wakeMerged {fl ot : Bool} {r s : State} (h : r.Leads fl ot s) : r.Leads fl ot (State.wakeMerged s)
    := by
  unfold State.wakeMerged
  exact State.leads_raise (State.leads_count h _ _) _ _

theorem State.leads_resumeHs {fl ot : Bool} {r s : State} (h : r.Leads fl ot s) (d : Nat) : r.Leads fl ot
    (State.resumeHs s d) := by
  unfold State.resumeHs
  refine State.leads_ite ?_ ?_
  · exact h
  · extract_lets -merge -underBinder +onlyGivenNames x0
    try clear_value x0
    extract_lets -merge -underBinder +onlyGivenNames x1
    try clear_value x1
    extract_lets -merge -underBinder +onlyGivenNames x2
    have hx2 : r.Leads fl ot x2 := State.leads_when h _ _ (fun x3 hx3 => State.leads_wakeMerged hx3)
    clear_value x2
    extract_lets -merge -underBinder +onlyGivenNames x4
    have hx4 : r.Leads fl ot x4 := State.leads_when (State.leads_wr hx2 _ _ _) _ _ (fun x5 hx5 => State.leads_wr hx5 _
        _ _)
    clear_value x4
    extract_lets -merge -underBinder +onlyGivenNames x6
    have hx6 : r.Leads fl ot x6 := (by
        unfold x6
        refine State.leads_when ?_ _ _ (fun x7 hx7 => ?_)
        · exact hx4
        · extract_lets -merge -underBinder +onlyGivenNames x8
          have hx8 : r.Leads fl ot x8 := State.leads_wr (State.leads_wr hx7 _ _ _) _ _ _
          clear_value x8
          exact State.leads_when hx8 _ _ (fun x9 hx9 => State.leads_wr hx9 _ _ _))
    clear_value x6
    exact State.leads_setInt hx6 _ _

theorem State.leads_pwren {fl ot : Bool} {r s : State} (h : r.Leads fl ot s) (n : Nat) : r.Leads fl ot (State.pwren s
    n) := by
  unfold State.pwren
  extract_lets -merge -underBinder +onlyGivenNames x0
  try clear_value x0
  exact State.leads_wr h _ _ _

theorem State.leads_setSs {fl ot : Bool} {r s : State} (h : r.Leads fl ot s) (n : Nat) (st : Nat) : r.Leads fl ot
    (State.setSs s n st) := by
  unfold State.setSs
  extract_lets -merge -underBinder +onlyGivenNames x0
  have hx0 : r.Leads fl ot x0 := State.leads_wr h _ _ _
  clear_value x0
  exact State.leads_when hx0 _ _ (fun x1 hx1 => State.leads_pwren hx1 _)

theorem State.leads_setHs {fl ot : Bool} {r s : State} (h : r.Leads fl ot s) (n : Nat) (st : Nat) : r.Leads fl ot
    (State.setHs s n st) := by
  unfold State.setHs
  exact State.leads_pwren (State.leads_wr h _ _ _) _

theorem State.leads_portMove {fl ot : Bool} {r s : State} (h : r.Leads fl ot s) (n : Nat) (hs : Bool) (ss : Bool) :
    r.Leads fl ot (State.portMove s n hs ss) := by
  unfold State.portMove
  extract_lets -merge -underBinder +onlyGivenNames x0
  have hx0 : r.Leads fl ot x0 := State.leads_when h _ _ (fun x1 hx1 => State.leads_wr (State.leads_setSs hx1 _ _) _ _ _)
  clear_value x0
  extract_lets -merge -underBinder +onlyGivenNames x2
  have hx2 : r.Leads fl ot x2 := State.leads_when hx0 _ _ (fun x3 hx3 => State.leads_wr (State.leads_setHs hx3 _ _) _ _
      _)
  clear_value x2
  exact State.leads_wr (State.leads_wr hx2 _ _ _) _ _ _

theorem State.leads_audApply {fl ot : Bool} {r s : State} (h : r.Leads fl ot s) : r.Leads fl ot (State.audApply s) := by
  unfold State.audApply
  extract_lets -merge -underBinder +onlyGivenNames x0
  have hx0 : r.Leads fl ot x0 := State.leads_appliedPage (State.leads_applyFields h _ _) _
  clear_value x0
  exact State.leads_audArm (State.leads_mk hx0 ..)

theorem State.leads_altApply {fl ot : Bool} {r s : State} (h : r.Leads fl ot s) (i : Nat) (alt : Nat) : r.Leads fl ot
    (State.altApply s i alt) := by
  unfold State.altApply
  extract_lets -merge -underBinder +onlyGivenNames x0
  have hx0 : r.Leads fl ot x0 := State.leads_wr h _ _ _
  clear_value x0
  exact State.leads_setInt hx0 _ _

theorem State.leads_microframe {fl ot : Bool} {r s : State} (h : r.Leads fl ot s) : r.Leads fl ot (State.microframe s)
    := by
  unfold State.microframe
  extract_lets -merge -underBinder +onlyGivenNames x0
  have hx0 : r.Leads fl ot x0 := State.leads_wr h _ _ _
  clear_value x0
  extract_lets -merge -underBinder +onlyGivenNames x1
  have hx1 : r.Leads fl ot x1 := State.leads_when hx0 _ _ (fun x2 hx2 => State.leads_audApply hx2)
  clear_value x1
  extract_lets -merge -underBinder +onlyGivenNames x3
  try clear_value x3
  extract_lets -merge -underBinder +onlyGivenNames z4_0 x4
  have hx4 : r.Leads fl ot x4 := State.leads_foldl (State.leads_mk hx1 ..) _ _ fun x5 y5 hx5 => State.leads_altApply
      hx5 _ _
  clear_value x4
  extract_lets -merge -underBinder +onlyGivenNames x6
  try clear_value x6
  exact State.leads_mk hx4 ..

theorem State.leads_wakeReq {fl ot : Bool} {r s : State} (h : r.Leads fl ot s) : r.Leads fl ot (State.wakeReq s) := by
  unfold State.wakeReq
  extract_lets -merge -underBinder +onlyGivenNames x0
  try clear_value x0
  exact State.leads_when h _ _ (fun x1 hx1 => State.leads_wr hx1 _ _ _)

theorem State.leads_playIn {fl ot : Bool} {r s : State} (h : r.Leads fl ot s) (ok : Bool) (bs : List Byte) : r.Leads fl
    ot (State.playIn s ok bs) := by
  unfold State.playIn
  exact State.leads_ite h (State.leads_ite (State.leads_raise (State.leads_count h _ _) _ _) (State.leads_ite
      (State.leads_raise (State.leads_count h _ _) _ _) (State.leads_mk h ..)))

theorem State.leads_usbOut {fl ot : Bool} {r s : State} (h : r.Leads fl ot s) (ep : Nat) (ok : Bool) (bs : List Byte) :
    r.Leads fl ot (State.usbOut s ep ok bs) := by
  unfold State.usbOut
  split
  · exact h
  · refine State.leads_ite ?_ ?_
    · exact h
    · refine State.leads_ite ?_ ?_
      · exact State.leads_playIn h _ _
      · refine State.leads_ite ?_ ?_
        · exact h
        · refine State.leads_ite ?_ ?_
          · exact State.leads_send h _
          · extract_lets -merge -underBinder +onlyGivenNames x0
            have hx0 : r.Leads fl ot x0 := State.leads_send h _
            clear_value x0
            extract_lets -merge -underBinder +onlyGivenNames x1
            have hx1 : r.Leads fl ot x1 := (by
                unfold x1
                split
                · exact State.leads_mk hx0 ..
                · exact hx0)
            clear_value x1
            exact State.leads_usbServe (State.leads_usbPush hx1 _ _)

theorem State.leads_changeHs {fl ot : Bool} {r s : State} (h : r.Leads fl ot s) (n : Nat) (b : Nat) : r.Leads fl ot
    (State.changeHs s n b) := by
  unfold State.changeHs
  exact State.leads_wrBit h _ _ _ _

theorem State.leads_hubPorts {fl ot : Bool} {r s : State} (h : r.Leads fl ot s) (d : Nat) (off : Bool) : r.Leads fl ot
    (State.hubPorts s d off) := by
  unfold State.hubPorts
  extract_lets -merge -underBinder +onlyGivenNames x0
  have hx0 : r.Leads fl ot x0 := (by
      unfold x0
      refine State.leads_foldl ?_ _ _ fun x1 y1 hx1 => ?_
      · exact h
      extract_lets -merge -underBinder +onlyGivenNames x2
      try clear_value x2
      exact State.leads_when hx1 _ _ (fun x3 hx3 => State.leads_ite (State.leads_setHs hx3 _ _) (State.leads_ite
          (State.leads_setHs hx3 _ _) hx3)))
  clear_value x0
  refine State.leads_foldl ?_ _ _ fun x4 y4 hx4 => ?_
  · exact hx0
  extract_lets -merge -underBinder +onlyGivenNames x5
  try clear_value x5
  exact State.leads_when hx4 _ _ (fun x6 hx6 => State.leads_ite (State.leads_setSs hx6 _ _) (State.leads_ite
      (State.leads_setSs hx6 _ _) hx6))

theorem State.leads_hubOffer {fl ot : Bool} {r s : State} (h : r.Leads fl ot s) (d : Nat) : r.Leads fl ot
    (State.hubOffer s d) := by
  unfold State.hubOffer
  extract_lets -merge -underBinder +onlyGivenNames x0
  try clear_value x0
  extract_lets -merge -underBinder +onlyGivenNames x1
  have hx1 : r.Leads fl ot x1 := State.leads_wr h _ _ _
  clear_value x1
  extract_lets -merge -underBinder +onlyGivenNames x2
  have hx2 : r.Leads fl ot x2 := State.leads_wr hx1 _ _ _
  clear_value x2
  exact State.leads_when hx2 _ _ (fun x3 hx3 => State.leads_wr hx3 _ _ _)

theorem State.leads_embReset {fl ot : Bool} {r s : State} (h : r.Leads fl ot s) (state : Nat) : r.Leads fl ot
    (State.embReset s state) := by
  unfold State.embReset
  extract_lets -merge -underBinder +onlyGivenNames x0
  have hx0 : r.Leads fl ot x0 := (by
      unfold x0
      split
      · exact State.leads_when h _ _ (fun x1 hx1 => State.leads_ctlAbort hx1)
      · exact h)
  clear_value x0
  extract_lets -merge -underBinder +onlyGivenNames x2
  have hx2 : r.Leads fl ot x2 := State.leads_mk hx0 ..
  clear_value x2
  extract_lets -merge -underBinder +onlyGivenNames x3
  have hx3 : r.Leads fl ot x3 := State.leads_clearFields hx2 _ _
  clear_value x3
  exact State.leads_wr hx3 _ _ _

theorem State.leads_hubReconnect {fl ot : Bool} {r s : State} (h : r.Leads fl ot s) (d : Nat) : r.Leads fl ot
    (State.hubReconnect s d) := by
  unfold State.hubReconnect
  extract_lets -merge -underBinder +onlyGivenNames x0
  have hx0 : r.Leads fl ot x0 := State.leads_hubPorts h _ _
  clear_value x0
  extract_lets -merge -underBinder +onlyGivenNames x1
  have hx1 : r.Leads fl ot x1 := State.leads_when hx0 _ _ (fun x2 hx2 => State.leads_embReset hx2 _)
  clear_value x1
  exact State.leads_hubOffer (State.leads_wr hx1 _ _ _) _

theorem State.leads_resumeSs {fl ot : Bool} {r s : State} (h : r.Leads fl ot s) (d : Nat) : r.Leads fl ot
    (State.resumeSs s d) := by
  unfold State.resumeSs
  refine State.leads_ite ?_ ?_
  · exact h
  · extract_lets -merge -underBinder +onlyGivenNames x0
    have hx0 : r.Leads fl ot x0 := State.leads_when h _ _ (fun x1 hx1 => State.leads_wakeMerged hx1)
    clear_value x0
    exact State.leads_setInt (State.leads_wr (State.leads_wr hx0 _ _ _) _ _ _) _ _

theorem State.leads_changeSs {fl ot : Bool} {r s : State} (h : r.Leads fl ot s) (n : Nat) (b : Nat) : r.Leads fl ot
    (State.changeSs s n b) := by
  unfold State.changeSs
  exact State.leads_wrBit h _ _ _ _

theorem State.leads_usbDown {fl ot : Bool} {r s : State} (h : r.Leads fl ot s) (id : Nat) (out : Bool) : r.Leads fl ot
    (State.usbDown s id out) := by
  unfold State.usbDown
  exact State.leads_foldl h _ _ fun x0 y0 hx0 => State.leads_when hx0 _ _ (fun x1 hx1 => State.leads_wr hx1 _ _ _)

theorem State.leads_freeBytes {fl ot : Bool} {r s : State} (h : r.Leads fl ot s) (k : Nat) :
    r.Leads fl ot (freeBytes k s).1 := by
  induction k generalizing s with
  | zero => exact h
  | succ k ih => exact ih (State.leads_tookFree h)

theorem State.leads_ep0In {fl ot : Bool} {r s : State} (h : r.Leads fl ot s) (acked : Bool) : r.Leads fl ot
    (State.ep0In s acked) := by
  unfold State.ep0In
  split
  · exact State.leads_send h _
  · refine State.leads_ite ?_ ?_
    · exact State.leads_ite (State.leads_when (State.leads_send h _) _ _ (fun x0 hx0 => State.leads_statusStage hx0))
          (State.leads_send h _)
    · extract_lets -merge -underBinder +onlyGivenNames x1
      try clear_value x1
      extract_lets -merge -underBinder +onlyGivenNames x2
      have hx2 : r.Leads fl ot x2.1 := State.leads_freeBytes h _
      clear_value x2
      exact State.leads_when (State.leads_send hx2 _) _ _ (fun x3 hx3 => State.leads_mk hx3 ..)

theorem State.leads_usbIn {fl ot : Bool} {r s : State} (h : r.Leads fl ot s) (ep : Nat) (acked : Bool) : r.Leads fl ot
    (State.usbIn s ep acked) := by
  unfold State.usbIn
  split
  · exact h
  · refine State.leads_ite ?_ ?_
    · exact h
    · refine State.leads_ite ?_ ?_
      · exact State.leads_ep0In h _
      · refine State.leads_ite ?_ ?_
        · exact State.leads_ite h (State.leads_send h _)
        · refine State.leads_ite ?_ ?_
          · refine State.leads_ite ?_ ?_
            · exact h
            · refine State.leads_ite ?_ ?_
              · exact State.leads_send h _
              · extract_lets -merge -underBinder +onlyGivenNames x0
                try clear_value x0
                extract_lets -merge -underBinder +onlyGivenNames x1
                try clear_value x1
                exact State.leads_send (State.leads_mk h ..) _
          · split
            · exact State.leads_send h _
            · extract_lets -merge -underBinder +onlyGivenNames x2
              have hx2 : r.Leads fl ot x2 := State.leads_when (State.leads_send h _) _ _ (fun x3 hx3 => State.leads_mk
                  hx3 ..)
              clear_value x2
              exact State.leads_when hx2 _ _ (fun x4 hx4 => State.leads_releaseMsix hx4 _)

theorem State.leads_sampleFrame {fl ot : Bool} {r s : State} (h : r.Leads fl ot s) (ins : List Byte) : r.Leads fl ot
    (State.sampleFrame s ins) := by
  unfold State.sampleFrame
  dsimp only
  repeat' (with_reducible first
    | assumption | apply State.leads_count | apply State.leads_raise | apply State.leads_send
    | apply State.leads_when | apply State.leads_foldl | intro _ | apply State.leads_ite
    | apply State.leads_of_fst (by assumption) | split | apply State.leads_mk)

theorem State.leads_hubReset {fl ot : Bool} {r s : State} (h : r.Leads fl ot s) (d : Nat) (ss : Bool) : r.Leads fl ot
    (State.hubReset s d ss) := by
  unfold State.hubReset
  extract_lets -merge -underBinder +onlyGivenNames x0
  have hx0 : r.Leads fl ot x0 := State.leads_wr (State.leads_hubPorts h _ _) _ _ _
  clear_value x0
  extract_lets -merge -underBinder +onlyGivenNames x1
  have hx1 : r.Leads fl ot x1 := State.leads_ite (State.leads_wr hx0 _ _ _) (State.leads_wr hx0 _ _ _)
  clear_value x1
  extract_lets -merge -underBinder +onlyGivenNames x2
  have hx2 : r.Leads fl ot x2 := State.leads_when hx1 _ _ (fun x3 hx3 => State.leads_embReset hx3 _)
  clear_value x2
  exact State.leads_setInt hx2 _ _

end Sys2Proof.Machine
end

