-- ==== Sys2Proof/Laws/Lead/Edge.lean ====
section
/-! SUPPORT. What the operations of Machine/Edge.lean keep (State.Leads of Laws/Leads.lean). -/

namespace Sys2Proof.Machine

open Reg

theorem State.leads_uhubDown {fl ot : Bool} {r s : State} (h : r.Leads fl ot s) (id : Nat) (far : Nat) (out : Bool) :
    r.Leads fl ot (State.uhubDown s id far out) := by
  unfold State.uhubDown
  exact State.leads_ite (State.leads_usbDown h _ _) (State.leads_when h _ _ (fun x0 hx0 => State.leads_changeSs
      (State.leads_setSs hx0 _ _) _ _))

theorem State.leads_endDown {fl ot : Bool} {r s : State} (h : r.Leads fl ot s) (code : Nat) (id : Nat) (far : Nat) (out
    : Bool) : r.Leads fl ot (State.endDown s code id far out) := by
  unfold State.endDown
  exact State.leads_ite (State.leads_pcaDown h _) (State.leads_ite (State.leads_dispDown h _ _) (State.leads_ite
      (State.leads_uhubDown h _ _ _) (State.leads_ite (State.leads_ethDown h _) h)))

theorem State.leads_edgeDown {fl ot : Bool} {r s : State} (h : r.Leads fl ot s) (k : Nat) : r.Leads fl ot
    (State.edgeDown s k) := by
  unfold State.edgeDown
  extract_lets -merge -underBinder +onlyGivenNames x0
  try clear_value x0
  extract_lets -merge -underBinder +onlyGivenNames x1
  try clear_value x1
  exact State.leads_endDown (State.leads_endDown h _ _ _ _) _ _ _ _

end Sys2Proof.Machine
end

