-- ==== Sys2Proof/Laws/Lead/CtrlOps.lean ====
section
/-! SUPPORT. What the operations of Machine/CtrlOps.lean keep (State.Leads of Laws/Leads.lean). -/

namespace Sys2Proof.Machine

open Reg

theorem State.leads_ctrlFree {fl ot : Bool} {r s : State} (h : r.Leads fl ot s) (inPort : Nat) (icost : Nat) : r.Leads
    fl ot (State.ctrlFree s inPort icost) := by
  unfold State.ctrlFree
  exact State.leads_freeBuf h _

theorem State.leads_ctrlOut {fl ot : Bool} {r s : State} (h : r.Leads fl ot s) (port : Nat) (c : Ctrl) : r.Leads fl ot
    (State.ctrlOut s port c) := by
  unfold State.ctrlOut
  exact State.leads_ite (State.leads_enterCtrl h _ _ _ _) h

theorem State.leads_event {fl ot : Bool} {r s : State} (h : r.Leads fl ot s) (d : Nat) (c : Ctrl) : r.Leads fl ot
    (State.event s d c) := by
  unfold State.event
  extract_lets -merge -underBinder +onlyGivenNames x0
  try clear_value x0
  extract_lets -merge -underBinder +onlyGivenNames x1
  try clear_value x1
  refine State.leads_ite ?_ ?_
  · exact State.leads_raise (State.leads_wr h _ _ _) _ _
  · extract_lets -merge -underBinder +onlyGivenNames x2
    try clear_value x2
    exact State.leads_setInt (State.leads_wr (State.leads_mk h ..) _ _ _) _ _

theorem State.leads_ctrlSend {fl ot : Bool} {r s : State} (h : r.Leads fl ot s) (c : Ctrl) : r.Leads fl ot
    (State.ctrlSend s c) := by
  unfold State.ctrlSend
  refine State.leads_ite ?_ ?_
  · exact State.leads_foldl h _ _ fun x0 y0 hx0 => State.leads_when hx0 _ _ (fun x1 hx1 => State.leads_ctrlOut hx1 _ _)
  · refine State.leads_ite ?_ ?_
    · extract_lets -merge -underBinder +onlyGivenNames x2
      try clear_value x2
      exact State.leads_ite (State.leads_event h _ _) (State.leads_ctrlOut h _ _)
    · extract_lets -merge -underBinder +onlyGivenNames x3
      try clear_value x3
      exact State.leads_ite (State.leads_event h _ _) (State.leads_ctrlOut h _ _)

theorem State.leads_settle {fl ot : Bool} {r s : State} (h : r.Leads fl ot s) (c : Ctrl) : r.Leads fl ot (State.settle
    s c) := by
  unfold State.settle
  split
  · exact h
  · extract_lets -merge -underBinder +onlyGivenNames x0
    try clear_value x0
    exact State.leads_event (State.leads_mk h ..) _ _

theorem State.leads_answer {fl ot : Bool} {r s : State} (h : r.Leads fl ot s) (inPort : Nat) (c : Ctrl) (status : Nat)
    (words : List Nat) : r.Leads fl ot (State.answer s inPort c status words) := by
  unfold State.answer
  extract_lets -merge -underBinder +onlyGivenNames x0
  try clear_value x0
  exact State.leads_ite (State.leads_settle h _) (State.leads_ite (State.leads_ctrlOut h _ _) (State.leads_ctrlSend h
      _))

theorem State.leads_refuse {fl ot : Bool} {r s : State} (h : r.Leads fl ot s) (inPort : Nat) (c : Ctrl) (status : Nat)
    (words : List Nat) : r.Leads fl ot (State.refuse s inPort c status words) := by
  unfold State.refuse
  extract_lets -merge -underBinder +onlyGivenNames x0
  have hx0 : r.Leads fl ot x0 := State.leads_wr (State.leads_wr (State.leads_wr (State.leads_wr (State.leads_wr h _ _
      _) _ _ _) _ _ _) _ _ _) _ _ _
  clear_value x0
  exact State.leads_answer hx0 _ _ _ _

theorem State.leads_ctrlForward {fl ot : Bool} {r s : State} (h : r.Leads fl ot s) (inPort : Nat) (icost : Nat) (kept :
    Bool) (c : Ctrl) : r.Leads fl ot (State.ctrlForward s inPort icost kept c) := by
  unfold State.ctrlForward
  extract_lets -merge -underBinder +onlyGivenNames x0
  try clear_value x0
  refine State.leads_ite ?_ ?_
  · extract_lets -merge -underBinder +onlyGivenNames x1
    have hx1 : r.Leads fl ot x1 := State.leads_when h _ _ (fun x2 hx2 => State.leads_count hx2 _ _)
    clear_value x1
    exact State.leads_ctrlFree hx1 _ _
  · refine State.leads_ite ?_ ?_
    · extract_lets -merge -underBinder +onlyGivenNames x3
      try clear_value x3
      exact State.leads_foldl (State.leads_ctrlFree h _ _) _ _ fun x4 y4 hx4 => State.leads_enterCtrl hx4 _ _ _ _
    · extract_lets -merge -underBinder +onlyGivenNames x5
      try clear_value x5
      refine State.leads_ite ?_ ?_
      · extract_lets -merge -underBinder +onlyGivenNames x6
        have hx6 : r.Leads fl ot x6 := State.leads_ctrlFree h _ _
        clear_value x6
        exact State.leads_ite hx6 (State.leads_ite (State.leads_event hx6 _ _) (State.leads_answer hx6 _ _ _ _))
      · exact State.leads_enterCtrl h _ _ _ _

theorem State.leads_ctrlDeliver {fl ot : Bool} {r s : State} (h : r.Leads fl ot s) (inPort : Nat) (icost : Nat) (c :
    Ctrl) : r.Leads fl ot (State.ctrlDeliver s inPort icost c) := by
  unfold State.ctrlDeliver
  exact State.leads_enterCtrl h _ _ _ _

theorem State.leads_ctrlArrive {fl ot : Bool} {r s : State} (h : r.Leads fl ot s) (inPort : Nat) (icost : Nat) (c :
    Ctrl) : r.Leads fl ot (State.ctrlArrive s inPort icost c) := by
  unfold State.ctrlArrive
  extract_lets -merge -underBinder +onlyGivenNames x0
  try clear_value x0
  refine State.leads_ite ?_ ?_
  · exact State.leads_ite (State.leads_ctrlFree h _ _) (State.leads_ite (State.leads_ctrlDeliver h _ _ _)
        (State.leads_refuse (State.leads_ctrlFree h _ _) _ _ _ _))
  · refine State.leads_ite ?_ ?_
    · extract_lets -merge -underBinder +onlyGivenNames x1
      have hx1 : r.Leads fl ot x1 := State.leads_wr h _ _ _
      clear_value x1
      exact State.leads_ite (State.leads_ctrlDeliver hx1 _ _ _) (State.leads_ctrlForward hx1 _ _ _ _)
    · exact State.leads_ite (State.leads_ctrlFree h _ _) (State.leads_ite (State.leads_ctrlDeliver h _ _ _)
          (State.leads_ite (State.leads_ctrlForward (State.leads_ctrlDeliver h _ _ _) _ _ _ _) (State.leads_ctrlForward
          h _ _ _ _)))

theorem State.leads_markDown {fl ot : Bool} {r s : State} (h : r.Leads fl ot s) (ks : List Nat) (port : Nat) (reason :
    Nat) : r.Leads fl ot (State.markDown s ks port reason) := by
  unfold State.markDown
  refine State.leads_ite ?_ ?_
  · exact h
  · extract_lets -merge -underBinder +onlyGivenNames x0
    have hx0 : r.Leads fl ot x0 := State.leads_foldl h _ _ fun x1 y1 hx1 => State.leads_wr hx1 _ _ _
    clear_value x0
    extract_lets -merge -underBinder +onlyGivenNames x2
    have hx2 : r.Leads fl ot x2 := State.leads_wr (State.leads_wr (State.leads_wr (State.leads_wr hx0 _ _ _) _ _ _) _ _
        _) _ _ _
    clear_value x2
    exact State.leads_raise (State.leads_foldl hx2 _ _ fun x3 y3 hx3 => State.leads_edgeDown hx3 _) _ _

theorem State.leads_notify {fl ot : Bool} {r s : State} (h : r.Leads fl ot s) (ks : List Nat) (side : Nat) (reason :
    Nat) : r.Leads fl ot (State.notify s ks side reason) := by
  unfold State.notify
  refine State.leads_foldl ?_ _ _ fun x0 y0 hx0 => ?_
  · exact h
  refine State.leads_foldl ?_ _ _ fun x1 y1 hx1 => ?_
  · exact hx0
  extract_lets -merge -underBinder +onlyGivenNames x2
  try clear_value x2
  extract_lets -merge -underBinder +onlyGivenNames x3
  try clear_value x3
  exact State.leads_foldl hx1 _ _ fun x4 y4 hx4 => State.leads_ctrlOut hx4 _ _

theorem State.leads_markMembers {fl ot : Bool} {r s : State} (h : r.Leads fl ot s) (port : Nat) (ids : List Nat) :
    r.Leads fl ot (State.markMembers s port ids) := by
  unfold State.markMembers
  extract_lets -merge -underBinder +onlyGivenNames x0
  try clear_value x0
  exact State.leads_foldl h _ _ fun x1 y1 hx1 => State.leads_foldl hx1 _ _ fun x2 y2 hx2 => State.leads_when hx2 _ _
      (fun x3 hx3 => State.leads_wr hx3 _ _ _)

theorem State.leads_pathDownRx {fl ot : Bool} {r s : State} (h : r.Leads fl ot s) (port : Nat) (c : Ctrl) : r.Leads fl
    ot (State.pathDownRx s port c) := by
  unfold State.pathDownRx
  extract_lets -merge -underBinder +onlyGivenNames x0
  try clear_value x0
  extract_lets -merge -underBinder +onlyGivenNames x1
  try clear_value x1
  extract_lets -merge -underBinder +onlyGivenNames x2
  try clear_value x2
  extract_lets -merge -underBinder +onlyGivenNames x3
  try clear_value x3
  extract_lets -merge -underBinder +onlyGivenNames x4
  try clear_value x4
  exact State.leads_when (State.leads_notify (State.leads_markDown h _ _ _) _ _ _) _ _ (fun x5 hx5 =>
      State.leads_markMembers hx5 _ _)

theorem State.leads_declareDown {fl ot : Bool} {r s : State} (h : r.Leads fl ot s) (code : Nat) (reason : Nat) :
    r.Leads fl ot (State.declareDown s code reason) := by
  unfold State.declareDown
  extract_lets -merge -underBinder +onlyGivenNames x0
  try clear_value x0
  extract_lets -merge -underBinder +onlyGivenNames x1
  try clear_value x1
  extract_lets -merge -underBinder +onlyGivenNames x2
  try clear_value x2
  extract_lets -merge -underBinder +onlyGivenNames x3
  try clear_value x3
  exact State.leads_notify (State.leads_notify (State.leads_markDown h _ _ _) _ _ _) _ _ _

theorem State.leads_linkReset {fl ot : Bool} {r s : State} (h : r.Leads fl ot s) (port : Nat) : r.Leads fl ot
    (State.linkReset s port) := by
  unfold State.linkReset
  extract_lets -merge -underBinder +onlyGivenNames x0
  try clear_value x0
  extract_lets -merge -underBinder +onlyGivenNames x1
  have hx1 : r.Leads fl ot x1 := State.leads_raise (State.leads_sat h _ _ _) _ _
  clear_value x1
  extract_lets -merge -underBinder +onlyGivenNames x2
  have hx2 : r.Leads fl ot x2 := State.leads_when hx1 _ _ (fun x3 hx3 => State.leads_raise (State.leads_wr hx3 _ _ _) _
      _)
  clear_value x2
  extract_lets -merge -underBinder +onlyGivenNames x4
  have hx4 : r.Leads fl ot x4 := State.leads_wr hx2 _ _ _
  clear_value x4
  extract_lets -merge -underBinder +onlyGivenNames x5
  try clear_value x5
  extract_lets -merge -underBinder +onlyGivenNames x6
  try clear_value x6
  extract_lets -merge -underBinder +onlyGivenNames x7
  have hx7 : r.Leads fl ot x7 := State.leads_wr (State.leads_resetWhere hx4 _) _ _ _
  clear_value x7
  extract_lets -merge -underBinder +onlyGivenNames x8
  have hx8 : r.Leads fl ot x8 := State.leads_foldl hx7 _ _ fun x9 y9 hx9 => State.leads_wr hx9 _ _ _
  clear_value x8
  extract_lets -merge -underBinder +onlyGivenNames x10
  have hx10 : r.Leads fl ot x10 := State.leads_mk hx8 ..
  clear_value x10
  extract_lets -merge -underBinder +onlyGivenNames x11
  have hx11 : r.Leads fl ot x11 := (by
      unfold x11
      refine State.leads_foldl ?_ _ _ fun x12 y12 hx12 => ?_
      · exact hx10
      extract_lets -merge -underBinder +onlyGivenNames x13
      try clear_value x13
      extract_lets -merge -underBinder +onlyGivenNames x14
      have hx14 : r.Leads fl ot x14 := State.leads_when hx12 _ _ (fun x15 hx15 => State.leads_wr (State.leads_wr
          (State.leads_wr hx15 _ _ _) _ _ _) _ _ _)
      clear_value x14
      exact State.leads_when hx14 _ _ (fun x16 hx16 => State.leads_wr (State.leads_wr hx16 _ _ _) _ _ _))
  clear_value x11
  extract_lets -merge -underBinder +onlyGivenNames x17
  try clear_value x17
  extract_lets -merge -underBinder +onlyGivenNames x18
  have hx18 : r.Leads fl ot x18 := State.leads_foldl hx11 _ _ fun x19 y19 hx19 => State.leads_foldl hx19 _ _ fun x20
      y20 hx20 => State.leads_ite (State.leads_setMc (State.leads_setMc hx20 _ _ _) _ _ _) hx20
  clear_value x18
  exact State.leads_wr hx18 _ _ _

theorem State.leads_portEvent {fl ot : Bool} {r s : State} (h : r.Leads fl ot s) (port : Nat) (event : Nat) : r.Leads
    fl ot (State.portEvent s port event) := by
  unfold State.portEvent
  extract_lets -merge -underBinder +onlyGivenNames x0
  try clear_value x0
  exact State.leads_foldl h _ _ fun x1 y1 hx1 => State.leads_when hx1 _ _ (fun x2 hx2 => State.leads_ctrlSend hx2 _)

theorem State.leads_linkLost {fl ot : Bool} {r s : State} (h : r.Leads fl ot s) (port : Nat) (reason : Nat) : r.Leads
    fl ot (State.linkLost s port reason) := by
  unfold State.linkLost
  extract_lets -merge -underBinder +onlyGivenNames x0
  have hx0 : r.Leads fl ot x0 := State.leads_ite (State.leads_linkReset h _) h
  clear_value x0
  extract_lets -merge -underBinder +onlyGivenNames x1
  have hx1 : r.Leads fl ot x1 := State.leads_wr (State.leads_declareDown hx0 _ _) _ _ _
  clear_value x1
  extract_lets -merge -underBinder +onlyGivenNames x2
  have hx2 : r.Leads fl ot x2 := State.leads_mk hx1 ..
  clear_value x2
  exact State.leads_portEvent (State.leads_wr hx2 _ _ _) _ _

end Sys2Proof.Machine
end

