-- ==== Sys2Proof/Laws/Lead/LinkOps.lean ====
section
/-! SUPPORT. What the operations of Machine/LinkOps.lean keep (State.Leads of Laws/Leads.lean). -/

namespace Sys2Proof.Machine

open Reg

theorem State.leads_recordDrop {fl ot : Bool} {r s : State} (h : r.Leads fl ot s) (port : Nat) (pads : Nat) (cause :
    Nat) : r.Leads fl ot (State.recordDrop s port pads cause) := by
  unfold State.recordDrop
  extract_lets -merge -underBinder +onlyGivenNames x0
  try clear_value x0
  extract_lets -merge -underBinder +onlyGivenNames x1
  try clear_value x1
  extract_lets -merge -underBinder +onlyGivenNames x2
  have hx2 : r.Leads fl ot x2 := State.leads_wr (State.leads_wr (State.leads_wr (State.leads_wr h _ _ _) _ _ _) _ _ _)
      _ _ _
  clear_value x2
  extract_lets -merge -underBinder +onlyGivenNames x3
  have hx3 : r.Leads fl ot x3 := State.leads_sat (State.leads_wr hx2 _ _ _) _ _ _
  clear_value x3
  exact State.leads_raise (State.leads_wr hx3 _ _ _) _ _

theorem State.leads_ctrlRx {fl ot : Bool} {r s : State} (h : r.Leads fl ot s) (port : Nat) (p : Pkt) : r.Leads fl ot
    (State.ctrlRx s port p) := by
  unfold State.ctrlRx
  split
  · exact h
  · extract_lets -merge -underBinder +onlyGivenNames x0
    try clear_value x0
    extract_lets -merge -underBinder +onlyGivenNames x1
    try clear_value x1
    extract_lets -merge -underBinder +onlyGivenNames x2
    try clear_value x2
    extract_lets -merge -underBinder +onlyGivenNames x3
    have hx3 : r.Leads fl ot x3 := State.leads_wr h _ _ _
    clear_value x3
    exact State.leads_ite (State.leads_raise (State.leads_count (State.leads_ctrlFree hx3 _ _) _ _) _ _)
        (State.leads_mk hx3 ..)

theorem State.leads_takeBuf {fl ot : Bool} {r s : State} (h : r.Leads fl ot s) (port : Nat) : r.Leads fl ot
    (State.takeBuf s port) := by
  unfold State.takeBuf
  extract_lets -merge -underBinder +onlyGivenNames x0
  try clear_value x0
  extract_lets -merge -underBinder +onlyGivenNames z1_0 x1
  try clear_value x1
  extract_lets -merge -underBinder +onlyGivenNames x2
  try clear_value x2
  exact State.leads_wr (State.leads_wr (State.leads_wr h _ _ _) _ _ _) _ _ _

theorem State.leads_maskPad {fl ot : Bool} {r s : State} (h : r.Leads fl ot s) (port : Nat) (p : Nat) (m : Bool) :
    r.Leads fl ot (State.maskPad s port p m) := by
  unfold State.maskPad
  extract_lets -merge -underBinder +onlyGivenNames x0
  try clear_value x0
  exact State.leads_wr (State.leads_wr h _ _ _) _ _ _

theorem State.leads_queueLink {fl ot : Bool} {r s : State} (h : r.Leads fl ot s) (port : Nat) (m : LinkMsg) : r.Leads
    fl ot (State.queueLink s port m) := by
  unfold State.queueLink
  exact State.leads_mk h ..

theorem State.leads_changeTxSet {fl ot : Bool} {r s : State} (h : r.Leads fl ot s) (port : Nat) (pads : Nat) : r.Leads
    fl ot (State.changeTxSet s port pads) := by
  unfold State.changeTxSet
  extract_lets -merge -underBinder +onlyGivenNames x0
  try clear_value x0
  extract_lets -merge -underBinder +onlyGivenNames x1
  try clear_value x1
  extract_lets -merge -underBinder +onlyGivenNames x2
  have hx2 : r.Leads fl ot x2 := State.leads_wr (State.leads_wr (State.leads_accSent h _) _ _ _) _ _ _
  clear_value x2
  exact State.leads_queueLink hx2 _ _

theorem State.leads_turnNow {fl ot : Bool} {r s : State} (h : r.Leads fl ot s) (port : Nat) (new : Nat) : r.Leads fl ot
    (State.turnNow s port new) := by
  unfold State.turnNow
  extract_lets -merge -underBinder +onlyGivenNames x0
  try clear_value x0
  extract_lets -merge -underBinder +onlyGivenNames x1
  try clear_value x1
  split
  · exact State.leads_wr h _ _ _
  · extract_lets -merge -underBinder +onlyGivenNames x2
    have hx2 : r.Leads fl ot x2 := State.leads_wr (State.leads_wr (State.leads_wr (State.leads_wr h _ _ _) _ _ _) _ _
        _) _ _ _
    clear_value x2
    extract_lets -merge -underBinder +onlyGivenNames x3
    have hx3 : r.Leads fl ot x3 := State.leads_maskPad hx2 _ _ _
    clear_value x3
    extract_lets -merge -underBinder +onlyGivenNames x4
    try clear_value x4
    refine State.leads_ite ?_ ?_
    · extract_lets -merge -underBinder +onlyGivenNames x5
      have hx5 : r.Leads fl ot x5 := State.leads_wr hx3 _ _ _
      clear_value x5
      exact State.leads_wr (State.leads_wr hx5 _ _ _) _ _ _
    · extract_lets -merge -underBinder +onlyGivenNames x6
      have hx6 : r.Leads fl ot x6 := State.leads_changeTxSet hx3 _ _
      clear_value x6
      exact State.leads_wr (State.leads_wr hx6 _ _ _) _ _ _

theorem State.leads_unstage {fl ot : Bool} {r s : State} (h : r.Leads fl ot s) (port : Nat) (q : QPkt) : r.Leads fl ot
    (State.unstage s port q) := by
  unfold State.unstage
  extract_lets -merge -underBinder +onlyGivenNames x0
  try clear_value x0
  extract_lets -merge -underBinder +onlyGivenNames x1
  try clear_value x1
  extract_lets -merge -underBinder +onlyGivenNames x2
  have hx2 : r.Leads fl ot x2 := State.leads_when h _ _ (fun x3 hx3 => State.leads_wr hx3 _ _ _)
  clear_value x2
  exact State.leads_mk hx2 ..

theorem State.leads_setLanes {fl ot : Bool} {r s : State} (h : r.Leads fl ot s) (port : Nat) (st : Nat) : r.Leads fl ot
    (State.setLanes s port st) := by
  unfold State.setLanes
  exact State.leads_wr h _ _ _

theorem State.leads_retrainLink {fl ot : Bool} {r s : State} (h : r.Leads fl ot s) (port : Nat) (reason : Nat) :
    r.Leads fl ot (State.retrainLink s port reason) := by
  unfold State.retrainLink
  exact State.leads_linkLost (State.leads_setLanes h _ _) _ _

theorem State.leads_startReplay {fl ot : Bool} {r s : State} (h : r.Leads fl ot s) (port : Nat) : r.Leads fl ot
    (State.startReplay s port) := by
  unfold State.startReplay
  extract_lets -merge -underBinder +onlyGivenNames x0
  try clear_value x0
  refine State.leads_ite ?_ ?_
  · exact h
  · refine State.leads_ite ?_ ?_
    · exact State.leads_retrainLink (State.leads_raise h _ _) _ _
    · extract_lets -merge -underBinder +onlyGivenNames x1
      have hx1 : r.Leads fl ot x1 := State.leads_wr h _ _ _
      clear_value x1
      exact State.leads_mk hx1 ..

theorem State.leads_creditEntryRx {fl ot : Bool} {r s : State} (h : r.Leads fl ot s) (port : Nat) (e : Nat × Nat) :
    r.Leads fl ot (State.creditEntryRx s port e) := by
  unfold State.creditEntryRx
  refine State.leads_ite ?_ ?_
  · exact State.leads_wr h _ _ _
  · extract_lets -merge -underBinder +onlyGivenNames x0
    try clear_value x0
    extract_lets -merge -underBinder +onlyGivenNames x1
    have hx1 : r.Leads fl ot x1 := State.leads_foldl h _ _ fun x2 y2 hx2 => State.leads_wr hx2 _ _ _
    clear_value x1
    extract_lets -merge -underBinder +onlyGivenNames x3
    try clear_value x3
    exact State.leads_foldl hx1 _ _ fun x4 y4 hx4 => State.leads_foldl hx4 _ _ fun x5 y5 hx5 => State.leads_ite
        (State.leads_setMc hx5 _ _ _) hx5

theorem State.leads_sendLink {fl ot : Bool} {r s : State} (h : r.Leads fl ot s) (port : Nat) (m : LinkMsg) : r.Leads fl
    ot (State.sendLink s port m) := by
  unfold State.sendLink
  extract_lets -merge -underBinder +onlyGivenNames x0
  try clear_value x0
  extract_lets -merge -underBinder +onlyGivenNames x1
  try clear_value x1
  extract_lets -merge -underBinder +onlyGivenNames x2
  try clear_value x2
  extract_lets -merge -underBinder +onlyGivenNames x3
  have hx3 : r.Leads fl ot x3 := State.leads_send h _
  clear_value x3
  extract_lets -merge -underBinder +onlyGivenNames x4
  have hx4 : r.Leads fl ot x4 := State.leads_when hx3 _ _ (fun x5 hx5 => State.leads_count hx5 _ _)
  clear_value x4
  extract_lets -merge -underBinder +onlyGivenNames x6
  have hx6 : r.Leads fl ot x6 := State.leads_wr (State.leads_wr (State.leads_wr hx4 _ _ _) _ _ _) _ _ _
  clear_value x6
  exact State.leads_sat (State.leads_wr hx6 _ _ _) _ _ _

theorem State.leads_gap {fl ot : Bool} {r s : State} (h : r.Leads fl ot s) (port : Nat) : r.Leads fl ot (State.gap s
    port) := by
  unfold State.gap
  exact State.leads_wr (State.leads_wr h _ _ _) _ _ _

theorem State.leads_dropRxPad {fl ot : Bool} {r s : State} (h : r.Leads fl ot s) (port : Nat) (p : Nat) (cause : Nat) :
    r.Leads fl ot (State.dropRxPad s port p cause) := by
  unfold State.dropRxPad
  extract_lets -merge -underBinder +onlyGivenNames x0
  try clear_value x0
  extract_lets -merge -underBinder +onlyGivenNames x1
  try clear_value x1
  extract_lets -merge -underBinder +onlyGivenNames x2
  have hx2 : r.Leads fl ot x2 := State.leads_recordDrop (State.leads_maskPad h _ _ _) _ _ _
  clear_value x2
  extract_lets -merge -underBinder +onlyGivenNames x3
  have hx3 : r.Leads fl ot x3 := State.leads_wr (State.leads_wr hx2 _ _ _) _ _ _
  clear_value x3
  extract_lets -merge -underBinder +onlyGivenNames x4
  have hx4 : r.Leads fl ot x4 := State.leads_gap (State.leads_wrBit hx3 _ _ _ _) _
  clear_value x4
  extract_lets -merge -underBinder +onlyGivenNames x5
  have hx5 : r.Leads fl ot x5 := State.leads_queueLink hx4 _ _
  clear_value x5
  exact State.leads_when hx5 _ _ (fun x6 hx6 => State.leads_raise (State.leads_wr (State.leads_wr hx6 _ _ _) _ _ _) _ _)

theorem State.leads_fillLink {fl ot : Bool} {r s : State} (h : r.Leads fl ot s) (port : Nat) : r.Leads fl ot
    (State.fillLink s port) := by
  unfold State.fillLink
  extract_lets -merge -underBinder +onlyGivenNames x0
  try clear_value x0
  extract_lets -merge -underBinder +onlyGivenNames x1
  try clear_value x1
  extract_lets -merge -underBinder +onlyGivenNames x2
  try clear_value x2
  extract_lets -merge -underBinder +onlyGivenNames x3
  try clear_value x3
  exact State.leads_wr (State.leads_wr h _ _ _) _ _ _

theorem State.leads_applyPair {fl ot : Bool} {r s : State} (h : r.Leads fl ot s) (port : Nat) : r.Leads fl ot
    (State.applyPair s port) := by
  unfold State.applyPair
  extract_lets -merge -underBinder +onlyGivenNames x0
  try clear_value x0
  refine State.leads_ite ?_ ?_
  · exact h
  · extract_lets -merge -underBinder +onlyGivenNames x1
    try clear_value x1
    extract_lets -merge -underBinder +onlyGivenNames x2
    try clear_value x2
    extract_lets -merge -underBinder +onlyGivenNames x3
    have hx3 : r.Leads fl ot x3 := (by
        unfold x3
        refine State.leads_foldl ?_ _ _ fun x4 y4 hx4 => ?_
        · exact h
        extract_lets -merge -underBinder +onlyGivenNames x5
        try clear_value x5
        extract_lets -merge -underBinder +onlyGivenNames x6
        try clear_value x6
        refine State.leads_ite ?_ ?_
        · exact hx4
        · refine State.leads_ite ?_ ?_
          · extract_lets -merge -underBinder +onlyGivenNames x7
            have hx7 : r.Leads fl ot x7 := State.leads_recordDrop hx4 _ _ _
            clear_value x7
            extract_lets -merge -underBinder +onlyGivenNames x8
            have hx8 : r.Leads fl ot x8 := State.leads_queueLink hx7 _ _
            clear_value x8
            exact State.leads_ite (State.leads_maskPad (State.leads_changeTxSet hx8 _ _) _ _ _) (State.leads_wr
                (State.leads_maskPad (State.leads_wr hx8 _ _ _) _ _ _) _ _ _)
          · exact State.leads_ite (State.leads_wrBit (State.leads_queueLink hx4 _ _) _ _ _ _) hx4)
    clear_value x3
    exact State.leads_setInt (State.leads_wr (State.leads_wr (State.leads_applyFields hx3 _ _) _ _ _) _ _ _) _ _

theorem State.leads_replayTurn {fl ot : Bool} {r s : State} (h : r.Leads fl ot s) (port : Nat) : r.Leads fl ot
    (State.replayTurn s port).1 := by
  unfold State.replayTurn
  extract_lets -merge -underBinder +onlyGivenNames x0
  try clear_value x0
  split
  · exact State.leads_pair h
  · extract_lets -merge -underBinder +onlyGivenNames x1
    try clear_value x1
    extract_lets -merge -underBinder +onlyGivenNames x2
    have hx2 : r.Leads fl ot x2 := State.leads_count (State.leads_mk h ..) _ _
    clear_value x2
    exact State.leads_pair (State.leads_send (State.leads_sat hx2 _ _ _) _)

theorem State.leads_takeCum {fl ot : Bool} {r s : State} (h : r.Leads fl ot s) (port : Nat) (id : Nat) : r.Leads fl ot
    (State.takeCum s port id).1 := by
  unfold State.takeCum
  refine State.leads_ite_fst ?_ ?_
  · exact State.leads_pair (State.leads_wr h _ _ _)
  · split
    · exact State.leads_pair (State.leads_wr h _ _ _)
    · exact State.leads_pair h

theorem State.leads_creditPacket {fl ot : Bool} {r s : State} (h : r.Leads fl ot s) (port : Nat) : r.Leads fl ot
    (State.creditPacket s port).1 := by
  unfold State.creditPacket
  extract_lets -merge -underBinder +onlyGivenNames x0
  try clear_value x0
  extract_lets -merge -underBinder +onlyGivenNames x1
  have hx1 : r.Leads fl ot x1.1 := (by
      unfold x1
      refine State.leads_foldl_fst ?_ _ _ fun x2 y2 hx2 => ?_
      · exact State.leads_pair h
      split
      · rename_i y3_0 y3_1 heq3
        have hy3 := State.leads_of_fst (fl := fl) (ot := ot) (r := r) heq3 (State.leads_takeCum hx2 _ _)
        exact State.leads_pair hy3
      · rename_i y4_0 heq4
        have hy4 := State.leads_of_fst (fl := fl) (ot := ot) (r := r) heq4 (State.leads_takeCum hx2 _ _)
        exact State.leads_pair hy4)
  clear_value x1
  refine State.leads_pair ?_
  extract_lets -merge -underBinder +onlyGivenNames x5
  have hx5 : r.Leads fl ot x5 := hx1
  clear_value x5
  exact State.leads_mk hx5 ..

theorem State.leads_linkTurn {fl ot : Bool} {r s : State} (h : r.Leads fl ot s) (port : Nat) : r.Leads fl ot
    (State.linkTurn s port).1 := by
  unfold State.linkTurn
  extract_lets -merge -underBinder +onlyGivenNames x0
  try clear_value x0
  extract_lets -merge -underBinder +onlyGivenNames x1
  try clear_value x1
  extract_lets -merge -underBinder +onlyGivenNames x2
  try clear_value x2
  extract_lets -merge -underBinder +onlyGivenNames x3
  try clear_value x3
  split
  · exact State.leads_ite_fst (State.leads_pair (State.leads_sendLink (State.leads_mk h ..) _ _)) (State.leads_ite_fst
        (State.leads_pair (State.leads_sendLink h _ _)) (State.leads_pair h))
  · refine State.leads_ite_fst ?_ ?_
    · exact State.leads_pair (State.leads_sendLink h _ _)
    · extract_lets -merge -underBinder +onlyGivenNames x4
      try clear_value x4
      refine State.leads_ite_fst ?_ ?_
      · exact State.leads_ite_fst (State.leads_pair (State.leads_sendLink h _ _)) (State.leads_pair h)
      · refine State.leads_ite_fst ?_ ?_
        · split
          · rename_i y5_0 y5_1 heq5
            have hy5 := State.leads_of_fst (fl := fl) (ot := ot) (r := r) heq5 (State.leads_creditPacket h _)
            exact State.leads_ite_fst (State.leads_pair hy5) (State.leads_pair (State.leads_sendLink hy5 _ _))
        · extract_lets -merge -underBinder +onlyGivenNames x6
          have hx6 : r.Leads fl ot x6 := State.leads_raise (State.leads_count h _ _) _ _
          clear_value x6
          extract_lets -merge -underBinder +onlyGivenNames x7
          have hx7 : r.Leads fl ot x7 := State.leads_mk hx6 ..
          clear_value x7
          exact State.leads_ite_fst (State.leads_pair (State.leads_sendLink hx7 _ _)) (State.leads_pair hx7)

theorem State.leads_enterLp {fl ot : Bool} {r s : State} (h : r.Leads fl ot s) (port : Nat) : r.Leads fl ot
    (State.enterLp s port) := by
  unfold State.enterLp
  extract_lets -merge -underBinder +onlyGivenNames x0
  try clear_value x0
  refine State.leads_ite ?_ ?_
  · refine State.leads_ite ?_ ?_
    · extract_lets -merge -underBinder +onlyGivenNames x1
      try clear_value x1
      extract_lets -merge -underBinder +onlyGivenNames x2
      have hx2 : r.Leads fl ot x2 := State.leads_count (State.leads_wr (State.leads_wr h _ _ _) _ _ _) _ _
      clear_value x2
      exact State.leads_foldl hx2 _ _ fun x3 y3 hx3 => State.leads_maskPad hx3 _ _ _
    · exact State.leads_linkTurn h _
  · exact State.leads_queueLink (State.leads_wr (State.leads_wr h _ _ _) _ _ _) _ _

theorem State.leads_sealPkt {fl ot : Bool} {r s : State} (h : r.Leads fl ot s) (k : Nat) (p : Pkt) : r.Leads fl ot
    (State.sealPkt s k p).1 := by
  unfold State.sealPkt
  split
  · exact State.leads_pair h
  · extract_lets -merge -underBinder +onlyGivenNames x0
    try clear_value x0
    extract_lets -merge -underBinder +onlyGivenNames x1
    try clear_value x1
    extract_lets -merge -underBinder +onlyGivenNames x2
    try clear_value x2
    extract_lets -merge -underBinder +onlyGivenNames x3
    try clear_value x3
    extract_lets -merge -underBinder +onlyGivenNames x4
    try clear_value x4
    extract_lets -merge -underBinder +onlyGivenNames x5
    try clear_value x5
    exact State.leads_pair (State.leads_wr h _ _ _)

theorem State.leads_served {fl ot : Bool} {r s : State} (h : r.Leads fl ot s) (port : Nat) (q : QPkt) : r.Leads fl ot
    (State.served s port q) := by
  unfold State.served
  split
  · exact State.leads_sat h _ _ _
  · exact State.leads_sat h _ _ _
  · exact State.leads_sat h _ _ _
  · exact State.leads_sat h _ _ _

theorem State.leads_debit {fl ot : Bool} {r s : State} (h : r.Leads fl ot s) (port : Nat) (q : QPkt) (cost : Nat) :
    r.Leads fl ot (State.debit s port q cost) := by
  unfold State.debit
  refine State.leads_ite ?_ ?_
  · exact h
  · refine State.leads_ite ?_ ?_
    · exact State.leads_wr h _ _ _
    · refine State.leads_ite ?_ ?_
      · exact h
      · refine State.leads_ite ?_ ?_
        · extract_lets -merge -underBinder +onlyGivenNames x0
          try clear_value x0
          split
          · exact State.leads_setMc h _ _ _
          · exact h
        · extract_lets -merge -underBinder +onlyGivenNames x1
          try clear_value x1
          exact State.leads_wr h _ _ _

theorem State.leads_showReplay {fl ot : Bool} {r s : State} (h : r.Leads fl ot s) (port : Nat) : r.Leads fl ot
    (State.showReplay s port) := by
  unfold State.showReplay
  extract_lets -merge -underBinder +onlyGivenNames x0
  try clear_value x0
  exact State.leads_wr (State.leads_wr h _ _ _) _ _ _

theorem State.leads_transmit {fl ot : Bool} {r s : State} (h : r.Leads fl ot s) (port : Nat) (q : QPkt) : r.Leads fl ot
    (State.transmit s port q) := by
  unfold State.transmit
  extract_lets -merge -underBinder +onlyGivenNames x0
  have hx0 : r.Leads fl ot x0 := State.leads_served h _ _
  clear_value x0
  extract_lets -merge -underBinder +onlyGivenNames x1
  have hx1 : r.Leads fl ot x1 := State.leads_unstage hx0 _ _
  clear_value x1
  extract_lets -merge -underBinder +onlyGivenNames x2
  try clear_value x2
  refine State.leads_ite ?_ ?_
  · exact State.leads_raise (State.leads_count hx1 _ _) _ _
  · extract_lets -merge -underBinder +onlyGivenNames x3
    try clear_value x3
    extract_lets -merge -underBinder +onlyGivenNames z4_0 x4
    try clear_value x4
    extract_lets -merge -underBinder +onlyGivenNames x5
    try clear_value x5
    split
    · rename_i y6_0 y6_1 heq6
      have hy6 := State.leads_of_fst (fl := fl) (ot := ot) (r := r) heq6 (State.leads_ite_fst (State.leads_sealPkt hx1
          _ _) (State.leads_pair hx1))
      extract_lets -merge -underBinder +onlyGivenNames x7
      have hx7 : r.Leads fl ot x7 := State.leads_count (State.leads_debit hy6 _ _ _) _ _
      clear_value x7
      extract_lets -merge -underBinder +onlyGivenNames x8
      try clear_value x8
      extract_lets -merge -underBinder +onlyGivenNames x9
      try clear_value x9
      extract_lets -merge -underBinder +onlyGivenNames x10
      have hx10 : r.Leads fl ot x10 := State.leads_when hx7 _ _ (fun x11 hx11 => State.leads_wr (State.leads_wr hx11 _
          _ _) _ _ _)
      clear_value x10
      extract_lets -merge -underBinder +onlyGivenNames x12
      have hx12 : r.Leads fl ot x12 := State.leads_send hx10 _
      clear_value x12
      refine State.leads_ite ?_ ?_
      · extract_lets -merge -underBinder +onlyGivenNames x13
        have hx13 : r.Leads fl ot x13 := State.leads_wr hx12 _ _ _
        clear_value x13
        exact State.leads_showReplay (State.leads_mk hx13 ..) _
      · exact hx12

theorem State.leads_keepDrr {fl ot : Bool} {r s : State} (h : r.Leads fl ot s) (port : Nat) (cls : Nat) (order : List
    (StQ × Nat)) (cost : Nat) : r.Leads fl ot (State.keepDrr s port cls order cost) := by
  unfold State.keepDrr
  extract_lets -merge -underBinder +onlyGivenNames x0
  try clear_value x0
  extract_lets -merge -underBinder +onlyGivenNames x1
  have hx1 : r.Leads fl ot x1 := (by
      unfold x1
      split
      · exact State.leads_foldl (State.leads_wr h _ _ _) _ _ fun x2 y2 hx2 => State.leads_wr hx2 _ _ _
      · exact h)
  clear_value x1
  exact State.leads_mk hx1 ..

theorem State.leads_almChoose {fl ot : Bool} {r s : State} (h : r.Leads fl ot s) (port : Nat) {t : State} {x : QPkt}
    (e : State.almChoose s port = some (t, x)) : r.Leads fl ot t := by
  unfold State.almChoose at e
  extract_lets -merge +onlyGivenNames s0 c1 c2 at e
  have hf : r.Leads fl ot s0 := State.leads_fillCtrl h _
  clear_value c2 c1 s0
  split at e
  · injection e with e
    have e1 := congrArg Prod.fst e
    dsimp only at e1
    rw [← e1]
    exact State.leads_payCtrl hf _ _
  · extract_lets -merge +onlyGivenNames last row at e
    clear_value row
    split at e
    · injection e with e
      have e1 := congrArg Prod.fst e
      dsimp only at e1
      rw [← e1]
      exact State.leads_wr (State.leads_payRow hf _ _ _) _ _ _
    · extract_lets -merge +onlyGivenNames h2 h3 cost protect at e
      split at e
      rename_i s2 c heq
      have h2' : r.Leads fl ot s2 := State.leads_of_fst heq (State.leads_ite_fst hf (State.leads_almDrr hf _ _ _))
      split at e
      · cases e
      · split at e
        · cases e
        · injection e with e
          have e1 := congrArg Prod.fst e
          dsimp only at e1
          rw [← e1]
          exact State.leads_keepDrr h2' _ _ _ _

theorem State.leads_newTurn {fl ot : Bool} {r s : State} (h : r.Leads fl ot s) (port : Nat) : r.Leads fl ot
    (State.newTurn s port) := by
  unfold State.newTurn
  extract_lets x
  split
  · exact h
  · rename_i t q heq
    have ht := State.leads_almChoose h _ heq
    split
    · exact State.leads_count h _ _
    · split
      · exact State.leads_count h _ _
      · exact State.leads_transmit ht _ _

theorem State.leads_absorbed {fl ot : Bool} {r s : State} (h : r.Leads fl ot s) (port : Nat) : r.Leads fl ot
    (State.absorbed s port) := by
  unfold State.absorbed
  extract_lets -merge -underBinder +onlyGivenNames x0
  try clear_value x0
  exact State.leads_wr (State.leads_wr h _ _ _) _ _ _

theorem State.leads_boundary {fl ot : Bool} {r s : State} (h : r.Leads fl ot s) (port : Nat) : r.Leads fl ot
    (State.boundary s port) := by
  unfold State.boundary
  extract_lets -merge -underBinder +onlyGivenNames x0
  try clear_value x0
  refine State.leads_ite ?_ ?_
  · exact State.leads_when h _ _ (fun x1 hx1 => State.leads_newTurn hx1 _)
  · extract_lets -merge -underBinder +onlyGivenNames x2
    have hx2 : r.Leads fl ot x2 := State.leads_fillLink h _
    clear_value x2
    extract_lets -merge -underBinder +onlyGivenNames x3
    have hx3 : r.Leads fl ot x3 := State.leads_when hx2 _ _ (fun x4 hx4 => State.leads_absorbed hx4 _)
    clear_value x3
    refine State.leads_ite ?_ ?_
    · exact State.leads_enterLp hx3 _
    · refine State.leads_ite ?_ ?_
      · exact hx3
      · extract_lets -merge -underBinder +onlyGivenNames x5
        have hx5 : r.Leads fl ot x5 := State.leads_applyPair hx3 _
        clear_value x5
        split
        · rename_i y6_0 heq6
          have hy6 := State.leads_of_fst (fl := fl) (ot := ot) (r := r) heq6 (State.leads_linkTurn hx5 _)
          exact hy6
        · rename_i y7_0 heq7
          have hy7 := State.leads_of_fst (fl := fl) (ot := ot) (r := r) heq7 (State.leads_linkTurn hx5 _)
          split
          · rename_i y8_0 heq8
            have hy8 := State.leads_of_fst (fl := fl) (ot := ot) (r := r) heq8 (State.leads_replayTurn hy7 _)
            exact hy8
          · rename_i y9_0 heq9
            have hy9 := State.leads_of_fst (fl := fl) (ot := ot) (r := r) heq9 (State.leads_replayTurn hy7 _)
            exact State.leads_ite (State.leads_newTurn hy9 _) hy9

theorem State.leads_wakeLink {fl ot : Bool} {r s : State} (h : r.Leads fl ot s) (port : Nat) : r.Leads fl ot
    (State.wakeLink s port) := by
  unfold State.wakeLink
  extract_lets -merge -underBinder +onlyGivenNames x0
  try clear_value x0
  extract_lets -merge -underBinder +onlyGivenNames x1
  try clear_value x1
  refine State.leads_ite ?_ ?_
  · extract_lets -merge -underBinder +onlyGivenNames x2
    have hx2 : r.Leads fl ot x2 := State.leads_when h _ _ (fun x3 hx3 => State.leads_send hx3 _)
    clear_value x2
    exact State.leads_wr (State.leads_wr hx2 _ _ _) _ _ _
  · exact h

theorem State.leads_returnCredits {fl ot : Bool} {r s : State} (h : r.Leads fl ot s) (k : Nat) (cost : Nat) : r.Leads
    fl ot (State.returnCredits s k cost) := by
  unfold State.returnCredits
  extract_lets -merge -underBinder +onlyGivenNames x0
  try clear_value x0
  extract_lets -merge -underBinder +onlyGivenNames x1
  have hx1 : r.Leads fl ot x1 := State.leads_wr h _ _ _
  clear_value x1
  exact State.leads_freeBuf hx1 _

theorem State.leads_giveBack {fl ot : Bool} {r s : State} (h : r.Leads fl ot s) (k : Nat) (cost : Nat) : r.Leads fl ot
    (State.giveBack s k cost) := by
  unfold State.giveBack
  exact State.leads_ite (State.leads_returnCredits h _ _) h

theorem State.leads_acceptSeq {fl ot : Bool} {r s : State} (h : r.Leads fl ot s) (port : Nat) : r.Leads fl ot
    (State.acceptSeq s port) := by
  unfold State.acceptSeq
  extract_lets -merge -underBinder +onlyGivenNames x0
  try clear_value x0
  extract_lets -merge -underBinder +onlyGivenNames x1
  try clear_value x1
  extract_lets -merge -underBinder +onlyGivenNames x2
  have hx2 : r.Leads fl ot x2 := State.leads_count (State.leads_wr (State.leads_wr (State.leads_wr h _ _ _) _ _ _) _ _
      _) _ _
  clear_value x2
  extract_lets -merge -underBinder +onlyGivenNames x3
  have hx3 : r.Leads fl ot x3 := State.leads_wr (State.leads_wr hx2 _ _ _) _ _ _
  clear_value x3
  exact State.leads_when hx3 _ _ (fun x4 hx4 => State.leads_wr hx4 _ _ _)

theorem State.leads_linkStart {fl ot : Bool} {r s : State} (h : r.Leads fl ot s) (port : Nat) : r.Leads fl ot
    (State.linkStart s port) := by
  unfold State.linkStart
  extract_lets -merge -underBinder +onlyGivenNames x0
  try clear_value x0
  extract_lets -merge -underBinder +onlyGivenNames x1
  try clear_value x1
  extract_lets -merge -underBinder +onlyGivenNames x2
  try clear_value x2
  extract_lets -merge -underBinder +onlyGivenNames x3
  have hx3 : r.Leads fl ot x3 := State.leads_takeBuf h _
  clear_value x3
  extract_lets -merge -underBinder +onlyGivenNames x4
  have hx4 : r.Leads fl ot x4 := State.leads_wr (State.leads_wr (State.leads_wr (State.leads_wr hx3 _ _ _) _ _ _) _ _
      _) _ _ _
  clear_value x4
  extract_lets -merge -underBinder +onlyGivenNames x5
  have hx5 : r.Leads fl ot x5 := State.leads_wr (State.leads_wr hx4 _ _ _) _ _ _
  clear_value x5
  extract_lets -merge -underBinder +onlyGivenNames x6
  have hx6 : r.Leads fl ot x6 := State.leads_wr (State.leads_wr (State.leads_wr hx5 _ _ _) _ _ _) _ _ _
  clear_value x6
  extract_lets -merge -underBinder +onlyGivenNames x7
  have hx7 : r.Leads fl ot x7 := State.leads_dueCredit hx6 _ _
  clear_value x7
  extract_lets -merge -underBinder +onlyGivenNames x8
  try clear_value x8
  exact State.leads_foldl hx7 _ _ fun x9 y9 hx9 => State.leads_dueCredit hx9 _ _

theorem State.leads_ackUpTo {fl ot : Bool} {r s : State} (h : r.Leads fl ot s) (port : Nat) (seq : Nat) : r.Leads fl ot
    (State.ackUpTo s port seq) := by
  unfold State.ackUpTo
  extract_lets -merge -underBinder +onlyGivenNames x0
  try clear_value x0
  extract_lets -merge -underBinder +onlyGivenNames x1
  try clear_value x1
  extract_lets -merge -underBinder +onlyGivenNames x2
  have hx2 : r.Leads fl ot x2 := State.leads_when h _ _ (fun x3 hx3 => State.leads_wr hx3 _ _ _)
  clear_value x2
  exact State.leads_showReplay (State.leads_mk hx2 ..) _

theorem State.leads_openPkt {fl ot : Bool} {r s : State} (h : r.Leads fl ot s) (k : Nat) (p : Pkt) : r.Leads fl ot
    (State.openPkt s k p).1 := by
  unfold State.openPkt
  split
  · exact State.leads_pair h
  · extract_lets -merge -underBinder +onlyGivenNames x0
    try clear_value x0
    extract_lets -merge -underBinder +onlyGivenNames x1
    try clear_value x1
    extract_lets -merge -underBinder +onlyGivenNames x2
    try clear_value x2
    extract_lets -merge -underBinder +onlyGivenNames x3
    try clear_value x3
    extract_lets -merge -underBinder +onlyGivenNames x4
    try clear_value x4
    extract_lets -merge -underBinder +onlyGivenNames x5
    try clear_value x5
    extract_lets -merge -underBinder +onlyGivenNames x6
    try clear_value x6
    extract_lets -merge -underBinder +onlyGivenNames x7
    try clear_value x7
    extract_lets -merge -underBinder +onlyGivenNames x8
    try clear_value x8
    exact State.leads_ite_fst (State.leads_pair (State.leads_wr h _ _ _)) (State.leads_ite_fst (State.leads_pair
        (State.leads_wr h _ _ _)) (State.leads_pair h))

theorem State.leads_addTxPads {fl ot : Bool} {r s : State} (h : r.Leads fl ot s) (port : Nat) (ps : List Nat) : r.Leads
    fl ot (State.addTxPads s port ps) := by
  unfold State.addTxPads
  extract_lets -merge -underBinder +onlyGivenNames x0
  try clear_value x0
  extract_lets -merge -underBinder +onlyGivenNames x1
  have hx1 : r.Leads fl ot x1 := State.leads_changeTxSet h _ _
  clear_value x1
  exact State.leads_foldl hx1 _ _ fun x2 y2 hx2 => State.leads_count (State.leads_maskPad (State.leads_wrBit
      (State.leads_wrBit hx2 _ _ _ _) _ _ _ _) _ _ _) _ _

theorem State.leads_turnAbort {fl ot : Bool} {r s : State} (h : r.Leads fl ot s) (port : Nat) : r.Leads fl ot
    (State.turnAbort s port) := by
  unfold State.turnAbort
  extract_lets -merge -underBinder +onlyGivenNames x0
  try clear_value x0
  exact State.leads_ite (State.leads_raise (State.leads_wr (State.leads_wr h _ _ _) _ _ _) _ _) h

theorem State.leads_dataRx {fl ot : Bool} {r s : State} (h : r.Leads fl ot s) (port : Nat) (kl : Bool) (p : Pkt) (pb :
    Option Nat) : r.Leads fl ot (State.dataRx s port kl p pb) := by
  unfold State.dataRx
  split
  · exact h
  · split
    · exact State.leads_noPath h
    · extract_lets -merge -underBinder +onlyGivenNames x0
      try clear_value x0
      extract_lets -merge -underBinder +onlyGivenNames x1
      try clear_value x1
      extract_lets -merge -underBinder +onlyGivenNames x2
      try clear_value x2
      extract_lets -merge -underBinder +onlyGivenNames x3
      try clear_value x3
      refine State.leads_ite ?_ ?_
      · exact State.leads_raise (State.leads_count (State.leads_returnCredits h _ _) _ _) _ _
      · refine State.leads_ite ?_ ?_
        · exact State.leads_raise (State.leads_count h _ _) _ _
        · refine State.leads_ite ?_ ?_
          · exact State.leads_raise (State.leads_count (State.leads_giveBack h _ _) _ _) _ _
          · split
            · rename_i y4_0 heq4
              have hy4 := State.leads_of_fst (fl := fl) (ot := ot) (r := r) heq4 (State.leads_ite_fst
                  (State.leads_openPkt h _ _) (State.leads_pair h))
              exact State.leads_raise (State.leads_count (State.leads_giveBack hy4 _ _) _ _) _ _
            · rename_i y5_0 y5_1 heq5
              have hy5 := State.leads_of_fst (fl := fl) (ot := ot) (r := r) heq5 (State.leads_ite_fst
                  (State.leads_openPkt h _ _) (State.leads_pair h))
              split
              · rename_i y6_0 heq6
                have hy6 := State.leads_of_fst (fl := fl) (ot := ot) (r := r) heq6 (State.leads_route hy5 _ _)
                exact State.leads_when hy6 _ _ (fun x7 hx7 => State.leads_wr hx7 _ _ _)
              · rename_i y8_0 y8_1 heq8
                have hy8 := State.leads_of_fst (fl := fl) (ot := ot) (r := r) heq8 (State.leads_route hy5 _ _)
                extract_lets -merge -underBinder +onlyGivenNames x9
                have hx9 : r.Leads fl ot x9 := State.leads_ite (State.leads_wr hy8 _ _ _) (State.leads_ite
                    (State.leads_wr hy8 _ _ _) hy8)
                clear_value x9
                extract_lets -merge -underBinder +onlyGivenNames x10
                try clear_value x10
                extract_lets -merge -underBinder +onlyGivenNames x11
                try clear_value x11
                extract_lets -merge -underBinder +onlyGivenNames x12
                try clear_value x12
                extract_lets -merge -underBinder +onlyGivenNames x13
                have hx13 : r.Leads fl ot x13 := State.leads_capturePoint hx9 _ _ _ _ _ _ _ _ _ _ _
                clear_value x13
                exact State.leads_enter hx13 _ _ _ _ _ _

theorem State.leads_turnAnswer {fl ot : Bool} {r s : State} (h : r.Leads fl ot s) (port : Nat) : r.Leads fl ot
    (State.turnAnswer s port) := by
  unfold State.turnAnswer
  extract_lets -merge -underBinder +onlyGivenNames x0
  try clear_value x0
  extract_lets -merge -underBinder +onlyGivenNames x1
  try clear_value x1
  extract_lets -merge -underBinder +onlyGivenNames x2
  try clear_value x2
  extract_lets -merge -underBinder +onlyGivenNames x3
  try clear_value x3
  extract_lets -merge -underBinder +onlyGivenNames x4
  try clear_value x4
  extract_lets -merge -underBinder +onlyGivenNames x5
  try clear_value x5
  extract_lets -merge -underBinder +onlyGivenNames x6
  have hx6 : r.Leads fl ot x6 := State.leads_wr h _ _ _
  clear_value x6
  exact State.leads_ite (State.leads_queueLink hx6 _ _) (State.leads_turnAbort (State.leads_queueLink hx6 _ _) _)

end Sys2Proof.Machine
end

