-- ==== Sys2Proof/Laws/Lead/TimeOps.lean ====
section
/-! SUPPORT. What the operations of Machine/TimeOps.lean keep (State.Leads of Laws/Leads.lean). -/

namespace Sys2Proof.Machine

open Reg

theorem State.leads_loseSync {fl ot : Bool} {r s : State} (h : r.Leads fl ot s) (port : Nat) : r.Leads fl ot
    (State.loseSync s port) := by
  unfold State.loseSync
  extract_lets -merge -underBinder +onlyGivenNames x0
  try clear_value x0
  exact State.leads_raise (State.leads_wr (State.leads_wr (State.leads_wr h _ _ _) _ _ _) _ _ _) _ _

theorem State.leads_slew {fl ot : Bool} {r s : State} (h : r.Leads fl ot s) (port : Nat) (off : Int) : r.Leads fl ot
    (State.slew s port off) := by
  unfold State.slew
  extract_lets -merge -underBinder +onlyGivenNames x0
  try clear_value x0
  extract_lets -merge -underBinder +onlyGivenNames x1
  try clear_value x1
  extract_lets -merge -underBinder +onlyGivenNames x2
  have hx2 : r.Leads fl ot x2 := State.leads_tookFree h
  clear_value x2
  extract_lets -merge -underBinder +onlyGivenNames x3
  try clear_value x3
  extract_lets -merge -underBinder +onlyGivenNames x4
  try clear_value x4
  extract_lets -merge -underBinder +onlyGivenNames x5
  have hx5 : r.Leads fl ot x5 := State.leads_tookFree hx2
  clear_value x5
  extract_lets -merge -underBinder +onlyGivenNames x6
  have hx6 : r.Leads fl ot x6 := State.leads_wr (State.leads_wr hx5 _ _ _) _ _ _
  clear_value x6
  exact State.leads_mk hx6 ..

theorem State.leads_enterActive {fl ot : Bool} {r s : State} (h : r.Leads fl ot s) (port : Nat) : r.Leads fl ot
    (State.enterActive s port) := by
  unfold State.enterActive
  extract_lets -merge -underBinder +onlyGivenNames x0
  try clear_value x0
  extract_lets -merge -underBinder +onlyGivenNames x1
  have hx1 : r.Leads fl ot x1 := State.leads_wr (State.leads_wr (State.leads_wr (State.leads_wr h _ _ _) _ _ _) _ _ _)
      _ _ _
  clear_value x1
  extract_lets -merge -underBinder +onlyGivenNames x2
  have hx2 : r.Leads fl ot x2 := State.leads_wr hx1 _ _ _
  clear_value x2
  exact State.leads_portEvent (State.leads_linkStart hx2 _) _ _

theorem State.leads_lateArm {fl ot : Bool} {r s : State} (h : r.Leads fl ot s) (p : Page) : r.Leads fl ot
    (State.lateArm s p) := by
  unfold State.lateArm
  exact State.leads_setInt (State.leads_wr (State.leads_wr h _ _ _) _ _ _) _ _

theorem State.leads_stepTime {fl ot : Bool} {r s : State} (h : r.Leads fl ot s) (port : Nat) (a_by : Int) : r.Leads fl
    ot (State.stepTime s port a_by) := by
  unfold State.stepTime
  extract_lets -merge -underBinder +onlyGivenNames x0
  try clear_value x0
  extract_lets -merge -underBinder +onlyGivenNames x1
  have hx1 : r.Leads fl ot x1 := State.leads_wr (State.leads_wr (State.leads_wr h _ _ _) _ _ _) _ _ _
  clear_value x1
  extract_lets -merge -underBinder +onlyGivenNames x2
  have hx2 : r.Leads fl ot x2 := State.leads_mk hx1 ..
  clear_value x2
  extract_lets -merge -underBinder +onlyGivenNames x3
  have hx3 : r.Leads fl ot x3 := State.leads_wr hx2 _ _ _
  clear_value x3
  extract_lets -merge -underBinder +onlyGivenNames x4
  try clear_value x4
  extract_lets -merge -underBinder +onlyGivenNames x5
  have hx5 : r.Leads fl ot x5 := State.leads_foldl hx3 _ _ fun x6 y6 hx6 => State.leads_lateArm hx6 _
  clear_value x5
  extract_lets -merge -underBinder +onlyGivenNames x7
  have hx7 : r.Leads fl ot x7 := State.leads_when hx5 _ _ (fun x8 hx8 => State.leads_raise hx8 _ _)
  clear_value x7
  exact State.leads_foldl hx7 _ _ fun x9 y9 hx9 => State.leads_foldl hx9 _ _ fun x10 y10 hx10 => State.leads_wr hx10 _
      _ _

theorem State.leads_actOffset {fl ot : Bool} {r s : State} (h : r.Leads fl ot s) (port : Nat) (off : Int) : r.Leads fl
    ot (State.actOffset s port off) := by
  unfold State.actOffset
  dsimp only
  repeat' (with_reducible first
    | assumption | apply State.leads_enterActive | apply State.leads_loseSync | apply State.leads_send
    | apply State.leads_slew | apply State.leads_stepTime | apply State.leads_wr | apply State.leads_when
    | apply State.leads_foldl | intro _ | apply State.leads_ite | apply State.leads_of_fst (by assumption) | split)

end Sys2Proof.Machine
end

