-- ==== Sys2Proof/Laws/Lead/LaneOps.lean ====
section
/-! SUPPORT. What the operations of Machine/LaneOps.lean keep (State.Leads of Laws/Leads.lean). -/

namespace Sys2Proof.Machine

open Reg

theorem State.leads_failStage {fl ot : Bool} {r s : State} (h : r.Leads fl ot s) (port : Nat) (pads : Nat) : r.Leads fl
    ot (State.failStage s port pads) := by
  unfold State.failStage
  extract_lets -merge -underBinder +onlyGivenNames x0
  try clear_value x0
  extract_lets -merge -underBinder +onlyGivenNames x1
  try clear_value x1
  extract_lets -merge -underBinder +onlyGivenNames x2
  try clear_value x2
  extract_lets -merge -underBinder +onlyGivenNames x3
  try clear_value x3
  extract_lets -merge -underBinder +onlyGivenNames x4
  try clear_value x4
  extract_lets -merge -underBinder +onlyGivenNames x5
  have hx5 : r.Leads fl ot x5 := State.leads_wr (State.leads_count (State.leads_wr h _ _ _) _ _) _ _ _
  clear_value x5
  extract_lets -merge -underBinder +onlyGivenNames x6
  have hx6 : r.Leads fl ot x6 := State.leads_wr hx5 _ _ _
  clear_value x6
  refine State.leads_ite ?_ ?_
  · exact State.leads_setLanes hx6 _ _
  · refine State.leads_ite ?_ ?_
    · extract_lets -merge -underBinder +onlyGivenNames x7
      try clear_value x7
      extract_lets -merge -underBinder +onlyGivenNames x8
      have hx8 : r.Leads fl ot x8 := State.leads_wr (State.leads_wrBit hx6 _ _ _ _) _ _ _
      clear_value x8
      exact State.leads_setLanes (State.leads_wr hx8 _ _ _) _ _
    · exact State.leads_raise (State.leads_setLanes hx6 _ _) _ _

theorem State.leads_startLanes {fl ot : Bool} {r s : State} (h : r.Leads fl ot s) (port : Nat) : r.Leads fl ot
    (State.startLanes s port) := by
  unfold State.startLanes
  extract_lets -merge -underBinder +onlyGivenNames x0
  try clear_value x0
  extract_lets -merge -underBinder +onlyGivenNames x1
  try clear_value x1
  extract_lets -merge -underBinder +onlyGivenNames x2
  have hx2 : r.Leads fl ot x2 := State.leads_wr (State.leads_wr h _ _ _) _ _ _
  clear_value x2
  extract_lets -merge -underBinder +onlyGivenNames x3
  have hx3 : r.Leads fl ot x3 := (by
      unfold x3
      refine State.leads_foldl ?_ _ _ fun x4 y4 hx4 => ?_
      · exact hx2
      extract_lets -merge -underBinder +onlyGivenNames x5
      try clear_value x5
      extract_lets -merge -underBinder +onlyGivenNames x6
      have hx6 : r.Leads fl ot x6 := State.leads_wr (State.leads_wr hx4 _ _ _) _ _ _
      clear_value x6
      exact State.leads_wr (State.leads_maskPad hx6 _ _ _) _ _ _)
  clear_value x3
  exact State.leads_setLanes hx3 _ _

theorem State.leads_setMode {fl ot : Bool} {r s : State} (h : r.Leads fl ot s) (port : Nat) (mode : Nat) : r.Leads fl
    ot (State.setMode s port mode) := by
  unfold State.setMode
  refine State.leads_ite ?_ ?_
  · exact h
  · extract_lets -merge -underBinder +onlyGivenNames x0
    try clear_value x0
    extract_lets -merge -underBinder +onlyGivenNames x1
    have hx1 : r.Leads fl ot x1 := State.leads_setLanes h _ _
    clear_value x1
    extract_lets -merge -underBinder +onlyGivenNames x2
    have hx2 : r.Leads fl ot x2 := State.leads_when hx1 _ _ (fun x3 hx3 => State.leads_linkLost hx3 _ _)
    clear_value x2
    extract_lets -merge -underBinder +onlyGivenNames x4
    have hx4 : r.Leads fl ot x4 := State.leads_wr (State.leads_wr (State.leads_wr hx2 _ _ _) _ _ _) _ _ _
    clear_value x4
    extract_lets -merge -underBinder +onlyGivenNames x5
    have hx5 : r.Leads fl ot x5 := State.leads_wr (State.leads_wr hx4 _ _ _) _ _ _
    clear_value x5
    exact State.leads_portEvent (State.leads_startLanes hx5 _) _ _

theorem State.leads_restartLanes {fl ot : Bool} {r s : State} (h : r.Leads fl ot s) (port : Nat) : r.Leads fl ot
    (State.restartLanes s port) := by
  unfold State.restartLanes
  extract_lets -merge -underBinder +onlyGivenNames x0
  try clear_value x0
  extract_lets -merge -underBinder +onlyGivenNames x1
  have hx1 : r.Leads fl ot x1 := State.leads_setLanes h _ _
  clear_value x1
  extract_lets -merge -underBinder +onlyGivenNames x2
  have hx2 : r.Leads fl ot x2 := State.leads_when hx1 _ _ (fun x3 hx3 => State.leads_linkLost hx3 _ _)
  clear_value x2
  exact State.leads_startLanes hx2 _

theorem State.leads_stdRetrain {fl ot : Bool} {r s : State} (h : r.Leads fl ot s) (p : Page) : r.Leads fl ot
    (State.stdRetrain s p) := by
  unfold State.stdRetrain
  split
  · exact State.leads_foldl h _ _ fun x0 y0 hx0 => State.leads_when hx0 _ _ (fun x1 hx1 => State.leads_raise
        (State.leads_wr (State.leads_wr hx1 _ _ _) _ _ _) _ _)
  · exact State.leads_startTrain h _
  · exact State.leads_when h _ _ (fun x2 hx2 => State.leads_setSs hx2 _ _)
  · exact State.leads_lineState h _ _
  · exact h

end Sys2Proof.Machine
end

