-- ==== Sys2Proof/Laws/Lead/PdOps.lean ====
section
/-! SUPPORT. What the operations of Machine/PdOps.lean keep (State.Leads of Laws/Leads.lean). -/

namespace Sys2Proof.Machine

open Reg

theorem State.leads_pdSend {fl ot : Bool} {r s : State} (h : r.Leads fl ot s) (n : Nat) (sop : Nat) (m : PdMsg) :
    r.Leads fl ot (State.pdSend s n sop m) := by
  unfold State.pdSend
  exact State.leads_send (State.leads_wr (State.leads_mk h ..) _ _ _) _

theorem State.leads_pdStep {fl ot : Bool} {r s : State} (h : r.Leads fl ot s) (n : Nat) (st : Nat) : r.Leads fl ot
    (State.pdStep s n st) := by
  unfold State.pdStep
  exact State.leads_wr (State.leads_wr h _ _ _) _ _ _

theorem State.leads_pdPhase {fl ot : Bool} {r s : State} (h : r.Leads fl ot s) (n : Nat) (ph : Nat) : r.Leads fl ot
    (State.pdPhase s n ph) := by
  unfold State.pdPhase
  exact State.leads_wr h _ _ _

theorem State.leads_pdIdle {fl ot : Bool} {r s : State} (h : r.Leads fl ot s) (n : Nat) : r.Leads fl ot (State.pdIdle s
    n) := by
  unfold State.pdIdle
  extract_lets -merge -underBinder +onlyGivenNames x0
  have hx0 : r.Leads fl ot x0 := State.leads_pdPhase (State.leads_pdStep h _ _) _ _
  clear_value x0
  exact State.leads_when hx0 _ _ (fun x1 hx1 => State.leads_wr hx1 _ _ _)

theorem State.leads_dropMode {fl ot : Bool} {r s : State} (h : r.Leads fl ot s) (n : Nat) : r.Leads fl ot
    (State.dropMode s n) := by
  unfold State.dropMode
  exact State.leads_ite h (State.leads_ite (State.leads_setMode (State.leads_wr h _ _ _) _ _) (State.leads_when h _ _
      (fun x0 hx0 => State.leads_restartLanes hx0 _)))

theorem State.leads_pdDisarm {fl ot : Bool} {r s : State} (h : r.Leads fl ot s) (n : Nat) : r.Leads fl ot
    (State.pdDisarm s n) := by
  unfold State.pdDisarm
  exact State.leads_wr (State.leads_wr h _ _ _) _ _ _

theorem State.leads_errRecovery {fl ot : Bool} {r s : State} (h : r.Leads fl ot s) (n : Nat) : r.Leads fl ot
    (State.errRecovery s n) := by
  unfold State.errRecovery
  extract_lets -merge -underBinder +onlyGivenNames x0
  try clear_value x0
  extract_lets -merge -underBinder +onlyGivenNames x1
  have hx1 : r.Leads fl ot x1 := State.leads_discharge (State.leads_vconnOff (State.leads_endClose
      (State.leads_openBoth h _) _ _) _) _
  clear_value x1
  extract_lets -merge -underBinder +onlyGivenNames x2
  have hx2 : r.Leads fl ot x2 := State.leads_dropMode (State.leads_pdDisarm (State.leads_pdVoid
      (State.leads_voidContract hx1 _ _) _) _) _
  clear_value x2
  extract_lets -merge -underBinder +onlyGivenNames x3
  have hx3 : r.Leads fl ot x3 := State.leads_wr (State.leads_wr (State.leads_wr hx2 _ _ _) _ _ _) _ _ _
  clear_value x3
  exact State.leads_raise (State.leads_pdStep (State.leads_pdPhase (State.leads_wr hx3 _ _ _) _ _) _ _) _ _

theorem State.leads_askSafe {fl ot : Bool} {r s : State} (h : r.Leads fl ot s) (n : Nat) (cmd : Nat) (w1 : Nat) (w2 :
    Nat) (w3 : Nat) : r.Leads fl ot (State.askSafe s n cmd w1 w2 w3) := by
  unfold State.askSafe
  exact State.leads_safeReq h _

theorem State.leads_takeRole {fl ot : Bool} {r s : State} (h : r.Leads fl ot s) (n : Nat) (source : Bool) : r.Leads fl
    ot (State.takeRole s n source) := by
  unfold State.takeRole
  extract_lets -merge -underBinder +onlyGivenNames x0
  try clear_value x0
  extract_lets -merge -underBinder +onlyGivenNames x1
  try clear_value x1
  exact State.leads_wr (State.leads_wr (State.leads_wr h _ _ _) _ _ _) _ _ _

theorem State.leads_hrVconn {fl ot : Bool} {r s : State} (h : r.Leads fl ot s) (n : Nat) : r.Leads fl ot (State.hrVconn
    s n) := by
  unfold State.hrVconn
  exact State.leads_ite (State.leads_vconnOff h _) (State.leads_ite (State.leads_wr h _ _ _) (State.leads_askSafe h _ _
      _ _ _))

theorem State.leads_setSupply {fl ot : Bool} {r s : State} (h : r.Leads fl ot s) (n : Nat) (mv : Nat) : r.Leads fl ot
    (State.setSupply s n mv) := by
  unfold State.setSupply
  exact State.leads_send (State.leads_wr h _ _ _) _

theorem State.leads_hardReset {fl ot : Bool} {r s : State} (h : r.Leads fl ot s) (n : Nat) (sent : Bool) : r.Leads fl
    ot (State.hardReset s n sent) := by
  unfold State.hardReset
  extract_lets -merge -underBinder +onlyGivenNames x0
  try clear_value x0
  extract_lets -merge -underBinder +onlyGivenNames x1
  try clear_value x1
  refine State.leads_ite ?_ ?_
  · exact h
  · extract_lets -merge -underBinder +onlyGivenNames x2
    try clear_value x2
    extract_lets -merge -underBinder +onlyGivenNames x3
    try clear_value x3
    extract_lets -merge -underBinder +onlyGivenNames x4
    try clear_value x4
    extract_lets -merge -underBinder +onlyGivenNames x5
    have hx5 : r.Leads fl ot x5 := State.leads_count (State.leads_wr h _ _ _) _ _
    clear_value x5
    extract_lets -merge -underBinder +onlyGivenNames x6
    have hx6 : r.Leads fl ot x6 := State.leads_wr (State.leads_wr (State.leads_wr hx5 _ _ _) _ _ _) _ _ _
    clear_value x6
    extract_lets -merge -underBinder +onlyGivenNames x7
    have hx7 : r.Leads fl ot x7 := State.leads_when (State.leads_raise hx6 _ _) _ _ (fun x8 hx8 => State.leads_raise
        hx8 _ _)
    clear_value x7
    extract_lets -merge -underBinder +onlyGivenNames x9
    have hx9 : r.Leads fl ot x9 := State.leads_dropMode (State.leads_pdDisarm (State.leads_wr (State.leads_wr
        (State.leads_wr hx7 _ _ _) _ _ _) _ _ _) _) _
    clear_value x9
    extract_lets -merge -underBinder +onlyGivenNames x10
    have hx10 : r.Leads fl ot x10 := State.leads_wr (State.leads_wr (State.leads_pdVoid hx9 _) _ _ _) _ _ _
    clear_value x10
    extract_lets -merge -underBinder +onlyGivenNames x11
    have hx11 : r.Leads fl ot x11 := State.leads_hrVconn (State.leads_pdPhase (State.leads_wr hx10 _ _ _) _ _) _
    clear_value x11
    extract_lets -merge -underBinder +onlyGivenNames x12
    have hx12 : r.Leads fl ot x12 := State.leads_endClose (State.leads_takeRole hx11 _ _) _ _
    clear_value x12
    extract_lets -merge -underBinder +onlyGivenNames x13
    have hx13 : r.Leads fl ot x13 := State.leads_voidContract hx12 _ _
    clear_value x13
    refine State.leads_ite ?_ ?_
    · refine State.leads_ite ?_ ?_
      · exact State.leads_errRecovery hx13 _
      · extract_lets -merge -underBinder +onlyGivenNames x14
        have hx14 : r.Leads fl ot x14 := State.leads_when (State.leads_openBoth hx13 _) _ _ (fun x15 hx15 =>
            State.leads_discharge hx15 _)
        clear_value x14
        exact State.leads_pdStep (State.leads_setSupply hx14 _ _) _ _
    · extract_lets -merge -underBinder +onlyGivenNames z16_0 x16
      have hx16 : r.Leads fl ot x16 := (by
          unfold x16
          refine State.leads_ite ?_ ?_
          · exact State.leads_discharge (State.leads_openBoth hx13 _) _
          · extract_lets -merge -underBinder +onlyGivenNames x17
            try clear_value x17
            exact State.leads_when hx13 _ _ (fun x18 hx18 => State.leads_openBoth hx18 _))
      clear_value x16
      exact State.leads_pdStep (State.leads_askSafe hx16 _ _ _ _ _) _ _

theorem State.leads_takeMode {fl ot : Bool} {r s : State} (h : r.Leads fl ot s) (n : Nat) (m : Nat) : r.Leads fl ot
    (State.takeMode s n m) := by
  unfold State.takeMode
  extract_lets -merge -underBinder +onlyGivenNames x0
  have hx0 : r.Leads fl ot x0 := State.leads_wr h _ _ _
  clear_value x0
  exact State.leads_ite hx0 (State.leads_setMode (State.leads_wr hx0 _ _ _) _ _)

theorem State.leads_enterNext {fl ot : Bool} {r s : State} (h : r.Leads fl ot s) (n : Nat) : r.Leads fl ot
    (State.enterNext s n) := by
  unfold State.enterNext
  extract_lets -merge -underBinder +onlyGivenNames x0
  try clear_value x0
  extract_lets -merge -underBinder +onlyGivenNames x1
  try clear_value x1
  refine State.leads_ite ?_ ?_
  · exact State.leads_takeMode h _ _
  · refine State.leads_ite ?_ ?_
    · exact State.leads_pdStep h _ _
    · refine State.leads_ite ?_ ?_
      · exact State.leads_pdIdle (State.leads_takeMode h _ _) _
      · extract_lets -merge -underBinder +onlyGivenNames x2
        have hx2 : r.Leads fl ot x2 := State.leads_wr h _ _ _
        clear_value x2
        exact State.leads_ite (State.leads_pdStep (State.leads_pdSend hx2 _ _ _) _ _) (State.leads_pdStep
            (State.leads_pdSend hx2 _ _ _) _ _)

theorem State.leads_strike {fl ot : Bool} {r s : State} (h : r.Leads fl ot s) (n : Nat) (m : Nat) : r.Leads fl ot
    (State.strike s n m) := by
  unfold State.strike
  exact State.leads_enterNext (State.leads_wrBit h _ _ _ _) _

theorem State.leads_modeFailed {fl ot : Bool} {r s : State} (h : r.Leads fl ot s) (n : Nat) : r.Leads fl ot
    (State.modeFailed s n) := by
  unfold State.modeFailed
  exact State.leads_when h _ _ (fun x0 hx0 => State.leads_strike hx0 _ _)

theorem State.leads_pdNote {fl ot : Bool} {r s : State} (h : r.Leads fl ot s) (n : Nat) (pos : Nat) (p : Nat) (v : Nat)
    (i : Nat) : r.Leads fl ot (State.pdNote s n pos p v i) := by
  unfold State.pdNote
  extract_lets -merge -underBinder +onlyGivenNames x0
  try clear_value x0
  extract_lets -merge -underBinder +onlyGivenNames x1
  have hx1 : r.Leads fl ot x1 := State.leads_wr (State.leads_wr (State.leads_wr (State.leads_wr h _ _ _) _ _ _) _ _ _)
      _ _ _
  clear_value x1
  exact State.leads_wr (State.leads_wr hx1 _ _ _) _ _ _

theorem State.leads_sendRequest {fl ot : Bool} {r s : State} (h : r.Leads fl ot s) (n : Nat) : r.Leads fl ot
    (State.sendRequest s n) := by
  unfold State.sendRequest
  split
  · extract_lets -merge -underBinder +onlyGivenNames x0
    try clear_value x0
    extract_lets -merge -underBinder +onlyGivenNames x1
    try clear_value x1
    exact State.leads_pdStep (State.leads_pdSend (State.leads_wr (State.leads_wr (State.leads_pdNote h _ _ _ _ _) _ _
        _) _ _ _) _ _ _) _ _
  · exact State.leads_pdIdle (State.leads_when (State.leads_raise h _ _) _ _ (fun x2 hx2 => State.leads_pdDisarm hx2
        _)) _

theorem State.leads_askContract {fl ot : Bool} {r s : State} (h : r.Leads fl ot s) (n : Nat) (phase : Nat) : r.Leads fl
    ot (State.askContract s n phase) := by
  unfold State.askContract
  extract_lets -merge -underBinder +onlyGivenNames x0
  try clear_value x0
  exact State.leads_askSafe h _ _ _ _ _

theorem State.leads_rebudget {fl ot : Bool} {r s : State} (h : r.Leads fl ot s) : r.Leads fl ot (State.rebudget s) := by
  unfold State.rebudget
  refine State.leads_foldl ?_ _ _ fun x0 y0 hx0 => ?_
  · exact h
  extract_lets -merge -underBinder +onlyGivenNames x1
  try clear_value x1
  exact State.leads_when hx0 _ _ (fun x2 hx2 => State.leads_wrBit (State.leads_wr (State.leads_wr hx2 _ _ _) _ _ _) _ _
      _ _)

theorem State.leads_discover {fl ot : Bool} {r s : State} (h : r.Leads fl ot s) (n : Nat) : r.Leads fl ot
    (State.discover s n) := by
  unfold State.discover
  extract_lets -merge -underBinder +onlyGivenNames x0
  have hx0 : r.Leads fl ot x0 := State.leads_wr h _ _ _
  clear_value x0
  exact State.leads_ite (State.leads_pdStep (State.leads_pdSend hx0 _ _ _) _ _) (State.leads_pdStep
      (State.leads_pdPhase (State.leads_pdSend hx0 _ _ _) _ _) _ _)

theorem State.leads_contractDone {fl ot : Bool} {r s : State} (h : r.Leads fl ot s) (n : Nat) : r.Leads fl ot
    (State.contractDone s n) := by
  unfold State.contractDone
  extract_lets -merge -underBinder +onlyGivenNames x0
  try clear_value x0
  extract_lets -merge -underBinder +onlyGivenNames x1
  have hx1 : r.Leads fl ot x1 := State.leads_askContract h _ _
  clear_value x1
  extract_lets -merge -underBinder +onlyGivenNames x2
  have hx2 : r.Leads fl ot x2 := State.leads_wr (State.leads_wr (State.leads_wr hx1 _ _ _) _ _ _) _ _ _
  clear_value x2
  extract_lets -merge -underBinder +onlyGivenNames x3
  have hx3 : r.Leads fl ot x3 := State.leads_wr (State.leads_wr (State.leads_wr hx2 _ _ _) _ _ _) _ _ _
  clear_value x3
  extract_lets -merge -underBinder +onlyGivenNames x4
  have hx4 : r.Leads fl ot x4 := State.leads_wr (State.leads_wr hx3 _ _ _) _ _ _
  clear_value x4
  extract_lets -merge -underBinder +onlyGivenNames x5
  have hx5 : r.Leads fl ot x5 := State.leads_wr (State.leads_wr (State.leads_wr hx4 _ _ _) _ _ _) _ _ _
  clear_value x5
  extract_lets -merge -underBinder +onlyGivenNames x6
  have hx6 : r.Leads fl ot x6 := State.leads_when hx5 _ _ (fun x7 hx7 => State.leads_appliedPage
      (State.leads_applyFields hx7 _ _) _)
  clear_value x6
  extract_lets -merge -underBinder +onlyGivenNames x8
  have hx8 : r.Leads fl ot x8 := State.leads_setInt (State.leads_pdIdle (State.leads_wr hx6 _ _ _) _) _ _
  clear_value x8
  extract_lets -merge -underBinder +onlyGivenNames x9
  have hx9 : r.Leads fl ot x9 := State.leads_when hx8 _ _ (fun x10 hx10 => State.leads_rebudget hx10)
  clear_value x9
  extract_lets -merge -underBinder +onlyGivenNames x11
  have hx11 : r.Leads fl ot x11 := State.leads_when hx9 _ _ (fun x12 hx12 => State.leads_ite (State.leads_wr
      (State.leads_wr hx12 _ _ _) _ _ _) (State.leads_wr hx12 _ _ _))
  clear_value x11
  exact State.leads_ite (State.leads_when hx11 _ _ (fun x13 hx13 => State.leads_enterNext hx13 _))
      (State.leads_discover hx11 _)

theorem State.leads_afterCable {fl ot : Bool} {r s : State} (h : r.Leads fl ot s) (n : Nat) : r.Leads fl ot
    (State.afterCable s n) := by
  unfold State.afterCable
  exact State.leads_ite (State.leads_pdStep (State.leads_pdSend h _ _ _) _ _) (State.leads_pdStep h _ _)

theorem State.leads_pdEndNeg {fl ot : Bool} {r s : State} (h : r.Leads fl ot s) (n : Nat) : r.Leads fl ot
    (State.pdEndNeg s n) := by
  unfold State.pdEndNeg
  exact State.leads_pdIdle (State.leads_wr (State.leads_when h _ _ (fun x0 hx0 => State.leads_pdDisarm hx0 _)) _ _ _) _

theorem State.leads_sendHardReset {fl ot : Bool} {r s : State} (h : r.Leads fl ot s) (n : Nat) : r.Leads fl ot
    (State.sendHardReset s n) := by
  unfold State.sendHardReset
  exact State.leads_ite (State.leads_pdEndNeg h _) (State.leads_hardReset (State.leads_pdSend h _ _ _) _ _)

theorem State.leads_lowerOthers {fl ot : Bool} {r s : State} (h : r.Leads fl ot s) (n k need : Nat) :
    r.Leads fl ot (State.lowerOthers s n k need) := by
  induction k generalizing s need with
  | zero => exact h
  | succ k ih =>
    unfold State.lowerOthers
    extract_lets above ms
    clear_value ms
    split
    · exact h
    · extract_lets k' cut x y
      have hx : r.Leads fl ot x := State.leads_wr (State.leads_wr h _ _ _) _ _ _
      have hy : r.Leads fl ot y := State.leads_wrBit hx _ _ _ _
      clear_value y
      split
      · exact hy
      · exact ih hy _

theorem State.leads_allotPort {fl ot : Bool} {r s : State} (h : r.Leads fl ot s) (n : Nat) : r.Leads fl ot
    (State.allotPort s n) := by
  unfold State.allotPort
  extract_lets -merge -underBinder +onlyGivenNames x0
  try clear_value x0
  extract_lets -merge -underBinder +onlyGivenNames x1
  try clear_value x1
  extract_lets -merge -underBinder +onlyGivenNames x2
  have hx2 : r.Leads fl ot x2 := State.leads_wr h _ _ _
  clear_value x2
  exact State.leads_when hx2 _ _ (fun x3 hx3 => State.leads_lowerOthers hx3 _ _ _)

theorem State.leads_sendCaps {fl ot : Bool} {r s : State} (h : r.Leads fl ot s) (n : Nat) : r.Leads fl ot
    (State.sendCaps s n) := by
  unfold State.sendCaps
  extract_lets -merge -underBinder +onlyGivenNames x0
  try clear_value x0
  extract_lets -merge -underBinder +onlyGivenNames x1
  have hx1 : r.Leads fl ot x1 := State.leads_foldl h _ _ fun x2 y2 hx2 => State.leads_wr hx2 _ _ _
  clear_value x1
  exact State.leads_pdStep (State.leads_pdSend (State.leads_count hx1 _ _) _ _ _) _ _

theorem State.leads_pdRestart {fl ot : Bool} {r s : State} (h : r.Leads fl ot s) (n : Nat) : r.Leads fl ot
    (State.pdRestart s n) := by
  unfold State.pdRestart
  extract_lets -merge -underBinder +onlyGivenNames x0
  try clear_value x0
  extract_lets -merge -underBinder +onlyGivenNames x1
  try clear_value x1
  refine State.leads_ite ?_ ?_
  · exact h
  · extract_lets -merge -underBinder +onlyGivenNames x2
    try clear_value x2
    extract_lets -merge -underBinder +onlyGivenNames x3
    try clear_value x3
    extract_lets -merge -underBinder +onlyGivenNames x4
    have hx4 : r.Leads fl ot x4 := State.leads_takeRole h _ _
    clear_value x4
    extract_lets -merge -underBinder +onlyGivenNames x5
    have hx5 : r.Leads fl ot x5 := (by
        unfold x5
        refine State.leads_when ?_ _ _ (fun x6 hx6 => ?_)
        · exact hx4
        · extract_lets -merge -underBinder +onlyGivenNames x7
          have hx7 : r.Leads fl ot x7 := State.leads_wr (State.leads_wr (State.leads_wr hx6 _ _ _) _ _ _) _ _ _
          clear_value x7
          exact State.leads_wr (State.leads_wr hx7 _ _ _) _ _ _)
    clear_value x5
    extract_lets -merge -underBinder +onlyGivenNames x8
    have hx8 : r.Leads fl ot x8 := State.leads_wr hx5 _ _ _
    clear_value x8
    exact State.leads_ite (State.leads_pdStep (State.leads_count (State.leads_pdSend hx8 _ _ _) _ _) _ _)
        (State.leads_when hx8 _ _ (fun x9 hx9 => State.leads_sendCaps (State.leads_allotPort hx9 _) _))

theorem State.leads_unattach {fl ot : Bool} {r s : State} (h : r.Leads fl ot s) (n : Nat) : r.Leads fl ot
    (State.unattach s n) := by
  unfold State.unattach
  extract_lets -merge -underBinder +onlyGivenNames x0
  try clear_value x0
  extract_lets -merge -underBinder +onlyGivenNames x1
  have hx1 : r.Leads fl ot x1 := State.leads_clearFields (State.leads_pdVoid h _) _ _
  clear_value x1
  extract_lets -merge -underBinder +onlyGivenNames x2
  have hx2 : r.Leads fl ot x2 := State.leads_clearFields hx1 _ _
  clear_value x2
  extract_lets -merge -underBinder +onlyGivenNames x3
  have hx3 : r.Leads fl ot x3 := State.leads_dropMode (State.leads_pdDisarm hx2 _) _
  clear_value x3
  exact State.leads_mk hx3 ..

theorem State.leads_answerRequest {fl ot : Bool} {r s : State} (h : r.Leads fl ot s) (n : Nat) (rdo : Nat) : r.Leads fl
    ot (State.answerRequest s n rdo) := by
  unfold State.answerRequest
  dsimp only
  repeat' (with_reducible first
    | assumption | apply State.leads_askContract | apply State.leads_pdEndNeg | apply State.leads_pdNote
    | apply State.leads_pdSend | apply State.leads_pdStep | apply State.leads_raise | apply State.leads_wr
    | apply State.leads_when | apply State.leads_foldl | intro _ | apply State.leads_ite
    | apply State.leads_of_fst (by assumption) | split)

end Sys2Proof.Machine
end

