-- ==== Sys2Proof/Laws/Lead/Lanes.lean ====
section
/-! SUPPORT. What the operations of Machine/Lanes.lean keep (State.Leads of Laws/Leads.lean). -/

namespace Sys2Proof.Machine

open Reg

theorem State.leads_execEyeRefresh {fl ot : Bool} {r s : State} (h : r.Leads fl ot s) (p : Page) (pad : Nat) (height :
    Nat) (width : Nat) (worst : Nat) : r.LeadsR fl ot (execEyeRefresh p pad height width worst s) := by
  unfold execEyeRefresh
  extract_lets -merge -underBinder +onlyGivenNames x0
  try clear_value x0
  exact State.leadsR_next (State.leads_when h _ _ (fun x1 hx1 => State.leads_wr (State.leads_wr (State.leads_wr hx1 _ _
      _) _ _ _) _ _ _))

theorem State.leads_orientDone {fl ot : Bool} {r s : State} (h : r.Leads fl ot s) (port : Nat) (inv : Nat) (lmap : Nat)
    (ccValid : Bool) (ccFlip : Bool) (mismatch : Bool) : r.Leads fl ot (State.orientDone s port inv lmap ccValid ccFlip
    mismatch) := by
  unfold State.orientDone
  extract_lets -merge -underBinder +onlyGivenNames x0
  try clear_value x0
  extract_lets -merge -underBinder +onlyGivenNames x1
  try clear_value x1
  extract_lets -merge -underBinder +onlyGivenNames x2
  try clear_value x2
  extract_lets -merge -underBinder +onlyGivenNames x3
  have hx3 : r.Leads fl ot x3 := State.leads_wr (State.leads_wr (State.leads_wr (State.leads_wr h _ _ _) _ _ _) _ _ _)
      _ _ _
  clear_value x3
  extract_lets -merge -underBinder +onlyGivenNames x4
  have hx4 : r.Leads fl ot x4 := State.leads_wr (State.leads_wr hx3 _ _ _) _ _ _
  clear_value x4
  refine State.leads_foldl ?_ _ _ fun x5 y5 hx5 => ?_
  · exact hx4
  extract_lets -merge -underBinder +onlyGivenNames x6
  have hx6 : r.Leads fl ot x6 := State.leads_wr hx5 _ _ _
  clear_value x6
  exact State.leads_when hx6 _ _ (fun x7 hx7 => State.leads_wr (State.leads_wr hx7 _ _ _) _ _ _)

theorem State.leads_lanesLost {fl ot : Bool} {r s : State} (h : r.Leads fl ot s) (port : Nat) : r.Leads fl ot
    (State.lanesLost s port) := by
  unfold State.lanesLost
  exact State.leads_restartLanes h _

theorem State.leads_execFarEndRetrain {fl ot : Bool} {r s : State} (h : r.Leads fl ot s) (port : Nat) : r.LeadsR fl ot
    (execFarEndRetrain port s) := by
  unfold execFarEndRetrain
  exact State.leadsR_next (State.leads_when h _ _ (fun x0 hx0 => State.leads_lanesLost hx0 _))

theorem State.leads_execSbuFollowEdge {fl ot : Bool} {r s : State} (h : r.Leads fl ot s) (port : Nat) (stamp : Nat)
    (crcOk : Bool) : r.LeadsR fl ot (execSbuFollowEdge port stamp crcOk s) := by
  unfold execSbuFollowEdge
  exact State.leadsR_next (State.leads_when h _ _ (fun x0 hx0 => State.leads_wr (State.leads_wr hx0 _ _ _) _ _ _))

theorem State.leads_execTsyncStepReq {fl ot : Bool} {r s : State} (h : r.Leads fl ot s) (who : Initiator) (port : Nat)
    : r.LeadsR fl ot (execTsyncStepReq who port s) := by
  unfold execTsyncStepReq
  exact State.leadsR_next (State.leads_access h _ _ _ _ (fun x0 hx0 => State.leads_when hx0 _ _ (fun x1 hx1 =>
      State.leads_wr hx1 _ _ _)))

theorem State.leads_execMarginStart {fl ot : Bool} {r s : State} (h : r.Leads fl ot s) (who : Initiator) (p : Page)
    (pad : Nat) : r.LeadsR fl ot (execMarginStart who p pad s) := by
  unfold execMarginStart
  exact State.leadsR_ite (State.leadsR_next h) (State.leadsR_next (State.leads_access h _ _ _ _ (fun x0 hx0 =>
      State.leads_ite hx0 (State.leads_wr (State.leads_wr (State.leads_wr (State.leads_wr hx0 _ _ _) _ _ _) _ _ _) _ _
      _))))

theorem State.leads_execPadReadd {fl ot : Bool} {r s : State} (h : r.Leads fl ot s) (port : Nat) (pad : Nat) : r.LeadsR
    fl ot (execPadReadd port pad s) := by
  unfold execPadReadd
  extract_lets -merge -underBinder +onlyGivenNames x0
  try clear_value x0
  extract_lets -merge -underBinder +onlyGivenNames x1
  try clear_value x1
  exact State.leadsR_next (State.leads_when h _ _ (fun x2 hx2 => State.leads_wrBit (State.leads_queueLink hx2 _ _) _ _
      _ _))

theorem State.leads_execMarginDone {fl ot : Bool} {r s : State} (h : r.Leads fl ot s) (p : Page) (pad : Nat) (aborted :
    Bool) (errors : Nat) : r.LeadsR fl ot (execMarginDone p pad aborted errors s) := by
  unfold execMarginDone
  refine State.leadsR_ite ?_ ?_
  · exact State.leadsR_next h
  · extract_lets -merge -underBinder +onlyGivenNames x0
    try clear_value x0
    extract_lets -merge -underBinder +onlyGivenNames x1
    have hx1 : r.Leads fl ot x1 := State.leads_wr h _ _ _
    clear_value x1
    exact State.leadsR_ite (State.leadsR_next (State.leads_wr hx1 _ _ _)) (State.leadsR_next (State.leads_wr
        (State.leads_wr hx1 _ _ _) _ _ _))

theorem State.leads_eqLoad {fl ot : Bool} {r s : State} (h : r.Leads fl ot s) (port : Nat) (cls : Nat) : r.Leads fl ot
    (State.eqLoad s port cls) := by
  unfold State.eqLoad
  exact State.leads_eqPads h _ _ _ _ _

theorem State.leads_execPadRecheckDone {fl ot : Bool} {r s : State} (h : r.Leads fl ot s) (port : Nat) (pad : Nat)
    (pass : Bool) : r.LeadsR fl ot (execPadRecheckDone port pad pass s) := by
  unfold execPadRecheckDone
  extract_lets -merge -underBinder +onlyGivenNames x0
  try clear_value x0
  extract_lets -merge -underBinder +onlyGivenNames x1
  try clear_value x1
  exact State.leadsR_ite (State.leadsR_next h) (State.leadsR_ite (State.leadsR_ite (State.leadsR_next
      (State.leads_queueLink h _ _)) (State.leadsR_next (State.leads_recordDrop (State.leads_wrBit
      (State.leads_queueLink h _ _) _ _ _ _) _ _ _))) (State.leadsR_ite (State.leadsR_next (State.leads_dropRxPad h _ _
      _)) (State.leadsR_next h)))

theorem State.leads_execSbuServeFrame {fl ot : Bool} {r s : State} (h : r.Leads fl ot s) (port : Nat) (type : Nat)
    (hops : Nat) (epoch : Nat) (tRx : Nat) (stamp : Nat) (crcOk : Bool) : r.LeadsR fl ot (execSbuServeFrame port type
    hops epoch tRx stamp crcOk s) := by
  unfold execSbuServeFrame
  extract_lets -merge -underBinder +onlyGivenNames x0
  try clear_value x0
  refine State.leadsR_ite ?_ ?_
  · exact State.leadsR_next h
  · refine State.leadsR_ite ?_ ?_
    · exact State.leadsR_next (State.leads_wr h _ _ _)
    · refine State.leadsR_ite ?_ ?_
      · exact State.leadsR_next h
      · extract_lets -merge -underBinder +onlyGivenNames x1
        try clear_value x1
        extract_lets -merge -underBinder +onlyGivenNames x2
        try clear_value x2
        extract_lets -merge -underBinder +onlyGivenNames x3
        try clear_value x3
        extract_lets -merge -underBinder +onlyGivenNames x4
        try clear_value x4
        extract_lets -merge -underBinder +onlyGivenNames x5
        try clear_value x5
        extract_lets -merge -underBinder +onlyGivenNames x6
        have hx6 : r.Leads fl ot x6 := State.leads_wr (State.leads_wr (State.leads_wr (State.leads_wr h _ _ _) _ _ _) _
            _ _) _ _ _
        clear_value x6
        refine State.leadsR_ite ?_ ?_
        · exact State.leadsR_next hx6
        · extract_lets -merge -underBinder +onlyGivenNames x7
          try clear_value x7
          extract_lets -merge -underBinder +onlyGivenNames x8
          try clear_value x8
          exact State.leadsR_next (State.leads_actOffset hx6 _ _)

theorem State.leads_execLnCntClr {fl ot : Bool} {r s : State} (h : r.Leads fl ot s) (who : Initiator) (p : Page) :
    r.LeadsR fl ot (execLnCntClr who p s) := by
  unfold execLnCntClr
  exact State.leadsR_ite (State.leadsR_next h) (State.leadsR_next (State.leads_access h _ _ _ _ (fun x0 hx0 =>
      State.leads_foldl hx0 _ _ fun x1 y1 hx1 => State.leads_wr (State.leads_wr (State.leads_wr hx1 _ _ _) _ _ _) _ _
      _)))

theorem State.leads_execModeChange {fl ot : Bool} {r s : State} (h : r.Leads fl ot s) (who : Initiator) (port : Nat)
    (mode : Nat) : r.LeadsR fl ot (execModeChange who port mode s) := by
  unfold execModeChange
  exact State.leadsR_next (State.leads_access h _ _ _ _ (fun x0 hx0 => State.leads_setMode (State.leads_wr hx0 _ _ _) _
      _))

theorem State.leads_rttDone {fl ot : Bool} {r s : State} (h : r.Leads fl ot s) (port : Nat) (markers : List (Nat × Nat
    × Nat)) (farPipe : Nat) (farFollows : Bool) : r.Leads fl ot (State.rttDone s port markers farPipe farFollows) := by
  unfold State.rttDone
  extract_lets -merge -underBinder +onlyGivenNames x0
  try clear_value x0
  extract_lets -merge -underBinder +onlyGivenNames x1
  try clear_value x1
  refine State.leads_ite ?_ ?_
  · exact State.leads_failStage h _ _
  · extract_lets -merge -underBinder +onlyGivenNames x2
    have hx2 : r.Leads fl ot x2 := State.leads_wr (State.leads_wr (State.leads_wr (State.leads_wr h _ _ _) _ _ _) _ _
        _) _ _ _
    clear_value x2
    extract_lets -merge -underBinder +onlyGivenNames x3
    have hx3 : r.Leads fl ot x3 := State.leads_when hx2 _ _ (fun x4 hx4 => State.leads_raise hx4 _ _)
    clear_value x3
    extract_lets -merge -underBinder +onlyGivenNames x5
    try clear_value x5
    extract_lets -merge -underBinder +onlyGivenNames x6
    have hx6 : r.Leads fl ot x6 := State.leads_wr hx3 _ _ _
    clear_value x6
    refine State.leads_ite ?_ ?_
    · extract_lets -merge -underBinder +onlyGivenNames x7
      have hx7 : r.Leads fl ot x7 := State.leads_when hx6 _ _ (fun x8 hx8 => State.leads_raise (State.leads_wr hx8 _ _
          _) _ _)
      clear_value x7
      exact State.leads_enterActive hx7 _
    · exact State.leads_ite (State.leads_enterActive hx6 _) (State.leads_setLanes hx6 _ _)

theorem State.leads_execTrainStageDone {fl ot : Bool} {r s : State} (h : r.Leads fl ot s) (port : Nat) (out : StageOut)
    : r.LeadsR fl ot (execTrainStageDone port out s) := by
  unfold execTrainStageDone
  extract_lets -merge -underBinder +onlyGivenNames x0
  try clear_value x0
  extract_lets -merge -underBinder +onlyGivenNames x1
  try clear_value x1
  refine State.leadsR_next ?_
  split
  · exact State.leads_when h _ _ (fun x2 hx2 => State.leads_setLanes (State.leads_wr (State.leads_wr hx2 _ _ _) _ _ _)
        _ _)
  · exact State.leads_when h _ _ (fun x3 hx3 => State.leads_setLanes (State.leads_orientDone hx3 _ _ _ _ _ _) _ _)
  · exact State.leads_when h _ _ (fun x4 hx4 => State.leads_setLanes (State.leads_eqLoad hx4 _ _) _ _)
  · refine State.leads_when ?_ _ _ (fun x5 hx5 => ?_)
    · exact h
    · extract_lets -merge -underBinder +onlyGivenNames x6
      have hx6 : r.Leads fl ot x6 := (by
          unfold x6
          refine State.leads_foldl ?_ _ _ fun x7 y7 hx7 => ?_
          · exact hx5
          split
          · refine State.leads_ite ?_ ?_
            · extract_lets -merge -underBinder +onlyGivenNames x8
              have hx8 : r.Leads fl ot x8 := State.leads_wr (State.leads_wr (State.leads_wr hx7 _ _ _) _ _ _) _ _ _
              clear_value x8
              exact State.leads_wr (State.leads_wr hx8 _ _ _) _ _ _
            · exact State.leads_ite (State.leads_wr (State.leads_wr hx7 _ _ _) _ _ _) hx7)
      clear_value x6
      exact State.leads_setLanes (State.leads_wr hx6 _ _ _) _ _
  · exact State.leads_when h _ _ (fun x9 hx9 => State.leads_rttDone hx9 _ _ _ _)
  · exact State.leads_when h _ _ (fun x10 hx10 => State.leads_enterActive hx10 _)

theorem State.leads_padEvent {fl ot : Bool} {r s : State} (h : r.Leads fl ot s) (p : Page) (pad : Nat) (kind : Nat) :
    r.Leads fl ot (State.padEvent s p pad kind) := by
  unfold State.padEvent
  extract_lets -merge -underBinder +onlyGivenNames x0
  try clear_value x0
  extract_lets -merge -underBinder +onlyGivenNames x1
  try clear_value x1
  extract_lets -merge -underBinder +onlyGivenNames x2
  try clear_value x2
  extract_lets -merge -underBinder +onlyGivenNames x3
  try clear_value x3
  extract_lets -merge -underBinder +onlyGivenNames x4
  try clear_value x4
  refine State.leads_ite ?_ ?_
  · exact h
  · refine State.leads_ite ?_ ?_
    · extract_lets -merge -underBinder +onlyGivenNames x5
      have hx5 : r.Leads fl ot x5 := State.leads_wr (State.leads_count (State.leads_wr h _ _ _) _ _) _ _ _
      clear_value x5
      extract_lets -merge -underBinder +onlyGivenNames x6
      have hx6 : r.Leads fl ot x6 := State.leads_wr hx5 _ _ _
      clear_value x6
      exact State.leads_when hx6 _ _ (fun x7 hx7 => State.leads_wr hx7 _ _ _)
    · refine State.leads_ite ?_ ?_
      · exact h
      · refine State.leads_ite ?_ ?_
        · exact h
        · extract_lets -merge -underBinder +onlyGivenNames x8
          have hx8 : r.Leads fl ot x8 := State.leads_wr h _ _ _
          clear_value x8
          extract_lets -merge -underBinder +onlyGivenNames x9
          have hx9 : r.Leads fl ot x9 := State.leads_wr hx8 _ _ _
          clear_value x9
          refine State.leads_ite ?_ ?_
          · exact State.leads_modeFailed (State.leads_failStage (State.leads_count hx9 _ _) _ _) _
          · refine State.leads_ite ?_ ?_
            · extract_lets -merge -underBinder +onlyGivenNames x10
              have hx10 : r.Leads fl ot x10 := State.leads_raise (State.leads_count hx9 _ _) _ _
              clear_value x10
              exact State.leads_ite (State.leads_lineState hx10 _ _) (State.leads_ite hx10 (State.leads_ite
                  (State.leads_lanesLost hx10 _) (State.leads_dropRxPad hx10 _ _ _)))
            · exact hx9

theorem State.leads_execLol {fl ot : Bool} {r s : State} (h : r.Leads fl ot s) (p : Page) (pad : Nat) : r.LeadsR fl ot
    (execLol p pad s) := by
  unfold execLol
  exact State.leadsR_next (State.leads_ite (State.leads_padEvent h _ _ _) h)

theorem State.leads_execRetrain {fl ot : Bool} {r s : State} (h : r.Leads fl ot s) (who : Initiator) (p : Page) :
    r.LeadsR fl ot (execRetrain who p s) := by
  unfold execRetrain
  exact State.leadsR_ite (State.leadsR_next h) (State.leadsR_next (State.leads_access h _ _ _ _ (fun x0 hx0 =>
      State.leads_ite (State.leads_ite hx0 (State.leads_restartLanes hx0 _)) (State.leads_stdRetrain hx0 _))))

theorem State.leads_execRetryWaitExpiry {fl ot : Bool} {r s : State} (h : r.Leads fl ot s) (port : Nat) : r.LeadsR fl
    ot (execRetryWaitExpiry port s) := by
  unfold execRetryWaitExpiry
  exact State.leadsR_next (State.leads_when h _ _ (fun x0 hx0 => State.leads_startLanes hx0 _))

theorem State.leads_execLosRelease {fl ot : Bool} {r s : State} (h : r.Leads fl ot s) (p : Page) (pad : Nat) : r.LeadsR
    fl ot (execLosRelease p pad s) := by
  unfold execLosRelease
  exact State.leadsR_next (State.leads_ite (State.leads_wr h _ _ _) h)

theorem State.leads_execCodewordFramingLost {fl ot : Bool} {r s : State} (h : r.Leads fl ot s) (port : Nat) (pad : Nat)
    : r.LeadsR fl ot (execCodewordFramingLost port pad s) := by
  unfold execCodewordFramingLost
  exact State.leadsR_next (State.leads_when h _ _ (fun x0 hx0 => State.leads_padEvent hx0 _ _ _))

theorem State.leads_execTrainStageFail {fl ot : Bool} {r s : State} (h : r.Leads fl ot s) (port : Nat) (pads : Nat) :
    r.LeadsR fl ot (execTrainStageFail port pads s) := by
  unfold execTrainStageFail
  extract_lets -merge -underBinder +onlyGivenNames x0
  try clear_value x0
  exact State.leadsR_next (State.leads_when h _ _ (fun x1 hx1 => State.leads_modeFailed (State.leads_failStage hx1 _ _)
      _))

theorem State.leads_execLos {fl ot : Bool} {r s : State} (h : r.Leads fl ot s) (p : Page) (pad : Nat) : r.LeadsR fl ot
    (execLos p pad s) := by
  unfold execLos
  exact State.leadsR_next (State.leads_ite (State.leads_padEvent h _ _ _) h)

theorem State.leads_execFollowEdgeSend {fl ot : Bool} {r s : State} (h : r.Leads fl ot s) (port : Nat) : r.LeadsR fl ot
    (execFollowEdgeSend port s) := by
  unfold execFollowEdgeSend
  extract_lets -merge -underBinder +onlyGivenNames x0
  try clear_value x0
  extract_lets -merge -underBinder +onlyGivenNames x1
  try clear_value x1
  refine State.leadsR_ite ?_ ?_
  · exact State.leadsR_next h
  · extract_lets -merge -underBinder +onlyGivenNames x2
    try clear_value x2
    extract_lets -merge -underBinder +onlyGivenNames x3
    try clear_value x3
    extract_lets -merge -underBinder +onlyGivenNames x4
    try clear_value x4
    extract_lets -merge -underBinder +onlyGivenNames x5
    have hx5 : r.Leads fl ot x5 := State.leads_wr (State.leads_wr (State.leads_wr (State.leads_wr h _ _ _) _ _ _) _ _
        _) _ _ _
    clear_value x5
    extract_lets -merge -underBinder +onlyGivenNames x6
    have hx6 : r.Leads fl ot x6 := State.leads_when hx5 _ _ (fun x7 hx7 => State.leads_wr hx7 _ _ _)
    clear_value x6
    extract_lets -merge -underBinder +onlyGivenNames x8
    have hx8 : r.Leads fl ot x8 := State.leads_when hx6 _ _ (fun x9 hx9 => State.leads_loseSync hx9 _)
    clear_value x8
    exact State.leadsR_next (State.leads_send hx8 _)

end Sys2Proof.Machine
end

