-- ==== Sys2Proof/Laws/Lead/Link.lean ====
section
/-! SUPPORT. What the operations of Machine/Link.lean keep (State.Leads of Laws/Leads.lean). -/

namespace Sys2Proof.Machine

open Reg

theorem State.leads_execAddReqRx {fl ot : Bool} {r s : State} (h : r.Leads fl ot s) (port : Nat) (lmask : Nat) (dir :
    Nat) : r.LeadsR fl ot (execAddReqRx port lmask dir s) := by
  unfold execAddReqRx
  extract_lets -merge -underBinder +onlyGivenNames x0
  try clear_value x0
  refine State.leadsR_ite ?_ ?_
  · exact State.leadsR_next h
  · refine State.leadsR_ite ?_ ?_
    · exact State.leadsR_next (State.leads_queueLink h _ _)
    · extract_lets -merge -underBinder +onlyGivenNames x1
      try clear_value x1
      exact State.leadsR_next (State.leads_foldl h _ _ fun x2 y2 hx2 => State.leads_wrBit hx2 _ _ _ _)

theorem State.leads_execPacketRx {fl ot : Bool} {r s : State} (h : r.Leads fl ot s) (port : Nat) (ty : Nat) (hcrc :
    Bool) (p : Pkt) (pb : Option Nat) : r.LeadsR fl ot (execPacketRx port ty hcrc p pb s) := by
  unfold execPacketRx
  extract_lets -merge -underBinder +onlyGivenNames x0
  try clear_value x0
  refine State.leadsR_ite ?_ ?_
  · exact State.leadsR_next h
  · refine State.leadsR_ite ?_ ?_
    · extract_lets -merge -underBinder +onlyGivenNames x1
      have hx1 : r.Leads fl ot x1 := State.leads_raise (State.leads_count h _ _) _ _
      clear_value x1
      refine State.leadsR_ite ?_ ?_
      · exact State.leadsR_next hx1
      · extract_lets -merge -underBinder +onlyGivenNames x2
        have hx2 : r.Leads fl ot x2 := State.leads_when hx1 _ _ (fun x3 hx3 => State.leads_gap hx3 _)
        clear_value x2
        exact State.leadsR_next (State.leads_when hx2 _ _ (fun x4 hx4 => State.leads_wr hx4 _ _ _))
    · refine State.leadsR_ite ?_ ?_
      · exact State.leadsR_next (State.leads_dataRx (State.leads_count h _ _) _ _ _ _)
      · refine State.leadsR_ite ?_ ?_
        · exact State.leadsR_next h
        · extract_lets -merge -underBinder +onlyGivenNames x5
          try clear_value x5
          extract_lets -merge -underBinder +onlyGivenNames x6
          have hx6 : r.Leads fl ot x6 := (by
              unfold x6
              refine State.leads_ite ?_ ?_
              · split
                · exact State.leads_ackUpTo h _ _
                · exact h
              · exact h)
          clear_value x6
          refine State.leadsR_ite ?_ ?_
          · extract_lets -merge -underBinder +onlyGivenNames x7
            have hx7 : r.Leads fl ot x7 := State.leads_acceptSeq hx6 _
            clear_value x7
            exact State.leadsR_next (State.leads_ite (State.leads_dataRx hx7 _ _ _ _) (State.leads_ctrlRx hx7 _ _))
          · exact State.leadsR_ite (State.leadsR_next (State.leads_when (State.leads_count hx6 _ _) _ _ (fun x8 hx8 =>
                State.leads_gap hx8 _))) (State.leadsR_next (State.leads_wr (State.leads_count hx6 _ _) _ _ _))

theorem State.leads_execLpExitDone {fl ot : Bool} {r s : State} (h : r.Leads fl ot s) (port : Nat) : r.LeadsR fl ot
    (execLpExitDone port s) := by
  unfold execLpExitDone
  extract_lets -merge -underBinder +onlyGivenNames x0
  try clear_value x0
  refine State.leadsR_next ?_
  refine State.leads_when ?_ _ _ (fun x1 hx1 => ?_)
  · exact h
  · extract_lets -merge -underBinder +onlyGivenNames x2
    have hx2 : r.Leads fl ot x2 := State.leads_wr (State.leads_wr hx1 _ _ _) _ _ _
    clear_value x2
    exact State.leads_foldl hx2 _ _ fun x3 y3 hx3 => State.leads_when hx3 _ _ (fun x4 hx4 => State.leads_maskPad hx4 _
        _ _)

theorem State.leads_execLkCntClr {fl ot : Bool} {r s : State} (h : r.Leads fl ot s) (who : Initiator) (port : Nat) :
    r.LeadsR fl ot (execLkCntClr who port s) := by
  unfold execLkCntClr
  exact State.leadsR_next (State.leads_access h _ _ _ _ (fun x0 hx0 => State.leads_clearFields hx0 _ _))

theorem State.leads_execLinkWake {fl ot : Bool} {r s : State} (h : r.Leads fl ot s) (port : Nat) : r.LeadsR fl ot
    (execLinkWake port s) := by
  unfold execLinkWake
  exact State.leadsR_next (State.leads_when h _ _ (fun x0 hx0 => State.leads_wakeLink hx0 _))

theorem State.leads_execCodewordRx {fl ot : Bool} {r s : State} (h : r.Leads fl ot s) (port : Nat) (cwNum : Nat) (ln :
    Nat) (setId : Nat) (standby : Bool) (symErrs : Nat) (bad : Bool) (hasHeader : Bool) : r.LeadsR fl ot
    (execCodewordRx port cwNum ln setId standby symErrs bad hasHeader s) := by
  unfold execCodewordRx
  extract_lets -merge -underBinder +onlyGivenNames x0
  try clear_value x0
  extract_lets -merge -underBinder +onlyGivenNames x1
  have hx1 : r.Leads fl ot x1 := State.leads_foldl h _ _ fun x2 y2 hx2 => State.leads_sat hx2 _ _ _
  clear_value x1
  refine State.leadsR_ite ?_ ?_
  · extract_lets -merge -underBinder +onlyGivenNames x3
    have hx3 : r.Leads fl ot x3 := State.leads_count hx1 _ _
    clear_value x3
    exact State.leadsR_ite (State.leadsR_next (State.leads_gap (State.leads_wr (State.leads_wr hx3 _ _ _) _ _ _) _))
        (State.leadsR_next hx3)
  · extract_lets -merge -underBinder +onlyGivenNames x4
    have hx4 : r.Leads fl ot x4 := State.leads_when hx1 _ _ (fun x5 hx5 => State.leads_count hx5 _ _)
    clear_value x4
    refine State.leadsR_ite ?_ ?_
    · exact State.leadsR_next hx4
    · extract_lets -merge -underBinder +onlyGivenNames x6
      try clear_value x6
      extract_lets -merge -underBinder +onlyGivenNames x7
      have hx7 : r.Leads fl ot x7 := State.leads_wr (State.leads_wr hx4 _ _ _) _ _ _
      clear_value x7
      extract_lets -merge -underBinder +onlyGivenNames x8
      have hx8 : r.Leads fl ot x8 := State.leads_when hx7 _ _ (fun x9 hx9 => State.leads_wr hx9 _ _ _)
      clear_value x8
      extract_lets -merge -underBinder +onlyGivenNames x10
      have hx10 : r.Leads fl ot x10 := (by
          unfold x10
          refine State.leads_when ?_ _ _ (fun x11 hx11 => ?_)
          · exact hx8
          · extract_lets -merge -underBinder +onlyGivenNames x12
            have hx12 : r.Leads fl ot x12 := State.leads_wr hx11 _ _ _
            clear_value x12
            exact State.leads_when hx12 _ _ (fun x13 hx13 => State.leads_absorbed hx13 _))
      clear_value x10
      exact State.leadsR_next hx10

theorem State.leads_execNakRepeat {fl ot : Bool} {r s : State} (h : r.Leads fl ot s) (port : Nat) : r.LeadsR fl ot
    (execNakRepeat port s) := by
  unfold execNakRepeat
  exact State.leadsR_next (State.leads_when h _ _ (fun x0 hx0 => State.leads_wr hx0 _ _ _))

theorem State.leads_execTurnNak {fl ot : Bool} {r s : State} (h : r.Leads fl ot s) (port : Nat) : r.LeadsR fl ot
    (execTurnNak port s) := by
  unfold execTurnNak
  exact State.leadsR_next (State.leads_turnAbort h _)

theorem State.leads_execTxPacketBoundary {fl ot : Bool} {r s : State} (h : r.Leads fl ot s) (port : Nat) : r.LeadsR fl
    ot (execTxPacketBoundary port s) := by
  unfold execTxPacketBoundary
  exact State.leadsR_next (State.leads_boundary h _)

theorem State.leads_execCreditTimer {fl ot : Bool} {r s : State} (h : r.Leads fl ot s) (port : Nat) : r.LeadsR fl ot
    (execCreditTimer port s) := by
  unfold execCreditTimer
  refine State.leadsR_ite ?_ ?_
  · exact State.leadsR_next h
  · extract_lets -merge -underBinder +onlyGivenNames x0
    have hx0 : r.Leads fl ot x0 := State.leads_when h _ _ (fun x1 hx1 => State.leads_dueCredit hx1 _ _)
    clear_value x0
    extract_lets -merge -underBinder +onlyGivenNames x2
    try clear_value x2
    exact State.leadsR_next (State.leads_foldl hx0 _ _ fun x3 y3 hx3 => State.leads_dueCredit hx3 _ _)

theorem State.leads_execPairDropRx {fl ot : Bool} {r s : State} (h : r.Leads fl ot s) (port : Nat) (lmask : Nat) (dir :
    Nat) : r.LeadsR fl ot (execPairDropRx port lmask dir s) := by
  unfold execPairDropRx
  extract_lets -merge -underBinder +onlyGivenNames x0
  try clear_value x0
  refine State.leadsR_ite ?_ ?_
  · exact State.leadsR_next h
  · refine State.leadsR_ite ?_ ?_
    · exact State.leadsR_next (State.leads_retrainLink h _ _)
    · extract_lets -merge -underBinder +onlyGivenNames x1
      try clear_value x1
      extract_lets -merge -underBinder +onlyGivenNames x2
      try clear_value x2
      extract_lets -merge -underBinder +onlyGivenNames x3
      have hx3 : r.Leads fl ot x3 := State.leads_foldl h _ _ fun x4 y4 hx4 => State.leads_wrBit hx4 _ _ _ _
      clear_value x3
      extract_lets -merge -underBinder +onlyGivenNames x5
      have hx5 : r.Leads fl ot x5 := State.leads_when hx3 _ _ (fun x6 hx6 => State.leads_recordDrop hx6 _ _ _)
      clear_value x5
      extract_lets -merge -underBinder +onlyGivenNames x7
      try clear_value x7
      refine State.leadsR_ite ?_ ?_
      · exact State.leadsR_next hx5
      · extract_lets -merge -underBinder +onlyGivenNames x8
        have hx8 : r.Leads fl ot x8 := State.leads_recordDrop hx5 _ _ _
        clear_value x8
        extract_lets -merge -underBinder +onlyGivenNames x9
        have hx9 : r.Leads fl ot x9 := State.leads_foldl hx8 _ _ fun x10 y10 hx10 => State.leads_maskPad hx10 _ _ _
        clear_value x9
        exact State.leadsR_ite (State.leadsR_next (State.leads_wr (State.leads_changeTxSet hx9 _ _) _ _ _))
            (State.leadsR_next (State.leads_wr hx9 _ _ _))

theorem State.leads_execNakRx {fl ot : Bool} {r s : State} (h : r.Leads fl ot s) (port : Nat) (ackV : Bool) (seq : Nat)
    : r.LeadsR fl ot (execNakRx port ackV seq s) := by
  unfold execNakRx
  refine State.leadsR_ite ?_ ?_
  · exact State.leadsR_next h
  · extract_lets -merge -underBinder +onlyGivenNames x0
    have hx0 : r.Leads fl ot x0 := State.leads_count h _ _
    clear_value x0
    extract_lets -merge -underBinder +onlyGivenNames x1
    have hx1 : r.Leads fl ot x1 := State.leads_when hx0 _ _ (fun x2 hx2 => State.leads_ackUpTo hx2 _ _)
    clear_value x1
    exact State.leadsR_next (State.leads_startReplay hx1 _)

theorem State.leads_execAddReadyRx {fl ot : Bool} {r s : State} (h : r.Leads fl ot s) (port : Nat) (lmask : Nat) (dir :
    Nat) : r.LeadsR fl ot (execAddReadyRx port lmask dir s) := by
  unfold execAddReadyRx
  refine State.leadsR_ite ?_ ?_
  · exact State.leadsR_next h
  · extract_lets -merge -underBinder +onlyGivenNames x0
    try clear_value x0
    exact State.leadsR_next (State.leads_ite h (State.leads_addTxPads h _ _))

theorem State.leads_execTurnPrep {fl ot : Bool} {r s : State} (h : r.Leads fl ot s) (port : Nat) (target : Nat) (set :
    Nat) : r.LeadsR fl ot (execTurnPrep port target set s) := by
  unfold execTurnPrep
  extract_lets -merge -underBinder +onlyGivenNames x0
  try clear_value x0
  refine State.leadsR_ite ?_ ?_
  · exact State.leadsR_next h
  · extract_lets -merge -underBinder +onlyGivenNames x1
    have hx1 : r.Leads fl ot x1 := State.leads_wr (State.leads_wr (State.leads_wr h _ _ _) _ _ _) _ _ _
    clear_value x1
    exact State.leadsR_next (State.leads_ite (State.leads_turnAnswer hx1 _) hx1)

theorem State.leads_execJoinFail {fl ot : Bool} {r s : State} (h : r.Leads fl ot s) (port : Nat) : r.LeadsR fl ot
    (execJoinFail port s) := by
  unfold execJoinFail
  extract_lets -merge -underBinder +onlyGivenNames x0
  try clear_value x0
  refine State.leadsR_ite ?_ ?_
  · exact State.leadsR_next h
  · extract_lets -merge -underBinder +onlyGivenNames x1
    try clear_value x1
    refine State.leadsR_ite ?_ ?_
    · exact State.leadsR_next h
    · extract_lets -merge -underBinder +onlyGivenNames x2
      have hx2 : r.Leads fl ot x2 := State.leads_maskPad (State.leads_recordDrop h _ _ _) _ _ _
      clear_value x2
      exact State.leadsR_next (State.leads_wr (State.leads_changeTxSet hx2 _ _) _ _ _)

theorem State.leads_execCreditRx {fl ot : Bool} {r s : State} (h : r.Leads fl ot s) (port : Nat) (entries : List (Nat ×
    Nat)) : r.LeadsR fl ot (execCreditRx port entries s) := by
  unfold execCreditRx
  exact State.leadsR_next (State.leads_ite (State.leads_foldl h _ _ fun x0 y0 hx0 => State.leads_creditEntryRx hx0 _ _)
      h)

theorem State.leads_execLpIdleExpiry {fl ot : Bool} {r s : State} (h : r.Leads fl ot s) (port : Nat) : r.LeadsR fl ot
    (execLpIdleExpiry port s) := by
  unfold execLpIdleExpiry
  exact State.leadsR_next (State.leads_when h _ _ (fun x0 hx0 => State.leads_wr (State.leads_queueLink hx0 _ _) _ _ _))

theorem State.leads_execLpReq {fl ot : Bool} {r s : State} (h : r.Leads fl ot s) (port : Nat) (depth : Nat) : r.LeadsR
    fl ot (execLpReq port depth s) := by
  unfold execLpReq
  extract_lets -merge -underBinder +onlyGivenNames x0
  try clear_value x0
  refine State.leadsR_ite ?_ ?_
  · exact State.leadsR_next h
  · extract_lets -merge -underBinder +onlyGivenNames x1
    try clear_value x1
    refine State.leadsR_ite ?_ ?_
    · exact State.leadsR_next (State.leads_wr (State.leads_wr (State.leads_wr h _ _ _) _ _ _) _ _ _)
    · refine State.leadsR_ite ?_ ?_
      · extract_lets -merge -underBinder +onlyGivenNames x2
        try clear_value x2
        exact State.leadsR_next (State.leads_wr (State.leads_wr (State.leads_queueLink h _ _) _ _ _) _ _ _)
      · exact State.leadsR_next (State.leads_queueLink h _ _)

theorem State.leads_execLpNak {fl ot : Bool} {r s : State} (h : r.Leads fl ot s) (port : Nat) : r.LeadsR fl ot
    (execLpNak port s) := by
  unfold execLpNak
  extract_lets -merge -underBinder +onlyGivenNames x0
  try clear_value x0
  refine State.leadsR_ite ?_ ?_
  · exact State.leadsR_next h
  · extract_lets -merge -underBinder +onlyGivenNames x1
    have hx1 : r.Leads fl ot x1 := State.leads_when h _ _ (fun x2 hx2 => State.leads_raise (State.leads_wr hx2 _ _ _) _
        _)
    clear_value x1
    exact State.leadsR_next (State.leads_when hx1 _ _ (fun x3 hx3 => State.leads_wr (State.leads_wr hx3 _ _ _) _ _ _))

theorem State.leads_execAckDue {fl ot : Bool} {r s : State} (h : r.Leads fl ot s) (port : Nat) : r.LeadsR fl ot
    (execAckDue port s) := by
  unfold execAckDue
  exact State.leadsR_next (State.leads_when h _ _ (fun x0 hx0 => State.leads_wr hx0 _ _ _))

theorem State.leads_execReplayTimeout {fl ot : Bool} {r s : State} (h : r.Leads fl ot s) (port : Nat) : r.LeadsR fl ot
    (execReplayTimeout port s) := by
  unfold execReplayTimeout
  exact State.leadsR_next (State.leads_when h _ _ (fun x0 hx0 => State.leads_startReplay hx0 _))

theorem State.leads_execPairSetRx {fl ot : Bool} {r s : State} (h : r.Leads fl ot s) (port : Nat) (newSet : Nat) (lmask
    : Nat) (fromCw : Nat) : r.LeadsR fl ot (execPairSetRx port newSet lmask fromCw s) := by
  unfold execPairSetRx
  extract_lets -merge -underBinder +onlyGivenNames x0
  try clear_value x0
  refine State.leadsR_ite ?_ ?_
  · exact State.leadsR_next h
  · extract_lets -merge -underBinder +onlyGivenNames x1
    try clear_value x1
    extract_lets -merge -underBinder +onlyGivenNames x2
    try clear_value x2
    extract_lets -merge -underBinder +onlyGivenNames x3
    have hx3 : r.Leads fl ot x3 := State.leads_wr (State.leads_wr h _ _ _) _ _ _
    clear_value x3
    extract_lets -merge -underBinder +onlyGivenNames x4
    have hx4 : r.Leads fl ot x4 := State.leads_foldl hx3 _ _ fun x5 y5 hx5 => State.leads_count (State.leads_maskPad
        (State.leads_wrBit (State.leads_wrBit hx5 _ _ _ _) _ _ _ _) _ _ _) _ _
    clear_value x4
    extract_lets -merge -underBinder +onlyGivenNames x6
    have hx6 : r.Leads fl ot x6 := State.leads_when hx4 _ _ (fun x7 hx7 => State.leads_absorbed hx7 _)
    clear_value x6
    exact State.leadsR_next (State.leads_wr (State.leads_wr hx6 _ _ _) _ _ _)

theorem State.leads_execLpWakeDetect {fl ot : Bool} {r s : State} (h : r.Leads fl ot s) (port : Nat) : r.LeadsR fl ot
    (execLpWakeDetect port s) := by
  unfold execLpWakeDetect
  extract_lets -merge -underBinder +onlyGivenNames x0
  try clear_value x0
  refine State.leadsR_ite ?_ ?_
  · exact State.leadsR_next h
  · extract_lets -merge -underBinder +onlyGivenNames x1
    try clear_value x1
    exact State.leadsR_ite (State.leadsR_next (State.leads_wake (State.leads_wr h _ _ _) _ _ _)) (State.leadsR_next
        (State.leads_when h _ _ (fun x2 hx2 => State.leads_count hx2 _ _)))

theorem State.leads_execTurnPadLock {fl ot : Bool} {r s : State} (h : r.Leads fl ot s) (port : Nat) (locked : Bool) :
    r.LeadsR fl ot (execTurnPadLock port locked s) := by
  unfold execTurnPadLock
  extract_lets -merge -underBinder +onlyGivenNames x0
  try clear_value x0
  refine State.leadsR_ite ?_ ?_
  · exact State.leadsR_next h
  · extract_lets -merge -underBinder +onlyGivenNames x1
    try clear_value x1
    extract_lets -merge -underBinder +onlyGivenNames x2
    have hx2 : r.Leads fl ot x2 := State.leads_wr (State.leads_wr h _ _ _) _ _ _
    clear_value x2
    refine State.leadsR_ite ?_ ?_
    · extract_lets -merge -underBinder +onlyGivenNames x3
      try clear_value x3
      extract_lets -merge -underBinder +onlyGivenNames x4
      have hx4 : r.Leads fl ot x4 := State.leads_wr (State.leads_wr (State.leads_wr hx2 _ _ _) _ _ _) _ _ _
      clear_value x4
      extract_lets -merge -underBinder +onlyGivenNames x5
      have hx5 : r.Leads fl ot x5 := State.leads_maskPad (State.leads_wr hx4 _ _ _) _ _ _
      clear_value x5
      exact State.leadsR_next (State.leads_count (State.leads_wrBit hx5 _ _ _ _) _ _)
    · extract_lets -merge -underBinder +onlyGivenNames x6
      have hx6 : r.Leads fl ot x6 := State.leads_queueLink hx2 _ _
      clear_value x6
      exact State.leadsR_next (State.leads_gap (State.leads_wr (State.leads_recordDrop hx6 _ _ _) _ _ _) _)

theorem State.leads_execTurnOk {fl ot : Bool} {r s : State} (h : r.Leads fl ot s) (port : Nat) (target : Nat) :
    r.LeadsR fl ot (execTurnOk port target s) := by
  unfold execTurnOk
  extract_lets -merge -underBinder +onlyGivenNames x0
  try clear_value x0
  exact State.leadsR_next (State.leads_when h _ _ (fun x1 hx1 => State.leads_wr hx1 _ _ _))

theorem State.leads_execTurnWiden {fl ot : Bool} {r s : State} (h : r.Leads fl ot s) (port : Nat) : r.LeadsR fl ot
    (execTurnWiden port s) := by
  unfold execTurnWiden
  extract_lets -merge -underBinder +onlyGivenNames x0
  try clear_value x0
  refine State.leadsR_ite ?_ ?_
  · exact State.leadsR_next h
  · extract_lets -merge -underBinder +onlyGivenNames x1
    try clear_value x1
    extract_lets -merge -underBinder +onlyGivenNames x2
    have hx2 : r.Leads fl ot x2 := State.leads_maskPad (State.leads_wr (State.leads_wr h _ _ _) _ _ _) _ _ _
    clear_value x2
    exact State.leadsR_next (State.leads_count (State.leads_changeTxSet hx2 _ _) _ _)

theorem State.leads_execAckRx {fl ot : Bool} {r s : State} (h : r.Leads fl ot s) (port : Nat) (seq : Nat) : r.LeadsR fl
    ot (execAckRx port seq s) := by
  unfold execAckRx
  exact State.leadsR_next (State.leads_ite (State.leads_ackUpTo h _ _) h)

theorem State.leads_execCreditRefresh {fl ot : Bool} {r s : State} (h : r.Leads fl ot s) (port : Nat) : r.LeadsR fl ot
    (execCreditRefresh port s) := by
  unfold execCreditRefresh
  refine State.leadsR_ite ?_ ?_
  · exact State.leadsR_next h
  · extract_lets -merge -underBinder +onlyGivenNames x0
    try clear_value x0
    exact State.leadsR_next (State.leads_foldl (State.leads_dueCredit h _ _) _ _ fun x1 y1 hx1 => State.leads_dueCredit
        hx1 _ _)

theorem State.leads_execLpAck {fl ot : Bool} {r s : State} (h : r.Leads fl ot s) (port : Nat) (depth : Nat) : r.LeadsR
    fl ot (execLpAck port depth s) := by
  unfold execLpAck
  extract_lets -merge -underBinder +onlyGivenNames x0
  try clear_value x0
  exact State.leadsR_next (State.leads_when h _ _ (fun x1 hx1 => State.leads_wr (State.leads_wr (State.leads_wr hx1 _ _
      _) _ _ _) _ _ _))

end Sys2Proof.Machine
end

