-- ==== Sys2Proof/Laws/Lead/Memory.lean ====
section
/-! SUPPORT. What the operations of Machine/Memory.lean keep (State.Leads of Laws/Leads.lean). -/

namespace Sys2Proof.Machine

open Reg

theorem State.leads_memReady {fl ot : Bool} {r s : State} (h : r.Leads fl ot s) (restored : Bool) : r.Leads fl ot
    (State.memReady s restored) := by
  unfold State.memReady
  extract_lets -merge -underBinder +onlyGivenNames x0
  have hx0 : r.Leads fl ot x0 := State.leads_wr h _ _ _
  clear_value x0
  extract_lets -merge -underBinder +onlyGivenNames x1
  have hx1 : r.Leads fl ot x1 := State.leads_memState (State.leads_wr (State.leads_wr hx0 _ _ _) _ _ _) _
  clear_value x1
  exact State.leads_foldl hx1 _ _ fun x2 y2 hx2 => State.leads_cmdGo hx2 _

theorem State.leads_execDramTraining {fl ot : Bool} {r s : State} (h : r.Leads fl ot s) (stored : Bool) (failed : Nat) :
    r.LeadsR fl ot (execDramTraining stored failed s) := by
  unfold execDramTraining
  extract_lets st
  refine State.leadsR_next (State.leads_when h _ _ fun t ht => ?_)
  split
  · exact State.leads_memReady ht _
  · split
    · extract_lets x y
      have hx : r.Leads fl ot x := State.leads_wr (State.leads_wr (State.leads_memState ht _) _ _ _) _ _ _
      have hy : r.Leads fl ot y := State.leads_foldl hx _ _ fun u m hu => State.leads_addrErr (State.leads_send hu _)
      exact State.leads_raise (State.leads_mk hy ..) _ _
    · extract_lets cap x y
      have hx : r.Leads fl ot x := State.leads_wr (State.leads_wr ht _ _ _) _ _ _
      have hy : r.Leads fl ot y := State.leads_when hx _ _ fun u hu =>
        State.leads_wr (State.leads_dram hu _ fun _ => Mem.wf_nil 0) _ _ _
      exact State.leads_memReady (State.leads_wr hy _ _ _) _

theorem State.leads_execPdEntry {fl ot : Bool} {r s : State} (h : r.Leads fl ot s) : r.LeadsR fl ot (execPdEntry s) :=
    by
  unfold execPdEntry
  exact State.leadsR_next (State.leads_when h _ _ (fun x0 hx0 => State.leads_memState hx0 _))

theorem State.leads_memUe {fl ot : Bool} {r s : State} (h : r.Leads fl ot s) (a_r : MemReq) : r.Leads fl ot
    (State.memUe s a_r) := by
  unfold State.memUe
  extract_lets -merge -underBinder +onlyGivenNames x0
  have hx0 : r.Leads fl ot x0 := State.leads_wr (State.leads_wr (State.leads_wr h _ _ _) _ _ _) _ _ _
  clear_value x0
  extract_lets -merge -underBinder +onlyGivenNames x1
  have hx1 : r.Leads fl ot x1 := State.leads_raise (State.leads_count hx0 _ _) _ _
  clear_value x1
  split
  · exact State.leads_rxDrop hx1 _
  · exact State.leads_rxDrop hx1 _
  · exact hx1
  · exact hx1
  · exact State.leads_count hx1 _ _

theorem State.leads_memServe {fl ot : Bool} {r s : State} (h : r.Leads fl ot s) (a_r : MemReq) (ecc : EccEvt) : r.Leads
    fl ot (State.memServe s a_r ecc) := by
  unfold State.memServe
  split
  · exact State.leads_when (State.leads_memWrite h _ _ _) _ _ (fun x0 hx0 => State.leads_raise (State.leads_count hx0 _
        _) _ _)
  · extract_lets -merge -underBinder +onlyGivenNames x1
    try clear_value x1
    extract_lets -merge -underBinder +onlyGivenNames x2
    have hx2 : r.Leads fl ot x2 := State.leads_memRead h _ _ _
    clear_value x2
    split
    · exact State.leads_send hx2 _
    · exact State.leads_send (State.leads_raise (State.leads_count hx2 _ _) _ _) _
    · exact State.leads_send (State.leads_raise (State.leads_count hx2 _ _) _ _) _
    · exact State.leads_send (State.leads_memUe hx2 _) _

theorem State.leads_execDqsCheck {fl ot : Bool} {r s : State} (h : r.Leads fl ot s) : r.LeadsR fl ot (execDqsCheck s)
    := by
  unfold execDqsCheck
  exact State.leadsR_next h

theorem State.leads_execSrEntry {fl ot : Bool} {r s : State} (h : r.Leads fl ot s) : r.LeadsR fl ot (execSrEntry s) :=
    by
  unfold execSrEntry
  extract_lets -merge -underBinder +onlyGivenNames x0
  try clear_value x0
  exact State.leadsR_next (State.leads_when h _ _ (fun x1 hx1 => State.leads_memState hx1 _))

theorem State.leads_execSrExit {fl ot : Bool} {r s : State} (h : r.Leads fl ot s) : r.LeadsR fl ot (execSrExit s) := by
  unfold execSrExit
  extract_lets -merge -underBinder +onlyGivenNames x0
  try clear_value x0
  extract_lets -merge -underBinder +onlyGivenNames x1
  try clear_value x1
  exact State.leadsR_next (State.leads_when h _ _ (fun x2 hx2 => State.leads_memState hx2 _))

theorem State.leads_execMemCntClr {fl ot : Bool} {r s : State} (h : r.Leads fl ot s) (who : Initiator) : r.LeadsR fl ot
    (execMemCntClr who s) := by
  unfold execMemCntClr
  exact State.leadsR_next (State.leads_access h _ _ _ _ (fun x0 hx0 => State.leads_clearFields hx0 _ _))

theorem State.leads_memDrr {fl ot : Bool} {r s : State} (h : r.Leads fl ot s) (k : Nat) :
    r.Leads fl ot (State.memDrr s k).1 := by
  induction k generalizing s with
  | zero => exact h
  | succ k ih =>
    unfold State.memDrr
    extract_lets c d next
    have hn : ∀ t, r.Leads fl ot t → r.Leads fl ot (next t) := fun t ht => State.leads_wr ht _ _ _
    clear_value next
    split
    · exact ih (hn _ (State.leads_wr h _ _ _))
    · refine State.leads_ite_fst ?_ ?_
      · exact State.leads_wr h _ _ _
      · exact ih (hn _ (State.leads_wr h _ _ _))

theorem State.leads_execDramRequest {fl ot : Bool} {r s : State} (h : r.Leads fl ot s) (new : List MemReq) (ecc :
    EccEvt) : r.LeadsR fl ot (execDramRequest new ecc s) := by
  unfold execDramRequest
  extract_lets -merge -underBinder +onlyGivenNames x0
  have hx0 : r.Leads fl ot x0 := State.leads_mk h ..
  clear_value x0
  refine State.leadsR_next ?_
  refine State.leads_ite ?_ ?_
  · exact hx0
  · extract_lets -merge -underBinder +onlyGivenNames x1
    try clear_value x1
    split
    · rename_i y2_0 y2_1 heq2
      have hy2 := State.leads_of_fst (fl := fl) (ot := ot) (r := r) heq2 (by
          split
          · exact State.leads_pair hx0
          · exact State.leads_memDrr hx0 _)
      split
      · exact State.leads_memServe (State.leads_mk hy2 ..) _ _
      · exact hy2

end Sys2Proof.Machine
end

