-- ==== Sys2Proof/Laws/Lead/PowerOps.lean ====
section
/-! SUPPORT. What the operations of Machine/PowerOps.lean keep (State.Leads of Laws/Leads.lean). -/

namespace Sys2Proof.Machine

open Reg

theorem State.leads_samplePort {fl ot : Bool} {r s : State} (h : r.Leads fl ot s) (n : Nat) (cc : Nat) (vbus : Nat) :
    r.Leads fl ot (State.samplePort s n cc vbus).1 := by
  unfold State.samplePort
  refine State.leads_ite_fst ?_ ?_
  · exact State.leads_pair h
  · extract_lets -merge -underBinder +onlyGivenNames x0
    have hx0 : r.Leads fl ot x0 := State.leads_measure h _ _ _
    clear_value x0
    extract_lets -merge -underBinder +onlyGivenNames x1
    try clear_value x1
    extract_lets -merge -underBinder +onlyGivenNames x2
    try clear_value x2
    extract_lets -merge -underBinder +onlyGivenNames x3
    try clear_value x3
    extract_lets -merge -underBinder +onlyGivenNames x4
    try clear_value x4
    extract_lets -merge -underBinder +onlyGivenNames x5
    have hx5 : r.Leads fl ot x5 := State.leads_wr hx0 _ _ _
    clear_value x5
    exact State.leads_pair hx5

theorem State.leads_yySample {fl ot : Bool} {r s : State} (h : r.Leads fl ot s) (cc : List Nat) (vbus : List Nat) (temp
    : Nat) (gpio : Nat) : r.Leads fl ot (State.yySample s cc vbus temp gpio) := by
  unfold State.yySample
  refine State.leads_when ?_ _ _ (fun x0 hx0 => ?_)
  · exact h
  · extract_lets -merge -underBinder +onlyGivenNames x1
    have hx1 : r.Leads fl ot x1 := State.leads_count (State.leads_wr hx0 _ _ _) _ _
    clear_value x1
    extract_lets -merge -underBinder +onlyGivenNames x2
    have hx2 : r.Leads fl ot x2.1 := (by
        unfold x2
        refine State.leads_foldl_fst ?_ _ _ fun x3 y3 hx3 => ?_
        · exact State.leads_pair hx1
        extract_lets -merge -underBinder +onlyGivenNames x4
        have hx4 : r.Leads fl ot x4.1 := State.leads_samplePort hx3 _ _ _
        clear_value x4
        exact State.leads_pair hx4)
    clear_value x2
    extract_lets -merge -underBinder +onlyGivenNames x5
    have hx5 : r.Leads fl ot x5 := hx2
    clear_value x5
    extract_lets -merge -underBinder +onlyGivenNames x6
    try clear_value x6
    extract_lets -merge -underBinder +onlyGivenNames x7
    try clear_value x7
    extract_lets -merge -underBinder +onlyGivenNames x8
    try clear_value x8
    extract_lets -merge -underBinder +onlyGivenNames x9
    try clear_value x9
    extract_lets -merge -underBinder +onlyGivenNames x10
    try clear_value x10
    extract_lets -merge -underBinder +onlyGivenNames x11
    try clear_value x11
    exact State.leads_wakes hx5 _

theorem State.leads_recordReset {fl ot : Bool} {r s : State} (h : r.Leads fl ot s) (last : Nat) (src : Nat) : r.Leads
    fl ot (State.recordReset s last src) := by
  unfold State.recordReset
  exact State.leads_wr (State.leads_wr (State.leads_wr h _ _ _) _ _ _) _ _ _

theorem State.leads_endSequence {fl ot : Bool} {r s : State} (h : r.Leads fl ot s) : r.Leads fl ot (State.endSequence
    s) := by
  unfold State.endSequence
  extract_lets -merge -underBinder +onlyGivenNames x0
  have hx0 : r.Leads fl ot x0 := State.leads_clearFields h _ _
  clear_value x0
  exact State.leads_drive (State.leads_drive (State.leads_drive (State.leads_setPs hx0 _) _ _) _ _) _ _

theorem State.leads_lbistStart {fl ot : Bool} {r s : State} (h : r.Leads fl ot s) : r.Leads fl ot (State.lbistStart s)
    := by
  unfold State.lbistStart
  extract_lets -merge -underBinder +onlyGivenNames x0
  try clear_value x0
  extract_lets -merge -underBinder +onlyGivenNames x1
  have hx1 : r.Leads fl ot x1 := State.leads_clearFields h _ _
  clear_value x1
  extract_lets -merge -underBinder +onlyGivenNames x2
  have hx2 : r.Leads fl ot x2 := State.leads_wr hx1 _ _ _
  clear_value x2
  exact State.leads_ite hx2 (State.leads_ite (State.leads_wr hx2 _ _ _) (State.leads_wr hx2 _ _ _))

theorem State.leads_powerIslands {fl ot : Bool} {r s : State} (h : r.Leads fl ot s) : r.Leads fl ot (State.powerIslands
    s) := by
  unfold State.powerIslands
  extract_lets -merge -underBinder +onlyGivenNames x0
  try clear_value x0
  extract_lets -merge -underBinder +onlyGivenNames x1
  have hx1 : r.Leads fl ot x1 := State.leads_ite h (State.leads_stopIsland h _)
  clear_value x1
  exact State.leads_ite (State.leads_wr hx1 _ _ _) (State.leads_lbistStart (State.leads_wr hx1 _ _ _))

theorem State.leads_dropData {fl ot : Bool} {r s : State} (h : r.Leads fl ot s) : r.Leads fl ot (State.dropData s) := by
  unfold State.dropData
  exact State.leads_mk h ..

theorem State.leads_wipe {fl ot : Bool} {r s : State} (h : r.Leads fl ot s) (sticky : Bool) : r.Leads fl ot (State.wipe
    s sticky) := by
  unfold State.wipe
  exact State.leads_dropData (State.leads_resetWhere h _)

theorem State.leads_chipReset {fl ot : Bool} {r s : State} (h : r.Leads fl ot s) (who : Initiator) : r.Leads fl ot
    (State.chipReset s who) := by
  unfold State.chipReset
  extract_lets -merge -underBinder +onlyGivenNames x0
  have hx0 : r.Leads fl ot x0 := State.leads_count (State.leads_recordReset h _ _) _ _
  clear_value x0
  exact State.leads_powerIslands (State.leads_wr (State.leads_wipe (State.leads_endSequence hx0) _) _ _ _)

theorem State.leads_inOff {fl ot : Bool} {r s : State} (h : r.Leads fl ot s) : r.Leads fl ot (State.inOff s) := by
  unfold State.inOff
  extract_lets -merge -underBinder +onlyGivenNames x0
  have hx0 : r.Leads fl ot x0 := State.leads_stopIsland (State.leads_drive (State.leads_drive h _ _) _ _) _
  clear_value x0
  extract_lets -merge -underBinder +onlyGivenNames x1
  have hx1 : r.Leads fl ot x1 := State.leads_wr (State.leads_wr (State.leads_wr hx0 _ _ _) _ _ _) _ _ _
  clear_value x1
  extract_lets -merge -underBinder +onlyGivenNames x2
  have hx2 : r.Leads fl ot x2 := State.leads_wr hx1 _ _ _
  clear_value x2
  exact State.leads_wr (State.leads_wr (State.leads_setPs hx2 _) _ _ _) _ _ _

theorem State.leads_offSteps {fl ot : Bool} {r s : State} (h : r.Leads fl ot s) : r.Leads fl ot (State.offSteps s) := by
  unfold State.offSteps
  extract_lets -merge -underBinder +onlyGivenNames x0
  have hx0 : r.Leads fl ot x0 := (by
      unfold x0
      refine State.leads_foldl ?_ _ _ fun x1 y1 hx1 => ?_
      · exact h
      extract_lets -merge -underBinder +onlyGivenNames x2
      have hx2 : r.Leads fl ot x2 := State.leads_vconnOff (State.leads_endClose (State.leads_openBoth hx1 _) _ _) _
      clear_value x2
      exact State.leads_when hx2 _ _ (fun x3 hx3 => State.leads_discharge hx3 _))
  clear_value x0
  exact State.leads_ite (State.leads_inOff hx0) (State.leads_wr (State.leads_wr hx0 _ _ _) _ _ _)

theorem State.leads_gateD2 {fl ot : Bool} {r s : State} (h : r.Leads fl ot s) : r.Leads fl ot (State.gateD2 s) := by
  unfold State.gateD2
  extract_lets -merge -underBinder +onlyGivenNames x0
  try clear_value x0
  extract_lets -merge -underBinder +onlyGivenNames x1
  have hx1 : r.Leads fl ot x1 := State.leads_wr h _ _ _
  clear_value x1
  extract_lets -merge -underBinder +onlyGivenNames x2
  have hx2 : r.Leads fl ot x2 := State.leads_foldl hx1 _ _ fun x3 y3 hx3 => State.leads_setPwr hx3 _ _
  clear_value x2
  exact State.leads_count (State.leads_setPs (State.leads_setClk hx2 _ _) _) _ _

theorem State.leads_saveSticky {fl ot : Bool} {r s : State} (h : r.Leads fl ot s) : r.Leads fl ot (State.saveSticky s)
    := by
  unfold State.saveSticky
  exact State.leads_mk h ..

theorem State.leads_powerDown {fl ot : Bool} {r s : State} (h : r.Leads fl ot s) (image : Bool) : r.Leads fl ot
    (State.powerDown s image) := by
  unfold State.powerDown
  extract_lets -merge -underBinder +onlyGivenNames x0
  have hx0 : r.Leads fl ot x0 := State.leads_ite (State.leads_wr (State.leads_wr (State.leads_saveSticky h) _ _ _) _ _
      _) (State.leads_clearFields (State.leads_mk h ..) _ _)
  clear_value x0
  extract_lets -merge -underBinder +onlyGivenNames x1
  have hx1 : r.Leads fl ot x1 := State.leads_wipe (State.leads_wr (State.leads_wr hx0 _ _ _) _ _ _) _
  clear_value x1
  extract_lets -merge -underBinder +onlyGivenNames x2
  have hx2 : r.Leads fl ot x2 := State.leads_wr (State.leads_wr (State.leads_wr hx1 _ _ _) _ _ _) _ _ _
  clear_value x2
  exact State.leads_drive hx2 _ _

theorem State.leads_inYoyo {fl ot : Bool} {r s : State} (h : r.Leads fl ot s) : r.Leads fl ot (State.inYoyo s) := by
  unfold State.inYoyo
  extract_lets -merge -underBinder +onlyGivenNames x0
  have hx0 : r.Leads fl ot x0 := State.leads_foldl h _ _ fun x1 y1 hx1 => State.leads_wr hx1 _ _ _
  clear_value x0
  exact State.leads_count (State.leads_wr (State.leads_wr (State.leads_setPs hx0 _) _ _ _) _ _ _) _ _

theorem State.leads_standbySteps {fl ot : Bool} {r s : State} (h : r.Leads fl ot s) : r.Leads fl ot (State.standbySteps
    s) := by
  unfold State.standbySteps
  extract_lets -merge -underBinder +onlyGivenNames x0
  have hx0 : r.Leads fl ot x0 := (by
      unfold x0
      refine State.leads_foldl ?_ _ _ fun x1 y1 hx1 => ?_
      · exact h
      refine State.leads_when ?_ _ _ (fun x2 hx2 => ?_)
      · exact hx1
      · extract_lets -merge -underBinder +onlyGivenNames z3_0 x3
        have hx3 : r.Leads fl ot x3 := State.leads_wr (State.leads_setDisp hx2 _ _) _ _ _
        clear_value x3
        exact State.leads_wr (State.leads_wr hx3 _ _ _) _ _ _)
  clear_value x0
  extract_lets -merge -underBinder +onlyGivenNames x4
  have hx4 : r.Leads fl ot x4 := State.leads_foldl hx0 _ _ fun x5 y5 hx5 => State.leads_when hx5 _ _ (fun x6 hx6 =>
      State.leads_ethStandby hx6 _)
  clear_value x4
  exact State.leads_when hx4 _ _ (fun x7 hx7 => State.leads_memState hx7 _)

theorem State.leads_enterRest {fl ot : Bool} {r s : State} (h : r.Leads fl ot s) : r.Leads fl ot (State.enterRest s) :=
    by
  unfold State.enterRest
  extract_lets -merge -underBinder +onlyGivenNames x0
  try clear_value x0
  extract_lets -merge -underBinder +onlyGivenNames x1
  have hx1 : r.Leads fl ot x1 := State.leads_standbySteps h
  clear_value x1
  refine State.leads_ite ?_ ?_
  · exact State.leads_wr (State.leads_gateD2 hx1) _ _ _
  · extract_lets -merge -underBinder +onlyGivenNames x2
    have hx2 : r.Leads fl ot x2 := State.leads_powerDown hx1 _
    clear_value x2
    exact State.leads_ite (State.leads_inYoyo hx2) (State.leads_offSteps hx2)

theorem State.leads_drained {fl ot : Bool} {r s : State} (h : r.Leads fl ot s) : r.Leads fl ot (State.drained s) := by
  unfold State.drained
  exact State.leads_when h _ _ (fun x0 hx0 => State.leads_enterRest hx0)

theorem State.leads_entryGo {fl ot : Bool} {r s : State} (h : r.Leads fl ot s) : r.Leads fl ot (State.entryGo s) := by
  unfold State.entryGo
  exact State.leads_drained (State.leads_wr (State.leads_wr h _ _ _) _ _ _)

theorem State.leads_startEntry {fl ot : Bool} {r s : State} (h : r.Leads fl ot s) (target : Nat) (forced : Bool) :
    r.Leads fl ot (State.startEntry s target forced) := by
  unfold State.startEntry
  extract_lets -merge -underBinder +onlyGivenNames x0
  have hx0 : r.Leads fl ot x0 := State.leads_wr h _ _ _
  clear_value x0
  extract_lets -merge -underBinder +onlyGivenNames x1
  have hx1 : r.Leads fl ot x1 := State.leads_wr (State.leads_wr (State.leads_setPs hx0 _) _ _ _) _ _ _
  clear_value x1
  exact State.leads_ite (State.leads_wr hx1 _ _ _) (State.leads_entryGo hx1)

theorem State.leads_refuseEntry {fl ot : Bool} {r s : State} (h : r.Leads fl ot s) (cause : Nat) : r.Leads fl ot
    (State.refuseEntry s cause) := by
  unfold State.refuseEntry
  exact State.leads_raise (State.leads_wr h _ _ _) _ _

theorem State.leads_psGo {fl ot : Bool} {r s : State} (h : r.Leads fl ot s) (target : Nat) : r.Leads fl ot (State.psGo
    s target) := by
  unfold State.psGo
  extract_lets -merge -underBinder +onlyGivenNames x0
  try clear_value x0
  refine State.leads_ite ?_ ?_
  · exact h
  · refine State.leads_ite ?_ ?_
    · exact State.leads_ite (State.leads_leaveD2 h) h
    · refine State.leads_ite ?_ ?_
      · exact h
      · extract_lets -merge -underBinder +onlyGivenNames x1
        try clear_value x1
        exact State.leads_ite (State.leads_startEntry h _ _) (State.leads_refuseEntry h _)

theorem State.leads_forcedOff {fl ot : Bool} {r s : State} (h : r.Leads fl ot s) : r.Leads fl ot (State.forcedOff s) :=
    by
  unfold State.forcedOff
  extract_lets -merge -underBinder +onlyGivenNames x0
  try clear_value x0
  refine State.leads_ite ?_ ?_
  · exact h
  · extract_lets -merge -underBinder +onlyGivenNames x1
    have hx1 : r.Leads fl ot x1 := State.leads_raise h _ _
    clear_value x1
    refine State.leads_ite ?_ ?_
    · exact State.leads_startEntry hx1 _ _
    · extract_lets -merge -underBinder +onlyGivenNames x2
      have hx2 : r.Leads fl ot x2 := State.leads_wr (State.leads_wr (State.leads_setPs hx1 _) _ _ _) _ _ _
      clear_value x2
      exact State.leads_ite hx2 (State.leads_offSteps (State.leads_clearFields (State.leads_mk hx2 ..) _ _))

theorem State.leads_thermGo {fl ot : Bool} {r s : State} (h : r.Leads fl ot s) : r.Leads fl ot (State.thermGo s) := by
  unfold State.thermGo
  exact State.leads_when h _ _ (fun x0 hx0 => State.leads_offSteps hx0)

theorem State.leads_mgmtReset {fl ot : Bool} {r s : State} (h : r.Leads fl ot s) (last : Nat) (src : Nat) : r.Leads fl
    ot (State.mgmtReset s last src) := by
  unfold State.mgmtReset
  extract_lets -merge -underBinder +onlyGivenNames x0
  have hx0 : r.Leads fl ot x0 := State.leads_count (State.leads_recordReset h _ _) _ _
  clear_value x0
  extract_lets -merge -underBinder +onlyGivenNames x1
  have hx1 : r.Leads fl ot x1 := State.leads_resetWhere hx0 _
  clear_value x1
  extract_lets -merge -underBinder +onlyGivenNames x2
  have hx2 : r.Leads fl ot x2 := State.leads_when hx1 _ _ (fun x3 hx3 => State.leads_sliceAbort hx3)
  clear_value x2
  extract_lets -merge -underBinder +onlyGivenNames x4
  have hx4 : r.Leads fl ot x4 := State.leads_mk hx2 ..
  clear_value x4
  exact State.leads_wr (State.leads_setRst (State.leads_wr hx4 _ _ _) _ _) _ _ _

theorem State.leads_loadLocks {fl ot : Bool} {r s : State} (h : r.Leads fl ot s) : r.Leads fl ot (State.loadLocks s) :=
    by
  unfold State.loadLocks
  exact State.leads_wr (State.leads_wr h _ _ _) _ _ _

theorem State.leads_offGo {fl ot : Bool} {r s : State} (h : r.Leads fl ot s) : r.Leads fl ot (State.offGo s) := by
  unfold State.offGo
  exact State.leads_when h _ _ (fun x0 hx0 => State.leads_inOff hx0)

theorem State.leads_discardCells {fl ot : Bool} {r s : State} (h : r.Leads fl ot s) : r.Leads fl ot (State.discardCells
    s) := by
  unfold State.discardCells
  exact State.leads_emptySwitch h

theorem State.leads_pinReset {fl ot : Bool} {r s : State} (h : r.Leads fl ot s) (last : Nat) : r.Leads fl ot
    (State.pinReset s last) := by
  unfold State.pinReset
  extract_lets -merge -underBinder +onlyGivenNames x0
  have hx0 : r.Leads fl ot x0 := State.leads_wipe (State.leads_endSequence (State.leads_recordReset h _ _)) _
  clear_value x0
  extract_lets -merge -underBinder +onlyGivenNames x1
  have hx1 : r.Leads fl ot x1 := State.leads_wr (State.leads_wr (State.leads_wr hx0 _ _ _) _ _ _) _ _ _
  clear_value x1
  exact State.leads_powerIslands (State.leads_loadLocks (State.leads_wr (State.leads_wr (State.leads_wr hx1 _ _ _) _ _
      _) _ _ _))

theorem State.leads_showLtssm {fl ot : Bool} {r s : State} (h : r.Leads fl ot s) (m : Nat) : r.Leads fl ot
    (State.showLtssm s m) := by
  unfold State.showLtssm
  exact State.leads_foldl h _ _ fun x0 y0 hx0 => State.leads_when hx0 _ _ (fun x1 hx1 => State.leads_wr hx1 _ _ _)

theorem State.leads_exitBack {fl ot : Bool} {r s : State} (h : r.Leads fl ot s) : r.Leads fl ot (State.exitBack s) := by
  unfold State.exitBack
  extract_lets -merge -underBinder +onlyGivenNames x0
  have hx0 : r.Leads fl ot x0 := State.leads_drive h _ _
  clear_value x0
  extract_lets -merge -underBinder +onlyGivenNames x1
  have hx1 : r.Leads fl ot x1 := State.leads_clearFields hx0 _ _
  clear_value x1
  exact State.leads_ite (State.leads_setPs (State.leads_stopIsland (State.leads_drive (State.leads_drive hx1 _ _) _ _)
      _) _) (State.leads_wr (State.leads_setPs hx1 _) _ _ _)

theorem State.leads_exitTimeout {fl ot : Bool} {r s : State} (h : r.Leads fl ot s) : r.Leads fl ot (State.exitTimeout
    s) := by
  unfold State.exitTimeout
  refine State.leads_when ?_ _ _ (fun x0 hx0 => ?_)
  · exact h
  · extract_lets -merge -underBinder +onlyGivenNames x1
    have hx1 : r.Leads fl ot x1 := State.leads_raise hx0 _ _
    clear_value x1
    exact State.leads_ite (State.leads_exitBack hx1) (State.leads_wr (State.leads_wr hx1 _ _ _) _ _ _)

theorem State.leads_supplyLoss {fl ot : Bool} {r s : State} (h : r.Leads fl ot s) (k : Nat) : r.Leads fl ot
    (State.supplyLoss s k) := by
  unfold State.supplyLoss
  refine State.leads_ite ?_ ?_
  · exact State.leads_wr h _ _ _
  · extract_lets -merge -underBinder +onlyGivenNames x0
    have hx0 : r.Leads fl ot x0 := State.leads_wrBit h _ _ _ _
    clear_value x0
    extract_lets -merge -underBinder +onlyGivenNames x1
    try clear_value x1
    extract_lets -merge -underBinder +onlyGivenNames x2
    try clear_value x2
    exact State.leads_ite (State.leads_pinReset (State.leads_count (State.leads_raise hx0 _ _) _ _) _) (State.leads_ite
        (State.leads_raise (State.leads_wr (State.leads_wr hx0 _ _ _) _ _ _) _ _) hx0)

theorem State.leads_rram {fl ot : Bool} {r s : State} (h : r.Leads fl ot s) (who : Initiator) (a : Nat)
    (write : Option Nat) (be : Nat) (ue : Bool) : r.Leads fl ot (State.rram s who a write be ue) := by
  unfold State.rram
  split
  · split
    · refine State.leads_aonRam h _ fun hm => ?_
      refine List.foldlRecOn (motive := fun m => Mem.wf 0 m = true) (List.range 4) _ hm fun m hm b _ => ?_
      split
      · exact Mem.wf_write _ _ hm
      · exact hm
    · exact State.leads_setInt (State.leads_wr (State.leads_wr h _ _ _) _ _ _) _ _
  · split
    · extract_lets x y z
      have hx : r.Leads fl ot x := State.leads_raise h _ _
      have hy : r.Leads fl ot y := State.leads_when hx _ _ fun t ht => State.leads_wr ht _ _ _
      have hz : r.Leads fl ot z := State.leads_when hy _ _ fun t ht => State.leads_wr ht _ _ _
      exact State.leads_tookFree (State.leads_send hz _)
    · exact State.leads_send h _

theorem State.leads_exitDone {fl ot : Bool} {r s : State} (h : r.Leads fl ot s) : r.Leads fl ot (State.exitDone s) := by
  unfold State.exitDone
  extract_lets -merge -underBinder +onlyGivenNames x0
  try clear_value x0
  extract_lets -merge -underBinder +onlyGivenNames x1
  have hx1 : r.Leads fl ot x1 := State.leads_clearFields h _ _
  clear_value x1
  extract_lets -merge -underBinder +onlyGivenNames x2
  have hx2 : r.Leads fl ot x2 := State.leads_setPs (State.leads_powerIslands (State.leads_wr hx1 _ _ _)) _
  clear_value x2
  extract_lets -merge -underBinder +onlyGivenNames x3
  have hx3 : r.Leads fl ot x3 := State.leads_clearFields hx2 _ _
  clear_value x3
  extract_lets -merge -underBinder +onlyGivenNames x4
  have hx4 : r.Leads fl ot x4 := State.leads_ite (State.leads_recordReset (State.leads_wr hx3 _ _ _) _ _)
      (State.leads_recordReset hx3 _ _)
  clear_value x4
  exact State.leads_wr hx4 _ _ _

theorem State.leads_groupInRange {fl ot : Bool} {r s : State} (h : r.Leads fl ot s) : r.Leads fl ot (State.groupInRange
    s) := by
  unfold State.groupInRange
  extract_lets -merge -underBinder +onlyGivenNames x0
  try clear_value x0
  refine State.leads_when ?_ _ _ (fun x1 hx1 => ?_)
  · exact h
  · extract_lets -merge -underBinder +onlyGivenNames x2
    have hx2 : r.Leads fl ot x2 := State.leads_wr hx1 _ _ _
    clear_value x2
    extract_lets -merge -underBinder +onlyGivenNames x3
    have hx3 : r.Leads fl ot x3 := State.leads_when hx2 _ _ (fun x4 hx4 => State.leads_safetyReset
        (State.leads_runIsland hx4 _) _)
    clear_value x3
    exact State.leads_ite (State.leads_exitDone hx3) (State.leads_exitGroup hx3 _)

theorem State.leads_drainTimeout {fl ot : Bool} {r s : State} (h : r.Leads fl ot s) : r.Leads fl ot (State.drainTimeout
    s) := by
  unfold State.drainTimeout
  extract_lets -merge -underBinder +onlyGivenNames x0
  try clear_value x0
  exact State.leads_when h _ _ (fun x1 hx1 => State.leads_ite (State.leads_enterRest (State.leads_discardCells hx1))
      (State.leads_refuseEntry (State.leads_wr (State.leads_setPs hx1 _) _ _ _) _))

theorem State.leads_thermEntry {fl ot : Bool} {r s : State} (h : r.Leads fl ot s) : r.Leads fl ot (State.thermEntry s)
    := by
  unfold State.thermEntry
  extract_lets -merge -underBinder +onlyGivenNames x0
  try clear_value x0
  refine State.leads_ite ?_ ?_
  · exact h
  · extract_lets -merge -underBinder +onlyGivenNames x1
    try clear_value x1
    extract_lets -merge -underBinder +onlyGivenNames x2
    have hx2 : r.Leads fl ot x2 := State.leads_when h _ _ (fun x3 hx3 => State.leads_standbySteps
        (State.leads_discardCells hx3))
    clear_value x2
    extract_lets -merge -underBinder +onlyGivenNames x4
    have hx4 : r.Leads fl ot x4 := State.leads_ite (State.leads_powerDown hx2 _) (State.leads_clearFields
        (State.leads_mk hx2 ..) _ _)
    clear_value x4
    extract_lets -merge -underBinder +onlyGivenNames x5
    have hx5 : r.Leads fl ot x5 := State.leads_drive (State.leads_wr (State.leads_wr (State.leads_setPs hx4 _) _ _ _) _
        _ _) _ _
    clear_value x5
    exact State.leads_wr (State.leads_wr hx5 _ _ _) _ _ _

theorem State.leads_sampleStraps {fl ot : Bool} {r s : State} (h : r.Leads fl ot s) (role : Nat) (boot : Bool) (dbat :
    Bool) : r.Leads fl ot (State.sampleStraps s role boot dbat) := by
  unfold State.sampleStraps
  extract_lets -merge -underBinder +onlyGivenNames x0
  have hx0 : r.Leads fl ot x0 := State.leads_wr (State.leads_wr (State.leads_wr h _ _ _) _ _ _) _ _ _
  clear_value x0
  exact State.leads_ite (State.leads_raise (State.leads_wr hx0 _ _ _) _ _) (State.leads_wr hx0 _ _ _)

end Sys2Proof.Machine
end

