-- ==== Sys2Proof/Laws/Lead/Pcie.lean ====
section
/-! SUPPORT. What the operations of Machine/Pcie.lean keep (State.Leads of Laws/Leads.lean). -/

namespace Sys2Proof.Machine

open Reg

theorem State.leads_linkReset100 {fl ot : Bool} {r s : State} (h : r.Leads fl ot s) (l : Nat) : r.Leads fl ot
    (State.linkReset100 s l) := by
  unfold State.linkReset100
  extract_lets -merge -underBinder +onlyGivenNames x0
  have hx0 : r.Leads fl ot x0 := State.leads_ite (State.leads_wr (State.leads_wr h _ _ _) _ _ _) (State.leads_linkRst h
      _ _)
  clear_value x0
  exact State.leads_wr hx0 _ _ _

theorem State.leads_execPcaRelease {fl ot : Bool} {r s : State} (h : r.Leads fl ot s) (who : Initiator) (n : Nat) :
    r.LeadsR fl ot (execPcaRelease who n s) := by
  unfold execPcaRelease
  exact State.leadsR_next (State.leads_access h _ _ _ _ (fun x0 hx0 => State.leads_when hx0 _ _ (fun x1 hx1 =>
      State.leads_wr hx1 _ _ _)))

theorem State.leads_portReset {fl ot : Bool} {r s : State} (h : r.Leads fl ot s) : r.Leads fl ot (State.portReset s) :=
    by
  unfold State.portReset
  extract_lets -merge -underBinder +onlyGivenNames z0_0 x0
  have hx0 : r.Leads fl ot x0 := State.leads_wr (State.leads_wr h _ _ _) _ _ _
  clear_value x0
  exact State.leads_foldl (State.leads_wr hx0 _ _ _) _ _ fun x1 y1 hx1 => State.leads_linkReset100 hx1 _

theorem State.leads_execLockTimeout {fl ot : Bool} {r s : State} (h : r.Leads fl ot s) (n : Nat) : r.LeadsR fl ot
    (execLockTimeout n s) := by
  unfold execLockTimeout
  extract_lets -merge -underBinder +onlyGivenNames x0
  try clear_value x0
  exact State.leadsR_next (State.leads_when h _ _ (fun x1 hx1 => State.leads_raise (State.leads_unlockNow hx1 _) _ _))

theorem State.leads_execPortRst {fl ot : Bool} {r s : State} (h : r.Leads fl ot s) (who : Initiator) : r.LeadsR fl ot
    (execPortRst who s) := by
  unfold execPortRst
  exact State.leadsR_next (State.leads_access h _ _ _ _ (fun x0 hx0 => State.leads_portReset hx0))

theorem State.leads_execSidebandPulseEnd {fl ot : Bool} {r s : State} (h : r.Leads fl ot s) (n : Nat) : r.LeadsR fl ot
    (execSidebandPulseEnd n s) := by
  unfold execSidebandPulseEnd
  exact State.leadsR_next (State.leads_sbPulseEnd h _)

theorem State.leads_pcaSet {fl ot : Bool} {r s : State} (h : r.Leads fl ot s) (who : Initiator) (n : Nat) (f : Field)
    (v : Nat) : r.Leads fl ot (State.pcaSet s who n f v) := by
  unfold State.pcaSet
  exact State.leads_when h _ _ (fun x0 hx0 => State.leads_access hx0 _ _ _ _ (fun x1 hx1 => State.leads_wr
      (State.leads_pcaDiscard hx1 _) _ _ _))

theorem State.leads_execTlpFromTunnel {fl ot : Bool} {r s : State} (h : r.Leads fl ot s) (n : Nat) (kind : Nat) (more :
    Bool) (t : Tlp) : r.LeadsR fl ot (execTlpFromTunnel n kind more t s) := by
  unfold execTlpFromTunnel
  exact State.leadsR_next (State.leads_fromTunnel h _ _ _ _)

theorem State.leads_execLockedRequest {fl ot : Bool} {r s : State} (h : r.Leads fl ot s) (n : Nat) (tunnel : Bool) (t :
    Tlp) : r.LeadsR fl ot (execLockedRequest n tunnel t s) := by
  unfold execLockedRequest
  extract_lets -merge -underBinder +onlyGivenNames x0
  try clear_value x0
  exact State.leadsR_next (State.leads_ite (State.leads_npIssue (State.leads_fromTunnel h _ _ _ _) _)
      (State.leads_fromLocal h _ _))

theorem State.leads_execPeLinkReset {fl ot : Bool} {r s : State} (h : r.Leads fl ot s) (who : Initiator) (l : Nat) :
    r.LeadsR fl ot (execPeLinkReset who l s) := by
  unfold execPeLinkReset
  exact State.leadsR_next (State.leads_access h _ _ _ _ (fun x0 hx0 => State.leads_linkReset100 hx0 _))

theorem State.leads_execCplTimeout {fl ot : Bool} {r s : State} (h : r.Leads fl ot s) (n : Nat) (req : Nat) (tag : Nat)
    : r.LeadsR fl ot (execCplTimeout n req tag s) := by
  unfold execCplTimeout
  split
  · exact State.leadsR_next (State.leads_when h _ _ (fun x0 hx0 => State.leads_cplTimeout hx0 _ _))
  · exact State.leadsR_next h

theorem State.leads_hostPerst {fl ot : Bool} {r s : State} (h : r.Leads fl ot s) : r.Leads fl ot (State.hostPerst s) :=
    by
  unfold State.hostPerst
  refine State.leads_when ?_ _ _ (fun x0 hx0 => ?_)
  · exact h
  · extract_lets -merge -underBinder +onlyGivenNames x1
    have hx1 : r.Leads fl ot x1 := State.leads_recordReset (State.leads_wr hx0 _ _ _) _ _
    clear_value x1
    extract_lets -merge -underBinder +onlyGivenNames x2
    have hx2 : r.Leads fl ot x2 := State.leads_when hx1 _ _ (fun x3 hx3 => State.leads_softReset (State.leads_raise hx3
        _ _) _)
    clear_value x2
    extract_lets -merge -underBinder +onlyGivenNames x4
    have hx4 : r.Leads fl ot x4 := State.leads_foldl hx2 _ _ fun x5 y5 hx5 => State.leads_when hx5 _ _ (fun x6 hx6 =>
        State.leads_softReset hx6 _)
    clear_value x4
    extract_lets -merge -underBinder +onlyGivenNames x7
    have hx7 : r.Leads fl ot x7 := State.leads_linkRst hx4 _ _
    clear_value x7
    exact State.leads_foldl hx7 _ _ fun x8 y8 hx8 => State.leads_when hx8 _ _ (fun x9 hx9 => State.leads_sbSend
        (State.leads_sample hx9 _ _) _)

theorem State.leads_execTlpFromLocal {fl ot : Bool} {r s : State} (h : r.Leads fl ot s) (n : Nat) (t : Tlp) : r.LeadsR
    fl ot (execTlpFromLocal n t s) := by
  unfold execTlpFromLocal
  exact State.leadsR_next (State.leads_fromLocal h _ _)

theorem State.leads_execNpIssue {fl ot : Bool} {r s : State} (h : r.Leads fl ot s) (n : Nat) : r.LeadsR fl ot
    (execNpIssue n s) := by
  unfold execNpIssue
  exact State.leadsR_next (State.leads_npIssue h _)

theorem State.leads_execBrRselWrite {fl ot : Bool} {r s : State} (h : r.Leads fl ot s) (who : Initiator) (hub : Nat) :
    r.LeadsR fl ot (execBrRselWrite who hub s) := by
  unfold execBrRselWrite
  extract_lets -merge -underBinder +onlyGivenNames x0
  try clear_value x0
  exact State.leadsR_next (State.leads_access h _ _ _ _ (fun x1 hx1 => State.leads_when hx1 _ _ (fun x2 hx2 =>
      State.leads_wr (State.leads_mk hx2 ..) _ _ _)))

theorem State.leads_execBrCntClr {fl ot : Bool} {r s : State} (h : r.Leads fl ot s) (who : Initiator) : r.LeadsR fl ot
    (execBrCntClr who s) := by
  unfold execBrCntClr
  exact State.leadsR_next (State.leads_access h _ _ _ _ (fun x0 hx0 => State.leads_clearFields hx0 _ _))

theorem State.leads_execPcaCntClr {fl ot : Bool} {r s : State} (h : r.Leads fl ot s) (who : Initiator) (n : Nat) :
    r.LeadsR fl ot (execPcaCntClr who n s) := by
  unfold execPcaCntClr
  exact State.leadsR_next (State.leads_access h _ _ _ _ (fun x0 hx0 => State.leads_clearFields hx0 _ _))

theorem State.leads_execSidebandUpdateSend {fl ot : Bool} {r s : State} (h : r.Leads fl ot s) (n : Nat) (levels : Nat)
    : r.LeadsR fl ot (execSidebandUpdateSend n levels s) := by
  unfold execSidebandUpdateSend
  exact State.leadsR_next (State.leads_sbSend (State.leads_sample h _ _) _)

theorem State.leads_execSidebandUpdateRx {fl ot : Bool} {r s : State} (h : r.Leads fl ot s) (n : Nat) (seq : Nat) (word
    : Nat) : r.LeadsR fl ot (execSidebandUpdateRx n seq word s) := by
  unfold execSidebandUpdateRx
  exact State.leadsR_next (State.leads_sbRx h _ _ _)

theorem State.leads_execPcieLinkUp {fl ot : Bool} {r s : State} (h : r.Leads fl ot s) (l : Nat) (width : Nat) (gen :
    Nat) : r.LeadsR fl ot (execPcieLinkUp l width gen s) := by
  unfold execPcieLinkUp
  extract_lets -merge -underBinder +onlyGivenNames x0
  try clear_value x0
  refine State.leadsR_next ?_
  refine State.leads_when ?_ _ _ (fun x1 hx1 => ?_)
  · exact h
  · extract_lets -merge -underBinder +onlyGivenNames x2
    have hx2 : r.Leads fl ot x2 := State.leads_wr (State.leads_wr hx1 _ _ _) _ _ _
    clear_value x2
    extract_lets -merge -underBinder +onlyGivenNames x3
    have hx3 : r.Leads fl ot x3 := State.leads_wr (State.leads_wr hx2 _ _ _) _ _ _
    clear_value x3
    extract_lets -merge -underBinder +onlyGivenNames x4
    have hx4 : r.Leads fl ot x4 := State.leads_wr (State.leads_wr hx3 _ _ _) _ _ _
    clear_value x4
    extract_lets -merge -underBinder +onlyGivenNames x5
    try clear_value x5
    extract_lets -merge -underBinder +onlyGivenNames x6
    have hx6 : r.Leads fl ot x6 := State.leads_eqPads hx4 _ _ _ _ _
    clear_value x6
    exact State.leads_foldl hx6 _ _ fun x7 y7 hx7 => State.leads_issuePosted hx7 _

theorem State.leads_execUnlock {fl ot : Bool} {r s : State} (h : r.Leads fl ot s) (n : Nat) : r.LeadsR fl ot
    (execUnlock n s) := by
  unfold execUnlock
  exact State.leadsR_next (State.leads_unlockNow h _)

theorem State.leads_execPcaModeWrite {fl ot : Bool} {r s : State} (h : r.Leads fl ot s) (who : Initiator) (n : Nat)
    (mode : Nat) (dom : Nat) (tx : Nat) (rx : Nat) : r.LeadsR fl ot (execPcaModeWrite who n mode dom tx rx s) := by
  unfold execPcaModeWrite
  exact State.leadsR_next (State.leads_pcaSet (State.leads_pcaSet (State.leads_pcaSet (State.leads_pcaSet h _ _ _ _) _
      _ _ _) _ _ _ _) _ _ _ _)

theorem State.leads_execPeCntClr {fl ot : Bool} {r s : State} (h : r.Leads fl ot s) (who : Initiator) : r.LeadsR fl ot
    (execPeCntClr who s) := by
  unfold execPeCntClr
  exact State.leadsR_next (State.leads_access h _ _ _ _ (fun x0 hx0 => State.leads_clearFields hx0 _ _))

theorem State.leads_execCompletionFromTunnel {fl ot : Bool} {r s : State} (h : r.Leads fl ot s) (n : Nat) (t : Tlp) :
    r.LeadsR fl ot (execCompletionFromTunnel n t s) := by
  unfold execCompletionFromTunnel
  exact State.leadsR_next (State.leads_fromTunnel h _ _ _ _)

theorem State.leads_execPcieLinkDown {fl ot : Bool} {r s : State} (h : r.Leads fl ot s) (l : Nat) : r.LeadsR fl ot
    (execPcieLinkDown l s) := by
  unfold execPcieLinkDown
  exact State.leadsR_next (State.leads_when h _ _ (fun x0 hx0 => State.leads_raise (State.leads_wr (State.leads_wr hx0
      _ _ _) _ _ _) _ _))

end Sys2Proof.Machine
end

