-- ==== Sys2Proof/Laws/Lead/Pd.lean ====
section
/-! SUPPORT. What the operations of Machine/Pd.lean keep (State.Leads of Laws/Leads.lean). -/

namespace Sys2Proof.Machine

open Reg

theorem State.leads_execWaitRetry {fl ot : Bool} {r s : State} (h : r.Leads fl ot s) (n : Nat) : r.LeadsR fl ot
    (execWaitRetry n s) := by
  unfold execWaitRetry
  exact State.leadsR_next (State.leads_when h _ _ (fun x0 hx0 => State.leads_sendRequest hx0 _))

theorem State.leads_pdFifo {fl ot : Bool} {r s : State} (h : r.Leads fl ot s) (n : Nat) (sop : Nat) (raw : List Nat) :
    r.Leads fl ot (State.pdFifo s n sop raw) := by
  unfold State.pdFifo
  extract_lets -merge -underBinder +onlyGivenNames x0
  try clear_value x0
  extract_lets -merge -underBinder +onlyGivenNames x1
  try clear_value x1
  refine State.leads_ite ?_ ?_
  · exact State.leads_count h _ _
  · extract_lets -merge -underBinder +onlyGivenNames x2
    try clear_value x2
    extract_lets -merge -underBinder +onlyGivenNames x3
    have hx3 : r.Leads fl ot x3 := State.leads_mk h ..
    clear_value x3
    extract_lets -merge -underBinder +onlyGivenNames x4
    have hx4 : r.Leads fl ot x4 := State.leads_wr (State.leads_wr hx3 _ _ _) _ _ _
    clear_value x4
    extract_lets -merge -underBinder +onlyGivenNames x5
    have hx5 : r.Leads fl ot x5 := State.leads_when hx4 _ _ (fun x6 hx6 => State.leads_wr (State.leads_wr hx6 _ _ _) _
        _ _)
    clear_value x5
    exact State.leads_setInt (State.leads_wr hx5 _ _ _) _ _

theorem State.leads_pdRecv {fl ot : Bool} {r s : State} (h : r.Leads fl ot s) (n : Nat) (sop : Nat) (raw : List Nat)
    (act : State → State) (hact : ∀ t, r.Leads fl ot t → r.Leads fl ot (act t)) : r.Leads fl ot (State.pdRecv s n sop
    raw act) := by
  unfold State.pdRecv
  exact State.leads_ite h (State.leads_ite (State.leads_pdFifo h _ _ _) (State.leads_ite (hact _ (State.leads_wr h _ _
      _)) h))

theorem State.leads_execEprMode {fl ot : Bool} {r s : State} (h : r.Leads fl ot s) (n : Nat) (raw : List Nat) :
    r.LeadsR fl ot (execEprMode n raw s) := by
  unfold execEprMode
  extract_lets -merge -underBinder +onlyGivenNames x0
  try clear_value x0
  extract_lets -merge -underBinder +onlyGivenNames x1
  try clear_value x1
  refine State.leadsR_next ?_
  refine State.leads_pdRecv ?_ _ _ _ _ (fun x2 hx2 => ?_)
  · exact h
  · split
    · refine State.leads_ite ?_ ?_
      · extract_lets -merge -underBinder +onlyGivenNames x3
        have hx3 : r.Leads fl ot x3 := State.leads_pdSend (State.leads_pdSend hx2 _ _ _) _ _ _
        clear_value x3
        exact State.leads_sendCaps (State.leads_wr (State.leads_wr hx3 _ _ _) _ _ _) _
      · exact State.leads_pdSend hx2 _ _ _
    · exact State.leads_when hx2 _ _ (fun x4 hx4 => State.leads_pdIdle (State.leads_wr (State.leads_wr hx4 _ _ _) _ _
          _) _)
    · exact State.leads_when hx2 _ _ (fun x5 hx5 => State.leads_pdIdle hx5 _)
    · exact State.leads_when (State.leads_wr hx2 _ _ _) _ _ (fun x6 hx6 => State.leads_sendCaps hx6 _)
    · exact hx2

theorem State.leads_execSourceCapabilitiesRepeat {fl ot : Bool} {r s : State} (h : r.Leads fl ot s) (n : Nat) :
    r.LeadsR fl ot (execSourceCapabilitiesRepeat n s) := by
  unfold execSourceCapabilitiesRepeat
  extract_lets -merge -underBinder +onlyGivenNames x0
  try clear_value x0
  exact State.leadsR_next (State.leads_when h _ _ (fun x1 hx1 => State.leads_sendCaps hx1 _))

theorem State.leads_execPsRdyTimeout {fl ot : Bool} {r s : State} (h : r.Leads fl ot s) (n : Nat) : r.LeadsR fl ot
    (execPsRdyTimeout n s) := by
  unfold execPsRdyTimeout
  extract_lets -merge -underBinder +onlyGivenNames x0
  try clear_value x0
  extract_lets -merge -underBinder +onlyGivenNames x1
  try clear_value x1
  exact State.leadsR_next (State.leads_when h _ _ (fun x2 hx2 => State.leads_sendHardReset hx2 _))

theorem State.leads_execErrRecovery {fl ot : Bool} {r s : State} (h : r.Leads fl ot s) (who : Initiator) (n : Nat) :
    r.LeadsR fl ot (execErrRecovery who n s) := by
  unfold execErrRecovery
  exact State.leadsR_next (State.leads_access h _ _ _ _ (fun x0 hx0 => State.leads_when hx0 _ _ (fun x1 hx1 =>
      State.leads_errRecovery hx1 _)))

theorem State.leads_pdStart {fl ot : Bool} {r s : State} (h : r.Leads fl ot s) (n : Nat) (bit : Nat) : r.Leads fl ot
    (State.pdStart s n bit) := by
  unfold State.pdStart
  extract_lets -merge -underBinder +onlyGivenNames x0
  try clear_value x0
  extract_lets -merge -underBinder +onlyGivenNames x1
  have hx1 : r.Leads fl ot x1 := State.leads_wr (State.leads_wrBit h _ _ _ _) _ _ _
  clear_value x1
  split
  · exact State.leads_pdStep (State.leads_count (State.leads_pdSend hx1 _ _ _) _ _) _ _
  · extract_lets -merge -underBinder +onlyGivenNames x2
    have hx2 : r.Leads fl ot x2 := State.leads_wr hx1 _ _ _
    clear_value x2
    exact State.leads_ite (State.leads_sendCaps hx2 _) (State.leads_sendRequest hx2 _)
  · exact State.leads_pdStep (State.leads_pdPhase (State.leads_pdSend hx1 _ _ _) _ _) _ _
  · exact State.leads_pdStep (State.leads_pdSend hx1 _ _ _) _ _
  · exact State.leads_pdStep (State.leads_pdPhase (State.leads_pdSend hx1 _ _ _) _ _) _ _
  · exact State.leads_ite hx1 (State.leads_pdStep (State.leads_pdSend hx1 _ _ _) _ _)
  · exact State.leads_ite (State.leads_pdIdle (State.leads_wr (State.leads_pdSend hx1 _ _ _) _ _ _) _) hx1

theorem State.leads_execPdSequenceStart {fl ot : Bool} {r s : State} (h : r.Leads fl ot s) (n : Nat) : r.LeadsR fl ot
    (execPdSequenceStart n s) := by
  unfold execPdSequenceStart
  extract_lets -merge -underBinder +onlyGivenNames x0
  try clear_value x0
  refine State.leadsR_next ?_
  refine State.leads_when ?_ _ _ (fun x1 hx1 => ?_)
  · exact h
  · split
    · exact hx1
    · exact State.leads_sendHardReset (State.leads_wrBit hx1 _ _ _ _) _
    · exact State.leads_ite hx1 (State.leads_ite (State.leads_pdStep (State.leads_wr (State.leads_wr hx1 _ _ _) _ _ _)
          _ _) (State.leads_when hx1 _ _ (fun x2 hx2 => State.leads_pdStart hx2 _ _)))

theorem State.leads_swapDone {fl ot : Bool} {r s : State} (h : r.Leads fl ot s) (n : Nat) (f : Field) : r.Leads fl ot
    (State.swapDone s n f) := by
  unfold State.swapDone
  exact State.leads_setInt (State.leads_pdIdle (State.leads_wr (State.leads_count h _ _) _ _ _) _) _ _

theorem State.leads_pdQueue {fl ot : Bool} {r s : State} (h : r.Leads fl ot s) (who : Initiator) (n : Nat) (f : Field)
    (bit : Nat) : r.Leads fl ot (State.pdQueue s who n f bit) := by
  unfold State.pdQueue
  exact State.leads_access h _ _ _ _ (fun x0 hx0 => State.leads_wrBit hx0 _ _ _ _)

theorem State.leads_execSwapPr {fl ot : Bool} {r s : State} (h : r.Leads fl ot s) (who : Initiator) (n : Nat) :
    r.LeadsR fl ot (execSwapPr who n s) := by
  unfold execSwapPr
  exact State.leadsR_next (State.leads_pdQueue h _ _ _ _)

theorem State.leads_swapReject {fl ot : Bool} {r s : State} (h : r.Leads fl ot s) (n : Nat) : r.Leads fl ot
    (State.swapReject s n) := by
  unfold State.swapReject
  exact State.leads_raise (State.leads_pdSend h _ _ _) _ _

theorem State.leads_execDrSwap {fl ot : Bool} {r s : State} (h : r.Leads fl ot s) (n : Nat) (raw : List Nat) : r.LeadsR
    fl ot (execDrSwap n raw s) := by
  unfold execDrSwap
  extract_lets -merge -underBinder +onlyGivenNames x0
  try clear_value x0
  exact State.leadsR_next (State.leads_pdRecv h _ _ _ _ (fun x1 hx1 => State.leads_ite (State.leads_swapReject hx1 _)
      (State.leads_swapDone (State.leads_wr (State.leads_pdSend hx1 _ _ _) _ _ _) _ _)))

theorem State.leads_execCcOv {fl ot : Bool} {r s : State} (h : r.Leads fl ot s) (n : Nat) : r.LeadsR fl ot (execCcOv n
    s) := by
  unfold execCcOv
  exact State.leadsR_next (State.leads_when (State.leads_vconnOff h _) _ _ (fun x0 hx0 => State.leads_raise hx0 _ _))

theorem State.leads_execSwapDr {fl ot : Bool} {r s : State} (h : r.Leads fl ot s) (who : Initiator) (n : Nat) :
    r.LeadsR fl ot (execSwapDr who n s) := by
  unfold execSwapDr
  exact State.leadsR_next (State.leads_pdQueue h _ _ _ _)

theorem State.leads_pdTransmit {fl ot : Bool} {r s : State} (h : r.Leads fl ot s) (n : Nat) : r.Leads fl ot
    (State.pdTransmit s n) := by
  unfold State.pdTransmit
  extract_lets -merge -underBinder +onlyGivenNames x0
  try clear_value x0
  extract_lets -merge -underBinder +onlyGivenNames x1
  try clear_value x1
  extract_lets -merge -underBinder +onlyGivenNames x2
  try clear_value x2
  exact State.leads_wr (State.leads_wr (State.leads_pdSend h _ _ _) _ _ _) _ _ _

theorem State.leads_execPdTxSend {fl ot : Bool} {r s : State} (h : r.Leads fl ot s) (who : Initiator) (n : Nat) :
    r.LeadsR fl ot (execPdTxSend who n s) := by
  unfold execPdTxSend
  extract_lets -merge -underBinder +onlyGivenNames x0
  try clear_value x0
  refine State.leadsR_next ?_
  refine State.leads_access ?_ _ _ _ _ (fun x1 hx1 => ?_)
  · exact h
  · extract_lets -merge -underBinder +onlyGivenNames x2
    have hx2 : r.Leads fl ot x2 := State.leads_wr hx1 _ _ _
    clear_value x2
    exact State.leads_ite hx2 (State.leads_ite (State.leads_pdTransmit (State.leads_wr hx2 _ _ _) _) (State.leads_ite
        (State.leads_pdStep (State.leads_wr (State.leads_wr hx2 _ _ _) _ _ _) _ _) (State.leads_ite
        (State.leads_pdTransmit hx2 _) (State.leads_wr (State.leads_wr hx2 _ _ _) _ _ _))))

theorem State.leads_execDetach {fl ot : Bool} {r s : State} (h : r.Leads fl ot s) (n : Nat) (vbus : Nat) : r.LeadsR fl
    ot (execDetach n vbus s) := by
  unfold execDetach
  extract_lets -merge -underBinder +onlyGivenNames x0
  try clear_value x0
  extract_lets -merge -underBinder +onlyGivenNames x1
  try clear_value x1
  refine State.leadsR_next ?_
  refine State.leads_when ?_ _ _ (fun x2 hx2 => ?_)
  · exact h
  · extract_lets -merge -underBinder +onlyGivenNames x3
    have hx3 : r.Leads fl ot x3 := State.leads_measure hx2 _ _ _
    clear_value x3
    extract_lets -merge -underBinder +onlyGivenNames x4
    try clear_value x4
    extract_lets -merge -underBinder +onlyGivenNames x5
    have hx5 : r.Leads fl ot x5 := State.leads_safeDetach hx3 _
    clear_value x5
    extract_lets -merge -underBinder +onlyGivenNames x6
    have hx6 : r.Leads fl ot x6 := (by
        unfold x6
        refine State.leads_when ?_ _ _ (fun x7 hx7 => ?_)
        · exact hx5
        · extract_lets -merge -underBinder +onlyGivenNames x8
          have hx8 : r.Leads fl ot x8 := State.leads_when hx7 _ _ (fun x9 hx9 => State.leads_raise (State.leads_count
              hx9 _ _) _ _)
          clear_value x8
          extract_lets -merge -underBinder +onlyGivenNames x10
          have hx10 : r.Leads fl ot x10 := State.leads_setSupply (State.leads_setInt (State.leads_unattach hx8 _) _ _)
              _ _
          clear_value x10
          exact State.leads_rebudget hx10)
    clear_value x6
    exact State.leads_wakes (State.leads_wr hx6 _ _ _) _

theorem State.leads_execFrsSignal {fl ot : Bool} {r s : State} (h : r.Leads fl ot s) (n : Nat) (vbus : Nat) : r.LeadsR
    fl ot (execFrsSignal n vbus s) := by
  unfold execFrsSignal
  extract_lets -merge -underBinder +onlyGivenNames x0
  try clear_value x0
  refine State.leadsR_next ?_
  refine State.leads_when ?_ _ _ (fun x1 hx1 => ?_)
  · exact h
  · extract_lets -merge -underBinder +onlyGivenNames x2
    have hx2 : r.Leads fl ot x2 := State.leads_openBoth (State.leads_measure hx1 _ _ _) _
    clear_value x2
    extract_lets -merge -underBinder +onlyGivenNames x3
    have hx3 : r.Leads fl ot x3 := State.leads_wr (State.leads_wr hx2 _ _ _) _ _ _
    clear_value x3
    extract_lets -merge -underBinder +onlyGivenNames x4
    have hx4 : r.Leads fl ot x4 := State.leads_pdPhase (State.leads_setSupply hx3 _ _) _ _
    clear_value x4
    exact State.leads_when hx4 _ _ (fun x5 hx5 => State.leads_pdStep (State.leads_pdSend hx5 _ _ _) _ _)

theorem State.leads_execSupplyFailGpio {fl ot : Bool} {r s : State} (h : r.Leads fl ot s) : r.LeadsR fl ot
    (execSupplyFailGpio s) := by
  unfold execSupplyFailGpio
  refine State.leadsR_next ?_
  refine State.leads_when ?_ _ _ (fun x0 hx0 => ?_)
  · exact h
  · refine State.leads_foldl ?_ _ _ fun x1 y1 hx1 => ?_
    · exact State.leads_wr hx0 _ _ _
    refine State.leads_when ?_ _ _ (fun x2 hx2 => ?_)
    · exact hx1
    · extract_lets -merge -underBinder +onlyGivenNames x3
      have hx3 : r.Leads fl ot x3 := State.leads_askSafe (State.leads_send hx2 _) _ _ _ _ _
      clear_value x3
      exact State.leads_pdStep (State.leads_pdPhase hx3 _ _) _ _

theorem State.leads_execPpsReqTimer {fl ot : Bool} {r s : State} (h : r.Leads fl ot s) (n : Nat) : r.LeadsR fl ot
    (execPpsReqTimer n s) := by
  unfold execPpsReqTimer
  extract_lets -merge -underBinder +onlyGivenNames x0
  try clear_value x0
  extract_lets -merge -underBinder +onlyGivenNames x1
  try clear_value x1
  exact State.leadsR_next (State.leads_when h _ _ (fun x2 hx2 => State.leads_pdStep (State.leads_pdSend (State.leads_wr
      hx2 _ _ _) _ _ _) _ _))

theorem State.leads_execDrSwapWait {fl ot : Bool} {r s : State} (h : r.Leads fl ot s) (n : Nat) : r.LeadsR fl ot
    (execDrSwapWait n s) := by
  unfold execDrSwapWait
  extract_lets -merge -underBinder +onlyGivenNames x0
  try clear_value x0
  exact State.leadsR_next (State.leads_when h _ _ (fun x1 hx1 => State.leads_ite (State.leads_pdIdle hx1 _)
      (State.leads_pdStep (State.leads_pdSend (State.leads_wr hx1 _ _ _) _ _ _) _ _)))

theorem State.leads_execHardResetRx {fl ot : Bool} {r s : State} (h : r.Leads fl ot s) (n : Nat) : r.LeadsR fl ot
    (execHardResetRx n s) := by
  unfold execHardResetRx
  exact State.leadsR_next (State.leads_when h _ _ (fun x0 hx0 => State.leads_hardReset hx0 _ _))

theorem State.leads_execSoftReset {fl ot : Bool} {r s : State} (h : r.Leads fl ot s) (who : Initiator) (n : Nat) :
    r.LeadsR fl ot (execSoftReset who n s) := by
  unfold execSoftReset
  exact State.leadsR_next (State.leads_pdQueue h _ _ _ _)

theorem State.leads_takeVconn {fl ot : Bool} {r s : State} (h : r.Leads fl ot s) (n : Nat) : r.Leads fl ot
    (State.takeVconn s n) := by
  unfold State.takeVconn
  exact State.leads_askSafe h _ _ _ _ _

theorem State.leads_acceptSwap {fl ot : Bool} {r s : State} (h : r.Leads fl ot s) (n : Nat) : r.Leads fl ot
    (State.acceptSwap s n) := by
  unfold State.acceptSwap
  extract_lets -merge -underBinder +onlyGivenNames x0
  try clear_value x0
  split
  · exact State.leads_ite (State.leads_pdStep (State.leads_pdPhase h _ _) _ _) (State.leads_pdStep (State.leads_pdPhase
        (State.leads_askSafe h _ _ _ _ _) _ _) _ _)
  · exact State.leads_when (State.leads_swapDone (State.leads_wr h _ _ _) _ _) _ _ (fun x1 hx1 =>
        State.leads_afterCable hx1 _)
  · refine State.leads_ite ?_ ?_
    · exact State.leads_pdStep (State.leads_pdPhase h _ _) _ _
    · extract_lets -merge -underBinder +onlyGivenNames x2
      have hx2 : r.Leads fl ot x2 := State.leads_swapDone (State.leads_pdSend (State.leads_takeVconn h _) _ _ _) _ _
      clear_value x2
      exact State.leads_when hx2 _ _ (fun x3 hx3 => State.leads_pdStep (State.leads_pdSend hx3 _ _ _) _ _)
  · exact State.leads_pdStep (State.leads_pdPhase h _ _) _ _

theorem State.leads_execAccept {fl ot : Bool} {r s : State} (h : r.Leads fl ot s) (n : Nat) (raw : List Nat) : r.LeadsR
    fl ot (execAccept n raw s) := by
  unfold execAccept
  refine State.leadsR_next ?_
  refine State.leads_pdRecv ?_ _ _ _ _ (fun x0 hx0 => ?_)
  · exact h
  · split
    · exact State.leads_pdStep (State.leads_askContract hx0 _ _) _ _
    · exact State.leads_acceptSwap hx0 _
    · exact State.leads_acceptSwap hx0 _
    · exact State.leads_acceptSwap hx0 _
    · exact State.leads_acceptSwap hx0 _
    · exact State.leads_ite (State.leads_sendCaps hx0 _) (State.leads_pdIdle hx0 _)
    · exact State.leads_pdIdle (State.leads_takeMode hx0 _ _) _
    · exact hx0

theorem State.leads_swapFail {fl ot : Bool} {r s : State} (h : r.Leads fl ot s) (n : Nat) : r.Leads fl ot
    (State.swapFail s n) := by
  unfold State.swapFail
  exact State.leads_pdIdle (State.leads_raise h _ _) _

theorem State.leads_pdRefused {fl ot : Bool} {r s : State} (h : r.Leads fl ot s) (n : Nat) : r.Leads fl ot
    (State.pdRefused s n) := by
  unfold State.pdRefused
  split
  · exact State.leads_pdEndNeg (State.leads_raise h _ _) _
  · extract_lets -merge -underBinder +onlyGivenNames x0
    have hx0 : r.Leads fl ot x0 := State.leads_swapFail h _
    clear_value x0
    exact State.leads_when hx0 _ _ (fun x1 hx1 => State.leads_pdStep hx1 _ _)
  · extract_lets -merge -underBinder +onlyGivenNames x2
    have hx2 : r.Leads fl ot x2 := State.leads_swapFail h _
    clear_value x2
    exact State.leads_when hx2 _ _ (fun x3 hx3 => State.leads_pdStep hx3 _ _)
  · extract_lets -merge -underBinder +onlyGivenNames x4
    have hx4 : r.Leads fl ot x4 := State.leads_swapFail h _
    clear_value x4
    exact State.leads_when hx4 _ _ (fun x5 hx5 => State.leads_pdStep hx5 _ _)
  · extract_lets -merge -underBinder +onlyGivenNames x6
    have hx6 : r.Leads fl ot x6 := State.leads_swapFail h _
    clear_value x6
    exact State.leads_when hx6 _ _ (fun x7 hx7 => State.leads_afterCable hx7 _)
  · exact State.leads_pdIdle h _
  · exact State.leads_afterCable h _
  · exact State.leads_afterCable h _
  · exact State.leads_enterNext h _
  · exact State.leads_enterNext h _
  · exact State.leads_strike h _ _
  · exact State.leads_strike h _ _
  · exact h

theorem State.leads_execDiscoverIdentity {fl ot : Bool} {r s : State} (h : r.Leads fl ot s) (n : Nat) (sop : Nat)
    (answered : Bool) (raw : List Nat) : r.LeadsR fl ot (execDiscoverIdentity n sop answered raw s) := by
  unfold execDiscoverIdentity
  extract_lets -merge -underBinder +onlyGivenNames x0
  try clear_value x0
  refine State.leadsR_next ?_
  refine State.leads_pdRecv ?_ _ _ _ _ (fun x1 hx1 => ?_)
  · exact h
  · split
    · refine State.leads_ite ?_ ?_
      · exact State.leads_pdRefused hx1 _
      · extract_lets -merge -underBinder +onlyGivenNames x2
        try clear_value x2
        extract_lets -merge -underBinder +onlyGivenNames x3
        have hx3 : r.Leads fl ot x3 := State.leads_wr (State.leads_wr (State.leads_wr hx1 _ _ _) _ _ _) _ _ _
        clear_value x3
        extract_lets -merge -underBinder +onlyGivenNames x4
        have hx4 : r.Leads fl ot x4 := State.leads_pdSend (State.leads_wr hx3 _ _ _) _ _ _
        clear_value x4
        exact State.leads_pdStep (State.leads_pdSend hx4 _ _ _) _ _
    · exact State.leads_ite (State.leads_pdRefused hx1 _) (State.leads_pdStep (State.leads_pdSend (State.leads_wr hx1 _
          _ _) _ _ _) _ _)
    · exact hx1

theorem State.leads_execEprKaLost {fl ot : Bool} {r s : State} (h : r.Leads fl ot s) (n : Nat) : r.LeadsR fl ot
    (execEprKaLost n s) := by
  unfold execEprKaLost
  extract_lets -merge -underBinder +onlyGivenNames x0
  try clear_value x0
  exact State.leadsR_next (State.leads_when h _ _ (fun x1 hx1 => State.leads_sendHardReset (State.leads_raise hx1 _ _)
      _))

theorem State.leads_execEprKaTimer {fl ot : Bool} {r s : State} (h : r.Leads fl ot s) (n : Nat) : r.LeadsR fl ot
    (execEprKaTimer n s) := by
  unfold execEprKaTimer
  extract_lets -merge -underBinder +onlyGivenNames x0
  try clear_value x0
  extract_lets -merge -underBinder +onlyGivenNames x1
  try clear_value x1
  exact State.leadsR_next (State.leads_when h _ _ (fun x2 hx2 => State.leads_pdSend (State.leads_wr hx2 _ _ _) _ _ _))

theorem State.leads_execEprExit {fl ot : Bool} {r s : State} (h : r.Leads fl ot s) (who : Initiator) (n : Nat) :
    r.LeadsR fl ot (execEprExit who n s) := by
  unfold execEprExit
  exact State.leadsR_next (State.leads_pdQueue h _ _ _ _)

theorem State.leads_execDiscoverModes {fl ot : Bool} {r s : State} (h : r.Leads fl ot s) (n : Nat) (sop : Nat)
    (answered : Bool) (raw : List Nat) : r.LeadsR fl ot (execDiscoverModes n sop answered raw s) := by
  unfold execDiscoverModes
  extract_lets -merge -underBinder +onlyGivenNames x0
  try clear_value x0
  extract_lets -merge -underBinder +onlyGivenNames x1
  try clear_value x1
  refine State.leadsR_next ?_
  refine State.leads_pdRecv ?_ _ _ _ _ (fun x2 hx2 => ?_)
  · exact h
  · split
    · exact State.leads_afterCable (State.leads_when hx2 _ _ (fun x3 hx3 => State.leads_wr hx3 _ _ _)) _
    · extract_lets -merge -underBinder +onlyGivenNames x4
      have hx4 : r.Leads fl ot x4 := State.leads_when hx2 _ _ (fun x5 hx5 => State.leads_wr (State.leads_wr hx5 _ _ _)
          _ _ _)
      clear_value x4
      exact State.leads_enterNext hx4 _
    · exact hx2

theorem State.leads_execRpChange {fl ot : Bool} {r s : State} (h : r.Leads fl ot s) (n : Nat) (rp : Nat) : r.LeadsR fl
    ot (execRpChange n rp s) := by
  unfold execRpChange
  extract_lets -merge -underBinder +onlyGivenNames x0
  try clear_value x0
  refine State.leadsR_next ?_
  refine State.leads_when ?_ _ _ (fun x1 hx1 => ?_)
  · exact h
  · extract_lets -merge -underBinder +onlyGivenNames x2
    have hx2 : r.Leads fl ot x2 := State.leads_wr (State.leads_wr hx1 _ _ _) _ _ _
    clear_value x2
    exact State.leads_when hx2 _ _ (fun x3 hx3 => State.leads_pdTransmit hx3 _)

theorem State.leads_pdDischarged {fl ot : Bool} {r s : State} (h : r.Leads fl ot s) (n : Nat) : r.Leads fl ot
    (State.pdDischarged s n) := by
  unfold State.pdDischarged
  exact State.leads_when h _ _ (fun x0 hx0 => State.leads_pdStep (State.leads_pdPhase (State.leads_pdSend
      (State.leads_takeRole hx0 _ _) _ _ _) _ _) _ _)

theorem State.leads_execVconnSwap {fl ot : Bool} {r s : State} (h : r.Leads fl ot s) (n : Nat) (raw : List Nat) :
    r.LeadsR fl ot (execVconnSwap n raw s) := by
  unfold execVconnSwap
  extract_lets -merge -underBinder +onlyGivenNames x0
  try clear_value x0
  refine State.leadsR_next ?_
  refine State.leads_pdRecv ?_ _ _ _ _ (fun x1 hx1 => ?_)
  · exact h
  · refine State.leads_ite ?_ ?_
    · exact State.leads_swapReject hx1 _
    · extract_lets -merge -underBinder +onlyGivenNames x2
      have hx2 : r.Leads fl ot x2 := State.leads_pdSend hx1 _ _ _
      clear_value x2
      exact State.leads_ite (State.leads_pdStep (State.leads_pdPhase hx2 _ _) _ _) (State.leads_swapDone
          (State.leads_pdSend (State.leads_takeVconn hx2 _) _ _ _) _ _)

theorem State.leads_execEnterUsb {fl ot : Bool} {r s : State} (h : r.Leads fl ot s) (n : Nat) (raw : List Nat) :
    r.LeadsR fl ot (execEnterUsb n raw s) := by
  unfold execEnterUsb
  extract_lets -merge -underBinder +onlyGivenNames x0
  try clear_value x0
  extract_lets -merge -underBinder +onlyGivenNames x1
  try clear_value x1
  refine State.leadsR_next ?_
  refine State.leads_pdRecv ?_ _ _ _ _ (fun x2 hx2 => ?_)
  · exact h
  · extract_lets -merge -underBinder +onlyGivenNames x3
    have hx3 : r.Leads fl ot x3 := State.leads_when hx2 _ _ (fun x4 hx4 => State.leads_wr hx4 _ _ _)
    clear_value x3
    extract_lets -merge -underBinder +onlyGivenNames x5
    try clear_value x5
    split
    · exact State.leads_ite (State.leads_pdSend hx3 _ _ _) (State.leads_when (State.leads_takeMode (State.leads_pdSend
          hx3 _ _ _) _ _) _ _ (fun x6 hx6 => State.leads_pdIdle hx6 _))
    · exact State.leads_pdSend hx3 _ _ _

theorem State.leads_execSoftResetRx {fl ot : Bool} {r s : State} (h : r.Leads fl ot s) (n : Nat) (raw : List Nat) :
    r.LeadsR fl ot (execSoftResetRx n raw s) := by
  unfold execSoftResetRx
  refine State.leadsR_next ?_
  refine State.leads_pdRecv ?_ _ _ _ _ (fun x0 hx0 => ?_)
  · exact h
  · extract_lets -merge -underBinder +onlyGivenNames x1
    have hx1 : r.Leads fl ot x1 := State.leads_pdIdle (State.leads_wr (State.leads_pdSend (State.leads_count hx0 _ _) _
        _ _) _ _ _) _
    clear_value x1
    exact State.leads_when hx1 _ _ (fun x2 hx2 => State.leads_sendCaps hx2 _)

theorem State.leads_execSourceCapabilities {fl ot : Bool} {r s : State} (h : r.Leads fl ot s) (n : Nat) (raw : List
    Nat) : r.LeadsR fl ot (execSourceCapabilities n raw s) := by
  unfold execSourceCapabilities
  refine State.leadsR_next ?_
  refine State.leads_pdRecv ?_ _ _ _ _ (fun x0 hx0 => ?_)
  · exact h
  · refine State.leads_ite ?_ ?_
    · exact State.leads_pdSend hx0 _ _ _
    · extract_lets -merge -underBinder +onlyGivenNames x1
      have hx1 : r.Leads fl ot x1 := State.leads_foldl hx0 _ _ fun x2 y2 hx2 => State.leads_wr hx2 _ _ _
      clear_value x1
      exact State.leads_sendRequest (State.leads_wr hx1 _ _ _) _

theorem State.leads_execErrorRecoveryDone {fl ot : Bool} {r s : State} (h : r.Leads fl ot s) (n : Nat) : r.LeadsR fl ot
    (execErrorRecoveryDone n s) := by
  unfold execErrorRecoveryDone
  exact State.leadsR_next (State.leads_when h _ _ (fun x0 hx0 => State.leads_unattach hx0 _))

theorem State.leads_execCcAttach {fl ot : Bool} {r s : State} (h : r.Leads fl ot s) (n : Nat) (cc : Nat) (vbus : Nat) :
    r.LeadsR fl ot (execCcAttach n cc vbus s) := by
  unfold execCcAttach
  extract_lets -merge -underBinder +onlyGivenNames x0
  try clear_value x0
  split
  · extract_lets -merge -underBinder +onlyGivenNames x1
    try clear_value x1
    extract_lets -merge -underBinder +onlyGivenNames x2
    try clear_value x2
    refine State.leadsR_next ?_
    extract_lets -merge -underBinder +onlyGivenNames x3
    have hx3 : r.Leads fl ot x3 := State.leads_wr (State.leads_wakes (State.leads_measure h _ _ _) _) _ _ _
    clear_value x3
    refine State.leads_when ?_ _ _ (fun x4 hx4 => ?_)
    · exact hx3
    · extract_lets -merge -underBinder +onlyGivenNames x5
      try clear_value x5
      extract_lets -merge -underBinder +onlyGivenNames x6
      have hx6 : r.Leads fl ot x6 := State.leads_wr (State.leads_wr (State.leads_takeRole hx4 _ _) _ _ _) _ _ _
      clear_value x6
      extract_lets -merge -underBinder +onlyGivenNames x7
      have hx7 : r.Leads fl ot x7 := State.leads_wr (State.leads_wr (State.leads_wr hx6 _ _ _) _ _ _) _ _ _
      clear_value x7
      extract_lets -merge -underBinder +onlyGivenNames x8
      have hx8 : r.Leads fl ot x8 := State.leads_when hx7 _ _ (fun x9 hx9 => State.leads_wr (State.leads_wr hx9 _ _ _)
          _ _ _)
      clear_value x8
      extract_lets -merge -underBinder +onlyGivenNames x10
      have hx10 : r.Leads fl ot x10 := State.leads_setInt (State.leads_voidContract hx8 _ _) _ _
      clear_value x10
      extract_lets -merge -underBinder +onlyGivenNames x11
      have hx11 : r.Leads fl ot x11 := State.leads_when hx10 _ _ (fun x12 hx12 => State.leads_takeVconn hx12 _)
      clear_value x11
      extract_lets -merge -underBinder +onlyGivenNames x13
      have hx13 : r.Leads fl ot x13 := State.leads_wr hx11 _ _ _
      clear_value x13
      extract_lets -merge -underBinder +onlyGivenNames x14
      have hx14 : r.Leads fl ot x14 := State.leads_askSafe hx13 _ _ _ _ _
      clear_value x14
      exact State.leads_when hx14 _ _ (fun x15 hx15 => State.leads_sendCaps (State.leads_allotPort hx15 _) _)

theorem State.leads_execGoodcrcMissing {fl ot : Bool} {r s : State} (h : r.Leads fl ot s) (n : Nat) : r.LeadsR fl ot
    (execGoodcrcMissing n s) := by
  unfold execGoodcrcMissing
  dsimp only
  repeat' (with_reducible first
    | assumption | apply State.leads_count | apply State.leads_raise | apply State.leads_send
    | apply State.leads_wr | apply State.leads_when | apply State.leads_foldl | intro _ | apply State.leadsR_next
    | apply State.leadsR_ite | apply State.leads_ite | apply State.leads_of_fst (by assumption) | split
    | apply State.leads_mk)

theorem State.leads_execDbatStart {fl ot : Bool} {r s : State} (h : r.Leads fl ot s) (n : Nat) (vbus : Nat) : r.LeadsR
    fl ot (execDbatStart n vbus s) := by
  unfold execDbatStart
  refine State.leadsR_next ?_
  refine State.leads_when ?_ _ _ (fun x0 hx0 => ?_)
  · exact h
  · extract_lets -merge -underBinder +onlyGivenNames x1
    have hx1 : r.Leads fl ot x1 := State.leads_wr (State.leads_wr (State.leads_wr hx0 _ _ _) _ _ _) _ _ _
    clear_value x1
    extract_lets -merge -underBinder +onlyGivenNames x2
    have hx2 : r.Leads fl ot x2 := State.leads_voidContract (State.leads_measure hx1 _ _ _) _ _
    clear_value x2
    exact State.leads_when hx2 _ _ (fun x3 hx3 => State.leads_wr (State.leads_closeNow hx3 _ _) _ _ _)

theorem State.leads_execSwapVconn {fl ot : Bool} {r s : State} (h : r.Leads fl ot s) (who : Initiator) (n : Nat) :
    r.LeadsR fl ot (execSwapVconn who n s) := by
  unfold execSwapVconn
  exact State.leadsR_next (State.leads_pdQueue h _ _ _ _)

theorem State.leads_execSinktxExpiry {fl ot : Bool} {r s : State} (h : r.Leads fl ot s) (n : Nat) : r.LeadsR fl ot
    (execSinktxExpiry n s) := by
  unfold execSinktxExpiry
  extract_lets -merge -underBinder +onlyGivenNames x0
  try clear_value x0
  extract_lets -merge -underBinder +onlyGivenNames x1
  try clear_value x1
  exact State.leadsR_next (State.leads_when h _ _ (fun x2 hx2 => State.leads_ite (State.leads_pdTransmit hx2 _)
      (State.leads_when hx2 _ _ (fun x3 hx3 => State.leads_pdStart hx3 _ _))))

theorem State.leads_execEnterMode {fl ot : Bool} {r s : State} (h : r.Leads fl ot s) (n : Nat) (ack : Bool) (raw : List
    Nat) : r.LeadsR fl ot (execEnterMode n ack raw s) := by
  unfold execEnterMode
  extract_lets -merge -underBinder +onlyGivenNames x0
  try clear_value x0
  extract_lets -merge -underBinder +onlyGivenNames x1
  try clear_value x1
  exact State.leadsR_next (State.leads_pdRecv h _ _ _ _ (fun x2 hx2 => State.leads_ite (State.leads_ite
      (State.leads_pdIdle (State.leads_takeMode hx2 _ _) _) (State.leads_pdRefused hx2 _)) (State.leads_ite
      (State.leads_when (State.leads_takeMode (State.leads_pdSend hx2 _ _ _) _ _) _ _ (fun x3 hx3 => State.leads_pdIdle
      hx3 _)) (State.leads_pdSend hx2 _ _ _))))

theorem State.leads_execFrSwap {fl ot : Bool} {r s : State} (h : r.Leads fl ot s) (n : Nat) (raw : List Nat) : r.LeadsR
    fl ot (execFrSwap n raw s) := by
  unfold execFrSwap
  exact State.leadsR_next (State.leads_pdRecv h _ _ _ _ (fun x0 hx0 => State.leads_ite (State.leads_pdStep
      (State.leads_pdPhase (State.leads_pdSend (State.leads_pdSend hx0 _ _ _) _ _ _) _ _) _ _) (State.leads_swapReject
      hx0 _)))

theorem State.leads_execReject {fl ot : Bool} {r s : State} (h : r.Leads fl ot s) (n : Nat) (raw : List Nat) : r.LeadsR
    fl ot (execReject n raw s) := by
  unfold execReject
  exact State.leadsR_next (State.leads_pdRecv h _ _ _ _ (fun x0 hx0 => State.leads_pdRefused hx0 _))

theorem State.leads_pdClosed {fl ot : Bool} {r s : State} (h : r.Leads fl ot s) (n : Nat) : r.Leads fl ot
    (State.pdClosed s n) := by
  unfold State.pdClosed
  exact State.leads_when h _ _ (fun x0 hx0 => State.leads_swapDone (State.leads_pdSend hx0 _ _ _) _ _)

theorem State.leads_execPsRdy {fl ot : Bool} {r s : State} (h : r.Leads fl ot s) (n : Nat) (raw : List Nat) (frs :
    Bool) : r.LeadsR fl ot (execPsRdy n raw frs s) := by
  unfold execPsRdy
  extract_lets -merge -underBinder +onlyGivenNames x0
  try clear_value x0
  refine State.leadsR_next ?_
  refine State.leads_pdRecv ?_ _ _ _ _ (fun x1 hx1 => ?_)
  · exact h
  · split
    · extract_lets -merge -underBinder +onlyGivenNames x2
      have hx2 : r.Leads fl ot x2 := State.leads_contractDone hx1 _
      clear_value x2
      extract_lets -merge -underBinder +onlyGivenNames x3
      try clear_value x3
      extract_lets -merge -underBinder +onlyGivenNames x4
      have hx4 : r.Leads fl ot x4 := State.leads_when hx2 _ _ (fun x5 hx5 => State.leads_askSafe hx5 _ _ _ _ _)
      clear_value x4
      exact State.leads_wr hx4 _ _ _
    · exact State.leads_swapDone (State.leads_askSafe (State.leads_takeRole hx1 _ _) _ _ _ _ _) _ _
    · exact State.leads_pdClosed (State.leads_askSafe (State.leads_pdStep (State.leads_pdPhase (State.leads_setSupply
          (State.leads_takeRole hx1 _ _) _ _) _ _) _ _) _ _ _ _ _) _
    · exact State.leads_swapDone (State.leads_wr (State.leads_askSafe hx1 _ _ _ _ _) _ _ _) _ _
    · exact State.leads_swapDone (State.leads_pdSend (State.leads_takeRole hx1 _ _) _ _ _) _ _
    · exact State.leads_swapDone (State.leads_askSafe (State.leads_takeRole hx1 _ _) _ _ _ _ _) _ _
    · exact hx1

theorem State.leads_execHardReset {fl ot : Bool} {r s : State} (h : r.Leads fl ot s) (who : Initiator) (n : Nat) :
    r.LeadsR fl ot (execHardReset who n s) := by
  unfold execHardReset
  exact State.leadsR_next (State.leads_pdQueue h _ _ _ _)

theorem State.leads_execSenderResponseTimeout {fl ot : Bool} {r s : State} (h : r.Leads fl ot s) (n : Nat) : r.LeadsR
    fl ot (execSenderResponseTimeout n s) := by
  unfold execSenderResponseTimeout
  extract_lets -merge -underBinder +onlyGivenNames x0
  try clear_value x0
  refine State.leadsR_next ?_
  refine State.leads_when ?_ _ _ (fun x1 hx1 => ?_)
  · exact h
  · split
    · exact State.leads_ite (State.leads_sendHardReset hx1 _) hx1
    · exact State.leads_sendHardReset hx1 _
    · exact State.leads_sendHardReset hx1 _
    · exact State.leads_pdRefused hx1 _

theorem State.leads_execNoResponseTimeout {fl ot : Bool} {r s : State} (h : r.Leads fl ot s) (n : Nat) : r.LeadsR fl ot
    (execNoResponseTimeout n s) := by
  unfold execNoResponseTimeout
  extract_lets -merge -underBinder +onlyGivenNames x0
  try clear_value x0
  exact State.leadsR_next (State.leads_when h _ _ (fun x1 hx1 => State.leads_ite (State.leads_sendHardReset hx1 _)
      (State.leads_enterNext (State.leads_pdIdle hx1 _) _)))

theorem State.leads_execEprEnter {fl ot : Bool} {r s : State} (h : r.Leads fl ot s) (who : Initiator) (n : Nat) :
    r.LeadsR fl ot (execEprEnter who n s) := by
  unfold execEprEnter
  exact State.leadsR_next (State.leads_pdQueue h _ _ _ _)

theorem State.leads_execWait {fl ot : Bool} {r s : State} (h : r.Leads fl ot s) (n : Nat) (raw : List Nat) : r.LeadsR
    fl ot (execWait n raw s) := by
  unfold execWait
  extract_lets -merge -underBinder +onlyGivenNames x0
  try clear_value x0
  exact State.leadsR_next (State.leads_pdRecv h _ _ _ _ (fun x1 hx1 => State.leads_ite (State.leads_pdStep
      (State.leads_count hx1 _ _) _ _) (State.leads_pdRefused hx1 _)))

theorem State.leads_execSrcRecover {fl ot : Bool} {r s : State} (h : r.Leads fl ot s) (n : Nat) : r.LeadsR fl ot
    (execSrcRecover n s) := by
  unfold execSrcRecover
  refine State.leadsR_next ?_
  refine State.leads_when ?_ _ _ (fun x0 hx0 => ?_)
  · exact h
  · extract_lets -merge -underBinder +onlyGivenNames x1
    have hx1 : r.Leads fl ot x1 := State.leads_pdStep (State.leads_askSafe (State.leads_setSupply hx0 _ _) _ _ _ _ _) _
        _
    clear_value x1
    exact State.leads_when hx1 _ _ (fun x2 hx2 => State.leads_sendCaps (State.leads_allotPort hx2 _) _)

theorem State.leads_execEprKeepalive {fl ot : Bool} {r s : State} (h : r.Leads fl ot s) (n : Nat) (raw : List Nat) :
    r.LeadsR fl ot (execEprKeepalive n raw s) := by
  unfold execEprKeepalive
  exact State.leadsR_next (State.leads_pdRecv h _ _ _ _ (fun x0 hx0 => State.leads_when hx0 _ _ (fun x1 hx1 =>
      State.leads_pdSend (State.leads_wr hx1 _ _ _) _ _ _)))

theorem State.leads_execPdCntClr {fl ot : Bool} {r s : State} (h : r.Leads fl ot s) (who : Initiator) (n : Nat) :
    r.LeadsR fl ot (execPdCntClr who n s) := by
  unfold execPdCntClr
  exact State.leadsR_next (State.leads_access h _ _ _ _ (fun x0 hx0 => State.leads_clearFields hx0 _ _))

theorem State.leads_execSrcTransition {fl ot : Bool} {r s : State} (h : r.Leads fl ot s) (n : Nat) : r.LeadsR fl ot
    (execSrcTransition n s) := by
  unfold execSrcTransition
  extract_lets -merge -underBinder +onlyGivenNames x0
  try clear_value x0
  refine State.leadsR_next ?_
  refine State.leads_when ?_ _ _ (fun x1 hx1 => ?_)
  · exact h
  · split
    · exact State.leads_contractDone (State.leads_pdSend (State.leads_setSupply hx1 _ _) _ _ _) _
    · exact State.leads_pdStep (State.leads_pdPhase (State.leads_askSafe (State.leads_askSafe hx1 _ _ _ _ _) _ _ _ _ _)
          _ _) _ _
    · exact hx1

theorem State.leads_execAuthenticationMsg {fl ot : Bool} {r s : State} (h : r.Leads fl ot s) (n : Nat) (sop : Nat) :
    r.LeadsR fl ot (execAuthenticationMsg n sop s) := by
  unfold execAuthenticationMsg
  exact State.leadsR_next (State.leads_when h _ _ (fun x0 hx0 => State.leads_pdSend hx0 _ _ _))

theorem State.leads_execPrSwap {fl ot : Bool} {r s : State} (h : r.Leads fl ot s) (n : Nat) (raw : List Nat) : r.LeadsR
    fl ot (execPrSwap n raw s) := by
  unfold execPrSwap
  extract_lets -merge -underBinder +onlyGivenNames x0
  try clear_value x0
  refine State.leadsR_next ?_
  refine State.leads_pdRecv ?_ _ _ _ _ (fun x1 hx1 => ?_)
  · exact h
  · refine State.leads_ite ?_ ?_
    · exact State.leads_swapReject hx1 _
    · extract_lets -merge -underBinder +onlyGivenNames x2
      have hx2 : r.Leads fl ot x2 := State.leads_pdPhase (State.leads_pdSend hx1 _ _ _) _ _
      clear_value x2
      exact State.leads_ite (State.leads_pdStep hx2 _ _) (State.leads_pdStep (State.leads_askSafe hx2 _ _ _ _ _) _ _)

theorem State.leads_execPpsTimeout {fl ot : Bool} {r s : State} (h : r.Leads fl ot s) (n : Nat) : r.LeadsR fl ot
    (execPpsTimeout n s) := by
  unfold execPpsTimeout
  extract_lets -merge -underBinder +onlyGivenNames x0
  try clear_value x0
  exact State.leadsR_next (State.leads_when h _ _ (fun x1 hx1 => State.leads_sendHardReset (State.leads_raise hx1 _ _)
      _))

theorem State.leads_execRequest {fl ot : Bool} {r s : State} (h : r.Leads fl ot s) (n : Nat) (raw : List Nat) :
    r.LeadsR fl ot (execRequest n raw s) := by
  unfold execRequest
  exact State.leadsR_next (State.leads_pdRecv h _ _ _ _ (fun x0 hx0 => State.leads_ite (State.leads_answerRequest hx0 _
      _) (State.leads_pdSend hx0 _ _ _)))

end Sys2Proof.Machine
end

