-- ==== Sys2Proof/Laws/Lead/AlmOps.lean ====
section
/-! SUPPORT. What the operations of Machine/AlmOps.lean keep (State.Leads of Laws/Leads.lean). -/

namespace Sys2Proof.Machine

open Reg

theorem State.leads_earn {fl ot : Bool} {r s : State} (h : r.Leads fl ot s) (e : Nat) (a_r : Nat) (units : Nat) (t :
    Nat) : r.Leads fl ot (State.earn s e a_r units t) := by
  unfold State.earn
  extract_lets -merge -underBinder +onlyGivenNames x0
  try clear_value x0
  exact State.leads_wr h _ _ _

theorem State.leads_isoSend {fl ot : Bool} {r s : State} (h : r.Leads fl ot s) (port : Nat) (cop : Nat) (ks : List Nat)
    : r.Leads fl ot (State.isoSend s port cop ks) := by
  unfold State.isoSend
  refine State.leads_foldl ?_ _ _ fun x0 y0 hx0 => ?_
  · exact h
  extract_lets -merge -underBinder +onlyGivenNames x1
  try clear_value x1
  exact State.leads_foldl hx0 _ _ fun x2 y2 hx2 => State.leads_ctrlOut hx2 _ _

theorem State.leads_isoRx {fl ot : Bool} {r s : State} (h : r.Leads fl ot s) (port : Nat) (c : Ctrl) : r.Leads fl ot
    (State.isoRx s port c) := by
  unfold State.isoRx
  extract_lets -merge -underBinder +onlyGivenNames x0
  try clear_value x0
  extract_lets -merge -underBinder +onlyGivenNames x1
  try clear_value x1
  extract_lets -merge -underBinder +onlyGivenNames x2
  have hx2 : r.Leads fl ot x2 := (by
      unfold x2
      refine State.leads_foldl ?_ _ _ fun x3 y3 hx3 => ?_
      · exact h
      extract_lets -merge -underBinder +onlyGivenNames x4
      try clear_value x4
      exact State.leads_ite (State.leads_dispShort hx3 _ _ _) hx3)
  clear_value x2
  exact State.leads_foldl hx2 _ _ fun x5 y5 hx5 => State.leads_isoSend hx5 _ _ _

theorem State.leads_almCheck {fl ot : Bool} {r s : State} (h : r.Leads fl ot s) (e : Nat) : r.Leads fl ot
    (State.almCheck s e) := by
  unfold State.almCheck
  extract_lets -merge -underBinder +onlyGivenNames x0
  try clear_value x0
  split
  · exact State.leads_wr (State.leads_wr h _ _ _) _ _ _
  · exact State.leads_raise (State.leads_wr (State.leads_wr (State.leads_wr (State.leads_wr h _ _ _) _ _ _) _ _ _) _ _
        _) _ _

theorem State.leads_clampRow {fl ot : Bool} {r s : State} (h : r.Leads fl ot s) (e : Nat) (a_r : Nat) (units : Nat) :
    r.Leads fl ot (State.clampRow s e a_r units) := by
  unfold State.clampRow
  extract_lets -merge -underBinder +onlyGivenNames x0
  try clear_value x0
  exact State.leads_wr h _ _ _

theorem State.leads_almApply {fl ot : Bool} {r s : State} (h : r.Leads fl ot s) (e : Nat) : r.Leads fl ot
    (State.almApply s e) := by
  unfold State.almApply
  extract_lets -merge -underBinder +onlyGivenNames x0
  try clear_value x0
  extract_lets -merge -underBinder +onlyGivenNames x1
  have hx1 : r.Leads fl ot x1 := State.leads_foldl h _ _ fun x2 y2 hx2 => State.leads_foldl hx2 _ _ fun x3 y3 hx3 =>
      State.leads_wr hx3 _ _ _
  clear_value x1
  extract_lets -merge -underBinder +onlyGivenNames x4
  have hx4 : r.Leads fl ot x4 := State.leads_ite (State.leads_clampRow hx1 _ _ _) (State.leads_foldl hx1 _ _ fun x5 y5
      hx5 => State.leads_ite (State.leads_clampRow hx5 _ _ _) (State.leads_wr hx5 _ _ _))
  clear_value x4
  exact State.leads_count hx4 _ _

theorem State.leads_rowCheck {fl ot : Bool} {r s : State} (h : r.Leads fl ot s) (e : Nat) : r.Leads fl ot
    (State.rowCheck s e) := by
  unfold State.rowCheck
  refine State.leads_ite ?_ ?_
  · exact h
  · extract_lets -merge -underBinder +onlyGivenNames x0
    try clear_value x0
    extract_lets -merge -underBinder +onlyGivenNames x1
    have hx1 : r.Leads fl ot x1 := State.leads_foldl h _ _ fun x2 y2 hx2 => State.leads_wr hx2 _ _ _
    clear_value x1
    exact State.leads_when hx1 _ _ (fun x3 hx3 => State.leads_raise hx3 _ _)

theorem State.leads_epochMode {fl ot : Bool} {r s : State} (h : r.Leads fl ot s) (e : Nat) : r.Leads fl ot
    (State.epochMode s e) := by
  unfold State.epochMode
  extract_lets -merge -underBinder +onlyGivenNames x0
  try clear_value x0
  extract_lets -merge -underBinder +onlyGivenNames x1
  have hx1 : r.Leads fl ot x1 := State.leads_wr (State.leads_wr (State.leads_wr (State.leads_wr h _ _ _) _ _ _) _ _ _)
      _ _ _
  clear_value x1
  extract_lets -merge -underBinder +onlyGivenNames x2
  have hx2 : r.Leads fl ot x2 := State.leads_accSent hx1 _
  clear_value x2
  extract_lets -merge -underBinder +onlyGivenNames x3
  try clear_value x3
  extract_lets -merge -underBinder +onlyGivenNames x4
  try clear_value x4
  extract_lets -merge -underBinder +onlyGivenNames x5
  try clear_value x5
  extract_lets -merge -underBinder +onlyGivenNames x6
  have hx6 : r.Leads fl ot x6 := State.leads_foldl hx2 _ _ fun x7 y7 hx7 => State.leads_wr hx7 _ _ _
  clear_value x6
  refine State.leads_ite ?_ ?_
  · exact State.leads_wr hx6 _ _ _
  · extract_lets -merge -underBinder +onlyGivenNames x8
    try clear_value x8
    extract_lets -merge -underBinder +onlyGivenNames x9
    try clear_value x9
    extract_lets -merge -underBinder +onlyGivenNames x10
    try clear_value x10
    extract_lets -merge -underBinder +onlyGivenNames x11
    try clear_value x11
    extract_lets -merge -underBinder +onlyGivenNames x12
    try clear_value x12
    extract_lets -merge -underBinder +onlyGivenNames x13
    try clear_value x13
    extract_lets -merge -underBinder +onlyGivenNames x14
    have hx14 : r.Leads fl ot x14 := State.leads_wr (State.leads_wr hx6 _ _ _) _ _ _
    clear_value x14
    extract_lets -merge -underBinder +onlyGivenNames x15
    have hx15 : r.Leads fl ot x15 := State.leads_when hx14 _ _ (fun x16 hx16 => State.leads_count hx16 _ _)
    clear_value x15
    extract_lets -merge -underBinder +onlyGivenNames x17
    have hx17 : r.Leads fl ot x17 := State.leads_when hx15 _ _ (fun x18 hx18 => State.leads_count hx18 _ _)
    clear_value x17
    extract_lets -merge -underBinder +onlyGivenNames x19
    have hx19 : r.Leads fl ot x19 := State.leads_when hx17 _ _ (fun x20 hx20 => State.leads_raise hx20 _ _)
    clear_value x19
    extract_lets -merge -underBinder +onlyGivenNames x21
    have hx21 : r.Leads fl ot x21 := State.leads_when hx19 _ _ (fun x22 hx22 => State.leads_raise hx22 _ _)
    clear_value x21
    refine State.leads_ite ?_ ?_
    · extract_lets -merge -underBinder +onlyGivenNames x23
      have hx23 : r.Leads fl ot x23 := State.leads_wr hx21 _ _ _
      clear_value x23
      exact State.leads_when hx23 _ _ (fun x24 hx24 => State.leads_wr (State.leads_isoSend hx24 _ _ _) _ _ _)
    · refine State.leads_ite ?_ ?_
      · extract_lets -merge -underBinder +onlyGivenNames x25
        try clear_value x25
        exact State.leads_ite (State.leads_wr (State.leads_wr (State.leads_isoSend hx21 _ _ _) _ _ _) _ _ _)
            (State.leads_wr hx21 _ _ _)
      · exact hx21

theorem State.leads_calendarSlot {fl ot : Bool} {r s : State} (h : r.Leads fl ot s) (t : Nat) : r.Leads fl ot
    (State.calendarSlot s t) := by
  unfold State.calendarSlot
  extract_lets -merge -underBinder +onlyGivenNames x0
  have hx0 : r.Leads fl ot x0 := State.leads_foldl h _ _ fun x1 y1 hx1 => State.leads_foldl hx1 _ _ fun x2 y2 hx2 =>
      State.leads_ite hx2 (State.leads_earn hx2 _ _ _ _)
  clear_value x0
  refine State.leads_foldl ?_ _ _ fun x3 y3 hx3 => ?_
  · exact hx0
  extract_lets -merge -underBinder +onlyGivenNames x4
  try clear_value x4
  exact State.leads_ite hx3 (State.leads_earn hx3 _ _ _ _)

end Sys2Proof.Machine
end

