-- ==== Sys2Proof/Laws/Lead/ArmOps.lean ====
section
/-! SUPPORT. What the operations of Machine/ArmOps.lean keep (State.Leads of Laws/Leads.lean). -/

namespace Sys2Proof.Machine

open Reg

theorem State.leads_armLink {fl ot : Bool} {r s : State} (h : r.Leads fl ot s) (port : Nat) : r.Leads fl ot
    (State.armLink s port) := by
  unfold State.armLink
  extract_lets -merge -underBinder +onlyGivenNames x0
  try clear_value x0
  refine State.leads_ite ?_ ?_
  · exact State.leads_turnAbort h _
  · extract_lets -merge -underBinder +onlyGivenNames x1
    have hx1 : r.Leads fl ot x1 := State.leads_queueLink h _ _
    clear_value x1
    extract_lets -merge -underBinder +onlyGivenNames x2
    have hx2 : r.Leads fl ot x2 := State.leads_wakeLink hx1 _
    clear_value x2
    exact State.leads_when hx2 _ _ (fun x3 hx3 => State.leads_turnAnswer hx3 _)

theorem State.leads_armOne {fl ot : Bool} {r s : State} (h : r.Leads fl ot s) (p : Page) (target : Nat) : r.Leads fl ot
    (State.armOne s p target).1 := by
  unfold State.armOne
  refine State.leads_ite_fst ?_ ?_
  · exact State.leads_pair h
  · extract_lets -merge -underBinder +onlyGivenNames x0
    have hx0 : r.Leads fl ot x0 := State.leads_wr h _ _ _
    clear_value x0
    extract_lets -merge -underBinder +onlyGivenNames x1
    try clear_value x1
    refine State.leads_ite_fst ?_ ?_
    · exact State.leads_pair (State.leads_setInt (State.leads_wr hx0 _ _ _) _ _)
    · extract_lets -merge -underBinder +onlyGivenNames x2
      have hx2 : r.Leads fl ot x2 := State.leads_wr hx0 _ _ _
      clear_value x2
      extract_lets -merge -underBinder +onlyGivenNames x3
      have hx3 : r.Leads fl ot x3 := (by
          unfold x3
          split
          · exact State.leads_almCheck hx2 _
          · exact State.leads_ite hx2 (State.leads_armLink hx2 _)
          · exact hx2)
      clear_value x3
      exact State.leads_pair hx3

theorem State.leads_placeRows {fl ot : Bool} {r s : State} (h : r.Leads fl ot s) (e k : Nat) (l : List Nat) :
    r.Leads fl ot (State.placeRows s e k l) := by
  induction l generalizing s k with
  | nil => cases k <;> exact h
  | cons a l ih =>
    cases k with
    | zero => exact h
    | succ k =>
      unfold State.placeRows
      split
      · exact h
      · exact ih (State.leads_wr (State.leads_wr (State.leads_wr h _ _ _) _ _ _) _ _ _) _

theorem State.leads_deriveAlm {fl ot : Bool} {r s : State} (h : r.Leads fl ot s) (e : Nat) : r.Leads fl ot
    (State.deriveAlm s e) := by
  unfold State.deriveAlm
  extract_lets -merge -underBinder +onlyGivenNames x0
  try clear_value x0
  extract_lets -merge -underBinder +onlyGivenNames x1
  try clear_value x1
  extract_lets -merge -underBinder +onlyGivenNames x2
  try clear_value x2
  extract_lets -merge -underBinder +onlyGivenNames x3
  try clear_value x3
  extract_lets -merge -underBinder +onlyGivenNames x4
  try clear_value x4
  extract_lets -merge -underBinder +onlyGivenNames x5
  have hx5 : r.Leads fl ot x5 := State.leads_wr (State.leads_wr (State.leads_wr h _ _ _) _ _ _) _ _ _
  clear_value x5
  refine State.leads_ite ?_ ?_
  · exact State.leads_wr hx5 _ _ _
  · extract_lets -merge -underBinder +onlyGivenNames x6
    try clear_value x6
    extract_lets -merge -underBinder +onlyGivenNames x7
    try clear_value x7
    extract_lets -merge -underBinder +onlyGivenNames x8
    try clear_value x8
    extract_lets -merge -underBinder +onlyGivenNames x9
    have hx9 : r.Leads fl ot x9 := State.leads_foldl hx5 _ _ fun x10 y10 hx10 => State.leads_ite (State.leads_wr hx10 _
        _ _) (State.leads_wr (State.leads_wr (State.leads_wr hx10 _ _ _) _ _ _) _ _ _)
    clear_value x9
    exact State.leads_placeRows hx9 _ _ _

theorem State.leads_deriveAll {fl ot : Bool} {r s : State} (h : r.Leads fl ot s) (target : Nat) : r.Leads fl ot
    (State.deriveAll s target) := by
  unfold State.deriveAll
  refine State.leads_ite ?_ ?_
  · exact h
  · refine State.leads_foldl ?_ _ _ fun x0 y0 hx0 => ?_
    · exact h
    refine State.leads_ite ?_ ?_
    · exact hx0
    · extract_lets -merge -underBinder +onlyGivenNames x1
      have hx1 : r.Leads fl ot x1 := State.leads_deriveAlm hx0 _
      clear_value x1
      exact State.leads_ite (State.leads_armOne hx1 _ _) hx1

theorem State.leads_armTurn {fl ot : Bool} {r s : State} (h : r.Leads fl ot s) (p : Page) (target : Nat) :
    r.Leads fl ot (State.armTurn s p target).1 := by
  have h1 := State.leads_armOne h p target
  unfold State.armTurn
  split
  · rename_i t heq
    exact State.leads_ite (State.leads_deriveAll (State.leads_of_fst heq h1) _) (State.leads_of_fst heq h1)
  · exact h1

theorem State.leads_armPaths {fl ot : Bool} {r s : State} (h : r.Leads fl ot s) : r.Leads fl ot (State.armPaths s) := by
  unfold State.armPaths
  exact State.leads_armTurn h _ _

theorem State.leads_cancelArm {fl ot : Bool} {r s : State} (h : r.Leads fl ot s) (p : Page) : r.Leads fl ot
    (State.cancelArm s p) := by
  unfold State.cancelArm
  exact State.leads_when (State.leads_wr h _ _ _) _ _ (fun x0 hx0 => State.leads_wr hx0 _ _ _)

end Sys2Proof.Machine
end

