-- ==== Sys2Proof/Laws/Lead/PathOps.lean ====
section
/-! SUPPORT. What the operations of Machine/PathOps.lean keep (State.Leads of Laws/Leads.lean). -/

namespace Sys2Proof.Machine

open Reg

theorem State.leads_sbFirst {fl ot : Bool} {r s : State} (h : r.Leads fl ot s) (k : Nat) : r.Leads fl ot (State.sbFirst
    s k) := by
  unfold State.sbFirst
  exact State.leads_foldl h _ _ fun x0 y0 hx0 => State.leads_when hx0 _ _ (fun x1 hx1 => State.leads_wr hx1 _ _ _)

theorem State.leads_applyNew {fl ot : Bool} {r s : State} (h : r.Leads fl ot s) (k : Nat) : r.Leads fl ot
    (State.applyNew s k) := by
  unfold State.applyNew
  extract_lets -merge -underBinder +onlyGivenNames x0
  try clear_value x0
  extract_lets -merge -underBinder +onlyGivenNames x1
  have hx1 : r.Leads fl ot x1 := State.leads_wr (State.leads_wr (State.leads_wr h _ _ _) _ _ _) _ _ _
  clear_value x1
  exact State.leads_foldl hx1 _ _ fun x2 y2 hx2 => State.leads_wr hx2 _ _ _

theorem State.leads_freeEntry {fl ot : Bool} {r s : State} (h : r.Leads fl ot s) (k : Nat) : r.Leads fl ot
    (State.freeEntry s k) := by
  unfold State.freeEntry
  exact State.leads_foldl h _ _ fun x0 y0 hx0 => State.leads_wr hx0 _ _ _

theorem State.leads_rekey {fl ot : Bool} {r s : State} (h : r.Leads fl ot s) (old : Nat) (new : Nat) : r.Leads fl ot
    (State.rekey s old new) := by
  unfold State.rekey
  extract_lets -merge -underBinder +onlyGivenNames x0
  try clear_value x0
  extract_lets -merge -underBinder +onlyGivenNames x1
  try clear_value x1
  exact State.leads_mk h ..

theorem State.leads_applyOver {fl ot : Bool} {r s : State} (h : r.Leads fl ot s) (k : Nat) (o : Nat) : r.Leads fl ot
    (State.applyOver s k o) := by
  unfold State.applyOver
  extract_lets -merge -underBinder +onlyGivenNames x0
  try clear_value x0
  extract_lets -merge -underBinder +onlyGivenNames x1
  try clear_value x1
  extract_lets -merge -underBinder +onlyGivenNames x2
  try clear_value x2
  extract_lets -merge -underBinder +onlyGivenNames x3
  try clear_value x3
  extract_lets -merge -underBinder +onlyGivenNames x4
  try clear_value x4
  extract_lets -merge -underBinder +onlyGivenNames x5
  try clear_value x5
  extract_lets -merge -underBinder +onlyGivenNames x6
  try clear_value x6
  extract_lets -merge -underBinder +onlyGivenNames x7
  try clear_value x7
  extract_lets -merge -underBinder +onlyGivenNames x8
  try clear_value x8
  extract_lets -merge -underBinder +onlyGivenNames x9
  try clear_value x9
  extract_lets -merge -underBinder +onlyGivenNames x10
  have hx10 : r.Leads fl ot x10 := State.leads_wr (State.leads_applyNew h _) _ _ _
  clear_value x10
  extract_lets -merge -underBinder +onlyGivenNames x11
  have hx11 : r.Leads fl ot x11 := State.leads_foldl hx10 _ _ fun x12 y12 hx12 => State.leads_wr hx12 _ _ _
  clear_value x11
  extract_lets -merge -underBinder +onlyGivenNames x13
  have hx13 : r.Leads fl ot x13 := State.leads_wr (State.leads_wr hx11 _ _ _) _ _ _
  clear_value x13
  extract_lets -merge -underBinder +onlyGivenNames x14
  have hx14 : r.Leads fl ot x14 := State.leads_when hx13 _ _ (fun x15 hx15 => State.leads_wr (State.leads_wr
      (State.leads_wr (State.leads_wr hx15 _ _ _) _ _ _) _ _ _) _ _ _)
  clear_value x14
  exact State.leads_rekey (State.leads_freeEntry hx14 _) _ _

theorem State.leads_entryReject {fl ot : Bool} {r s : State} (h : r.Leads fl ot s) : r.Leads fl ot (State.entryReject
    s) := by
  unfold State.entryReject
  exact State.leads_raise h _ _

theorem State.leads_checkPartner {fl ot : Bool} {r s : State} (h : r.Leads fl ot s) (k : Nat) : r.Leads fl ot
    (State.checkPartner s k) := by
  unfold State.checkPartner
  extract_lets -merge -underBinder +onlyGivenNames x0
  try clear_value x0
  exact State.leads_ite (State.leads_entryReject (State.leads_wr h _ _ _)) h

theorem State.leads_pathApply {fl ot : Bool} {r s : State} (h : r.Leads fl ot s) : r.Leads fl ot (State.pathApply s) :=
    by
  unfold State.pathApply
  extract_lets -merge -underBinder +onlyGivenNames x0
  try clear_value x0
  extract_lets -merge -underBinder +onlyGivenNames x1
  try clear_value x1
  extract_lets -merge -underBinder +onlyGivenNames x2
  try clear_value x2
  extract_lets -merge -underBinder +onlyGivenNames x3
  try clear_value x3
  extract_lets -merge -underBinder +onlyGivenNames x4
  have hx4 : r.Leads fl ot x4 := (by
      unfold x4
      refine State.leads_foldl ?_ _ _ fun x5 y5 hx5 => ?_
      · exact h
      split
      · exact State.leads_applyOver hx5 _ _
      · exact State.leads_sbFirst (State.leads_applyNew hx5 _) _)
  clear_value x4
  extract_lets -merge -underBinder +onlyGivenNames x6
  have hx6 : r.Leads fl ot x6 := State.leads_foldl hx4 _ _ fun x7 y7 hx7 => State.leads_wr hx7 _ _ _
  clear_value x6
  extract_lets -merge -underBinder +onlyGivenNames x8
  have hx8 : r.Leads fl ot x8 := State.leads_foldl hx6 _ _ fun x9 y9 hx9 => State.leads_checkPartner hx9 _
  clear_value x8
  extract_lets -merge -underBinder +onlyGivenNames x10
  have hx10 : r.Leads fl ot x10 := State.leads_foldl hx8 _ _ fun x11 y11 hx11 => State.leads_when hx11 _ _ (fun x12
      hx12 => State.leads_wr hx12 _ _ _)
  clear_value x10
  exact State.leads_foldl hx10 _ _ fun x13 y13 hx13 => State.leads_when hx13 _ _ (fun x14 hx14 => State.leads_dueCredit
      hx14 _ _)

theorem State.leads_entryWrite {fl ot : Bool} {r s : State} (h : r.Leads fl ot s) (t : State) (k : Nat) (moab : Bool)
    (ht : r.Leads fl ot t) : r.Leads fl ot (State.entryWrite s t k moab) := by
  unfold State.entryWrite
  extract_lets p old new fields
  repeat' (with_reducible first
    | assumption | apply State.leads_entryReject | apply State.leads_wr | apply State.leads_ite)

theorem State.leads_releaseEntry {fl ot : Bool} {r s : State} (h : r.Leads fl ot s) (k : Nat) : r.Leads fl ot
    (State.releaseEntry s k) := by
  unfold State.releaseEntry
  split
  · exact State.leads_freeEntry h _
  · exact State.leads_wr h _ _ _
  · exact h

theorem State.leads_raiseRefuse {fl ot : Bool} {r s : State} (h : r.Leads fl ot s) (a1 : Refuse) : r.Leads fl ot
    (State.raiseRefuse s a1) := by
  unfold State.raiseRefuse
  split
  · exact h
  · exact State.leads_raise h _ _
  · exact State.leads_raise h _ _
  · exact State.leads_raise h _ _
  · exact State.leads_raise h _ _
  · exact State.leads_raise h _ _

theorem State.leads_releaseSlot {fl ot : Bool} {r s : State} (h : r.Leads fl ot s) (d : Nat) : r.Leads fl ot
    (State.releaseSlot s d) := by
  unfold State.releaseSlot
  refine State.leads_ite ?_ ?_
  · exact State.leads_wr h _ _ _
  · extract_lets -merge -underBinder +onlyGivenNames x0
    have hx0 : r.Leads fl ot x0 := State.leads_foldl h _ _ fun x1 y1 hx1 => State.leads_releaseEntry hx1 _
    clear_value x0
    exact State.leads_armPaths (State.leads_wr hx0 _ _ _)

theorem State.leads_unbind {fl ot : Bool} {r s : State} (h : r.Leads fl ot s) (d : Nat) : r.Leads fl ot (State.unbind s
    d) := by
  unfold State.unbind
  exact State.leads_clearFields h _ _

end Sys2Proof.Machine
end

