-- ==== Sys2Proof/Laws/Lead/Usb.lean ====
section
/-! SUPPORT. What the operations of Machine/Usb.lean keep (State.Leads of Laws/Leads.lean). -/

namespace Sys2Proof.Machine

open Reg

theorem State.leads_ssFeature {fl ot : Bool} {r s : State} (h : r.Leads fl ot s) (n : Nat) (f : PortFeature) : r.Leads
    fl ot (State.ssFeature s n f) := by
  unfold State.ssFeature
  extract_lets -merge -underBinder +onlyGivenNames x0
  try clear_value x0
  extract_lets -merge -underBinder +onlyGivenNames x1
  try clear_value x1
  split
  · exact State.leads_when h _ _ (fun x2 hx2 => State.leads_setSs hx2 _ _)
  · exact State.leads_setSs h _ _
  · exact State.leads_when h _ _ (fun x3 hx3 => State.leads_setSs hx3 _ _)
  · exact State.leads_when h _ _ (fun x4 hx4 => State.leads_setSs hx4 _ _)
  · exact State.leads_when h _ _ (fun x5 hx5 => State.leads_setSs hx5 _ _)
  · exact State.leads_when h _ _ (fun x6 hx6 => State.leads_setSs hx6 _ _)
  · exact State.leads_wr h _ _ _
  · exact State.leads_when (State.leads_wr h _ _ _) _ _ (fun x7 hx7 => State.leads_wr hx7 _ _ _)

theorem State.leads_execFbRefresh {fl ot : Bool} {r s : State} (h : r.Leads fl ot s) (count : Nat) : r.LeadsR fl ot
    (execFbRefresh count s) := by
  unfold execFbRefresh
  exact State.leadsR_next (State.leads_when h _ _ (fun x0 hx0 => State.leads_wr (State.leads_wr hx0 _ _ _) _ _ _))

theorem State.leads_execUhCntClr {fl ot : Bool} {r s : State} (h : r.Leads fl ot s) (who : Initiator) : r.LeadsR fl ot
    (execUhCntClr who s) := by
  unfold execUhCntClr
  exact State.leadsR_next (State.leads_access h _ _ _ _ (fun x0 hx0 => State.leads_clearFields hx0 _ _))

theorem State.leads_hsFeature {fl ot : Bool} {r s : State} (h : r.Leads fl ot s) (n : Nat) (f : PortFeature) : r.Leads
    fl ot (State.hsFeature s n f) := by
  unfold State.hsFeature
  extract_lets -merge -underBinder +onlyGivenNames x0
  try clear_value x0
  extract_lets -merge -underBinder +onlyGivenNames x1
  try clear_value x1
  extract_lets -merge -underBinder +onlyGivenNames x2
  try clear_value x2
  split
  · exact State.leads_when h _ _ (fun x3 hx3 => State.leads_setHs hx3 _ _)
  · exact State.leads_setHs h _ _
  · exact State.leads_when h _ _ (fun x4 hx4 => State.leads_setHs hx4 _ _)
  · exact State.leads_when h _ _ (fun x5 hx5 => State.leads_setHs hx5 _ _)
  · exact State.leads_when h _ _ (fun x6 hx6 => State.leads_setHs hx6 _ _)
  · exact State.leads_when h _ _ (fun x7 hx7 => State.leads_setHs hx7 _ _)
  · exact State.leads_wr h _ _ _
  · exact State.leads_when (State.leads_wr h _ _ _) _ _ (fun x8 hx8 => State.leads_wr hx8 _ _ _)

theorem State.leads_execMclkReturn {fl ot : Bool} {r s : State} (h : r.Leads fl ot s) : r.LeadsR fl ot (execMclkReturn
    s) := by
  unfold execMclkReturn
  exact State.leadsR_next (State.leads_when h _ _ (fun x0 hx0 => State.leads_wr hx0 _ _ _))

theorem State.leads_embFeature {fl ot : Bool} {r s : State} (h : r.Leads fl ot s) (f : PortFeature) : r.Leads fl ot
    (State.embFeature s f) := by
  unfold State.embFeature
  split
  · exact State.leads_when h _ _ (fun x0 hx0 => State.leads_wr hx0 _ _ _)
  · exact State.leads_embReset h _
  · exact State.leads_embReset h _
  · exact State.leads_when h _ _ (fun x1 hx1 => State.leads_embReset hx1 _)
  · exact State.leads_when h _ _ (fun x2 hx2 => State.leads_wr (State.leads_wr (State.leads_wr hx2 _ _ _) _ _ _) _ _ _)
  · exact State.leads_when h _ _ (fun x3 hx3 => State.leads_wr (State.leads_wr (State.leads_wr hx3 _ _ _) _ _ _) _ _ _)
  · exact h
  · exact h

theorem State.leads_execDownstreamWake {fl ot : Bool} {r s : State} (h : r.Leads fl ot s) (n : Nat) (ss : Bool) :
    r.LeadsR fl ot (execDownstreamWake n ss s) := by
  unfold execDownstreamWake
  extract_lets -merge -underBinder +onlyGivenNames x0
  try clear_value x0
  extract_lets -merge -underBinder +onlyGivenNames x1
  have hx1 : r.Leads fl ot x1 := (by
      unfold x1
      refine State.leads_when ?_ _ _ (fun x2 hx2 => ?_)
      · exact h
      · refine State.leads_ite ?_ ?_
        · refine State.leads_when ?_ _ _ (fun x3 hx3 => ?_)
          · exact hx2
          · extract_lets -merge -underBinder +onlyGivenNames x4
            have hx4 : r.Leads fl ot x4 := State.leads_setSs hx3 _ _
            clear_value x4
            exact State.leads_when hx4 _ _ (fun x5 hx5 => State.leads_send (State.leads_wr hx5 _ _ _) _)
        · refine State.leads_when ?_ _ _ (fun x6 hx6 => ?_)
          · exact hx2
          · extract_lets -merge -underBinder +onlyGivenNames x7
            have hx7 : r.Leads fl ot x7 := State.leads_setHs hx6 _ _
            clear_value x7
            exact State.leads_when hx7 _ _ (fun x8 hx8 => State.leads_send (State.leads_wr hx8 _ _ _) _))
  clear_value x1
  exact State.leadsR_next (State.leads_wake hx1 _ _ _)

theorem State.leads_execUsbOutPacket {fl ot : Bool} {r s : State} (h : r.Leads fl ot s) (ep : Nat) (crcOk : Bool)
    (bytes : List Byte) : r.LeadsR fl ot (execUsbOutPacket ep crcOk bytes s) := by
  unfold execUsbOutPacket
  exact State.leadsR_next (State.leads_usbOut h _ _ _)

theorem State.leads_execSetup {fl ot : Bool} {r s : State} (h : r.Leads fl ot s) (a_r : UsbReq) (len : Nat) : r.LeadsR
    fl ot (execSetup a_r len s) := by
  unfold execSetup
  exact State.leadsR_next (State.leads_when h _ _ (fun x0 hx0 => State.leads_usbSetup hx0 _ _))

theorem State.leads_execMicroframeStart {fl ot : Bool} {r s : State} (h : r.Leads fl ot s) : r.LeadsR fl ot
    (execMicroframeStart s) := by
  unfold execMicroframeStart
  exact State.leadsR_next (State.leads_when h _ _ (fun x0 hx0 => State.leads_microframe hx0))

theorem State.leads_execSampleFrame {fl ot : Bool} {r s : State} (h : r.Leads fl ot s) (samples : List Byte) : r.LeadsR
    fl ot (execSampleFrame samples s) := by
  unfold execSampleFrame
  exact State.leadsR_next (State.leads_sampleFrame h _)

theorem State.leads_execRemoteWakeSignal {fl ot : Bool} {r s : State} (h : r.Leads fl ot s) : r.LeadsR fl ot
    (execRemoteWakeSignal s) := by
  unfold execRemoteWakeSignal
  extract_lets -merge -underBinder +onlyGivenNames x0
  try clear_value x0
  exact State.leadsR_next (State.leads_when h _ _ (fun x1 hx1 => State.leads_send (State.leads_wr (State.leads_wr hx1 _
      _ _) _ _ _) _))

theorem State.leads_execHostResume {fl ot : Bool} {r s : State} (h : r.Leads fl ot s) (d : Nat) (ss : Bool) : r.LeadsR
    fl ot (execHostResume d ss s) := by
  unfold execHostResume
  extract_lets -merge -underBinder +onlyGivenNames x0
  try clear_value x0
  extract_lets -merge -underBinder +onlyGivenNames x1
  have hx1 : r.Leads fl ot x1 := State.leads_when h _ _ (fun x2 hx2 => State.leads_ite (State.leads_resumeSs hx2 _)
      (State.leads_resumeHs hx2 _))
  clear_value x1
  exact State.leadsR_next (State.leads_wake hx1 _ _ _)

theorem State.leads_ownerField {fl ot : Bool} {r s : State} (h : r.Leads fl ot s) (who : Initiator) (f : Field) (v :
    Nat) : r.Leads fl ot (State.ownerField s who f v) := by
  unfold State.ownerField
  exact State.leads_ite h (State.leads_access h _ _ _ _ (fun x0 hx0 => State.leads_wr hx0 _ _ _))

theorem State.leads_routerReset {fl ot : Bool} {r s : State} (h : r.Leads fl ot s) (d : Nat) : r.Leads fl ot
    (State.routerReset s d) := by
  unfold State.routerReset
  extract_lets -merge -underBinder +onlyGivenNames x0
  have hx0 : r.Leads fl ot x0 := State.leads_wr (State.leads_recordReset h _ _) _ _ _
  clear_value x0
  extract_lets -merge -underBinder +onlyGivenNames x1
  have hx1 : r.Leads fl ot x1 := State.leads_foldl hx0 _ _ fun x2 y2 hx2 => State.leads_when hx2 _ _ (fun x3 hx3 =>
      State.leads_softReset hx3 _)
  clear_value x1
  extract_lets -merge -underBinder +onlyGivenNames x4
  have hx4 : r.Leads fl ot x4 := State.leads_when hx1 _ _ (fun x5 hx5 => State.leads_hubReconnect hx5 _)
  clear_value x4
  extract_lets -merge -underBinder +onlyGivenNames x6
  try clear_value x6
  extract_lets -merge -underBinder +onlyGivenNames x7
  have hx7 : r.Leads fl ot x7 := State.leads_foldl hx4 _ _ fun x8 y8 hx8 => State.leads_releaseEntry hx8 _
  clear_value x7
  exact State.leads_when hx7 _ _ (fun x9 hx9 => State.leads_armPaths hx9)

theorem State.leads_execHostWarmReset {fl ot : Bool} {r s : State} (h : r.Leads fl ot s) (router : Option (Fin 2)) :
    r.LeadsR fl ot (execHostWarmReset router s) := by
  unfold execHostWarmReset
  extract_lets -merge -underBinder +onlyGivenNames x0
  try clear_value x0
  extract_lets -merge -underBinder +onlyGivenNames x1
  have hx1 : r.Leads fl ot x1 := State.leads_when h _ _ (fun x2 hx2 => State.leads_wr (State.leads_setPs hx2 _) _ _ _)
  clear_value x1
  extract_lets -merge -underBinder +onlyGivenNames x3
  have hx3 : r.Leads fl ot x3 := (by
      unfold x3
      split
      · exact State.leads_hostPerst hx1
      · exact State.leads_routerReset hx1 _)
  clear_value x3
  exact State.leadsR_next (State.leads_when hx3 _ _ (fun x4 hx4 => State.leads_foldl hx4 _ _ fun x5 y5 hx5 =>
      State.leads_pdRestart hx5 _))

theorem State.leads_execStatusStage {fl ot : Bool} {r s : State} (h : r.Leads fl ot s) : r.LeadsR fl ot
    (execStatusStage s) := by
  unfold execStatusStage
  exact State.leadsR_next (State.leads_when h _ _ (fun x0 hx0 => State.leads_statusStage hx0))

theorem State.leads_execUsbInToken {fl ot : Bool} {r s : State} (h : r.Leads fl ot s) (ep : Nat) (acked : Bool) :
    r.LeadsR fl ot (execUsbInToken ep acked s) := by
  unfold execUsbInToken
  exact State.leadsR_next (State.leads_usbIn h _ _)

theorem State.leads_execWakeReq {fl ot : Bool} {r s : State} (h : r.Leads fl ot s) (who : Initiator) : r.LeadsR fl ot
    (execWakeReq who s) := by
  unfold execWakeReq
  exact State.leadsR_next (State.leads_access h _ _ _ _ (fun x0 hx0 => State.leads_wakeReq hx0))

theorem State.leads_execOvercurrent {fl ot : Bool} {r s : State} (h : r.Leads fl ot s) (n : Nat) : r.LeadsR fl ot
    (execOvercurrent n s) := by
  unfold execOvercurrent
  refine State.leadsR_next ?_
  refine State.leads_when ?_ _ _ (fun x0 hx0 => ?_)
  · exact h
  · extract_lets -merge -underBinder +onlyGivenNames x1
    have hx1 : r.Leads fl ot x1 := State.leads_when (State.leads_wr hx0 _ _ _) _ _ (fun x2 hx2 => State.leads_wr hx2 _
        _ _)
    clear_value x1
    extract_lets -merge -underBinder +onlyGivenNames x3
    have hx3 : r.Leads fl ot x3 := State.leads_wr (State.leads_wr hx1 _ _ _) _ _ _
    clear_value x3
    extract_lets -merge -underBinder +onlyGivenNames x4
    have hx4 : r.Leads fl ot x4 := State.leads_when (State.leads_changeSs hx3 _ _) _ _ (fun x5 hx5 =>
        State.leads_changeHs hx5 _ _)
    clear_value x4
    exact State.leads_raise (State.leads_count hx4 _ _) _ _

theorem State.leads_execPortOwnerChange {fl ot : Bool} {r s : State} (h : r.Leads fl ot s) (who : Initiator) (o :
    UsbOwner) : r.LeadsR fl ot (execPortOwnerChange who o s) := by
  unfold execPortOwnerChange
  split
  · refine State.leadsR_ite ?_ ?_
    · exact State.leadsR_next h
    · extract_lets -merge -underBinder +onlyGivenNames x0
      try clear_value x0
      extract_lets -merge -underBinder +onlyGivenNames x1
      have hx1 : r.Leads fl ot x1 := State.leads_ownerField (State.leads_ownerField (State.leads_ownerField
          (State.leads_ownerField h _ _ _) _ _ _) _ _ _) _ _ _
      clear_value x1
      extract_lets -merge -underBinder +onlyGivenNames x2
      try clear_value x2
      extract_lets -merge -underBinder +onlyGivenNames x3
      try clear_value x3
      extract_lets -merge -underBinder +onlyGivenNames x4
      try clear_value x4
      extract_lets -merge -underBinder +onlyGivenNames x5
      try clear_value x5
      extract_lets -merge -underBinder +onlyGivenNames x6
      have hx6 : r.Leads fl ot x6 := State.leads_when hx1 _ _ (fun x7 hx7 => State.leads_portMove hx7 _ _ _)
      clear_value x6
      exact State.leadsR_next (State.leads_when hx6 _ _ (fun x8 hx8 => State.leads_portMove hx8 _ _ _))
  · refine State.leadsR_ite ?_ ?_
    · exact State.leadsR_next h
    · extract_lets -merge -underBinder +onlyGivenNames x9
      have hx9 : r.Leads fl ot x9 := State.leads_ownerField (State.leads_ownerField h _ _ _) _ _ _
      clear_value x9
      exact State.leadsR_next (State.leads_when hx9 _ _ (fun x10 hx10 => State.leads_hubReconnect hx10 _))

theorem State.leads_execSetPortFeature {fl ot : Bool} {r s : State} (h : r.Leads fl ot s) (d : Nat) (port : Nat) (ss :
    Bool) (f : PortFeature) : r.LeadsR fl ot (execSetPortFeature d port ss f s) := by
  unfold execSetPortFeature
  exact State.leadsR_ite (State.leadsR_next h) (State.leadsR_ite (State.leadsR_next (State.leads_when h _ _ (fun x0 hx0
      => State.leads_ssFeature hx0 _ _))) (State.leadsR_ite (State.leadsR_next (State.leads_when h _ _ (fun x1 hx1 =>
      State.leads_embFeature hx1 _))) (State.leadsR_next (State.leads_when h _ _ (fun x2 hx2 => State.leads_hsFeature
      hx2 _ _)))))

theorem State.leads_execMclkLoss {fl ot : Bool} {r s : State} (h : r.Leads fl ot s) : r.LeadsR fl ot (execMclkLoss s)
    := by
  unfold execMclkLoss
  exact State.leadsR_next (State.leads_when h _ _ (fun x0 hx0 => State.leads_raise (State.leads_wr hx0 _ _ _) _ _))

theorem State.leads_execUsbPortConnect {fl ot : Bool} {r s : State} (h : r.Leads fl ot s) (n : Nat) (ss : Bool)
    (connected : Bool) : r.LeadsR fl ot (execUsbPortConnect n ss connected s) := by
  unfold execUsbPortConnect
  refine State.leadsR_ite ?_ ?_
  · exact State.leadsR_next h
  · extract_lets -merge -underBinder +onlyGivenNames x0
    have hx0 : r.Leads fl ot x0 := State.leads_when h _ _ (fun x1 hx1 => State.leads_ite (State.leads_when hx1 _ _ (fun
        x2 hx2 => State.leads_when (State.leads_changeSs (State.leads_setSs hx2 _ _) _ _) _ _ (fun x3 hx3 =>
        State.leads_eqPads hx3 _ _ _ _ _))) (State.leads_when hx1 _ _ (fun x4 hx4 => State.leads_changeHs
        (State.leads_setHs hx4 _ _) _ _)))
    clear_value x0
    exact State.leadsR_next (State.leads_when hx0 _ _ (fun x5 hx5 => State.leads_wake hx5 _ _ _))

theorem State.leads_execUsbSuspend {fl ot : Bool} {r s : State} (h : r.Leads fl ot s) (d : Nat) (what : Nat) : r.LeadsR
    fl ot (execUsbSuspend d what s) := by
  unfold execUsbSuspend
  refine State.leadsR_next ?_
  refine State.leads_when ?_ _ _ (fun x0 hx0 => ?_)
  · exact h
  · split
    · exact State.leads_when hx0 _ _ (fun x1 hx1 => State.leads_setInt (State.leads_wr hx1 _ _ _) _ _)
    · exact State.leads_when hx0 _ _ (fun x2 hx2 => State.leads_setInt (State.leads_wr hx2 _ _ _) _ _)
    · exact State.leads_when hx0 _ _ (fun x3 hx3 => State.leads_setInt (State.leads_embFeature hx3 _) _ _)

theorem State.leads_execUsbBusReset {fl ot : Bool} {r s : State} (h : r.Leads fl ot s) (d : Nat) (ss : Bool) : r.LeadsR
    fl ot (execUsbBusReset d ss s) := by
  unfold execUsbBusReset
  exact State.leadsR_next (State.leads_when h _ _ (fun x0 hx0 => State.leads_hubReset hx0 _ _))

end Sys2Proof.Machine
end

