-- ==== Sys2Proof/Laws/Lead/Paths.lean ====
section
/-! SUPPORT. What the operations of Machine/Paths.lean keep (State.Leads of Laws/Leads.lean). -/

namespace Sys2Proof.Machine

open Reg

theorem State.leads_holdReq {fl ot : Bool} {r s : State} (h : r.Leads fl ot s) (port : Nat) (c : Ctrl) (busy : List
    Nat) : r.Leads fl ot (State.holdReq s port c busy) := by
  unfold State.holdReq
  exact State.leads_ite (State.leads_refuse h _ _ _ _) (State.leads_mk h ..)

theorem State.leads_setupEntry {fl ot : Bool} {r s : State} (h : r.Leads fl ot s) (c : Ctrl) (k : Nat) (id : Nat)
    (shaper : Nat) (group : Nat) : r.Leads fl ot (State.setupEntry s c k id shaper group) := by
  unfold State.setupEntry
  extract_lets -merge -underBinder +onlyGivenNames x0
  try clear_value x0
  extract_lets -merge -underBinder +onlyGivenNames x1
  try clear_value x1
  extract_lets -merge -underBinder +onlyGivenNames x2
  try clear_value x2
  extract_lets -merge -underBinder +onlyGivenNames x3
  try clear_value x3
  extract_lets -merge -underBinder +onlyGivenNames x4
  try clear_value x4
  exact State.leads_foldl h _ _ fun x5 y5 hx5 => State.leads_wr hx5 _ _ _

theorem State.leads_admit {fl ot : Bool} {r s : State} (h : r.Leads fl ot s) (c : Ctrl) (sum : Nat) {t : State}
    {x : Nat × Nat × Nat × Nat} (e : State.takesPath s c sum = .inl (t, x)) : r.Leads fl ot t := by
  unfold State.takesPath at e
  extract_lets -merge w i choose par shNew mcNew freeId id shaper group k t' p b hb at e
  have ht : r.Leads fl ot t' := State.leads_setupEntry h _ _ _ _ _
  clear_value t'
  repeat' (split at e)
  all_goals first
    | cases e; done
    | (injection e with e; injection e with e; rw [← e]; exact ht)

theorem State.leads_setup {fl ot : Bool} {r s : State} (h : r.Leads fl ot s) (port : Nat) (c : Ctrl) :
    r.Leads fl ot (State.setup s port c) := by
  unfold State.setup
  extract_lets sum no
  have hn : ∀ t st, r.Leads fl ot t → r.Leads fl ot (no t st) := fun t st ht => State.leads_refuse ht _ _ _ _
  clear_value no
  split
  · exact hn _ _ h
  · split
    · exact State.leads_holdReq h _ _ _
    · split
      · exact hn _ _ h
      · split
        · exact hn _ _ (State.leads_raiseRefuse h _)
        · rename_i heq
          exact State.leads_answer (State.leads_admit h _ _ heq) _ _ _ _

theorem State.leads_execDelEntryFree {fl ot : Bool} {r s : State} (h : r.Leads fl ot s) (k : Nat) : r.LeadsR fl ot
    (execDelEntryFree k s) := by
  unfold execDelEntryFree
  extract_lets -merge -underBinder +onlyGivenNames x0
  try clear_value x0
  exact State.leadsR_next (State.leads_when h _ _ (fun x1 hx1 => State.leads_freeEntry hx1 _))

theorem State.leads_pathRelease {fl ot : Bool} {r s : State} (h : r.Leads fl ot s) (port : Nat) (c : Ctrl) : r.Leads fl
    ot (State.pathRelease s port c) := by
  unfold State.pathRelease
  extract_lets -merge -underBinder +onlyGivenNames x0
  try clear_value x0
  extract_lets -merge -underBinder +onlyGivenNames x1
  try clear_value x1
  exact State.leads_ite (State.leads_refuse h _ _ _ _) (State.leads_ite (State.leads_holdReq h _ _ _) (State.leads_ite
      (State.leads_refuse h _ _ _ _) (State.leads_ite (State.leads_refuse h _ _ _ _) (State.leads_answer
      (State.leads_releaseEntry h _) _ _ _ _))))

theorem State.leads_bind {fl ot : Bool} {r s : State} (h : r.Leads fl ot s) (port : Nat) (c : Ctrl) : r.Leads fl ot
    (State.bind s port c) := by
  unfold State.bind
  extract_lets -merge -underBinder +onlyGivenNames x0
  try clear_value x0
  extract_lets -merge -underBinder +onlyGivenNames x1
  try clear_value x1
  extract_lets -merge -underBinder +onlyGivenNames x2
  try clear_value x2
  extract_lets -merge -underBinder +onlyGivenNames x3
  have hx3 : r.Leads fl ot x3 := State.leads_wr (State.leads_wr (State.leads_wr h _ _ _) _ _ _) _ _ _
  clear_value x3
  extract_lets -merge -underBinder +onlyGivenNames x4
  have hx4 : r.Leads fl ot x4 := State.leads_wr (State.leads_wr hx3 _ _ _) _ _ _
  clear_value x4
  exact State.leads_when hx4 _ _ (fun x5 hx5 => State.leads_wr hx5 _ _ _)

theorem State.leads_setHubId {fl ot : Bool} {r s : State} (h : r.Leads fl ot s) (port : Nat) (c : Ctrl) : r.Leads fl ot
    (State.setHubId s port c) := by
  unfold State.setHubId
  extract_lets -merge -underBinder +onlyGivenNames x0
  try clear_value x0
  extract_lets -merge -underBinder +onlyGivenNames x1
  try clear_value x1
  extract_lets -merge -underBinder +onlyGivenNames x2
  try clear_value x2
  extract_lets -merge -underBinder +onlyGivenNames x3
  try clear_value x3
  extract_lets -merge -underBinder +onlyGivenNames x4
  try clear_value x4
  extract_lets -merge -underBinder +onlyGivenNames x5
  try clear_value x5
  extract_lets -merge -underBinder +onlyGivenNames x6
  try clear_value x6
  refine State.leads_ite ?_ ?_
  · exact State.leads_refuse h _ _ _ _
  · refine State.leads_ite ?_ ?_
    · exact State.leads_refuse h _ _ _ _
    · refine State.leads_ite ?_ ?_
      · exact State.leads_ite (State.leads_refuse h _ _ _ _) (State.leads_answer (State.leads_bind h _ _) _ _ _ _)
      · refine State.leads_ite ?_ ?_
        · exact State.leads_ite (State.leads_answer h _ _ _ _) (State.leads_ite (State.leads_releaseSlot
              (State.leads_answer h _ _ _ _) _) (State.leads_ite (State.leads_refuse h _ _ _ _) (State.leads_answer
              (State.leads_wr h _ _ _) _ _ _ _)))
        · refine State.leads_ite ?_ ?_
          · exact State.leads_refuse h _ _ _ _
          · extract_lets -merge -underBinder +onlyGivenNames x7
            try clear_value x7
            extract_lets -merge -underBinder +onlyGivenNames x8
            have hx8 : r.Leads fl ot x8 := State.leads_when h _ _ (fun x9 hx9 => State.leads_wr hx9 _ _ _)
            clear_value x8
            exact State.leads_refuse (State.leads_raise hx8 _ _) _ _ _ _

theorem State.leads_takeLocal {fl ot : Bool} {r s : State} (h : r.Leads fl ot s) (q : Ctrl → Bool) {t : State}
    {x : Nat × Ctrl} (e : State.takeLocal s q = some (t, x)) : r.Leads fl ot t := by
  unfold State.takeLocal at e
  obtain ⟨a, _, ha⟩ := Option.map_eq_some_iff.1 e
  have e1 := congrArg Prod.fst ha
  dsimp only at e1
  rw [← e1]
  exact State.leads_mk h ..

theorem State.leads_onRequest {fl ot : Bool} {r s : State} (h : r.Leads fl ot s) (cop : Nat)
    (act : State → Nat → Ctrl → State) (hact : ∀ t a c, r.Leads fl ot t → r.Leads fl ot (act t a c)) :
    r.LeadsR fl ot (State.onRequest s cop act) := by
  unfold State.onRequest
  split
  · rename_i heq
    exact State.leadsR_next (hact _ _ _ (State.leads_takeLocal h _ heq))
  · exact State.leadsR_next h

theorem State.leads_onMoabeuc {fl ot : Bool} {r s : State} (h : r.Leads fl ot s) (cop : Nat) (act : State → Nat → Ctrl
    → State) (hact : ∀ t a c, r.Leads fl ot t → r.Leads fl ot (act t a c)) : r.LeadsR fl ot (State.onMoabeuc s cop act)
    := by
  unfold State.onMoabeuc
  exact State.leadsR_ite (State.leads_onRequest h _ _ (fun x0 y0_0 y0_1 hx0 => hact _ _ _ hx0)) (State.leadsR_next h)

theorem State.leads_execSetHubId {fl ot : Bool} {r s : State} (h : r.Leads fl ot s) : r.LeadsR fl ot (execSetHubId s)
    := by
  unfold execSetHubId
  exact State.leads_onMoabeuc h _ _ (fun x0 y0_0 y0_1 hx0 => State.leads_setHubId hx0 _ _)

theorem State.leads_recordDa {fl ot : Bool} {r s : State} (h : r.Leads fl ot s) (d : Nat) (state : Nat) (reason : Nat)
    (armId : Nat) (epoch : Nat) (mask : Nat) (src : Nat) : r.Leads fl ot (State.recordDa s d state reason armId epoch
    mask src) := by
  unfold State.recordDa
  exact State.leads_foldl h _ _ fun x0 y0 hx0 => State.leads_wr hx0 _ _ _

theorem State.leads_turnCancel {fl ot : Bool} {r s : State} (h : r.Leads fl ot s) (port : Nat) (c : Ctrl) : r.Leads fl
    ot (State.turnCancel s port c) := by
  unfold State.turnCancel
  extract_lets -merge -underBinder +onlyGivenNames x0
  try clear_value x0
  extract_lets -merge -underBinder +onlyGivenNames x1
  try clear_value x1
  refine State.leads_ite ?_ ?_
  · exact h
  · extract_lets -merge -underBinder +onlyGivenNames x2
    try clear_value x2
    extract_lets -merge -underBinder +onlyGivenNames x3
    try clear_value x3
    extract_lets -merge -underBinder +onlyGivenNames x4
    have hx4 : r.Leads fl ot x4 := (by
        unfold x4
        refine State.leads_when ?_ _ _ (fun x5 hx5 => ?_)
        · exact h
        · extract_lets -merge -underBinder +onlyGivenNames x6
          have hx6 : r.Leads fl ot x6 := State.leads_foldl hx5 _ _ fun x7 y7 hx7 => State.leads_cancelArm hx7 _
          clear_value x6
          exact State.leads_raise (State.leads_wr (State.leads_wr hx6 _ _ _) _ _ _) _ _)
    clear_value x4
    exact State.leads_answer hx4 _ _ _ _

theorem State.leads_execTurnCancel {fl ot : Bool} {r s : State} (h : r.Leads fl ot s) : r.LeadsR fl ot (execTurnCancel
    s) := by
  unfold execTurnCancel
  exact State.leads_onMoabeuc h _ _ (fun x0 y0_0 y0_1 hx0 => State.leads_turnCancel hx0 _ _)

theorem State.leads_execPortEvent {fl ot : Bool} {r s : State} (h : r.Leads fl ot s) : r.LeadsR fl ot (execPortEvent s)
    := by
  unfold execPortEvent
  exact State.leads_onRequest h _ _ (fun x0 y0_0 y0_1 hx0 => State.leads_when hx0 _ _ (fun x1 hx1 => State.leads_event
      hx1 _ _))

theorem State.leads_armPages {fl ot : Bool} {r s : State} (h : r.Leads fl ot s) (target : Nat) (l m : List Nat) :
    r.Leads fl ot (State.armPages s target l m).1 := by
  induction l generalizing s m with
  | nil => exact h
  | cons b l ih =>
    have h1 := State.leads_armTurn h (turnPage b) target
    unfold State.armPages
    split
    · rename_i heq
      exact ih (State.leads_of_fst heq h1) _
    · rename_i heq
      exact State.leads_of_fst heq h1

theorem State.leads_execCtrlBadReq {fl ot : Bool} {r s : State} (h : r.Leads fl ot s) :
    r.LeadsR fl ot (execCtrlBadReq s) := by
  unfold execCtrlBadReq
  split
  · rename_i heq
    exact State.leadsR_next (State.leads_refuse (State.leads_takeLocal h _ heq) _ _ _ _)
  · exact State.leadsR_next h

theorem State.leads_execCtrlPacketRx {fl ot : Bool} {r s : State} (h : r.Leads fl ot s) : r.LeadsR fl ot
    (execCtrlPacketRx s) := by
  unfold execCtrlPacketRx
  split
  · exact State.leadsR_next h
  · exact State.leadsR_next (State.leads_ctrlArrive (State.leads_mk h ..) _ _ _)

theorem State.leads_execPathRelease {fl ot : Bool} {r s : State} (h : r.Leads fl ot s) : r.LeadsR fl ot
    (execPathRelease s) := by
  unfold execPathRelease
  exact State.leads_onMoabeuc h _ _ (fun x0 y0_0 y0_1 hx0 => State.leads_pathRelease hx0 _ _)

theorem State.leads_turnArm {fl ot : Bool} {r s : State} (h : r.Leads fl ot s) (port : Nat) (c : Ctrl) : r.Leads fl ot
    (State.turnArm s port c) := by
  unfold State.turnArm
  dsimp only
  repeat' (with_reducible first
    | assumption | apply State.leads_answer | apply State.leads_armPages | apply State.leads_cancelArm
    | apply State.leads_raise | apply State.leads_recordDa | apply State.leads_refuse | apply State.leads_when
    | apply State.leads_foldl | intro _ | apply State.leads_ite | apply State.leads_of_fst (by assumption) | split)

theorem State.leads_execAddHoldExpiry {fl ot : Bool} {r s : State} (h : r.Leads fl ot s) (k : Nat) : r.LeadsR fl ot
    (execAddHoldExpiry k s) := by
  unfold execAddHoldExpiry
  exact State.leadsR_next (State.leads_when h _ _ (fun x0 hx0 => State.leads_entryReject (State.leads_freeEntry hx0 _)))

theorem State.leads_execIsoShort {fl ot : Bool} {r s : State} (h : r.Leads fl ot s) : r.LeadsR fl ot (execIsoShort s)
    := by
  unfold execIsoShort
  exact State.leads_onRequest h _ _ (fun x0 y0_0 y0_1 hx0 => State.leads_isoRx hx0 _ _)

theorem State.leads_execIsoOk {fl ot : Bool} {r s : State} (h : r.Leads fl ot s) : r.LeadsR fl ot (execIsoOk s) := by
  unfold execIsoOk
  exact State.leads_onRequest h _ _ (fun x0 y0_0 y0_1 hx0 => State.leads_isoRx hx0 _ _)

theorem State.leads_execPathDown {fl ot : Bool} {r s : State} (h : r.Leads fl ot s) : r.LeadsR fl ot (execPathDown s)
    := by
  unfold execPathDown
  exact State.leads_onRequest h _ _ (fun x0 y0_0 y0_1 hx0 => State.leads_pathDownRx hx0 _ _)

theorem State.leads_execPathSetup {fl ot : Bool} {r s : State} (h : r.Leads fl ot s) : r.LeadsR fl ot (execPathSetup s)
    := by
  unfold execPathSetup
  exact State.leads_onMoabeuc h _ _ (fun x0 y0_0 y0_1 hx0 => State.leads_setup hx0 _ _)

theorem State.leads_execRelay {fl ot : Bool} {r s : State} (h : r.Leads fl ot s) : r.LeadsR fl ot (execRelay s) := by
  unfold execRelay
  refine State.leads_onRequest ?_ _ _ (fun x0 y0_0 y0_1 hx0 => ?_)
  · exact h
  · split
    · exact State.leads_ite (State.leads_ctrlOut hx0 _ _) hx0
    · exact hx0

theorem State.leads_execPcCntClr {fl ot : Bool} {r s : State} (h : r.Leads fl ot s) (who : Initiator) : r.LeadsR fl ot
    (execPcCntClr who s) := by
  unfold execPcCntClr
  exact State.leadsR_next (State.leads_access h _ _ _ _ (fun x0 hx0 => State.leads_clearFields hx0 _ _))

theorem State.leads_execTurnArm {fl ot : Bool} {r s : State} (h : r.Leads fl ot s) : r.LeadsR fl ot (execTurnArm s) :=
    by
  unfold execTurnArm
  exact State.leads_onMoabeuc h _ _ (fun x0 y0_0 y0_1 hx0 => State.leads_turnArm hx0 _ _)

theorem State.leads_execUpPortDownTimeout {fl ot : Bool} {r s : State} (h : r.Leads fl ot s) (slot : Nat) : r.LeadsR fl
    ot (execUpPortDownTimeout slot s) := by
  unfold execUpPortDownTimeout
  extract_lets -merge -underBinder +onlyGivenNames x0
  try clear_value x0
  exact State.leadsR_next (State.leads_when h _ _ (fun x1 hx1 => State.leads_releaseSlot hx1 _))

theorem State.leads_execPathEntryWrite {fl ot : Bool} {r s : State} (h : r.Leads fl ot s) (who : Initiator)
    (k word be value : Nat) : r.LeadsR fl ot (execPathEntryWrite who k word be value s) := by
  unfold execPathEntryWrite
  extract_lets p fs t changed
  have ht : r.Leads fl ot t := State.leads_foldl h _ _ fun u f hu => State.leads_wr hu _ _ _
  clear_value t
  split
  · exact State.leadsR_next (State.leads_hostWake (State.leads_gatedAccess h _ _) _ _)
  · split
    · exact State.leadsR_next (State.leads_hostWake h _ _)
    · exact State.leadsR_next (State.leads_access h _ _ _ _ fun u hu => State.leads_entryWrite hu _ _ _ ht)

theorem State.leads_execIdentify {fl ot : Bool} {r s : State} (h : r.Leads fl ot s) : r.LeadsR fl ot (execIdentify s)
    := by
  unfold execIdentify
  exact State.leads_onRequest h _ _ (fun x0 y0_0 y0_1 hx0 => State.leads_answer hx0 _ _ _ _)

end Sys2Proof.Machine
end

