-- ==== Sys2Proof/Laws/Lead/BootOps.lean ====
section
/-! SUPPORT. What the operations of Machine/BootOps.lean keep (State.Leads of Laws/Leads.lean). -/

namespace Sys2Proof.Machine

open Reg

theorem State.leads_otpSet {fl : Bool} {r s : State} (h : r.Leads fl false s) (w bits : Nat) :
    r.Leads fl false (State.otpSet s w bits) := by
  refine h.trans ⟨rfl, Nat.le_refl _, Nat.le_refl _, List.prefix_refl _, ?_,
    fun i => ⟨i.regs, i.act, i.dram, i.flash, Mem.wf_writeList _ _ i.otp, i.aonRam⟩, fun _ => rfl, by simp⟩
  intro a i ha
  by_cases hi : i < 8
  · rw [State.otpSet_bit _ _ _ _ _ hi, ha, Bool.true_or]
  · rw [BitVec.getLsbD_of_ge _ _ (by omega)] at ha
    cases ha

theorem State.leads_setBank {fl ot : Bool} {r s : State} (h : r.Leads fl ot s) (b : Nat) (v : Nat) : r.Leads fl ot
    (State.setBank s b v) := by
  unfold State.setBank
  exact State.leads_foldl h _ _ fun x0 y0 hx0 => State.leads_wr hx0 _ _ _

theorem State.leads_extend {fl ot : Bool} {r s : State} (h : r.Leads fl ot s) (b : Nat) (digest : Nat) : r.Leads fl ot
    (State.extend s b digest) := by
  unfold State.extend
  exact State.leads_setBank h _ _

theorem State.leads_runImage {fl ot : Bool} {r s : State} (h : r.Leads fl ot s) (g : Image) (result : Nat) (copy : Nat)
    : r.Leads fl ot (State.runImage s g result copy) := by
  unfold State.runImage
  extract_lets -merge -underBinder +onlyGivenNames x0
  have hx0 : r.Leads fl ot x0 := State.leads_extend h _ _
  clear_value x0
  extract_lets -merge -underBinder +onlyGivenNames x1
  have hx1 : r.Leads fl ot x1 := State.leads_foldl hx0 _ _ fun x2 y2 hx2 => State.leads_extend hx2 _ _
  clear_value x1
  extract_lets -merge -underBinder +onlyGivenNames x3
  have hx3 : r.Leads fl ot x3 := State.leads_wr (State.leads_wr (State.leads_wr (State.leads_wr hx1 _ _ _) _ _ _) _ _
      _) _ _ _
  clear_value x3
  extract_lets -merge -underBinder +onlyGivenNames x4
  have hx4 : r.Leads fl ot x4 := State.leads_wr (State.leads_wr (State.leads_wr hx3 _ _ _) _ _ _) _ _ _
  clear_value x4
  extract_lets -merge -underBinder +onlyGivenNames x5
  try clear_value x5
  extract_lets -merge -underBinder +onlyGivenNames x6
  have hx6 : r.Leads fl ot x6 := State.leads_mk hx4 ..
  clear_value x6
  extract_lets -merge -underBinder +onlyGivenNames x7
  have hx7 : r.Leads fl ot x7 := State.leads_wr (State.leads_wr (State.leads_wr hx6 _ _ _) _ _ _) _ _ _
  clear_value x7
  extract_lets -merge -underBinder +onlyGivenNames x8
  have hx8 : r.Leads fl ot x8 := State.leads_wr (State.leads_wr hx7 _ _ _) _ _ _
  clear_value x8
  exact State.leads_ite (State.leads_runIsland hx8 _) (State.leads_runIsland (State.leads_runIsland
      (State.leads_runIsland hx8 _) _) _)

theorem State.leads_trialClear {fl ot : Bool} {r s : State} (h : r.Leads fl ot s) : r.Leads fl ot
    (State.trialClear s) :=
  State.leads_wr (State.leads_aonRam h _ (Mem.wf_clear _ _)) _ _ _

theorem State.leads_trialWrite {fl ot : Bool} {r s : State} (h : r.Leads fl ot s) (c attempts : Nat) : r.Leads fl ot
    (State.trialWrite s c attempts) :=
  State.leads_wr (State.leads_aonRam h _ (Mem.wf_writeList _ _)) _ _ _

theorem State.leads_trialCount {fl ot : Bool} {r s : State} (h : r.Leads fl ot s) (c : Nat) : r.Leads fl ot
    (State.trialCount s c).1 := by
  unfold State.trialCount
  refine State.leads_ite_fst ?_ ?_
  · exact State.leads_pair h
  · extract_lets -merge -underBinder +onlyGivenNames x0
    try clear_value x0
    exact State.leads_pair (State.leads_trialWrite h _ _)

theorem State.leads_recover {fl ot : Bool} {r s : State} (h : r.Leads fl ot s) (why : Nat) : r.Leads fl ot
    (State.recover s why) := by
  unfold State.recover
  exact State.leads_wr (State.leads_wr h _ _ _) _ _ _

theorem State.leads_tryCopies {fl ot : Bool} {r s : State} (h : r.Leads fl ot s) (bad : Nat) (first : Bool)
    (l : List Nat) : r.Leads fl ot (State.tryCopies s bad first l) := by
  induction l generalizing s first with
  | nil => exact State.leads_recover h _
  | cons c l ih =>
    have h1 := State.leads_trialCount h c
    unfold State.tryCopies
    split
    rename_i s1 spent heq
    have h2 := State.leads_of_fst heq h1
    extract_lets code x
    have hx : r.Leads fl ot x := State.leads_wr h2 _ _ _
    clear_value x
    split
    · exact State.leads_when (State.leads_runImage hx _ _ _) _ _ fun t ht => State.leads_raise ht _ _
    · split
      · exact State.leads_recover hx _
      · exact ih hx _

theorem State.leads_fillSlot {fl ot : Bool} {r s : State} (h : r.Leads fl ot s) (k : Nat) : r.Leads fl ot
    (State.fillSlot s k) := by
  unfold State.fillSlot
  extract_lets -merge -underBinder +onlyGivenNames x0
  have hx0 : r.Leads fl ot x0 := State.leads_tookFree (State.leads_wr h _ _ _)
  clear_value x0
  exact State.leads_wr (State.leads_tookFree (State.leads_wr hx0 _ _ _)) _ _ _

theorem State.leads_zeroiseAll {fl ot : Bool} {r s : State} (h : r.Leads fl ot s) : r.Leads fl ot (State.zeroiseAll s)
    := by
  unfold State.zeroiseAll
  extract_lets -merge -underBinder +onlyGivenNames x0
  have hx0 : r.Leads fl ot x0 := State.leads_foldl h _ _ fun x1 y1 hx1 => State.leads_fillSlot hx1 _
  clear_value x0
  exact State.leads_foldl hx0 _ _ fun x2 y2 hx2 => State.leads_wr hx2 _ _ _

theorem State.leads_testMode {fl ot : Bool} {r s : State} (h : r.Leads fl ot s) : r.Leads fl ot (State.testMode s) := by
  unfold State.testMode
  extract_lets -merge -underBinder +onlyGivenNames x0
  have hx0 : r.Leads fl ot x0 := State.leads_clearFields (State.leads_zeroiseAll h) _ _
  clear_value x0
  extract_lets -merge -underBinder +onlyGivenNames x1
  have hx1 : r.Leads fl ot x1 := State.leads_foldl hx0 _ _ fun x2 y2 hx2 => State.leads_wr hx2 _ _ _
  clear_value x1
  exact State.leads_wr (State.leads_raise (State.leads_wr hx1 _ _ _) _ _) _ _ _

theorem State.leads_measureRom {fl ot : Bool} {r s : State} (h : r.Leads fl ot s) : r.Leads fl ot (State.measureRom s)
    := by
  unfold State.measureRom
  extract_lets -merge -underBinder +onlyGivenNames x0
  have hx0 : r.Leads fl ot x0 := State.leads_foldl h _ _ fun x1 y1 hx1 => State.leads_wr hx1 _ _ _
  clear_value x0
  exact State.leads_extend hx0 _ _

theorem State.leads_boot {fl ot : Bool} {r s : State} (h : r.Leads fl ot s) (idOk : Bool) (idMatch : Bool) (testEn :
    Bool) (pufErr : Nat) (bad : Nat) : r.Leads fl ot (State.boot s idOk idMatch testEn pufErr bad) := by
  unfold State.boot
  extract_lets -merge -underBinder +onlyGivenNames x0
  have hx0 : r.Leads fl ot x0 := State.leads_resetWhere (State.leads_runIsland h _) _
  clear_value x0
  extract_lets -merge -underBinder +onlyGivenNames x1
  have hx1 : r.Leads fl ot x1 := State.leads_wr (State.leads_mk hx0 ..) _ _ _
  clear_value x1
  refine State.leads_ite ?_ ?_
  · exact State.leads_wr (State.leads_testMode hx1) _ _ _
  · extract_lets -merge -underBinder +onlyGivenNames x2
    have hx2 : r.Leads fl ot x2 := State.leads_wr (State.leads_wr (State.leads_measureRom hx1) _ _ _) _ _ _
    clear_value x2
    refine State.leads_ite ?_ ?_
    · exact hx2
    · extract_lets -merge -underBinder +onlyGivenNames x3
      try clear_value x3
      extract_lets -merge -underBinder +onlyGivenNames x4
      have hx4 : r.Leads fl ot x4 := State.leads_wr (State.leads_wr (State.leads_wr (State.leads_wr hx2 _ _ _) _ _ _) _
          _ _) _ _ _
      clear_value x4
      extract_lets -merge -underBinder +onlyGivenNames x5
      have hx5 : r.Leads fl ot x5 := State.leads_when (State.leads_wr hx4 _ _ _) _ _ (fun x6 hx6 => State.leads_raise
          hx6 _ _)
      clear_value x5
      refine State.leads_ite ?_ ?_
      · exact State.leads_recover hx5 _
      · extract_lets -merge -underBinder +onlyGivenNames x7
        try clear_value x7
        extract_lets -merge -underBinder +onlyGivenNames x8
        try clear_value x8
        exact State.leads_tryCopies hx5 _ _ _

end Sys2Proof.Machine
end

