-- ==== Sys2Proof/Laws/Lead/SecOps.lean ====
section
/-! SUPPORT. What the operations of Machine/SecOps.lean keep (State.Leads of Laws/Leads.lean). -/

namespace Sys2Proof.Machine

open Reg

theorem State.leads_setSpdm {fl ot : Bool} {r s : State} (h : r.Leads fl ot s) (ep : Nat) (c : Spdm) : r.Leads fl ot
    (State.setSpdm s ep c) := by
  unfold State.setSpdm
  exact State.leads_mk h ..

theorem State.leads_spdmSay {fl ot : Bool} {r s : State} (h : r.Leads fl ot s) (ep : Nat) (a_r : SpdmRsp) : r.Leads fl
    ot (State.spdmSay s ep a_r) := by
  unfold State.spdmSay
  exact State.leads_send h _

theorem State.leads_spdmVersion {fl ot : Bool} {r s : State} (h : r.Leads fl ot s) (ep : Nat) : r.Leads fl ot
    (State.spdmVersion s ep) := by
  unfold State.spdmVersion
  exact State.leads_ite h (State.leads_ite (State.leads_spdmSay h _ _) (State.leads_spdmSay (State.leads_setSpdm h _ _)
      _ _))

theorem State.leads_dbgRefuse {fl ot : Bool} {r s : State} (h : r.Leads fl ot s) (result : Nat) : r.Leads fl ot
    (State.dbgRefuse s result) := by
  unfold State.dbgRefuse
  exact State.leads_raise (State.leads_wr (State.leads_count h _ _) _ _ _) _ _

theorem State.leads_ksResult {fl ot : Bool} {r s : State} (h : r.Leads fl ot s) (a_r : Nat) : r.Leads fl ot
    (State.ksResult s a_r) := by
  unfold State.ksResult
  exact State.leads_wr h _ _ _

theorem State.leads_ksBusy {fl ot : Bool} {r s : State} (h : r.Leads fl ot s) : r.Leads fl ot (State.ksBusy s) := by
  unfold State.ksBusy
  exact State.leads_raise (State.leads_ksResult h _) _ _

theorem State.leads_ksPut {fl ot : Bool} {r s : State} (h : r.Leads fl ot s) (slot : Nat) (salt : Nat) (key : Nat)
    (origin : Nat) : r.Leads fl ot (State.ksPut s slot salt key origin) := by
  unfold State.ksPut
  exact State.leads_wr (State.leads_wr (State.leads_wr (State.leads_wr h _ _ _) _ _ _) _ _ _) _ _ _

theorem State.leads_ksCmd {fl ot : Bool} {r s : State} (h : r.Leads fl ot s) (op : Nat) (slot : Nat) (salt : Nat) :
    r.Leads fl ot (State.ksCmd s op slot salt) := by
  unfold State.ksCmd
  exact State.leads_wr (State.leads_wr (State.leads_wr h _ _ _) _ _ _) _ _ _

theorem State.leads_ksDerive {fl ot : Bool} {r s : State} (h : r.Leads fl ot s) (slot : Nat) (salt : Nat) : r.Leads fl
    ot (State.ksDerive s slot salt) := by
  unfold State.ksDerive
  extract_lets -merge -underBinder +onlyGivenNames x0
  have hx0 : r.Leads fl ot x0 := State.leads_ksCmd h _ _ _
  clear_value x0
  exact State.leads_ite (State.leads_ksBusy hx0) (State.leads_ite (State.leads_ksResult hx0 _) (State.leads_ksResult
      (State.leads_ksPut hx0 _ _ _ _) _))

theorem State.leads_spdmSigned {fl ot : Bool} {r s : State} (h : r.Leads fl ot s) (ep : Nat) (digest : Nat) (a_r : List
    Byte → SpdmRsp) : r.Leads fl ot (State.spdmSigned s ep digest a_r) := by
  unfold State.spdmSigned
  exact State.leads_ite (State.leads_tookFree (State.leads_spdmSay h _ _)) (State.leads_spdmSay h _ _)

theorem State.leads_ksZeroiseAll {fl ot : Bool} {r s : State} (h : r.Leads fl ot s) : r.Leads fl ot (State.ksZeroiseAll
    s) := by
  unfold State.ksZeroiseAll
  exact State.leads_ksResult (State.leads_zeroiseAll (State.leads_wr h _ _ _)) _

theorem State.leads_dbgChallenge {fl ot : Bool} {r s : State} (h : r.Leads fl ot s) (level : Nat) : r.Leads fl ot
    (State.dbgChallenge s level) := by
  unfold State.dbgChallenge
  extract_lets -merge -underBinder +onlyGivenNames x0
  have hx0 : r.Leads fl ot x0 := State.leads_wr (State.leads_wr h _ _ _) _ _ _
  clear_value x0
  refine State.leads_ite ?_ ?_
  · exact State.leads_wr hx0 _ _ _
  · extract_lets -merge -underBinder +onlyGivenNames x1
    try clear_value x1
    extract_lets -merge -underBinder +onlyGivenNames x2
    have hx2 : r.Leads fl ot x2 := State.leads_foldl (State.leads_tookFree hx0) _ _ fun x3 y3 hx3 => State.leads_wr hx3
        _ _ _
    clear_value x2
    extract_lets -merge -underBinder +onlyGivenNames x4
    have hx4 : r.Leads fl ot x4 := State.leads_wr (State.leads_wr (State.leads_wr hx2 _ _ _) _ _ _) _ _ _
    clear_value x4
    exact State.leads_mk hx4 ..

theorem State.leads_ksZeroise {fl ot : Bool} {r s : State} (h : r.Leads fl ot s) (slot : Nat) : r.Leads fl ot
    (State.ksZeroise s slot) := by
  unfold State.ksZeroise
  extract_lets -merge -underBinder +onlyGivenNames x0
  have hx0 : r.Leads fl ot x0 := State.leads_wr (State.leads_wr h _ _ _) _ _ _
  clear_value x0
  exact State.leads_ite (State.leads_ksBusy hx0) (State.leads_ite (State.leads_ksResult hx0 _) (State.leads_ksResult
      (State.leads_fillSlot hx0 _) _))

theorem State.leads_otpProgram {fl : Bool} {r s : State} (h : r.Leads fl false s) (w : Nat) (lost : Nat) : r.Leads fl
    false (State.otpProgram s w lost) := by
  unfold State.otpProgram
  extract_lets -merge -underBinder +onlyGivenNames x0
  try clear_value x0
  extract_lets -merge -underBinder +onlyGivenNames x1
  have hx1 : r.Leads fl false x1 := State.leads_wr h _ _ _
  clear_value x1
  refine State.leads_ite ?_ ?_
  · exact State.leads_wr hx1 _ _ _
  · extract_lets -merge -underBinder +onlyGivenNames x2
    try clear_value x2
    extract_lets -merge -underBinder +onlyGivenNames x3
    have hx3 : r.Leads fl false x3 := State.leads_otpSet hx1 _ _
    clear_value x3
    exact State.leads_ite (State.leads_wr hx3 _ _ _) (State.leads_raise (State.leads_wr hx3 _ _ _) _ _)

theorem State.leads_sign {fl ot : Bool} {r s : State} (h : r.Leads fl ot s) : r.Leads fl ot (State.sign s) := by
  unfold State.sign
  refine State.leads_ite ?_ ?_
  · exact State.leads_wr h _ _ _
  · extract_lets -merge -underBinder +onlyGivenNames x0
    try clear_value x0
    exact State.leads_wr (State.leads_foldl (State.leads_tookFree h) _ _ fun x1 y1 hx1 => State.leads_wr hx1 _ _ _) _ _
        _

theorem State.leads_dbgVerify {fl ot : Bool} {r s : State} (h : r.Leads fl ot s) (level : Nat) : r.Leads fl ot
    (State.dbgVerify s level) := by
  unfold State.dbgVerify
  extract_lets -merge -underBinder +onlyGivenNames x0
  have hx0 : r.Leads fl ot x0 := State.leads_wr h _ _ _
  clear_value x0
  extract_lets -merge -underBinder +onlyGivenNames x1
  try clear_value x1
  extract_lets -merge -underBinder +onlyGivenNames x2
  have hx2 : r.Leads fl ot x2 := State.leads_wr hx0 _ _ _
  clear_value x2
  refine State.leads_ite ?_ ?_
  · exact State.leads_dbgRefuse hx2 _
  · refine State.leads_ite ?_ ?_
    · exact State.leads_dbgRefuse hx2 _
    · extract_lets -merge -underBinder +onlyGivenNames x3
      have hx3 : r.Leads fl ot x3 := State.leads_extend hx2 _ _
      clear_value x3
      extract_lets -merge -underBinder +onlyGivenNames x4
      have hx4 : r.Leads fl ot x4 := State.leads_when hx3 _ _ (fun x5 hx5 => State.leads_testMode hx5)
      clear_value x4
      exact State.leads_raise (State.leads_wr (State.leads_wr hx4 _ _ _) _ _ _) _ _

theorem State.leads_spdmFrom {fl ot : Bool} {r s : State} (h : r.Leads fl ot s) (ep : Nat) (st : Nat) (f : State →
    State) (hf : ∀ t, r.Leads fl ot t → r.Leads fl ot (f t)) : r.Leads fl ot (State.spdmFrom s ep st f) := by
  unfold State.spdmFrom
  exact State.leads_ite h (State.leads_ite (State.leads_spdmSay h _ _) (hf _ h))

theorem State.leads_spdmIn {fl ot : Bool} {r s : State} (h : r.Leads fl ot s) (ep : Nat) (n : Nat) (f : State → State)
    (hf : ∀ t, r.Leads fl ot t → r.Leads fl ot (f t)) : r.Leads fl ot (State.spdmIn s ep n f) := by
  unfold State.spdmIn
  exact State.leads_spdmFrom h _ _ _ (fun x0 hx0 => State.leads_ite (hf _ hx0) (State.leads_spdmSay hx0 _ _))

theorem State.leads_ksLoad {fl ot : Bool} {r s : State} (h : r.Leads fl ot s) (slot : Nat) (salt : Nat) : r.Leads fl ot
    (State.ksLoad s slot salt) := by
  unfold State.ksLoad
  extract_lets -merge -underBinder +onlyGivenNames x0
  have hx0 : r.Leads fl ot x0 := State.leads_ksCmd h _ _ _
  clear_value x0
  refine State.leads_ite ?_ ?_
  · exact State.leads_ksBusy hx0
  · extract_lets -merge -underBinder +onlyGivenNames x1
    have hx1 : r.Leads fl ot x1 := State.leads_ksPut hx0 _ _ _ _
    clear_value x1
    exact State.leads_ksResult (State.leads_foldl hx1 _ _ fun x2 y2 hx2 => State.leads_wr hx2 _ _ _) _

theorem State.leads_measExtend {fl ot : Bool} {r s : State} (h : r.Leads fl ot s) (b : Nat) : r.Leads fl ot
    (State.measExtend s b) := by
  unfold State.measExtend
  extract_lets -merge -underBinder +onlyGivenNames x0
  have hx0 : r.Leads fl ot x0 := State.leads_wr h _ _ _
  clear_value x0
  exact State.leads_ite (State.leads_wr hx0 _ _ _) (State.leads_wr (State.leads_extend hx0 _ _) _ _ _)

end Sys2Proof.Machine
end

