-- ==== Sys2Proof/Laws/Lead/Sec.lean ====
section
/-! SUPPORT. What the operations of Machine/Sec.lean keep (State.Leads of Laws/Leads.lean). -/

namespace Sys2Proof.Machine

open Reg

theorem State.leads_execVerify {fl ot : Bool} {r s : State} (h : r.Leads fl ot s) (who : Initiator) (level : Nat) :
    r.LeadsR fl ot (execVerify who level s) := by
  unfold execVerify
  exact State.leadsR_next (State.leads_access h _ _ _ _ (fun x0 hx0 => State.leads_dbgVerify hx0 _))

theorem State.leads_execDbgRespPush {fl ot : Bool} {r s : State} (h : r.Leads fl ot s) (who : Initiator) (word : Nat) :
    r.LeadsR fl ot (execDbgRespPush who word s) := by
  unfold execDbgRespPush
  exact State.leadsR_next (State.leads_access h _ _ _ _ (fun x0 hx0 => State.leads_mk hx0 ..))

theorem State.leads_execSpdmChallenge {fl ot : Bool} {r s : State} (h : r.Leads fl ot s) (ep : Nat) (slot : Nat)
    (digest : Nat) : r.LeadsR fl ot (execSpdmChallenge ep slot digest s) := by
  unfold execSpdmChallenge
  exact State.leadsR_next (State.leads_spdmFrom h _ _ _ (fun x0 hx0 => State.leads_ite (State.leads_spdmSay hx0 _ _)
      (State.leads_spdmSigned hx0 _ _ _)))

theorem State.leads_execRecoveryImageRx {fl ot : Bool} {r s : State} (h : r.Leads fl ot s) (who : Initiator) (bytes :
    List Byte) : r.LeadsR fl ot (execRecoveryImageRx who bytes s) := by
  unfold execRecoveryImageRx
  extract_lets -merge -underBinder +onlyGivenNames x0
  try clear_value x0
  extract_lets -merge -underBinder +onlyGivenNames x1
  try clear_value x1
  exact State.leadsR_next (State.leads_when h _ _ (fun x2 hx2 => State.leads_runImage hx2 _ _ _))

theorem State.leads_execKeyExchange {fl ot : Bool} {r s : State} (h : r.Leads fl ot s) (ep : Nat) (slot : Nat) (session
    : Nat) (digest : Nat) : r.LeadsR fl ot (execKeyExchange ep slot session digest s) := by
  unfold execKeyExchange
  exact State.leadsR_next (State.leads_spdmFrom h _ _ _ (fun x0 hx0 => State.leads_ite (State.leads_spdmSay hx0 _ _)
      (State.leads_ite (State.leads_spdmSay hx0 _ _) (State.leads_ite (State.leads_spdmSay hx0 _ _)
      (State.leads_setSpdm (State.leads_spdmSigned hx0 _ _ _) _ _)))))

theorem State.leads_execZeroise {fl ot : Bool} {r s : State} (h : r.Leads fl ot s) (who : Initiator) (slot : Nat) :
    r.LeadsR fl ot (execZeroise who slot s) := by
  unfold execZeroise
  exact State.leadsR_next (State.leads_access h _ _ _ _ (fun x0 hx0 => State.leads_ksZeroise hx0 _))

theorem State.leads_execBootRomStart {fl ot : Bool} {r s : State} (h : r.Leads fl ot s) (idOk : Bool) (idMatch : Bool)
    (testEn : Bool) (pufErr : Nat) (flashErr : Nat) : r.LeadsR fl ot (execBootRomStart idOk idMatch testEn pufErr
    flashErr s) := by
  unfold execBootRomStart
  exact State.leadsR_next (State.leads_when h _ _ (fun x0 hx0 => State.leads_boot hx0 _ _ _ _ _))

theorem State.leads_execChallenge {fl ot : Bool} {r s : State} (h : r.Leads fl ot s) (who : Initiator) (level : Nat) :
    r.LeadsR fl ot (execChallenge who level s) := by
  unfold execChallenge
  exact State.leadsR_next (State.leads_access h _ _ _ _ (fun x0 hx0 => State.leads_dbgChallenge hx0 _))

theorem State.leads_execZeroiseAll {fl ot : Bool} {r s : State} (h : r.Leads fl ot s) (who : Initiator) : r.LeadsR fl
    ot (execZeroiseAll who s) := by
  unfold execZeroiseAll
  exact State.leadsR_next (State.leads_access h _ _ _ _ (fun x0 hx0 => State.leads_ksZeroiseAll hx0))

theorem State.leads_execLoad {fl ot : Bool} {r s : State} (h : r.Leads fl ot s) (who : Initiator) (slot : Nat) (salt :
    Nat) : r.LeadsR fl ot (execLoad who slot salt s) := by
  unfold execLoad
  exact State.leadsR_next (State.leads_access h _ _ _ _ (fun x0 hx0 => State.leads_ksLoad hx0 _ _))

theorem State.leads_execFinish {fl ot : Bool} {r s : State} (h : r.Leads fl ot s) (ep : Nat) : r.LeadsR fl ot
    (execFinish ep s) := by
  unfold execFinish
  exact State.leadsR_next (State.leads_spdmIn h _ _ _ (fun x0 hx0 => State.leads_spdmSay (State.leads_setSpdm hx0 _ _)
      _ _))

theorem State.leads_execEndSession {fl ot : Bool} {r s : State} (h : r.Leads fl ot s) (ep : Nat) : r.LeadsR fl ot
    (execEndSession ep s) := by
  unfold execEndSession
  exact State.leadsR_next (State.leads_spdmIn h _ _ _ (fun x0 hx0 => State.leads_spdmSay (State.leads_setSpdm hx0 _ _)
      _ _))

theorem State.leads_execNonceExpiry {fl ot : Bool} {r s : State} (h : r.Leads fl ot s) : r.LeadsR fl ot
    (execNonceExpiry s) := by
  unfold execNonceExpiry
  exact State.leadsR_next (State.leads_when h _ _ (fun x0 hx0 => State.leads_wr hx0 _ _ _))

theorem State.leads_execGetDigests {fl ot : Bool} {r s : State} (h : r.Leads fl ot s) (ep : Nat) : r.LeadsR fl ot
    (execGetDigests ep s) := by
  unfold execGetDigests
  exact State.leadsR_next (State.leads_spdmFrom h _ _ _ (fun x0 hx0 => State.leads_ite (State.leads_spdmSay hx0 _ _)
      (State.leads_spdmSay hx0 _ _)))

theorem State.leads_execMeasExtend {fl ot : Bool} {r s : State} (h : r.Leads fl ot s) (who : Initiator) (bank : Nat) :
    r.LeadsR fl ot (execMeasExtend who bank s) := by
  unfold execMeasExtend
  exact State.leadsR_next (State.leads_access h _ _ _ _ (fun x0 hx0 => State.leads_measExtend hx0 _))

theorem State.leads_execGetCertificate {fl ot : Bool} {r s : State} (h : r.Leads fl ot s) (ep : Nat) (slot : Nat) (off
    : Nat) (len : Nat) : r.LeadsR fl ot (execGetCertificate ep slot off len s) := by
  unfold execGetCertificate
  exact State.leadsR_next (State.leads_spdmFrom h _ _ _ (fun x0 hx0 => State.leads_ite (State.leads_spdmSay hx0 _ _)
      (State.leads_spdmSay hx0 _ _)))

theorem State.leads_execSign {fl ot : Bool} {r s : State} (h : r.Leads fl ot s) (who : Initiator) : r.LeadsR fl ot
    (execSign who s) := by
  unfold execSign
  exact State.leadsR_next (State.leads_access h _ _ _ _ (fun x0 hx0 => State.leads_sign hx0))

theorem State.leads_execGetCapabilities {fl ot : Bool} {r s : State} (h : r.Leads fl ot s) (ep : Nat) : r.LeadsR fl ot
    (execGetCapabilities ep s) := by
  unfold execGetCapabilities
  exact State.leadsR_next (State.leads_spdmFrom h _ _ _ (fun x0 hx0 => State.leads_spdmSay (State.leads_setSpdm hx0 _
      _) _ _))

theorem State.leads_execKeyUpdate {fl ot : Bool} {r s : State} (h : r.Leads fl ot s) (ep : Nat) : r.LeadsR fl ot
    (execKeyUpdate ep s) := by
  unfold execKeyUpdate
  exact State.leadsR_next (State.leads_spdmIn h _ _ _ (fun x0 hx0 => State.leads_spdmSay hx0 _ _))

theorem State.leads_execDerive {fl ot : Bool} {r s : State} (h : r.Leads fl ot s) (who : Initiator) (slot : Nat) (salt
    : Nat) : r.LeadsR fl ot (execDerive who slot salt s) := by
  unfold execDerive
  exact State.leadsR_next (State.leads_access h _ _ _ _ (fun x0 hx0 => State.leads_ksDerive hx0 _ _))

theorem State.leads_execHeartbeat {fl ot : Bool} {r s : State} (h : r.Leads fl ot s) (ep : Nat) : r.LeadsR fl ot
    (execHeartbeat ep s) := by
  unfold execHeartbeat
  exact State.leadsR_next (State.leads_spdmIn h _ _ _ (fun x0 hx0 => State.leads_spdmSay hx0 _ _))

theorem State.leads_execSpdmUnsupported {fl ot : Bool} {r s : State} (h : r.Leads fl ot s) (ep : Nat) : r.LeadsR fl ot
    (execSpdmUnsupported ep s) := by
  unfold execSpdmUnsupported
  exact State.leadsR_next (State.leads_when h _ _ (fun x0 hx0 => State.leads_spdmSay hx0 _ _))

theorem State.leads_execGetMeasurements {fl ot : Bool} {r s : State} (h : r.Leads fl ot s) (ep : Nat) (index : Nat)
    (signed : Bool) (digest : Nat) : r.LeadsR fl ot (execGetMeasurements ep index signed digest s) := by
  unfold execGetMeasurements
  exact State.leadsR_next (State.leads_spdmFrom h _ _ _ (fun x0 hx0 => State.leads_ite (State.leads_spdmSigned hx0 _ _
      _) (State.leads_spdmSay hx0 _ _)))

theorem State.leads_execGetVersion {fl ot : Bool} {r s : State} (h : r.Leads fl ot s) (ep : Nat) : r.LeadsR fl ot
    (execGetVersion ep s) := by
  unfold execGetVersion
  exact State.leadsR_next (State.leads_spdmVersion h _)

theorem State.leads_execOtpProgram {fl : Bool} {r s : State} (h : r.Leads fl false s) (who : Initiator) (word : Nat)
    (lost : Nat) : r.LeadsR fl false (execOtpProgram who word lost s) := by
  unfold execOtpProgram
  exact State.leadsR_next (State.leads_access h _ _ _ _ (fun x0 hx0 => State.leads_otpProgram hx0 _ _))

theorem State.leads_execNegotiateAlgorithms {fl ot : Bool} {r s : State} (h : r.Leads fl ot s) (ep : Nat) (common :
    Bool) : r.LeadsR fl ot (execNegotiateAlgorithms ep common s) := by
  unfold execNegotiateAlgorithms
  exact State.leadsR_next (State.leads_spdmFrom h _ _ _ (fun x0 hx0 => State.leads_ite (State.leads_spdmSay
      (State.leads_setSpdm hx0 _ _) _ _) (State.leads_spdmSay hx0 _ _)))

theorem State.leads_execKeyGraceEnd {fl ot : Bool} {r s : State} (h : r.Leads fl ot s) (entry : Nat) : r.LeadsR fl ot
    (execKeyGraceEnd entry s) := by
  unfold execKeyGraceEnd
  extract_lets -merge -underBinder +onlyGivenNames x0
  try clear_value x0
  exact State.leadsR_next (State.leads_when h _ _ (fun x1 hx1 => State.leads_wr hx1 _ _ _))

theorem State.leads_execRngHealthFail {fl ot : Bool} {r s : State} (h : r.Leads fl ot s) : r.LeadsR fl ot
    (execRngHealthFail s) := by
  unfold execRngHealthFail
  exact State.leadsR_next (State.leads_raise h _ _)

end Sys2Proof.Machine
end

