-- ==== Sys2Proof/Laws/Lead/Mbx.lean ====
section
/-! SUPPORT. What the operations of Machine/Mbx.lean keep (State.Leads of Laws/Leads.lean). -/

namespace Sys2Proof.Machine

open Reg

theorem State.leads_mbCmd {fl ot : Bool} {r s : State} (h : r.Leads fl ot s) (c : Nat) (cmd : Nat) (act : State → State
    × Nat × List Nat) (hact : ∀ t, r.Leads fl ot t → r.Leads fl ot (act t).1) : r.LeadsR fl ot (State.mbCmd s c cmd
    act) := by
  unfold State.mbCmd
  extract_lets -merge -underBinder +onlyGivenNames x0
  try clear_value x0
  refine State.leadsR_next ?_
  refine State.leads_when ?_ _ _ (fun x1 hx1 => ?_)
  · exact h
  · extract_lets -merge -underBinder +onlyGivenNames x2
    have hx2 : r.Leads fl ot x2.1 := hact _ hx1
    clear_value x2
    exact State.leads_mbFinish hx2 _ _ _

theorem State.leads_mbNeed {fl ot : Bool} {r s : State} (h : r.Leads fl ot s) (c : Nat) (n : Nat) (act : State → State
    × Nat × List Nat) (hact : ∀ t, r.Leads fl ot t → r.Leads fl ot (act t).1) : r.Leads fl ot (State.mbNeed s c n
    act).1 := by
  unfold State.mbNeed
  exact State.leads_ite_fst (State.leads_pair h) (hact _ h)

theorem State.leads_execKeyBind {fl ot : Bool} {r s : State} (h : r.Leads fl ot s) (c : Nat) (key : Option Nat) :
    r.LeadsR fl ot (execKeyBind c key s) := by
  unfold execKeyBind
  refine State.leads_mbCmd ?_ _ _ _ (fun x0 hx0 => ?_)
  · exact h
  · refine State.leads_mbNeed ?_ _ _ _ (fun x1 hx1 => ?_)
    · exact hx0
    · extract_lets -merge -underBinder +onlyGivenNames x2
      try clear_value x2
      split
      · exact State.leads_pair hx1
      · exact State.leads_ite_fst (State.leads_pair (State.leads_ksBusy hx1)) (State.leads_pair (State.leads_ksResult
            (State.leads_ksPut hx1 _ _ _ _) _))

theorem State.leads_flashErr {fl ot : Bool} {r s : State} (h : r.Leads fl ot s) : r.Leads fl ot (State.flashErr s).1 :=
    by
  unfold State.flashErr
  exact State.leads_pair (State.leads_raise h _ _)

theorem State.leads_fwCmd {fl ot : Bool} {r s : State} (h : r.Leads fl ot s) (c : Nat) (cmd : Nat) (act : State → State
    × Nat × List Nat) (hact : ∀ t, r.Leads fl ot t → r.Leads fl ot (act t).1) : r.LeadsR fl ot (State.fwCmd s c cmd
    act) := by
  unfold State.fwCmd
  exact State.leads_mbCmd h _ _ _ (fun x0 hx0 => State.leads_ite_fst (State.leads_pair hx0) (hact _ hx0))

theorem State.leads_fwProgram {ot : Bool} {r s : State} (h : r.Leads false ot s) (off : Nat) (bs : List Byte) :
    r.Leads false ot (State.fwProgram s off bs) := by
  unfold State.fwProgram
  extract_lets base
  refine State.leads_flash h _ fun hm => ?_
  exact List.foldlRecOn (motive := fun m => Mem.wf 0xFF m = true) _ _ hm fun m hm x _ => Mem.wf_write _ _ hm

theorem State.leads_execFwData {ot : Bool} {r s : State} (h : r.Leads false ot s) (c : Nat) (ok : Bool) : r.LeadsR
    false ot (execFwData c ok s) := by
  unfold execFwData
  refine State.leads_fwCmd ?_ _ _ _ (fun x0 hx0 => ?_)
  · exact h
  · refine State.leads_mbNeed ?_ _ _ _ (fun x1 hx1 => ?_)
    · exact hx0
    · extract_lets -merge -underBinder +onlyGivenNames x2
      try clear_value x2
      extract_lets -merge -underBinder +onlyGivenNames x3
      try clear_value x3
      refine State.leads_ite_fst ?_ ?_
      · exact State.leads_pair hx1
      · refine State.leads_ite_fst ?_ ?_
        · exact State.leads_pair hx1
        · extract_lets -merge -underBinder +onlyGivenNames x4
          have hx4 : r.Leads false ot x4 := State.leads_wr (State.leads_wr (State.leads_fwProgram hx1 _ _) _ _ _) _ _ _
          clear_value x4
          exact State.leads_ite_fst (State.leads_pair hx4) (State.leads_flashErr hx4)

theorem State.leads_execGetInfo {fl ot : Bool} {r s : State} (h : r.Leads fl ot s) (c : Nat) : r.LeadsR fl ot
    (execGetInfo c s) := by
  unfold execGetInfo
  exact State.leads_mbCmd h _ _ _ (fun x0 hx0 => State.leads_pair hx0)

theorem State.leads_execAbort {fl ot : Bool} {r s : State} (h : r.Leads fl ot s) (who : Initiator) (c : Nat) : r.LeadsR
    fl ot (execAbort who c s) := by
  unfold execAbort
  exact State.leadsR_next (State.leads_access h _ _ _ _ (fun x0 hx0 => State.leads_mbAbort hx0 _))

theorem State.leads_usbPathsDown {fl ot : Bool} {r s : State} (h : r.Leads fl ot s) (d : Nat) : r.Leads fl ot
    (State.usbPathsDown s d) := by
  unfold State.usbPathsDown
  extract_lets -merge -underBinder +onlyGivenNames x0
  try clear_value x0
  extract_lets -merge -underBinder +onlyGivenNames x1
  try clear_value x1
  extract_lets -merge -underBinder +onlyGivenNames x2
  try clear_value x2
  extract_lets -merge -underBinder +onlyGivenNames x3
  try clear_value x3
  exact State.leads_notify (State.leads_notify (State.leads_markDown h _ _ _) _ _ _) _ _ _

theorem State.leads_execEngineHalt {fl ot : Bool} {r s : State} (h : r.Leads fl ot s) (e : Nat) : r.LeadsR fl ot
    (execEngineHalt e s) := by
  unfold execEngineHalt
  refine State.leadsR_next ?_
  refine State.leads_when ?_ _ _ (fun x0 hx0 => ?_)
  · exact h
  · extract_lets -merge -underBinder +onlyGivenNames x1
    have hx1 : r.Leads fl ot x1 := State.leads_wrBit hx0 _ _ _ _
    clear_value x1
    extract_lets -merge -underBinder +onlyGivenNames x2
    have hx2 : r.Leads fl ot x2 := (by
        unfold x2
        split
        · exact State.leads_ite (State.leads_usbPathsDown hx1 _) (State.leads_declareDown hx1 _ _)
        · exact hx1)
    clear_value x2
    extract_lets -merge -underBinder +onlyGivenNames x3
    try clear_value x3
    extract_lets -merge -underBinder +onlyGivenNames x4
    try clear_value x4
    extract_lets -merge -underBinder +onlyGivenNames x5
    have hx5 : r.Leads fl ot x5 := State.leads_wr (State.leads_wr hx2 _ _ _) _ _ _
    clear_value x5
    exact State.leads_when hx5 _ _ (fun x6 hx6 => State.leads_wr (State.leads_wr hx6 _ _ _) _ _ _)

theorem State.leads_eraseCopy {ot : Bool} {r s : State} (h : r.Leads false ot s) (c : Nat) :
    r.Leads false ot (State.eraseCopy s c) := by
  unfold State.eraseCopy
  extract_lets a b
  refine State.leads_flash h _ fun hm => ?_
  split
  · exact Mem.wf_clear _ _ hm
  · exact Mem.wf_filter _ hm

theorem State.leads_execMbCntClr {fl ot : Bool} {r s : State} (h : r.Leads fl ot s) (who : Initiator) : r.LeadsR fl ot
    (execMbCntClr who s) := by
  unfold execMbCntClr
  exact State.leadsR_next (State.leads_access h _ _ _ _ (fun x0 hx0 => State.leads_clearFields hx0 _ _))

theorem State.leads_execFwUpdateTimeout {fl ot : Bool} {r s : State} (h : r.Leads fl ot s) : r.LeadsR fl ot
    (execFwUpdateTimeout s) := by
  unfold execFwUpdateTimeout
  exact State.leadsR_next (State.leads_when h _ _ (fun x0 hx0 => State.leads_wr (State.leads_wr hx0 _ _ _) _ _ _))

theorem State.leads_recordReq {fl ot : Bool} {r s : State} (h : r.Leads fl ot s) (c : Ctrl) : r.Leads fl ot
    (State.recordReq s c) := by
  unfold State.recordReq
  extract_lets -merge -underBinder +onlyGivenNames x0
  try clear_value x0
  exact State.leads_ite h (State.leads_mk h ..)

theorem State.leads_eraseHeader {ot : Bool} {r s : State} (h : r.Leads false ot s) (c : Nat) :
    r.Leads false ot (State.eraseHeader s c) :=
  State.leads_flash h _ (Mem.wf_clear _ _)

theorem State.leads_fwReset {fl ot : Bool} {r s : State} (h : r.Leads fl ot s) : r.Leads fl ot (State.fwReset s) := by
  unfold State.fwReset
  exact State.leads_wr h _ _ _

theorem State.leads_execFwRollback {ot : Bool} {r s : State} (h : r.Leads false ot s) (c : Nat) (ok : Bool) : r.LeadsR
    false ot (execFwRollback c ok s) := by
  unfold execFwRollback
  exact State.leads_fwCmd h _ _ _ (fun x0 hx0 => State.leads_ite_fst (State.leads_pair hx0) (State.leads_ite_fst
      (State.leads_flashErr hx0) (State.leads_pair (State.leads_fwReset (State.leads_wr (State.leads_eraseHeader hx0 _)
      _ _ _)))))

theorem State.leads_execRequestTaken {fl ot : Bool} {r s : State} (h : r.Leads fl ot s) (c : Nat) : r.LeadsR fl ot
    (execRequestTaken c s) := by
  unfold execRequestTaken
  extract_lets -merge -underBinder +onlyGivenNames x0
  try clear_value x0
  refine State.leadsR_next ?_
  refine State.leads_when ?_ _ _ (fun x1 hx1 => ?_)
  · exact h
  · extract_lets -merge -underBinder +onlyGivenNames x2
    have hx2 : r.Leads fl ot x2 := State.leads_wr hx1 _ _ _
    clear_value x2
    split
    · exact hx2
    · exact State.leads_mbFinish hx2 _ _ _
    · exact State.leads_mbFinish hx2 _ _ _

theorem State.leads_execCtrlSend {fl ot : Bool} {r s : State} (h : r.Leads fl ot s) (c : Nat) : r.LeadsR fl ot
    (execCtrlSend c s) := by
  unfold execCtrlSend
  refine State.leads_mbCmd ?_ _ _ _ (fun x0 hx0 => ?_)
  · exact h
  · split
    · exact State.leads_pair hx0
    · extract_lets -merge -underBinder +onlyGivenNames x1
      try clear_value x1
      exact State.leads_ite_fst (State.leads_pair hx0) (State.leads_ite_fst (State.leads_pair (State.leads_when hx0 _ _
          (fun x2 hx2 => State.leads_count hx2 _ _))) (State.leads_pair (State.leads_ctrlArrive (State.leads_recordReq
          hx0 _) _ _ _)))

theorem State.leads_execDone {fl ot : Bool} {r s : State} (h : r.Leads fl ot s) (who : Initiator) (c : Nat) : r.LeadsR
    fl ot (execDone who c s) := by
  unfold execDone
  exact State.leadsR_next (State.leads_access h _ _ _ _ (fun x0 hx0 => State.leads_wr hx0 _ _ _))

theorem State.leads_execFwCommit {fl ot : Bool} {r s : State} (h : r.Leads fl ot s) (c : Nat) : r.LeadsR fl ot
    (execFwCommit c s) := by
  unfold execFwCommit
  exact State.leads_fwCmd h _ _ _ (fun x0 hx0 => State.leads_pair (State.leads_wr (State.leads_trialClear hx0) _ _ _))

theorem State.leads_regrant {fl ot : Bool} {r s : State} (h : r.Leads fl ot s) (k : Nat) (j : Nat) (units : Nat) :
    r.Leads fl ot (State.regrant s k j units) := by
  unfold State.regrant
  extract_lets -merge -underBinder +onlyGivenNames x0
  have hx0 : r.Leads fl ot x0 := State.leads_foldl h _ _ fun x1 y1 hx1 => State.leads_wr hx1 _ _ _
  clear_value x0
  exact State.leads_wr (State.leads_wr (State.leads_wr hx0 _ _ _) _ _ _) _ _ _

theorem State.leads_execDpGrant {fl ot : Bool} {r s : State} (h : r.Leads fl ot s) (c : Nat) : r.LeadsR fl ot
    (execDpGrant c s) := by
  unfold execDpGrant
  refine State.leads_mbCmd ?_ _ _ _ (fun x0 hx0 => ?_)
  · exact h
  · refine State.leads_mbNeed ?_ _ _ _ (fun x1 hx1 => ?_)
    · exact hx0
    · extract_lets -merge -underBinder +onlyGivenNames x2
      try clear_value x2
      extract_lets -merge -underBinder +onlyGivenNames x3
      try clear_value x3
      extract_lets -merge -underBinder +onlyGivenNames x4
      try clear_value x4
      refine State.leads_ite_fst ?_ ?_
      · exact State.leads_pair hx1
      · refine State.leads_ite_fst ?_ ?_
        · exact State.leads_pair hx1
        · extract_lets -merge -underBinder +onlyGivenNames x5
          have hx5 : r.Leads fl ot x5.1 := (by
              unfold x5
              refine State.leads_foldl_fst ?_ _ _ fun x6 y6 hx6 => ?_
              · exact State.leads_pair hx1
              split
              · exact State.leads_pair hx6
              · extract_lets -merge -underBinder +onlyGivenNames x7
                have hx7 : r.Leads fl ot x7 := State.leads_regrant hx6 _ _ _
                clear_value x7
                exact State.leads_pair hx7)
          clear_value x5
          refine State.leads_ite_fst ?_ ?_
          · exact State.leads_pair (State.leads_raiseRefuse hx1 _)
          · extract_lets -merge -underBinder +onlyGivenNames x8
            have hx8 : r.Leads fl ot x8 := State.leads_wr (State.leads_wr hx5 _ _ _) _ _ _
            clear_value x8
            exact State.leads_pair (State.leads_armPaths hx8)

theorem State.leads_execFwBegin {ot : Bool} {r s : State} (h : r.Leads false ot s) (c : Nat) (ok : Bool) : r.LeadsR
    false ot (execFwBegin c ok s) := by
  unfold execFwBegin
  refine State.leads_fwCmd ?_ _ _ _ (fun x0 hx0 => ?_)
  · exact h
  · refine State.leads_mbNeed ?_ _ _ _ (fun x1 hx1 => ?_)
    · exact hx0
    · extract_lets -merge -underBinder +onlyGivenNames x2
      have hx2 : r.Leads false ot x2 := State.leads_eraseCopy hx1 _
      clear_value x2
      extract_lets -merge -underBinder +onlyGivenNames x3
      have hx3 : r.Leads false ot x3 := State.leads_wr (State.leads_wr (State.leads_wr hx2 _ _ _) _ _ _) _ _ _
      clear_value x3
      extract_lets -merge -underBinder +onlyGivenNames x4
      have hx4 : r.Leads false ot x4 := State.leads_wr hx3 _ _ _
      clear_value x4
      exact State.leads_ite_fst (State.leads_pair hx4) (State.leads_flashErr hx4)

theorem State.leads_execLogRead {fl ot : Bool} {r s : State} (h : r.Leads fl ot s) (c : Nat) (words : List Nat) :
    r.LeadsR fl ot (execLogRead c words s) := by
  unfold execLogRead
  exact State.leads_mbCmd h _ _ _ (fun x0 hx0 => State.leads_mbNeed hx0 _ _ _ (fun x1 hx1 => State.leads_pair hx1))

theorem State.leads_execFwEnd {fl ot : Bool} {r s : State} (h : r.Leads fl ot s) (c : Nat) : r.LeadsR fl ot (execFwEnd
    c s) := by
  unfold execFwEnd
  refine State.leads_fwCmd ?_ _ _ _ (fun x0 hx0 => ?_)
  · exact h
  · extract_lets -merge -underBinder +onlyGivenNames x1
    try clear_value x1
    exact State.leads_ite_fst (State.leads_pair hx0) (State.leads_ite_fst (State.leads_pair (State.leads_wr hx0 _ _ _))
        (State.leads_pair (State.leads_wr hx0 _ _ _)))

theorem State.leads_execFwActivate {ot : Bool} {r s : State} (h : r.Leads false ot s) (c : Nat) (ok : Bool) :
    r.LeadsR false ot (execFwActivate c ok s) := by
  unfold execFwActivate
  refine State.leads_fwCmd h _ _ _ fun t ht => ?_
  refine State.leads_ite_fst ht (State.leads_ite_fst (State.leads_flashErr ht) ?_)
  exact State.leads_fwReset (State.leads_wr (State.leads_trialWrite (State.leads_flash ht _ (Mem.wf_writeList _ _)) _ _)
    _ _ _)

theorem State.leads_execSvnCommit {fl : Bool} {r s : State} (h : r.Leads fl false s) (c : Nat) : r.LeadsR fl false
    (execSvnCommit c s) := by
  unfold execSvnCommit
  refine State.leads_fwCmd ?_ _ _ _ (fun x0 hx0 => ?_)
  · exact h
  · refine State.leads_ite_fst ?_ ?_
    · exact State.leads_pair hx0
    · extract_lets -merge -underBinder +onlyGivenNames x1
      try clear_value x1
      extract_lets -merge -underBinder +onlyGivenNames x2
      have hx2 : r.Leads fl false x2 := State.leads_foldl hx0 _ _ fun x3 y3 hx3 => State.leads_otpSet hx3 _ _
      clear_value x2
      exact State.leads_pair hx2

theorem State.leads_execEngineRestart {fl ot : Bool} {r s : State} (h : r.Leads fl ot s) (e : Nat) : r.LeadsR fl ot
    (execEngineRestart e s) := by
  unfold execEngineRestart
  exact State.leadsR_next (State.leads_when h _ _ (fun x0 hx0 => State.leads_raise (State.leads_count
      (State.leads_wrBit hx0 _ _ _ _) _ _) _ _))

theorem State.leads_execGo {fl ot : Bool} {r s : State} (h : r.Leads fl ot s) (who : Initiator) (c : Nat) (cmd : Nat)
    (len : Nat) (tag : Nat) : r.LeadsR fl ot (execGo who c cmd len tag s) := by
  unfold execGo
  exact State.leadsR_next (State.leads_access h _ _ _ _ (fun x0 hx0 => State.leads_mbGo hx0 _ _ _ _ _))

theorem State.leads_execPower {fl ot : Bool} {r s : State} (h : r.Leads fl ot s) (c : Nat) : r.LeadsR fl ot (execPower
    c s) := by
  unfold execPower
  extract_lets -merge -underBinder +onlyGivenNames x0
  try clear_value x0
  extract_lets -merge -underBinder +onlyGivenNames x1
  try clear_value x1
  refine State.leadsR_ite ?_ ?_
  · exact State.leadsR_next h
  · refine State.leadsR_ite ?_ ?_
    · exact State.leadsR_next (State.leads_mbFinish h _ _ _)
    · extract_lets -merge -underBinder +onlyGivenNames x2
      try clear_value x2
      exact State.leadsR_ite (State.leadsR_next (State.leads_psGo (State.leads_mbFinish h _ _ _) _)) (State.leadsR_next
          (State.leads_mbFinish (State.leads_psGo h _) _ _ _))

end Sys2Proof.Machine
end

