-- ==== Sys2Proof/Laws/Lead/Switch.lean ====
section
/-! SUPPORT. What the operations of Machine/Switch.lean keep (State.Leads of Laws/Leads.lean). -/

namespace Sys2Proof.Machine

open Reg

theorem State.leads_execFrameTimeout {fl ot : Bool} {r s : State} (h : r.Leads fl ot s) (inp : Nat) (tgt : Nat) (cls :
    Nat) : r.LeadsR fl ot (execFrameTimeout inp tgt cls s) := by
  unfold execFrameTimeout
  extract_lets -merge -underBinder +onlyGivenNames x0
  try clear_value x0
  extract_lets -merge -underBinder +onlyGivenNames x1
  try clear_value x1
  split
  · exact State.leadsR_next h
  · refine State.leadsR_ite ?_ ?_
    · extract_lets -merge -underBinder +onlyGivenNames x2
      try clear_value x2
      extract_lets -merge -underBinder +onlyGivenNames x3
      have hx3 : r.Leads fl ot x3 := State.leads_startFrame h _ _ _
      clear_value x3
      exact State.leadsR_next (State.leads_foldl hx3 _ _ fun x4 y4 hx4 => State.leads_writePos hx4 _)
    · exact State.leadsR_next h

theorem State.leads_execShaperEligible {fl ot : Bool} {r s : State} (h : r.Leads fl ot s) (k : Nat) : r.LeadsR fl ot
    (execShaperEligible k s) := by
  unfold execShaperEligible
  extract_lets -merge -underBinder +onlyGivenNames x0
  try clear_value x0
  exact State.leadsR_next (State.leads_when h _ _ (fun x1 hx1 => State.leads_promote (State.leads_setTokens hx1 _ _)))

theorem State.leads_swContained {fl ot : Bool} {r s : State} (h : r.Leads fl ot s) : r.Leads fl ot (State.swContained
    s) := by
  unfold State.swContained
  exact State.leads_wr h _ _ _

theorem State.leads_execCaptureDrain {fl ot : Bool} {r s : State} (h : r.Leads fl ot s) : r.LeadsR fl ot
    (execCaptureDrain s) := by
  unfold execCaptureDrain
  split
  · exact State.leadsR_next h
  · refine State.leadsR_ite ?_ ?_
    · exact State.leadsR_next h
    · refine State.leadsR_next ?_
      refine State.leads_capReport ?_
      extract_lets -merge -underBinder +onlyGivenNames x0
      have hx0 : r.Leads fl ot x0 := State.leads_memWrite h _ _ _
      clear_value x0
      exact State.leads_mk hx0 ..

theorem State.leads_nextMultiple {fl ot : Bool} {r s : State} (h : r.Leads fl ot s) (n : Nat) : r.Leads fl ot
    (State.nextMultiple s n) := by
  unfold State.nextMultiple
  dsimp only
  repeat' (with_reducible first
    | assumption | apply State.leads_when | apply State.leads_foldl | intro _ | apply State.leads_clock
    | apply State.leads_ite | apply State.leads_of_fst (by assumption) | split | apply State.leads_mk)

theorem State.leads_execCellSlot {fl ot : Bool} {r s : State} (h : r.Leads fl ot s) (held : Nat) (faults : List
    CellFault) : r.LeadsR fl ot (execCellSlot held faults s) := by
  unfold execCellSlot
  extract_lets -merge -underBinder +onlyGivenNames x0
  have hx0 : r.Leads fl ot x0 := State.leads_nextMultiple h _
  clear_value x0
  exact State.leadsR_next (State.leads_when hx0 _ _ (fun x1 hx1 => State.leads_drained (State.leads_cellSlot hx1 _ _)))

theorem State.leads_execAlmCntClr {fl ot : Bool} {r s : State} (h : r.Leads fl ot s) (who : Initiator) (e : Nat) :
    r.LeadsR fl ot (execAlmCntClr who e s) := by
  unfold execAlmCntClr
  exact State.leadsR_next (State.leads_access h _ _ _ _ (fun x0 hx0 => State.leads_clearFields hx0 _ _))

theorem State.leads_execSwOutRestart {fl ot : Bool} {r s : State} (h : r.Leads fl ot s) (who : Initiator) (mask : Nat)
    : r.LeadsR fl ot (execSwOutRestart who mask s) := by
  unfold execSwOutRestart
  exact State.leadsR_next (State.leads_access h _ _ _ _ (fun x0 hx0 => State.leads_swContained (State.leads_foldl hx0 _
      _ fun x1 y1 hx1 => State.leads_when hx1 _ _ (fun x2 hx2 => State.leads_wr hx2 _ _ _))))

theorem State.leads_execCalendarSlot {fl ot : Bool} {r s : State} (h : r.Leads fl ot s) : r.LeadsR fl ot
    (execCalendarSlot s) := by
  unfold execCalendarSlot
  extract_lets -merge -underBinder +onlyGivenNames x0
  have hx0 : r.Leads fl ot x0 := State.leads_nextMultiple h _
  clear_value x0
  exact State.leadsR_next (State.leads_when hx0 _ _ (fun x1 hx1 => State.leads_calendarSlot hx1 _))

theorem State.leads_execSwCntClr {fl ot : Bool} {r s : State} (h : r.Leads fl ot s) (who : Initiator) : r.LeadsR fl ot
    (execSwCntClr who s) := by
  unfold execSwCntClr
  refine State.leadsR_next ?_
  refine State.leads_access ?_ _ _ _ _ (fun x0 hx0 => ?_)
  · exact h
  · extract_lets -merge -underBinder +onlyGivenNames x1
    have hx1 : r.Leads fl ot x1 := State.leads_clearFields hx0 _ _
    clear_value x1
    exact State.leads_foldl hx1 _ _ fun x2 y2 hx2 => State.leads_clearFields hx2 _ _

theorem State.leads_execSwCapRd {fl ot : Bool} {r s : State} (h : r.Leads fl ot s) (who : Initiator) (value : Nat) :
    r.LeadsR fl ot (execSwCapRd who value s) := by
  unfold execSwCapRd
  exact State.leadsR_next (State.leads_access h _ _ _ _ (fun x0 hx0 => State.leads_wr hx0 _ _ _))

end Sys2Proof.Machine
end

