-- ==== Sys2Proof/Laws/Lead/Common.lean ====
section
/-! SUPPORT. What the operations of Machine/Common.lean keep (State.Leads of Laws/Leads.lean). -/

namespace Sys2Proof.Machine

open Reg

theorem State.leads_onPage {fl ot : Bool} {r s : State} (h : r.Leads fl ot s) (p : Page) (f : State → State) (hf : ∀ t,
    r.Leads fl ot t → r.Leads fl ot (f t)) : r.LeadsR fl ot (State.onPage s p f) := by
  unfold State.onPage
  exact State.leadsR_next (State.leads_when h _ _ (fun x0 hx0 => hf _ hx0))

theorem State.leads_execIntEnableWrite {fl ot : Bool} {r s : State} (h : r.Leads fl ot s) (who : Initiator) (p : Page)
    (mask : Nat) : r.LeadsR fl ot (execIntEnableWrite who p mask s) := by
  unfold execIntEnableWrite
  refine State.leads_onPage ?_ _ _ (fun x0 hx0 => ?_)
  · exact h
  · refine State.leads_access ?_ _ _ _ _ (fun x1 hx1 => ?_)
    · exact hx0
    · extract_lets -merge -underBinder +onlyGivenNames x2
      try clear_value x2
      exact State.leads_when (State.leads_foldl hx1 _ _ fun x4 y4 hx4 => State.leads_wr hx4 _ _ _) _ _ (fun x3 hx3 =>
          State.leads_request hx3 _)

theorem State.leads_armPd {fl ot : Bool} {r s : State} (h : r.Leads fl ot s) (n : Nat) : r.Leads fl ot (State.armPd s
    n) := by
  unfold State.armPd
  extract_lets -merge -underBinder +onlyGivenNames x0
  try clear_value x0
  exact State.leads_ite (State.leads_wrBit (State.leads_wr h _ _ _) _ _ _ _) (State.leads_appliedPage
      (State.leads_applyFields h _ _) _)

theorem State.leads_armPair {fl ot : Bool} {r s : State} (h : r.Leads fl ot s) (port : Nat) : r.Leads fl ot
    (State.armPair s port) := by
  unfold State.armPair
  exact State.leads_ite h (State.leads_wakeLink (State.leads_wr h _ _ _) _)

theorem State.leads_doArm {fl ot : Bool} {r s : State} (h : r.Leads fl ot s) (p : Page) (pair : Bool) (target : Nat) :
    r.Leads fl ot (State.doArm s p pair target) := by
  unfold State.doArm
  refine State.leads_ite ?_ ?_
  · exact State.leads_when h _ _ (fun x0 hx0 => State.leads_armPair hx0 _)
  · split
    · exact h
    · exact State.leads_armTurn h _ _
    · exact State.leads_armPd h _
    · extract_lets -merge -underBinder +onlyGivenNames x1
      have hx1 : r.Leads fl ot x1 := State.leads_wr h _ _ _
      clear_value x1
      refine State.leads_ite ?_ ?_
      · extract_lets -merge -underBinder +onlyGivenNames x2
        have hx2 : r.Leads fl ot x2 := State.leads_dispCheck hx1 _
        clear_value x2
        exact State.leads_when hx2 _ _ (fun x3 hx3 => State.leads_applyDisp hx3 _)
      · exact hx1

theorem State.leads_armWrite {fl ot : Bool} {r s : State} (h : r.Leads fl ot s) (who : Initiator) (p : Page) (pair :
    Bool) (target : Nat) : r.Leads fl ot (State.armWrite s who p pair target) := by
  unfold State.armWrite
  extract_lets -merge -underBinder +onlyGivenNames x0
  try clear_value x0
  extract_lets -merge -underBinder +onlyGivenNames x1
  try clear_value x1
  extract_lets -merge -underBinder +onlyGivenNames x2
  try clear_value x2
  extract_lets -merge -underBinder +onlyGivenNames x3
  try clear_value x3
  extract_lets -merge -underBinder +onlyGivenNames x4
  try clear_value x4
  refine State.leads_ite ?_ ?_
  · exact State.leads_gatedAccess h _ _
  · refine State.leads_ite ?_ ?_
    · exact h
    · extract_lets -merge -underBinder +onlyGivenNames x5
      have hx5 : r.Leads fl ot x5 := State.leads_when h _ _ (fun x6 hx6 => State.leads_wr hx6 _ _ _)
      clear_value x5
      extract_lets -merge -underBinder +onlyGivenNames x7
      have hx7 : r.Leads fl ot x7 := State.leads_when hx5 _ _ (fun x8 hx8 => State.leads_doArm hx8 _ _ _)
      clear_value x7
      exact State.leads_when hx7 _ _ (fun x9 hx9 => State.leads_drop hx9 _ _ _ _)

theorem State.leads_swLift {fl ot : Bool} {r s : State} (h : r.Leads fl ot s) : r.Leads fl ot (State.swLift s) := by
  unfold State.swLift
  extract_lets -merge -underBinder +onlyGivenNames x0
  have hx0 : r.Leads fl ot x0 := State.leads_foldl h _ _ fun x1 y1 hx1 => State.leads_wr hx1 _ _ _
  clear_value x0
  exact State.leads_wr (State.leads_foldl hx0 _ _ fun x2 y2 hx2 => State.leads_wr hx2 _ _ _) _ _ _

theorem State.leads_execAllLock {fl ot : Bool} {r s : State} (h : r.Leads fl ot s) (who : Initiator) (p : Page) :
    r.LeadsR fl ot (execAllLock who p s) := by
  unfold execAllLock
  exact State.leads_onPage h _ _ (fun x0 hx0 => State.leads_access hx0 _ _ _ _ (fun x1 hx1 => State.leads_wr hx1 _ _ _))

theorem State.leads_enableOn {fl ot : Bool} {r s : State} (h : r.Leads fl ot s) (p : Page) : r.Leads fl ot
    (State.enableOn s p) := by
  unfold State.enableOn
  split
  · exact State.leads_swContained (State.leads_wr (State.leads_foldl h _ _ fun x0 y0 hx0 => State.leads_wr hx0 _ _ _) _
        _ _)
  · extract_lets -merge -underBinder +onlyGivenNames x1
    have hx1 : r.Leads fl ot x1 := State.leads_wr h _ _ _
    clear_value x1
    extract_lets -merge -underBinder +onlyGivenNames x2
    try clear_value x2
    extract_lets -merge -underBinder +onlyGivenNames x3
    have hx3 : r.Leads fl ot x3 := State.leads_when hx1 _ _ (fun x4 hx4 => State.leads_hubOffer hx4 _)
    clear_value x3
    exact State.leads_when hx3 _ _ (fun x5 hx5 => State.leads_hubOffer hx5 _)
  · exact State.leads_wr h _ _ _
  · exact State.leads_wr h _ _ _
  · exact h

theorem State.leads_ackMask {fl ot : Bool} {r s : State} (h : r.Leads fl ot s) (p : Page) (mask : Nat) : r.Leads fl ot
    (State.ackMask s p mask) := by
  unfold State.ackMask
  extract_lets -merge -underBinder +onlyGivenNames x0
  have hx0 : r.Leads fl ot x0 := State.leads_foldl h _ _ fun x1 y1 hx1 => State.leads_ackErr hx1 _ _
  clear_value x0
  exact State.leads_when hx0 _ _ (fun x2 hx2 => State.leads_wr hx2 _ _ _)

theorem State.leads_execErrAck {fl ot : Bool} {r s : State} (h : r.Leads fl ot s) (who : Initiator) (p : Page) (mask :
    Nat) : r.LeadsR fl ot (execErrAck who p mask s) := by
  unfold execErrAck
  exact State.leads_onPage h _ _ (fun x0 hx0 => State.leads_access hx0 _ _ _ _ (fun x1 hx1 => State.leads_ackMask hx1 _
      _))

theorem State.leads_blockDown {fl ot : Bool} {r s : State} (h : r.Leads fl ot s) (p : Page) : r.Leads fl ot
    (State.blockDown s p) := by
  unfold State.blockDown
  refine State.leads_foldl ?_ _ _ fun x0 y0 hx0 => ?_
  · exact h
  split
  · exact State.leads_ite (State.leads_usbPathsDown hx0 _) (State.leads_declareDown hx0 _ _)
  · exact hx0

theorem State.leads_execGraceExpiry {fl ot : Bool} {r s : State} (h : r.Leads fl ot s) (p : Page) : r.LeadsR fl ot
    (execGraceExpiry p s) := by
  unfold execGraceExpiry
  refine State.leads_onPage ?_ _ _ (fun x0 hx0 => ?_)
  · exact h
  · extract_lets -merge -underBinder +onlyGivenNames x1
    try clear_value x1
    refine State.leads_when ?_ _ _ (fun x2 hx2 => ?_)
    · exact hx0
    · extract_lets -merge -underBinder +onlyGivenNames x3
      try clear_value x3
      extract_lets -merge -underBinder +onlyGivenNames x4
      try clear_value x4
      extract_lets -merge -underBinder +onlyGivenNames x5
      have hx5 : r.Leads fl ot x5 := State.leads_graceUpdate (State.leads_foldl (State.leads_wr hx2 _ _ _) _ _ fun x6
          y6 hx6 => State.leads_escalate hx6 _ _) _
      clear_value x5
      exact State.leads_when hx5 _ _ (fun x7 hx7 => State.leads_blockDown hx7 _)

theorem State.leads_execIntForce {fl ot : Bool} {r s : State} (h : r.Leads fl ot s) (who : Initiator) (p : Page) (mask
    : Nat) : r.LeadsR fl ot (execIntForce who p mask s) := by
  unfold execIntForce
  exact State.leads_onPage h _ _ (fun x0 hx0 => State.leads_access hx0 _ _ _ _ (fun x1 hx1 => State.leads_foldl hx1 _ _
      fun x2 y2 hx2 => State.leads_setInt hx2 _ _))

theorem State.leads_execExtLock {fl ot : Bool} {r s : State} (h : r.Leads fl ot s) (who : Initiator) (p : Page) :
    r.LeadsR fl ot (execExtLock who p s) := by
  unfold execExtLock
  exact State.leads_onPage h _ _ (fun x0 hx0 => State.leads_access hx0 _ _ _ _ (fun x1 hx1 => State.leads_wr hx1 _ _ _))

theorem State.leads_execArm {fl ot : Bool} {r s : State} (h : r.Leads fl ot s) (who : Initiator) (p : Page) (pair :
    Bool) (target : Nat) : r.LeadsR fl ot (execArm who p pair target s) := by
  unfold execArm
  exact State.leads_onPage h _ _ (fun x0 hx0 => State.leads_when hx0 _ _ (fun x1 hx1 => State.leads_hostWake
      (State.leads_armWrite hx1 _ _ _ _) _ _))

theorem State.leads_srst {fl ot : Bool} {r s : State} (h : r.Leads fl ot s) (p : Page) : r.Leads fl ot (State.srst s p)
    := by
  unfold State.srst
  exact State.leads_ite (State.leads_safetyReset h _) (State.leads_blockDown (State.leads_softReset h _) _)

theorem State.leads_execBlockSoftReset {fl ot : Bool} {r s : State} (h : r.Leads fl ot s) (who : Initiator) (p : Page)
    : r.LeadsR fl ot (execBlockSoftReset who p s) := by
  unfold execBlockSoftReset
  exact State.leads_onPage h _ _ (fun x0 hx0 => State.leads_access hx0 _ _ _ _ (fun x1 hx1 => State.leads_srst hx1 _))

theorem State.leads_pcaAgain {fl ot : Bool} {r s : State} (h : r.Leads fl ot s) (n : Nat) : r.Leads fl ot
    (State.pcaAgain s n) := by
  unfold State.pcaAgain
  refine State.leads_when ?_ _ _ (fun x0 hx0 => ?_)
  · exact h
  · extract_lets -merge -underBinder +onlyGivenNames x1
    have hx1 : r.Leads fl ot x1 := State.leads_raise hx0 _ _
    clear_value x1
    exact State.leads_when hx1 _ _ (fun x2 hx2 => State.leads_wr hx2 _ _ _)

theorem State.leads_restartBlock {fl ot : Bool} {r s : State} (h : r.Leads fl ot s) (p : Page) : r.Leads fl ot
    (State.restartBlock s p) := by
  unfold State.restartBlock
  split
  · exact State.leads_swLift h
  · exact State.leads_pcaAgain h _
  · exact State.leads_modeState (State.leads_abortCmds h _) _ _
  · refine State.leads_when ?_ _ _ (fun x0 hx0 => ?_)
    · exact h
    · extract_lets -merge -underBinder +onlyGivenNames x1
      have hx1 : r.Leads fl ot x1 := State.leads_wr hx0 _ _ _
      clear_value x1
      exact State.leads_ite (State.leads_startTrain hx1 _) (State.leads_wr hx1 _ _ _)
  · exact State.leads_hubOffer (State.leads_hubOffer h _) _
  · exact State.leads_when h _ _ (fun x2 hx2 => State.leads_pdRestart hx2 _)
  · exact h

theorem State.leads_execSoftResetComplete {fl ot : Bool} {r s : State} (h : r.Leads fl ot s) (p : Page) : r.LeadsR fl
    ot (execSoftResetComplete p s) := by
  unfold execSoftResetComplete
  refine State.leads_onPage ?_ _ _ (fun x0 hx0 => ?_)
  · exact h
  · refine State.leads_when ?_ _ _ (fun x1 hx1 => ?_)
    · exact hx0
    · extract_lets -merge -underBinder +onlyGivenNames x2
      have hx2 : r.Leads fl ot x2 := State.leads_wr (State.leads_wr (State.leads_blockDown hx1 _) _ _ _) _ _ _
      clear_value x2
      exact State.leads_restartBlock (State.leads_wr hx2 _ _ _) _

theorem State.leads_doCancel {fl ot : Bool} {r s : State} (h : r.Leads fl ot s) (p : Page) (pair : Bool) : r.Leads fl
    ot (State.doCancel s p pair) := by
  unfold State.doCancel
  refine State.leads_ite ?_ ?_
  · exact State.leads_wr h _ _ _
  · refine State.leads_ite ?_ ?_
    · exact h
    · extract_lets -merge -underBinder +onlyGivenNames x0
      have hx0 : r.Leads fl ot x0 := State.leads_when (State.leads_cancelArm h _) _ _ (fun x1 hx1 => State.leads_wr hx1
          _ _ _)
      clear_value x0
      exact State.leads_when hx0 _ _ (fun x2 hx2 => State.leads_wrBit (State.leads_wr hx2 _ _ _) _ _ _ _)

theorem State.leads_execIntAck {fl ot : Bool} {r s : State} (h : r.Leads fl ot s) (who : Initiator) (p : Page) (mask :
    Nat) : r.LeadsR fl ot (execIntAck who p mask s) := by
  unfold execIntAck
  exact State.leads_onPage h _ _ (fun x0 hx0 => State.leads_access hx0 _ _ _ _ (fun x1 hx1 => State.leads_foldl hx1 _ _
      fun x2 y2 hx2 => State.leads_wr hx2 _ _ _))

theorem State.leads_execGatedAccess {fl ot : Bool} {r s : State} (h : r.Leads fl ot s) (who : Initiator) (addr : Nat)
    (write : Bool) : r.LeadsR fl ot (execGatedAccess who addr write s) := by
  unfold execGatedAccess
  split
  · exact State.leadsR_next (State.leads_when h _ _ (fun x0 hx0 => State.leads_hostWake (State.leads_when
        (State.leads_gatedAccess hx0 _ _) _ _ (fun x1 hx1 => State.leads_send hx1 _)) _ _))
  · exact State.leadsR_next h

theorem State.leads_setLevel {fl ot : Bool} {r s : State} (h : r.Leads fl ot s) (p : Page) (expert : Bool) : r.Leads fl
    ot (State.setLevel s p expert) := by
  unfold State.setLevel
  exact State.leads_ite h (State.leads_ite (State.leads_setInt (State.leads_wr (State.leads_wr h _ _ _) _ _ _) _ _)
      (State.leads_wr (State.leads_wr h _ _ _) _ _ _))

theorem State.leads_execLevelChange {fl ot : Bool} {r s : State} (h : r.Leads fl ot s) (who : Initiator) (p : Page)
    (expert : Bool) : r.LeadsR fl ot (execLevelChange who p expert s) := by
  unfold execLevelChange
  exact State.leads_onPage h _ _ (fun x0 hx0 => State.leads_access hx0 _ _ _ _ (fun x1 hx1 => State.leads_setLevel hx1
      _ _))

theorem State.leads_execEnable {fl ot : Bool} {r s : State} (h : r.Leads fl ot s) (who : Initiator) (p : Page) (on :
    Bool) : r.LeadsR fl ot (execEnable who p on s) := by
  unfold execEnable
  exact State.leads_onPage h _ _ (fun x0 hx0 => State.leads_access hx0 _ _ _ _ (fun x1 hx1 => State.leads_ite
      (State.leads_enableOn (State.leads_wr hx1 _ _ _) _) (State.leads_wr hx1 _ _ _)))

theorem State.leads_execCancel {fl ot : Bool} {r s : State} (h : r.Leads fl ot s) (who : Initiator) (p : Page) (pair :
    Bool) : r.LeadsR fl ot (execCancel who p pair s) := by
  unfold execCancel
  exact State.leads_onPage h _ _ (fun x0 hx0 => State.leads_when hx0 _ _ (fun x1 hx1 => State.leads_access hx1 _ _ _ _
      (fun x2 hx2 => State.leads_doCancel hx2 _ _)))

end Sys2Proof.Machine
end

