-- ==== Sys2Proof/Laws/Lead/Power.lean ====
section
/-! SUPPORT. What the operations of Machine/Power.lean keep (State.Leads of Laws/Leads.lean). -/

namespace Sys2Proof.Machine

open Reg

theorem State.leads_execRefclkLoss {fl ot : Bool} {r s : State} (h : r.Leads fl ot s) (islands : Nat) : r.LeadsR fl ot
    (execRefclkLoss islands s) := by
  unfold execRefclkLoss
  extract_lets -merge -underBinder +onlyGivenNames x0
  have hx0 : r.Leads fl ot x0 := State.leads_wr (State.leads_raise h _ _) _ _ _
  clear_value x0
  extract_lets -merge -underBinder +onlyGivenNames x1
  have hx1 : r.Leads fl ot x1 := State.leads_foldl hx0 _ _ fun x2 y2 hx2 => State.leads_when hx2 _ _ (fun x3 hx3 =>
      State.leads_restartLanes hx3 _)
  clear_value x1
  exact State.leadsR_next (State.leads_when hx1 _ _ (fun x4 hx4 => State.leads_foldl hx4 _ _ fun x5 y5 hx5 =>
      State.leads_when hx5 _ _ (fun x6 hx6 => State.leads_raise (State.leads_wr (State.leads_wr hx6 _ _ _) _ _ _) _ _)))

theorem State.leads_execExitRetry {fl ot : Bool} {r s : State} (h : r.Leads fl ot s) : r.LeadsR fl ot (execExitRetry s)
    := by
  unfold execExitRetry
  exact State.leadsR_next (State.leads_when h _ _ (fun x0 hx0 => State.leads_wr (State.leads_wr (State.leads_wr hx0 _ _
      _) _ _ _) _ _ _))

theorem State.leads_execYoyoSample {fl ot : Bool} {r s : State} (h : r.Leads fl ot s) (cc : List Nat) (vbus : List Nat)
    (temp : Nat) (gpio : Nat) : r.LeadsR fl ot (execYoyoSample cc vbus temp gpio s) := by
  unfold execYoyoSample
  exact State.leadsR_next (State.leads_yySample h _ _ _ _)

theorem State.leads_execD1Entry {fl ot : Bool} {r s : State} (h : r.Leads fl ot s) (usb4 : Nat) (pcie : Nat) : r.LeadsR
    fl ot (execD1Entry usb4 pcie s) := by
  unfold execD1Entry
  extract_lets -merge -underBinder +onlyGivenNames x0
  have hx0 : r.Leads fl ot x0 := State.leads_showLtssm h _
  clear_value x0
  exact State.leadsR_next (State.leads_when hx0 _ _ (fun x1 hx1 => State.leads_count (State.leads_setPs hx1 _) _ _))

theorem State.leads_execBoardInputChange {fl ot : Bool} {r s : State} (h : r.Leads fl ot s) (present : Bool) (inRange :
    Nat) : r.LeadsR fl ot (execBoardInputChange present inRange s) := by
  unfold execBoardInputChange
  extract_lets -merge -underBinder +onlyGivenNames x0
  have hx0 : r.Leads fl ot x0 := State.leads_when h _ _ (fun x1 hx1 => State.leads_wr hx1 _ _ _)
  clear_value x0
  extract_lets -merge -underBinder +onlyGivenNames x2
  have hx2 : r.Leads fl ot x2 := State.leads_when (State.leads_wr hx0 _ _ _) _ _ (fun x3 hx3 => State.leads_wr hx3 _ _
      _)
  clear_value x2
  exact State.leadsR_next (State.leads_when hx2 _ _ (fun x4 hx4 => State.leads_powerIslands hx4))

theorem State.leads_execPinReset {fl ot : Bool} {r s : State} (h : r.Leads fl ot s) : r.LeadsR fl ot (execPinReset s)
    := by
  unfold execPinReset
  exact State.leadsR_next (State.leads_wr (State.leads_pinReset (State.leads_count h _ _) _) _ _ _)

theorem State.leads_execAlarmExpiry {fl ot : Bool} {r s : State} (h : r.Leads fl ot s) : r.LeadsR fl ot
    (execAlarmExpiry s) := by
  unfold execAlarmExpiry
  extract_lets -merge -underBinder +onlyGivenNames x0
  try clear_value x0
  exact State.leadsR_next (State.leads_when h _ _ (fun x1 hx1 => State.leads_wake (State.leads_wr hx1 _ _ _) _ _ _))

theorem State.leads_execResetNRelease {fl ot : Bool} {r s : State} (h : r.Leads fl ot s) (role : Nat) (boot : Bool)
    (dbat : Bool) : r.LeadsR fl ot (execResetNRelease role boot dbat s) := by
  unfold execResetNRelease
  exact State.leadsR_next (State.leads_when h _ _ (fun x0 hx0 => State.leads_sampleStraps (State.leads_wr hx0 _ _ _) _
      _ _))

theorem State.leads_psWrite {fl ot : Bool} {r s : State} (h : r.Leads fl ot s) (who : Initiator) (target : Nat) :
    r.Leads fl ot (State.psWrite s who target) := by
  unfold State.psWrite
  exact State.leads_access h _ _ _ _ (fun x0 hx0 => State.leads_psGo (State.leads_wr hx0 _ _ _) _)

theorem State.leads_execGpioEdgeWake {fl ot : Bool} {r s : State} (h : r.Leads fl ot s) (g : Nat) (level : Bool) :
    r.LeadsR fl ot (execGpioEdgeWake g level s) := by
  unfold execGpioEdgeWake
  exact State.leadsR_next (State.leads_when h _ _ (fun x0 hx0 => State.leads_wake hx0 _ _ _))

theorem State.leads_execEnterOff {fl ot : Bool} {r s : State} (h : r.Leads fl ot s) (who : Initiator) : r.LeadsR fl ot
    (execEnterOff who s) := by
  unfold execEnterOff
  exact State.leadsR_next (State.leads_psWrite h _ _)

theorem State.leads_execEnterYoyo {fl ot : Bool} {r s : State} (h : r.Leads fl ot s) (who : Initiator) : r.LeadsR fl ot
    (execEnterYoyo who s) := by
  unfold execEnterYoyo
  exact State.leadsR_next (State.leads_psWrite h _ _)

theorem State.leads_execDbatWake {fl ot : Bool} {r s : State} (h : r.Leads fl ot s) (mv : Nat) : r.LeadsR fl ot
    (execDbatWake mv s) := by
  unfold execDbatWake
  exact State.leadsR_next (State.leads_when h _ _ (fun x0 hx0 => State.leads_wake (State.leads_wrBit hx0 _ _ _ _) _ _
      _))

theorem State.leads_execD1Exit {fl ot : Bool} {r s : State} (h : r.Leads fl ot s) (usb4 : Nat) (pcie : Nat) : r.LeadsR
    fl ot (execD1Exit usb4 pcie s) := by
  unfold execD1Exit
  extract_lets -merge -underBinder +onlyGivenNames x0
  have hx0 : r.Leads fl ot x0 := State.leads_showLtssm h _
  clear_value x0
  exact State.leadsR_next (State.leads_when hx0 _ _ (fun x1 hx1 => State.leads_setPs hx1 _))

theorem State.leads_execAonWdtExpiry {fl ot : Bool} {r s : State} (h : r.Leads fl ot s) : r.LeadsR fl ot
    (execAonWdtExpiry s) := by
  unfold execAonWdtExpiry
  extract_lets -merge -underBinder +onlyGivenNames x0
  try clear_value x0
  exact State.leadsR_next (State.leads_when h _ _ (fun x1 hx1 => State.leads_mgmtReset (State.leads_raise hx1 _ _) _ _))

theorem State.leads_execPwrBtnWake {fl ot : Bool} {r s : State} (h : r.Leads fl ot s) : r.LeadsR fl ot (execPwrBtnWake
    s) := by
  unfold execPwrBtnWake
  exact State.leadsR_next (State.leads_wake h _ _ _)

theorem State.leads_execAonCntClr {fl ot : Bool} {r s : State} (h : r.Leads fl ot s) (who : Initiator) : r.LeadsR fl ot
    (execAonCntClr who s) := by
  unfold execAonCntClr
  exact State.leadsR_next (State.leads_access h _ _ _ _ (fun x0 hx0 => State.leads_clearFields hx0 _ _))

theorem State.leads_execMgmtReset {fl ot : Bool} {r s : State} (h : r.Leads fl ot s) (who : Initiator) (key : Nat) :
    r.LeadsR fl ot (execMgmtReset who key s) := by
  unfold execMgmtReset
  exact State.leadsR_next (State.leads_access h _ _ _ _ (fun x0 hx0 => State.leads_when hx0 _ _ (fun x1 hx1 =>
      State.leads_mgmtReset hx1 _ _)))

theorem State.leads_execRefclkRestore {fl ot : Bool} {r s : State} (h : r.Leads fl ot s) : r.LeadsR fl ot
    (execRefclkRestore s) := by
  unfold execRefclkRestore
  exact State.leadsR_next (State.leads_wr h _ _ _)

theorem State.leads_execSupplyLoss {fl ot : Bool} {r s : State} (h : r.Leads fl ot s) (supply : Nat) : r.LeadsR fl ot
    (execSupplyLoss supply s) := by
  unfold execSupplyLoss
  exact State.leadsR_next (State.leads_supplyLoss h _)

theorem State.leads_execGroupInRange {fl ot : Bool} {r s : State} (h : r.Leads fl ot s) : r.LeadsR fl ot
    (execGroupInRange s) := by
  unfold execGroupInRange
  exact State.leadsR_next (State.leads_groupInRange h)

theorem State.leads_execPadRelease {fl ot : Bool} {r s : State} (h : r.Leads fl ot s) (who : Initiator) : r.LeadsR fl
    ot (execPadRelease who s) := by
  unfold execPadRelease
  exact State.leadsR_next (State.leads_access h _ _ _ _ (fun x0 hx0 => State.leads_wr (State.leads_wr hx0 _ _ _) _ _ _))

theorem State.leads_execWatchdogKick {fl ot : Bool} {r s : State} (h : r.Leads fl ot s) (who : Initiator) (key : Nat) :
    r.LeadsR fl ot (execWatchdogKick who key s) := by
  unfold execWatchdogKick
  exact State.leadsR_next (State.leads_access h _ _ _ _ (fun x0 hx0 => State.leads_when hx0 _ _ (fun x1 hx1 =>
      State.leads_wr hx1 _ _ _)))

theorem State.leads_execExitTimeout {fl ot : Bool} {r s : State} (h : r.Leads fl ot s) : r.LeadsR fl ot
    (execExitTimeout s) := by
  unfold execExitTimeout
  exact State.leadsR_next (State.leads_exitTimeout h)

theorem State.leads_execChipSoftwareReset {fl ot : Bool} {r s : State} (h : r.Leads fl ot s) (who : Initiator) (key :
    Nat) : r.LeadsR fl ot (execChipSoftwareReset who key s) := by
  unfold execChipSoftwareReset
  exact State.leadsR_next (State.leads_access h _ _ _ _ (fun x0 hx0 => State.leads_when hx0 _ _ (fun x1 hx1 =>
      State.leads_chipReset hx1 _)))

theorem State.leads_execForcedOff {fl ot : Bool} {r s : State} (h : r.Leads fl ot s) : r.LeadsR fl ot (execForcedOff s)
    := by
  unfold execForcedOff
  exact State.leadsR_next (State.leads_forcedOff h)

theorem State.leads_execPowerOnReset {fl ot : Bool} {r s : State} (h : r.Leads fl ot s) (role : Nat)
    (boot dbat : Bool) (inRange : Nat) (vconnIn low : Bool) :
    r.LeadsR fl ot (execPowerOnReset role boot dbat inRange vconnIn low s) := by
  have h0 : r.Leads fl ot { s.dropData with
      regs := [], act := [], safeq := [], closers := [], stickyImg := [], aonRam := [] } :=
    (State.leads_dropData h).trans ⟨rfl, Nat.le_refl _, Nat.le_refl _, List.prefix_refl _, fun _ _ x => x,
      fun i => ⟨rfl, rfl, i.dram, i.flash, i.otp, rfl⟩, fun _ => rfl, fun _ => rfl⟩
  unfold execPowerOnReset
  exact State.leadsR_next (State.leads_ite
    (State.leads_powerIslands (State.leads_loadLocks (State.leads_wr (State.leads_wr (State.leads_wr (State.leads_wr
      (State.leads_wr (State.leads_wr h0 _ _ _) _ _ _) _ _ _) _ _ _) _ _ _) _ _ _)))
    (State.leads_sampleStraps (State.leads_powerIslands (State.leads_loadLocks (State.leads_wr (State.leads_wr
      (State.leads_wr (State.leads_wr (State.leads_wr (State.leads_wr h0 _ _ _) _ _ _) _ _ _) _ _ _) _ _ _) _ _ _)))
      _ _ _))

theorem State.leads_execEnterD2 {fl ot : Bool} {r s : State} (h : r.Leads fl ot s) (who : Initiator) : r.LeadsR fl ot
    (execEnterD2 who s) := by
  unfold execEnterD2
  exact State.leadsR_next (State.leads_psWrite h _ _)

theorem State.leads_execPePerstNDeassert {fl ot : Bool} {r s : State} (h : r.Leads fl ot s) : r.LeadsR fl ot
    (execPePerstNDeassert s) := by
  unfold execPePerstNDeassert
  exact State.leadsR_next (State.leads_when h _ _ (fun x0 hx0 => State.leads_wake (State.leads_linkRst (State.leads_wr
      hx0 _ _ _) _ _) _ _ _))

theorem State.leads_execRetentionRamAccess {fl ot : Bool} {r s : State} (h : r.Leads fl ot s) (who : Initiator) (addr :
    Option (Fin 16384)) (write : Option (Fin 4294967296)) (be : Nat) (ue : Bool) : r.LeadsR fl ot
    (execRetentionRamAccess who addr write be ue s) := by
  unfold execRetentionRamAccess
  dsimp only
  repeat' (with_reducible first
    | assumption | apply State.leads_access | apply State.leads_rram | apply State.leads_wr
    | apply State.leads_when | apply State.leads_foldl | intro _ | apply State.leadsR_next | apply State.leadsR_ite
    | apply State.leads_ite | apply State.leads_of_fst (by assumption) | split)

theorem State.leads_execDrainTimeout {fl ot : Bool} {r s : State} (h : r.Leads fl ot s) : r.LeadsR fl ot
    (execDrainTimeout s) := by
  unfold execDrainTimeout
  exact State.leadsR_next (State.leads_drainTimeout h)

theorem State.leads_execPcieWake {fl ot : Bool} {r s : State} (h : r.Leads fl ot s) (l : Nat) (clkreq : Bool) :
    r.LeadsR fl ot (execPcieWake l clkreq s) := by
  unfold execPcieWake
  exact State.leadsR_ite (State.leadsR_next (State.leads_wake (State.leads_wr h _ _ _) _ _ _)) (State.leadsR_next
      (State.leads_when h _ _ (fun x0 hx0 => State.leads_wake hx0 _ _ _)))

end Sys2Proof.Machine
end

