-- ==== Sys2Proof/Laws/Lead/Bist.lean ====
section
/-! SUPPORT. What the operations of Machine/Bist.lean keep (State.Leads of Laws/Leads.lean). -/

namespace Sys2Proof.Machine

open Reg

theorem State.leads_sweepOpen {fl ot : Bool} {r s : State} (h : r.Leads fl ot s) : r.Leads fl ot (State.sweepOpen s) :=
    by
  unfold State.sweepOpen
  extract_lets -merge -underBinder +onlyGivenNames x0
  have hx0 : r.Leads fl ot x0 := State.leads_clearFields h _ _
  clear_value x0
  exact State.leads_wr (State.leads_wr hx0 _ _ _) _ _ _

theorem State.leads_execLogicBistDone {fl ot : Bool} {r s : State} (h : r.Leads fl ot s) (fail1 : Nat) (fail2 : Nat) :
    r.LeadsR fl ot (execLogicBistDone fail1 fail2 s) := by
  unfold execLogicBistDone
  refine State.leadsR_next ?_
  refine State.leads_when ?_ _ _ (fun x0 hx0 => ?_)
  · exact h
  · extract_lets -merge -underBinder +onlyGivenNames x1
    try clear_value x1
    extract_lets -merge -underBinder +onlyGivenNames x2
    try clear_value x2
    extract_lets -merge -underBinder +onlyGivenNames x3
    try clear_value x3
    extract_lets -merge -underBinder +onlyGivenNames x4
    have hx4 : r.Leads fl ot x4 := State.leads_wr (State.leads_wr hx0 _ _ _) _ _ _
    clear_value x4
    extract_lets -merge -underBinder +onlyGivenNames x5
    have hx5 : r.Leads fl ot x5 := State.leads_wr (State.leads_wr hx4 _ _ _) _ _ _
    clear_value x5
    extract_lets -merge -underBinder +onlyGivenNames x6
    have hx6 : r.Leads fl ot x6 := State.leads_wr (State.leads_wr hx5 _ _ _) _ _ _
    clear_value x6
    extract_lets -merge -underBinder +onlyGivenNames x7
    have hx7 : r.Leads fl ot x7 := State.leads_wr (State.leads_wr hx6 _ _ _) _ _ _
    clear_value x7
    exact State.leads_when hx7 _ _ (fun x8 hx8 => State.leads_raise hx8 _ _)

theorem State.leads_sweepDone {fl ot : Bool} {r s : State} (h : r.Leads fl ot s) : r.Leads fl ot (State.sweepDone s) :=
    by
  unfold State.sweepDone
  extract_lets -merge -underBinder +onlyGivenNames x0
  have hx0 : r.Leads fl ot x0 := State.leads_count h _ _
  clear_value x0
  extract_lets -merge -underBinder +onlyGivenNames x1
  have hx1 : r.Leads fl ot x1 := State.leads_wr hx0 _ _ _
  clear_value x1
  extract_lets -merge -underBinder +onlyGivenNames x2
  have hx2 : r.Leads fl ot x2 := State.leads_wr (State.leads_wr hx1 _ _ _) _ _ _
  clear_value x2
  extract_lets -merge -underBinder +onlyGivenNames x3
  have hx3 : r.Leads fl ot x3 := State.leads_wr (State.leads_wr hx2 _ _ _) _ _ _
  clear_value x3
  exact State.leads_sweepOpen hx3

theorem State.leads_sliceRest {fl ot : Bool} {r s : State} (h : r.Leads fl ot s) : r.Leads fl ot (State.sliceRest s) :=
    by
  unfold State.sliceRest
  extract_lets -merge -underBinder +onlyGivenNames x0
  have hx0 : r.Leads fl ot x0 := State.leads_when h _ _ (fun x1 hx1 => State.leads_softReset (State.leads_wr hx1 _ _ _)
      _)
  clear_value x0
  exact State.leads_when hx0 _ _ (fun x2 hx2 => State.leads_entryGo hx2)

theorem State.leads_sliceDone {fl ot : Bool} {r s : State} (h : r.Leads fl ot s) : r.Leads fl ot (State.sliceDone s) :=
    by
  unfold State.sliceDone
  extract_lets -merge -underBinder +onlyGivenNames x0
  try clear_value x0
  extract_lets -merge -underBinder +onlyGivenNames x1
  try clear_value x1
  extract_lets -merge -underBinder +onlyGivenNames x2
  have hx2 : r.Leads fl ot x2 := State.leads_when h _ _ (fun x3 hx3 => State.leads_wr hx3 _ _ _)
  clear_value x2
  extract_lets -merge -underBinder +onlyGivenNames x4
  have hx4 : r.Leads fl ot x4 := State.leads_when hx2 _ _ (fun x5 hx5 => State.leads_wr (State.leads_wr hx5 _ _ _) _ _
      _)
  clear_value x4
  extract_lets -merge -underBinder +onlyGivenNames x6
  have hx6 : r.Leads fl ot x6 := State.leads_when hx4 _ _ (fun x7 hx7 => State.leads_raise (State.leads_wr
      (State.leads_wr hx7 _ _ _) _ _ _) _ _)
  clear_value x6
  exact State.leads_sliceRest (State.leads_sliceIdle hx6)

theorem State.leads_sliceStart {fl ot : Bool} {r s : State} (h : r.Leads fl ot s) (n : Nat) (run : Bool) : r.Leads fl
    ot (State.sliceStart s n run) := by
  unfold State.sliceStart
  extract_lets -merge -underBinder +onlyGivenNames x0
  have hx0 : r.Leads fl ot x0 := State.leads_wr (State.leads_wr h _ _ _) _ _ _
  clear_value x0
  extract_lets -merge -underBinder +onlyGivenNames x1
  have hx1 : r.Leads fl ot x1 := State.leads_wr (State.leads_wr hx0 _ _ _) _ _ _
  clear_value x1
  exact State.leads_wr (State.leads_wr hx1 _ _ _) _ _ _

theorem State.leads_sweepNext {fl ot : Bool} {r s : State} (h : r.Leads fl ot s) (k : Nat) :
    r.Leads fl ot (State.sweepNext k s) := by
  induction k generalizing s with
  | zero => exact h
  | succ k ih =>
    unfold State.sweepNext
    extract_lets n
    split
    · exact ih (State.leads_sweepDone h)
    · split
      · exact ih (State.leads_wr (State.leads_wr (State.leads_count h _ _) _ _ _) _ _ _)
      · exact State.leads_sliceStart (State.leads_wr h _ _ _) _ _

theorem State.leads_bistTurn {fl ot : Bool} {r s : State} (h : r.Leads fl ot s) : r.Leads fl ot (State.bistTurn s) := by
  unfold State.bistTurn
  extract_lets -merge -underBinder +onlyGivenNames x0
  try clear_value x0
  refine State.leads_ite ?_ ?_
  · exact h
  · extract_lets -merge -underBinder +onlyGivenNames x1
    try clear_value x1
    extract_lets -merge -underBinder +onlyGivenNames x2
    try clear_value x2
    extract_lets -merge -underBinder +onlyGivenNames x3
    have hx3 : r.Leads fl ot x3 := State.leads_wr h _ _ _
    clear_value x3
    refine State.leads_ite ?_ ?_
    · exact State.leads_ite (State.leads_wr (State.leads_count hx3 _ _) _ _ _) (State.leads_sliceStart hx3 _ _)
    · refine State.leads_ite ?_ ?_
      · extract_lets -merge -underBinder +onlyGivenNames x4
        have hx4 : r.Leads fl ot x4 := State.leads_wr hx3 _ _ _
        clear_value x4
        exact State.leads_sweepNext (State.leads_when hx4 _ _ (fun x5 hx5 => State.leads_sweepOpen hx5)) _
      · exact hx3

theorem State.leads_execSliceCopyTimeout {fl ot : Bool} {r s : State} (h : r.Leads fl ot s) : r.LeadsR fl ot
    (execSliceCopyTimeout s) := by
  unfold execSliceCopyTimeout
  refine State.leadsR_next ?_
  refine State.leads_when ?_ _ _ (fun x0 hx0 => ?_)
  · exact h
  · extract_lets -merge -underBinder +onlyGivenNames x1
    have hx1 : r.Leads fl ot x1 := State.leads_count hx0 _ _
    clear_value x1
    extract_lets -merge -underBinder +onlyGivenNames x2
    try clear_value x2
    extract_lets -merge -underBinder +onlyGivenNames x3
    have hx3 : r.Leads fl ot x3 := State.leads_when hx1 _ _ (fun x4 hx4 => State.leads_wr (State.leads_wr hx4 _ _ _) _
        _ _)
    clear_value x3
    exact State.leads_sliceRest (State.leads_sliceIdle (State.leads_wr hx3 _ _ _))

theorem State.leads_execBistRunGo {fl ot : Bool} {r s : State} (h : r.Leads fl ot s) (who : Initiator) (slice : Nat) :
    r.LeadsR fl ot (execBistRunGo who slice s) := by
  unfold execBistRunGo
  refine State.leadsR_next ?_
  refine State.leads_access ?_ _ _ _ _ (fun x0 hx0 => ?_)
  · exact h
  · refine State.leads_ite ?_ ?_
    · exact hx0
    · extract_lets -merge -underBinder +onlyGivenNames x1
      have hx1 : r.Leads fl ot x1 := State.leads_wr hx0 _ _ _
      clear_value x1
      exact State.leads_when hx1 _ _ (fun x2 hx2 => State.leads_wr hx2 _ _ _)

theorem State.leads_execBistCntClr {fl ot : Bool} {r s : State} (h : r.Leads fl ot s) (who : Initiator) : r.LeadsR fl
    ot (execBistCntClr who s) := by
  unfold execBistCntClr
  exact State.leadsR_next (State.leads_access h _ _ _ _ (fun x0 hx0 => State.leads_clearFields hx0 _ _))

theorem State.leads_execSliceMarchDone {fl ot : Bool} {r s : State} (h : r.Leads fl ot s) (fail : Bool) : r.LeadsR fl
    ot (execSliceMarchDone fail s) := by
  unfold execSliceMarchDone
  refine State.leadsR_next ?_
  refine State.leads_when ?_ _ _ (fun x0 hx0 => ?_)
  · exact h
  · refine State.leads_ite ?_ ?_
    · exact State.leads_wr hx0 _ _ _
    · extract_lets -merge -underBinder +onlyGivenNames x1
      try clear_value x1
      extract_lets -merge -underBinder +onlyGivenNames x2
      try clear_value x2
      extract_lets -merge -underBinder +onlyGivenNames x3
      have hx3 : r.Leads fl ot x3 := State.leads_wr (State.leads_wr (State.leads_wr hx0 _ _ _) _ _ _) _ _ _
      clear_value x3
      extract_lets -merge -underBinder +onlyGivenNames x4
      have hx4 : r.Leads fl ot x4 := State.leads_wrBit (State.leads_wr hx3 _ _ _) _ _ _ _
      clear_value x4
      exact State.leads_sliceDone (State.leads_raise (State.leads_count hx4 _ _) _ _)

theorem State.leads_execSliceCopyDone {fl ot : Bool} {r s : State} (h : r.Leads fl ot s) : r.LeadsR fl ot
    (execSliceCopyDone s) := by
  unfold execSliceCopyDone
  exact State.leadsR_next (State.leads_when h _ _ (fun x0 hx0 => State.leads_wr hx0 _ _ _))

theorem State.leads_execSliceRestoreDone {fl ot : Bool} {r s : State} (h : r.Leads fl ot s) : r.LeadsR fl ot
    (execSliceRestoreDone s) := by
  unfold execSliceRestoreDone
  exact State.leadsR_next (State.leads_when h _ _ (fun x0 hx0 => State.leads_sliceDone hx0))

end Sys2Proof.Machine
end

