-- ==== Sys2Proof/Laws/Lead/Tick.lean ====
section
/-! SUPPORT. What the operations of Machine/Tick.lean keep (State.Leads of Laws/Leads.lean). -/

namespace Sys2Proof.Machine

open Reg

theorem State.leads_fwResetDue {fl ot : Bool} {r s : State} (h : r.Leads fl ot s) : r.Leads fl ot (State.fwResetDue s)
    := by
  unfold State.fwResetDue
  exact State.leads_when h _ _ (fun x0 hx0 => State.leads_mgmtReset hx0 _ _)

theorem State.leads_tick {fl ot : Bool} {r s : State} (h : r.Leads fl ot s) : r.Leads fl ot (State.tick s) :=
  State.leads_fwResetDue (State.leads_clock h _ 1)

end Sys2Proof.Machine
end

