-- ==== Sys2Proof/Laws/Lead/Usb4.lean ====
section
/-! SUPPORT. What the operations of Machine/Usb4.lean keep (State.Leads of Laws/Leads.lean). -/

namespace Sys2Proof.Machine

open Reg

theorem State.leads_hopEntry {fl ot : Bool} {r s : State} (h : r.Leads fl ot s) (d : Nat) (w : HopWrite) (k : Nat) :
    r.Leads fl ot (State.hopEntry s d w k) := by
  unfold State.hopEntry
  extract_lets -merge -underBinder +onlyGivenNames x0
  try clear_value x0
  extract_lets -merge -underBinder +onlyGivenNames x1
  try clear_value x1
  extract_lets -merge -underBinder +onlyGivenNames x2
  try clear_value x2
  extract_lets -merge -underBinder +onlyGivenNames x3
  try clear_value x3
  extract_lets -merge -underBinder +onlyGivenNames x4
  try clear_value x4
  extract_lets -merge -underBinder +onlyGivenNames x5
  try clear_value x5
  extract_lets -merge -underBinder +onlyGivenNames x6
  try clear_value x6
  exact State.leads_foldl h _ _ fun x7 y7 hx7 => State.leads_wr hx7 _ _ _

theorem State.leads_hopNow {fl ot : Bool} {r s : State} (h : r.Leads fl ot s) (d : Nat) (w : HopWrite) : r.Leads fl ot
    (State.hopNow s d w).1 := by
  unfold State.hopNow
  refine State.leads_ite_fst ?_ ?_
  · exact State.leads_pair h
  · refine State.leads_ite_fst ?_ ?_
    · split
      · exact State.leads_pair (State.leads_raiseRefuse h _)
      · extract_lets -merge -underBinder +onlyGivenNames x0
        have hx0 : r.Leads fl ot x0 := State.leads_hopEntry h _ _ _
        clear_value x0
        exact State.leads_ite_fst (State.leads_pair (State.leads_entryReject h)) (State.leads_ite_fst (State.leads_pair
            (State.leads_raiseRefuse h _)) (State.leads_pair hx0))
    · split
      · exact State.leads_pair (State.leads_releaseEntry h _)
      · exact State.leads_pair h

theorem State.leads_execHopEntryWrite {fl ot : Bool} {r s : State} (h : r.Leads fl ot s) (dom : Nat) (w : HopWrite) :
    r.LeadsR fl ot (execHopEntryWrite dom w s) := by
  unfold execHopEntryWrite
  extract_lets -merge -underBinder +onlyGivenNames x0
  try clear_value x0
  extract_lets -merge -underBinder +onlyGivenNames x1
  try clear_value x1
  refine State.leadsR_next ?_
  refine State.leads_access ?_ _ _ _ _ (fun x2 hx2 => ?_)
  · exact h
  · refine State.leads_ite ?_ ?_
    · exact hx2
    · refine State.leads_ite ?_ ?_
      · exact State.leads_mk hx2 ..
      · split
        · rename_i y3_0 heq3
          have hy3 := State.leads_of_fst (fl := fl) (ot := ot) (r := r) heq3 (State.leads_hopNow hx2 _ _)
          exact State.leads_armPaths hy3
        · rename_i y4_0 heq4
          have hy4 := State.leads_of_fst (fl := fl) (ot := ot) (r := r) heq4 (State.leads_hopNow hx2 _ _)
          exact hy4

theorem State.leads_stdDown {fl ot : Bool} {r s : State} (h : r.Leads fl ot s) (port : Nat) : r.Leads fl ot
    (State.stdDown s port) := by
  unfold State.stdDown
  extract_lets -merge -underBinder +onlyGivenNames x0
  have hx0 : r.Leads fl ot x0 := State.leads_when (State.leads_wr h _ _ _) _ _ (fun x1 hx1 => State.leads_raise hx1 _ _)
  clear_value x0
  exact State.leads_linkLost hx0 _ _

theorem State.leads_execStdLinkTrained {fl ot : Bool} {r s : State} (h : r.Leads fl ot s) (port : Nat) (dirs : Nat) :
    r.LeadsR fl ot (execStdLinkTrained port dirs s) := by
  unfold execStdLinkTrained
  extract_lets -merge -underBinder +onlyGivenNames x0
  try clear_value x0
  refine State.leadsR_next ?_
  refine State.leads_when ?_ _ _ (fun x1 hx1 => ?_)
  · exact h
  · extract_lets -merge -underBinder +onlyGivenNames x2
    have hx2 : r.Leads fl ot x2 := State.leads_when hx1 _ _ (fun x3 hx3 => State.leads_stdDown hx3 _)
    clear_value x2
    extract_lets -merge -underBinder +onlyGivenNames x4
    have hx4 : r.Leads fl ot x4 := State.leads_foldl hx2 _ _ fun x5 y5 hx5 => State.leads_wr hx5 _ _ _
    clear_value x4
    extract_lets -merge -underBinder +onlyGivenNames x6
    try clear_value x6
    extract_lets -merge -underBinder +onlyGivenNames z7_0 x7
    have hx7 : r.Leads fl ot x7 := State.leads_eqPads hx4 _ _ _ _ _
    clear_value x7
    exact State.leads_portEvent (State.leads_takeBuf (State.leads_wr hx7 _ _ _) _) _ _

theorem State.leads_hopServe {fl ot : Bool} {r s : State} (h : r.Leads fl ot s) : r.Leads fl ot (State.hopServe s) := by
  unfold State.hopServe
  refine State.leads_ite ?_ ?_
  · exact h
  · extract_lets -merge -underBinder +onlyGivenNames x0
    have hx0 : r.Leads fl ot x0.1 := (by
        unfold x0
        refine State.leads_foldl_fst ?_ _ _ fun x1 y1 hx1 => ?_
        · exact State.leads_pair (State.leads_mk h ..)
        split
        · rename_i y2_0 y2_1 heq2
          have hy2 := State.leads_of_fst (fl := fl) (ot := ot) (r := r) heq2 (State.leads_hopNow hx1 _ _)
          exact State.leads_pair hy2)
    clear_value x0
    exact State.leads_ite (State.leads_armTurn hx0 _ _) hx0

theorem State.leads_execStdLinkDown {fl ot : Bool} {r s : State} (h : r.Leads fl ot s) (port : Nat) : r.LeadsR fl ot
    (execStdLinkDown port s) := by
  unfold execStdLinkDown
  exact State.leadsR_next (State.leads_when h _ _ (fun x0 hx0 => State.leads_stdDown hx0 _))

end Sys2Proof.Machine
end

