-- ==== Sys2Proof/Laws/Lead/TurnOps.lean ====
section
/-! SUPPORT. What the operations of Machine/TurnOps.lean keep (State.Leads of Laws/Leads.lean). -/

namespace Sys2Proof.Machine

open Reg

theorem State.leads_serveFrame {fl ot : Bool} {r s : State} (h : r.Leads fl ot s) (port : Nat) : r.Leads fl ot
    (State.serveFrame s port) := by
  unfold State.serveFrame
  extract_lets -merge -underBinder +onlyGivenNames x0
  try clear_value x0
  extract_lets -merge -underBinder +onlyGivenNames x1
  try clear_value x1
  exact State.leads_ite h (State.leads_ite (State.leads_wr (State.leads_send h _) _ _ _) (State.leads_send h _))

theorem State.leads_afterPaths {fl ot : Bool} {r s : State} (h : r.Leads fl ot s) : r.Leads fl ot (State.afterPaths s)
    := by
  unfold State.afterPaths
  refine State.leads_ite ?_ ?_
  · exact h
  · extract_lets -merge -underBinder +onlyGivenNames x0
    have hx0 : r.Leads fl ot x0 := State.leads_mk h ..
    clear_value x0
    extract_lets -merge -underBinder +onlyGivenNames x1
    have hx1 : r.Leads fl ot x1 := State.leads_foldl hx0 _ _ fun x2 y2 hx2 => State.leads_when hx2 _ _ (fun x3 hx3 =>
        State.leads_releaseSlot hx3 _)
    clear_value x1
    exact State.leads_hopServe hx1

theorem State.leads_turnCheck {fl ot : Bool} {r s : State} (h : r.Leads fl ot s) (port : Nat) : r.Leads fl ot
    (State.turnCheck s port) := by
  unfold State.turnCheck
  extract_lets -merge -underBinder +onlyGivenNames x0
  try clear_value x0
  extract_lets -merge -underBinder +onlyGivenNames x1
  try clear_value x1
  extract_lets -merge -underBinder +onlyGivenNames x2
  have hx2 : r.Leads fl ot x2 := State.leads_when h _ _ (fun x3 hx3 => State.leads_turnAnswer hx3 _)
  clear_value x2
  exact State.leads_when hx2 _ _ (fun x4 hx4 => State.leads_turnAbort hx4 _)

theorem State.leads_daDone {fl ot : Bool} {r s : State} (h : r.Leads fl ot s) (done : List Page) : r.Leads fl ot
    (State.daDone s done) := by
  unfold State.daDone
  refine State.leads_foldl ?_ _ _ fun x0 y0 hx0 => ?_
  · exact h
  refine State.leads_when ?_ _ _ (fun x1 hx1 => ?_)
  · exact hx0
  · extract_lets -merge -underBinder +onlyGivenNames x2
    try clear_value x2
    refine State.leads_ite ?_ ?_
    · exact State.leads_wr hx1 _ _ _
    · extract_lets -merge -underBinder +onlyGivenNames x3
      have hx3 : r.Leads fl ot x3 := State.leads_wr (State.leads_wr hx1 _ _ _) _ _ _
      clear_value x3
      exact State.leads_wr (State.leads_wr hx3 _ _ _) _ _ _

theorem State.leads_usbTunnels {fl ot : Bool} {r s : State} (h : r.Leads fl ot s) : r.Leads fl ot (State.usbTunnels s)
    := by
  unfold State.usbTunnels
  exact State.leads_foldl h _ _ fun x0 y0 hx0 => State.leads_when hx0 _ _ (fun x1 hx1 => State.leads_wr hx1 _ _ _)

theorem State.leads_checkRows {fl ot : Bool} {r s : State} (h : r.Leads fl ot s) (done : List Page) : r.Leads fl ot
    (State.checkRows s done) := by
  unfold State.checkRows
  exact State.leads_ite (State.leads_foldl h _ _ fun x0 y0 hx0 => State.leads_rowCheck hx0 _) h

theorem State.leads_shApply {fl ot : Bool} {r s : State} (h : r.Leads fl ot s) (k : Nat) : r.Leads fl ot (State.shApply
    s k) := by
  unfold State.shApply
  extract_lets -merge -underBinder +onlyGivenNames x0
  try clear_value x0
  extract_lets -merge -underBinder +onlyGivenNames x1
  try clear_value x1
  extract_lets -merge -underBinder +onlyGivenNames x2
  try clear_value x2
  refine State.leads_ite ?_ ?_
  · exact h
  · extract_lets -merge -underBinder +onlyGivenNames x3
    try clear_value x3
    extract_lets -merge -underBinder +onlyGivenNames x4
    try clear_value x4
    extract_lets -merge -underBinder +onlyGivenNames x5
    have hx5 : r.Leads fl ot x5 := State.leads_wr (State.leads_wr h _ _ _) _ _ _
    clear_value x5
    exact State.leads_setTokens hx5 _ _

theorem State.leads_applyMember {fl ot : Bool} {r s : State} (h : r.Leads fl ot s) (g : Nat) (a_r : List Nat × Bool) (m
    : Nat) : r.Leads fl ot (State.applyMember s g a_r m).1 := by
  unfold State.applyMember
  extract_lets -merge -underBinder +onlyGivenNames x0
  try clear_value x0
  extract_lets -merge -underBinder +onlyGivenNames x1
  try clear_value x1
  extract_lets -merge -underBinder +onlyGivenNames x2
  try clear_value x2
  extract_lets -merge -underBinder +onlyGivenNames x3
  try clear_value x3
  extract_lets -merge -underBinder +onlyGivenNames x4
  try clear_value x4
  extract_lets -merge -underBinder +onlyGivenNames x5
  try clear_value x5
  extract_lets -merge -underBinder +onlyGivenNames x6
  have hx6 : r.Leads fl ot x6 := State.leads_ite h (State.leads_wr (State.leads_setMc (State.leads_setMc
      (State.leads_setMc h _ _ _) _ _ _) _ _ _) _ _ _)
  clear_value x6
  exact State.leads_pair hx6

theorem State.leads_applyGroup {fl ot : Bool} {r s : State} (h : r.Leads fl ot s) (g : Nat) : r.Leads fl ot
    (State.applyGroup s g).1 := by
  unfold State.applyGroup
  extract_lets -merge -underBinder +onlyGivenNames x0
  have hx0 : r.Leads fl ot x0.1 := State.leads_foldl_fst (State.leads_pair h) _ _ fun x1 y1 hx1 =>
      State.leads_applyMember hx1 _ _ _
  clear_value x0
  extract_lets -merge -underBinder +onlyGivenNames x2
  try clear_value x2
  extract_lets -merge -underBinder +onlyGivenNames x3
  try clear_value x3
  exact State.leads_pair (State.leads_setMc hx0 _ _ _)

theorem State.leads_mcApply {fl ot : Bool} {r s : State} (h : r.Leads fl ot s) : r.Leads fl ot (State.mcApply s) := by
  unfold State.mcApply
  extract_lets -merge -underBinder +onlyGivenNames x0
  have hx0 : r.Leads fl ot x0.1 := (by
      unfold x0
      refine State.leads_foldl_fst ?_ _ _ fun x1 y1 hx1 => ?_
      · exact State.leads_pair h
      split
      · rename_i y2_0 y2_1 heq2
        have hy2 := State.leads_of_fst (fl := fl) (ot := ot) (r := r) heq2 (State.leads_applyGroup hx1 _)
        exact State.leads_pair hy2)
  clear_value x0
  split
  · exact hx0
  · exact State.leads_raise (State.leads_wr hx0 _ _ _) _ _

theorem State.leads_applyTurn {fl ot : Bool} {r s : State} (h : r.Leads fl ot s) (p : Page) : r.Leads fl ot
    (State.applyTurn s p) := by
  unfold State.applyTurn
  extract_lets -merge -underBinder +onlyGivenNames x0
  have hx0 : r.Leads fl ot x0 := (by
      unfold x0
      split
      · exact State.leads_almApply h _
      · exact State.leads_pathApply h
      · exact State.leads_mcApply h
      · exact State.leads_foldl h _ _ fun x1 y1 hx1 => State.leads_shApply hx1 _
      · extract_lets -merge -underBinder +onlyGivenNames x2
        have hx2 : r.Leads fl ot x2 := State.leads_wr (State.leads_applyFields h _ _) _ _ _
        clear_value x2
        exact State.leads_ite (State.leads_turnNow hx2 _ _) hx2
      · exact h)
  clear_value x0
  exact State.leads_appliedPage hx0 _

theorem State.leads_unbindDone {fl ot : Bool} {r s : State} (h : r.Leads fl ot s) (done : List Page) : r.Leads fl ot
    (State.unbindDone s done) := by
  unfold State.unbindDone
  exact State.leads_ite (State.leads_foldl h _ _ fun x0 y0 hx0 => State.leads_when hx0 _ _ (fun x1 hx1 =>
      State.leads_unbind hx1 _)) h

theorem State.leads_turnover {fl ot : Bool} {r s : State} (h : r.Leads fl ot s) : r.Leads fl ot (State.turnover s) := by
  unfold State.turnover
  extract_lets -merge -underBinder +onlyGivenNames x0
  try clear_value x0
  extract_lets -merge -underBinder +onlyGivenNames x1
  try clear_value x1
  extract_lets -merge -underBinder +onlyGivenNames x2
  try clear_value x2
  extract_lets -merge -underBinder +onlyGivenNames x3
  have hx3 : r.Leads fl ot x3 := State.leads_ite (State.leads_foldl h _ _ fun x4 y4 hx4 => State.leads_applyTurn hx4 _)
      (State.leads_foldl h _ _ fun x5 y5 hx5 => State.leads_lateArm hx5 _)
  clear_value x3
  extract_lets -merge -underBinder +onlyGivenNames x6
  have hx6 : r.Leads fl ot x6 := State.leads_unbindDone (State.leads_checkRows (State.leads_daDone hx3 _) _) _
  clear_value x6
  extract_lets -merge -underBinder +onlyGivenNames x7
  have hx7 : r.Leads fl ot x7 := State.leads_when hx6 _ _ (fun x8 hx8 => State.leads_usbTunnels hx8)
  clear_value x7
  extract_lets -merge -underBinder +onlyGivenNames x9
  have hx9 : r.Leads fl ot x9 := State.leads_foldl hx7 _ _ fun x10 y10 hx10 => State.leads_turnCheck hx10 _
  clear_value x9
  extract_lets -merge -underBinder +onlyGivenNames x11
  have hx11 : r.Leads fl ot x11 := State.leads_foldl hx9 _ _ fun x12 y12 hx12 => State.leads_epochMode hx12 _
  clear_value x11
  extract_lets -merge -underBinder +onlyGivenNames x13
  have hx13 : r.Leads fl ot x13 := State.leads_promote (State.leads_afterPaths hx11)
  clear_value x13
  extract_lets -merge -underBinder +onlyGivenNames x14
  have hx14 : r.Leads fl ot x14 := State.leads_foldl hx13 _ _ fun x15 y15 hx15 => State.leads_serveFrame hx15 _
  clear_value x14
  exact State.leads_bistTurn hx14

theorem State.leads_takeStep {fl ot : Bool} {r s : State} (h : r.Leads fl ot s) : r.Leads fl ot (State.takeStep s) := by
  unfold State.takeStep
  extract_lets -merge -underBinder +onlyGivenNames x0
  have hx0 : r.Leads fl ot x0 := State.leads_foldl h _ _ fun x1 y1 hx1 => State.leads_when hx1 _ _ (fun x2 hx2 =>
      State.leads_wr hx2 _ _ _)
  clear_value x0
  split
  · exact hx0
  · extract_lets -merge -underBinder +onlyGivenNames x3
    try clear_value x3
    refine State.leads_when ?_ _ _ (fun x4 hx4 => ?_)
    · exact hx0
    · extract_lets -merge -underBinder +onlyGivenNames x5
      try clear_value x5
      exact State.leads_wr (State.leads_wr (State.leads_stepTime hx4 _ _) _ _ _) _ _ _

theorem State.leads_toEpoch {fl ot : Bool} {r s : State} (h : r.Leads fl ot s) : r.Leads fl ot (State.toEpoch s) := by
  unfold State.toEpoch
  dsimp only
  repeat' (with_reducible first
    | assumption | apply State.leads_when | apply State.leads_foldl | intro _ | apply State.leads_clock
    | apply State.leads_ite | apply State.leads_of_fst (by assumption) | split | apply State.leads_mk)

theorem State.leads_toTurnover {fl ot : Bool} {r s : State} (h : r.Leads fl ot s) : r.Leads fl ot (State.toTurnover s)
    := by
  unfold State.toTurnover
  extract_lets -merge -underBinder +onlyGivenNames x0
  have hx0 : r.Leads fl ot x0 := State.leads_toEpoch h
  clear_value x0
  extract_lets -merge -underBinder +onlyGivenNames x1
  have hx1 : r.Leads fl ot x1 := State.leads_wr hx0 _ _ _
  clear_value x1
  extract_lets -merge -underBinder +onlyGivenNames x2
  have hx2 : r.Leads fl ot x2 := State.leads_when hx1 _ _ (fun x3 hx3 => State.leads_turnover hx3)
  clear_value x2
  extract_lets -merge -underBinder +onlyGivenNames x4
  have hx4 : r.Leads fl ot x4 := State.leads_fwResetDue (State.leads_takeStep hx2)
  clear_value x4
  exact State.leads_wr hx4 _ _ _

end Sys2Proof.Machine
end

