-- ==== Sys2Proof/Laws/Lead/View.lean ====
section
/-! SUPPORT. What the operations of Machine/View.lean keep (State.Leads of Laws/Leads.lean). -/

namespace Sys2Proof.Machine

open Reg

theorem State.leads_popEvent {fl ot : Bool} {r s : State} (h : r.Leads fl ot s) (c : Nat) : r.Leads fl ot
    (State.popEvent s c).1 := by
  unfold State.popEvent
  split
  · exact State.leads_pair h
  · exact State.leads_pair (State.leads_mk h ..)
  · exact State.leads_pair (State.leads_wr (State.leads_mk h ..) _ _ _)
  · exact State.leads_pair (State.leads_mk h ..)

theorem State.leads_popRng {fl ot : Bool} {r s : State} (h : r.Leads fl ot s) : r.Leads fl ot (State.popRng s).1 := by
  unfold State.popRng
  exact State.leads_ite_fst (State.leads_pair h) (State.leads_pair (State.leads_tookFree h))

theorem State.leads_popPd {fl ot : Bool} {r s : State} (h : r.Leads fl ot s) (n : Nat) : r.Leads fl ot (State.popPd s
    n).1 := by
  unfold State.popPd
  split
  · exact State.leads_pair h
  · extract_lets -merge -underBinder +onlyGivenNames x0
    have hx0 : r.Leads fl ot x0 := State.leads_mk h ..
    clear_value x0
    exact State.leads_pair (State.leads_wr (State.leads_wr hx0 _ _ _) _ _ _)

theorem State.leads_pop {fl ot : Bool} {r s : State} (h : r.Leads fl ot s) (p : Page) : r.Leads fl ot (State.pop s p).1
    := by
  unfold State.pop
  refine State.leads_ite_fst ?_ ?_
  · exact State.leads_pair h
  · split
    · exact State.leads_popRng h
    · exact State.leads_popPd h _
    · exact State.leads_ite_fst (State.leads_popEvent h _) (State.leads_pair h)
    · exact State.leads_pair h

theorem State.leads_readWord {fl ot : Bool} {r s : State} (h : r.Leads fl ot s) (who : Initiator) (a : Nat) : r.Leads
    fl ot (State.readWord s who a).1 := by
  unfold State.readWord
  split
  · exact State.leads_pair h
  · extract_lets -merge -underBinder +onlyGivenNames x0
    try clear_value x0
    refine State.leads_ite_fst ?_ ?_
    · exact State.leads_pair h
    · refine State.leads_ite_fst ?_ ?_
      · exact State.leads_pair (State.leads_gatedAccess h _ _)
      · refine State.leads_ite_fst ?_ ?_
        · exact State.leads_pop h _
        · extract_lets -merge -underBinder +onlyGivenNames x1
          try clear_value x1
          exact State.leads_ite_fst (State.leads_pair (State.leads_wr h _ _ _)) (State.leads_pair h)

end Sys2Proof.Machine
end

