-- ==== Sys2Proof/Laws/Lead/RegWrite.lean ====
section
/-! SUPPORT. What the operations of Machine/RegWrite.lean keep (State.Leads of Laws/Leads.lean). -/

namespace Sys2Proof.Machine

open Reg

theorem State.leads_via {fl ot : Bool} {r s : State} (h : r.Leads fl ot s) (x : State → Res)
    (hx : ∀ t, r.Leads fl ot t → r.LeadsR fl ot (x t)) : r.Leads fl ot (State.via s x) := by
  unfold State.via
  split
  · rename_i t ht
    exact hx s h t ht
  · exact h
  · exact h

theorem State.leads_onPut {fl ot : Bool} {r s : State} (h : r.Leads fl ot s) (l : List (Field × Nat)) (f : Field)
    (x : State → Res) (hx : ∀ t, r.Leads fl ot t → r.LeadsR fl ot (x t)) : r.Leads fl ot (State.onPut s l f x) :=
  State.leads_when h _ _ fun _ ht => State.leads_via ht _ hx

theorem State.leads_putAon {fl ot : Bool} {r s : State} (h : r.Leads fl ot s) (who : Initiator) (l : List (Field ×
    Nat)) (be : Nat) : r.Leads fl ot (State.putAon s who l be) := by
  unfold State.putAon
  extract_lets -merge -underBinder +onlyGivenNames x0
  have hx0 : r.Leads fl ot x0 := State.leads_when h _ _ (fun x1 hx1 => State.leads_psGo hx1 _)
  clear_value x0
  extract_lets -merge -underBinder +onlyGivenNames x2
  have hx2 : r.Leads fl ot x2 := State.leads_onPut hx0 _ _ _ (fun x3 hx3 => State.leads_execPadRelease hx3 _)
  clear_value x2
  extract_lets -merge -underBinder +onlyGivenNames x4
  have hx4 : r.Leads fl ot x4 := State.leads_when hx2 _ _ (fun x5 hx5 => State.leads_wr hx5 _ _ _)
  clear_value x4
  extract_lets -merge -underBinder +onlyGivenNames x6
  have hx6 : r.Leads fl ot x6 := State.leads_when hx4 _ _ (fun x7 hx7 => State.leads_wr hx7 _ _ _)
  clear_value x6
  extract_lets -merge -underBinder +onlyGivenNames x8
  have hx8 : r.Leads fl ot x8 := (by
      unfold x8
      split
      · exact State.leads_via hx6 _ (fun x9 hx9 => State.leads_execWatchdogKick hx9 _ _)
      · exact hx6)
  clear_value x8
  extract_lets -merge -underBinder +onlyGivenNames x10
  have hx10 : r.Leads fl ot x10 := (by
      unfold x10
      split
      · exact State.leads_via hx8 _ (fun x11 hx11 => State.leads_execRetentionRamAccess hx11 _ _ _ _ _)
      · exact hx8)
  clear_value x10
  exact State.leads_onPut hx10 _ _ _ (fun x12 hx12 => State.leads_execAonCntClr hx12 _)

theorem State.leads_putSec {fl : Bool} {r s : State} (h : r.Leads fl false s) (who : Initiator) (l : List (Field ×
    Nat)) : r.Leads fl false (State.putSec s who l) := by
  unfold State.putSec
  extract_lets -merge -underBinder +onlyGivenNames x0
  try clear_value x0
  extract_lets -merge -underBinder +onlyGivenNames x1
  try clear_value x1
  extract_lets -merge -underBinder +onlyGivenNames x2
  have hx2 : r.Leads fl false x2 := State.leads_onPut h _ _ _ (fun x3 hx3 => State.leads_execOtpProgram hx3 _ _ _)
  clear_value x2
  extract_lets -merge -underBinder +onlyGivenNames x4
  have hx4 : r.Leads fl false x4 := State.leads_onPut hx2 _ _ _ (fun x5 hx5 => State.leads_execMeasExtend hx5 _ _)
  clear_value x4
  extract_lets -merge -underBinder +onlyGivenNames x6
  have hx6 : r.Leads fl false x6 := State.leads_onPut hx4 _ _ _ (fun x7 hx7 => State.leads_execSign hx7 _)
  clear_value x6
  extract_lets -merge -underBinder +onlyGivenNames x8
  have hx8 : r.Leads fl false x8 := (by
      unfold x8
      refine State.leads_when ?_ _ _ (fun x9 hx9 => ?_)
      · exact hx6
      · split
        · exact State.leads_via hx9 _ (fun x10 hx10 => State.leads_execLoad hx10 _ _ _)
        · exact State.leads_via hx9 _ (fun x11 hx11 => State.leads_execDerive hx11 _ _ _)
        · exact State.leads_via hx9 _ (fun x12 hx12 => State.leads_execZeroise hx12 _ _)
        · exact State.leads_via hx9 _ (fun x13 hx13 => State.leads_execZeroiseAll hx13 _)
        · exact hx9)
  clear_value x8
  extract_lets -merge -underBinder +onlyGivenNames x14
  have hx14 : r.Leads fl false x14 := State.leads_onPut hx8 _ _ _ (fun x15 hx15 => State.leads_execChallenge hx15 _ _)
  clear_value x14
  extract_lets -merge -underBinder +onlyGivenNames x16
  have hx16 : r.Leads fl false x16 := State.leads_onPut hx14 _ _ _ (fun x17 hx17 => State.leads_execVerify hx17 _ _)
  clear_value x16
  split
  · exact State.leads_via hx16 _ (fun x18 hx18 => State.leads_execDbgRespPush hx18 _ _)
  · exact hx16

theorem State.leads_storePut {fl ot : Bool} {r s : State} (h : r.Leads fl ot s) (p : Page) (x : Field × Nat) : r.Leads
    fl ot (State.storePut s p x) := by
  unfold State.storePut
  refine State.leads_ite ?_ ?_
  · exact h
  · split
    · exact State.leads_wr h _ _ _
    · exact h
    · exact State.leads_when h _ _ (fun x0 hx0 => State.leads_wr hx0 _ _ _)
    · exact State.leads_wr h _ _ _

theorem State.leads_putMc {fl ot : Bool} {r s : State} (h : r.Leads fl ot s) (v : Nat) : r.Leads fl ot (State.putMc s
    v) := by
  unfold State.putMc
  extract_lets -merge -underBinder +onlyGivenNames x0
  try clear_value x0
  extract_lets -merge -underBinder +onlyGivenNames x1
  try clear_value x1
  extract_lets -merge -underBinder +onlyGivenNames x2
  try clear_value x2
  exact State.leads_when h _ _ (fun x3 hx3 => State.leads_mk hx3 ..)

theorem State.leads_putHeader {fl ot : Bool} {r s : State} (h : r.Leads fl ot s) (who : Initiator) (p : Page) (l : List
    (Field × Nat)) (w : Nat) : r.Leads fl ot (State.putHeader s who p l w) := by
  unfold State.putHeader
  refine State.leads_ite ?_ ?_
  · extract_lets -merge -underBinder +onlyGivenNames x0
    have hx0 : r.Leads fl ot x0 := (by
        unfold x0
        split
        · exact State.leads_via h _ (fun x1 hx1 => State.leads_execEnable hx1 _ _ _)
        · exact h)
    clear_value x0
    extract_lets -merge -underBinder +onlyGivenNames x2
    have hx2 : r.Leads fl ot x2 := (by
        unfold x2
        split
        · exact State.leads_via hx0 _ (fun x3 hx3 => State.leads_execLevelChange hx3 _ _ _)
        · exact hx0)
    clear_value x2
    exact State.leads_when hx2 _ _ (fun x4 hx4 => State.leads_srst hx4 _)
  · refine State.leads_ite ?_ ?_
    · extract_lets -merge -underBinder +onlyGivenNames x5
      try clear_value x5
      extract_lets -merge -underBinder +onlyGivenNames x6
      try clear_value x6
      exact State.leads_via h _ (fun x7 hx7 => State.leads_execIntEnableWrite hx7 _ _ _)
    · refine State.leads_ite ?_ ?_
      · exact State.leads_via h _ (fun x8 hx8 => State.leads_execIntForce hx8 _ _ _)
      · refine State.leads_ite ?_ ?_
        · exact State.leads_ackMask h _ _
        · refine State.leads_ite ?_ ?_
          · exact State.leads_ite (State.leads_doCancel h _ _) (State.leads_when h _ _ (fun x9 hx9 => State.leads_doArm
                hx9 _ _ _))
          · refine State.leads_ite ?_ ?_
            · extract_lets -merge -underBinder +onlyGivenNames x10
              have hx10 : r.Leads fl ot x10 := State.leads_when h _ _ (fun x11 hx11 => State.leads_wr hx11 _ _ _)
              clear_value x10
              exact State.leads_when hx10 _ _ (fun x12 hx12 => State.leads_wr hx12 _ _ _)
            · exact h

theorem State.leads_putPd {fl ot : Bool} {r s : State} (h : r.Leads fl ot s) (who : Initiator) (n : Nat) (l : List
    (Field × Nat)) : r.Leads fl ot (State.putPd s who n l) := by
  unfold State.putPd
  extract_lets -merge -underBinder +onlyGivenNames x0
  have hx0 : r.Leads fl ot x0 := State.leads_onPut h _ _ _ (fun x1 hx1 => State.leads_execHardReset hx1 _ _)
  clear_value x0
  extract_lets -merge -underBinder +onlyGivenNames x2
  have hx2 : r.Leads fl ot x2 := State.leads_onPut hx0 _ _ _ (fun x3 hx3 => State.leads_execSoftReset hx3 _ _)
  clear_value x2
  extract_lets -merge -underBinder +onlyGivenNames x4
  have hx4 : r.Leads fl ot x4 := State.leads_onPut hx2 _ _ _ (fun x5 hx5 => State.leads_execErrRecovery hx5 _ _)
  clear_value x4
  extract_lets -merge -underBinder +onlyGivenNames x6
  have hx6 : r.Leads fl ot x6 := State.leads_onPut hx4 _ _ _ (fun x7 hx7 => State.leads_execSwapPr hx7 _ _)
  clear_value x6
  extract_lets -merge -underBinder +onlyGivenNames x8
  have hx8 : r.Leads fl ot x8 := State.leads_onPut hx6 _ _ _ (fun x9 hx9 => State.leads_execSwapDr hx9 _ _)
  clear_value x8
  extract_lets -merge -underBinder +onlyGivenNames x10
  have hx10 : r.Leads fl ot x10 := State.leads_onPut hx8 _ _ _ (fun x11 hx11 => State.leads_execSwapVconn hx11 _ _)
  clear_value x10
  extract_lets -merge -underBinder +onlyGivenNames x12
  have hx12 : r.Leads fl ot x12 := State.leads_onPut hx10 _ _ _ (fun x13 hx13 => State.leads_execEprEnter hx13 _ _)
  clear_value x12
  extract_lets -merge -underBinder +onlyGivenNames x14
  have hx14 : r.Leads fl ot x14 := State.leads_onPut hx12 _ _ _ (fun x15 hx15 => State.leads_execEprExit hx15 _ _)
  clear_value x14
  extract_lets -merge -underBinder +onlyGivenNames x16
  have hx16 : r.Leads fl ot x16 := State.leads_onPut hx14 _ _ _ (fun x17 hx17 => State.leads_execPdTxSend hx17 _ _)
  clear_value x16
  exact State.leads_onPut hx16 _ _ _ (fun x18 hx18 => State.leads_execPdCntClr hx18 _ _)

theorem State.leads_putUhub {fl ot : Bool} {r s : State} (h : r.Leads fl ot s) (who : Initiator) (l : List (Field ×
    Nat)) (w : Nat) : r.Leads fl ot (State.putUhub s who l w) := by
  unfold State.putUhub
  extract_lets -merge -underBinder +onlyGivenNames x0
  try clear_value x0
  refine State.leads_ite ?_ ?_
  · extract_lets -merge -underBinder +onlyGivenNames x1
    try clear_value x1
    extract_lets -merge -underBinder +onlyGivenNames x2
    try clear_value x2
    extract_lets -merge -underBinder +onlyGivenNames x3
    try clear_value x3
    extract_lets -merge -underBinder +onlyGivenNames x4
    try clear_value x4
    extract_lets -merge -underBinder +onlyGivenNames x5
    try clear_value x5
    extract_lets -merge -underBinder +onlyGivenNames x6
    try clear_value x6
    extract_lets -merge -underBinder +onlyGivenNames x7
    try clear_value x7
    extract_lets -merge -underBinder +onlyGivenNames x8
    have hx8 : r.Leads fl ot x8 := State.leads_via h _ (fun x9 hx9 => State.leads_execPortOwnerChange hx9 _ _)
    clear_value x8
    extract_lets -merge -underBinder +onlyGivenNames x10
    have hx10 : r.Leads fl ot x10 := State.leads_via hx8 _ (fun x11 hx11 => State.leads_execPortOwnerChange hx11 _ _)
    clear_value x10
    extract_lets -merge -underBinder +onlyGivenNames x12
    have hx12 : r.Leads fl ot x12 := State.leads_when hx10 _ _ (fun x13 hx13 => State.leads_wr (State.leads_wr
        (State.leads_embReset hx13 _) _ _ _) _ _ _)
    clear_value x12
    extract_lets -merge -underBinder +onlyGivenNames x14
    have hx14 : r.Leads fl ot x14 := State.leads_when hx12 _ _ (fun x15 hx15 => State.leads_hubReconnect
        (State.leads_wr hx15 _ _ _) _)
    clear_value x14
    extract_lets -merge -underBinder +onlyGivenNames x16
    have hx16 : r.Leads fl ot x16 := State.leads_when hx14 _ _ (fun x17 hx17 => State.leads_hubReconnect
        (State.leads_wr hx17 _ _ _) _)
    clear_value x16
    exact State.leads_when hx16 _ _ (fun x18 hx18 => State.leads_wr hx18 _ _ _)
  · refine State.leads_ite ?_ ?_
    · extract_lets -merge -underBinder +onlyGivenNames x19
      try clear_value x19
      exact State.leads_via h _ (fun x20 hx20 => State.leads_execPortOwnerChange hx20 _ _)
    · exact State.leads_onPut (State.leads_onPut h _ _ _ (fun x22 hx22 => State.leads_execWakeReq hx22 _)) _ _ _ (fun
          x21 hx21 => State.leads_execUhCntClr hx21 _)

theorem State.leads_putLane {fl ot : Bool} {r s : State} (h : r.Leads fl ot s) (who : Initiator) (p : Page) (l : List
    (Field × Nat)) : r.Leads fl ot (State.putLane s who p l) := by
  unfold State.putLane
  extract_lets -merge -underBinder +onlyGivenNames x0
  try clear_value x0
  extract_lets -merge -underBinder +onlyGivenNames x1
  have hx1 : r.Leads fl ot x1 := (by
      unfold x1
      split
      · exact State.leads_when h _ _ (fun x2 hx2 => State.leads_via hx2 _ (fun x3 hx3 => State.leads_execModeChange hx3
            _ _ _))
      · exact h)
  clear_value x1
  extract_lets -merge -underBinder +onlyGivenNames x4
  have hx4 : r.Leads fl ot x4 := State.leads_onPut hx1 _ _ _ (fun x5 hx5 => State.leads_execRetrain hx5 _ _)
  clear_value x4
  extract_lets -merge -underBinder +onlyGivenNames x6
  have hx6 : r.Leads fl ot x6 := State.leads_onPut hx4 _ _ _ (fun x7 hx7 => State.leads_execLnCntClr hx7 _ _)
  clear_value x6
  extract_lets -merge -underBinder +onlyGivenNames x8
  have hx8 : r.Leads fl ot x8 := State.leads_when hx6 _ _ (fun x9 hx9 => State.leads_onPut hx9 _ _ _ (fun x10 hx10 =>
      State.leads_execTsyncStepReq hx10 _ _))
  clear_value x8
  refine State.leads_foldl ?_ _ _ fun x11 y11 hx11 => ?_
  · exact hx8
  extract_lets -merge -underBinder +onlyGivenNames x12
  have hx12 : r.Leads fl ot x12 := State.leads_when hx11 _ _ (fun x13 hx13 => State.leads_wr hx13 _ _ _)
  clear_value x12
  exact State.leads_onPut hx12 _ _ _ (fun x14 hx14 => State.leads_execMarginStart hx14 _ _ _)

theorem State.leads_putEth {fl ot : Bool} {r s : State} (h : r.Leads fl ot s) (who : Initiator) (n : Nat) (l : List
    (Field × Nat)) : r.Leads fl ot (State.putEth s who n l) := by
  unfold State.putEth
  dsimp only
  repeat' (with_reducible first
    | assumption | apply State.leads_execEthBindChange | apply State.leads_execEthCntClr
    | apply State.leads_execRxTail | apply State.leads_execTxTail | apply State.leads_onPut | apply State.leads_via
    | apply State.leads_when | apply State.leads_foldl | intro _ | apply State.leads_fresh | apply State.leads_ite
    | apply State.leads_of_fst (by assumption) | split | apply State.leads_mk)

theorem State.leads_putBlock {fl : Bool} {r s : State} (h : r.Leads fl false s) (who : Initiator) (p : Page) (l : List
    (Field × Nat)) (w : Nat) (be : Nat) : r.Leads fl false (State.putBlock s who p l w be) := by
  unfold State.putBlock
  extract_lets -merge -underBinder +onlyGivenNames x0
  try clear_value x0
  split
  · extract_lets -merge -underBinder +onlyGivenNames x1
    try clear_value x1
    exact State.leads_ite (State.leads_via h _ (fun x2 hx2 => State.leads_execChipSoftwareReset hx2 _ _))
        (State.leads_when h _ _ (fun x3 hx3 => State.leads_via hx3 _ (fun x4 hx4 => State.leads_execMgmtReset hx4 _ _)))
  · exact State.leads_putAon h _ _ _
  · exact State.leads_putSec h _ _
  · exact State.leads_onPut (State.leads_onPut h _ _ _ (fun x6 hx6 => State.leads_execBistRunGo hx6 _ _)) _ _ _ (fun x5
        hx5 => State.leads_execBistCntClr hx5 _)
  · exact State.leads_putLane h _ _ _
  · exact State.leads_putLane h _ _ _
  · exact State.leads_putLane h _ _ _
  · exact State.leads_putLane h _ _ _
  · exact State.leads_putLane h _ _ _
  · exact State.leads_ite (State.leads_doCancel h _ _) (State.leads_when h _ _ (fun x7 hx7 => State.leads_doArm hx7 _ _
        _))
  · exact State.leads_onPut h _ _ _ (fun x8 hx8 => State.leads_execLkCntClr hx8 _ _)
  · exact State.leads_onPut h _ _ _ (fun x9 hx9 => State.leads_execPcCntClr hx9 _)
  · extract_lets -merge -underBinder +onlyGivenNames x10
    have hx10 : r.Leads fl false x10 := (by
        unfold x10
        split
        · exact State.leads_putMc h _
        · exact h)
    clear_value x10
    extract_lets -merge -underBinder +onlyGivenNames x11
    have hx11 : r.Leads fl false x11 := (by
        unfold x11
        split
        · exact State.leads_via hx10 _ (fun x12 hx12 => State.leads_execSwOutRestart hx12 _ _)
        · exact hx10)
    clear_value x11
    exact State.leads_onPut hx11 _ _ _ (fun x13 hx13 => State.leads_execSwCntClr hx13 _)
  · exact State.leads_onPut h _ _ _ (fun x14 hx14 => State.leads_execAlmCntClr hx14 _ _)
  · extract_lets -merge -underBinder +onlyGivenNames x15
    have hx15 : r.Leads fl false x15 := State.leads_onPut h _ _ _ (fun x16 hx16 => State.leads_execPortRst hx16 _)
    clear_value x15
    extract_lets -merge -underBinder +onlyGivenNames x17
    have hx17 : r.Leads fl false x17 := State.leads_foldl hx15 _ _ fun x18 y18 hx18 => State.leads_onPut hx18 _ _ _
        (fun x19 hx19 => State.leads_execPeLinkReset hx19 _ _)
    clear_value x17
    exact State.leads_onPut hx17 _ _ _ (fun x20 hx20 => State.leads_execPeCntClr hx20 _)
  · extract_lets -merge -underBinder +onlyGivenNames x21
    have hx21 : r.Leads fl false x21 := (by
        unfold x21
        refine State.leads_foldl ?_ _ _ fun x22 y22 hx22 => ?_
        · exact h
        split
        · exact State.leads_pcaSet hx22 _ _ _ _
        · exact hx22)
    clear_value x21
    exact State.leads_onPut (State.leads_onPut hx21 _ _ _ (fun x24 hx24 => State.leads_execPcaRelease hx24 _ _)) _ _ _
        (fun x23 hx23 => State.leads_execPcaCntClr hx23 _ _)
  · extract_lets -merge -underBinder +onlyGivenNames x25
    have hx25 : r.Leads fl false x25 := (by
        unfold x25
        split
        · exact State.leads_via h _ (fun x26 hx26 => State.leads_execBrRselWrite hx26 _ _)
        · exact h)
    clear_value x25
    exact State.leads_onPut hx25 _ _ _ (fun x27 hx27 => State.leads_execBrCntClr hx27 _)
  · extract_lets -merge -underBinder +onlyGivenNames x28
    have hx28 : r.Leads fl false x28 := State.leads_when h _ _ (fun x29 hx29 => State.leads_wr hx29 _ _ _)
    clear_value x28
    extract_lets -merge -underBinder +onlyGivenNames x30
    try clear_value x30
    extract_lets -merge -underBinder +onlyGivenNames x31
    have hx31 : r.Leads fl false x31 := State.leads_ite (State.leads_via hx28 _ (fun x32 hx32 =>
        State.leads_execHoldReq hx32 _ _ _)) (State.leads_onPut hx28 _ _ _ (fun x33 hx33 => State.leads_execResumeReq
        hx33 _ _))
    clear_value x31
    exact State.leads_onPut hx31 _ _ _ (fun x34 hx34 => State.leads_execDispCntClr hx34 _ _)
  · extract_lets -merge -underBinder +onlyGivenNames x35
    have hx35 : r.Leads fl false x35 := State.leads_onPut h _ _ _ (fun x36 hx36 => State.leads_execDoutRestart hx36 _ _)
    clear_value x35
    exact State.leads_onPut (State.leads_onPut hx35 _ _ _ (fun x38 hx38 => State.leads_execDoutRetrain hx38 _ _)) _ _ _
        (fun x37 hx37 => State.leads_execDoutCntClr hx37 _ _)
  · exact State.leads_putUhub h _ _ _
  · exact State.leads_putEth h _ _ _
  · exact State.leads_onPut h _ _ _ (fun x39 hx39 => State.leads_execMemCntClr hx39 _)
  · exact State.leads_putPd h _ _ _
  · exact State.leads_onPut h _ _ _ (fun x40 hx40 => State.leads_execMbCntClr hx40 _)
  · extract_lets -merge -underBinder +onlyGivenNames x41
    have hx41 : r.Leads fl false x41 := State.leads_onPut h _ _ _ (fun x42 hx42 => State.leads_execAbort hx42 _ _)
    clear_value x41
    extract_lets -merge -underBinder +onlyGivenNames x43
    try clear_value x43
    refine State.leads_ite ?_ ?_
    · exact State.leads_via hx41 _ (fun x44 hx44 => State.leads_execGo hx44 _ _ _ _ _)
    · extract_lets -merge -underBinder +onlyGivenNames x45
      try clear_value x45
      extract_lets -merge -underBinder +onlyGivenNames x46
      try clear_value x46
      extract_lets -merge -underBinder +onlyGivenNames x47
      try clear_value x47
      exact State.leads_wr (State.leads_wr (State.leads_wr hx41 _ _ _) _ _ _) _ _ _
  · exact h
  · exact h
  · exact h
  · exact h
  · exact h

theorem State.leads_putAll {fl : Bool} {r s : State} (h : r.Leads fl false s) (who : Initiator) (p : Page) (l : List
    (Field × Nat)) (w : Nat) (be : Nat) : r.Leads fl false (State.putAll s who p l w be) := by
  unfold State.putAll
  extract_lets -merge -underBinder +onlyGivenNames x0
  have hx0 : r.Leads fl false x0 := State.leads_foldl h _ _ fun x1 y1 hx1 => State.leads_storePut hx1 _ _
  clear_value x0
  exact State.leads_ite (State.leads_putHeader hx0 _ _ _ _) (State.leads_putBlock hx0 _ _ _ _ _)

theorem State.leads_writePage {fl : Bool} {r s : State} (h : r.Leads fl false s) (who : Initiator) (p : Page) (w : Nat)
    (be : Nat) (value : Nat) : r.Leads fl false (State.writePage s who p w be value) := by
  unfold State.writePage
  extract_lets -merge -underBinder +onlyGivenNames x0
  try clear_value x0
  extract_lets -merge -underBinder +onlyGivenNames x1
  try clear_value x1
  refine State.leads_ite ?_ ?_
  · exact State.leads_drop h _ _ _ _
  · refine State.leads_ite ?_ ?_
    · exact h
    · refine State.leads_ite ?_ ?_
      · exact State.leads_drop h _ _ _ _
      · extract_lets -merge -underBinder +onlyGivenNames x2
        try clear_value x2
        extract_lets -merge -underBinder +onlyGivenNames x3
        try clear_value x3
        extract_lets -merge -underBinder +onlyGivenNames x4
        try clear_value x4
        extract_lets -merge -underBinder +onlyGivenNames x5
        try clear_value x5
        extract_lets -merge -underBinder +onlyGivenNames x6
        try clear_value x6
        extract_lets -merge -underBinder +onlyGivenNames x7
        have hx7 : r.Leads fl false x7 := State.leads_putAll h _ _ _ _ _
        clear_value x7
        exact State.leads_when hx7 _ _ (fun x8 hx8 => State.leads_drop hx8 _ _ _ _)

theorem State.leads_writeWord {fl : Bool} {r s : State} (h : r.Leads fl false s) (who : Initiator) (a : Nat) (be : Nat)
    (value : Nat) : r.Leads fl false (State.writeWord s who a be value) := by
  unfold State.writeWord
  split
  · exact h
  · extract_lets -merge -underBinder +onlyGivenNames x0
    try clear_value x0
    exact State.leads_ite h (State.leads_ite (State.leads_gatedAccess h _ _) (State.leads_ite (State.leads_via h _ (fun
        x1 hx1 => State.leads_execPathEntryWrite hx1 _ _ _ _ _)) (State.leads_writePage h _ _ _ _ _)))

end Sys2Proof.Machine
end

