-- ==== Sys2Proof/Laws/Lead/BridgeOps.lean ====
section
/-! SUPPORT. What the operations of Machine/BridgeOps.lean keep (State.Leads of Laws/Leads.lean). -/

namespace Sys2Proof.Machine

open Reg

theorem State.leads_pfKeep {fl ot : Bool} {r s : State} (h : r.Leads fl ot s) (b : PfBlock) : r.Leads fl ot
    (State.pfKeep s b) := by
  unfold State.pfKeep
  exact State.leads_mk h ..

theorem State.leads_remRead {fl ot : Bool} {r s : State} (h : r.Leads fl ot s) (a_r : Req) (c : Ctrl) : r.Leads fl ot
    (State.remRead s a_r c) := by
  unfold State.remRead
  dsimp only
  repeat' (with_reducible first
    | assumption | apply State.leads_pfKeep | apply State.leads_send | apply State.leads_tookFree
    | apply State.leads_when | apply State.leads_foldl | intro _ | apply State.leads_fresh | apply State.leads_ite
    | apply State.leads_of_fst (by assumption) | split | apply State.leads_mk)

theorem State.leads_smbRead {fl ot : Bool} {r s : State} (h : r.Leads fl ot s) (l : List Nat) :
    r.Leads fl ot (State.smbRead s l).1 := by
  induction l generalizing s with
  | nil => exact h
  | cons a l ih =>
    have h1 : r.Leads fl ot (if isFar a = true then (s, 0) else s.readWord .smbus a).1 :=
      State.leads_ite_fst h (State.leads_readWord h _ _)
    unfold State.smbRead
    split
    rename_i s1 v heq
    split
    rename_i s2 vs heq2
    exact State.leads_of_fst heq2 (ih (State.leads_of_fst heq h1))

theorem State.leads_pfDrop {fl ot : Bool} {r s : State} (h : r.Leads fl ot s) (q : PfBlock → Bool) : r.Leads fl ot
    (State.pfDrop s q) := by
  unfold State.pfDrop
  exact State.leads_mk h ..

theorem State.leads_remGive {fl ot : Bool} {r s : State} (h : r.Leads fl ot s) (x : RemAcc) (vs : List Nat) : r.Leads
    fl ot (State.remGive s x vs) := by
  unfold State.remGive
  refine State.leads_ite ?_ ?_
  · split
    · exact h
    · exact State.leads_mk h ..
  · exact State.leads_send h _

theorem State.leads_remReadOwn {fl ot : Bool} {r s : State} (h : r.Leads fl ot s) (x : RemAcc) : r.Leads fl ot
    (State.remReadOwn s x) := by
  unfold State.remReadOwn
  extract_lets -merge -underBinder +onlyGivenNames x0
  have hx0 : r.Leads fl ot x0.1 := (by
      unfold x0
      refine State.leads_foldl_fst ?_ _ _ fun x1 y1 hx1 => ?_
      · exact State.leads_pair h
      split
      · rename_i y2_0 y2_1 heq2
        have hy2 := State.leads_of_fst (fl := fl) (ot := ot) (r := r) heq2 (State.leads_readWord hx1 _ _)
        exact State.leads_pair hy2)
  clear_value x0
  exact State.leads_remGive hx0 _ _

theorem State.leads_smbState {fl ot : Bool} {r s : State} (h : r.Leads fl ot s) (n : Nat) : r.Leads fl ot
    (State.smbState s n) := by
  unfold State.smbState
  exact State.leads_wr h _ _ _

theorem State.leads_smbTimeout {fl ot : Bool} {r s : State} (h : r.Leads fl ot s) : r.Leads fl ot (State.smbTimeout s)
    := by
  unfold State.smbTimeout
  split
  · exact h
  · exact State.leads_smbState (State.leads_mk h ..) _

theorem State.leads_remSend {fl ot : Bool} {r s : State} (h : r.Leads fl ot s) (use : Nat) (cop : Nat) (x : RemAcc)
    (words : List Nat) : r.Leads fl ot (State.remSend s use cop x words) := by
  unfold State.remSend
  split
  · exact h
  · extract_lets -merge -underBinder +onlyGivenNames x0
    try clear_value x0
    extract_lets -merge -underBinder +onlyGivenNames x1
    have hx1 : r.Leads fl ot x1 := State.leads_mk h ..
    clear_value x1
    exact State.leads_ctrlSend hx1 _

theorem State.leads_ctrlTimeout {fl ot : Bool} {r s : State} (h : r.Leads fl ot s) : r.Leads fl ot (State.ctrlTimeout
    s) := by
  unfold State.ctrlTimeout
  exact State.leads_raise (State.leads_count h _ _) _ _

theorem State.leads_remDo {fl : Bool} {r s : State} (h : r.Leads fl false s) (x : RemAcc) : r.Leads fl false
    (State.remDo s x) := by
  unfold State.remDo
  extract_lets -merge -underBinder +onlyGivenNames x0
  try clear_value x0
  refine State.leads_ite ?_ ?_
  · extract_lets -merge -underBinder +onlyGivenNames x1
    have hx1 : r.Leads fl false x1 := State.leads_ctrlTimeout h
    clear_value x1
    exact State.leads_ite hx1 (State.leads_ite (State.leads_smbTimeout hx1) (State.leads_send hx1 _))
  · refine State.leads_ite ?_ ?_
    · extract_lets -merge -underBinder +onlyGivenNames x2
      have hx2 : r.Leads fl false x2 := State.leads_pfDrop h _
      clear_value x2
      exact State.leads_ite (State.leads_foldl hx2 _ _ fun x3 y3 hx3 => State.leads_writeWord hx3 _ _ _ _)
          (State.leads_remSend hx2 _ _ _ _)
    · refine State.leads_ite ?_ ?_
      · exact State.leads_remReadOwn h _
      · split
        · exact State.leads_count (State.leads_remGive h _ _) _ _
        · extract_lets -merge -underBinder +onlyGivenNames x4
          try clear_value x4
          extract_lets -merge -underBinder +onlyGivenNames x5
          have hx5 : r.Leads fl false x5 := State.leads_pfDrop h _
          clear_value x5
          exact State.leads_remSend hx5 _ _ _ _

theorem State.leads_remIssue {fl : Bool} {r s : State} (h : r.Leads fl false s) (x : RemAcc) : r.Leads fl false
    (State.remIssue s x) := by
  unfold State.remIssue
  exact State.leads_ite (State.leads_mk h ..) (State.leads_remDo h _)

theorem State.leads_remServe {fl : Bool} {r s : State} (h : r.Leads fl false s) : r.Leads fl false (State.remServe s)
    := by
  unfold State.remServe
  exact State.leads_foldl (State.leads_mk h ..) _ _ fun x0 y0 hx0 => State.leads_remIssue hx0 _

theorem State.leads_lastDiscard {fl ot : Bool} {r s : State} (h : r.Leads fl ot s) (code : Nat) (hub : Nat) (l : List
    (Nat × Nat × Bool)) : r.Leads fl ot (State.lastDiscard s code hub l) := by
  unfold State.lastDiscard
  split
  · exact h
  · extract_lets -merge -underBinder +onlyGivenNames x0
    have hx0 : r.Leads fl ot x0 := State.leads_when h _ _ (fun x1 hx1 => State.leads_wr hx1 _ _ _)
    clear_value x0
    extract_lets -merge -underBinder +onlyGivenNames x2
    have hx2 : r.Leads fl ot x2 := State.leads_wr (State.leads_wr hx0 _ _ _) _ _ _
    clear_value x2
    extract_lets -merge -underBinder +onlyGivenNames x3
    have hx3 : r.Leads fl ot x3 := State.leads_wr (State.leads_wr hx2 _ _ _) _ _ _
    clear_value x3
    extract_lets -merge -underBinder +onlyGivenNames x4
    have hx4 : r.Leads fl ot x4 := State.leads_wr (State.leads_wr hx3 _ _ _) _ _ _
    clear_value x4
    exact State.leads_raise (State.leads_sat hx4 _ _ _) _ _

theorem State.leads_respond {fl : Bool} {r s : State} (h : r.Leads fl false s) (c : Ctrl) : r.Leads fl false
    (State.respond s c) := by
  unfold State.respond
  extract_lets -merge -underBinder +onlyGivenNames x0
  try clear_value x0
  split
  · refine State.leads_ite ?_ ?_
    · exact State.leads_settle h _
    · extract_lets -merge -underBinder +onlyGivenNames x1
      have hx1 : r.Leads fl false x1 := State.leads_mk h ..
      clear_value x1
      exact State.leads_remServe (State.leads_ite (State.leads_remRead hx1 _ _) hx1)
  · split
    · exact State.leads_lastDiscard (State.leads_mk h ..) _ _ _
    · exact h

theorem State.leads_smbDiscard {fl ot : Bool} {r s : State} (h : r.Leads fl ot s) : r.Leads fl ot (State.smbDiscard s)
    := by
  unfold State.smbDiscard
  dsimp only
  repeat' (with_reducible first
    | assumption | apply State.leads_count | apply State.leads_lastDiscard | apply State.leads_smbState
    | apply State.leads_when | apply State.leads_foldl | intro _ | apply State.leads_ite
    | apply State.leads_of_fst (by assumption) | split | apply State.leads_mk)

end Sys2Proof.Machine
end

