-- ==== Sys2Proof/Laws/Lead/Bridge.lean ====
section
/-! SUPPORT. What the operations of Machine/Bridge.lean keep (State.Leads of Laws/Leads.lean). -/

namespace Sys2Proof.Machine

open Reg

theorem State.leads_endReq {fl : Bool} {r s : State} (h : r.Leads fl false s) (a_r : Req) : r.Leads fl false
    (State.endReq s a_r) := by
  unfold State.endReq
  extract_lets -merge -underBinder +onlyGivenNames x0
  have hx0 : r.Leads fl false x0 := State.leads_ctrlTimeout (State.leads_mk h ..)
  clear_value x0
  refine State.leads_ite ?_ ?_
  · exact hx0
  · extract_lets -merge -underBinder +onlyGivenNames x1
    have hx1 : r.Leads fl false x1 := (by
        unfold x1
        refine State.leads_when ?_ _ _ (fun x2 hx2 => ?_)
        · exact hx0
        · extract_lets -merge -underBinder +onlyGivenNames x3
          have hx3 : r.Leads fl false x3 := State.leads_mk hx2 ..
          clear_value x3
          exact State.leads_ite hx3 (State.leads_ite (State.leads_smbTimeout hx3) (State.leads_send hx3 _)))
    clear_value x1
    exact State.leads_remServe hx1

theorem State.leads_execCtrlTimeout {fl : Bool} {r s : State} (h : r.Leads fl false s) (dom : Nat) (tag : Nat) :
    r.LeadsR fl false (execCtrlTimeout dom tag s) := by
  unfold execCtrlTimeout
  split
  · exact State.leadsR_next (State.leads_when h _ _ (fun x0 hx0 => State.leads_endReq hx0 _))
  · exact State.leadsR_next h

theorem State.leads_smbProto {fl ot : Bool} {r s : State} (h : r.Leads fl ot s) : r.Leads fl ot (State.smbProto s) := by
  unfold State.smbProto
  exact State.leads_raise h _ _

theorem State.leads_execSmbProto {fl ot : Bool} {r s : State} (h : r.Leads fl ot s) : r.LeadsR fl ot (execSmbProto s)
    := by
  unfold execSmbProto
  exact State.leadsR_next (State.leads_smbProto h)

theorem State.leads_smbWrite {fl ot : Bool} {r s : State} (h : r.Leads fl ot s) (pecOk : Bool) (act : State → State)
    (hact : ∀ t, r.Leads fl ot t → r.Leads fl ot (act t)) : r.LeadsR fl ot (State.smbWrite s pecOk act) := by
  unfold State.smbWrite
  exact State.leadsR_next (State.leads_ite (State.leads_raise h _ _) (hact _ h))

theorem State.leads_execSmbWrite {fl : Bool} {r s : State} (h : r.Leads fl false s) (pecOk : Bool) (words : List Nat) :
    r.LeadsR fl false (execSmbWrite pecOk words s) := by
  unfold execSmbWrite
  refine State.leads_smbWrite ?_ _ _ (fun x0 hx0 => ?_)
  · exact h
  · refine State.leads_ite ?_ ?_
    · exact State.leads_smbProto hx0
    · extract_lets -merge -underBinder +onlyGivenNames x1
      try clear_value x1
      split
      · extract_lets -merge -underBinder +onlyGivenNames x2
        have hx2 : r.Leads fl false x2 := State.leads_pfDrop hx0 _
        clear_value x2
        extract_lets -merge -underBinder +onlyGivenNames x3
        have hx3 : r.Leads fl false x3 := State.leads_foldl hx2 _ _ fun x4 y4 hx4 => State.leads_ite hx4
            (State.leads_writeWord hx4 _ _ _ _)
        clear_value x3
        extract_lets -merge -underBinder +onlyGivenNames x5
        have hx5 : r.Leads fl false x5 := State.leads_wr hx3 _ _ _
        clear_value x5
        exact State.leads_when hx5 _ _ (fun x6 hx6 => State.leads_remIssue hx6 _)

theorem State.leads_execSetAddr {fl ot : Bool} {r s : State} (h : r.Leads fl ot s) (pecOk : Bool) (addr : Nat) :
    r.LeadsR fl ot (execSetAddr pecOk addr s) := by
  unfold execSetAddr
  exact State.leads_smbWrite h _ _ (fun x0 hx0 => State.leads_wr (State.leads_smbDiscard hx0) _ _ _)

theorem State.leads_execAlertResponse {fl ot : Bool} {r s : State} (h : r.Leads fl ot s) : r.LeadsR fl ot
    (execAlertResponse s) := by
  unfold execAlertResponse
  exact State.leadsR_next (State.leads_send h _)

theorem State.leads_smbAhead {fl ot : Bool} {r s : State} (h : r.Leads fl ot s) (a : Nat) (n : Nat) : r.Leads fl ot
    (State.smbAhead s a n) := by
  unfold State.smbAhead
  extract_lets -merge -underBinder +onlyGivenNames x0
  try clear_value x0
  split
  · extract_lets -merge -underBinder +onlyGivenNames x1
    try clear_value x1
    extract_lets -merge -underBinder +onlyGivenNames x2
    try clear_value x2
    exact State.leads_ite h (State.leads_ite (State.leads_pfKeep h _) (State.leads_ite (State.leads_remSend h _ _ _ _)
        h))

theorem State.leads_execReadData {fl ot : Bool} {r s : State} (h : r.Leads fl ot s) (collected : Bool) : r.LeadsR fl ot
    (execReadData collected s) := by
  unfold execReadData
  extract_lets -merge -underBinder +onlyGivenNames x0
  try clear_value x0
  extract_lets -merge -underBinder +onlyGivenNames x1
  try clear_value x1
  extract_lets -merge -underBinder +onlyGivenNames x2
  try clear_value x2
  extract_lets -merge -underBinder +onlyGivenNames x3
  have hx3 : r.Leads fl ot x3 := State.leads_send h _
  clear_value x3
  refine State.leadsR_next ?_
  refine State.leads_when ?_ _ _ (fun x4 hx4 => ?_)
  · exact hx3
  · extract_lets -merge -underBinder +onlyGivenNames x5
    try clear_value x5
    extract_lets -merge -underBinder +onlyGivenNames x6
    have hx6 : r.Leads fl ot x6 := State.leads_smbState (State.leads_mk hx4 ..) _
    clear_value x6
    exact State.leads_when hx6 _ _ (fun x7 hx7 => State.leads_smbAhead (State.leads_wr hx7 _ _ _) _ _)

theorem State.leads_readWords {fl ot : Bool} {r s : State} (h : r.Leads fl ot s) (a k : Nat) :
    r.Leads fl ot (State.readWords s a k).1 := by
  induction k generalizing s a with
  | zero => exact h
  | succ k ih =>
    have h1 := State.leads_readWord h .remote a
    unfold State.readWords
    split
    rename_i s1 v heq
    split
    rename_i s2 vs heq2
    exact State.leads_of_fst heq2 (ih (State.leads_of_fst heq h1) _)

theorem State.leads_regWrite {fl : Bool} {r s : State} (h : r.Leads fl false s) (port : Nat) (c : Ctrl) : r.Leads fl
    false (State.regWrite s port c) := by
  unfold State.regWrite
  split
  · exact State.leads_refuse h _ _ _ _
  · extract_lets -merge -underBinder +onlyGivenNames x0
    try clear_value x0
    exact State.leads_ite (State.leads_refuse h _ _ _ _) (State.leads_answer (State.leads_foldl h _ _ fun x1 y1 hx1 =>
        State.leads_writeWord hx1 _ _ _ _) _ _ _ _)

theorem State.leads_execRegWrite {fl : Bool} {r s : State} (h : r.Leads fl false s) : r.LeadsR fl false (execRegWrite
    s) := by
  unfold execRegWrite
  exact State.leads_onRequest h _ _ (fun x0 y0_0 y0_1 hx0 => State.leads_regWrite hx0 _ _)

theorem State.leads_regRead {fl ot : Bool} {r s : State} (h : r.Leads fl ot s) (port : Nat) (c : Ctrl) : r.Leads fl ot
    (State.regRead s port c) := by
  unfold State.regRead
  split
  · exact State.leads_refuse h _ _ _ _
  · extract_lets -merge -underBinder +onlyGivenNames x0
    try clear_value x0
    extract_lets -merge -underBinder +onlyGivenNames x1
    try clear_value x1
    extract_lets -merge -underBinder +onlyGivenNames x2
    try clear_value x2
    extract_lets -merge -underBinder +onlyGivenNames x3
    try clear_value x3
    extract_lets -merge -underBinder +onlyGivenNames x4
    have hx4 : r.Leads fl ot x4.1 := State.leads_readWords h _ _
    clear_value x4
    exact State.leads_answer hx4 _ _ _ _

theorem State.leads_execRegRead {fl ot : Bool} {r s : State} (h : r.Leads fl ot s) : r.LeadsR fl ot (execRegRead s) :=
    by
  unfold execRegRead
  exact State.leads_onRequest h _ _ (fun x0 y0_0 y0_1 hx0 => State.leads_regRead hx0 _ _)

theorem State.leads_execRemoteAccess {fl : Bool} {r s : State} (h : r.Leads fl false s) (who : Initiator) (off : Nat)
    (write : Bool) (be : Nat) (value : Nat) : r.LeadsR fl false (execRemoteAccess who off write be value s) := by
  unfold execRemoteAccess
  extract_lets -merge -underBinder +onlyGivenNames x0
  try clear_value x0
  extract_lets -merge -underBinder +onlyGivenNames x1
  try clear_value x1
  exact State.leadsR_next (State.leads_when h _ _ (fun x2 hx2 => State.leads_ite (State.leads_hostWake
      (State.leads_when (State.leads_gatedAccess hx2 _ _) _ _ (fun x3 hx3 => State.leads_send hx3 _)) _ _)
      (State.leads_hostWake (State.leads_when hx2 _ _ (fun x4 hx4 => State.leads_remIssue hx4 _)) _ _)))

theorem State.leads_execCtrlResponseRx {fl : Bool} {r s : State} (h : r.Leads fl false s) :
    r.LeadsR fl false (execCtrlResponseRx s) := by
  unfold execCtrlResponseRx
  split
  · rename_i heq
    exact State.leadsR_next (State.leads_respond (State.leads_takeLocal h _ heq) _)
  · exact State.leadsR_next h

theorem State.leads_execSmbDiscard {fl ot : Bool} {r s : State} (h : r.Leads fl ot s) : r.LeadsR fl ot (execSmbDiscard
    s) := by
  unfold execSmbDiscard
  extract_lets -merge -underBinder +onlyGivenNames x0
  try clear_value x0
  split
  · exact State.leadsR_next (State.leads_when h _ _ (fun x1 hx1 => State.leads_smbDiscard hx1))
  · exact State.leadsR_next h

theorem State.leads_execPrefetchExpiry {fl ot : Bool} {r s : State} (h : r.Leads fl ot s) : r.LeadsR fl ot
    (execPrefetchExpiry s) := by
  unfold execPrefetchExpiry
  exact State.leadsR_next (State.leads_pfDrop h _)

theorem State.leads_execReadStart {fl : Bool} {r s : State} (h : r.Leads fl false s) (pecOk : Bool) (n : Nat) :
    r.LeadsR fl false (execReadStart pecOk n s) := by
  unfold execReadStart
  refine State.leads_smbWrite ?_ _ _ (fun x0 hx0 => ?_)
  · exact h
  · refine State.leads_ite ?_ ?_
    · exact State.leads_smbProto hx0
    · extract_lets -merge -underBinder +onlyGivenNames x1
      try clear_value x1
      split
      · extract_lets -merge -underBinder +onlyGivenNames x2
        try clear_value x2
        extract_lets -merge -underBinder +onlyGivenNames x3
        have hx3 : r.Leads fl false x3 := State.leads_wr (State.leads_smbDiscard hx0) _ _ _
        clear_value x3
        split
        · extract_lets -merge -underBinder +onlyGivenNames x4
          have hx4 : r.Leads fl false x4 := State.leads_pfDrop hx3 _
          clear_value x4
          exact State.leads_count (State.leads_smbState (State.leads_mk hx4 ..) _) _ _
        · extract_lets -merge -underBinder +onlyGivenNames x5
          have hx5 : r.Leads fl false x5 := State.leads_pfDrop hx3 _
          clear_value x5
          split
          · rename_i y6_0 y6_1 heq6
            have hy6 := State.leads_of_fst (fl := fl) (ot := false) (r := r) heq6 (State.leads_smbRead hx5 _)
            extract_lets -merge -underBinder +onlyGivenNames x7
            have hx7 : r.Leads fl false x7 := State.leads_smbState (State.leads_mk hy6 ..) _
            clear_value x7
            exact State.leads_when hx7 _ _ (fun x8 hx8 => State.leads_remIssue hx8 _)

theorem State.leads_execSmbReadDone {fl ot : Bool} {r s : State} (h : r.Leads fl ot s) : r.LeadsR fl ot
    (execSmbReadDone s) := by
  unfold execSmbReadDone
  split
  · exact State.leadsR_next (State.leads_when h _ _ (fun x0 hx0 => State.leads_smbState (State.leads_mk hx0 ..) _))
  · exact State.leadsR_next h

theorem State.leads_execSelect {fl ot : Bool} {r s : State} (h : r.Leads fl ot s) (pecOk : Bool) (hub : Nat) : r.LeadsR
    fl ot (execSelect pecOk hub s) := by
  unfold execSelect
  exact State.leads_smbWrite h _ _ (fun x0 hx0 => State.leads_access hx0 _ _ _ _ (fun x1 hx1 => State.leads_pfDrop
      (State.leads_wr hx1 _ _ _) _))

theorem State.leads_execSmbStatus {fl ot : Bool} {r s : State} (h : r.Leads fl ot s) : r.LeadsR fl ot (execSmbStatus s)
    := by
  unfold execSmbStatus
  extract_lets -merge -underBinder +onlyGivenNames x0
  try clear_value x0
  exact State.leadsR_next (State.leads_send h _)

end Sys2Proof.Machine
end

