-- ==== Sys2Proof/Laws/Lead/Access.lean ====
section
/-! SUPPORT. What the operations of Machine/Access.lean keep (State.Leads of Laws/Leads.lean). -/

namespace Sys2Proof.Machine

open Reg

theorem State.leads_execUsb4ConfigAccess {fl : Bool} {r s : State} (h : r.Leads fl false s) (dom : Nat) (a :
    Usb4Access) : r.LeadsR fl false (execUsb4ConfigAccess dom a s) := by
  unfold execUsb4ConfigAccess
  extract_lets -merge -underBinder +onlyGivenNames x0
  try clear_value x0
  split
  · exact State.leadsR_next (State.leads_when h _ _ (fun x1 hx1 => State.leads_send hx1 _))
  · extract_lets -merge -underBinder +onlyGivenNames x2
    have hx2 : r.Leads fl false x2.1 := State.leads_readWord h _ _
    clear_value x2
    exact State.leadsR_next (State.leads_send hx2 _)
  · exact State.leadsR_next (State.leads_writeWord h _ _ _ _)
  · exact State.leadsR_next (State.leads_wr h _ _ _)

theorem State.leads_execPopRead {fl ot : Bool} {r s : State} (h : r.Leads fl ot s) (who : Initiator) (addr : Nat) :
    r.LeadsR fl ot (execPopRead who addr s) := by
  unfold execPopRead
  extract_lets -merge -underBinder +onlyGivenNames x0
  have hx0 : r.Leads fl ot x0.1 := State.leads_readWord h _ _
  clear_value x0
  exact State.leadsR_next (State.leads_hostWake (State.leads_send hx0 _) _ _)

theorem State.leads_deriveWord {fl : Bool} {r s : State} (h : r.Leads fl false s) (p : Page) (x : Nat × Nat) : r.Leads
    fl false (State.deriveWord s p x) := by
  unfold State.deriveWord
  extract_lets -merge -underBinder +onlyGivenNames x0
  try clear_value x0
  exact State.leads_putAll h _ _ _ _ _

theorem State.leads_execDerivationDone {fl : Bool} {r s : State} (h : r.Leads fl false s) (p : Page) (vals : List (Nat
    × Nat)) : r.LeadsR fl false (execDerivationDone p vals s) := by
  unfold execDerivationDone
  refine State.leads_onPage ?_ _ _ (fun x0 hx0 => ?_)
  · exact h
  · refine State.leads_when ?_ _ _ (fun x1 hx1 => ?_)
    · exact hx0
    · extract_lets -merge -underBinder +onlyGivenNames x2
      have hx2 : r.Leads fl false x2 := State.leads_ite (State.leads_when hx1 _ _ (fun x3 hx3 => State.leads_deriveAlm
          hx3 _)) (State.leads_foldl hx1 _ _ fun x4 y4 hx4 => State.leads_deriveWord hx4 _ _)
      clear_value x2
      exact State.leads_setInt (State.leads_wr hx2 _ _ _) _ _

theorem State.leads_execRegisterWrite {fl : Bool} {r s : State} (h : r.Leads fl false s) (who : Initiator) (t :
    WriteTarget) : r.LeadsR fl false (execRegisterWrite who t s) := by
  unfold execRegisterWrite
  split
  · exact State.leadsR_next (State.leads_hostWake (State.leads_writeWord h _ _ _ _) _ _)
  · exact State.leadsR_next (State.leads_releaseMsix (State.leads_wr h _ _ _) _)
  · exact State.leadsR_next (State.leads_releaseMsix (State.leads_wr h _ _ _) _)

end Sys2Proof.Machine
end

