-- ==== Sys2Proof/Laws/Lead/Safe.lean ====
section
/-! SUPPORT. What the operations of Machine/Safe.lean keep (State.Leads of Laws/Leads.lean). -/

namespace Sys2Proof.Machine

open Reg

theorem State.leads_execCloseWaitTimeout {fl ot : Bool} {r s : State} (h : r.Leads fl ot s) (n : Nat) : r.LeadsR fl ot
    (execCloseWaitTimeout n s) := by
  unfold execCloseWaitTimeout
  exact State.leadsR_next (State.leads_when h _ _ (fun x0 hx0 => State.leads_endClose hx0 _ _))

theorem State.leads_execRcTrip {fl ot : Bool} {r s : State} (h : r.Leads fl ot s) (n : Nat) (vbus : Nat) (ibus : Nat) :
    r.LeadsR fl ot (execRcTrip n vbus ibus s) := by
  unfold execRcTrip
  extract_lets -merge -underBinder +onlyGivenNames x0
  try clear_value x0
  refine State.leadsR_next ?_
  refine State.leads_when ?_ _ _ (fun x1 hx1 => ?_)
  · exact h
  · extract_lets -merge -underBinder +onlyGivenNames x2
    have hx2 : r.Leads fl ot x2 := State.leads_measure hx1 _ _ _
    clear_value x2
    extract_lets -merge -underBinder +onlyGivenNames x3
    try clear_value x3
    exact State.leads_when hx2 _ _ (fun x4 hx4 => State.leads_trip hx4 _ _ _)

theorem State.leads_execSafeSupplyReturn {fl ot : Bool} {r s : State} (h : r.Leads fl ot s) : r.LeadsR fl ot
    (execSafeSupplyReturn s) := by
  unfold execSafeSupplyReturn
  exact State.leadsR_next (State.leads_wr h _ _ _)

theorem State.leads_execLockstepMismatch {fl ot : Bool} {r s : State} (h : r.Leads fl ot s) : r.LeadsR fl ot
    (execLockstepMismatch s) := by
  unfold execLockstepMismatch
  exact State.leadsR_next (State.leads_when h _ _ (fun x0 hx0 => State.leads_safetyReset hx0 _))

theorem State.leads_portTrip {fl ot : Bool} {r s : State} (h : r.Leads fl ot s) (n : Nat) (vbus : Nat) (ibus : Nat)
    (src : Nat) (cond : State → Bool) : r.Leads fl ot (State.portTrip s n vbus ibus src cond) := by
  unfold State.portTrip
  refine State.leads_when ?_ _ _ (fun x0 hx0 => ?_)
  · exact h
  · extract_lets -merge -underBinder +onlyGivenNames x1
    have hx1 : r.Leads fl ot x1 := State.leads_measure hx0 _ _ _
    clear_value x1
    exact State.leads_when hx1 _ _ (fun x2 hx2 => State.leads_trip hx2 _ _ _)

theorem State.leads_execOcTrip {fl ot : Bool} {r s : State} (h : r.Leads fl ot s) (n : Nat) (vbus : Nat) (ibus : Nat) :
    r.LeadsR fl ot (execOcTrip n vbus ibus s) := by
  unfold execOcTrip
  extract_lets -merge -underBinder +onlyGivenNames x0
  try clear_value x0
  exact State.leadsR_next (State.leads_portTrip h _ _ _ _ _)

theorem State.leads_execPathClose {fl ot : Bool} {r s : State} (h : r.Leads fl ot s) (n : Nat) (vbus : Nat) : r.LeadsR
    fl ot (execPathClose n vbus s) := by
  unfold execPathClose
  refine State.leadsR_next ?_
  refine State.leads_when ?_ _ _ (fun x0 hx0 => ?_)
  · exact h
  · extract_lets -merge -underBinder +onlyGivenNames x1
    have hx1 : r.Leads fl ot x1 := State.leads_measure hx0 _ _ _
    clear_value x1
    split
    · exact State.leads_when hx1 _ _ (fun x2 hx2 => State.leads_pdClosed (State.leads_endClose (State.leads_closeNow
          hx2 _ _) _ _) _)
    · exact State.leads_when hx1 _ _ (fun x3 hx3 => State.leads_pdClosed (State.leads_closeNow hx3 _ _) _)

theorem State.leads_execSafeWatchdog {fl ot : Bool} {r s : State} (h : r.Leads fl ot s) : r.LeadsR fl ot
    (execSafeWatchdog s) := by
  unfold execSafeWatchdog
  exact State.leadsR_next (State.leads_when h _ _ (fun x0 hx0 => State.leads_safetyReset hx0 _))

theorem State.leads_execOpenPath {fl ot : Bool} {r s : State} (h : r.Leads fl ot s) (who : Initiator) (port : Nat) (tag
    : Nat) (sink : Bool) : r.LeadsR fl ot (execOpenPath who port tag sink s) := by
  unfold execOpenPath
  exact State.leadsR_next (State.leads_safeReq h _)

theorem State.leads_execDischargeComplete {fl ot : Bool} {r s : State} (h : r.Leads fl ot s) (n : Nat) (vbus : Nat) :
    r.LeadsR fl ot (execDischargeComplete n vbus s) := by
  unfold execDischargeComplete
  refine State.leadsR_next ?_
  refine State.leads_when ?_ _ _ (fun x0 hx0 => ?_)
  · exact h
  · extract_lets -merge -underBinder +onlyGivenNames x1
    have hx1 : r.Leads fl ot x1 := State.leads_measure hx0 _ _ _
    clear_value x1
    extract_lets -merge -underBinder +onlyGivenNames x2
    have hx2 : r.Leads fl ot x2 := State.leads_wr (State.leads_wr hx1 _ _ _) _ _ _
    clear_value x2
    exact State.leads_offGo (State.leads_pdDischarged hx2 _)

theorem State.leads_execSafeClockFault {fl ot : Bool} {r s : State} (h : r.Leads fl ot s) : r.LeadsR fl ot
    (execSafeClockFault s) := by
  unfold execSafeClockFault
  exact State.leadsR_next (State.leads_when h _ _ (fun x0 hx0 => State.leads_safetyReset hx0 _))

theorem State.leads_execVconnReq {fl ot : Bool} {r s : State} (h : r.Leads fl ot s) (who : Initiator) (port : Nat) (tag
    : Nat) (on : Bool) : r.LeadsR fl ot (execVconnReq who port tag on s) := by
  unfold execVconnReq
  exact State.leadsR_next (State.leads_safeReq h _)

theorem State.leads_execClosePath {fl ot : Bool} {r s : State} (h : r.Leads fl ot s) (who : Initiator) (port : Nat)
    (tag : Nat) (sink : Bool) : r.LeadsR fl ot (execClosePath who port tag sink s) := by
  unfold execClosePath
  exact State.leadsR_next (State.leads_safeReq h _)

theorem State.leads_setTj {fl ot : Bool} {r s : State} (h : r.Leads fl ot s) (tj : Nat) : r.Leads fl ot (State.setTj s
    tj) := by
  unfold State.setTj
  exact State.leads_wr h _ _ _

theorem State.leads_execThermRelease {fl ot : Bool} {r s : State} (h : r.Leads fl ot s) (tj : Nat) : r.LeadsR fl ot
    (execThermRelease tj s) := by
  unfold execThermRelease
  refine State.leadsR_next ?_
  refine State.leads_when ?_ _ _ (fun x0 hx0 => ?_)
  · exact h
  · extract_lets -merge -underBinder +onlyGivenNames x1
    have hx1 : r.Leads fl ot x1 := State.leads_setTj hx0 _
    clear_value x1
    exact State.leads_when hx1 _ _ (fun x2 hx2 => State.leads_thermGo (State.leads_wr hx2 _ _ _))

theorem State.leads_execClearTrip {fl ot : Bool} {r s : State} (h : r.Leads fl ot s) (who : Initiator) (port : Nat)
    (tag : Nat) : r.LeadsR fl ot (execClearTrip who port tag s) := by
  unfold execClearTrip
  exact State.leadsR_next (State.leads_safeReq h _)

theorem State.leads_execSafeSupplyLow {fl ot : Bool} {r s : State} (h : r.Leads fl ot s) : r.LeadsR fl ot
    (execSafeSupplyLow s) := by
  unfold execSafeSupplyLow
  exact State.leadsR_next (State.leads_when h _ _ (fun x0 hx0 => State.leads_wr (State.leads_safetyReset hx0 _) _ _ _))

theorem State.leads_execFrsArm {fl ot : Bool} {r s : State} (h : r.Leads fl ot s) (who : Initiator) (port : Nat) (tag :
    Nat) (armed : Bool) : r.LeadsR fl ot (execFrsArm who port tag armed s) := by
  unfold execFrsArm
  exact State.leadsR_next (State.leads_safeReq h _)

theorem State.leads_execThermTrip {fl ot : Bool} {r s : State} (h : r.Leads fl ot s) (tj : Nat) : r.LeadsR fl ot
    (execThermTrip tj s) := by
  unfold execThermTrip
  refine State.leadsR_next ?_
  refine State.leads_when ?_ _ _ (fun x0 hx0 => ?_)
  · exact h
  · extract_lets -merge -underBinder +onlyGivenNames x1
    have hx1 : r.Leads fl ot x1 := State.leads_setTj hx0 _
    clear_value x1
    refine State.leads_when ?_ _ _ (fun x2 hx2 => ?_)
    · exact hx1
    · extract_lets -merge -underBinder +onlyGivenNames x3
      have hx3 : r.Leads fl ot x3 := State.leads_raise (State.leads_wr hx2 _ _ _) _ _
      clear_value x3
      extract_lets -merge -underBinder +onlyGivenNames x4
      have hx4 : r.Leads fl ot x4 := (by
          unfold x4
          refine State.leads_foldl ?_ _ _ fun x5 y5 hx5 => ?_
          · exact hx3
          extract_lets -merge -underBinder +onlyGivenNames x6
          have hx6 : r.Leads fl ot x6 := State.leads_vconnOff hx5 _
          clear_value x6
          exact State.leads_when hx6 _ _ (fun x7 hx7 => State.leads_trip hx7 _ _ _))
      clear_value x4
      exact State.leads_thermEntry hx4

theorem State.leads_execSafeSramUe {fl ot : Bool} {r s : State} (h : r.Leads fl ot s) : r.LeadsR fl ot (execSafeSramUe
    s) := by
  unfold execSafeSramUe
  exact State.leadsR_next (State.leads_when h _ _ (fun x0 hx0 => State.leads_safetyReset hx0 _))

theorem State.leads_execPatch {fl ot : Bool} {r s : State} (h : r.Leads fl ot s) (who : Initiator) (tag : Nat) (w1 :
    Nat) (w2 : Nat) (w3 : Nat) : r.LeadsR fl ot (execPatch who tag w1 w2 w3 s) := by
  unfold execPatch
  exact State.leadsR_next (State.leads_safeReq h _)

theorem State.leads_execVconnOc {fl ot : Bool} {r s : State} (h : r.Leads fl ot s) (n : Nat) : r.LeadsR fl ot
    (execVconnOc n s) := by
  unfold execVconnOc
  refine State.leadsR_next ?_
  refine State.leads_when ?_ _ _ (fun x0 hx0 => ?_)
  · exact h
  · extract_lets -merge -underBinder +onlyGivenNames x1
    have hx1 : r.Leads fl ot x1 := State.leads_wake (State.leads_raise (State.leads_vconnOff hx0 _) _ _) _ _ _
    clear_value x1
    exact State.leads_when hx1 _ _ (fun x2 hx2 => State.leads_raise hx2 _ _)

theorem State.leads_execSetContract {fl ot : Bool} {r s : State} (h : r.Leads fl ot s) (who : Initiator) (port : Nat)
    (tag : Nat) (lo : Nat) (hi : Nat) (ic : Nat) (phase : Nat) : r.LeadsR fl ot (execSetContract who port tag lo hi ic
    phase s) := by
  unfold execSetContract
  exact State.leadsR_next (State.leads_safeReq h _)

theorem State.leads_execDischFail {fl ot : Bool} {r s : State} (h : r.Leads fl ot s) (n : Nat) (vbus : Nat) : r.LeadsR
    fl ot (execDischFail n vbus s) := by
  unfold execDischFail
  refine State.leadsR_next ?_
  refine State.leads_when ?_ _ _ (fun x0 hx0 => ?_)
  · exact h
  · extract_lets -merge -underBinder +onlyGivenNames x1
    have hx1 : r.Leads fl ot x1 := State.leads_measure (State.leads_wr hx0 _ _ _) _ _ _
    clear_value x1
    exact State.leads_offGo (State.leads_trip hx1 _ _ _)

theorem State.leads_execDischarge {fl ot : Bool} {r s : State} (h : r.Leads fl ot s) (who : Initiator) (port : Nat)
    (tag : Nat) : r.LeadsR fl ot (execDischarge who port tag s) := by
  unfold execDischarge
  exact State.leadsR_next (State.leads_safeReq h _)

theorem State.leads_execSafeReset {fl ot : Bool} {r s : State} (h : r.Leads fl ot s) (who : Initiator) (tag : Nat) :
    r.LeadsR fl ot (execSafeReset who tag s) := by
  unfold execSafeReset
  exact State.leadsR_next (State.leads_safeReq h _)

theorem State.leads_execThermWarn {fl ot : Bool} {r s : State} (h : r.Leads fl ot s) (tj : Nat) : r.LeadsR fl ot
    (execThermWarn tj s) := by
  unfold execThermWarn
  refine State.leadsR_next ?_
  refine State.leads_when ?_ _ _ (fun x0 hx0 => ?_)
  · exact h
  · extract_lets -merge -underBinder +onlyGivenNames x1
    have hx1 : r.Leads fl ot x1 := State.leads_setTj hx0 _
    clear_value x1
    exact State.leads_when hx1 _ _ (fun x2 hx2 => State.leads_raise hx2 _ _)

theorem State.leads_execSafetyResetComplete {fl ot : Bool} {r s : State} (h : r.Leads fl ot s) : r.LeadsR fl ot
    (execSafetyResetComplete s) := by
  unfold execSafetyResetComplete
  exact State.leadsR_next (State.leads_when h _ _ (fun x0 hx0 => State.leads_safetyDone hx0))

theorem State.leads_execSetLimit {fl ot : Bool} {r s : State} (h : r.Leads fl ot s) (who : Initiator) (port : Nat) (tag
    : Nat) (limit : Nat) (pct : Nat) : r.LeadsR fl ot (execSetLimit who port tag limit pct s) := by
  unfold execSetLimit
  exact State.leadsR_next (State.leads_safeReq h _)

theorem State.leads_execOvTrip {fl ot : Bool} {r s : State} (h : r.Leads fl ot s) (n : Nat) (vbus : Nat) (ibus : Nat) :
    r.LeadsR fl ot (execOvTrip n vbus ibus s) := by
  unfold execOvTrip
  exact State.leadsR_next (State.leads_portTrip h _ _ _ _ _)

theorem State.leads_execTransTimeout {fl ot : Bool} {r s : State} (h : r.Leads fl ot s) (n : Nat) (vbus : Nat) (ibus :
    Nat) : r.LeadsR fl ot (execTransTimeout n vbus ibus s) := by
  unfold execTransTimeout
  exact State.leadsR_next (State.leads_portTrip h _ _ _ _ _)

end Sys2Proof.Machine
end

