-- ==== Sys2Proof/Laws/Lead/StartUp.lean ====
section
/-! SUPPORT. What the operations of Machine/StartUp.lean keep (State.Leads of Laws/Leads.lean). -/

namespace Sys2Proof.Machine

open Reg

theorem State.leads_serveWaiting {fl ot : Bool} {r s : State} (h : r.Leads fl ot s) : r.Leads fl ot (State.serveWaiting
    s) := by
  unfold State.serveWaiting
  extract_lets -merge -underBinder +onlyGivenNames x0
  have hx0 : r.Leads fl ot x0 := State.leads_foldl h _ _ fun x1 y1 hx1 => State.leads_when hx1 _ _ (fun x2 hx2 =>
      State.leads_startTrain (State.leads_wr hx2 _ _ _) _)
  clear_value x0
  extract_lets -merge -underBinder +onlyGivenNames x3
  have hx3 : r.Leads fl ot x3 := State.leads_foldl hx0 _ _ fun x4 y4 hx4 => State.leads_when hx4 _ _ (fun x5 hx5 =>
      State.leads_pdRestart hx5 _)
  clear_value x3
  exact State.leads_audArm (State.leads_usbServe (State.leads_hopServe hx3))

theorem State.leads_overrides {fl : Bool} {r s : State} (h : r.Leads fl false s) : r.Leads fl false (State.overrides s)
    := by
  unfold State.overrides
  exact State.leads_foldl h _ _ fun x0 y0 hx0 => State.leads_writeWord hx0 _ _ _ _

theorem State.leads_fromImage {fl ot : Bool} {r s : State} (h : r.Leads fl ot s) (p : Page) (f : Field) (v : Nat) :
    r.Leads fl ot (State.fromImage s p f v) := by
  unfold State.fromImage
  exact State.leads_ite h (State.leads_wr h _ _ _)

theorem State.leads_boardCfg {fl ot : Bool} {r s : State} (h : r.Leads fl ot s) : r.Leads fl ot (State.boardCfg s) := by
  unfold State.boardCfg
  split
  · extract_lets -merge -underBinder +onlyGivenNames x0
    have hx0 : r.Leads fl ot x0 := State.leads_wr (State.leads_fromImage h _ _ _) _ _ _
    clear_value x0
    extract_lets -merge -underBinder +onlyGivenNames x1
    have hx1 : r.Leads fl ot x1 := State.leads_foldl hx0 _ _ fun x2 y2 hx2 => State.leads_wr hx2 _ _ _
    clear_value x1
    exact State.leads_foldl hx1 _ _ fun x3 y3 hx3 => State.leads_fromImage hx3 _ _ _
  · extract_lets -merge -underBinder +onlyGivenNames x4
    have hx4 : r.Leads fl ot x4 := State.leads_wr (State.leads_fromImage h _ _ _) _ _ _
    clear_value x4
    extract_lets -merge -underBinder +onlyGivenNames x5
    have hx5 : r.Leads fl ot x5 := State.leads_fromImage hx4 _ _ _
    clear_value x5
    extract_lets -merge -underBinder +onlyGivenNames x6
    have hx6 : r.Leads fl ot x6 := State.leads_foldl hx5 _ _ fun x7 y7 hx7 => State.leads_fromImage hx7 _ _ _
    clear_value x6
    exact State.leads_foldl hx6 _ _ fun x8 y8 hx8 => State.leads_wr hx8 _ _ _

theorem State.leads_portCfg {fl ot : Bool} {r s : State} (h : r.Leads fl ot s) : r.Leads fl ot (State.portCfg s) := by
  unfold State.portCfg
  extract_lets -merge -underBinder +onlyGivenNames x0
  try clear_value x0
  extract_lets -merge -underBinder +onlyGivenNames x1
  have hx1 : r.Leads fl ot x1 := State.leads_when h _ _ (fun x2 hx2 => State.leads_fromImage hx2 _ _ _)
  clear_value x1
  extract_lets -merge -underBinder +onlyGivenNames x3
  have hx3 : r.Leads fl ot x3 := (by
      unfold x3
      refine State.leads_foldl ?_ _ _ fun x4 y4 hx4 => ?_
      · exact hx1
      extract_lets -merge -underBinder +onlyGivenNames x5
      have hx5 : r.Leads fl ot x5 := State.leads_when hx4 _ _ (fun x6 hx6 => State.leads_fromImage hx6 _ _ _)
      clear_value x5
      exact State.leads_fromImage hx5 _ _ _)
  clear_value x3
  exact State.leads_fromImage hx3 _ _ _

theorem State.leads_portPolicy {fl ot : Bool} {r s : State} (h : r.Leads fl ot s) (n : Nat) : r.Leads fl ot
    (State.portPolicy s n) := by
  unfold State.portPolicy
  extract_lets -merge -underBinder +onlyGivenNames x0
  try clear_value x0
  extract_lets -merge -underBinder +onlyGivenNames x1
  have hx1 : r.Leads fl ot x1 := State.leads_wr (State.leads_wr h _ _ _) _ _ _
  clear_value x1
  refine State.leads_when ?_ _ _ (fun x2 hx2 => ?_)
  · exact hx1
  · extract_lets -merge -underBinder +onlyGivenNames x3
    have hx3 : r.Leads fl ot x3 := State.leads_fromImage (State.leads_fromImage hx2 _ _ _) _ _ _
    clear_value x3
    extract_lets -merge -underBinder +onlyGivenNames x4
    have hx4 : r.Leads fl ot x4 := State.leads_fromImage (State.leads_fromImage hx3 _ _ _) _ _ _
    clear_value x4
    extract_lets -merge -underBinder +onlyGivenNames x5
    have hx5 : r.Leads fl ot x5 := State.leads_fromImage (State.leads_wr hx4 _ _ _) _ _ _
    clear_value x5
    exact State.leads_fromImage (State.leads_fromImage hx5 _ _ _) _ _ _

theorem State.leads_cfgReport {fl ot : Bool} {r s : State} (h : r.Leads fl ot s) : r.Leads fl ot (State.cfgReport s) :=
    by
  unfold State.cfgReport
  exact State.leads_foldl (State.leads_wr h _ _ _) _ _ fun x0 y0 hx0 => State.leads_raise (State.leads_wrBit hx0 _ _ _
      _) _ _

theorem State.leads_handSafe {fl ot : Bool} {r s : State} (h : r.Leads fl ot s) : r.Leads fl ot (State.handSafe s) := by
  unfold State.handSafe
  extract_lets b img busy x
  have hx : r.Leads fl ot x := State.leads_ite h (State.leads_loadImage (State.leads_aonRam h _ (Mem.wf_writeList _ _)))
  clear_value x
  split
  · exact hx
  · split
    · exact hx
    · extract_lets v y
      exact State.leads_wr (State.leads_wr (State.leads_wr (State.leads_wr hx _ _ _) _ _ _) _ _ _) _ _ _

theorem State.leads_parseCfg {fl ot : Bool} {r s : State} (h : r.Leads fl ot s) : r.Leads fl ot (State.parseCfg s) := by
  unfold State.parseCfg
  extract_lets -merge -underBinder +onlyGivenNames x0
  have hx0 : r.Leads fl ot x0 := State.leads_cfgReport (State.leads_mk h ..)
  clear_value x0
  exact State.leads_handSafe (State.leads_portCfg (State.leads_boardCfg (State.leads_foldl hx0 _ _ fun x1 y1 hx1 =>
      State.leads_portPolicy hx1 _)))

theorem State.leads_failedTrial {ot : Bool} {r s : State} (h : r.Leads false ot s) : r.Leads false ot
    (State.failedTrial s) := by
  unfold State.failedTrial
  extract_lets -merge -underBinder +onlyGivenNames x0
  try clear_value x0
  exact State.leads_when h _ _ (fun x1 hx1 => State.leads_raise (State.leads_trialClear (State.leads_eraseHeader hx1
      _)) _ _)

theorem State.leads_startIslands {fl ot : Bool} {r s : State} (h : r.Leads fl ot s) : r.Leads fl ot (State.startIslands
    s) := by
  unfold State.startIslands
  refine State.leads_foldl ?_ _ _ fun x0 y0 hx0 => ?_
  · exact h
  extract_lets -merge -underBinder +onlyGivenNames x1
  try clear_value x1
  exact State.leads_ite (State.leads_runIsland hx0 _) (State.leads_stopIsland hx0 _)

theorem State.leads_enableBlocks {fl ot : Bool} {r s : State} (h : r.Leads fl ot s) : r.Leads fl ot (State.enableBlocks
    s) := by
  unfold State.enableBlocks
  refine State.leads_foldl ?_ _ _ fun x0 y0 hx0 => ?_
  · exact h
  refine State.leads_foldl ?_ _ _ fun x1 y1 hx1 => ?_
  · exact hx0
  extract_lets -merge -underBinder +onlyGivenNames x2
  try clear_value x2
  exact State.leads_ite hx1 (State.leads_ite (State.leads_wr hx1 _ _ _) (State.leads_enableOn (State.leads_wr hx1 _ _
      _) _))

theorem State.leads_startEngines {fl ot : Bool} {r s : State} (h : r.Leads fl ot s) : r.Leads fl ot (State.startEngines
    s) := by
  unfold State.startEngines
  exact State.leads_foldl h _ _ fun x0 y0 hx0 => State.leads_wrBit hx0 _ _ _ _

theorem State.leads_toService {fl ot : Bool} {r s : State} (h : r.Leads fl ot s) : r.Leads fl ot (State.toService s) :=
    by
  unfold State.toService
  extract_lets -merge -underBinder +onlyGivenNames x0
  try clear_value x0
  extract_lets -merge -underBinder +onlyGivenNames x1
  have hx1 : r.Leads fl ot x1 := State.leads_startEngines (State.leads_startIslands h)
  clear_value x1
  extract_lets -merge -underBinder +onlyGivenNames x2
  have hx2 : r.Leads fl ot x2 := State.leads_enableBlocks hx1
  clear_value x2
  exact State.leads_when hx2 _ _ (fun x3 hx3 => State.leads_portReset hx3)

theorem State.leads_restoreSticky {fl ot : Bool} {r s : State} (h : r.Leads fl ot s) : r.Leads fl ot
    (State.restoreSticky s) := by
  unfold State.restoreSticky
  split
  · extract_lets keep
    refine State.leads_wr ?_ _ _ _
    refine h.trans ⟨rfl, Nat.le_refl _, Nat.le_refl _, List.prefix_refl _, fun _ _ x => x,
      fun i => ⟨?_, i.act, i.dram, i.flash, i.otp, i.aonRam⟩, fun _ => rfl, fun _ => rfl⟩
    refine List.foldlRecOn (motive := fun m => Tab.sorted m = true) s.stickyImg _ i.regs fun t ht e _ => ?_
    split
    · exact ht
    · exact Tab.sorted_put _ _ ht
  · exact State.leads_wr h _ _ _

theorem State.leads_startUp {r s : State} (h : r.Leads false false s) : r.Leads false false (State.startUp s) := by
  unfold State.startUp
  extract_lets -merge -underBinder +onlyGivenNames x0
  have hx0 : r.Leads false false x0 := State.leads_restoreSticky (State.leads_parseCfg (State.leads_wr (State.leads_wr
      (State.leads_wr h _ _ _) _ _ _) _ _ _))
  clear_value x0
  extract_lets -merge -underBinder +onlyGivenNames x1
  have hx1 : r.Leads false false x1 := State.leads_failedTrial (State.leads_overrides (State.leads_toService hx0))
  clear_value x1
  extract_lets -merge -underBinder +onlyGivenNames x2
  have hx2 : r.Leads false false x2 := State.leads_wr (State.leads_wr hx1 _ _ _) _ _ _
  clear_value x2
  exact State.leads_serveWaiting (State.leads_setInt hx2 _ _)

theorem State.leads_execFwReady {r s : State} (h : r.Leads false false s) : r.LeadsR false false (execFwReady s) := by
  unfold execFwReady
  exact State.leadsR_next (State.leads_when h _ _ (fun x0 hx0 => State.leads_startUp hx0))

end Sys2Proof.Machine
end

