-- ==== Sys2Proof/Laws/Lead/Turn.lean ====
section
/-! SUPPORT. What the operations of Machine/Turn.lean keep (State.Leads of Laws/Leads.lean). -/

namespace Sys2Proof.Machine

open Reg

theorem State.leads_execTurnover {fl ot : Bool} {r s : State} (h : r.Leads fl ot s) : r.LeadsR fl ot (execTurnover s)
    := by
  unfold execTurnover
  exact State.leadsR_next (State.leads_toTurnover h)

end Sys2Proof.Machine
end

