-- ==== Sys2Proof/Tests/Slice0.lean ====
section
/-! SUPPORT. The package's own tests: for each statement a state and operands that meet the hypotheses of each of its
clauses, commands that are not well-formed, and single commands on small states. -/

namespace Sys2Proof.Tests

open Sys2Proof Sys2Proof.Machine Sys2Proof.Reg

set_option Elab.async false

/-- The state after reset with some register fields set. -/
def st (l : List (Page × Field × Nat)) : State := l.foldl (fun s x => s.wr x.1 x.2.1 x.2.2) State.reset

/-- `st` with every island clocked and out of reset. -/
def on (l : List (Page × Field × Nat)) : State :=
  st ((glb, GLB_ISL_PWR_PWR, 0x1FFFF) :: (glb, GLB_ISL_CLK_CLK_OK, 0x1FFFF) :: (glb, GLB_ISL_RST_IN_RESET, 0) :: l)

/-- The hypotheses of each clause of StepRunsTheCommandInFront are met together. -/
theorem wit_StepRunsTheCommandInFront :
    (∃ (s : State) (c : Instr) (rest : List Instr), s.pending = c :: rest) :=
  ⟨{ State.reset with pending := [.pinReset] }, .pinReset, [], by decide +kernel⟩

/-- The hypotheses of each clause of IdleStepAdvancesHubTime are met together. -/
theorem wit_IdleStepAdvancesHubTime :
    (∃ (s : State), s.pending = [] ∧ s.rd mbx FW_RESET = 0) :=
  ⟨State.reset, by decide +kernel⟩

/-- The hypotheses of each clause of HeaderBitsTakeWhatIsWritten are met together. -/
theorem wit_HeaderBitsTakeWhatIsWritten :
    (∃ (s : State) (who : Initiator) (p : Page), p.hasHeader = true ∧ s.accepts who p p.enableField) ∧
    (∃ (s : State) (who : Initiator) (p : Page), p.hasHeader = true ∧ p.kind ≠ PageKind.sw ∧ p.kind ≠ PageKind.uhub ∧ s.accepts who p p.enableField) ∧
    (∃ (s : State) (who : Initiator) (p : Page) (m : Fin 4294967296), p.hasHeader = true ∧ s.accepts who p (PG_INT_ENABLE_EN.nth 0) ∧ (∀ (i : Nat), i < 32 → m.val.testBit i = true → s.is p (PG_INT i) = false)) ∧
    (∃ (s : State) (who : Initiator) (p : Page) (_ : Fin 4294967296), p.hasHeader = true ∧ s.accepts who p (PG_INT 0)) ∧
    (∃ (s : State) (who : Initiator) (p : Page) (i : Nat), p.hasHeader = true ∧ s.accepts who p (PG_INT_FORCE_FORCE.nth 0) ∧ i < 32 ∧ (i < 5 ∨ 7 < i) ∧ s.is p (PG_INT_ENABLE_EN.nth i) = false ∧ 2 ^ i < 4294967296) ∧
    (∃ (s : State) (who : Initiator) (p : Page) (n : Nat), p.hasHeader = true ∧ p ≠ glb ∧ s.accepts who p (PG_ERR_STATUS_SRC.nth 0) ∧ n < p.kind.info.nsrc ∧ 2 ^ n < 65536) ∧
    (∃ (s : State) (who : Initiator) (p : Page), p.hasHeader = true ∧ s.accepts who p PG_LOCK_EXT_LOCK) ∧
    (∃ (s : State) (who : Initiator) (p : Page), p.hasHeader = true ∧ s.accepts who p PG_LOCK_ALL_LOCK) :=
  ⟨⟨on [], .marionette, sw, by decide +kernel⟩,
   ⟨on [], .marionette, pathctl, by decide +kernel⟩,
   ⟨on [], .marionette, sw, 0, by decide +kernel⟩,
   ⟨on [], .marionette, sw, 0, by decide +kernel⟩,
   ⟨on [], .marionette, sw, 0, by decide +kernel⟩,
   ⟨on [], .marionette, sw, 0, by decide +kernel⟩,
   ⟨on [], .marionette, sw, by decide +kernel⟩,
   ⟨on [], .marionette, sw, by decide +kernel⟩⟩

/-- The hypotheses of each clause of PageCommandsSetTheirPage are met together. -/
theorem wit_PageCommandsSetTheirPage :
    (∃ (s : State) (who : Initiator) (p : Page), p.hasHeader = true ∧ p ≠ safe ∧ p ≠ bist ∧ enginesOf p = [] ∧ s.is p PG_STATUS_IN_RESET = false ∧ s.accepts who p PG_CTRL_SRST) ∧
    (∃ (s : State) (p : Page), p.hasHeader = true ∧ p ≠ safe ∧ ¬p.kind ∈ [PageKind.sw, PageKind.pca, PageKind.disp, PageKind.dout, PageKind.uhub, PageKind.pd] ∧ s.is p PG_STATUS_IN_RESET = true) ∧
    (∃ (s : State) (p : Page), p.hasHeader = true ∧ s.is p PG_STATUS_IN_RESET = false) ∧
    (∃ (s : State) (who : Initiator) (p : Page), p.hasHeader = true ∧ p.kind.info.basic = 1 ∧ p.kind.info.expert = 1 ∧ s.is p PG_CTRL_EXPERT = true ∧ s.accepts who p PG_CTRL_EXPERT) ∧
    (∃ (s : State) (who : Initiator) (p : Page), p.hasHeader = true ∧ p.kind.info.basic = 1 ∧ p.kind.info.expert = 1 ∧ s.is p PG_CTRL_EXPERT = false ∧ s.is p (PG_INT_ENABLE_EN.nth intLevelDone) = false ∧ s.accepts who p PG_CTRL_EXPERT) ∧
    (∃ (s : State) (p : Page) (_ : List (Nat × Nat)), p.hasHeader = true ∧ p.kind ≠ PageKind.almSh ∧ s.moabeuc = true ∧ s.is p PG_STATUS_DERIVING = true ∧ s.is p PG_CTRL_EXPERT = false ∧ s.gated p = false) ∧
    (∃ (s : State) (p : Page) (n : Nat), p.hasHeader = true ∧ p.kind.info.notifyCap = true ∧ n < p.kind.info.nsrc ∧ s.is p PG_ERR_GRACE_REMAIN = true ∧ s.rd p PG_GRACE_TIME + s.rd p PG_ERR_GRACE_REMAIN * 1000 ≤ s.clock ∧ s.is p (PG_ERR_STATUS_SRC.nth n) = true ∧ s.rd p (PG_EFF_SEV.nth n) = 1) ∧
    (∃ (s : State) (who : Initiator) (p : Page), p.hasHeader = true ∧ s.accepts who p PG_SHADOW_CTRL_CANCEL) ∧
    (∃ (s : State) (who : Initiator) (n : Nat), n < 6 ∧ s.accepts who (link n) LK_PAIR_SCTRL_CANCEL) :=
  ⟨⟨on [], .marionette, sw, by decide +kernel⟩,
   ⟨st [(pathctl, PG_STATUS_IN_RESET, 1)], pathctl, by decide +kernel⟩,
   ⟨State.reset, sw, by decide +kernel⟩,
   ⟨on [(sw, PG_CTRL_EXPERT, 1)], .marionette, sw, by decide +kernel⟩,
   ⟨on [], .marionette, sw, by decide +kernel⟩,
   ⟨on [(mbx, MB_FW_FW_READY, 1), (sw, PG_STATUS_DERIVING, 1)], sw, [], by decide +kernel⟩,
   ⟨{ st [(glb, PG_ERR_GRACE_REMAIN, 1), (glb, PG_ERR_STATUS_SRC.nth 0, 1), (glb, PG_EFF_SEV.nth 0, 1)] with clock := 1000000000000 }, glb, 0, by decide +kernel⟩,
   ⟨on [], .marionette, sw, by decide +kernel⟩,
   ⟨on [], .marionette, 0, by decide +kernel⟩⟩

/-- The hypotheses of each clause of ArmingAPageFollowsItsBoundary are met together. -/
theorem wit_ArmingAPageFollowsItsBoundary :
    (∃ (s : State) (who : Initiator) (p : Page) (g : Fin 65536), p.hasHeader = true ∧ p.kind.info.bound = 1 ∧ s.is p PG_SHADOW_CTRL_ARMED = false ∧ s.accepts who p PG_SHADOW_CTRL_ARM ∧ s.refusal p who PG_SHADOW_CTRL_TARGET = 0 ∧ (s.leadOf g.val < 2 ∨ 32767 < s.leadOf g.val)) ∧
    (∃ (s : State) (who : Initiator) (p : Page) (g : Fin 65536), (p = sw ∨ p = shpctl ∨ p = pathctl ∧ s.is pathctl PG_CTRL_EXPERT = true) ∧ s.is p PG_SHADOW_CTRL_ARMED = false ∧ s.accepts who p PG_SHADOW_CTRL_ARM ∧ s.refusal p who PG_SHADOW_CTRL_TARGET = 0 ∧ 2 ≤ s.leadOf g.val ∧ s.leadOf g.val ≤ 32767) ∧
    (∃ (s : State) (who : Initiator) (p : Page) (_ : Fin 65536), p.hasHeader = true ∧ (p.kind = PageKind.dout ∨ p.kind = PageKind.uhub) ∧ s.is p PG_SHADOW_CTRL_ARMED = false ∧ s.accepts who p PG_SHADOW_CTRL_ARM ∧ s.refusal p who PG_SHADOW_CTRL_TARGET = 0) ∧
    (∃ (s : State) (who : Initiator) (n : Nat) (_ : Fin 65536), n < 6 ∧ s.is (pd n) PG_SHADOW_CTRL_ARMED = false ∧ s.is (pd n) PD_STATUS_CONTRACT = true ∧ s.accepts who (pd n) PG_SHADOW_CTRL_ARM ∧ s.refusal (pd n) who PG_SHADOW_CTRL_TARGET = 0) ∧
    (∃ (s : State) (who : Initiator) (p : Page) (_ : Fin 65536), p.hasHeader = true ∧ s.awake ∧ s.gated p = false ∧ s.is p PG_SHADOW_CTRL_ARMED = true ∧ s.refusal p who PG_SHADOW_CTRL_ARM = 1 ∧ s.refusal p who PG_SHADOW_CTRL_TARGET = 1 ∧ s.is p (PG_INT_ENABLE_EN.nth intWrDrop) = false) :=
  ⟨⟨on [], .marionette, sw, 0, by decide +kernel⟩,
   ⟨on [], .marionette, sw, 2, by decide +kernel⟩,
   ⟨on [], .marionette, dout 0, 0, by decide +kernel⟩,
   ⟨on [(pd 0, PD_STATUS_CONTRACT, 1)], .marionette, 0, 0, by decide +kernel⟩,
   ⟨on [(sw, PG_SHADOW_CTRL_ARMED, 1)], .marionette, sw, 0, by decide +kernel⟩⟩

/-- The hypotheses of each clause of AccessesToUnassignedAddresses are met together. -/
theorem wit_AccessesToUnassignedAddresses :
    (∃ (_ : State) (_ : Initiator) (a : Fin 16777216), pageAt (a.val / 4 * 4) = none) ∧
    (∃ (_ : State) (_ : Initiator) (a : Fin 16777216) (_ : Fin 16) (_ : Fin 4294967296), pageAt (a.val / 4 * 4) = none) ∧
    (∃ (_ : State) (_ : Fin 2) (a : Fin 16777216) (_ : Fin 16) (_ : Fin 4294967296), pageAt (a.val / 4 * 4) = none) ∧
    (∃ (_ : State) (_ : Fin 2) (a : Fin 16777216) (_ : Fin 16) (_ : Fin 4294967296), pageAt (a.val / 4 * 4) = none) ∧
    (∃ (s : State) (who : Initiator) (a : Fin 16777216) (_ : Fin 16) (_ : Fin 4294967296) (p : Page), pageAt (a.val / 4 * 4) = some p ∧ who ≠ Initiator.jtag ∧ s.gated p = true) ∧
    (∃ (s : State) (who : Initiator) (a : Fin 16777216) (_ : Fin 16) (_ : Fin 4294967296) (p : Page), pageAt (a.val / 4 * 4) = some p ∧ who ≠ Initiator.jtag ∧ s.gated p = true) :=
  ⟨⟨State.reset, .marionette, 0x60A000, by decide +kernel⟩,
   ⟨State.reset, .marionette, 0x60A000, 0, 0, by decide +kernel⟩,
   ⟨State.reset, 0, 0x60A000, 0, 0, by decide +kernel⟩,
   ⟨State.reset, 0, 0x60A000, 0, 0, by decide +kernel⟩,
   ⟨State.reset, .marionette, 0x600000, 0, 0, pcie, by decide +kernel⟩,
   ⟨State.reset, .marionette, 0x600000, 0, 0, pcie, by decide +kernel⟩⟩

/-- The hypotheses of each clause of GatedAccessesAreRecorded are met together. -/
theorem wit_GatedAccessesAreRecorded :
    (∃ (s : State) (_ : Initiator) (a : Fin 33554432) (_ : Bool) (p : Page), pageAt a.val = some p ∧ s.gated p = true ∧ s.awake) :=
  ⟨State.reset, .marionette, 0x600000, false, pcie, by decide +kernel⟩

/-- The hypotheses of each clause of EmbeddedFunctionReplacesMsix are met together. -/
theorem wit_EmbeddedFunctionReplacesMsix :
    (∃ (s : State) (d : Nat) (e : Nat), e < 512 ∧ s.embMgmt d = true ∧ s.embConfigured = true ∧ s.is glb (GLB_MSIX_MASKED.nth (512 * d + e)) = false ∧ s.epRoom 4 4 = true) ∧
    (∃ (s : State) (d : Nat) (e : Nat), e < 512 ∧ d < 2 ∧ s.embMgmt d = true ∧ s.embConfigured = true ∧ s.is glb (GLB_MSIX_MASKED.nth (512 * d + e)) = true) ∧
    (∃ (s : State) (d : Nat) (e : Nat), e < 512 ∧ d < 2 ∧ s.embMgmt d = true ∧ s.embConfigured = true ∧ s.is glb (GLB_MSIX_MASKED.nth (512 * d + e)) = true) ∧
    (∃ (s : State) (d : Nat) (e : Nat), e < 512 ∧ d < 2 ∧ s.embMgmt d = true ∧ s.embConfigured = true ∧ s.is glb (GLB_MSIX_MASKED.nth (512 * d + e)) = true) :=
  ⟨⟨st [(glb, GLB_MSIX_MASKED.nth 0, 0), (uhub, UH_CFG_SRC3_0, 2), (uhub, UH_STATUS_EMB, 3)], 0, 0, by decide +kernel⟩,
   ⟨st [(uhub, UH_CFG_SRC3_0, 2), (uhub, UH_STATUS_EMB, 3)], 0, 0, by decide +kernel⟩,
   ⟨st [(uhub, UH_CFG_SRC3_0, 2), (uhub, UH_STATUS_EMB, 3)], 0, 0, by decide +kernel⟩,
   ⟨st [(uhub, UH_CFG_SRC3_0, 2), (uhub, UH_STATUS_EMB, 3)], 0, 0, by decide +kernel⟩⟩

/-- The hypotheses of each clause of TrainingGoesStageByStage are met together. -/
theorem wit_TrainingGoesStageByStage :
    (∃ (s : State) (who : Initiator) (n : Fin 6) (m : Nat), m < 16 ∧ s.accepts who (lane n.val) LN_CTRL_MODE ∧ s.mode n.val ≠ m ∧ s.linkUp n.val = false ∧ s.bound 0 = false ∧ s.bound 1 = false) ∧
    (∃ (s : State) (who : Initiator) (n : Fin 6), s.mode n.val < 16 ∧ s.accepts who (lane n.val) LN_CTRL_MODE) ∧
    (∃ (s : State) (who : Initiator) (n : Fin 6), s.accepts who (lane n.val) LN_CTRL_RETRAIN ∧ s.mode n.val ≠ 0 ∧ s.linkUp n.val = false) ∧
    (∃ (s : State) (who : Initiator) (n : Fin 6), s.accepts who (lane n.val) LN_CTRL_RETRAIN ∧ s.mode n.val = 0) ∧
    (∃ (s : State) (n : Fin 6), s.rd (lane n.val) LN_STATUS_STATE = 1 ∧ s.rdBit glb GLB_REFCLK_LOST n.val = false) ∧
    (∃ (s : State) (n : Fin 6) (_ : Nat) (_ : Nat) (_ : Bool) (_ : Bool) (_ : Bool), s.rd (lane n.val) LN_STATUS_STATE = 2) ∧
    (∃ (s : State) (n : Fin 6) (_ : Nat), s.rd (lane n.val) LN_STATUS_STATE = 3) ∧
    (∃ (s : State) (n : Fin 6) (_ : List (Nat × Nat × Nat)), s.rd (lane n.val) LN_STATUS_STATE = 4) ∧
    (∃ (s : State) (n : Fin 6) (a : Nat) (b : Nat) (c : Nat) (_ : Nat), s.rd (lane n.val) LN_STATUS_STATE = 5 ∧ s.timeRole n.val = 2 ∧ b - a - c ≤ 3000 ∧ s.is (lane n.val) LN_TSYNC_STATUS_LOCKED = false) ∧
    (∃ (s : State) (n : Fin 6), s.rd (lane n.val) LN_STATUS_STATE ≠ 1) ∧
    (∃ (s : State) (n : Fin 6) (_ : Nat), 1 ≤ s.rd (lane n.val) LN_STATUS_STATE ∧ s.rd (lane n.val) LN_STATUS_STATE ≤ 6 ∧ s.rd (lane n.val) LN_STATUS_RETRIES < 255 ∧ s.rd (lane n.val) LN_STATUS_RETRIES + 1 < orOne (s.rd (lane n.val) LN_CTRL_RETRY_MAX)) ∧
    (∃ (s : State) (n : Fin 6), s.rd (lane n.val) LN_STATUS_STATE = 8) :=
  ⟨⟨on [(lane 0, LN_CTRL_MODE, 1)], .marionette, 0, 0, by decide +kernel⟩,
   ⟨on [], .marionette, 0, by decide +kernel⟩,
   ⟨on [(lane 0, LN_CTRL_MODE, 1)], .marionette, 0, by decide +kernel⟩,
   ⟨on [], .marionette, 0, by decide +kernel⟩,
   ⟨st [(lane 0, LN_STATUS_STATE, 1)], 0, by decide +kernel⟩,
   ⟨st [(lane 0, LN_STATUS_STATE, 2)], 0, 0, 0, false, false, false, by decide +kernel⟩,
   ⟨st [(lane 0, LN_STATUS_STATE, 3)], 0, 0, by decide +kernel⟩,
   ⟨st [(lane 0, LN_STATUS_STATE, 4)], 0, [], by decide +kernel⟩,
   ⟨st [(lane 0, LN_STATUS_STATE, 5), (lane 0, LN_TSYNC_CTRL_ROLE, 2)], 0, 0, 0, 0, 0, by decide +kernel⟩,
   ⟨State.reset, 0, by decide +kernel⟩,
   ⟨st [(lane 0, LN_STATUS_STATE, 1)], 0, 0, by decide +kernel⟩,
   ⟨st [(lane 0, LN_STATUS_STATE, 8)], 0, by decide +kernel⟩⟩

/-- The hypotheses of each clause of PadSignalsAreSupervised are met together. -/
theorem wit_PadSignalsAreSupervised :
    (∃ (s : State) (p : Page) (pad : Nat), (p.kind = PageKind.pelane ∨ p.kind = PageKind.ulane) ∧ isPad p pad = true ∧ s.lnState p = 7 ∧ s.is p (PR_STATUS_LP.nth pad) = false ∧ s.rd p (LN_LOL_TIME.nth pad) = 0 ∧ s.mild p 0 ∧ s.rd p (PR_EVENT_CNT_LOS_CNT.nth pad) < 65535) ∧
    (∃ (s : State) (p : Page) (pad : Nat), (p.kind = PageKind.pelane ∨ p.kind = PageKind.ulane) ∧ isPad p pad = true ∧ s.lnState p = 7 ∧ s.is p (PR_STATUS_LP.nth pad) = false ∧ s.rd p (LN_LOS_TIME.nth pad) = 0 ∧ s.mild p 1 ∧ s.rd p (PR_EVENT_CNT_LOL_CNT.nth pad) < 65535) ∧
    (∃ (s : State) (n : Fin 6) (pad : Nat), pad < 4 ∧ s.rd (lane n.val) (PR_STATUS_DIR.nth pad) = 2 ∧ 2 ≤ s.rd (lane n.val) LN_STATUS_STATE ∧ s.rd (lane n.val) LN_STATUS_STATE ≤ 6 ∧ s.is (lane n.val) (PR_STATUS_LP.nth pad) = false ∧ s.rd (lane n.val) (LN_LOS_TIME.nth pad) = 0 ∧ s.rd (lane n.val) (LN_LOL_TIME.nth pad) = 0 ∧ s.rd (lane n.val) LN_STATUS_RETRIES < 255 ∧ s.rd (lane n.val) LN_STATUS_RETRIES + 1 < orOne (s.rd (lane n.val) LN_CTRL_RETRY_MAX)) ∧
    (∃ (s : State) (n : Fin 6) (pad : Nat), pad < 4 ∧ s.rd (lane n.val) (PR_STATUS_DIR.nth pad) = 2 ∧ 2 ≤ s.rd (lane n.val) LN_STATUS_STATE ∧ s.rd (lane n.val) LN_STATUS_STATE ≤ 6 ∧ s.is (lane n.val) (PR_STATUS_LP.nth pad) = false ∧ s.rd (lane n.val) (LN_LOS_TIME.nth pad) = 0 ∧ s.rd (lane n.val) (LN_LOL_TIME.nth pad) = 0 ∧ s.rd (lane n.val) LN_STATUS_RETRIES < 255 ∧ s.rd (lane n.val) LN_STATUS_RETRIES + 1 < orOne (s.rd (lane n.val) LN_CTRL_RETRY_MAX)) ∧
    (∃ (_ : State) (p : Page) (pad : Nat), isPad p pad = true) ∧
    (∃ (s : State) (n : Fin 6) (pad : Fin 4), s.mode n.val = 1 ∧ s.rd (lane n.val) LN_STATUS_STATE = 7 ∧ s.rd (lane n.val) (PR_STATUS_DIR.nth pad.val) = 2 ∧ s.is (lane n.val) (PR_STATUS_LP.nth pad.val) = false ∧ s.rd (lane n.val) (LN_LOS_TIME.nth pad.val) = 0 ∧ s.mild (lane n.val) 1 ∧ s.mild (link n.val) 1 ∧ s.is (link n.val) LK_STATUS_JOINING = false ∧ s.rd (link n.val) LK_STATUS_RX_PADS < 16 ∧ minus4 (s.rd (link n.val) LK_STATUS_RX_PADS) (2 ^ pad.val) ≠ 0 ∧ s.rd (lane n.val) (PR_EVENT_CNT_LOL_CNT.nth pad.val) < 65535) ∧
    (∃ (s : State) (n : Fin 6), s.kloyr n.val = true ∧ s.rd (lane n.val) LN_STATUS_STATE = 7) :=
  ⟨⟨st [(pcie, PE_LINK_STS_DL_ACTIVE.nth 0, 1)], ⟨.pelane, 0⟩, 0, by decide +kernel⟩,
   ⟨st [(pcie, PE_LINK_STS_DL_ACTIVE.nth 0, 1)], ⟨.pelane, 0⟩, 0, by decide +kernel⟩,
   ⟨st [(lane 0, PR_STATUS_DIR.nth 0, 2), (lane 0, LN_STATUS_STATE, 2)], 0, 0, by decide +kernel⟩,
   ⟨st [(lane 0, PR_STATUS_DIR.nth 0, 2), (lane 0, LN_STATUS_STATE, 2)], 0, 0, by decide +kernel⟩,
   ⟨State.reset, lane 0, 0, by decide +kernel⟩,
   ⟨st [(lane 0, LN_STATUS_STATE, 7), (lane 0, PR_STATUS_DIR.nth 0, 2), (link 0, LK_STATUS_RX_PADS, 2), (lane 0, LN_CTRL_MODE, 1)], 0, 0, by decide +kernel⟩,
   ⟨st [(lane 0, LN_STATUS_STATE, 7), (lane 0, LN_CTRL_MODE, 1)], 0, by decide +kernel⟩⟩

/-- The hypotheses of each clause of PadsRejoinMarginAndReport are met together. -/
theorem wit_PadsRejoinMarginAndReport :
    (∃ (s : State) (n : Fin 6) (pad : Fin 4), s.kloyr n.val = true ∧ s.rd (lane n.val) LN_STATUS_STATE = 7 ∧ s.rdBit (link n.val) LK_ADD_PADS pad.val = true) ∧
    (∃ (s : State) (n : Fin 6) (pad : Fin 4), s.kloyr n.val = true ∧ s.rd (lane n.val) LN_STATUS_STATE = 7 ∧ s.rdBit (link n.val) LK_ADD_PADS pad.val = true ∧ s.rd (link n.val) LK_ADD_PADS < 16 ∧ s.mild (link n.val) 1) ∧
    (∃ (s : State) (n : Fin 6) (pad : Fin 4), s.rd (lane n.val) LN_STATUS_STATE = 7 ∧ s.mode n.val = 1 ∧ s.rdBit (link n.val) LK_OUT_PADS pad.val = true ∧ s.is glb GLB_MOABEUC_HALTED = false ∧ s.rdBit (link n.val) LK_PAIR_PAD_EN pad.val = true ∧ s.rd (link n.val) LK_ADD_PADS < 16) ∧
    (∃ (s : State) (who : Initiator) (p : Page) (pad : Nat), isPad p pad = true ∧ p.kind ≠ PageKind.dplane ∧ s.accepts who p (PR_MARGIN_CTRL_START.nth pad) ∧ s.is p (PR_MARGIN_CTRL_BUSY.nth pad) = false) ∧
    (∃ (s : State) (who : Initiator) (p : Page) (pad : Nat), isPad p pad = true ∧ s.accepts who p (PR_MARGIN_CTRL_START.nth pad) ∧ s.is p (PR_MARGIN_CTRL_BUSY.nth pad) = true) ∧
    (∃ (s : State) (p : Page) (pad : Nat) (_ : Nat), isPad p pad = true ∧ s.is p (PR_MARGIN_CTRL_BUSY.nth pad) = true ∧ s.is p (PR_STATUS_LP.nth pad) = false ∧ s.lnState p = 7) ∧
    (∃ (s : State) (p : Page) (pad : Nat) (_ : Nat), isPad p pad = true ∧ s.is p (PR_MARGIN_CTRL_BUSY.nth pad) = true) ∧
    (∃ (s : State) (n : Fin 6) (pad : Nat) (h : Nat) (w : Nat) (x : Nat), pad < 4 ∧ h < 256 ∧ w < 256 ∧ x < 4 ∧ s.rd (lane n.val) (PR_STATUS_DIR.nth pad) = 2 ∧ s.rd (lane n.val) LN_STATUS_STATE = 7) ∧
    (∃ (s : State) (who : Initiator) (p : Page), isLane p = true ∧ s.accepts who p LN_CTRL_CNT_CLR) :=
  ⟨⟨st [(lane 0, LN_STATUS_STATE, 7), (link 0, LK_ADD_PADS, 1), (lane 0, LN_CTRL_MODE, 1)], 0, 0, by decide +kernel⟩,
   ⟨st [(lane 0, LN_STATUS_STATE, 7), (link 0, LK_ADD_PADS, 1), (lane 0, LN_CTRL_MODE, 1)], 0, 0, by decide +kernel⟩,
   ⟨st [(lane 0, LN_STATUS_STATE, 7), (link 0, LK_OUT_PADS, 1), (lane 0, LN_CTRL_MODE, 1)], 0, 0, by decide +kernel⟩,
   ⟨on [], .marionette, lane 0, 0, by decide +kernel⟩,
   ⟨on [(lane 0, PR_MARGIN_CTRL_BUSY.nth 0, 1)], .marionette, lane 0, 0, by decide +kernel⟩,
   ⟨st [(lane 0, PR_MARGIN_CTRL_BUSY.nth 0, 1), (lane 0, LN_STATUS_STATE, 7)], lane 0, 0, 0, by decide +kernel⟩,
   ⟨st [(lane 0, PR_MARGIN_CTRL_BUSY.nth 0, 1)], lane 0, 0, 0, by decide +kernel⟩,
   ⟨st [(lane 0, PR_STATUS_DIR.nth 0, 2), (lane 0, LN_STATUS_STATE, 7)], 0, 0, 0, 0, 0, by decide +kernel⟩,
   ⟨on [], .marionette, lane 0, by decide +kernel⟩⟩

/-- The hypotheses of each clause of TimeSyncExchangesOverSbu are met together. -/
theorem wit_TimeSyncExchangesOverSbu :
    (∃ (s : State) (n : Fin 6) (_ : Nat) (_ : Nat) (_ : Nat) (_ : Nat) (_ : Nat), s.kloyr n.val = true ∧ s.timeRole n.val = 2) ∧
    (∃ (s : State) (n : Fin 6) (_ : Nat) (e : Nat) (_ : Nat) (a : Nat), s.kloyr n.val = true ∧ s.timeRole n.val = 2 ∧ e < 2 ^ 48 ∧ a < 2 ^ 66) ∧
    (∃ (s : State) (n : Fin 6) (_ : Nat) (e : Nat) (r : Nat) (a : Nat), s.kloyr n.val = true ∧ s.timeRole n.val = 2 ∧ e < 2 ^ 48 ∧ r < 2 ^ 32 ∧ r ≤ e * 65536 ∧ e * 65536 - r < 2 ^ 32 ∧ s.is (lane n.val) LN_PREV_OK = true ∧ 0 < s.rd (lane n.val) LN_T3 ∧ s.rd (lane n.val) LN_T3 < a ∧ s.rd (lane n.val) LN_STATUS_STATE ≠ 7 ∧ s.is (lane n.val) LN_TSYNC_STEPPED = false ∧ (∀ (p : Page), p ∈ bound1 → s.is p PG_SHADOW_CTRL_ARMED = false)) ∧
    (∃ (s : State) (n : Fin 6) (a : Nat), s.kloyr n.val = true ∧ s.timeRole n.val = 1 ∧ a < 2 ^ 66) ∧
    (∃ (s : State) (n : Fin 6), s.mode n.val = 1 ∧ s.timeRole n.val = 2 ∧ s.rd (lane n.val) LN_STATUS_STATE ≠ 0 ∧ s.rd (lane n.val) LN_STATUS_STATE ≠ 9 ∧ s.is (lane n.val) LN_EXCH = true) ∧
    (∃ (s : State) (who : Initiator) (n : Fin 6), s.accepts who (lane n.val) LN_TSYNC_CTRL_STEP ∧ s.timeRole n.val = 2) ∧
    (∃ (s : State) (who : Initiator) (n : Fin 6), s.accepts who (lane n.val) LN_TSYNC_CTRL_STEP ∧ s.timeRole n.val ≠ 2) :=
  ⟨⟨st [(lane 0, LN_CTRL_MODE, 1), (lane 0, LN_TSYNC_CTRL_ROLE, 2)], 0, 0, 0, 0, 0, 0, by decide +kernel⟩,
   ⟨st [(lane 0, LN_CTRL_MODE, 1), (lane 0, LN_TSYNC_CTRL_ROLE, 2)], 0, 0, 0, 0, 0, by decide +kernel⟩,
   ⟨st [(lane 0, LN_PREV_OK, 1), (lane 0, LN_T3, 1), (lane 0, LN_CTRL_MODE, 1), (lane 0, LN_TSYNC_CTRL_ROLE, 2)], 0, 0, 0, 0, 2, by decide +kernel⟩,
   ⟨st [(lane 0, LN_CTRL_MODE, 1)], 0, 0, by decide +kernel⟩,
   ⟨st [(lane 0, LN_STATUS_STATE, 1), (lane 0, LN_EXCH, 1), (lane 0, LN_CTRL_MODE, 1), (lane 0, LN_TSYNC_CTRL_ROLE, 2)], 0, by decide +kernel⟩,
   ⟨on [(lane 0, LN_TSYNC_CTRL_ROLE, 2)], .marionette, 0, by decide +kernel⟩,
   ⟨on [], .marionette, 0, by decide +kernel⟩⟩

/-- The hypotheses of each clause of ReceiverFollowsSequenceNumbers are met together. -/
theorem wit_ReceiverFollowsSequenceNumbers :
    (∃ (s : State) (n : Fin 6) (_ : Nat) (_ : Nat) (_ : Nat) (_ : Nat) (_ : Bool), s.inService n.val = true ∧ s.rd (linkCnt n.val) LK_CNT_FEC_UNCORR < 2 ^ 32 - 1) ∧
    (∃ (s : State) (n : Fin 6) (_ : Nat) (_ : Nat) (set : Nat) (_ : Nat) (_ : Bool), s.inService n.val = true ∧ set < 16) ∧
    (∃ (s : State) (n : Fin 6) (_ : Nat) (_ : Bool) (_ : Pkt) (_ : Option Nat), s.inService n.val = true ∧ s.is (link n.val) LK_RESYNC = true) ∧
    (∃ (s : State) (n : Fin 6) (_ : Nat) (_ : Pkt) (_ : Option Nat), s.inService n.val = true ∧ s.is (link n.val) LK_RESYNC = false ∧ s.mild (link n.val) 7 ∧ s.rd (linkCnt n.val) LK_CNT_MALFORMED < 2 ^ 32 - 1) ∧
    (∃ (s : State) (n : Fin 6) (p : Pkt) (c : Ctrl) (_ : Option Nat), s.inService n.val = true ∧ s.mode n.val = 1 ∧ s.is (link n.val) LK_RESYNC = false ∧ s.malformed n.val 2 true p = false ∧ p.body = Body.ctrl c ∧ p.seq = s.rd (link n.val) LK_SEQ_NEXT_RX ∧ p.seq < 4096 ∧ creditsOf p.len ≤ (s.rd (link n.val) LK_CP_GRANT + 2 ^ 32 - s.rd (link n.val) LK_CP_RXD) % 2 ^ 32) ∧
    (∃ (s : State) (n : Fin 6) (ty : Nat) (p : Pkt) (_ : Option Nat), s.inService n.val = true ∧ s.mode n.val = 1 ∧ s.is (link n.val) LK_RESYNC = false ∧ ty ≠ 3 ∧ s.malformed n.val ty true p = false ∧ 0 < (p.seq + 4096 - s.rd (link n.val) LK_SEQ_NEXT_RX) % 4096 ∧ (p.seq + 4096 - s.rd (link n.val) LK_SEQ_NEXT_RX) % 4096 < 2048 ∧ s.rd (linkCnt n.val) LK_CNT_GAP_DISCARD < 2 ^ 32 - 1) ∧
    (∃ (s : State) (n : Fin 6) (ty : Nat) (p : Pkt) (_ : Option Nat), s.inService n.val = true ∧ s.mode n.val = 1 ∧ s.is (link n.val) LK_RESYNC = false ∧ ty ≠ 3 ∧ s.malformed n.val ty true p = false ∧ 2048 ≤ (p.seq + 4096 - s.rd (link n.val) LK_SEQ_NEXT_RX) % 4096 ∧ s.rd (linkCnt n.val) LK_CNT_DUP_DISCARD < 2 ^ 32 - 1) :=
  ⟨⟨st [(lane 0, LN_STATUS_STATE, 7), (lane 0, LN_CTRL_MODE, 1)], 0, 0, 0, 0, 0, false, by decide +kernel⟩,
   ⟨st [(lane 0, LN_STATUS_STATE, 7), (lane 0, LN_CTRL_MODE, 1)], 0, 0, 0, 0, 0, false, by decide +kernel⟩,
   ⟨st [(lane 0, LN_STATUS_STATE, 7), (link 0, LK_RESYNC, 1), (lane 0, LN_CTRL_MODE, 1)], 0, 0, false, ⟨0, false, 0, 0, .ctrl ⟨5, 2, 1, 1, false, 0, 0, 7, []⟩⟩, none, by decide +kernel⟩,
   ⟨st [(lane 0, LN_STATUS_STATE, 7), (lane 0, LN_CTRL_MODE, 1)], 0, 0, ⟨0, false, 0, 0, .ctrl ⟨5, 2, 1, 1, false, 0, 0, 7, []⟩⟩, none, by decide +kernel⟩,
   ⟨st [(lane 0, LN_STATUS_STATE, 7), (link 0, LK_CP_GRANT, 1), (lane 0, LN_CTRL_MODE, 1)], 0, ⟨0, false, 0, 0, .ctrl ⟨5, 2, 1, 1, false, 0, 0, 7, []⟩⟩, ⟨5, 2, 1, 1, false, 0, 0, 7, []⟩, none, by decide +kernel⟩,
   ⟨st [(lane 0, LN_STATUS_STATE, 7), (link 0, LK_SEQ_NEXT_RX, 4095), (lane 0, LN_CTRL_MODE, 1)], 0, 2, ⟨0, false, 0, 0, .ctrl ⟨5, 2, 1, 1, false, 0, 0, 7, []⟩⟩, none, by decide +kernel⟩,
   ⟨st [(lane 0, LN_STATUS_STATE, 7), (link 0, LK_SEQ_NEXT_RX, 1), (lane 0, LN_CTRL_MODE, 1)], 0, 2, ⟨0, false, 0, 0, .ctrl ⟨5, 2, 1, 1, false, 0, 0, 7, []⟩⟩, none, by decide +kernel⟩⟩

/-- The hypotheses of each clause of ReplayAndCreditsFollowTheFarEnd are met together. -/
theorem wit_ReplayAndCreditsFollowTheFarEnd :
    (∃ (s : State) (n : Fin 6) (_ : Nat), s.inService n.val = true) ∧
    (∃ (s : State) (n : Fin 6) (_ : Nat), s.inService n.val = true ∧ s.replay.list n.val ≠ [] ∧ s.rd (link n.val) LK_REPLAYS < orOne (s.rd (link n.val) LK_CTRL_REPLAY_MAX) ∧ s.rd (linkCnt n.val) LK_CNT_NAK_RX < 2 ^ 32 - 1) ∧
    (∃ (s : State) (n : Fin 6), s.inService n.val = true ∧ s.replay.list n.val ≠ [] ∧ s.rd (link n.val) LK_REPLAYS < orOne (s.rd (link n.val) LK_CTRL_REPLAY_MAX)) ∧
    (∃ (s : State) (n : Fin 6) (cum : Nat), s.inService n.val = true ∧ s.rd (link n.val) LK_CPOOL_TX_LIMIT < 2 ^ 32 ∧ cum < 2 ^ 32) ∧
    (∃ (s : State) (n : Fin 6), s.inService n.val = true ∧ s.rd (link n.val) LK_UNACK_RX ≠ 0) ∧
    (∃ (s : State) (n : Fin 6), s.inService n.val = true ∧ s.is (link n.val) LK_GAP = true) ∧
    (∃ (s : State) (n : Fin 6), s.inService n.val = true ∧ s.rd (link n.val) LK_CP_FREED ≠ 0) ∧
    (∃ (s : State) (n : Fin 6), s.inService n.val = true) ∧
    (∃ (s : State) (n : Fin 6) (m : LinkMsg) (rest : List LinkMsg), s.kloyr n.val = true ∧ s.rd (link n.val) LK_STATUS_STATE = 1 ∧ s.rd (link n.val) LK_DROP_OPEN ≠ 2 ∧ s.is (link n.val) LK_PAIR_SCTRL_ARMED = false ∧ s.linkq.list n.val = m :: rest ∧ s.rd (link n.val) LK_TOKENS ≤ 1024000 ∧ 1000 * linkBytes m ≤ s.rd (link n.val) LK_TOKENS) :=
  ⟨⟨st [(lane 0, LN_STATUS_STATE, 7), (lane 0, LN_CTRL_MODE, 1)], 0, 0, by decide +kernel⟩,
   ⟨{ st [(lane 0, LN_STATUS_STATE, 7), (lane 0, LN_CTRL_MODE, 1)] with replay := [(0, [⟨⟨0, false, 0, 0, .ctrl ⟨5, 2, 1, 1, false, 0, 0, 7, []⟩⟩, none, 0, false⟩])] }, 0, 0, by decide +kernel⟩,
   ⟨{ st [(lane 0, LN_STATUS_STATE, 7), (lane 0, LN_CTRL_MODE, 1)] with replay := [(0, [⟨⟨0, false, 0, 0, .ctrl ⟨5, 2, 1, 1, false, 0, 0, 7, []⟩⟩, none, 0, false⟩])] }, 0, by decide +kernel⟩,
   ⟨st [(lane 0, LN_STATUS_STATE, 7), (lane 0, LN_CTRL_MODE, 1)], 0, 0, by decide +kernel⟩,
   ⟨st [(lane 0, LN_STATUS_STATE, 7), (link 0, LK_UNACK_RX, 1), (lane 0, LN_CTRL_MODE, 1)], 0, by decide +kernel⟩,
   ⟨st [(lane 0, LN_STATUS_STATE, 7), (link 0, LK_GAP, 1), (lane 0, LN_CTRL_MODE, 1)], 0, by decide +kernel⟩,
   ⟨st [(lane 0, LN_STATUS_STATE, 7), (link 0, LK_CP_FREED, 1), (lane 0, LN_CTRL_MODE, 1)], 0, by decide +kernel⟩,
   ⟨st [(lane 0, LN_STATUS_STATE, 7), (lane 0, LN_CTRL_MODE, 1)], 0, by decide +kernel⟩,
   ⟨{ st [(link 0, LK_STATUS_STATE, 1), (lane 0, LN_CTRL_MODE, 1)] with linkq := [(0, [.ack])] }, 0, .ack, [], by decide +kernel⟩⟩

/-- The hypotheses of each clause of LinksChangeTheirPairSets are met together. -/
theorem wit_LinksChangeTheirPairSets :
    (∃ (s : State) (n : Fin 6) (lm : Nat), s.inService n.val = true ∧ s.mode n.val = 1 ∧ s.mild (link n.val) 1 ∧ (∀ (p : Nat), p ∈ s.padsOf n.val 2 lm → s.rdBit (link n.val) LK_ADD_PADS p = false) ∧ List.filter (fun p => s.rdBit (link n.val) LK_STATUS_RX_PADS p) (s.padsOf n.val 2 lm) ≠ []) ∧
    (∃ (s : State) (n : Fin 6) (_ : Nat) (_ : Nat), s.inService n.val = true ∧ s.mode n.val = 2 ∧ s.bound 0 = false ∧ s.bound 1 = false) ∧
    (∃ (s : State) (n : Fin 6) (lm : Nat) (d : Nat) (p : Nat), s.inService n.val = true ∧ s.mode n.val = 1 ∧ (p ∈ s.padsOf n.val (if d = 1 then 1 else 2) lm) ∧ s.rdBit (link n.val) LK_OUT_PADS p = true ∧ s.rd (link n.val) LK_ADD_PADS < 16) ∧
    (∃ (s : State) (n : Fin 6) (_ : Nat), s.inService n.val = true ∧ s.mode n.val = 2) ∧
    (∃ (s : State) (n : Fin 6) (lm : Nat) (d : Nat), s.inService n.val = true ∧ (List.filter (fun p => s.rdBit (link n.val) LK_ADD_PADS p) (s.padsOf n.val (if d = 1 then 1 else 2) lm) ≠ [])) ∧
    (∃ (s : State) (n : Fin 6) (id : Nat) (_ : Nat) (_ : Nat), s.inService n.val = true ∧ id < 16) ∧
    (∃ (s : State) (n : Fin 6) (g : Nat) (set : Nat), s.inService n.val = true ∧ s.mode n.val = 1 ∧ s.is (link n.val) PG_SHADOW_CTRL_ARMED = false ∧ g < 65536 ∧ set < 4) ∧
    (∃ (s : State) (n : Fin 6) (g : Nat) (_ : Nat), s.inService n.val = true ∧ s.mode n.val = 2 ∧ s.is (link n.val) PG_SHADOW_CTRL_ARMED = false ∧ g < 65536) ∧
    (∃ (s : State) (n : Fin 6) (g : Nat), s.inService n.val = true ∧ s.is (link n.val) PG_SHADOW_CTRL_ARMED = true ∧ g < 65536 ∧ s.rd (link n.val) PG_SHADOW_CTRL_TARGET = g) ∧
    (∃ (s : State) (n : Fin 6), s.is (link n.val) PG_SHADOW_CTRL_ARMED = true ∧ s.mild (link n.val) 2) ∧
    (∃ (s : State) (n : Fin 6), s.inService n.val = true ∧ s.mild (link n.val) 1 ∧ s.rd (link n.val) LK_STATUS_TX_PADS < 16 ∧ s.rdBit (link n.val) LK_STATUS_TX_PADS (s.rd (link n.val) LK_TURN_PAD) = true) ∧
    (∃ (s : State) (n : Fin 6), s.inService n.val = true ∧ s.rd (link n.val) LK_TURN_STEP = 1 ∧ s.rd (link n.val) LK_TURN_PAD < 4 ∧ s.rd (link n.val) LK_STATUS_RX_PADS < 16) ∧
    (∃ (s : State) (n : Fin 6), s.inService n.val = true ∧ s.rd (link n.val) LK_TURN_STEP = 1 ∧ s.rd (link n.val) LK_TURN_PAD < 4 ∧ s.mild (link n.val) 1) ∧
    (∃ (s : State) (n : Fin 6), s.inService n.val = true ∧ s.rd (link n.val) LK_TURN_STEP = 2 ∧ s.rd (link n.val) LK_TURN_PAD < 4) :=
  ⟨⟨st [(lane 0, PR_STATUS_DIR.nth 0, 2), (link 0, LK_STATUS_RX_PADS, 1), (lane 0, LN_STATUS_STATE, 7), (lane 0, LN_CTRL_MODE, 1)], 0, 1, by decide +kernel⟩,
   ⟨st [(lane 0, LN_STATUS_STATE, 7), (lane 0, LN_CTRL_MODE, 2)], 0, 0, 0, by decide +kernel⟩,
   ⟨st [(lane 0, PR_STATUS_DIR.nth 0, 2), (link 0, LK_OUT_PADS, 1), (lane 0, LN_STATUS_STATE, 7), (lane 0, LN_CTRL_MODE, 1)], 0, 1, 0, 0, by decide +kernel⟩,
   ⟨st [(lane 0, LN_STATUS_STATE, 7), (lane 0, LN_CTRL_MODE, 2)], 0, 0, by decide +kernel⟩,
   ⟨st [(lane 0, PR_STATUS_DIR.nth 0, 2), (link 0, LK_ADD_PADS, 1), (lane 0, LN_STATUS_STATE, 7), (lane 0, LN_CTRL_MODE, 1)], 0, 1, 0, by decide +kernel⟩,
   ⟨st [(lane 0, LN_STATUS_STATE, 7), (lane 0, LN_CTRL_MODE, 1)], 0, 0, 0, 0, by decide +kernel⟩,
   ⟨st [(lane 0, LN_STATUS_STATE, 7), (lane 0, LN_CTRL_MODE, 1)], 0, 0, 0, by decide +kernel⟩,
   ⟨st [(lane 0, LN_STATUS_STATE, 7), (lane 0, LN_CTRL_MODE, 2)], 0, 0, 0, by decide +kernel⟩,
   ⟨st [(lane 0, LN_STATUS_STATE, 7), (link 0, PG_SHADOW_CTRL_ARMED, 1), (lane 0, LN_CTRL_MODE, 1)], 0, 0, by decide +kernel⟩,
   ⟨st [(link 0, PG_SHADOW_CTRL_ARMED, 1)], 0, by decide +kernel⟩,
   ⟨st [(lane 0, LN_STATUS_STATE, 7), (link 0, LK_STATUS_TX_PADS, 1), (lane 0, LN_CTRL_MODE, 1)], 0, by decide +kernel⟩,
   ⟨st [(lane 0, LN_STATUS_STATE, 7), (link 0, LK_TURN_STEP, 1), (lane 0, LN_CTRL_MODE, 1)], 0, by decide +kernel⟩,
   ⟨st [(lane 0, LN_STATUS_STATE, 7), (link 0, LK_TURN_STEP, 1), (lane 0, LN_CTRL_MODE, 1)], 0, by decide +kernel⟩,
   ⟨st [(lane 0, LN_STATUS_STATE, 7), (link 0, LK_TURN_STEP, 2), (lane 0, LN_CTRL_MODE, 1)], 0, by decide +kernel⟩⟩

/-- The hypotheses of each clause of LinksEnterAndLeaveLowPower are met together. -/
theorem wit_LinksEnterAndLeaveLowPower :
    (∃ (s : State) (n : Fin 6) (d : Nat), s.inService n.val = true ∧ s.rd (link n.val) LK_LP_SENT ≠ 0 ∧ d < 4) ∧
    (∃ (s : State) (n : Fin 6) (d : Nat), s.inService n.val = true ∧ s.rd (link n.val) LK_LP_SENT = 0 ∧ s.lpReady n.val = true ∧ d < 4) ∧
    (∃ (s : State) (n : Fin 6) (_ : Nat), s.inService n.val = true ∧ s.rd (link n.val) LK_LP_SENT = 0 ∧ s.lpReady n.val = false) ∧
    (∃ (s : State) (n : Fin 6) (d : Nat), s.inService n.val = true ∧ s.rd (link n.val) LK_LP_SENT ≠ 0 ∧ d < 4) ∧
    (∃ (s : State) (n : Fin 6), s.inService n.val = true ∧ s.rd (link n.val) LK_LP_SENT ≠ 0 ∧ s.rd (link n.val) LK_STATUS_STATE ≠ 4 ∧ s.mild (link n.val) 10) ∧
    (∃ (s : State) (n : Fin 6), s.inService n.val = true ∧ s.rd (link n.val) LK_LP_SENT = 0 ∧ s.rd (link n.val) LK_STATUS_STATE = 4) ∧
    (∃ (s : State) (n : Fin 6), s.inService n.val = true ∧ s.lpReady n.val = true ∧ s.rd (link n.val) LK_LP_SENT = 0) ∧
    (∃ (s : State) (n : Fin 6), s.inService n.val = true ∧ (s.rd (link n.val) LK_STATUS_STATE = 2 ∨ s.rd (link n.val) LK_STATUS_STATE = 3)) ∧
    (∃ (s : State) (n : Fin 6), s.rd (link n.val) LK_STATUS_STATE = 1) ∧
    (∃ (s : State) (n : Fin 6), s.inService n.val = true ∧ s.awake ∧ (s.rd (link n.val) LK_STATUS_STATE = 2 ∨ s.rd (link n.val) LK_STATUS_STATE = 3)) ∧
    (∃ (s : State) (n : Fin 6), s.inService n.val = true ∧ s.rd (link n.val) LK_STATUS_STATE = 5 ∧ s.is (link n.val) LK_OWN_WAKE = true ∧ s.rd (linkCnt n.val) LK_CNT_WAKE_MERGED < 2 ^ 32 - 1) ∧
    (∃ (s : State) (n : Fin 6), s.inService n.val = true ∧ s.rd (link n.val) LK_STATUS_STATE = 5) :=
  ⟨⟨st [(lane 0, LN_STATUS_STATE, 7), (link 0, LK_LP_SENT, 1), (lane 0, LN_CTRL_MODE, 1)], 0, 0, by decide +kernel⟩,
   ⟨st [(lane 0, LN_STATUS_STATE, 7), (link 0, LK_STATUS_STATE, 1), (lane 0, LN_CTRL_MODE, 1)], 0, 0, by decide +kernel⟩,
   ⟨st [(lane 0, LN_STATUS_STATE, 7), (lane 0, LN_CTRL_MODE, 1)], 0, 0, by decide +kernel⟩,
   ⟨st [(lane 0, LN_STATUS_STATE, 7), (link 0, LK_LP_SENT, 1), (lane 0, LN_CTRL_MODE, 1)], 0, 0, by decide +kernel⟩,
   ⟨st [(lane 0, LN_STATUS_STATE, 7), (link 0, LK_LP_SENT, 1), (lane 0, LN_CTRL_MODE, 1)], 0, by decide +kernel⟩,
   ⟨st [(lane 0, LN_STATUS_STATE, 7), (link 0, LK_STATUS_STATE, 4), (lane 0, LN_CTRL_MODE, 1)], 0, by decide +kernel⟩,
   ⟨st [(lane 0, LN_STATUS_STATE, 7), (link 0, LK_STATUS_STATE, 1), (lane 0, LN_CTRL_MODE, 1)], 0, by decide +kernel⟩,
   ⟨st [(lane 0, LN_STATUS_STATE, 7), (link 0, LK_STATUS_STATE, 2), (lane 0, LN_CTRL_MODE, 1)], 0, by decide +kernel⟩,
   ⟨st [(link 0, LK_STATUS_STATE, 1)], 0, by decide +kernel⟩,
   ⟨st [(lane 0, LN_STATUS_STATE, 7), (link 0, LK_STATUS_STATE, 2), (lane 0, LN_CTRL_MODE, 1)], 0, by decide +kernel⟩,
   ⟨st [(lane 0, LN_STATUS_STATE, 7), (link 0, LK_STATUS_STATE, 5), (link 0, LK_OWN_WAKE, 1), (lane 0, LN_CTRL_MODE, 1)], 0, by decide +kernel⟩,
   ⟨st [(lane 0, LN_STATUS_STATE, 7), (link 0, LK_STATUS_STATE, 5), (lane 0, LN_CTRL_MODE, 1)], 0, by decide +kernel⟩⟩

/-- The hypotheses of each clause of ControlPacketsReachTheirHub are met together. -/
theorem wit_ControlPacketsReachTheirHub :
    (∃ (s : State) (port : Nat) (c : Ctrl) (rest : List (Nat × Ctrl)), s.ctrlIn = (port, c) :: rest ∧ port ≤ 5 ∧ s.is pathctl (PC_REFUSED.nth port) = false ∧ s.hubId c.dom ≠ 0 ∧ c.dest = s.hubId c.dom) ∧
    (∃ (s : State) (u : State) (port : Nat) (c : Ctrl), (s.takeLocal fun c => decide (c.cop = 1) && !c.rsp) = some (u, port, c)) ∧
    (∃ (s : State) (u : State) (port : Nat) (c : Ctrl), (s.takeLocal fun c => decide (c.cop = 1) && !c.rsp) = some (u, port, c)) ∧
    (∃ (s : State) (u : State) (port : Nat) (c : Ctrl), (s.takeLocal fun c => decide (c.cop = 1) && !c.rsp) = some (u, port, c)) ∧
    (∃ (s : State) (u : State) (port : Nat) (c : Ctrl) (n : Nat), (s.takeLocal fun c => decide (c.cop = 1) && !c.rsp) = some (u, port, c) ∧ n < 6) ∧
    (∃ (s : State) (u : State) (port : Nat) (c : Ctrl) (d : Nat), (s.takeLocal fun c => decide (c.cop = 1) && !c.rsp) = some (u, port, c) ∧ d < 2) ∧
    (∃ (s : State) (u : State) (port : Nat) (c : Ctrl) (a : Nat) (n : Nat), (s.takeLocal fun c => decide (c.cop = 3) && !c.rsp) = some (u, port, c) ∧ regRange c = some (a, n) ∧ (ctrlWord c 0).testBit 31 = false) ∧
    (∃ (s : State) (u : State) (port : Nat) (c : Ctrl), (s.takeLocal fun c => decide (c.cop = 3) && !c.rsp) = some (u, port, c) ∧ regRange c = none) ∧
    (∃ (s : State) (u : State) (port : Nat) (c : Ctrl) (a : Nat), (s.takeLocal fun c => decide (c.cop = 4) && !c.rsp) = some (u, port, c) ∧ regRange c = some (a, 1) ∧ c.words.length = 2) ∧
    (∃ (s : State) (u : State) (port : Nat) (c : Ctrl), (s.takeLocal fun c => decide (c.cop = 4) && !c.rsp) = some (u, port, c) ∧ regRange c = none) ∧
    (∃ (s : State) (u : State) (port : Nat) (c : Ctrl), (s.takeLocal fun c => !knownCop c.cop && !c.rsp) = some (u, port, c)) ∧
    (∃ (s : State) (u : State) (port : Nat) (c : Ctrl), (s.takeLocal fun c => decide (c.cop = 5) && !c.rsp) = some (u, port, c) ∧ c.dom < 2 ∧ u.bound c.dom = true ∧ u.rd pathctl (PC_ROOT_UP_PORT.nth c.dom) = 23 ∧ (u.events.list (4 + c.dom)).length < 64) ∧
    (∃ (s : State) (u : State) (port : Nat) (c : Ctrl) (i : Ctrl), (s.takeLocal fun c => decide (c.cop = 6) && !c.rsp) = some (u, port, c) ∧ parseCtrl (List.drop 1 c.words) = some i ∧ ctrlWord c 0 % 8 ≤ 5 ∧ i.words.length ≤ 56 ∧ u.ctrlPort (ctrlWord c 0 % 8) = true) ∧
    (∃ (s : State) (u : State) (port : Nat) (c : Ctrl), (s.takeLocal fun c => c.rsp) = some (u, port, c) ∧ (∀ (r : Req), r ∈ u.reqs ++ u.endedReads → ¬(r.dom = c.dom ∧ r.tag = c.tag ∧ r.cop = c.cop))) ∧
    (∃ (s : State) (u : State) (port : Nat) (c : Ctrl) (r : Req), (s.takeLocal fun c => c.rsp) = some (u, port, c) ∧ c.dom < 2 ∧ List.find? (fun r => decide (r.dom = c.dom) && decide (r.tag = c.tag) && decide (r.cop = c.cop)) u.reqs = some r ∧ r.use = 0 ∧ r.expect = 1 ∧ (u.events.list (4 + c.dom)).length < 64) ∧
    (∃ (s : State) (dom : Fin 2) (tag : Fin 1024) (r : Req), List.find? (fun r => decide (r.dom = dom.val) && decide (r.tag = tag.val) && r.expect != 0) s.reqs = some r ∧ r.use = 0 ∧ r.time + s.ctrlTo ≤ s.clock ∧ s.mild pathctl 10 ∧ s.rd pathctl PC_CNT_CTRL_TO < 2 ^ 32 - 1) :=
  ⟨⟨{ st [(pathctl, PC_DOM_BOUND.nth 0, 1), (pathctl, PC_DOM_HUB_ID.nth 0, 5)] with ctrlIn := [(3, ⟨5, 2, 1, 1, false, 0, 0, 7, []⟩)] }, 3, ⟨5, 2, 1, 1, false, 0, 0, 7, []⟩, [], by decide +kernel⟩,
   ⟨{ State.reset with ctrlLocal := [(3, ⟨5, 2, 1, 1, false, 0, 0, 7, []⟩)] }, State.reset, 3, ⟨5, 2, 1, 1, false, 0, 0, 7, []⟩, by decide +kernel⟩,
   ⟨{ State.reset with ctrlLocal := [(3, ⟨5, 2, 1, 1, false, 0, 0, 7, []⟩)] }, State.reset, 3, ⟨5, 2, 1, 1, false, 0, 0, 7, []⟩, by decide +kernel⟩,
   ⟨{ State.reset with ctrlLocal := [(3, ⟨5, 2, 1, 1, false, 0, 0, 7, []⟩)] }, State.reset, 3, ⟨5, 2, 1, 1, false, 0, 0, 7, []⟩, by decide +kernel⟩,
   ⟨{ State.reset with ctrlLocal := [(3, ⟨5, 2, 1, 1, false, 0, 0, 7, []⟩)] }, State.reset, 3, ⟨5, 2, 1, 1, false, 0, 0, 7, []⟩, 0, by decide +kernel⟩,
   ⟨{ State.reset with ctrlLocal := [(3, ⟨5, 2, 1, 1, false, 0, 0, 7, []⟩)] }, State.reset, 3, ⟨5, 2, 1, 1, false, 0, 0, 7, []⟩, 0, by decide +kernel⟩,
   ⟨{ State.reset with ctrlLocal := [(3, ⟨5, 2, 3, 1, false, 0, 0, 7, [0]⟩)] }, State.reset, 3, ⟨5, 2, 3, 1, false, 0, 0, 7, [0]⟩, 0, 1, by decide +kernel⟩,
   ⟨{ State.reset with ctrlLocal := [(3, ⟨5, 2, 3, 1, false, 0, 0, 7, [1]⟩)] }, State.reset, 3, ⟨5, 2, 3, 1, false, 0, 0, 7, [1]⟩, by decide +kernel⟩,
   ⟨{ State.reset with ctrlLocal := [(3, ⟨5, 2, 4, 1, false, 0, 0, 7, [0, 5]⟩)] }, State.reset, 3, ⟨5, 2, 4, 1, false, 0, 0, 7, [0, 5]⟩, 0, by decide +kernel⟩,
   ⟨{ State.reset with ctrlLocal := [(3, ⟨5, 2, 4, 1, false, 0, 0, 7, [1]⟩)] }, State.reset, 3, ⟨5, 2, 4, 1, false, 0, 0, 7, [1]⟩, by decide +kernel⟩,
   ⟨{ State.reset with ctrlLocal := [(3, ⟨5, 2, 99, 1, false, 0, 0, 7, []⟩)] }, State.reset, 3, ⟨5, 2, 99, 1, false, 0, 0, 7, []⟩, by decide +kernel⟩,
   ⟨{ st [(pathctl, PC_ROOT_UP_PORT.nth 0, 23), (pathctl, PC_DOM_BOUND.nth 0, 1)] with ctrlLocal := [(3, ⟨5, 2, 5, 1, false, 0, 0, 7, []⟩)] }, st [(pathctl, PC_ROOT_UP_PORT.nth 0, 23), (pathctl, PC_DOM_BOUND.nth 0, 1)], 3, ⟨5, 2, 5, 1, false, 0, 0, 7, []⟩, by decide +kernel⟩,
   ⟨{ st [(lane 2, LN_CTRL_MODE, 1), (lane 2, LN_STATUS_STATE, 7)] with ctrlLocal := [(3, ⟨5, 2, 6, 1, false, 0, 0, 7, [2, 2 ^ 29, 5 * 65536 + 2, 2 ^ 24 + 3 * 65536 + 7, 0]⟩)] }, st [(lane 2, LN_CTRL_MODE, 1), (lane 2, LN_STATUS_STATE, 7)], 3, ⟨5, 2, 6, 1, false, 0, 0, 7, [2, 2 ^ 29, 5 * 65536 + 2, 2 ^ 24 + 3 * 65536 + 7, 0]⟩, ⟨5, 2, 1, 3, false, 0, 0, 7, []⟩, by decide +kernel⟩,
   ⟨{ State.reset with ctrlLocal := [(3, ⟨5, 2, 1, 1, true, 0, 0, 7, []⟩)] }, State.reset, 3, ⟨5, 2, 1, 1, true, 0, 0, 7, []⟩, by decide +kernel⟩,
   ⟨{ State.reset with ctrlLocal := [(3, ⟨5, 2, 1, 1, true, 0, 0, 7, []⟩)], reqs := [⟨0, 7, 1, 5, 1, 0, 0, 0⟩] }, { State.reset with reqs := [⟨0, 7, 1, 5, 1, 0, 0, 0⟩] }, 3, ⟨5, 2, 1, 1, true, 0, 0, 7, []⟩, ⟨0, 7, 1, 5, 1, 0, 0, 0⟩, by decide +kernel⟩,
   ⟨{ State.reset with reqs := [⟨0, 7, 1, 5, 1, 0, 0, 0⟩], clock := 1000000000000 }, 0, 7, ⟨0, 7, 1, 5, 1, 0, 0, 0⟩, by decide +kernel⟩⟩

/-- The hypotheses of each clause of SlotsAreBoundAndReleased are met together. -/
theorem wit_SlotsAreBoundAndReleased :
    (∃ (s : State) (u : State) (port : Nat) (c : Ctrl), s.moabeuc = true ∧ (s.takeLocal fun c => decide (c.cop = 2) && !c.rsp) = some (u, port, c) ∧ u.is pathctl PG_CTRL_EXPERT = true) ∧
    (∃ (s : State) (u : State) (port : Nat) (c : Ctrl), s.moabeuc = true ∧ (s.takeLocal fun c => decide (c.cop = 2) && !c.rsp) = some (u, port, c) ∧ u.is pathctl PG_CTRL_EXPERT = false ∧ 2 ≤ c.words.length ∧ ctrlWord c 0 % 65536 ≠ 65535 ∧ ctrlWord c 0 % 65536 ≠ 0 ∧ c.dom < 2 ∧ port ≤ 5 ∧ u.bound c.dom = false ∧ (¬(u.bound (1 - c.dom) = true ∧ u.rd pathctl (PC_TAG_DOM_TAG.nth (1 - c.dom)) = ctrlWord c 1))) ∧
    (∃ (s : State) (u : State) (port : Nat) (c : Ctrl), s.moabeuc = true ∧ (s.takeLocal fun c => decide (c.cop = 2) && !c.rsp) = some (u, port, c) ∧ u.is pathctl PG_CTRL_EXPERT = false ∧ 2 ≤ c.words.length ∧ ctrlWord c 0 % 65536 ≠ 65535 ∧ ctrlWord c 0 % 65536 ≠ 0 ∧ c.dom < 2 ∧ u.bound c.dom = true ∧ u.rd pathctl (PC_TAG_DOM_TAG.nth c.dom) = ctrlWord c 1 ∧ (∀ (k : Nat), k ∈ u.entries → u.rd (path k) PT_W0_DOM ≠ c.dom)) ∧
    (∃ (s : State) (u : State) (port : Nat) (c : Ctrl), s.moabeuc = true ∧ (s.takeLocal fun c => decide (c.cop = 2) && !c.rsp) = some (u, port, c) ∧ u.is pathctl PG_CTRL_EXPERT = false ∧ 2 ≤ c.words.length ∧ ctrlWord c 0 % 65536 ≠ 65535 ∧ c.dom < 2 ∧ port ≤ 5 ∧ u.bound c.dom = true ∧ u.bound (1 - c.dom) = true ∧ u.rd pathctl (PC_TAG_DOM_TAG.nth c.dom) ≠ ctrlWord c 1 ∧ u.rd pathctl (PC_TAG_DOM_TAG.nth (1 - c.dom)) ≠ ctrlWord c 1 ∧ (∀ (d : Nat), d < 2 → u.rd pathctl (PC_ROOT_UP_PORT.nth d) ≠ port) ∧ u.mild pathctl 5) ∧
    (∃ (s : State) (d : Fin 2), s.moabeuc = true ∧ s.is pathctl PG_CTRL_EXPERT = false ∧ s.bound d.val = true ∧ s.rd pathctl (PC_ROOT_UP_PORT.nth d.val) ≤ 5 ∧ s.linkUp (s.rd pathctl (PC_ROOT_UP_PORT.nth d.val)) = false ∧ s.is pathctl PG_SHADOW_CTRL_ARMED = true) ∧
    (∃ (s : State) (d : Fin 2), s.moabeuc = true ∧ s.is pathctl PG_CTRL_EXPERT = false ∧ s.bound d.val = true ∧ s.rd pathctl (PC_ROOT_UP_PORT.nth d.val) ≤ 5 ∧ s.linkUp (s.rd pathctl (PC_ROOT_UP_PORT.nth d.val)) = false ∧ s.is pathctl PG_SHADOW_CTRL_ARMED = false ∧ s.regs.sorted = true) :=
  ⟨⟨{ st [(mbx, MB_FW_FW_READY, 1), (pathctl, PG_CTRL_EXPERT, 1)] with ctrlLocal := [(3, ⟨5, 2, 2, 1, false, 0, 0, 7, []⟩)] }, st [(mbx, MB_FW_FW_READY, 1), (pathctl, PG_CTRL_EXPERT, 1)], 3, ⟨5, 2, 2, 1, false, 0, 0, 7, []⟩, by decide +kernel⟩,
   ⟨{ st [(mbx, MB_FW_FW_READY, 1)] with ctrlLocal := [(3, ⟨5, 2, 2, 1, false, 0, 0, 7, [9, 77]⟩)] }, st [(mbx, MB_FW_FW_READY, 1)], 3, ⟨5, 2, 2, 1, false, 0, 0, 7, [9, 77]⟩, by decide +kernel⟩,
   ⟨{ st [(mbx, MB_FW_FW_READY, 1), (pathctl, PC_TAG_DOM_TAG.nth 0, 77), (pathctl, PC_DOM_BOUND.nth 0, 1)] with ctrlLocal := [(3, ⟨5, 2, 2, 1, false, 0, 0, 7, [9, 77]⟩)] }, st [(mbx, MB_FW_FW_READY, 1), (pathctl, PC_TAG_DOM_TAG.nth 0, 77), (pathctl, PC_DOM_BOUND.nth 0, 1)], 3, ⟨5, 2, 2, 1, false, 0, 0, 7, [9, 77]⟩, by decide +kernel⟩,
   ⟨{ st [(mbx, MB_FW_FW_READY, 1), (pathctl, PC_DOM_BOUND.nth 0, 1), (pathctl, PC_DOM_BOUND.nth 1, 1)] with ctrlLocal := [(3, ⟨5, 2, 2, 1, false, 0, 0, 7, [9, 77]⟩)] }, st [(mbx, MB_FW_FW_READY, 1), (pathctl, PC_DOM_BOUND.nth 0, 1), (pathctl, PC_DOM_BOUND.nth 1, 1)], 3, ⟨5, 2, 2, 1, false, 0, 0, 7, [9, 77]⟩, by decide +kernel⟩,
   ⟨st [(mbx, MB_FW_FW_READY, 1), (pathctl, PC_ROOT_UP_PORT.nth 0, 0), (pathctl, PG_SHADOW_CTRL_ARMED, 1), (pathctl, PC_DOM_BOUND.nth 0, 1)], 0, by decide +kernel⟩,
   ⟨st [(mbx, MB_FW_FW_READY, 1), (pathctl, PC_ROOT_UP_PORT.nth 0, 0), (pathctl, PC_DOM_BOUND.nth 0, 1)], 0, by decide +kernel⟩⟩

/-- The hypotheses of each clause of PathTableTakesEntriesAndReleases are met together. -/
theorem wit_PathTableTakesEntriesAndReleases :
    (∃ (s : State) (who : Initiator) (k : Fin 8192) (v : Fin 4294967296), s.accepts who (path k.val) (have __src := PT_W0_STATE; { bit := __src.bit, len := __src.len, acc := Access.sh, rst := __src.rst, lvl := __src.lvl, cls := __src.cls, cnt := __src.cnt, stride := __src.stride }) ∧ (∀ (f : Field), f ∈ entryFields → s.rd (path k.val) f < 2 ^ f.len) ∧ s.rd (path k.val) PT_W0_STATE = 1 ∧ v.val / 2 ^ 24 = 3 * 64 + s.rd (path k.val) PT_W0_DOM * 32 + s.rd (path k.val) PT_W0_IN_PORT) ∧
    (∃ (s : State) (who : Initiator) (k : Fin 8192) (v : Fin 4294967296), s.accepts who (path k.val) (have __src := PT_W0_STATE; { bit := __src.bit, len := __src.len, acc := Access.sh, rst := __src.rst, lvl := __src.lvl, cls := __src.cls, cnt := __src.cnt, stride := __src.stride }) ∧ s.rd (path k.val) PT_W0_STATE = 1 ∧ v.val / 2 ^ 20 ≠ s.rd (path k.val) PT_W3_ALLOC ∧ s.mild pathctl 6) ∧
    (∃ (s : State) (k : Fin 8192), s.rd (path k.val) PT_W0_STATE = 3 ∧ s.is (path k.val) PT_APPLIED_DEL = true ∧ (∀ (q : QPkt), q ∈ s.waiting → q.entry ≠ k.val) ∧ (∀ (f : Flow), f ∈ s.flows → ∀ (c : Cell), c ∈ f.cells → c.entry ≠ k.val) ∧ (∀ (e : Nat × List Frame), e ∈ s.queues → ∀ (f : Frame), f ∈ e.snd → ∀ (c : Cell), c ∈ f.untaken → c.entry ≠ k.val) ∧ (∀ (e : Nat × List Rel), e ∈ s.rel → ∀ (r : Rel), r ∈ e.snd → ∀ (c : Cell), r.cell = some c → c.entry ≠ k.val) ∧ (∀ (e : Nat × List StQ), e ∈ s.staged → ∀ (x : StQ), x ∈ e.snd → x.entry ≠ k.val)) ∧
    (∃ (s : State) (k : Fin 8192) (q : QPkt), q ∈ s.waiting ∧ q.entry = k.val) ∧
    (∃ (s : State) (k : Fin 8192), s.moabeuc = true ∧ s.rd (path k.val) PT_W0_STATE = 2 ∧ s.is (path k.val) PT_MOAB = true ∧ s.is pathctl PC_CFG_ADD_HOLD = true ∧ s.mild pathctl 6) ∧
    (∃ (s : State) (u : State) (port : Nat) (c : Ctrl), s.moabeuc = true ∧ (s.takeLocal fun c => decide (c.cop = 16) && !c.rsp) = some (u, port, c) ∧ u.is pathctl PG_CTRL_EXPERT = true) ∧
    (∃ (s : State) (u : State) (port : Nat) (c : Ctrl) (x : State) (k : Nat) (id : Nat) (shaper : Nat) (group : Nat), s.moabeuc = true ∧ (s.takeLocal fun c => decide (c.cop = 16) && !c.rsp) = some (u, port, c) ∧ u.is pathctl PG_CTRL_EXPERT = false ∧ u.is pathctl PG_SHADOW_CTRL_ARMED = false ∧ u.bound c.dom = true ∧ c.dom < 2 ∧ c.src = u.rd pathctl (PC_ROOT_ROOT_ID.nth c.dom) ∧ u.takesPath c ((ctrlWord c 6 + u.hopTerm (ctrlWord c 0 / 2 ^ 24 % 32) (ctrlWord c 0 / 65536 % 32)) % 2 ^ 32) = Sum.inl (x, k, id, shaper, group)) ∧
    (∃ (s : State) (u : State) (port : Nat) (c : Ctrl) (r : Refuse), s.moabeuc = true ∧ (s.takeLocal fun c => decide (c.cop = 16) && !c.rsp) = some (u, port, c) ∧ u.is pathctl PG_CTRL_EXPERT = false ∧ u.is pathctl PG_SHADOW_CTRL_ARMED = false ∧ u.bound c.dom = true ∧ c.src = u.rd pathctl (PC_ROOT_ROOT_ID.nth c.dom) ∧ u.takesPath c ((ctrlWord c 6 + u.hopTerm (ctrlWord c 0 / 2 ^ 24 % 32) (ctrlWord c 0 / 65536 % 32)) % 2 ^ 32) = Sum.inr r) ∧
    (∃ (s : State) (u : State) (port : Nat) (c : Ctrl), s.moabeuc = true ∧ (s.takeLocal fun c => decide (c.cop = 17) && !c.rsp) = some (u, port, c) ∧ u.is pathctl PG_CTRL_EXPERT = false ∧ u.is pathctl PG_SHADOW_CTRL_ARMED = false ∧ c.words ≠ [] ∧ u.rd (path (ctrlWord c 0 % 8192)) PT_W0_DOM = c.dom ∧ u.rd (path (ctrlWord c 0 % 8192)) PT_W0_IN_PATH_ID = ctrlWord c 0 / 65536 ∧ (u.rd (path (ctrlWord c 0 % 8192)) PT_W0_STATE = 1 ∨ u.rd (path (ctrlWord c 0 % 8192)) PT_W0_STATE = 2)) ∧
    (∃ (s : State) (u : State) (port : Nat) (c : Ctrl) (k : Nat) (reason : Nat) (id : Nat), (s.takeLocal fun c => decide (c.cop = 18) && !c.rsp) = some (u, port, c) ∧ reason < 8 ∧ id < 65536 ∧ c.words = [reason * 65536 + 1, id * 65536] ∧ port ≤ 5 ∧ k < 8192 ∧ k ∈ u.entries ∧ u.carries k = true ∧ u.rd (path k) PT_W0_DOM = c.dom ∧ u.rd (path k) PT_W0_IN_PORT = port ∧ u.rd (path k) PT_W0_IN_PATH_ID = id ∧ (∀ (j : Nat), j ∈ u.entries → u.rd (path j) PT_W1_OUT_PORT ≤ 5) ∧ u.mild pathctl 8) ∧
    (∃ (s : State) (u : State) (port : Nat) (c : Ctrl) (k : Nat) (id : Nat) (e : Nat), (s.takeLocal fun c => decide (c.cop = 36) && !c.rsp) = some (u, port, c) ∧ id < 65536 ∧ e ≤ 5 ∧ c.words = [1, id * 65536] ∧ u.lookup port id = some k ∧ u.is (path k) PT_W1_MC_EN = false ∧ u.rd (path k) PT_W0_DOM < 2 ∧ u.rd (path k) PT_W1_OUT_PORT = e ∧ u.ctrlPort e = true) ∧
    (∃ (s : State) (u : State) (port : Nat) (c : Ctrl) (k : Nat) (id : Nat) (e : Nat), (s.takeLocal fun c => decide (c.cop = 37) && !c.rsp) = some (u, port, c) ∧ id < 65536 ∧ e ≤ 5 ∧ c.words = [1, id * 65536] ∧ u.lookup port id = some k ∧ u.is (path k) PT_W1_MC_EN = false ∧ u.rd (path k) PT_W0_DOM < 2 ∧ u.rd (path k) PT_W1_OUT_PORT = e ∧ u.ctrlPort e = true) :=
  ⟨⟨on [(path 0, PT_W0_STATE, 1)], .marionette, 0, 3221225472, by decide +kernel⟩,
   ⟨on [(path 0, PT_W0_STATE, 1), (path 0, PT_W3_ALLOC, 1)], .marionette, 0, 0, by decide +kernel⟩,
   ⟨st [(path 0, PT_W0_STATE, 3), (path 0, PT_APPLIED_DEL, 1)], 0, by decide +kernel⟩,
   ⟨{ State.reset with waiting := [⟨0, 0, 8, 10, 8, 1, 0, 0, 16, 0, ⟨0, false, 0, 0, .data 8 0 0 []⟩⟩] }, 0, ⟨0, 0, 8, 10, 8, 1, 0, 0, 16, 0, ⟨0, false, 0, 0, .data 8 0 0 []⟩⟩, by decide +kernel⟩,
   ⟨st [(mbx, MB_FW_FW_READY, 1), (path 0, PT_W0_STATE, 2), (path 0, PT_MOAB, 1)], 0, by decide +kernel⟩,
   ⟨{ st [(mbx, MB_FW_FW_READY, 1), (pathctl, PG_CTRL_EXPERT, 1)] with ctrlLocal := [(3, ⟨5, 2, 16, 1, false, 0, 0, 7, []⟩)] }, st [(mbx, MB_FW_FW_READY, 1), (pathctl, PG_CTRL_EXPERT, 1)], 3, ⟨5, 2, 16, 1, false, 0, 0, 7, []⟩, by decide +kernel⟩,
   ⟨{ st [(pathctl, PC_ROOT_ROOT_ID.nth 0, 2), (pathctl, PC_DOM_BOUND.nth 0, 1), (mbx, MB_FW_FW_READY, 1)] with ctrlLocal := [(3, ⟨5, 2, 16, 1, false, 0, 0, 7, [2 ^ 31 + 8 * 2 ^ 24 + 10 * 65536, 8 * 65536 + 2 ^ 14, 0, 0, 0, 0, 0, 0]⟩)] }, st [(pathctl, PC_ROOT_ROOT_ID.nth 0, 2), (pathctl, PC_DOM_BOUND.nth 0, 1), (mbx, MB_FW_FW_READY, 1)], 3, ⟨5, 2, 16, 1, false, 0, 0, 7, [2 ^ 31 + 8 * 2 ^ 24 + 10 * 65536, 8 * 65536 + 2 ^ 14, 0, 0, 0, 0, 0, 0]⟩, (st [(pathctl, PC_ROOT_ROOT_ID.nth 0, 2), (pathctl, PC_DOM_BOUND.nth 0, 1), (mbx, MB_FW_FW_READY, 1)]).setupEntry ⟨5, 2, 16, 1, false, 0, 0, 7, [2 ^ 31 + 8 * 2 ^ 24 + 10 * 65536, 8 * 65536 + 2 ^ 14, 0, 0, 0, 0, 0, 0]⟩ 0 8 0 0, 0, 8, 0, 0, by decide +kernel⟩,
   ⟨{ st [(pathctl, PC_ROOT_ROOT_ID.nth 0, 2), (pathctl, PC_DOM_BOUND.nth 0, 1), (mbx, MB_FW_FW_READY, 1)] with ctrlLocal := [(3, ⟨5, 2, 16, 1, false, 0, 0, 7, []⟩)] }, st [(pathctl, PC_ROOT_ROOT_ID.nth 0, 2), (pathctl, PC_DOM_BOUND.nth 0, 1), (mbx, MB_FW_FW_READY, 1)], 3, ⟨5, 2, 16, 1, false, 0, 0, 7, []⟩, .badReq, by decide +kernel⟩,
   ⟨{ st [(mbx, MB_FW_FW_READY, 1), (path 0, PT_W0_IN_PATH_ID, 8), (path 0, PT_W0_STATE, 1)] with ctrlLocal := [(3, ⟨5, 2, 17, 1, false, 0, 0, 7, [8 * 65536]⟩)] }, st [(mbx, MB_FW_FW_READY, 1), (path 0, PT_W0_IN_PATH_ID, 8), (path 0, PT_W0_STATE, 1)], 3, ⟨5, 2, 17, 1, false, 0, 0, 7, [8 * 65536]⟩, by decide +kernel⟩,
   ⟨{ st [(path 0, PT_W0_STATE, 1), (path 0, PT_W0_IN_PORT, 3), (path 0, PT_W0_IN_PATH_ID, 8)] with ctrlLocal := [(3, ⟨5, 2, 18, 1, false, 0, 0, 7, [2 * 65536 + 1, 8 * 65536]⟩)] }, st [(path 0, PT_W0_STATE, 1), (path 0, PT_W0_IN_PORT, 3), (path 0, PT_W0_IN_PATH_ID, 8)], 3, ⟨5, 2, 18, 1, false, 0, 0, 7, [2 * 65536 + 1, 8 * 65536]⟩, 0, 2, 8, by decide +kernel⟩,
   ⟨{ st [(path 0, PT_W0_STATE, 1), (path 0, PT_W0_IN_PORT, 3), (path 0, PT_W0_IN_PATH_ID, 8), (path 0, PT_W1_OUT_PORT, 4), (lane 4, LN_CTRL_MODE, 1), (lane 4, LN_STATUS_STATE, 7)] with ctrlLocal := [(3, ⟨5, 2, 36, 1, false, 0, 0, 7, [1, 8 * 65536]⟩)] }, st [(path 0, PT_W0_STATE, 1), (path 0, PT_W0_IN_PORT, 3), (path 0, PT_W0_IN_PATH_ID, 8), (path 0, PT_W1_OUT_PORT, 4), (lane 4, LN_CTRL_MODE, 1), (lane 4, LN_STATUS_STATE, 7)], 3, ⟨5, 2, 36, 1, false, 0, 0, 7, [1, 8 * 65536]⟩, 0, 8, 4, by decide +kernel⟩,
   ⟨{ st [(path 0, PT_W0_STATE, 1), (path 0, PT_W0_IN_PORT, 3), (path 0, PT_W0_IN_PATH_ID, 8), (path 0, PT_W1_OUT_PORT, 4), (lane 4, LN_CTRL_MODE, 1), (lane 4, LN_STATUS_STATE, 7)] with ctrlLocal := [(3, ⟨5, 2, 37, 1, false, 0, 0, 7, [1, 8 * 65536]⟩)] }, st [(path 0, PT_W0_STATE, 1), (path 0, PT_W0_IN_PORT, 3), (path 0, PT_W0_IN_PATH_ID, 8), (path 0, PT_W1_OUT_PORT, 4), (lane 4, LN_CTRL_MODE, 1), (lane 4, LN_STATUS_STATE, 7)], 3, ⟨5, 2, 37, 1, false, 0, 0, 7, [1, 8 * 65536]⟩, 0, 8, 4, by decide +kernel⟩⟩

/-- The hypotheses of each clause of DomainArmsAreRecordedAndCancelled are met together. -/
theorem wit_DomainArmsAreRecordedAndCancelled :
    (∃ (s : State) (u : State) (port : Nat) (c : Ctrl) (armId : Nat) (own : Nat) (e : Nat), s.moabeuc = true ∧ (s.takeLocal fun c => decide (c.cop = 32) && !c.rsp) = some (u, port, c) ∧ c.dom < 2 ∧ armId < 65536 ∧ own < 65536 ∧ own ≠ 0 ∧ e < 2 ^ 48 ∧ c.words = [armId * 65536 + e / 2 ^ 32, e % 2 ^ 32, 1, own * 65536, 0, 2 ^ 28] ∧ u.rd pathctl (PC_DOM_HUB_ID.nth c.dom) = own ∧ u.bound c.dom = true ∧ u.rd shpctl (DA_STATE_STATE.nth c.dom) ≠ 1 ∧ u.outOfSync = false ∧ u.epoch + 2 ≤ e ∧ e ≤ u.epoch + 32767 ∧ u.is sw PG_SHADOW_CTRL_ARMED = false) ∧
    (∃ (s : State) (u : State) (port : Nat) (c : Ctrl) (armId : Nat) (own : Nat) (e : Nat), s.moabeuc = true ∧ (s.takeLocal fun c => decide (c.cop = 32) && !c.rsp) = some (u, port, c) ∧ c.dom < 2 ∧ armId < 65536 ∧ own < 65536 ∧ own ≠ 0 ∧ e < 2 ^ 48 ∧ c.words = [armId * 65536 + e / 2 ^ 32, e % 2 ^ 32, 1, own * 65536, 0, 2 ^ 28] ∧ u.rd pathctl (PC_DOM_HUB_ID.nth c.dom) = own ∧ u.bound c.dom = true ∧ u.rd shpctl (DA_STATE_STATE.nth c.dom) ≠ 1 ∧ u.outOfSync = false ∧ e < u.epoch + 2 ∧ u.mild shpctl 0) ∧
    (∃ (s : State) (u : State) (port : Nat) (c : Ctrl) (armId : Nat), s.moabeuc = true ∧ (s.takeLocal fun c => decide (c.cop = 33) && !c.rsp) = some (u, port, c) ∧ c.dom < 2 ∧ armId < 65536 ∧ ctrlWord c 0 / 65536 = armId ∧ u.rd shpctl (DA_STATE_ARM_ID.nth c.dom) = armId ∧ u.rd shpctl (DA_STATE_STATE.nth c.dom) = 1 ∧ u.daMask c.dom = 2 ^ 28 ∧ u.is sw PG_SHADOW_CTRL_ARMED = true ∧ u.mild shpctl 1) ∧
    (∃ (s : State) (u : State) (port : Nat) (c : Ctrl), s.moabeuc = true ∧ (s.takeLocal fun c => decide (c.cop = 33) && !c.rsp) = some (u, port, c) ∧ u.rd shpctl (DA_STATE_ARM_ID.nth c.dom) ≠ ctrlWord c 0 / 65536) :=
  ⟨⟨{ st [(mbx, MB_FW_FW_READY, 1), (pathctl, PC_DOM_HUB_ID.nth 0, 4), (pathctl, PC_DOM_BOUND.nth 0, 1)] with ctrlLocal := [(3, ⟨5, 2, 32, 1, false, 0, 0, 7, [3 * 65536, 10, 1, 4 * 65536, 0, 2 ^ 28]⟩)] }, st [(mbx, MB_FW_FW_READY, 1), (pathctl, PC_DOM_HUB_ID.nth 0, 4), (pathctl, PC_DOM_BOUND.nth 0, 1)], 3, ⟨5, 2, 32, 1, false, 0, 0, 7, [3 * 65536, 10, 1, 4 * 65536, 0, 2 ^ 28]⟩, 3, 4, 10, by decide +kernel⟩,
   ⟨{ st [(mbx, MB_FW_FW_READY, 1), (pathctl, PC_DOM_HUB_ID.nth 0, 4), (pathctl, PC_DOM_BOUND.nth 0, 1)] with ctrlLocal := [(3, ⟨5, 2, 32, 1, false, 0, 0, 7, [3 * 65536, 1, 1, 4 * 65536, 0, 2 ^ 28]⟩)] }, st [(mbx, MB_FW_FW_READY, 1), (pathctl, PC_DOM_HUB_ID.nth 0, 4), (pathctl, PC_DOM_BOUND.nth 0, 1)], 3, ⟨5, 2, 32, 1, false, 0, 0, 7, [3 * 65536, 1, 1, 4 * 65536, 0, 2 ^ 28]⟩, 3, 4, 1, by decide +kernel⟩,
   ⟨{ st [(mbx, MB_FW_FW_READY, 1), (shpctl, DA_MASK_LO_MASK_LO.nth 0, 268435456), (shpctl, DA_STATE_ARM_ID.nth 0, 3), (shpctl, DA_STATE_STATE.nth 0, 1), (sw, PG_SHADOW_CTRL_ARMED, 1)] with ctrlLocal := [(3, ⟨5, 2, 33, 1, false, 0, 0, 7, [3 * 65536]⟩)] }, st [(mbx, MB_FW_FW_READY, 1), (shpctl, DA_MASK_LO_MASK_LO.nth 0, 268435456), (shpctl, DA_STATE_ARM_ID.nth 0, 3), (shpctl, DA_STATE_STATE.nth 0, 1), (sw, PG_SHADOW_CTRL_ARMED, 1)], 3, ⟨5, 2, 33, 1, false, 0, 0, 7, [3 * 65536]⟩, 3, by decide +kernel⟩,
   ⟨{ st [(mbx, MB_FW_FW_READY, 1)] with ctrlLocal := [(3, ⟨5, 2, 33, 1, false, 0, 0, 7, [3 * 65536]⟩)] }, st [(mbx, MB_FW_FW_READY, 1)], 3, ⟨5, 2, 33, 1, false, 0, 0, 7, [3 * 65536]⟩, by decide +kernel⟩⟩

/-- The hypotheses of each clause of Usb4HostsAndLinksAreServed are met together. -/
theorem wit_Usb4HostsAndLinksAreServed :
    (∃ (s : State) (d : Fin 2), s.moabeuc = true ∧ (s.rd glb GLB_STRAP_ROLE ≠ 1 ∨ s.is glb (GLB_HIA_EN.nth d.val) = true)) ∧
    (∃ (s : State) (d : Fin 2), s.rd glb GLB_STRAP_ROLE = 1 ∧ s.is glb (GLB_HIA_EN.nth d.val) = false) ∧
    (∃ (s : State) (d : Fin 2) (_ : HopWrite), s.accepts (domInit d.val) (path 0) (have __src := PT_W0_STATE; { bit := __src.bit, len := __src.len, acc := __src.acc, rst := __src.rst, lvl := Lvl.b, cls := __src.cls, cnt := __src.cnt, stride := __src.stride }) ∧ s.is pathctl PG_CTRL_EXPERT = true) ∧
    (∃ (s : State) (d : Fin 2) (_ : HopWrite), s.accepts (domInit d.val) (path 0) (have __src := PT_W0_STATE; { bit := __src.bit, len := __src.len, acc := __src.acc, rst := __src.rst, lvl := Lvl.b, cls := __src.cls, cnt := __src.cnt, stride := __src.stride }) ∧ s.is pathctl PG_CTRL_EXPERT = false ∧ s.is pathctl PG_SHADOW_CTRL_ARMED = true) ∧
    (∃ (s : State) (d : Fin 2) (w : HopWrite) (k : Nat), s.accepts (domInit d.val) (path 0) (have __src := PT_W0_STATE; { bit := __src.bit, len := __src.len, acc := __src.acc, rst := __src.rst, lvl := Lvl.b, cls := __src.cls, cnt := __src.cnt, stride := __src.stride }) ∧ s.moabeuc = true ∧ s.is pathctl PG_CTRL_EXPERT = false ∧ s.is pathctl PG_SHADOW_CTRL_ARMED = false ∧ w.valid = false ∧ s.adapterUsed d.val w.adapter = true ∧ s.adapterUsed d.val w.outAdapter = true ∧ k < 8192 ∧ s.hopAt (adapterCode w.adapter) w.hop = some k ∧ s.rd (path k) PT_W0_STATE = 2) ∧
    (∃ (s : State) (n : Fin 6) (_ : Fin 256), s.rd (lane n.val) LN_STATUS_STATE = 10 ∧ s.is (lane n.val) LN_STD_UP = false ∧ s.mild (lane n.val) 4 ∧ s.bound 0 = false ∧ s.bound 1 = false) ∧
    (∃ (s : State) (n : Fin 6), s.rd (lane n.val) LN_STATUS_STATE = 10 ∧ s.is (lane n.val) LN_STD_UP = true ∧ s.usb4 n.val = true ∧ s.mild (link n.val) 9 ∧ s.bound 0 = false ∧ s.bound 1 = false ∧ (∀ (k : Nat), k ∈ s.entries → s.rd (path k) PT_W0_IN_PORT ≠ n.val ∧ s.rd (path k) PT_W1_OUT_PORT ≠ n.val)) :=
  ⟨⟨st [(mbx, MB_FW_FW_READY, 1)], 0, by decide +kernel⟩,
   ⟨st [(glb, GLB_STRAP_ROLE, 1)], 0, by decide +kernel⟩,
   ⟨on [(pathctl, PG_CTRL_EXPERT, 1)], 0, ⟨0, 0, false, 0, 0, 0, 0, 0⟩, by decide +kernel⟩,
   ⟨on [(pathctl, PG_SHADOW_CTRL_ARMED, 1)], 0, ⟨0, 0, false, 0, 0, 0, 0, 0⟩, by decide +kernel⟩,
   ⟨on [(mbx, MB_FW_FW_READY, 1), (path 0, PT_W0_STATE, 2), (path 0, PT_W0_IN_PORT, 1), (path 0, PT_W0_IN_PATH_ID, 8)], 0, ⟨3, 8, false, 5, 8, 0, 0, 0⟩, 0, by decide +kernel⟩,
   ⟨st [(lane 0, LN_STATUS_STATE, 10)], 0, 0, by decide +kernel⟩,
   ⟨st [(lane 0, LN_STATUS_STATE, 10), (lane 0, LN_STD_UP, 1), (lane 0, LN_CTRL_MODE, 3)], 0, by decide +kernel⟩⟩

/-- The hypotheses of each clause of PacketsFollowThePathTable are met together. -/
theorem wit_PacketsFollowThePathTable :
    (∃ (s : State) (port : Nat) (id : Nat), s.lookup port id = none ∧ s.mild pathctl 7 ∧ s.rd pathctl PC_CNT_NO_PATH < 2 ^ 32 - 1) ∧
    (∃ (s : State) (port : Nat) (id : Nat), s.lookup port id = none ∧ s.mild pathctl 7 ∧ s.rd pathctl PC_CNT_NO_PATH < 2 ^ 32 - 1) ∧
    (∃ (s : State) (port : Nat) (id : Nat), s.lookup port id = none ∧ s.mild pathctl 7 ∧ s.rd pathctl PC_CNT_NO_PATH < 2 ^ 32 - 1) ∧
    (∃ (s : State) (port : Nat) (id : Nat) (k : Nat), s.lookup port id = some k ∧ s.is (path k) PT_W1_MC_EN = false ∧ s.is (path k) PT_W0_DOWN = false) ∧
    (∃ (s : State) (port : Nat) (id : Nat) (k : Nat), s.lookup port id = some k ∧ s.is (path k) PT_W1_MC_EN = false ∧ s.is (path k) PT_W0_DOWN = true ∧ s.backupOf k = none ∧ s.rd pathctl PC_CNT_DOWN_DISCARD < 2 ^ 32 - 1) ∧
    (∃ (s : State) (port : Nat) (id : Nat) (k : Nat), s.lookup port id = some k ∧ s.is (path k) PT_W1_MC_EN = false ∧ s.is (path k) PT_W0_DOWN = true ∧ s.backupOf k = none ∧ s.rd pathctl PC_CNT_DOWN_DISCARD < 2 ^ 32 - 1) ∧
    (∃ (s : State) (port : Nat) (id : Nat) (k : Nat) (b : Nat), k < 8192 ∧ s.lookup port id = some k ∧ s.is (path k) PT_W1_MC_EN = false ∧ s.is (path k) PT_W0_DOWN = true ∧ s.backupOf k = some b ∧ s.is (path k) PT_FAILED_OVER = false ∧ s.rd pathctl PC_CNT_FAILOVER < 2 ^ 32 - 1 ∧ s.mild pathctl 9) ∧
    (∃ (s : State) (port : Nat) (id : Nat) (k : Nat) (b : Nat), k < 8192 ∧ s.lookup port id = some k ∧ s.is (path k) PT_W1_MC_EN = false ∧ s.is (path k) PT_W0_DOWN = true ∧ s.backupOf k = some b ∧ s.is (path k) PT_FAILED_OVER = false ∧ s.rd pathctl PC_CNT_FAILOVER < 2 ^ 32 - 1 ∧ s.mild pathctl 9) ∧
    (∃ (s : State) (port : Nat) (id : Nat) (k : Nat) (b : Nat), k < 8192 ∧ s.lookup port id = some k ∧ s.is (path k) PT_W1_MC_EN = false ∧ s.is (path k) PT_W0_DOWN = true ∧ s.backupOf k = some b ∧ s.is (path k) PT_FAILED_OVER = false ∧ s.rd pathctl PC_CNT_FAILOVER < 2 ^ 32 - 1 ∧ s.mild pathctl 9) ∧
    (∃ (s : State) (port : Nat) (id : Nat) (k : Nat) (b : Nat), k < 8192 ∧ s.lookup port id = some k ∧ s.is (path k) PT_W1_MC_EN = false ∧ s.is (path k) PT_W0_DOWN = true ∧ s.backupOf k = some b ∧ s.is (path k) PT_FAILED_OVER = false ∧ s.rd pathctl PC_CNT_FAILOVER < 2 ^ 32 - 1 ∧ s.mild pathctl 9) ∧
    (∃ (s : State) (port : Nat) (id : Nat) (k : Nat) (b : Nat), k < 8192 ∧ s.lookup port id = some k ∧ s.is (path k) PT_W1_MC_EN = false ∧ s.is (path k) PT_W0_DOWN = true ∧ s.backupOf k = some b ∧ s.is (path k) PT_FAILED_OVER = false ∧ s.rd pathctl PC_CNT_FAILOVER < 2 ^ 32 - 1 ∧ s.mild pathctl 9) ∧
    (∃ (s : State) (port : Nat) (id : Nat) (k : Nat), s.lookup port id = some k) ∧
    (∃ (s : State) (port : Nat) (id : Nat) (k : Nat), s.lookup port id = some k) ∧
    (∃ (s : State) (port : Nat) (id : Nat) (k : Nat), s.lookup port id = some k) ∧
    (∃ (s : State) (port : Nat) (id : Nat) (k : Nat), s.lookup port id = some k) :=
  ⟨⟨State.reset, 0, 0, by decide +kernel⟩,
   ⟨State.reset, 0, 0, by decide +kernel⟩,
   ⟨State.reset, 0, 0, by decide +kernel⟩,
   ⟨st [(path 0, PT_W0_STATE, 1)], 0, 0, 0, by decide +kernel⟩,
   ⟨st [(path 0, PT_W0_STATE, 1), (path 0, PT_W0_DOWN, 1)], 0, 0, 0, by decide +kernel⟩,
   ⟨st [(path 0, PT_W0_STATE, 1), (path 0, PT_W0_DOWN, 1)], 0, 0, 0, by decide +kernel⟩,
   ⟨st [(path 0, PT_W0_STATE, 1), (path 0, PT_W0_PROT, 1), (path 0, PT_W4_PV, 1), (path 0, PT_W4_PARTNER, 1), (path 1, PT_W0_STATE, 1), (path 1, PT_W0_PROT, 2), (path 1, PT_W4_PV, 1), (path 0, PT_W0_DOWN, 1)], 0, 0, 0, 1, by decide +kernel⟩,
   ⟨st [(path 0, PT_W0_STATE, 1), (path 0, PT_W0_PROT, 1), (path 0, PT_W4_PV, 1), (path 0, PT_W4_PARTNER, 1), (path 1, PT_W0_STATE, 1), (path 1, PT_W0_PROT, 2), (path 1, PT_W4_PV, 1), (path 0, PT_W0_DOWN, 1)], 0, 0, 0, 1, by decide +kernel⟩,
   ⟨st [(path 0, PT_W0_STATE, 1), (path 0, PT_W0_PROT, 1), (path 0, PT_W4_PV, 1), (path 0, PT_W4_PARTNER, 1), (path 1, PT_W0_STATE, 1), (path 1, PT_W0_PROT, 2), (path 1, PT_W4_PV, 1), (path 0, PT_W0_DOWN, 1)], 0, 0, 0, 1, by decide +kernel⟩,
   ⟨st [(path 0, PT_W0_STATE, 1), (path 0, PT_W0_PROT, 1), (path 0, PT_W4_PV, 1), (path 0, PT_W4_PARTNER, 1), (path 1, PT_W0_STATE, 1), (path 1, PT_W0_PROT, 2), (path 1, PT_W4_PV, 1), (path 0, PT_W0_DOWN, 1)], 0, 0, 0, 1, by decide +kernel⟩,
   ⟨st [(path 0, PT_W0_STATE, 1), (path 0, PT_W0_PROT, 1), (path 0, PT_W4_PV, 1), (path 0, PT_W4_PARTNER, 1), (path 1, PT_W0_STATE, 1), (path 1, PT_W0_PROT, 2), (path 1, PT_W4_PV, 1), (path 0, PT_W0_DOWN, 1)], 0, 0, 0, 1, by decide +kernel⟩,
   ⟨st [(path 0, PT_W0_STATE, 1)], 0, 0, 0, by decide +kernel⟩,
   ⟨st [(path 0, PT_W0_STATE, 1)], 0, 0, 0, by decide +kernel⟩,
   ⟨st [(path 0, PT_W0_STATE, 1)], 0, 0, 0, by decide +kernel⟩,
   ⟨st [(path 0, PT_W0_STATE, 1)], 0, 0, 0, by decide +kernel⟩⟩

/-- The hypotheses of each clause of FramesAndCapturesMoveThroughTheSwitch are met together. -/
theorem wit_FramesAndCapturesMoveThroughTheSwitch :
    (∃ (s : State) (_ : Nat) (_ : List CellFault), s.time.toNat + 8 < 2 ^ 64 ∧ s.rd aon AON_ENT_STEP ≠ 1) ∧
    (∃ (s : State) (_ : Nat) (_ : List CellFault), s.gated sw = true) ∧
    (∃ (s : State) (i : Fin 20) (tgt : Fin 544) (cls : Fin 4) (f : Flow) (c : Cell) (cs : List Cell), tgt.val < 20 ∧ List.find? (fun f => decide (f.inp = i.val) && decide (f.tgt = tgt.val) && decide (f.cls = cls.val)) s.flows = some f ∧ f.cells = c :: cs ∧ s.framesStart = true ∧ (∀ (g : Prog), g ∈ s.progs → g.inp ≠ i.val ∧ g.fid ≠ s.rd sw SW_FID) ∧ s.rd sw SW_FID < 2 ^ 32 ∧ c.time + orOne (s.rd sw SW_CFG_FRAME_TO) * 8 ≤ s.time.toNat ∧ s.room tgt.val cls.val = true) ∧
    (∃ (s : State) (_ : Fin 20) (tgt : Fin 544) (cls : Fin 4), s.room tgt.val cls.val = false) ∧
    (∃ (s : State) (who : Initiator) (_ : Fin 1048576), s.accepts who sw SW_OUT_RESTART_RESTART) ∧
    (∃ (s : State) (who : Initiator) (_ : Fin 4294967296), s.accepts who sw SW_CAP_RD_RD) ∧
    (∃ (s : State) (n : Nat) (rest : List Nat), s.capDrain = n :: rest ∧ s.dramUp = true ∧ s.capAddr n + (s.capture.list n).length ≤ s.usable) ∧
    (∃ (s : State), s.dramUp = false) :=
  ⟨⟨State.reset, 0, [], by decide +kernel⟩,
   ⟨State.reset, 0, [], by decide +kernel⟩,
   ⟨{ on [(sw, sw.enableField, 1)] with flows := [⟨0, 0, 0, [⟨0, 0, 64, 0, [], [], []⟩]⟩], time := 1000000000 }, 0, 0, 0, ⟨0, 0, 0, [⟨0, 0, 64, 0, [], [], []⟩]⟩, ⟨0, 0, 64, 0, [], [], []⟩, [], by decide +kernel⟩,
   ⟨st [(sw, SW_OUT_OCC_HALTED.nth 0, 1)], 0, 0, 0, by decide +kernel⟩,
   ⟨on [], .marionette, 0, by decide +kernel⟩,
   ⟨on [], .marionette, 0, by decide +kernel⟩,
   ⟨{ on [(memp, MEM_STATUS_STATE, 2), (memp, MEM_CAP_USABLE, 1)] with capDrain := [0], capture := [(0, [1])] }, 0, [], by decide +kernel⟩,
   ⟨State.reset, by decide +kernel⟩⟩

/-- The hypotheses of each clause of CalendarAndShapersGiveCredit are met together. -/
theorem wit_CalendarAndShapersGiveCredit :
    (∃ (s : State), s.time.toNat + 64 < 2 ^ 64 ∧ s.gated (alm 0) = false) ∧
    (∃ (s : State) (k : Fin 4096), s.is (shaper k.val) SH_WAIT = true ∧ (s.time.toNat + 2 ^ 32 - s.rd (shaper k.val) SH_W3_NEXT_ELIG) % 2 ^ 32 < 2 ^ 31 ∧ s.waiting = [] ∧ 0 ≤ s.shTokens k.val) ∧
    (∃ (s : State) (k : Fin 4096), s.is (shaper k.val) SH_WAIT = false) :=
  ⟨⟨on [], by decide +kernel⟩,
   ⟨st [(shaper 0, SH_WAIT, 1)], 0, by decide +kernel⟩,
   ⟨State.reset, 0, by decide +kernel⟩⟩

/-- The hypotheses of each clause of TurnoverAppliesArmedPages are met together. -/
theorem wit_TurnoverAppliesArmedPages :
    (∃ (_ : State) (p : Page), p ∈ bound1) ∧
    (∃ (_ : State) (p : Page), p ∈ bound1) ∧
    (∃ (_ : State) (p : Page), p ∈ bound1) ∧
    (∃ (_ : State) (p : Page), p ∈ bound1) ∧
    (∃ (_ : State) (p : Page), p ∈ bound1) ∧
    (∃ (s : State) (k : Nat), s.regs.sorted = true ∧ k ∈ s.entries ∧ s.rd (path k) PT_W0_STATE = 2) ∧
    (∃ (s : State) (k : Nat), s.regs.sorted = true ∧ k ∈ s.entries ∧ s.rd (path k) PT_W0_STATE = 3) ∧
    (∃ (s : State) (k : Nat), s.regs.sorted = true ∧ k ∈ s.entries ∧ s.rd (path k) PT_W0_STATE = 3) ∧
    (∃ (_ : State) (e : Nat) (f : Field) (i : Nat), e < 26 ∧ f ∈ almAllocFields ∧ i < f.cnt) ∧
    (∃ (s : State) (k : Nat), k < 4096 ∧ s.rd (shaper k) SH_W0_RATE < 2 ^ 17 ∧ s.rd (shaper k) SH_W0_BURST < 2 ^ 15) ∧
    (∃ (s : State) (k : Nat), k < 4096 ∧ s.rd (shaper k) SH_W0_RATE < 2 ^ 17 ∧ s.rd (shaper k) SH_W0_BURST < 2 ^ 15) ∧
    (∃ (_ : State) (n : Nat) (f : Field), n < 6 ∧ f ∈ shFields (link n) ∧ f.cnt = 1) :=
  ⟨⟨State.reset, sw, by decide +kernel⟩,
   ⟨State.reset, sw, by decide +kernel⟩,
   ⟨State.reset, sw, by decide +kernel⟩,
   ⟨State.reset, sw, by decide +kernel⟩,
   ⟨State.reset, sw, by decide +kernel⟩,
   ⟨st [(path 0, PT_W0_STATE, 2)], 0, by decide +kernel⟩,
   ⟨st [(path 0, PT_W0_STATE, 3)], 0, by decide +kernel⟩,
   ⟨st [(path 0, PT_W0_STATE, 3)], 0, by decide +kernel⟩,
   ⟨State.reset, 0, ALM_CLASS_Q3, 0, by decide +kernel⟩,
   ⟨State.reset, 0, by decide +kernel⟩,
   ⟨State.reset, 0, by decide +kernel⟩,
   ⟨State.reset, 0, LK_SET_SET, by decide +kernel⟩⟩

/-- The hypotheses of each clause of PciePortAndLinksComeUp are met together. -/
theorem wit_PciePortAndLinksComeUp :
    (∃ (s : State) (who : Initiator), s.accepts who pcie PE_CFG_PORT_RST ∧ s.endpointRole = false ∧ s.clock + 100000 < 2 ^ 64) ∧
    (∃ (s : State) (who : Initiator) (l : Fin 4), s.accepts who pcie (PE_LINK_CFG_RESET.nth l.val) ∧ s.endpointRole = false ∧ s.clock + 100000 < 2 ^ 64) ∧
    (∃ (s : State) (l : Fin 4) (_ : Fin 9) (_ : Fin 6), s.gated pcie = false ∧ s.attach l.val ≠ 0 ∧ bifurLanes (s.rd pcie PE_BIFUR_ACT) l.val ≠ 0 ∧ s.rd pcie (PE_RST_END.nth l.val) ≤ s.clock ∧ s.rdBit glb GLB_REFCLK_LOST 6 = false ∧ s.perstHeld l.val = false ∧ s.endpointRole = false ∧ s.rd pcie PE_GEN_ACT < 8 ∧ s.mild { kind := PageKind.pelane, inst := 0 } 4) ∧
    (∃ (s : State) (l : Fin 4), s.is pcie (PE_LINK_STS_DL_ACTIVE.nth l.val) = true ∧ s.mild pcie 0) ∧
    (∃ (s : State), s.endpointRole = true ∧ s.ps ≠ 5 ∧ s.gated pcie = false ∧ (∀ (n : Nat), n < 8 → s.gated (pca n) = false)) ∧
    (∃ (s : State), s.endpointRole = false ∧ s.ps ≠ 5 ∧ s.moabeuc = false) ∧
    (∃ (s : State), s.endpointRole = true ∧ s.is pcie PE_PERST_N = false ∧ s.ps ≤ 1) ∧
    (∃ (s : State), s.is pcie PE_PERST_N = true) :=
  ⟨⟨on [], .marionette, by decide +kernel⟩,
   ⟨on [], .marionette, 0, by decide +kernel⟩,
   ⟨on [(pcie, PE_LINK_CFG_ATTACH.nth 0, 1)], 0, 0, 0, by decide +kernel⟩,
   ⟨st [(pcie, PE_LINK_STS_DL_ACTIVE.nth 0, 1)], 0, by decide +kernel⟩,
   ⟨on [(glb, GLB_STRAP_ROLE, 1)], by decide +kernel⟩,
   ⟨State.reset, by decide +kernel⟩,
   ⟨st [(glb, GLB_STRAP_ROLE, 1)], by decide +kernel⟩,
   ⟨st [(pcie, PE_PERST_N, 1)], by decide +kernel⟩⟩

/-- The hypotheses of each clause of AdaptersCarryTlps are met together. -/
theorem wit_AdaptersCarryTlps :
    (∃ (s : State) (n : Fin 8) (x : Tlp), x.ecrcBad = false ∧ x.poisoned = false ∧ x.malformed = false ∧ x.kind = TlpKind.posted ∧ s.pcaMode n.val ≠ 0 ∧ s.pcaShut n.val = false) ∧
    (∃ (s : State) (n : Fin 8) (x : Tlp), x.ecrcBad = false ∧ x.poisoned = false ∧ x.malformed = false ∧ x.kind = TlpKind.mrd ∧ s.pcaMode n.val ≠ 0 ∧ s.pcaShut n.val = false ∧ (s.pcaOf n.val).held = [] ∧ s.tableRoom n.val = true ∧ s.mild pcie 5) ∧
    (∃ (s : State) (n : Fin 8) (x : Tlp), x.ecrcBad = false ∧ x.poisoned = false ∧ x.malformed = false ∧ x.kind = TlpKind.mrd ∧ s.pcaMode n.val ≠ 0 ∧ s.pcaShut n.val = true ∧ s.rd (pca n.val) PCA_CNT_UR_GEN < 2 ^ 32 - 1) ∧
    (∃ (s : State) (n : Fin 8) (x : Tlp), x.ecrcBad = false ∧ x.poisoned = false ∧ x.malformed = false ∧ x.kind = TlpKind.posted ∧ s.pcaMode n.val ≠ 0 ∧ s.pcaPathUp n.val = true ∧ s.is (pca n.val) PG_STATUS_CONTAINED = false ∧ s.mild pcie 5 ∧ (s.pcaOf n.val).join = [] ∧ s.localUp n.val = false) ∧
    (∃ (s : State) (n : Fin 8) (x : Tlp), x.ecrcBad = false ∧ x.poisoned = false ∧ x.malformed = false ∧ x.kind = TlpKind.posted ∧ s.pcaMode n.val ≠ 0 ∧ s.pcaPathUp n.val = true ∧ s.is (pca n.val) PG_STATUS_CONTAINED = false ∧ s.mild pcie 5 ∧ (s.pcaOf n.val).join = [] ∧ s.localUp n.val = true) ∧
    (∃ (s : State) (n : Fin 8) (x : Tlp) (r : NpReq), x.ecrcBad = false ∧ x.poisoned = false ∧ x.malformed = false ∧ x.last = true ∧ s.pcaMode n.val ≠ 0 ∧ s.pcaPathUp n.val = true ∧ s.is (pca n.val) PG_STATUS_CONTAINED = false ∧ s.mild pcie 5 ∧ (s.pcaOf n.val).join = [] ∧ (∀ (e : Nat × Pca), e ∈ s.pcas → e.snd.held = []) ∧ List.find? (fun r => decide (r.req = x.req) && decide (r.tag = x.tag)) (s.pcaOf n.val).reqs = some r ∧ s.timedOut n.val r = false) ∧
    (∃ (s : State) (n : Fin 8) (x : Tlp), x.ecrcBad = false ∧ x.poisoned = false ∧ x.malformed = false ∧ s.pcaMode n.val ≠ 0 ∧ s.pcaPathUp n.val = true ∧ s.is (pca n.val) PG_STATUS_CONTAINED = false ∧ s.mild pcie 5 ∧ (∀ (r : NpReq), r ∈ (s.pcaOf n.val).reqs → ¬(r.req = x.req ∧ r.tag = x.tag)) ∧ s.mild (pca n.val) 3 ∧ s.rd (pca n.val) PCA_CNT_UNEXP_CPL < 2 ^ 32 - 1) ∧
    (∃ (s : State) (n : Fin 8) (x : Tlp) (rest : List Tlp), (s.pcaOf n.val).np = x :: rest ∧ s.localUp n.val = true ∧ s.reserves n.val = false ∧ s.mild pcie 5) ∧
    (∃ (s : State) (n : Fin 8) (x : Tlp) (rest : List Tlp), (s.pcaOf n.val).np = x :: rest ∧ s.localUp n.val = true ∧ s.reserves n.val = true ∧ s.rd pcie PE_POOL_FREE < unitsFor x) ∧
    (∃ (s : State) (n : Fin 8) (req : Fin 65536) (tag : Fin 1024) (r : NpReq), List.find? (fun r => decide (r.req = req.val) && decide (r.tag = tag.val)) (s.pcaOf n.val).reqs = some r ∧ s.timedOut n.val r = true ∧ (∀ (e : Nat × Pca), e ∈ s.pcas → e.snd.held = []) ∧ s.mild pcie 5 ∧ s.mild (pca n.val) 0 ∧ s.rd (pca n.val) PCA_CNT_TIMEOUT < 2 ^ 32 - 1) ∧
    (∃ (s : State) (n : Fin 8) (x : Tlp), x.ecrcBad = false ∧ x.poisoned = false ∧ x.malformed = false ∧ s.pcaMode n.val = 2 ∧ s.endpointRole = false ∧ s.pcaPathUp n.val = true ∧ s.is (pca n.val) PG_STATUS_CONTAINED = false ∧ s.mild pcie 5 ∧ (s.pcaOf n.val).join = [] ∧ (s.pcaOf n.val).np = []) ∧
    (∃ (s : State) (n : Fin 8) (x : Tlp), x.ecrcBad = false ∧ x.poisoned = false ∧ x.malformed = false ∧ 2 ≤ s.pcaMode n.val ∧ s.mild (pca n.val) 4) ∧
    (∃ (s : State) (n : Fin 8), s.is (pca n.val) PCA_STATE_LOCKED = true) ∧
    (∃ (s : State) (n : Fin 8), s.is (pca n.val) PCA_STATE_LOCKED = false) ∧
    (∃ (s : State) (n : Fin 8), s.is (pca n.val) PCA_STATE_LOCKED = true ∧ s.mild (pca n.val) 2 ∧ s.rd (pca n.val) PCA_LOCK_TIME + orOne (s.rd (pca n.val) PCA_CFG_LOCK_TO) * 1000000 ≤ s.clock) ∧
    (∃ (s : State) (who : Initiator) (n : Fin 8), s.accepts who (pca n.val) PCA_CTRL_RELEASE ∧ s.pcaPathUp n.val = true) ∧
    (∃ (s : State) (who : Initiator) (n : Fin 8), s.accepts who (pca n.val) PCA_CTRL_RELEASE ∧ s.pcaPathUp n.val = false) ∧
    (∃ (s : State) (who : Initiator) (n : Fin 8) (m : Fin 4) (d : Fin 2) (tx : Fin 65536) (rx : Fin 65536), s.accepts who (pca n.val) PCA_CTRL_MODE ∧ s.rd (pca n.val) PCA_CTRL_MODE ≠ m.val ∧ s.rd (pca n.val) PCA_CTRL_DOM = d.val ∧ s.rd (pca n.val) PCA_TUN_TX_HANDLE = tx.val ∧ s.rd (pca n.val) PCA_TUN_RX_HANDLE = rx.val) :=
  ⟨⟨st [(path 0, PT_W0_STATE, 1), (path 0, PT_W0_IN_PORT, 8), (path 0, PT_W1_OUT_PORT, 8), (pca 0, PCA_CTRL_MODE, 1)], 0, ⟨.posted, 0, 0, 0, false, false, false, false, []⟩, by decide +kernel⟩,
   ⟨st [(path 0, PT_W0_STATE, 1), (path 0, PT_W0_IN_PORT, 8), (path 0, PT_W1_OUT_PORT, 8), (pca 0, PCA_CTRL_MODE, 1)], 0, ⟨.mrd, 1, 2, 4, true, false, false, false, [1]⟩, by decide +kernel⟩,
   ⟨st [(pca 0, PCA_CTRL_MODE, 1)], 0, ⟨.mrd, 1, 2, 4, true, false, false, false, [1]⟩, by decide +kernel⟩,
   ⟨st [(path 0, PT_W0_STATE, 1), (path 0, PT_W0_IN_PORT, 8), (path 0, PT_W1_OUT_PORT, 8), (pca 0, PCA_CTRL_MODE, 3)], 0, ⟨.posted, 0, 0, 0, false, false, false, false, []⟩, by decide +kernel⟩,
   ⟨st [(path 0, PT_W0_STATE, 1), (path 0, PT_W0_IN_PORT, 8), (path 0, PT_W1_OUT_PORT, 8), (pca 0, PCA_CTRL_MODE, 1)], 0, ⟨.posted, 0, 0, 0, false, false, false, false, []⟩, by decide +kernel⟩,
   ⟨(let s := st [(path 0, PT_W0_STATE, 1), (path 0, PT_W0_IN_PORT, 8), (path 0, PT_W1_OUT_PORT, 8), (pca 0, PCA_CTRL_MODE, 1)]; s.setPca 0 { s.pcaOf 0 with reqs := [⟨1, 2, 0⟩] }), 0, ⟨.cpl, 1, 2, 4, true, false, false, false, [1]⟩, ⟨1, 2, 0⟩, by decide +kernel⟩,
   ⟨st [(path 0, PT_W0_STATE, 1), (path 0, PT_W0_IN_PORT, 8), (path 0, PT_W1_OUT_PORT, 8), (pca 0, PCA_CTRL_MODE, 1)], 0, ⟨.posted, 0, 0, 0, false, false, false, false, []⟩, by decide +kernel⟩,
   ⟨State.reset.setPca 0 { State.reset.pcaOf 0 with np := [⟨.mrd, 1, 2, 4, true, false, false, false, [1]⟩] }, 0, ⟨.mrd, 1, 2, 4, true, false, false, false, [1]⟩, [], by decide +kernel⟩,
   ⟨(let s := st [(glb, GLB_STRAP_ROLE, 1), (pcie, PE_LINK_STS_DL_ACTIVE.nth 0, 1)]; (s.setPca 0 { s.pcaOf 0 with np := [⟨.mrd, 1, 2, 4, true, false, false, false, [1]⟩] }).wr pcie PE_POOL_FREE 0), 0, ⟨.mrd, 1, 2, 4, true, false, false, false, [1]⟩, [], by decide +kernel⟩,
   ⟨{ State.reset.setPca 0 { State.reset.pcaOf 0 with reqs := [⟨1, 2, 0⟩] } with clock := 1000000000000 }, 0, 1, 2, ⟨1, 2, 0⟩, by decide +kernel⟩,
   ⟨st [(path 0, PT_W0_STATE, 1), (path 0, PT_W0_IN_PORT, 8), (path 0, PT_W1_OUT_PORT, 8), (pca 0, PCA_CTRL_MODE, 2)], 0, ⟨.posted, 0, 0, 0, false, false, false, false, []⟩, by decide +kernel⟩,
   ⟨st [(pca 0, PCA_CTRL_MODE, 2)], 0, ⟨.posted, 0, 0, 0, false, false, false, false, []⟩, by decide +kernel⟩,
   ⟨st [(pca 0, PCA_STATE_LOCKED, 1)], 0, by decide +kernel⟩,
   ⟨State.reset, 0, by decide +kernel⟩,
   ⟨{ st [(pca 0, PCA_STATE_LOCKED, 1)] with clock := 1000000000000 }, 0, by decide +kernel⟩,
   ⟨on [(path 0, PT_W0_STATE, 1), (path 0, PT_W0_IN_PORT, 8), (path 0, PT_W1_OUT_PORT, 8)], .marionette, 0, by decide +kernel⟩,
   ⟨on [], .marionette, 0, by decide +kernel⟩,
   ⟨on [(pca 0, PCA_CTRL_MODE, 1)], .marionette, 0, 0, 0, 0, 0, by decide +kernel⟩⟩

/-- The hypotheses of each clause of SidebandsAreMirrored are met together. -/
theorem wit_SidebandsAreMirrored :
    (∃ (s : State) (n : Fin 8) (_ : Fin 32), s.pcaMode n.val ≠ 0 ∧ s.pcaPathUp n.val = true ∧ s.rd (pca n.val) PCA_SB_TIME = 0 ∧ s.clock + 1 < 2 ^ 65) ∧
    (∃ (s : State) (n : Fin 8) (_ : Fin 32), s.pcaMode n.val ≠ 0 ∧ s.pcaPathUp n.val = false) ∧
    (∃ (s : State) (n : Fin 8) (_ : Fin 256) (_ : Fin 4294967296), s.is (pca n.val) PCA_SB_RXV = false ∧ s.rd (pca n.val) PCA_HOLD ≤ s.clock) ∧
    (∃ (s : State) (n : Fin 8) (seq : Fin 256) (_ : Fin 4294967296), s.is (pca n.val) PCA_SB_RXV = true ∧ ((seq.val + 256 - s.rd (pca n.val) PCA_SB_RXSEQ) % 256 = 0 ∨ 127 < (seq.val + 256 - s.rd (pca n.val) PCA_SB_RXSEQ) % 256)) ∧
    (∃ (s : State) (n : Fin 8), s.clock < s.rd (pca n.val) PCA_HOLD) ∧
    (∃ (s : State) (n : Fin 8), s.rd (pca n.val) PCA_HOLD ≤ s.clock ∧ s.is (pca n.val) PCA_PULSE = true) :=
  ⟨⟨{ st [(path 0, PT_W0_STATE, 1), (path 0, PT_W0_IN_PORT, 8), (path 0, PT_W1_OUT_PORT, 8), (pca 0, PCA_CTRL_MODE, 1)] with clock := 1000000000000 }, 0, 0, by decide +kernel⟩,
   ⟨st [(pca 0, PCA_CTRL_MODE, 1)], 0, 0, by decide +kernel⟩,
   ⟨{ State.reset with clock := 1000000000000 }, 0, 0, 0, by decide +kernel⟩,
   ⟨st [(pca 0, PCA_SB_RXV, 1)], 0, 0, 0, by decide +kernel⟩,
   ⟨{ st [(pca 0, PCA_HOLD, 18446744073709551615)] with clock := 1000000000000 }, 0, by decide +kernel⟩,
   ⟨{ st [(pca 0, PCA_PULSE, 1)] with clock := 1000000000000 }, 0, by decide +kernel⟩⟩

/-- The hypotheses of each clause of BridgesReadAndWriteRemoteHubs are met together. -/
theorem wit_BridgesReadAndWriteRemoteHubs :
    (∃ (s : State) (who : Initiator) (_ : Fin 16777216) (_ : Fin 16) (_ : Fin 4294967296) (tag : Nat), (who = Initiator.host0 ∨ who = Initiator.host1 ∨ who = Initiator.marionette) ∧ s.awake ∧ s.works bridge = true ∧ s.remHub who ≠ 0 ∧ s.remHub who ≠ 65535 ∧ s.bound (s.remSlot who) = true ∧ s.hubId (s.remSlot who) ≠ s.remHub who ∧ s.prefetch = [] ∧ (∀ (y : RemAcc), y ∈ s.remq → y.who ≠ who) ∧ (∀ (r : Req), r ∈ s.reqs → r.use ≠ remUse who) ∧ s.freeTag (s.remSlot who) = some tag) ∧
    (∃ (s : State) (who : Initiator) (_ : Fin 16777216) (_ : Fin 16) (_ : Fin 4294967296) (tag : Nat), (who = Initiator.host0 ∨ who = Initiator.host1 ∨ who = Initiator.marionette) ∧ s.awake ∧ s.works bridge = true ∧ s.remHub who = 0 ∧ (∀ (y : RemAcc), y ∈ s.remq → y.who ≠ who) ∧ (∀ (r : Req), r ∈ s.reqs → r.use ≠ remUse who) ∧ s.freeTag (s.remSlot who) = some tag ∧ s.mild pathctl 10) ∧
    (∃ (_ : State) (who : Initiator) (_ : Fin 16777216) (_ : Bool) (_ : Fin 16) (_ : Fin 4294967296), (who = Initiator.engineOwn ∨ who = Initiator.engineOther ∨ who = Initiator.remote ∨ who = Initiator.jtag ∨ who = Initiator.smbus)) ∧
    (∃ (s : State) (who : Initiator) (_ : Fin 65536), (who = Initiator.host0 ∨ who = Initiator.host1 ∨ who = Initiator.marionette ∨ who = Initiator.smbus ∨ who = Initiator.ngunov) ∧ s.accepts who bridge BR_RSEL_HUB_ID) ∧
    (∃ (s : State) (ok : Bool) (_ : Fin 33554432), (s.is bridge BR_SMB_CFG_PEC = false ∨ ok = true) ∧ s.smb = none) ∧
    (∃ (s : State) (ok : Bool) (_ : Nat), (s.is bridge BR_SMB_CFG_PEC = false ∨ ok = true) ∧ s.rd bridge BR_SMB_PTR_ADDR + 4 ≤ 16777216) ∧
    (∃ (s : State) (ok : Bool) (n : Fin 256), (s.is bridge BR_SMB_CFG_PEC = false ∨ ok = true) ∧ 1 ≤ n.val ∧ n.val ≤ 8 ∧ s.rd bridge BR_SMB_PTR_ADDR + 4 * n.val ≤ 16777216 ∧ s.prefetch = []) ∧
    (∃ (s : State) (ok : Bool) (n : Fin 256), (s.is bridge BR_SMB_CFG_PEC = false ∨ ok = true) ∧ (n.val = 0 ∨ 8 < n.val) ∧ s.mild bridge 2) ∧
    (∃ (s : State) (ok : Bool) (_ : Fin 65536), (s.is bridge BR_SMB_CFG_PEC = false ∨ ok = true) ∧ s.accepts Initiator.smbus bridge BR_RSEL_HUB_ID) ∧
    (∃ (s : State) (c : Instr), (c = Instr.setAddr false 0 ∨ c = Instr.smbWrite false [0] ∨ c = Instr.readStart false 1 ∨ c = Instr.select false 1) ∧ s.is bridge BR_SMB_CFG_PEC = true ∧ s.mild bridge 1) ∧
    (∃ (s : State), s.mild bridge 2) ∧
    (∃ (s : State) (r : SmbRead), s.smb = some r ∧ r.miss = 0 ∧ s.rd bridge BR_SMB_STATUS_STATE = 1) ∧
    (∃ (s : State) (r : SmbRead), s.smb = some r ∧ s.rd bridge BR_SMB_STATUS_STATE = 2 ∧ s.is bridge BR_CFG_PF_EN = false) ∧
    (∃ (s : State) (r : SmbRead), s.smb = some r ∧ (s.rd bridge BR_SMB_STATUS_STATE = 2 ∨ s.rd bridge BR_SMB_STATUS_STATE = 3) ∧ r.time + clamp 4 4000 (s.rd bridge BR_CFG_DISC_TO) * 16000 ≤ s.clock ∧ s.mild bridge 0 ∧ s.rd bridge BR_CNT_DISCARD < 2 ^ 32 - 1) :=
  ⟨⟨on [(bridge, bridge.enableField, 1), (bridge, BR_RSEL_BANK.nth 2, 1), (pathctl, PC_DOM_BOUND.nth 0, 1)], .marionette, 0, 0, 0, 0, by decide +kernel⟩,
   ⟨on [(bridge, bridge.enableField, 1)], .marionette, 0, 0, 0, 0, by decide +kernel⟩,
   ⟨State.reset, .smbus, 0, false, 0, 0, by decide +kernel⟩,
   ⟨on [], .marionette, 0, by decide +kernel⟩,
   ⟨State.reset, false, 0, by decide +kernel⟩,
   ⟨State.reset, false, 0, by decide +kernel⟩,
   ⟨State.reset, false, 1, by decide +kernel⟩,
   ⟨State.reset, false, 0, by decide +kernel⟩,
   ⟨on [], false, 0, by decide +kernel⟩,
   ⟨st [(bridge, BR_SMB_CFG_PEC, 1)], .setAddr false 0, by decide +kernel⟩,
   ⟨State.reset, by decide +kernel⟩,
   ⟨{ st [(bridge, BR_SMB_STATUS_STATE, 1)] with smb := some ⟨0, [1], 0, 0, 0, 0, false, 0⟩ }, ⟨0, [1], 0, 0, 0, 0, false, 0⟩, by decide +kernel⟩,
   ⟨{ st [(bridge, BR_SMB_STATUS_STATE, 2), (bridge, BR_CFG_PF_EN, 0)] with smb := some ⟨0, [1], 0, 0, 0, 0, false, 0⟩ }, ⟨0, [1], 0, 0, 0, 0, false, 0⟩, by decide +kernel⟩,
   ⟨{ st [(bridge, BR_SMB_STATUS_STATE, 2)] with smb := some ⟨0, [1], 0, 0, 0, 0, false, 0⟩, clock := 1000000000000 }, ⟨0, [1], 0, 0, 0, 0, false, 0⟩, by decide +kernel⟩⟩

/-- The hypotheses of each clause of PipelinesTakeStreamsAndHold are met together. -/
theorem wit_PipelinesTakeStreamsAndHold :
    (∃ (s : State) (n : Fin 4) (h : Fin 65536) (_ : StreamEvt), s.works (disp n.val) = true ∧ s.rd (disp n.val) DISP_PATH_A_PT_HANDLE ≠ h.val ∧ s.mild (disp n.val) 4 ∧ s.rd (disp n.val) DISP_CNT_CMD_ERR < 2 ^ 32 - 1) ∧
    (∃ (s : State) (n : Fin 4) (h : Fin 65536) (_ : Msa), s.works (disp n.val) = true ∧ s.rd (disp n.val) DISP_PATH_A_PT_HANDLE = h.val ∧ h ≠ 0 ∧ s.dst n.val ≠ 0 ∧ (s.dispOf n.val).msa = none) ∧
    (∃ (s : State) (n : Fin 4) (m : Msa), s.gated (disp n.val) = false ∧ (s.dispOf n.val).msa = some m ∧ s.dst n.val = 1 ∧ s.paired n.val = false ∧ s.rd (disp n.val) DISP_STIME + s.twoPeriods n.val ≤ s.clock ∧ s.is (disp n.val) DISP_VB = false ∧ s.is (disp n.val) DISP_FORCED = false ∧ s.mild (disp n.val) 1) ∧
    (∃ (s : State) (who : Initiator) (n : Fin 4), s.accepts who (disp n.val) DISP_CTRL_HOLD_REQ ∧ s.paired n.val = false ∧ s.dst n.val = 1 ∧ s.is (disp n.val) DISP_HOLD_RQ = false) ∧
    (∃ (s : State) (who : Initiator) (n : Fin 4) (c : Instr), (c = Instr.resumeReq who n ∧ s.accepts who (disp n.val) DISP_CTRL_RESUME_REQ ∨ c = Instr.holdReq who n true ∧ s.accepts who (disp n.val) DISP_CTRL_HOLD_REQ) ∧ s.paired n.val = false ∧ s.dst n.val = 2) ∧
    (∃ (s : State) (n : Fin 4), s.gated (disp n.val) = false ∧ s.atVblank n.val = true ∧ s.dst n.val = 4 ∧ s.paired n.val = false ∧ s.is (disp n.val) PG_SHADOW_CTRL_ARMED = false ∧ s.is (dout n.val) PG_SHADOW_CTRL_ARMED = false ∧ (s.dispOf n.val).commits = [] ∧ s.mayLengthen n.val = false ∧ s.normalBlank n.val < 2 ^ 17) ∧
    (∃ (s : State) (n : Fin 4) (c : Nat), s.gated (disp n.val) = false ∧ s.atVblank n.val = true ∧ s.dst n.val = 1 ∧ s.paired n.val = false ∧ s.is (disp n.val) PG_SHADOW_CTRL_ARMED = false ∧ s.is (dout n.val) PG_SHADOW_CTRL_ARMED = false ∧ (s.dispOf n.val).commits = [] ∧ s.is (disp n.val) DISP_FORCED = false ∧ s.rd (disp n.val) DISP_HOLD_RQ = c ∧ 1 ≤ c ∧ c ≤ 2 ∧ s.capShown n.val = true) ∧
    (∃ (s : State) (n : Fin 4) (_ : Fin 65536), s.gated (disp n.val) = false ∧ s.paired n.val = false ∧ s.is (disp n.val) DISP_VB = true ∧ (s.dst n.val = 2 ∨ s.dst n.val = 4) ∧ s.frameReady n.val = false ∧ s.rd (disp n.val) DISP_LINE < 2 ^ 17 - 1) ∧
    (∃ (s : State) (n : Fin 4) (_ : Fin 65536), s.works (disp n.val) = true ∧ s.is (disp n.val) PG_STATUS_CONTAINED = false ∧ s.paired n.val = false ∧ s.is (disp n.val) DISP_VB = true ∧ s.dst n.val = 4 ∧ s.rd (disp n.val) DISP_BLANK ≤ s.rd (disp n.val) DISP_LINE ∧ (s.dispOf n.val).commits = [] ∧ s.mild (disp n.val) 0) :=
  ⟨⟨on [(disp 0, (disp 0).enableField, 1), (disp 0, DISP_PATH_A_PT_HANDLE, 1)], 0, 0, .line true [], by decide +kernel⟩,
   ⟨on [(disp 0, (disp 0).enableField, 1), (disp 0, DISP_PATH_A_PT_HANDLE, 1), (disp 0, DISP_STATUS_STATE, 1)], 0, 1, ⟨100, 80, 0, 0, 0, 100, 80, 0, 0, 0, 1000, 8, false, false⟩, by decide +kernel⟩,
   ⟨(let s := on [(disp 0, DISP_VB, 0), (disp 0, DISP_STATUS_STATE, 1)]; { s.setDisp 0 { s.dispOf 0 with msa := some ⟨100, 80, 0, 0, 0, 100, 80, 0, 0, 0, 1000, 8, false, false⟩ } with clock := 1000000000000 }), 0, ⟨100, 80, 0, 0, 0, 100, 80, 0, 0, 0, 1000, 8, false, false⟩, by decide +kernel⟩,
   ⟨on [(disp 0, DISP_STATUS_STATE, 1)], .marionette, 0, by decide +kernel⟩,
   ⟨on [(disp 0, DISP_STATUS_STATE, 2)], .marionette, 0, .resumeReq .marionette 0, by decide +kernel⟩,
   ⟨on [(disp 0, DISP_VB, 0), (disp 0, DISP_STATUS_STATE, 4)], 0, by decide +kernel⟩,
   ⟨(let s := on [(disp 0, DISP_VB, 0), (disp 0, DISP_HOLD_RQ, 1), (disp 0, DISP_STATUS_STATE, 1), (disp 0, DISP_STATUS_CAP_VALID, 1)]; s.setDisp 0 { s.dispOf 0 with msa := some ⟨100, 80, 0, 0, 0, 100, 80, 0, 0, 0, 1000, 8, false, false⟩, caps := [(0, ⟨0, 80, 0, 0, 8, false, 0⟩)] }), 0, 1, by decide +kernel⟩,
   ⟨on [(disp 0, DISP_STATUS_STATE, 2)], 0, 0, by decide +kernel⟩,
   ⟨on [(disp 0, (disp 0).enableField, 1), (disp 0, DISP_STATUS_STATE, 4)], 0, 0, by decide +kernel⟩⟩

/-- The hypotheses of each clause of RetainedCommandsChangeSurfaces are met together. -/
theorem wit_RetainedCommandsChangeSurfaces :
    (∃ (s : State) (n : Fin 4) (h : Fin 65536) (_ : Fin 65536) (f : Fin 8) (r : Rect) (data : List Byte), s.works (disp n.val) = true ∧ s.rd (disp n.val) DISP_PATH_A_RC_HANDLE = h.val ∧ h ≠ 0 ∧ (s.dispOf n.val).cmds = [] ∧ s.dramUp = true ∧ s.surfOn n.val f.val = true ∧ s.inSurf n.val f.val r = true ∧ r.h = 1 ∧ s.is (disp n.val) (SURF_STATE_COMMIT_PEND.nth f.val) = false ∧ s.is (disp n.val) (SURF_STATE_COPYING.nth f.val) = false ∧ s.surfAddr n.val f.val true r.x r.y + r.w * fmtBytes (s.fmt n.val f.val) ≤ s.usable ∧ s.rd (disp n.val) DISP_CNT_CMD < 2 ^ 32 - 1 ∧ data.length = r.w * fmtBytes (s.fmt n.val f.val)) ∧
    (∃ (s : State) (n : Fin 4) (h : Fin 65536) (_ : Fin 65536) (f : Fin 8) (r : Rect) (_ : Fin 4294967296), s.works (disp n.val) = true ∧ s.rd (disp n.val) DISP_PATH_A_RC_HANDLE = h.val ∧ h ≠ 0 ∧ (s.dispOf n.val).cmds = [] ∧ s.dramUp = true ∧ s.surfOn n.val f.val = true ∧ s.inSurf n.val f.val r = true ∧ r.h = 1 ∧ s.is (disp n.val) (SURF_STATE_COMMIT_PEND.nth f.val) = false ∧ s.is (disp n.val) (SURF_STATE_COPYING.nth f.val) = false ∧ s.surfAddr n.val f.val true r.x r.y + r.w * fmtBytes (s.fmt n.val f.val) ≤ s.usable ∧ s.rd (disp n.val) DISP_CNT_CMD < 2 ^ 32 - 1) ∧
    (∃ (s : State) (n : Fin 4) (h : Fin 65536) (_ : Fin 65536) (f : Fin 8) (g : Fin 8) (r : Rect) (sx : Fin 65536) (sy : Fin 65536), s.works (disp n.val) = true ∧ s.rd (disp n.val) DISP_PATH_A_RC_HANDLE = h.val ∧ h ≠ 0 ∧ (s.dispOf n.val).cmds = [] ∧ s.dramUp = true ∧ s.surfOn n.val f.val = true ∧ s.inSurf n.val f.val r = true ∧ r.h = 1 ∧ s.is (disp n.val) (SURF_STATE_COMMIT_PEND.nth f.val) = false ∧ s.is (disp n.val) (SURF_STATE_COPYING.nth f.val) = false ∧ s.surfAddr n.val f.val true r.x r.y + r.w * fmtBytes (s.fmt n.val f.val) ≤ s.usable ∧ s.rd (disp n.val) DISP_CNT_CMD < 2 ^ 32 - 1 ∧ s.surfOn n.val g.val = true ∧ s.fmt n.val f.val = s.fmt n.val g.val ∧ s.inSurf n.val g.val { x := sx.val, y := sy.val, w := r.w, h := r.h } = true) ∧
    (∃ (s : State) (n : Fin 4) (h : Fin 65536) (_ : Fin 65536) (_ : Fin 256), s.works (disp n.val) = true ∧ s.rd (disp n.val) DISP_PATH_A_RC_HANDLE = h.val ∧ h ≠ 0 ∧ (s.dispOf n.val).cmds = []) ∧
    (∃ (s : State) (n : Fin 4) (h : Fin 65536) (_ : Fin 65536), s.works (disp n.val) = true ∧ s.rd (disp n.val) DISP_PATH_A_RC_HANDLE = h.val ∧ h ≠ 0 ∧ (s.dispOf n.val).cmds = [] ∧ s.rd (disp n.val) DISP_CNT_CMD < 2 ^ 32 - 1) ∧
    (∃ (s : State) (n : Fin 4) (h : Fin 65536) (_ : Fin 65536) (f : Fin 8) (r : Rect), s.works (disp n.val) = true ∧ s.rd (disp n.val) DISP_PATH_A_RC_HANDLE = h.val ∧ h ≠ 0 ∧ (s.dispOf n.val).cmds = [] ∧ s.dramUp = true ∧ s.surfOn n.val f.val = true ∧ s.inSurf n.val f.val r = true ∧ r.h = 1 ∧ s.is (disp n.val) (SURF_STATE_COMMIT_PEND.nth f.val) = false ∧ s.is (disp n.val) (SURF_STATE_COPYING.nth f.val) = false ∧ s.surfAddr n.val f.val true r.x r.y + r.w * fmtBytes (s.fmt n.val f.val) ≤ s.usable ∧ s.rd (disp n.val) DISP_CNT_CMD < 2 ^ 32 - 1) ∧
    (∃ (s : State) (n : Fin 4) (h : Fin 65536) (_ : Fin 65536) (op : Fin 256), s.works (disp n.val) = true ∧ s.rd (disp n.val) DISP_PATH_A_RC_HANDLE = h.val ∧ h ≠ 0 ∧ (s.dispOf n.val).cmds = [] ∧ (¬(1 ≤ op.val ∧ op.val ≤ 6)) ∧ s.mild (disp n.val) 4 ∧ s.rd (disp n.val) DISP_CNT_CMD_ERR < 2 ^ 32 - 1) ∧
    (∃ (_ : State) (_ : Fin 4) (_ : Fin 65536) (_ : Fin 65536) (op : Fin 256), 1 ≤ op.val ∧ op.val ≤ 6) ∧
    (∃ (s : State) (n : Fin 4) (h : Fin 65536) (_ : Fin 65536) (f : Fin 8) (r : Rect) (_ : List Byte), s.works (disp n.val) = true ∧ s.rd (disp n.val) DISP_PATH_A_RC_HANDLE = h.val ∧ h ≠ 0 ∧ (s.dispOf n.val).cmds = [] ∧ s.dramUp = false ∧ s.rd memp MEM_STATUS_STATE ≠ 5 ∧ s.surfOn n.val f.val = true ∧ s.inSurf n.val f.val r = true) ∧
    (∃ (s : State) (n : Fin 4) (f : Fin 8) (r : Rect), s.is (disp n.val) (SURF_STATE_COPYING.nth f.val) = true ∧ s.dramUp = true ∧ (s.dispOf n.val).copies.list f.val = [r] ∧ r.h = 1 ∧ (s.dispOf n.val).cmds = [] ∧ s.surfAddr n.val f.val true r.x r.y + r.w * fmtBytes (s.fmt n.val f.val) ≤ s.usable) :=
  ⟨⟨(let s := on [(memp, MEM_CAP_USABLE, 16), (memp, MEM_STATUS_STATE, 2), (disp 0, DISP_PATH_A_RC_HANDLE, 1), (disp 0, (disp 0).enableField, 1)]; ((s.wrA (disp 0) (SURF_CFG_EN.nth 0) 1).wrA (disp 0) (SURF_GEOM_W.nth 0) 64).wrA (disp 0) (SURF_GEOM_H.nth 0) 64), 0, 1, 0, 0, ⟨0, 0, 1, 1⟩, [1, 2, 3, 4], by decide +kernel⟩,
   ⟨(let s := on [(memp, MEM_CAP_USABLE, 16), (memp, MEM_STATUS_STATE, 2), (disp 0, DISP_PATH_A_RC_HANDLE, 1), (disp 0, (disp 0).enableField, 1)]; ((s.wrA (disp 0) (SURF_CFG_EN.nth 0) 1).wrA (disp 0) (SURF_GEOM_W.nth 0) 64).wrA (disp 0) (SURF_GEOM_H.nth 0) 64), 0, 1, 0, 0, ⟨0, 0, 1, 1⟩, 0, by decide +kernel⟩,
   ⟨(let s := on [(memp, MEM_CAP_USABLE, 16), (memp, MEM_STATUS_STATE, 2), (disp 0, DISP_PATH_A_RC_HANDLE, 1), (disp 0, (disp 0).enableField, 1)]; ((((((s.wrA (disp 0) (SURF_CFG_EN.nth 0) 1).wrA (disp 0) (SURF_GEOM_W.nth 0) 64).wrA (disp 0) (SURF_GEOM_H.nth 0) 64).wrA (disp 0) (SURF_CFG_EN.nth 1) 1).wrA (disp 0) (SURF_GEOM_W.nth 1) 64).wrA (disp 0) (SURF_GEOM_H.nth 1) 64).wrA (disp 0) (SURF_CFG_EN.nth 1) 1), 0, 1, 0, 0, 1, ⟨0, 0, 1, 1⟩, 0, 0, by decide +kernel⟩,
   ⟨on [(disp 0, (disp 0).enableField, 1), (disp 0, DISP_PATH_A_RC_HANDLE, 1)], 0, 1, 0, 0, by decide +kernel⟩,
   ⟨on [(disp 0, (disp 0).enableField, 1), (disp 0, DISP_PATH_A_RC_HANDLE, 1)], 0, 1, 0, by decide +kernel⟩,
   ⟨(let s := on [(memp, MEM_CAP_USABLE, 16), (memp, MEM_STATUS_STATE, 2), (disp 0, DISP_PATH_A_RC_HANDLE, 1), (disp 0, (disp 0).enableField, 1)]; ((s.wrA (disp 0) (SURF_CFG_EN.nth 0) 1).wrA (disp 0) (SURF_GEOM_W.nth 0) 64).wrA (disp 0) (SURF_GEOM_H.nth 0) 64), 0, 1, 0, 0, ⟨0, 0, 1, 1⟩, by decide +kernel⟩,
   ⟨on [(disp 0, (disp 0).enableField, 1), (disp 0, DISP_PATH_A_RC_HANDLE, 1)], 0, 1, 0, 0, by decide +kernel⟩,
   ⟨State.reset, 0, 0, 0, 1, by decide +kernel⟩,
   ⟨(let s := on [(disp 0, DISP_PATH_A_RC_HANDLE, 1), (disp 0, (disp 0).enableField, 1)]; ((s.wrA (disp 0) (SURF_CFG_EN.nth 0) 1).wrA (disp 0) (SURF_GEOM_W.nth 0) 64).wrA (disp 0) (SURF_GEOM_H.nth 0) 64), 0, 1, 0, 0, ⟨0, 0, 1, 1⟩, [], by decide +kernel⟩,
   ⟨(let s := on [(memp, MEM_CAP_USABLE, 16), (memp, MEM_STATUS_STATE, 2), (disp 0, SURF_STATE_COPYING.nth 0, 1)]; s.setDisp 0 { s.dispOf 0 with copies := [(0, [⟨0, 0, 1, 1⟩])] }), 0, 0, ⟨0, 0, 1, 1⟩, by decide +kernel⟩⟩

/-- The hypotheses of each clause of OutputsServeTheirSink are met together. -/
theorem wit_OutputsServeTheirSink :
    (∃ (s : State) (n : Fin 4) (_ : Fin 65536) (_ : List Byte), s.works (dout n.val) = true ∧ (s.dispOf n.val).aux = []) ∧
    (∃ (s : State) (n : Fin 4) (h : Fin 65536) (_ : List Byte), s.works (dout n.val) = true ∧ h ≠ 0 ∧ s.rd (disp n.val) DISP_PATH_A_PT_HANDLE = h.val ∧ 4 ≤ (List.filter (fun a => a.host) (s.dispOf n.val).aux.tail).length) ∧
    (∃ (s : State) (n : Fin 4) (b : List Byte) (_ : List Byte), (s.dispOf n.val).aux = [{ host := false, bytes := b }]) ∧
    (∃ (s : State) (n : Fin 4) (a : AuxReq) (rest : List AuxReq), (s.dispOf n.val).aux = a :: rest ∧ s.rd (dout n.val) DOUT_AUX_TIME + 400000 ≤ s.clock ∧ s.rd (dout n.val) DOUT_AUX_TRY < s.rd (dout n.val) DOUT_AUX_CFG_RETRY ∧ s.rd (dout n.val) DOUT_AUX_TRY < 15) ∧
    (∃ (s : State) (n : Fin 4) (_ : Fin 5), s.gated (dout n.val) = false ∧ s.is aon AON_PAD_HELD = false ∧ s.is (dout n.val) DOUT_HPD_PIN = false ∧ s.moabeuc = true ∧ s.rd (dout n.val) DOUT_CNT_HPD < 2 ^ 32 - 1) ∧
    (∃ (s : State) (n : Fin 4), s.gated (dout n.val) = false ∧ s.is aon AON_PAD_HELD = false ∧ s.is (dout n.val) DOUT_HPD_PIN = true) ∧
    (∃ (s : State) (n : Fin 4), s.gated (dout n.val) = false ∧ s.is aon AON_PAD_HELD = false ∧ s.is (dout n.val) DOUT_LINK_STS_HPD = true ∧ s.is (dout n.val) DOUT_LINK_STS_TRAINED = true ∧ s.mild (dout n.val) 5) ∧
    (∃ (s : State) (n : Fin 4) (_ : Fin 9), s.gated (dout n.val) = false ∧ s.is (dout n.val) DOUT_TRAINING = true ∧ s.rd (dout n.val) DOUT_WANT_RATE < 5 ∧ s.rd (dout n.val) DOUT_WANT_LANES < 8 ∧ s.mild (dout n.val) 4) ∧
    (∃ (s : State) (n : Fin 4) (_ : Fin 9), s.gated (dout n.val) = false ∧ s.is (dout n.val) DOUT_TRAINING = true ∧ 0 < s.rd (dout n.val) DOUT_WANT_RATE ∧ s.rd (dout n.val) DOUT_WANT_RATE < 5) ∧
    (∃ (s : State) (n : Fin 4) (_ : Fin 9), s.gated (dout n.val) = false ∧ s.is (dout n.val) DOUT_TRAINING = true ∧ s.rd (dout n.val) DOUT_WANT_RATE = 0 ∧ s.rd (dout n.val) DOUT_WANT_LANES ≤ 1 ∧ s.mild (dout n.val) 3) ∧
    (∃ (s : State) (n : Fin 4) (rows : List (List Nat)) (crc : Nat), s.gated (dout n.val) = false ∧ s.is (dout n.val) DOUT_LINK_STS_TRAINED = true ∧ s.rd (disp n.val) DISP_ENDST = 4 ∧ s.is (dout n.val) DOUT_FIRST = false ∧ s.is (dout n.val) DOUT_RB_OUT = false ∧ s.rdA (dout n.val) DOUT_CHK_CFG_CRC_EN = 1 ∧ s.rdA (dout n.val) DOUT_REG_CFG_EN = 0 ∧ crc = crc32End (List.foldl (fun c row => crc32Run c (checkBytes false row)) 4294967295 rows) ∧ s.mild (dout n.val) 0 ∧ s.rd (dout n.val) DOUT_CNT_CRC_MIS < 2 ^ 32 - 1) ∧
    (∃ (s : State) (n : Fin 4), s.gated (dout n.val) = false ∧ s.is (dout n.val) DOUT_LINK_STS_TRAINED = true ∧ s.mild (dout n.val) 2) ∧
    (∃ (s : State) (who : Initiator) (n : Fin 4), s.accepts who (dout n.val) DOUT_CTRL_RESTART) ∧
    (∃ (s : State) (who : Initiator) (n : Fin 4), s.accepts who (dout n.val) DOUT_CTRL_RETRAIN ∧ s.is (dout n.val) DOUT_LINK_STS_HPD = true) :=
  ⟨⟨on [(dout 0, (dout 0).enableField, 1)], 0, 0, [], by decide +kernel⟩,
   ⟨(let s := on [(dout 0, (dout 0).enableField, 1), (disp 0, DISP_PATH_A_PT_HANDLE, 1)]; s.setDisp 0 { s.dispOf 0 with aux := [⟨true, [1]⟩, ⟨true, [1]⟩, ⟨true, [1]⟩, ⟨true, [1]⟩, ⟨true, [1]⟩] }), 0, 1, [], by decide +kernel⟩,
   ⟨State.reset.setDisp 0 { State.reset.dispOf 0 with aux := [⟨false, [1]⟩] }, 0, [1], [], by decide +kernel⟩,
   ⟨{ State.reset.setDisp 0 { State.reset.dispOf 0 with aux := [⟨true, [1]⟩] } with clock := 1000000000000 }, 0, ⟨true, [1]⟩, [], by decide +kernel⟩,
   ⟨on [(mbx, MB_FW_FW_READY, 1)], 0, 0, by decide +kernel⟩,
   ⟨on [(dout 0, DOUT_HPD_PIN, 1)], 0, by decide +kernel⟩,
   ⟨on [(dout 0, DOUT_LINK_STS_HPD, 1), (dout 0, DOUT_LINK_STS_TRAINED, 1)], 0, by decide +kernel⟩,
   ⟨on [(dout 0, DOUT_TRAINING, 1)], 0, 0, by decide +kernel⟩,
   ⟨on [(dout 0, DOUT_TRAINING, 1), (dout 0, DOUT_WANT_RATE, 1)], 0, 0, by decide +kernel⟩,
   ⟨on [(dout 0, DOUT_TRAINING, 1)], 0, 0, by decide +kernel⟩,
   ⟨(let s := on [(dout 0, DOUT_LINK_STS_TRAINED, 1), (disp 0, DISP_ENDST, 4)]; s.wrA (dout 0) DOUT_CHK_CFG_CRC_EN 1), 0, [], 0, by decide +kernel⟩,
   ⟨on [(dout 0, DOUT_LINK_STS_TRAINED, 1)], 0, by decide +kernel⟩,
   ⟨on [], .marionette, 0, by decide +kernel⟩,
   ⟨on [(dout 0, DOUT_LINK_STS_HPD, 1)], .marionette, 0, by decide +kernel⟩⟩

/-- The hypotheses of each clause of UsbPortsAndUpstreamsFollowTheirHosts are met together. -/
theorem wit_UsbPortsAndUpstreamsFollowTheirHosts :
    (∃ (s : State) (n : Fin 6), s.works uhub = true ∧ s.is uhub (UH_PORT_PWR.nth n.val) = true ∧ s.mild uhub 0 ∧ s.rd uhub UH_CNT_OC < 2 ^ 32 - 1) ∧
    (∃ (s : State) (d : Fin 2) (p : Fin 13) (n : Nat) (f : PortFeature) (v : Nat), s.hubOn d.val = true ∧ p.val = n + 1 ∧ n < 6 ∧ s.ownsHs d.val n = true ∧ (f = PortFeature.clearPower ∧ v = 0 ∨ f = PortFeature.reset ∧ 2 ≤ s.rd uhub (UH_PORT_HS_STATE.nth n) ∧ v = 3 ∨ f = PortFeature.suspend ∧ s.rd uhub (UH_PORT_HS_STATE.nth n) = 3 ∧ v = 4 ∨ f = PortFeature.resume ∧ s.rd uhub (UH_PORT_HS_STATE.nth n) = 4 ∧ v = 3 ∨ f = PortFeature.disable ∧ 2 ≤ s.rd uhub (UH_PORT_HS_STATE.nth n) ∧ v = 2)) ∧
    (∃ (s : State) (d : Fin 2) (p : Fin 13) (n : Nat) (_ : PortFeature), s.hubOn d.val = true ∧ p.val = n + 1 ∧ n < 6 ∧ s.ownsHs d.val n = false) ∧
    (∃ (s : State) (d : Fin 2), s.hubOn d.val = true ∧ s.rd uhub UH_CFG_EMB_DOM = d.val ∧ s.embAwake = true) ∧
    (∃ (s : State) (_ : Initiator) (n : Fin 6) (p : Bool) (h : Bool) (d : Fin 2) (td : Fin 2), (s.rd uhub (UH_PORT_PRESENT.nth n.val) = if p = true then 1 else 0) ∧ (s.rd uhub (UH_PORT_HS_PIN.nth n.val) = if h = true then 1 else 0) ∧ s.rd uhub (UH_PORT_TDOM.nth n.val) = td.val ∧ s.rd uhub (UH_PORT_DOM.nth n.val) = d.val) ∧
    (∃ (s : State) (who : Initiator) (n : Fin 6) (p : Bool) (h : Bool) (d : Fin 2) (td : Fin 2), (s.rd uhub (UH_PORT_PRESENT.nth n.val) = if p = true then 1 else 0) ∧ (s.rd uhub (UH_PORT_HS_PIN.nth n.val) = if h = true then 1 else 0) ∧ s.rd uhub (UH_PORT_TDOM.nth n.val) = td.val ∧ s.rd uhub (UH_PORT_DOM.nth n.val) = d.val ∧ s.accepts who uhub (UH_PORT_DOM.nth n.val) ∧ s.hsPin n.val = false) ∧
    (∃ (s : State) (who : Initiator) (v : Fin 16) (src3 : Nat), s.accepts who uhub UH_CFG_UP2_0 ∧ s.rd uhub UH_CFG_SRC3_0 = src3 ∧ src3 < 4 ∧ s.rd uhub UH_CFG_UP2_0 ≤ 5 ∧ s.rd uhub UH_CFG_UP2_0 ≠ v.val ∧ s.rd uhub UH_CFG_EMB_DOM = 1) ∧
    (∃ (s : State) (n : Fin 12) (_ : Bool), s.works uhub = true ∧ s.ps ≤ 1 ∧ n.val < 6 ∧ s.is uhub (UH_PORT_HS_STATE.nth n.val) = true) ∧
    (∃ (s : State) (n : Fin 12) (_ : Bool), s.works uhub = true ∧ s.ps ≤ 1 ∧ 6 ≤ n.val ∧ s.is uhub (UH_TSS_STATE.nth (n.val - 6)) = true) ∧
    (∃ (s : State) (d : Fin 2), s.works uhub = true ∧ s.rd uhub (upHs d.val) = 1) ∧
    (∃ (s : State) (d : Fin 2), s.works uhub = true ∧ s.rd uhub (upSs d.val) = 2) ∧
    (∃ (s : State) (d : Fin 2), s.works uhub = true ∧ s.embAwake = true ∧ s.rd uhub UH_CFG_EMB_DOM = d.val) ∧
    (∃ (s : State) (d : Fin 2), s.works uhub = true ∧ s.ps ≤ 1 ∧ s.rd uhub (upHs d.val) = 2 ∧ s.mild uhub 6) ∧
    (∃ (s : State) (d : Fin 2), s.works uhub = true ∧ s.ps ≤ 1 ∧ s.rd uhub (upSs d.val) = 5 ∧ s.mild uhub 6) ∧
    (∃ (s : State) (who : Initiator), s.accepts who uhub UH_WAKE_WAKE_REQ ∧ s.works uhub = true ∧ s.rd uhub UH_STATUS_EMB = 4 ∧ s.is uhub UH_WAKE_RWE = true ∧ s.rd uhub (upHs (s.rd uhub UH_CFG_EMB_DOM)) ≠ 3) ∧
    (∃ (s : State), s.works uhub = true ∧ s.is uhub UH_WAKE_PEND = true ∧ s.rd uhub UH_STATUS_EMB = 4 ∧ s.is uhub UH_K_END = false ∧ s.rd uhub UH_SUSP_TIME + 5000000 ≤ s.clock) ∧
    (∃ (s : State) (d : Fin 2) (n : Fin 12), s.hubOn d.val = true ∧ s.ps ≤ 1 ∧ n.val < 6 ∧ s.ownsHs d.val n.val = true ∧ s.rd uhub (UH_PORT_HS_STATE.nth n.val) = 4 ∧ s.rd uhub (upHs d.val) = 2) ∧
    (∃ (s : State) (d : Fin 2) (n : Fin 12), s.hubOn d.val = true ∧ s.ps ≤ 1 ∧ s.ownsSs d.val n.val = true ∧ s.rd uhub (ssField n.val) = 6 ∧ s.rd uhub (upSs d.val) = 5) ∧
    (∃ (s : State) (d : Fin 2), s.hubOn d.val = true ∧ s.mild uhub 5 ∧ s.is uhub (upHs d.val) = true) ∧
    (∃ (s : State) (d : Fin 2), s.hubOn d.val = true ∧ s.mild uhub 5 ∧ s.is uhub (upSs d.val) = true) :=
  ⟨⟨on [(uhub, uhub.enableField, 1), (uhub, UH_PORT_PWR.nth 0, 1)], 0, by decide +kernel⟩,
   ⟨on [(uhub, uhub.enableField, 1), (uhub, UH_CFG_H0_EN, 1), (uhub, UH_PORT_HS_PIN.nth 0, 1)], 0, 1, 0, .clearPower, 0, by decide +kernel⟩,
   ⟨on [(uhub, uhub.enableField, 1), (uhub, UH_CFG_H0_EN, 1)], 0, 1, 0, .setPower, by decide +kernel⟩,
   ⟨on [(uhub, uhub.enableField, 1), (uhub, UH_CFG_H0_EN, 1), (uhub, UH_STATUS_EMB, 1)], 0, by decide +kernel⟩,
   ⟨State.reset, .marionette, 0, false, false, 0, 0, by decide +kernel⟩,
   ⟨on [], .marionette, 0, false, false, 0, 0, by decide +kernel⟩,
   ⟨on [(uhub, UH_CFG_UP2_0, 1), (uhub, UH_CFG_EMB_DOM, 1)], .marionette, 0, 0, by decide +kernel⟩,
   ⟨on [(uhub, uhub.enableField, 1), (uhub, UH_PORT_HS_STATE.nth 0, 1)], 0, false, by decide +kernel⟩,
   ⟨on [(uhub, uhub.enableField, 1), (uhub, UH_TSS_STATE.nth 1, 1)], 7, false, by decide +kernel⟩,
   ⟨on [(uhub, uhub.enableField, 1), (uhub, UH_STATUS_HS_0, 1)], 0, by decide +kernel⟩,
   ⟨on [(uhub, uhub.enableField, 1), (uhub, upSs 0, 2)], 0, by decide +kernel⟩,
   ⟨on [(uhub, uhub.enableField, 1), (uhub, UH_STATUS_EMB, 1)], 0, by decide +kernel⟩,
   ⟨on [(uhub, uhub.enableField, 1), (uhub, UH_STATUS_HS_0, 2)], 0, by decide +kernel⟩,
   ⟨on [(uhub, uhub.enableField, 1), (uhub, upSs 0, 5)], 0, by decide +kernel⟩,
   ⟨on [(uhub, uhub.enableField, 1), (uhub, UH_STATUS_EMB, 4), (uhub, UH_WAKE_RWE, 1)], .marionette, by decide +kernel⟩,
   ⟨{ on [(uhub, uhub.enableField, 1), (uhub, UH_WAKE_PEND, 1), (uhub, UH_STATUS_EMB, 4)] with clock := 1000000000000 }, by decide +kernel⟩,
   ⟨on [(uhub, uhub.enableField, 1), (uhub, UH_CFG_H0_EN, 1), (uhub, UH_PORT_HS_STATE.nth 0, 4), (uhub, UH_STATUS_HS_0, 2), (uhub, UH_PORT_HS_PIN.nth 0, 1)], 0, 0, by decide +kernel⟩,
   ⟨on [(uhub, uhub.enableField, 1), (uhub, UH_CFG_H0_EN, 1), (uhub, UH_PORT_SS_STATE.nth 0, 6), (uhub, upSs 0, 5), (uhub, UH_PORT_PRESENT.nth 0, 1)], 0, 0, by decide +kernel⟩,
   ⟨on [(uhub, uhub.enableField, 1), (uhub, UH_CFG_H0_EN, 1), (uhub, UH_STATUS_HS_0, 1)], 0, by decide +kernel⟩,
   ⟨on [(uhub, uhub.enableField, 1), (uhub, UH_CFG_H0_EN, 1), (uhub, upSs 0, 1)], 0, by decide +kernel⟩⟩

/-- The hypotheses of each clause of EmbeddedDeviceMovesItsData are met together. -/
theorem wit_EmbeddedDeviceMovesItsData :
    (∃ (s : State) (_ : List Byte), s.embAwake = true ∧ s.rd uhub UH_STATUS_EMB = 3 ∧ s.moabeuc = false ∧ s.epRoom 2 512 = true) ∧
    (∃ (s : State) (bs : List Byte), s.embAwake = true ∧ s.rd uhub UH_STATUS_EMB = 3 ∧ s.is uhub UH_AUD_STATUS_OUT_ALT = true ∧ s.is uhub PG_STATUS_CONTAINED = false ∧ s.epRoom 5 bs.length = true) ∧
    (∃ (s : State) (_ : Bool), s.embAwake = true ∧ s.rd uhub UH_STATUS_EMB = 3 ∧ s.usb.bufs.list 3 = []) ∧
    (∃ (s : State) (_ : Bool) (b : List Byte) (l : List (List Byte)), s.embAwake = true ∧ s.rd uhub UH_STATUS_EMB = 3 ∧ s.usb.bufs.list 3 = b :: l) ∧
    (∃ (s : State), s.works uhub = true ∧ s.is uhub PG_SHADOW_CTRL_ARMED = false ∧ s.usb.alts = [] ∧ s.rd uhub UH_MF < 2 ^ 64 - 1) ∧
    (∃ (s : State) (_ : Fin 4294967296), s.works uhub = true ∧ s.rd uhub UH_FB_MF + 2 ^ s.fbP ≤ s.rd uhub UH_MF) ∧
    (∃ (s : State), s.works uhub = true ∧ s.is uhub UH_AUD_STATUS_MCLK_OK = true ∧ s.mild uhub 1) ∧
    (∃ (s : State), s.works uhub = true) ∧
    (∃ (s : State) (_ : List Byte), s.is uhub UH_AUD_STATUS_MCLK_OK = false) ∧
    (∃ (s : State) (_ : List Byte) (k : Nat) (b : List Byte) (l : List (Nat × List Byte)), s.works uhub = true ∧ s.is uhub UH_AUD_STATUS_MCLK_OK = true ∧ s.is uhub PG_STATUS_CONTAINED = false ∧ s.is uhub UH_AUD_STATUS_OUT_ALT = true ∧ s.is uhub UH_AUD_STATUS_IN_ALT = false ∧ s.usb.play = (k, b) :: l ∧ k + 2 ≤ s.rd uhub UH_MF ∧ b.length = 4 * s.outCh ∧ s.rdA uhub UH_AUD_CFG_MUTE_OUT = 0) ∧
    (∃ (s : State) (_ : UsbReq) (_ : Fin 65536), s.embAwake = true ∧ s.usb.ctl = none) ∧
    (∃ (s : State) (a : Nat), s.embAwake = true ∧ s.usb.ctl = some { req := UsbReq.setAddress a, left := 0 } ∧ 0 < a ∧ a < 128) ∧
    (∃ (s : State) (on : Bool), s.embAwake = true ∧ s.usb.ctl = some { req := UsbReq.remoteWake on, left := 0 }) :=
  ⟨⟨on [(uhub, uhub.enableField, 1), (uhub, UH_STATUS_EMB, 3)], [], by decide +kernel⟩,
   ⟨on [(uhub, uhub.enableField, 1), (uhub, UH_STATUS_EMB, 3), (uhub, UH_AUD_STATUS_OUT_ALT, 1)], [], by decide +kernel⟩,
   ⟨on [(uhub, uhub.enableField, 1), (uhub, UH_STATUS_EMB, 3)], false, by decide +kernel⟩,
   ⟨(let s := on [(uhub, uhub.enableField, 1), (uhub, UH_STATUS_EMB, 3)]; { s with usb := { s.usb with bufs := [(3, [[1, 2]])] } }), false, [1, 2], [], by decide +kernel⟩,
   ⟨on [(uhub, uhub.enableField, 1)], by decide +kernel⟩,
   ⟨on [(uhub, uhub.enableField, 1), (uhub, UH_MF, 18446744073709551615)], 0, by decide +kernel⟩,
   ⟨on [(uhub, uhub.enableField, 1), (uhub, UH_AUD_STATUS_MCLK_OK, 1)], by decide +kernel⟩,
   ⟨on [(uhub, uhub.enableField, 1)], by decide +kernel⟩,
   ⟨State.reset, [], by decide +kernel⟩,
   ⟨(let s := on [(uhub, UH_MF, 5), (uhub, UH_AUD_STATUS_MCLK_OK, 1), (uhub, uhub.enableField, 1), (uhub, UH_AUD_STATUS_OUT_ALT, 1)]; { s with usb := { s.usb with play := [(0, (List.replicate 32 (1 : Byte)))] } }), [], 0, (List.replicate 32 (1 : Byte)), [], by decide +kernel⟩,
   ⟨on [(uhub, uhub.enableField, 1), (uhub, UH_STATUS_EMB, 1)], .read, 0, by decide +kernel⟩,
   ⟨(let s := on [(uhub, uhub.enableField, 1), (uhub, UH_STATUS_EMB, 1)]; { s with usb := { s.usb with ctl := some ⟨.setAddress 5, 0⟩ } }), 5, by decide +kernel⟩,
   ⟨(let s := on [(uhub, uhub.enableField, 1), (uhub, UH_STATUS_EMB, 1)]; { s with usb := { s.usb with ctl := some ⟨.remoteWake true, 0⟩ } }), true, by decide +kernel⟩⟩

/-- The hypotheses of each clause of EthernetMovesFrames are met together. -/
theorem wit_EthernetMovesFrames :
    (∃ (s : State) (n : Fin 2) (_ : Bool) (_ : List Byte), s.works (eth n.val) = true ∧ s.ethMac n.val = true ∧ s.is (eth n.val) ETH_LINE = true ∧ s.mild (eth n.val) 2 ∧ s.rd (eth n.val) ETH_CNT_RX_FCS < 2 ^ 32 - 1 ∧ s.rd (eth n.val) ETH_CNT_RX_DROP < 2 ^ 32 - 1) ∧
    (∃ (s : State) (n : Fin 2) (bs : List Byte), s.works (eth n.val) = true ∧ s.ethJoin n.val = EthBind.mac ∧ s.is (eth n.val) ETH_LINE = true ∧ bs.length + 4 ≤ s.mtu n.val ∧ bs.length ≤ s.rd (eth n.val) ETH_BUF_RXQ_CAP * 1024 ∧ (s.ethOf n.val).rx = [] ∧ s.rd (eth n.val) (ETH_TUN_TX_HANDLE.nth 0) = 0 ∧ s.rd (eth n.val) (ETH_TUN_TX_HANDLE.nth 1) = 0 ∧ s.rd (eth n.val) ETH_CNT_RX_FRM < 2 ^ 32 - 1) ∧
    (∃ (s : State) (n : Fin 2) (q : Fin 65536), s.works (eth n.val) = true ∧ s.ethMac n.val = true ∧ s.is (eth n.val) ETH_CFG_PAUSE_EN = true ∧ q ≠ 0) ∧
    (∃ (s : State) (n : Fin 2) (f : EthSend), s.works (eth n.val) = true ∧ s.is (eth n.val) ETH_STATUS_RX_PAUSED = true ∧ s.rd (eth n.val) ETH_PAUSE_END ≤ s.clock ∧ (s.ethOf n.val).txq = [f] ∧ f.tsReq = false) ∧
    (∃ (s : State) (n : Fin 2) (toMac : Bool) (_ : Bool) (_ : List Byte), s.works (eth n.val) = true ∧ s.ethJoin n.val ≠ EthBind.loc ∧ ((if toMac = true then s.ethMac n.val else s.ethQueue n.val) = true)) ∧
    (∃ (s : State) (n : Fin 2) (g : Bool) (bs : List Byte) (all : List Byte), s.works (eth n.val) = true ∧ s.ethJoin n.val = EthBind.mac ∧ s.is (eth n.val) ETH_STATUS_RX_PAUSED = false ∧ ((s.ethOf n.val).join.list (if g = true then 3 else 2) ++ bs = all) ∧ (leNat (cut all 11 1)).testBit 0 = false) ∧
    (∃ (s : State) (n : Fin 2) (w0 : Fin 4294967296) (_ : Fin 4294967296) (_ : Fin 4294967296) (_ : Fin 4294967296), s.works (eth n.val) = true ∧ s.ethJoin n.val = EthBind.queue ∧ w0.val / 2 ^ 28 = 1 ∧ w0.val % 2 = 1) ∧
    (∃ (s : State) (n : Fin 2) (up : Bool), s.works (eth n.val) = true ∧ s.ethJoin n.val = EthBind.loc ∧ s.mild (eth n.val) 0 ∧ s.rd (eth n.val) ETH_CFG_MODE = 1 ∧ (s.rd (eth n.val) ETH_LINE = if up = true then 0 else 1)) ∧
    (∃ (s : State) (who : Initiator) (n : Fin 2) (q : Fin 32) (tail : Fin 65536) (_ : List TxDesc), s.accepts who (eth n.val) (ETH_Q_TX_PTR_TAIL.nth q.val) ∧ s.rd (eth n.val) (ETH_Q_TX_RING_SIZE.nth q.val) ≤ tail.val ∧ s.mild (eth n.val) 1) ∧
    (∃ (s : State) (who : Initiator) (n : Fin 2) (q : Fin 32) (tail : Fin 65536) (_ : List TxDesc) (d : TxDesc), s.accepts who (eth n.val) (ETH_Q_TX_PTR_TAIL.nth q.val) ∧ s.works (eth n.val) = true ∧ s.ethJoin n.val = EthBind.loc ∧ s.is (eth n.val) ETH_LINE = true ∧ s.is (eth n.val) ETH_STATUS_RX_PAUSED = false ∧ s.rd (eth n.val) ETH_IRQ_MOD = 0 ∧ ringOk (s.rd (eth n.val) (ETH_Q_TX_RING_EN.nth q.val)) (s.rd (eth n.val) (ETH_Q_TX_RING_SIZE.nth q.val)) = true ∧ s.rd (eth n.val) (ETH_Q_TX_PTR_HEAD.nth q.val) < s.rd (eth n.val) (ETH_Q_TX_RING_SIZE.nth q.val) ∧ tail.val = (s.rd (eth n.val) (ETH_Q_TX_PTR_HEAD.nth q.val) + 1) % s.rd (eth n.val) (ETH_Q_TX_RING_SIZE.nth q.val) ∧ (s.ethOf n.val).txd.list q.val = [] ∧ d.eop = true ∧ d.tsReq = false ∧ d.csum = false ∧ d.vlanIns = false ∧ 0 < d.data.length ∧ d.data.length ≤ s.mtu n.val) ∧
    (∃ (s : State) (who : Initiator) (n : Fin 2) (q : Fin 32) (tail : Fin 65536) (_ : List Nat), s.accepts who (eth n.val) (ETH_Q_RX_PTR_TAIL.nth q.val) ∧ tail.val < s.rd (eth n.val) (ETH_Q_RX_RING_SIZE.nth q.val) ∧ s.works (eth n.val) = true ∧ s.ethJoin n.val = EthBind.queue ∧ (s.ethOf n.val).qwait = []) ∧
    (∃ (s : State) (n : Fin 2) (q : Fin 32) (idx : Fin 65536) (at' : Nat), (s.ethOf n.val).stamps = [(q.val, idx.val, at')] ∧ at' + 10000000 ≤ s.clock ∧ s.rd (eth n.val) ETH_IRQ_MOD = 0) ∧
    (∃ (s : State) (n : Fin 2) (_ : Fin 32), s.works (eth n.val) = true ∧ s.ethQueue n.val = true ∧ s.mild (eth n.val) 1) ∧
    (∃ (s : State) (who : Initiator) (n : Fin 2) (q : Fin 4) (m : Fin 4), s.accepts who (eth n.val) ETH_CFG_Q_BIND ∧ s.rd (eth n.val) ETH_CFG_Q_BIND ≠ q.val ∧ (ethBind q.val m.val).snd = false) ∧
    (∃ (s : State) (n : Fin 2) (e : Fin 33), s.is (eth n.val) (ETH_IRQ_PEND.nth e.val) = true ∧ s.rd (eth n.val) (ETH_IRQ_TIME.nth e.val) + s.rd (eth n.val) ETH_IRQ_MOD * 1000 ≤ s.clock + 1) :=
  ⟨⟨on [(eth 0, (eth 0).enableField, 1), (eth 0, ETH_LINE, 1), (eth 0, ETH_CFG_MAC_BIND, 2)], 0, false, [], by decide +kernel⟩,
   ⟨on [(eth 0, (eth 0).enableField, 1), (eth 0, ETH_LINE, 1), (eth 0, ETH_CFG_MAC_BIND, 2)], 0, [], by decide +kernel⟩,
   ⟨on [(eth 0, (eth 0).enableField, 1), (eth 0, ETH_CFG_PAUSE_EN, 1), (eth 0, ETH_CFG_MAC_BIND, 2)], 0, 1, by decide +kernel⟩,
   ⟨(let s := on [(eth 0, (eth 0).enableField, 1), (eth 0, ETH_STATUS_RX_PAUSED, 1)]; { s.setEth 0 { s.ethOf 0 with txq := [⟨0, 0, false, [1, 2]⟩] } with clock := 1000000000000 }), 0, ⟨0, 0, false, [1, 2]⟩, by decide +kernel⟩,
   ⟨on [(eth 0, (eth 0).enableField, 1), (eth 0, ETH_CFG_Q_BIND, 2)], 0, false, false, [], by decide +kernel⟩,
   ⟨on [(eth 0, (eth 0).enableField, 1), (eth 0, ETH_CFG_MAC_BIND, 2)], 0, false, [], [], by decide +kernel⟩,
   ⟨on [(eth 0, (eth 0).enableField, 1), (eth 0, ETH_CFG_Q_BIND, 2)], 0, 0x10000001, 0, 0, 0, by decide +kernel⟩,
   ⟨on [(eth 0, ETH_CFG_Q_BIND, 1), (eth 0, ETH_CFG_MAC_BIND, 1), (eth 0, (eth 0).enableField, 1), (eth 0, ETH_CFG_MODE, 1), (eth 0, ETH_LINE, 1)], 0, false, by decide +kernel⟩,
   ⟨on [], .marionette, 0, 0, 0, [], by decide +kernel⟩,
   ⟨on [(eth 0, ETH_CFG_Q_BIND, 1), (eth 0, ETH_CFG_MAC_BIND, 1), (eth 0, ETH_Q_TX_RING_EN.nth 0, 1), (eth 0, ETH_Q_TX_RING_SIZE.nth 0, 64), (eth 0, (eth 0).enableField, 1), (eth 0, ETH_LINE, 1)], .marionette, 0, 0, 1, [], ⟨true, false, false, false, 0, [1, 2, 3, 4, 5, 6]⟩, by decide +kernel⟩,
   ⟨on [(eth 0, ETH_Q_RX_RING_SIZE.nth 0, 1), (eth 0, (eth 0).enableField, 1), (eth 0, ETH_CFG_Q_BIND, 2)], .marionette, 0, 0, 0, [], by decide +kernel⟩,
   ⟨{ State.reset.setEth 0 { State.reset.ethOf 0 with stamps := [(0, 0, 0)] } with clock := 1000000000000 }, 0, 0, 0, 0, by decide +kernel⟩,
   ⟨on [(eth 0, (eth 0).enableField, 1), (eth 0, ETH_CFG_Q_BIND, 2)], 0, 0, by decide +kernel⟩,
   ⟨on [(eth 0, ETH_CFG_Q_BIND, 1)], .marionette, 0, 0, 0, by decide +kernel⟩,
   ⟨{ st [(eth 0, ETH_IRQ_PEND.nth 0, 1)] with clock := 1000000000000 }, 0, 0, by decide +kernel⟩⟩

/-- The hypotheses of each clause of TheDramServesAndRests are met together. -/
theorem wit_TheDramServesAndRests :
    (∃ (s : State) (_ : Fin 256), s.gated memp = false ∧ s.rd memp MEM_STATUS_STATE = 0 ∧ s.is memp MEM_TRAINED = true ∧ s.is aon AON_DRAM_LOST = false ∧ (∀ (n : Nat), n < 4 → (s.dispOf n).cmds = [])) ∧
    (∃ (s : State) (f : Fin 256), s.gated memp = false ∧ s.rd memp MEM_STATUS_STATE = 0 ∧ f ≠ 0 ∧ s.memq = [] ∧ s.mild memp 3) ∧
    (∃ (s : State) (_ : List MemReq) (_ : EccEvt), s.rd memp MEM_STATUS_STATE ≤ 1) ∧
    (∃ (s : State) (r : MemReq) (d : Nat), s.dramUp = true ∧ s.memq = [] ∧ r.client < 7 ∧ r.addr + r.len ≤ s.usable ∧ r.write = none ∧ s.memDeadline r.client = some d ∧ d - s.clock < 128 * s.rd memp MEM_ARB_URG) ∧
    (∃ (s : State) (r : MemReq) (d : Nat) (bs : List Byte), s.dramUp = true ∧ s.memq = [] ∧ r.client < 7 ∧ r.addr + bs.length ≤ s.usable ∧ r.write = some bs ∧ s.memDeadline r.client = some d ∧ d - s.clock < 128 * s.rd memp MEM_ARB_URG) ∧
    (∃ (s : State), s.gated memp = false ∧ s.memq = [] ∧ s.is memp MEM_SR_CFG_SR_EN = true ∧ (s.rd memp MEM_STATUS_STATE = 2 ∨ s.rd memp MEM_STATUS_STATE = 3) ∧ s.slackAtLeast (s.srEnter + s.srExit) = true) ∧
    (∃ (s : State), s.gated memp = false ∧ s.memq = [] ∧ s.is memp MEM_SR_CFG_PD_EN = true ∧ s.rd memp MEM_STATUS_STATE = 2 ∧ s.rd memp MEM_BUSY + 64 ≤ s.clock ∧ s.slackAtLeast 250 = true) ∧
    (∃ (s : State), s.gated memp = false ∧ s.memq ≠ [] ∧ (s.rd memp MEM_STATUS_STATE = 3 ∨ s.rd memp MEM_STATUS_STATE = 4)) :=
  ⟨⟨on [(memp, MEM_TRAINED, 1)], 0, by decide +kernel⟩,
   ⟨on [], 1, by decide +kernel⟩,
   ⟨State.reset, [], .clean, by decide +kernel⟩,
   ⟨{ on [(memp, MEM_STATUS_STATE, 2), (memp, MEM_CLIENT_TOL.nth 0, 0)] with clock := 1000000000000 }, ⟨0, 0, 0, none⟩, 0, by decide +kernel⟩,
   ⟨{ on [(memp, MEM_STATUS_STATE, 2), (memp, MEM_CAP_USABLE, 1), (memp, MEM_CLIENT_TOL.nth 0, 0)] with clock := 1000000000000 }, ⟨0, 0, 1, some [7]⟩, 0, [7], by decide +kernel⟩,
   ⟨on [(memp, MEM_STATUS_STATE, 2)], by decide +kernel⟩,
   ⟨{ on [(memp, MEM_STATUS_STATE, 2)] with clock := 1000000000000 }, by decide +kernel⟩,
   ⟨{ on [(memp, MEM_STATUS_STATE, 3)] with memq := [(0, ⟨0, 0, 1, none⟩)] }, by decide +kernel⟩⟩

/-- The hypotheses of each clause of PdAttachesAndMovesPower are met together. -/
theorem wit_PdAttachesAndMovesPower :
    (∃ (s : State) (n : Fin 6) (cc : Fin 64) (_ : Fin 65536) (code : Nat) (pin : Nat), s.ps ≤ 1 ∧ s.works (pd n.val) = true ∧ s.rd (pd n.val) PD_STATUS_STATE ≤ 1 ∧ s.is aon (AON_PRESENT.nth n.val) = true ∧ s.is safe PG_STATUS_IN_RESET = false ∧ ccActive cc.val = (code, pin) ∧ 2 ≤ code ∧ code ≤ 5 ∧ s.roleMay n.val (code == 2) = true) ∧
    (∃ (s : State) (n : Fin 6) (_ : Fin 65536), s.ps ≤ 1 ∧ s.rd safe (SP_ROLE.nth n.val) ≠ 0 ∧ s.gated (pd n.val) = false ∧ s.mild (pd n.val) 0 ∧ s.is (pd n.val) PD_CHOSEN = false ∧ s.linkUp n.val = false) ∧
    (∃ (s : State) (n : Fin 6), s.gated (pd n.val) = false ∧ s.mild (pd n.val) 8) ∧
    (∃ (s : State) (_ : Fin 6) (_ : Fin 65536), s.is glb GLB_STRAP_DBAT = true ∧ s.rd aon AON_SUPPLY_STS_IN_RANGE = 0) ∧
    (∃ (s : State) (n : Fin 6) (_ : List Nat), s.works (pd n.val) = true ∧ s.pdAttached n.val = true ∧ s.expert (pd n.val) = false ∧ s.pdMoab = true ∧ s.mild (pd n.val) 3 ∧ s.pdSource n.val = false) ∧
    (∃ (s : State) (n : Fin 6) (raw : List Nat) (pos : Nat) (p : Nat), s.works (pd n.val) = true ∧ s.pdAttached n.val = true ∧ s.expert (pd n.val) = false ∧ s.pdMoab = true ∧ s.pdSource n.val = true ∧ raw.getD 1 0 / 2 ^ 28 % 16 = pos ∧ 1 ≤ pos ∧ pos ≤ 11 ∧ s.rd (pd n.val) (PD_OFFER.nth (pos - 1)) = p ∧ p ≠ 0 ∧ pdoKind p = 0 ∧ raw.getD 1 0 / 2 ^ 10 % 1024 ≤ p % 1024 ∧ s.energyFails n.val (pdoHi p) = false ∧ watts (pdoHi p) (raw.getD 1 0 / 2 ^ 10 % 1024 * 10) ≤ s.budgetLeft n.val ∧ s.gated safe = false ∧ s.is safe PG_STATUS_IN_RESET = false ∧ s.is safe (SP_STATE_TRIPPED.nth n.val) = false ∧ s.rd safe (SP_ROLE.nth n.val) ≠ 0) ∧
    (∃ (s : State) (n : Fin 6) (raw : List Nat), s.works (pd n.val) = true ∧ s.pdAttached n.val = true ∧ s.expert (pd n.val) = false ∧ s.pdMoab = true ∧ s.pdSource n.val = true ∧ raw.getD 1 0 = 0 ∧ s.is (pd n.val) PD_ARMNEG = false) ∧
    (∃ (s : State) (n : Fin 6) (_ : List Nat), s.works (pd n.val) = true ∧ s.pdAttached n.val = true ∧ s.expert (pd n.val) = false ∧ s.pdMoab = true ∧ s.rd (pd n.val) PD_ST = 3) ∧
    (∃ (s : State) (n : Fin 6) (_ : List Nat), s.works (pd n.val) = true ∧ s.pdAttached n.val = true ∧ s.expert (pd n.val) = false ∧ s.pdMoab = true ∧ s.rd (pd n.val) PD_ST = 3 ∧ s.mild (pd n.val) 3 ∧ s.is (pd n.val) PD_ARMNEG = false) ∧
    (∃ (s : State) (n : Fin 6) (_ : List Nat), s.works (pd n.val) = true ∧ s.pdAttached n.val = true ∧ s.expert (pd n.val) = false ∧ s.pdMoab = true ∧ s.rd (pd n.val) PD_ST = 3 ∧ s.rd (pd n.val) PD_WAITS < 2) ∧
    (∃ (s : State) (n : Fin 6) (i : Nat) (v : Nat) (c : Nat), s.pdBasic n.val = true ∧ s.rd (pd n.val) PD_ST = 31 ∧ s.pdAged n.val 100 = true ∧ s.sinkPick n.val = some (i, v, c)) ∧
    (∃ (s : State) (n : Fin 6) (_ : List Nat), s.works (pd n.val) = true ∧ s.pdAttached n.val = true ∧ s.expert (pd n.val) = false ∧ s.pdMoab = true ∧ s.rd (pd n.val) PD_ST = 4 ∧ s.pdSource n.val = false ∧ s.is aon AON_DBAT = false ∧ s.is (pd n.val) PG_SHADOW_CTRL_ARMED = false ∧ s.is (pd n.val) PD_DISC = false ∧ s.is (pd n.val) PD_STATUS_VCONN = true) ∧
    (∃ (s : State) (n : Fin 6), s.pdBasic n.val = true ∧ s.pdAged n.val 28 = true ∧ s.rd (pd n.val) PD_ST = 2) ∧
    (∃ (s : State) (n : Fin 6), s.pdBasic n.val = true ∧ s.pdAged n.val 28 = true ∧ s.rd (pd n.val) PD_ST = 7) ∧
    (∃ (s : State) (n : Fin 6) (_ : List Nat), s.works (pd n.val) = true ∧ s.pdAttached n.val = true ∧ s.expert (pd n.val) = false ∧ s.pdMoab = true ∧ s.is (pd n.val) PD_ARMNEG = false ∧ s.is (pd n.val) PD_POLICY_ACC_PR = true ∧ s.pdSource n.val = true) ∧
    (∃ (s : State) (n : Fin 6) (_ : List Nat), s.works (pd n.val) = true ∧ s.pdAttached n.val = true ∧ s.expert (pd n.val) = false ∧ s.pdMoab = true ∧ s.is (pd n.val) PD_ARMNEG = false ∧ s.is (pd n.val) PD_POLICY_ACC_PR = false ∧ s.mild (pd n.val) 2) ∧
    (∃ (s : State) (n : Fin 6) (_ : List Nat), s.works (pd n.val) = true ∧ s.pdAttached n.val = true ∧ s.expert (pd n.val) = false ∧ s.pdMoab = true ∧ s.is (pd n.val) PD_ARMNEG = false ∧ s.is (pd n.val) PD_POLICY_ACC_DR = true ∧ s.rd (pd n.val) PD_STATUS_DR < 2 ∧ s.rd (pd n.val) PD_CNT_SWAP_DR < 255) ∧
    (∃ (s : State) (n : Fin 6) (_ : List Nat), s.works (pd n.val) = true ∧ s.pdAttached n.val = true ∧ s.expert (pd n.val) = false ∧ s.pdMoab = true ∧ s.is (pd n.val) PD_ARMNEG = false ∧ s.is (pd n.val) PD_POLICY_ACC_VCONN = true ∧ s.is (pd n.val) PD_STATUS_VCONN = true) ∧
    (∃ (s : State) (n : Fin 6) (_ : List Nat), s.works (pd n.val) = true ∧ s.pdAttached n.val = true ∧ s.expert (pd n.val) = false ∧ s.pdMoab = true ∧ s.is (pd n.val) PD_ARMNEG = false ∧ s.rd (pd n.val) PD_ST = 16) ∧
    (∃ (s : State) (n : Fin 6) (_ : Fin 65536), s.pdBasic n.val = true ∧ s.is (pd n.val) PD_STATUS_FRS_ARMED = true ∧ s.is safe (SP_STATE_FRS.nth n.val) = true ∧ s.pdSource n.val = false ∧ s.is safe (SP_STATE_TRIPPED.nth n.val) = false) ∧
    (∃ (s : State), s.rd glb (GLB_GPIO.nth 14) ≠ 255 ∧ (∀ (n : Nat), n < 6 → s.is (pd n) PD_POLICY_FRS_EN = false)) :=
  ⟨⟨on [(pd 0, (pd 0).enableField, 1), (aon, AON_PRESENT.nth 0, 1)], 0, 2, 0, 2, 0, by decide +kernel⟩,
   ⟨on [(safe, SP_ROLE.nth 0, 1)], 0, 0, by decide +kernel⟩,
   ⟨on [], 0, by decide +kernel⟩,
   ⟨st [(glb, GLB_STRAP_DBAT, 1)], 0, 0, by decide +kernel⟩,
   ⟨on [(mbx, MB_FW_FW_READY, 1), (pd 0, (pd 0).enableField, 1), (pd 0, PD_STATUS_STATE, 2)], 0, [], by decide +kernel⟩,
   ⟨on [(mbx, MB_FW_FW_READY, 1), (pd 0, PD_OFFER.nth 0, 102500), (pd 0, (pd 0).enableField, 1), (safe, SP_ROLE.nth 0, 1), (pd 0, PD_STATUS_STATE, 2), (pd 0, PD_STATUS_PR, 1), (pd 0, PD_BOARD_TOTAL_W, 6)], 0, [0, 2 ^ 28 + 100 * 1024 + 100], 1, 100 * 1024 + 100, by decide +kernel⟩,
   ⟨on [(mbx, MB_FW_FW_READY, 1), (pd 0, (pd 0).enableField, 1), (pd 0, PD_STATUS_STATE, 2), (pd 0, PD_STATUS_PR, 1)], 0, [], by decide +kernel⟩,
   ⟨on [(mbx, MB_FW_FW_READY, 1), (pd 0, (pd 0).enableField, 1), (pd 0, PD_ST, 3), (pd 0, PD_STATUS_STATE, 2)], 0, [], by decide +kernel⟩,
   ⟨on [(mbx, MB_FW_FW_READY, 1), (pd 0, (pd 0).enableField, 1), (pd 0, PD_ST, 3), (pd 0, PD_STATUS_STATE, 2)], 0, [], by decide +kernel⟩,
   ⟨on [(mbx, MB_FW_FW_READY, 1), (pd 0, (pd 0).enableField, 1), (pd 0, PD_ST, 3), (pd 0, PD_STATUS_STATE, 2)], 0, [], by decide +kernel⟩,
   ⟨(let s := on [(mbx, MB_FW_FW_READY, 1), (pd 0, PD_CAPS.nth 0, 102500), (pd 0, (pd 0).enableField, 1), (pd 0, PD_ST, 31)]; { (s.wrA (pd 0) PD_SNK_REQ_VOLT 1000).wrA (pd 0) PD_SNK_REQ_CURR 300 with clock := 1000000000000 }), 0, 0, 5000, 1000, by decide +kernel⟩,
   ⟨on [(mbx, MB_FW_FW_READY, 1), (pd 0, (pd 0).enableField, 1), (pd 0, PD_ST, 4), (pd 0, PD_STATUS_VCONN, 1), (pd 0, PD_STATUS_STATE, 2)], 0, [], by decide +kernel⟩,
   ⟨{ on [(mbx, MB_FW_FW_READY, 1), (pd 0, (pd 0).enableField, 1), (pd 0, PD_ST, 2)] with clock := 1000000000000 }, 0, by decide +kernel⟩,
   ⟨{ on [(mbx, MB_FW_FW_READY, 1), (pd 0, (pd 0).enableField, 1), (pd 0, PD_ST, 7)] with clock := 1000000000000 }, 0, by decide +kernel⟩,
   ⟨on [(mbx, MB_FW_FW_READY, 1), (pd 0, (pd 0).enableField, 1), (pd 0, PD_STATUS_STATE, 2), (pd 0, PD_STATUS_PR, 1)], 0, [], by decide +kernel⟩,
   ⟨on [(mbx, MB_FW_FW_READY, 1), (pd 0, (pd 0).enableField, 1), (pd 0, PD_POLICY_ACC_PR, 0), (pd 0, PD_STATUS_STATE, 2)], 0, [], by decide +kernel⟩,
   ⟨on [(mbx, MB_FW_FW_READY, 1), (pd 0, (pd 0).enableField, 1), (pd 0, PD_STATUS_STATE, 2)], 0, [], by decide +kernel⟩,
   ⟨on [(mbx, MB_FW_FW_READY, 1), (pd 0, (pd 0).enableField, 1), (pd 0, PD_STATUS_VCONN, 1), (pd 0, PD_STATUS_STATE, 2)], 0, [], by decide +kernel⟩,
   ⟨on [(mbx, MB_FW_FW_READY, 1), (pd 0, (pd 0).enableField, 1), (pd 0, PD_ST, 16), (pd 0, PD_STATUS_STATE, 2)], 0, [], by decide +kernel⟩,
   ⟨on [(mbx, MB_FW_FW_READY, 1), (pd 0, (pd 0).enableField, 1), (pd 0, PD_STATUS_FRS_ARMED, 1), (safe, SP_STATE_FRS.nth 0, 1)], 0, 0, by decide +kernel⟩,
   ⟨st [(glb, GLB_GPIO.nth 14, 0)], by decide +kernel⟩⟩

/-- The hypotheses of each clause of PdDiscoversAndKeepsContracts are met together. -/
theorem wit_PdDiscoversAndKeepsContracts :
    (∃ (s : State) (n : Fin 6), s.works (pd n.val) = true ∧ s.pdAttached n.val = true ∧ s.rd (pd n.val) PD_HR_TIME = 0 ∧ s.rd (pd n.val) PD_ATTACH_ATT_PR = 0) ∧
    (∃ (s : State) (n : Fin 6), s.works (pd n.val) = true ∧ s.pdAttached n.val = true ∧ s.rd (pd n.val) PD_HR_TIME = 0 ∧ s.rd (pd n.val) PD_ATTACH_ATT_PR = 1 ∧ s.rd (pd n.val) PD_STATUS_PHASE < 5) ∧
    (∃ (s : State) (n : Fin 6), s.works (pd n.val) = true ∧ s.rd (pd n.val) PD_ST = 29 ∧ s.pdAged n.val 700 = true) ∧
    (∃ (s : State) (n : Fin 6), s.rd (pd n.val) PD_STATUS_STATE = 5 ∧ s.pdAged n.val 30 = true ∧ s.is (pd n.val) PD_CHOSEN = false ∧ s.linkUp n.val = false) ∧
    (∃ (s : State) (n : Fin 6) (_ : List Nat), s.works (pd n.val) = true ∧ s.pdAttached n.val = true ∧ s.expert (pd n.val) = false ∧ s.pdMoab = true ∧ s.pdSource n.val = false ∧ s.rd (pd n.val) PD_CNT_SR_RX < 2 ^ 16 - 1) ∧
    (∃ (s : State) (n : Fin 6) (raw : List Nat), s.works (pd n.val) = true ∧ s.pdAttached n.val = true ∧ s.expert (pd n.val) = false ∧ s.pdMoab = true ∧ s.pdSource n.val = false ∧ raw.getD 1 0 / 2 ^ 24 = 5) ∧
    (∃ (s : State) (n : Fin 6) (raw : List Nat), s.works (pd n.val) = true ∧ s.pdAttached n.val = true ∧ s.expert (pd n.val) = false ∧ s.pdMoab = true ∧ s.pdSource n.val = false ∧ raw.getD 1 0 / 2 ^ 24 = 3 ∧ s.rd (pd n.val) PD_ST = 18) ∧
    (∃ (s : State) (n : Fin 6) (raw : List Nat), s.works (pd n.val) = true ∧ s.pdAttached n.val = true ∧ s.expert (pd n.val) = false ∧ s.pdMoab = true ∧ s.pdSource n.val = false ∧ raw.getD 1 0 / 2 ^ 24 = 1) ∧
    (∃ (s : State) (n : Fin 6) (_ : List Nat), s.works (pd n.val) = true ∧ s.pdAttached n.val = true ∧ s.expert (pd n.val) = false ∧ s.pdMoab = true ∧ s.pdSource n.val = true ∧ s.is (pd n.val) PD_STATUS_EPR = true) ∧
    (∃ (s : State) (n : Fin 6), s.pdBasic n.val = true ∧ s.is (pd n.val) PD_STATUS_EPR = true ∧ s.pdSource n.val = false ∧ s.rd (pd n.val) PD_KA_TIME + clamp 25 50 (s.rd (pd n.val) PD_TMR_EPR_KA) * 10000000 ≤ s.clock) ∧
    (∃ (s : State) (n : Fin 6), s.pdBasic n.val = true ∧ s.is (pd n.val) PD_STATUS_EPR = true ∧ s.pdSource n.val = true ∧ s.is aon AON_DBAT = false ∧ s.mild (pd n.val) 6 ∧ s.rd (pd n.val) PD_KA_TIME + 875000000 ≤ s.clock) ∧
    (∃ (s : State) (n : Fin 6), s.pdBasic n.val = true ∧ s.pdProg n.val = true ∧ s.pdSource n.val = true ∧ s.is aon AON_DBAT = false ∧ s.mild (pd n.val) 7 ∧ s.rd (pd n.val) PD_PPS_TIME + 13500000000 ≤ s.clock) ∧
    (∃ (s : State) (n : Fin 6), s.pdBasic n.val = true ∧ s.pdProg n.val = true ∧ s.pdSource n.val = false ∧ s.rd (pd n.val) PD_ST = 0 ∧ s.rd (pd n.val) PD_PPS_TIME + clamp 1000 9000 (s.rd (pd n.val) PD_TMR_PPS_REQ) * 1000000 ≤ s.clock) ∧
    (∃ (s : State) (n : Fin 6), s.pdBasic n.val = true ∧ s.rd (pd n.val) PD_ST = 28 ∧ s.pdAged n.val 100 = true ∧ s.is (pd n.val) PD_DRS_DONE = false) ∧
    (∃ (s : State) (n : Fin 6) (_ : List Nat), s.works (pd n.val) = true ∧ s.pdAttached n.val = true ∧ s.expert (pd n.val) = false ∧ s.pdMoab = true ∧ s.rd (pd n.val) PD_ST = 24) ∧
    (∃ (s : State) (n : Fin 6) (_ : List Nat), s.works (pd n.val) = true ∧ s.pdAttached n.val = true ∧ s.expert (pd n.val) = false ∧ s.pdMoab = true ∧ s.rd (pd n.val) PD_ST = 23 ∧ s.rd (pd n.val) PD_STATUS_DR = 1) ∧
    (∃ (s : State) (n : Fin 6) (raw : List Nat) (_ : Bool), s.works (pd n.val) = true ∧ s.pdAttached n.val = true ∧ s.expert (pd n.val) = false ∧ s.pdMoab = true ∧ s.rd (pd n.val) PD_ST ≠ 26 ∧ s.rd (pd n.val) PD_STATUS_DR = 0 ∧ (raw.getLast?.getD 0 = 0 ∨ 3 ≤ raw.getLast?.getD 0)) ∧
    (∃ (s : State) (n : Fin 6) (raw : List Nat) (v : Nat) (_ : Bool), s.works (pd n.val) = true ∧ s.pdAttached n.val = true ∧ s.expert (pd n.val) = false ∧ s.pdMoab = true ∧ s.rd (pd n.val) PD_ST ≠ 26 ∧ s.rd (pd n.val) PD_STATUS_DR = 0 ∧ raw.getLast?.getD 0 = v ∧ (v = 1 ∨ v = 2) ∧ (s.rd (pd n.val) PD_MODES).testBit (v - 1) = true) ∧
    (∃ (s : State) (n : Fin 6) (raw : List Nat), s.works (pd n.val) = true ∧ s.pdAttached n.val = true ∧ s.expert (pd n.val) = false ∧ s.pdMoab = true ∧ s.rd (pd n.val) PD_STATUS_DR = 0 ∧ raw.getD 1 0 / 2 ^ 28 % 8 = 0) ∧
    (∃ (s : State) (n : Fin 6) (raw : List Nat), s.works (pd n.val) = true ∧ s.pdAttached n.val = true ∧ s.expert (pd n.val) = false ∧ s.pdMoab = true ∧ s.rd (pd n.val) PD_MODES = 0 ∧ raw.getD 1 0 / 2 ^ 28 % 8 = 2) ∧
    (∃ (s : State) (n : Fin 6) (_ : Fin 3), s.works (pd n.val) = true ∧ s.pdAttached n.val = true) ∧
    (∃ (s : State) (n : Fin 6) (_ : Nat), s.works (pd n.val) = true ∧ s.pdAttached n.val = true ∧ s.expert (pd n.val) = true ∧ s.pdRx.list n.val = []) :=
  ⟨⟨on [(pd 0, (pd 0).enableField, 1), (pd 0, PD_STATUS_STATE, 2)], 0, by decide +kernel⟩,
   ⟨on [(pd 0, (pd 0).enableField, 1), (pd 0, PD_ATTACH_ATT_PR, 1), (pd 0, PD_STATUS_STATE, 2)], 0, by decide +kernel⟩,
   ⟨{ on [(pd 0, (pd 0).enableField, 1), (pd 0, PD_ST, 29)] with clock := 1000000000000 }, 0, by decide +kernel⟩,
   ⟨{ st [(pd 0, PD_STATUS_STATE, 5)] with clock := 1000000000000 }, 0, by decide +kernel⟩,
   ⟨on [(mbx, MB_FW_FW_READY, 1), (pd 0, (pd 0).enableField, 1), (pd 0, PD_STATUS_STATE, 2)], 0, [], by decide +kernel⟩,
   ⟨on [(mbx, MB_FW_FW_READY, 1), (pd 0, (pd 0).enableField, 1), (pd 0, PD_STATUS_STATE, 2)], 0, [0, 5 * 2 ^ 24], by decide +kernel⟩,
   ⟨on [(mbx, MB_FW_FW_READY, 1), (pd 0, (pd 0).enableField, 1), (pd 0, PD_ST, 18), (pd 0, PD_STATUS_STATE, 2)], 0, [0, 3 * 2 ^ 24], by decide +kernel⟩,
   ⟨on [(mbx, MB_FW_FW_READY, 1), (pd 0, (pd 0).enableField, 1), (pd 0, PD_STATUS_STATE, 2)], 0, [0, 2 ^ 24], by decide +kernel⟩,
   ⟨on [(mbx, MB_FW_FW_READY, 1), (pd 0, (pd 0).enableField, 1), (pd 0, PD_STATUS_EPR, 1), (pd 0, PD_STATUS_STATE, 2), (pd 0, PD_STATUS_PR, 1)], 0, [], by decide +kernel⟩,
   ⟨{ on [(mbx, MB_FW_FW_READY, 1), (pd 0, (pd 0).enableField, 1), (pd 0, PD_STATUS_EPR, 1)] with clock := 1000000000000 }, 0, by decide +kernel⟩,
   ⟨{ on [(mbx, MB_FW_FW_READY, 1), (pd 0, (pd 0).enableField, 1), (pd 0, PD_STATUS_EPR, 1), (pd 0, PD_STATUS_PR, 1)] with clock := 1000000000000 }, 0, by decide +kernel⟩,
   ⟨{ on [(mbx, MB_FW_FW_READY, 1), (pd 0, (pd 0).enableField, 1), (pd 0, PD_STATUS_CONTRACT, 1), (pd 0, PD_STATUS_KIND, 3), (pd 0, PD_STATUS_PR, 1)] with clock := 1000000000000 }, 0, by decide +kernel⟩,
   ⟨{ on [(mbx, MB_FW_FW_READY, 1), (pd 0, (pd 0).enableField, 1), (pd 0, PD_STATUS_CONTRACT, 1), (pd 0, PD_STATUS_KIND, 3)] with clock := 1000000000000 }, 0, by decide +kernel⟩,
   ⟨{ on [(mbx, MB_FW_FW_READY, 1), (pd 0, (pd 0).enableField, 1), (pd 0, PD_ST, 28)] with clock := 1000000000000 }, 0, by decide +kernel⟩,
   ⟨on [(mbx, MB_FW_FW_READY, 1), (pd 0, (pd 0).enableField, 1), (pd 0, PD_ST, 24), (pd 0, PD_STATUS_STATE, 2)], 0, [], by decide +kernel⟩,
   ⟨on [(mbx, MB_FW_FW_READY, 1), (pd 0, (pd 0).enableField, 1), (pd 0, PD_ST, 23), (pd 0, PD_STATUS_DR, 1), (pd 0, PD_STATUS_STATE, 2)], 0, [], by decide +kernel⟩,
   ⟨on [(mbx, MB_FW_FW_READY, 1), (pd 0, (pd 0).enableField, 1), (pd 0, PD_STATUS_STATE, 2)], 0, [], false, by decide +kernel⟩,
   ⟨on [(mbx, MB_FW_FW_READY, 1), (pd 0, (pd 0).enableField, 1), (pd 0, PD_MODES, 1), (pd 0, PD_STATUS_STATE, 2)], 0, [0, 1], 1, false, by decide +kernel⟩,
   ⟨on [(mbx, MB_FW_FW_READY, 1), (pd 0, (pd 0).enableField, 1), (pd 0, PD_STATUS_STATE, 2)], 0, [], by decide +kernel⟩,
   ⟨on [(mbx, MB_FW_FW_READY, 1), (pd 0, (pd 0).enableField, 1), (pd 0, PD_STATUS_STATE, 2)], 0, [0, 2 * 2 ^ 28], by decide +kernel⟩,
   ⟨on [(pd 0, (pd 0).enableField, 1), (pd 0, PD_STATUS_STATE, 2)], 0, 0, by decide +kernel⟩,
   ⟨on [(pd 0, (pd 0).enableField, 1), (pd 0, PD_STATUS_STATE, 2), (pd 0, PG_CTRL_EXPERT, 1)], 0, 0, by decide +kernel⟩⟩

/-- The hypotheses of each clause of PdRequestsAndTimersRun are met together. -/
theorem wit_PdRequestsAndTimersRun :
    (∃ (s : State) (who : Initiator) (n : Fin 6) (c : Instr) (f : Field) (b : Nat), (c, f, b) ∈ [(Instr.hardReset who n, PD_CTRL_HARD_RESET, 0), (Instr.softReset who n, PD_CTRL_SOFT_RESET, 1), (Instr.swapVconn who n, PD_CTRL_SWAP_VCONN, 3), (Instr.swapDr who n, PD_CTRL_SWAP_DR, 4), (Instr.swapPr who n, PD_CTRL_SWAP_PR, 5), (Instr.eprEnter who n, PD_CTRL_EPR_ENTER, 6), (Instr.eprExit who n, PD_CTRL_EPR_EXIT, 7)] ∧ s.accepts who (pd n.val) f) ∧
    (∃ (s : State) (who : Initiator) (n : Fin 6), s.accepts who (pd n.val) PD_CTRL_ERR_RECOVERY ∧ s.pdAttached n.val = true ∧ s.mild (pd n.val) 9 ∧ s.is (pd n.val) PD_CHOSEN = false ∧ s.linkUp n.val = false) ∧
    (∃ (s : State) (n : Fin 6), s.pdBasic n.val = true ∧ s.pdAttached n.val = true ∧ s.is (pd n.val) PG_STATUS_CONTAINED = false ∧ s.rd (pd n.val) PD_Q = 16 ∧ s.rd (pd n.val) PD_ST = 0 ∧ s.is (pd n.val) PD_PEND = false ∧ s.pdSource n.val = true) ∧
    (∃ (s : State) (n : Fin 6), s.pdBasic n.val = true ∧ s.pdAttached n.val = true ∧ s.is (pd n.val) PG_STATUS_CONTAINED = false ∧ s.rd (pd n.val) PD_Q = 16 ∧ s.rd (pd n.val) PD_ST = 0 ∧ s.is (pd n.val) PD_PEND = false ∧ s.pdSource n.val = false ∧ s.rd (pd n.val) PD_STATUS_SINKTX = 1) ∧
    (∃ (s : State) (n : Fin 6), s.pdBasic n.val = true ∧ s.rd (pd n.val) PD_PEND = 5 ∧ s.pdAged n.val (clamp 16 20 (s.rd (pd n.val) PD_TMR_SINKTX)) = true) ∧
    (∃ (s : State) (who : Initiator) (n : Fin 6), s.accepts who (pd n.val) PD_TX_CTRL_SEND ∧ s.expert (pd n.val) = true ∧ s.pdAttached n.val = true ∧ s.is (pd n.val) PD_RESP = true) ∧
    (∃ (s : State) (n : Fin 6) (_ : Fin 4), s.works (pd n.val) = true ∧ s.pdAttached n.val = true ∧ s.pdSource n.val = false ∧ s.rd (pd n.val) PD_PEND ≠ 9) ∧
    (∃ (s : State) (n : Fin 6), s.pdBasic n.val = true ∧ s.rd (pd n.val) PD_STATUS_STATE = 2 ∧ s.is (pd n.val) PD_STATUS_CONTRACT = false ∧ s.rd (pd n.val) PD_ST ≤ 1 ∧ s.rd (pd n.val) PD_CAPS_N < 50 ∧ s.pdAged n.val 150 = true) ∧
    (∃ (s : State) (n : Fin 6), s.pdBasic n.val = true ∧ s.pdAged n.val 30 = true ∧ s.rd (pd n.val) PD_ST = 18) ∧
    (∃ (s : State) (n : Fin 6) (c : Instr), s.pdBasic n.val = true ∧ s.is aon AON_DBAT = false ∧ (c = Instr.senderResponseTimeout n ∧ s.pdAged n.val 30 = true ∧ s.rd (pd n.val) PD_ST = 3 ∨ c = Instr.psRdyTimeout n ∧ s.pdAged n.val 925 = true ∧ s.rd (pd n.val) PD_ST = 4 ∨ c = Instr.noResponseTimeout n ∧ s.pdAged n.val 5000 = true ∧ s.pdAttached n.val = true ∧ s.is (pd n.val) PD_STATUS_CONTRACT = false ∧ s.is (pd n.val) PD_ATTACH_PD = true)) ∧
    (∃ (s : State) (n : Fin 6) (sop : Nat) (m : PdMsg), s.pdLast.find n.val = some (sop, m) ∧ s.works (pd n.val) = true ∧ s.expert (pd n.val) = false ∧ s.rd (pd n.val) PD_TXFAIL < 2) ∧
    (∃ (s : State) (n : Fin 6) (sop : Nat) (m : PdMsg), s.pdLast.find n.val = some (sop, m) ∧ s.works (pd n.val) = true ∧ s.expert (pd n.val) = false ∧ 2 ≤ s.rd (pd n.val) PD_TXFAIL ∧ s.rd (pd n.val) PD_CNT_MSG_FAIL < 2 ^ 32 - 1 ∧ s.mild (pd n.val) 4) :=
  ⟨⟨on [], .marionette, 0, .hardReset .marionette 0, PD_CTRL_HARD_RESET, 0, by decide +kernel⟩,
   ⟨on [(pd 0, PD_STATUS_STATE, 2)], .marionette, 0, by decide +kernel⟩,
   ⟨on [(mbx, MB_FW_FW_READY, 1), (pd 0, (pd 0).enableField, 1), (pd 0, PD_Q, 16), (pd 0, PD_STATUS_STATE, 2), (pd 0, PD_STATUS_PR, 1)], 0, by decide +kernel⟩,
   ⟨on [(mbx, MB_FW_FW_READY, 1), (pd 0, (pd 0).enableField, 1), (pd 0, PD_Q, 16), (pd 0, PD_STATUS_SINKTX, 1), (pd 0, PD_STATUS_STATE, 2)], 0, by decide +kernel⟩,
   ⟨{ on [(mbx, MB_FW_FW_READY, 1), (pd 0, (pd 0).enableField, 1), (pd 0, PD_PEND, 5)] with clock := 1000000000000 }, 0, by decide +kernel⟩,
   ⟨on [(pd 0, PD_RESP, 1), (pd 0, PG_CTRL_EXPERT, 1), (pd 0, PD_STATUS_STATE, 2)], .host0, 0, by decide +kernel⟩,
   ⟨on [(pd 0, (pd 0).enableField, 1), (pd 0, PD_STATUS_STATE, 2)], 0, 0, by decide +kernel⟩,
   ⟨{ on [(mbx, MB_FW_FW_READY, 1), (pd 0, (pd 0).enableField, 1), (pd 0, PD_STATUS_STATE, 2)] with clock := 1000000000000 }, 0, by decide +kernel⟩,
   ⟨{ on [(mbx, MB_FW_FW_READY, 1), (pd 0, (pd 0).enableField, 1), (pd 0, PD_ST, 18)] with clock := 1000000000000 }, 0, by decide +kernel⟩,
   ⟨{ on [(mbx, MB_FW_FW_READY, 1), (pd 0, (pd 0).enableField, 1), (pd 0, PD_ATTACH_PD, 1), (pd 0, PD_STATUS_STATE, 2)] with clock := 1000000000000 }, 0, .noResponseTimeout 0, by decide +kernel⟩,
   ⟨{ on [(pd 0, (pd 0).enableField, 1)] with pdLast := [(0, (0, .accept))] }, 0, 0, .accept, by decide +kernel⟩,
   ⟨{ on [(pd 0, (pd 0).enableField, 1), (pd 0, PD_TXFAIL, 2)] with pdLast := [(0, (0, .accept))] }, 0, 0, .accept, by decide +kernel⟩⟩

/-- The hypotheses of each clause of TripsAndHealthOpenThePowerStage are met together. -/
theorem wit_TripsAndHealthOpenThePowerStage :
    (∃ (s : State) (n : Fin 6) (v : Fin 65536) (i : Fin 65536) (c : Instr) (k : Nat), s.ps ≤ 1 ∧ s.safeOn = true ∧ s.rd safe (SP_QUIET.nth n.val) ≤ s.clock ∧ s.is safe (SP_STATE_TRIPPED.nth n.val) = false ∧ s.rd safe (SP_CNT_TRIP.nth n.val) < 2 ^ 32 - 1 ∧ (c = Instr.ovTrip n v i ∧ k = 1 ∧ s.rd safe (SP_LIM_OV_MV.nth n.val) < v.val ∨ c = Instr.ocTrip n v i ∧ k = 2 ∧ s.rd safe (SP_OCCFG_IMAX_MA.nth n.val) < (signed 16 i.val).natAbs ∨ c = Instr.rcTrip n v i ∧ k = 3 ∧ s.rd safe (SP_ROLE.nth n.val) = 1 ∧ signed 16 i.val < -↑(s.rd safe (SP_RC_RC_MA.nth n.val)) ∨ c = Instr.transTimeout n v i ∧ k = 9 ∧ s.is safe (SP_STATE_TRANS.nth n.val) = true ∧ s.rd safe (SP_TRANS_TIME.nth n.val) + 1000000000 ≤ s.clock)) ∧
    (∃ (s : State) (n : Fin 6) (v : Fin 65536), s.ps ≤ 1 ∧ s.safeOn = true ∧ s.is safe (SP_STATE_DISCH.nth n.val) = true ∧ 800 < v.val ∧ s.is safe (SP_DISCH_FAILED.nth n.val) = false ∧ s.rd safe (SP_DISCH_TIME.nth n.val) + 265000000 ≤ s.clock ∧ s.rd safe (SP_QUIET.nth n.val) ≤ s.clock ∧ s.is safe (SP_STATE_TRIPPED.nth n.val) = false ∧ s.rd aon AON_ENT_STEP ≠ 2) ∧
    (∃ (s : State) (n : Fin 6) (v : Fin 65536), s.ps ≤ 1 ∧ s.safeOn = true ∧ s.is safe (SP_STATE_DISCH.nth n.val) = true ∧ v.val ≤ 800 ∧ s.rd (pd n.val) PD_ST ≠ 8 ∧ s.rd aon AON_ENT_STEP ≠ 2) ∧
    (∃ (s : State) (n : Fin 6), s.ps ≤ 1 ∧ s.safeOn = true ∧ s.is safe (SP_STATE_VCONN.nth n.val) = true ∧ s.gated (pd n.val) = false ∧ s.mild (pd n.val) 5) ∧
    (∃ (s : State) (tj : Fin 256), s.safeOn = true ∧ signed 8 (s.rd safe SF_THERM_WARN_C) ≤ signed 8 tj.val) ∧
    (∃ (s : State) (tj : Fin 256), s.safeOn = true ∧ 115 ≤ signed 8 tj.val ∧ s.is safe SF_STATUS_THERM = false ∧ s.ps ≤ 1) ∧
    (∃ (s : State) (tj : Fin 256), s.safeOn = true ∧ signed 8 tj.val < 100 ∧ s.is safe SF_STATUS_THERM = true ∧ s.rd aon AON_ENT_STEP ≠ 3) ∧
    (∃ (s : State) (n : Fin 6) (v : Fin 65536) (r : SafeReq), s.safeOn = true ∧ s.coldStop = false ∧ s.closers.find n.val = some r ∧ r.mbx = false ∧ s.is safe (SP_STATE_DISCH.nth n.val) = false ∧ r.w1 % 2 = 1 ∧ s.srcOn n.val = false ∧ s.rd safe (SP_WIN_WIN_LO_MV.nth n.val) ≤ v.val ∧ v.val ≤ s.rd safe (SP_WIN_WIN_HI_MV.nth n.val)) ∧
    (∃ (s : State) (n : Fin 6) (v : Fin 65536) (r : SafeReq), s.safeOn = true ∧ s.coldStop = false ∧ s.closers.find n.val = some r ∧ r.mbx = false ∧ s.is safe (SP_STATE_DISCH.nth n.val) = false ∧ r.w1 % 2 = 0 ∧ s.snkOn n.val = false ∧ v.val ≤ 800 ∧ s.rd (pd n.val) PD_ST ≠ 11) ∧
    (∃ (s : State) (n : Fin 6) (v : Fin 65536), s.safeOn = true ∧ s.coldStop = false ∧ s.closers.find n.val = none ∧ s.is safe (SP_FRS_SEEN.nth n.val) = true ∧ v.val < 4750 ∧ s.snkOn n.val = false ∧ s.is safe (SP_STATE_DISCH.nth n.val) = false ∧ s.rd (pd n.val) PD_ST ≠ 11) ∧
    (∃ (s : State) (n : Fin 6) (r : SafeReq), s.is safe (SP_STATE_CLOSE_WAIT.nth n.val) = true ∧ s.rd safe (SP_CLOSE_TIME.nth n.val) + 1000000000 ≤ s.clock ∧ s.closers.find n.val = some r ∧ r.mbx = false) ∧
    (∃ (s : State) (c : Instr) (k : Nat), (c, k) ∈ [(Instr.lockstepMismatch, 1), (Instr.safeClockFault, 2), (Instr.safeWatchdog, 3), (Instr.safeSramUe, 4), (Instr.safeSupplyLow, 5)] ∧ s.safeOn = true ∧ s.ps ≠ 3 ∧ s.is safe PG_STATUS_IN_RESET = false ∧ s.rd safe SF_CNT_RST < 2 ^ 32 - 1) ∧
    (∃ (s : State), s.is safe PG_STATUS_IN_RESET = true ∧ s.is safe SF_CLK_BAD = false ∧ s.safeq = []) :=
  ⟨⟨{ State.reset with clock := 1000000000000 }, 0, 40000, 0, .ovTrip 0 40000 0, 1, by decide +kernel⟩,
   ⟨{ st [(safe, SP_STATE_DISCH.nth 0, 1)] with clock := 1000000000000 }, 0, 265000000, by decide +kernel⟩,
   ⟨st [(safe, SP_STATE_DISCH.nth 0, 1)], 0, 0, by decide +kernel⟩,
   ⟨on [(safe, SP_STATE_VCONN.nth 0, 1)], 0, by decide +kernel⟩,
   ⟨st [(safe, SF_THERM_WARN_C, 0)], 0, by decide +kernel⟩,
   ⟨State.reset, 115, by decide +kernel⟩,
   ⟨st [(safe, SF_STATUS_THERM, 1)], 0, by decide +kernel⟩,
   ⟨{ st [(safe, SP_WIN_WIN_LO_MV.nth 0, 0)] with closers := [(0, ⟨.marionette, 2, 0, 5, 1, 0, 0, false⟩)], clock := 1000000000000 }, 0, 0, ⟨.marionette, 2, 0, 5, 1, 0, 0, false⟩, by decide +kernel⟩,
   ⟨{ State.reset with closers := [(0, ⟨.marionette, 2, 0, 5, 0, 0, 0, false⟩)], clock := 1000000000000 }, 0, 0, ⟨.marionette, 2, 0, 5, 0, 0, 0, false⟩, by decide +kernel⟩,
   ⟨st [(safe, SP_FRS_SEEN.nth 0, 1)], 0, 0, by decide +kernel⟩,
   ⟨{ st [(safe, SP_STATE_CLOSE_WAIT.nth 0, 1)] with closers := [(0, ⟨.marionette, 2, 0, 5, 0, 0, 0, false⟩)], clock := 1000000000000 }, 0, ⟨.marionette, 2, 0, 5, 0, 0, 0, false⟩, by decide +kernel⟩,
   ⟨State.reset, .lockstepMismatch, 1, by decide +kernel⟩,
   ⟨st [(safe, PG_STATUS_IN_RESET, 1)], by decide +kernel⟩⟩

/-- The hypotheses of each clause of TheIslandAnswersRequests are met together. -/
theorem wit_TheIslandAnswersRequests :
    (∃ (s : State) (p : Fin 256) (_ : Fin 65536) (lo : Fin 65536) (hi : Fin 65536) (_ : Fin 65536), s.gated safe = false ∧ s.is safe PG_STATUS_IN_RESET = false ∧ p.val ≤ 5 ∧ s.rd safe (SP_ROLE.nth p.val) ≠ 0 ∧ s.is safe (SP_STATE_TRIPPED.nth p.val) = false ∧ lo ≤ hi ∧ s.energyFails p.val hi.val = false) ∧
    (∃ (s : State) (p : Fin 256) (_ : Fin 65536) (lo : Fin 65536) (hi : Fin 65536) (_ : Fin 65536), s.gated safe = false ∧ s.is safe PG_STATUS_IN_RESET = false ∧ p.val ≤ 5 ∧ s.rd safe (SP_ROLE.nth p.val) ≠ 0 ∧ s.is safe (SP_STATE_TRIPPED.nth p.val) = false ∧ lo ≤ hi ∧ s.energyFails p.val hi.val = false ∧ s.is safe (SP_STATE_TRANS.nth p.val) = true) ∧
    (∃ (s : State) (p : Fin 256) (_ : Fin 65536) (lo : Fin 65536) (hi : Fin 65536) (_ : Fin 65536), s.gated safe = false ∧ s.is safe PG_STATUS_IN_RESET = false ∧ p.val ≤ 5 ∧ s.rd safe (SP_ROLE.nth p.val) ≠ 0 ∧ s.is safe (SP_STATE_TRIPPED.nth p.val) = false ∧ lo ≤ hi ∧ s.energyFails p.val hi.val = true) ∧
    (∃ (s : State) (p : Fin 256) (_ : Fin 65536), s.gated safe = false ∧ s.is safe PG_STATUS_IN_RESET = false ∧ p.val ≤ 5 ∧ s.rd safe (SP_ROLE.nth p.val) ≠ 0 ∧ s.is safe (SP_STATE_TRIPPED.nth p.val) = false ∧ s.is safe (SP_STATE_CLOSE_WAIT.nth p.val) = false ∧ s.coldStop = false ∧ s.srcOn p.val = false ∧ s.snkOn p.val = false ∧ s.is safe (SP_STATE_DISCH.nth p.val) = false ∧ s.rd safe (SP_VBUS.nth p.val) ≤ 800) ∧
    (∃ (s : State) (p : Fin 256) (_ : Fin 65536), s.gated safe = false ∧ s.is safe PG_STATUS_IN_RESET = false ∧ p.val ≤ 5 ∧ s.rd safe (SP_ROLE.nth p.val) ≠ 0 ∧ s.is safe (SP_STATE_TRIPPED.nth p.val) = false ∧ s.is safe (SP_STATE_CLOSE_WAIT.nth p.val) = false ∧ s.snkOn p.val = false) ∧
    (∃ (s : State) (p : Fin 256) (_ : Fin 65536) (_ : Bool), s.gated safe = false ∧ s.is safe PG_STATUS_IN_RESET = false ∧ p.val ≤ 5 ∧ s.rd safe (SP_ROLE.nth p.val) ≠ 0 ∧ s.is safe (SP_STATE_TRIPPED.nth p.val) = false ∧ s.closers.find p.val = none) ∧
    (∃ (s : State) (p : Fin 256) (_ : Fin 65536), s.gated safe = false ∧ s.is safe PG_STATUS_IN_RESET = false ∧ p.val ≤ 5 ∧ s.rd safe (SP_ROLE.nth p.val) ≠ 0 ∧ s.is safe (SP_STATE_TRIPPED.nth p.val) = false ∧ s.srcOn p.val = false ∧ s.snkOn p.val = false) ∧
    (∃ (s : State) (p : Fin 256) (_ : Fin 65536) (_ : Bool), s.gated safe = false ∧ s.is safe PG_STATUS_IN_RESET = false ∧ p.val ≤ 5 ∧ s.rd safe (SP_ROLE.nth p.val) ≠ 0 ∧ s.is safe (SP_STATE_TRIPPED.nth p.val) = false ∧ s.vconnMay p.val = true) ∧
    (∃ (s : State) (p : Fin 256) (_ : Fin 65536) (_ : Bool), s.gated safe = false ∧ s.is safe PG_STATUS_IN_RESET = false ∧ p.val ≤ 5 ∧ s.rd safe (SP_ROLE.nth p.val) ≠ 0 ∧ s.is safe (SP_STATE_TRIPPED.nth p.val) = false) ∧
    (∃ (s : State) (p : Fin 256) (_ : Fin 65536), s.gated safe = false ∧ s.is safe PG_STATUS_IN_RESET = false ∧ p.val ≤ 5 ∧ s.rd safe (SP_ROLE.nth p.val) ≠ 0 ∧ s.is safe (SP_STATE_TRIPPED.nth p.val) = true ∧ s.tripGone p.val = true) ∧
    (∃ (s : State) (p : Fin 256) (_ : Fin 65536), s.gated safe = false ∧ s.is safe PG_STATUS_IN_RESET = false ∧ p.val ≤ 5 ∧ s.rd safe (SP_ROLE.nth p.val) ≠ 0 ∧ s.is safe (SP_STATE_TRIPPED.nth p.val) = true ∧ s.tripGone p.val = false) ∧
    (∃ (s : State) (p : Fin 256) (_ : Fin 65536) (lim : Fin 65536) (pct : Fin 256), s.gated safe = false ∧ s.is safe PG_STATUS_IN_RESET = false ∧ p.val ≤ 5 ∧ s.rd safe (SP_ROLE.nth p.val) ≠ 0 ∧ s.is safe (SP_STATE_TRIPPED.nth p.val) = false ∧ lim.val ≤ s.imageValue p.val 1 ∧ 100 ≤ pct.val ∧ pct.val ≤ 125) ∧
    (∃ (s : State) (_ : Fin 65536), s.gated safe = false ∧ s.is safe PG_STATUS_IN_RESET = false) ∧
    (∃ (s : State) (_ : Fin 65536) (_ : Fin 4294967296) (_ : Fin 4294967296) (_ : Fin 4294967296), s.gated safe = false ∧ s.is safe PG_STATUS_IN_RESET = false ∧ (∀ (n : Nat), n < 6 → s.is safe (SP_STATE_TRANS.nth n) = false ∧ s.is safe (SP_STATE_CLOSE_WAIT.nth n) = false)) ∧
    (∃ (s : State) (_ : Fin 256) (_ : Fin 65536), s.gated safe = false ∧ s.is safe PG_STATUS_IN_RESET = false) ∧
    (∃ (s : State) (_ : Initiator) (_ : Fin 256) (_ : Fin 65536), s.gated safe = false ∧ s.is safe PG_STATUS_IN_RESET = true) :=
  ⟨⟨st [(safe, SP_ROLE.nth 0, 1)], 0, 0, 0, 0, 0, by decide +kernel⟩,
   ⟨st [(safe, SP_ROLE.nth 0, 1), (safe, SP_STATE_TRANS.nth 0, 1)], 0, 0, 0, 0, 0, by decide +kernel⟩,
   ⟨st [(safe, SP_ROLE.nth 0, 1), (safe, SP_CFG_CBULK_UF.nth 0, 1)], 0, 0, 0, 1, 0, by decide +kernel⟩,
   ⟨st [(safe, SP_ROLE.nth 0, 1)], 0, 0, by decide +kernel⟩,
   ⟨st [(safe, SP_ROLE.nth 0, 1)], 0, 0, by decide +kernel⟩,
   ⟨st [(safe, SP_ROLE.nth 0, 1)], 0, 0, false, by decide +kernel⟩,
   ⟨st [(safe, SP_ROLE.nth 0, 1)], 0, 0, by decide +kernel⟩,
   ⟨st [(safe, SP_ROLE.nth 0, 1), (aon, AON_VCONN_IN, 1)], 0, 0, false, by decide +kernel⟩,
   ⟨st [(safe, SP_ROLE.nth 0, 1)], 0, 0, false, by decide +kernel⟩,
   ⟨st [(safe, SP_ROLE.nth 0, 1), (safe, SP_STATE_TRIPPED.nth 0, 1)], 0, 0, by decide +kernel⟩,
   ⟨st [(safe, SP_ROLE.nth 0, 1), (safe, SP_STATE_TRIPPED.nth 0, 1), (safe, SP_STATE_DISCH.nth 0, 1)], 0, 0, by decide +kernel⟩,
   ⟨st [(safe, SP_ROLE.nth 0, 1)], 0, 0, 0, 110, by decide +kernel⟩,
   ⟨State.reset, 0, by decide +kernel⟩,
   ⟨State.reset, 0, 0, 0, 0, by decide +kernel⟩,
   ⟨State.reset, 0, 0, by decide +kernel⟩,
   ⟨st [(safe, PG_STATUS_IN_RESET, 1)], .marionette, 0, 0, by decide +kernel⟩⟩

/-- The hypotheses of each clause of WideResetsKeepWhatTheySay are met together. -/
theorem wit_WideResetsKeepWhatTheySay :
    (∃ (_ : State) (role : Fin 4) (_ : Bool) (_ : Bool) (_ : Fin 2048) (_ : Bool) (_ : Bool), role ≠ 3) ∧
    (∃ (s : State), s.rd glb GLB_RST_CNT_PIN < 255) ∧
    (∃ (s : State) (_ : Fin 4) (_ : Bool) (_ : Bool), s.is glb GLB_RESET_N_LOW = true) ∧
    (∃ (s : State) (who : Initiator) (k : Fin 256), s.accepts who glb GLB_SRST_CHIP ∧ k ≠ 165) ∧
    (∃ (s : State) (who : Initiator) (k : Fin 256), s.accepts who glb GLB_SRST_CHIP ∧ k = 165 ∧ s.rd glb GLB_RST_CNT_CHIP < 255) ∧
    (∃ (s : State) (who : Initiator) (k : Fin 256), s.accepts who glb GLB_SRST_MGMT ∧ k ≠ 165) ∧
    (∃ (s : State) (who : Initiator) (k : Fin 256), s.accepts who glb GLB_SRST_MGMT ∧ k = 165 ∧ s.rd glb GLB_RST_CNT_MGMT < 255) ∧
    (∃ (s : State), s.is aon AON_WDT_EN = true ∧ s.gated mbx = false ∧ s.rd aon AON_WDT_TIME + orOne (s.rd aon AON_WDT_TIMEOUT) * 1000000 ≤ s.clock) ∧
    (∃ (s : State) (who : Initiator) (k : Fin 4294967296), s.accepts who aon AON_WDT_KICK_KEY ∧ k.val ≠ 23130) ∧
    (∃ (s : State) (who : Initiator) (k : Fin 4294967296), s.accepts who aon AON_WDT_KICK_KEY ∧ k.val = 23130) ∧
    (∃ (s : State) (k : Fin 12), k.val ≤ 7 ∧ s.ps ≤ 2) ∧
    (∃ (s : State) (m : Fin 128), (∀ (n : Nat), n < 6 → m.val.testBit n = true → s.gated (lane n) = true) ∧ s.mild pcie 0) ∧
    (∃ (s : State) (m : Fin 128) (n : Fin 6), m.val = 2 ^ n.val ∧ s.gated (lane n.val) = false ∧ s.linkUp n.val = false) ∧
    (∃ (s : State) (_ : Bool) (_ : Fin 2048), 3 < s.rd glb GLB_ISL_PWR_PWR) :=
  ⟨⟨State.reset, 0, false, false, 0, false, false, by decide +kernel⟩,
   ⟨State.reset, by decide +kernel⟩,
   ⟨st [(glb, GLB_RESET_N_LOW, 1)], 0, false, false, by decide +kernel⟩,
   ⟨State.reset, .marionette, 0, by decide +kernel⟩,
   ⟨State.reset, .marionette, 165, by decide +kernel⟩,
   ⟨State.reset, .marionette, 0, by decide +kernel⟩,
   ⟨State.reset, .marionette, 165, by decide +kernel⟩,
   ⟨{ on [(aon, AON_WDT_EN, 1)] with clock := 1000000000000 }, by decide +kernel⟩,
   ⟨State.reset, .marionette, 0, by decide +kernel⟩,
   ⟨State.reset, .marionette, 23130, by decide +kernel⟩,
   ⟨State.reset, 0, by decide +kernel⟩,
   ⟨State.reset, 0, by decide +kernel⟩,
   ⟨on [], 1, 0, by decide +kernel⟩,
   ⟨State.reset, false, 0, by decide +kernel⟩⟩

/-- The hypotheses of each clause of PowerStatesAreEnteredAndLeft are met together. -/
theorem wit_PowerStatesAreEnteredAndLeft :
    (∃ (s : State) (u : Fin 64) (m : Fin 65536), s.ps = 0 ∧ (s.showLtssm m.val).allLow u.val = true ∧ s.rd aon AON_CNT_D1 < 2 ^ 32 - 1) ∧
    (∃ (s : State) (u : Fin 64) (m : Fin 65536), s.ps = 1 ∧ (s.showLtssm m.val).allLow u.val = false) ∧
    (∃ (s : State) (who : Initiator), s.accepts who aon AON_PS_CTRL_GO ∧ s.is bist BIST_SLICE_STS_RUNNING = false ∧ s.switchEmpty = true ∧ s.entryRefusal 2 = 0) ∧
    (∃ (s : State) (who : Initiator), s.accepts who aon AON_PS_CTRL_GO ∧ s.is bist BIST_SLICE_STS_RUNNING = false ∧ s.switchEmpty = true ∧ s.entryRefusal 3 = 0) ∧
    (∃ (s : State) (who : Initiator), s.accepts who aon AON_PS_CTRL_GO ∧ s.is bist BIST_SLICE_STS_RUNNING = false ∧ s.switchEmpty = true ∧ s.entryRefusal 4 = 0 ∧ (∀ (n : Nat), n < 6 → s.rd safe (SP_VBUS.nth n) ≤ 800 ∧ s.is safe (SP_STATE_DISCH.nth n) = false)) ∧
    (∃ (s : State) (who : Initiator) (c : Instr) (k : Nat), s.accepts who aon AON_PS_CTRL_GO ∧ (c = Instr.enterD2 who ∧ s.entryRefusal 2 = k ∨ c = Instr.enterYoyo who ∧ s.entryRefusal 3 = k ∨ c = Instr.enterOff who ∧ s.entryRefusal 4 = k) ∧ k ≠ 0) ∧
    (∃ (s : State), s.rd aon AON_ENT_STEP = 1 ∧ s.rd aon AON_ENT_TIME + orOne (s.rd aon AON_DRAIN_DRAIN_US) * 1000 ≤ s.clock ∧ s.switchEmpty = false ∧ s.is aon AON_ENT_FORCED = false) ∧
    (∃ (s : State), s.is aon AON_BTN_FORCE_S = true ∧ s.ps ≤ 2 ∧ s.is aon AON_ENT_THERM = false ∧ s.is bist BIST_SLICE_STS_RUNNING = false ∧ s.switchEmpty = false) ∧
    (∃ (s : State) (_ : List Nat) (_ : List Nat) (_ : Fin 256) (_ : Fin 256), s.ps = 3 ∧ s.rd aon AON_YY_TIME + s.yyPeriod ≤ s.clock ∧ s.rd aon AON_CNT_SAMPLE < 2 ^ 32 - 1 ∧ s.rd aon AON_WAKE_EN_EN = 0) ∧
    (∃ (s : State) (_ : List Nat) (_ : List Nat) (temp : Fin 256) (_ : Fin 256), s.ps = 3 ∧ s.rd aon AON_YY_TIME + s.yyPeriod ≤ s.clock ∧ s.rd aon AON_CNT_SAMPLE < 2 ^ 32 - 1 ∧ s.rd aon AON_WAKE_EN_EN = 16 ∧ signed 8 (s.rd aon AON_YY_TEMP_HI_C) ≤ signed 8 temp.val) ∧
    (∃ (s : State) (c : Instr) (k : Nat) (i : Nat) (v : Nat), s.ps = 4 ∧ (s.rd aon AON_WAKE_EN_EN).testBit (k - 1) = true ∧ (c = Instr.pwrBtnWake ∧ k = 1 ∧ i = 0 ∧ v = 0 ∨ (∃ mv, c = Instr.dbatWake mv ∧ 4000 < mv.val ∧ k = 2 ∧ i = 0 ∧ v = mv.val) ∨ (∃ g l, c = Instr.gpioEdgeWake g l ∧ s.gpioMode g.val = 2 ∧ k = 6 ∧ i = g.val ∧ v = if l = true then 1 else 0) ∨ c = Instr.alarmExpiry ∧ s.is aon AON_ALARM_MS = true ∧ s.rd aon AON_ALARM_TIME + s.rd aon AON_ALARM_MS * 1000000 ≤ s.clock ∧ k = 7 ∧ i = 0 ∧ v = 0)) ∧
    (∃ (s : State) (c : Instr), s.ps ≤ 1 ∧ (c = Instr.pwrBtnWake ∨ ∃ g l, c = Instr.gpioEdgeWake g l)) ∧
    (∃ (s : State) (_ : Fin 4), s.ps ≤ 1) ∧
    (∃ (s : State) (_ : Fin 4), s.ps = 2 ∧ (s.rd aon AON_WAKE_EN_EN).testBit 9 = true ∧ s.endpointRole = false ∧ s.rd aon AON_PIX = 0 ∧ (∀ (n : Nat), n < 4 → s.gated (dout n) = true) ∧ s.rd memp MEM_STATUS_STATE ≠ 4) ∧
    (∃ (s : State), s.ps = 6 ∧ s.is aon AON_EXIT_WAIT = false ∧ s.rd aon AON_EXIT_TIME + 1000000 ≤ s.clock ∧ s.rd aon AON_EXIT_GROUP = 3 ∧ s.rd aon AON_EXIT_FROM = 3) ∧
    (∃ (s : State), s.ps = 6 ∧ s.is aon AON_EXIT_WAIT = false ∧ s.rd aon AON_EXIT_TIME + 20000000 ≤ s.clock ∧ s.is aon AON_EXIT_TRIED = false) ∧
    (∃ (s : State), s.ps = 6 ∧ s.is aon AON_EXIT_WAIT = false ∧ s.rd aon AON_EXIT_TIME + 20000000 ≤ s.clock ∧ s.is aon AON_EXIT_TRIED = true ∧ s.rd aon AON_EXIT_FROM = 3) ∧
    (∃ (s : State), s.ps = 6 ∧ s.is aon AON_EXIT_WAIT = true ∧ s.rd aon AON_EXIT_TIME + 100000000 ≤ s.clock) ∧
    (∃ (s : State) (who : Initiator), s.accepts who aon AON_PAD_RELEASE) ∧
    (∃ (_ : State) (a : Fin 16384) (_ : Fin 4294967296) (_ : Fin 16) (_ : Bool), 4 * a.val < 12288) ∧
    (∃ (s : State) (_ : Initiator) (_ : Fin 16), s.rd aon AON_RAM_ADDR_ADDR < 2 ^ 14 - 1) :=
  ⟨⟨st [(lane 0, LN_STATUS_STATE, 7), (lane 0, LN_CTRL_MODE, 1), (link 0, LK_STATUS_STATE, 2)], 0, 0, by decide +kernel⟩,
   ⟨st [(aon, AON_PS_STATUS_STATE, 1)], 0, 0, by decide +kernel⟩,
   ⟨st [(aon, AON_PS_STATUS_STATE, 1)], .marionette, by decide +kernel⟩,
   ⟨st [(aon, AON_SUPPLY_CORE_USE, 1)], .marionette, by decide +kernel⟩,
   ⟨st [(aon, AON_SUPPLY_CORE_USE, 1)], .marionette, by decide +kernel⟩,
   ⟨State.reset, .marionette, .enterD2 .marionette, 1, by decide +kernel⟩,
   ⟨{ st [(aon, AON_ENT_STEP, 1)] with progs := [⟨0, 0, 0, 0, 0⟩], clock := 1000000000000 }, by decide +kernel⟩,
   ⟨{ State.reset with progs := [⟨0, 0, 0, 0, 0⟩], clock := 1000000000000 }, by decide +kernel⟩,
   ⟨{ st [(aon, AON_WAKE_EN_EN, 0), (aon, AON_PS_STATUS_STATE, 3)] with clock := 1000000000000 }, [], [], 0, 0, by decide +kernel⟩,
   ⟨{ st [(aon, AON_WAKE_EN_EN, 16), (aon, AON_YY_TEMP_HI_C, 0), (aon, AON_PS_STATUS_STATE, 3)] with clock := 1000000000000 }, [], [], 0, 0, by decide +kernel⟩,
   ⟨{ st [(aon, AON_PS_STATUS_STATE, 4)] with clock := 1000000000000 }, .dbatWake 5000, 2, 0, 5000, by decide +kernel, by decide +kernel, .inr (.inl ⟨5000, rfl, by decide, rfl, rfl, rfl⟩)⟩,
   ⟨State.reset, .gpioEdgeWake 0 true, by decide +kernel⟩,
   ⟨State.reset, 0, by decide +kernel⟩,
   ⟨st [(aon, AON_PS_STATUS_STATE, 2)], 0, by decide +kernel⟩,
   ⟨{ st [(aon, AON_EXIT_GROUP, 3), (aon, AON_EXIT_FROM, 3), (aon, AON_PS_STATUS_STATE, 6)] with clock := 1000000000000 }, by decide +kernel⟩,
   ⟨{ st [(aon, AON_PS_STATUS_STATE, 6)] with clock := 1000000000000 }, by decide +kernel⟩,
   ⟨{ st [(aon, AON_EXIT_TRIED, 1), (aon, AON_EXIT_FROM, 3), (aon, AON_PS_STATUS_STATE, 6)] with clock := 1000000000000 }, by decide +kernel⟩,
   ⟨{ st [(aon, AON_EXIT_WAIT, 1), (aon, AON_PS_STATUS_STATE, 6)] with clock := 1000000000000 }, by decide +kernel⟩,
   ⟨State.reset, .marionette, by decide +kernel⟩,
   ⟨State.reset, 0, 0, 0, false, by decide +kernel⟩,
   ⟨State.reset, .marionette, 0, by decide +kernel⟩⟩

/-- The hypotheses of each clause of BootKeysAndDebugFollowTheirRules are met together. -/
theorem wit_BootKeysAndDebugFollowTheirRules :
    (∃ (s : State) (_ : Bool) (_ : Bool) (_ : Bool) (_ : Fin 65536) (_ : Fin 4), s.rdBit glb GLB_ISL_PWR_PWR 2 = true ∧ s.rdBit glb GLB_ISL_RST_IN_RESET 2 = true ∧ s.is glb GLB_RESET_N_LOW = false ∧ s.is aon AON_TEST = false ∧ s.ps ≤ 2 ∧ s.is glb GLB_LBIST_RUNNING = false) ∧
    (∃ (s : State) (_ : List Byte), s.is sec SEC_RECOVERY = true) ∧
    (∃ (s : State) (who : Initiator) (w : Fin 512), s.accepts who sec SEC_OTP_CMD_GO ∧ s.rd sec SEC_OTP_WDATA_DATA < 2 ^ 32 ∧ s.otpMay w.val (s.rd sec SEC_OTP_WDATA_DATA) = true) ∧
    (∃ (s : State) (who : Initiator) (w : Fin 512) (_ : Fin 4294967296), s.accepts who sec SEC_OTP_CMD_GO ∧ s.rd sec SEC_OTP_WDATA_DATA < 2 ^ 32 ∧ s.otpMay w.val (s.rd sec SEC_OTP_WDATA_DATA) = false) ∧
    (∃ (s : State) (who : Initiator) (b : Fin 8), s.accepts who sec SEC_MEAS_CMD_GO ∧ 6 ≤ b.val) ∧
    (∃ (s : State) (who : Initiator) (b : Fin 8), s.accepts who sec SEC_MEAS_CMD_GO ∧ b.val < 6) ∧
    (∃ (s : State) (who : Initiator), s.accepts who sec SEC_SIGN_CMD_GO ∧ s.is sec SEC_ID_ID_OK = true) ∧
    (∃ (s : State) (who : Initiator), s.accepts who sec SEC_SIGN_CMD_GO ∧ s.is sec SEC_ID_ID_OK = false) ∧
    (∃ (s : State) (who : Initiator) (k : Fin 64) (_ : Fin 65536), s.accepts who sec SEC_KS_CMD_GO ∧ s.slotBusy k.val = false) ∧
    (∃ (s : State) (who : Initiator) (k : Fin 64) (_ : Fin 65536), s.accepts who sec SEC_KS_CMD_GO ∧ s.slotBusy k.val = false ∧ s.rngBad = false) ∧
    (∃ (s : State) (who : Initiator) (k : Fin 64) (_ : Fin 65536), s.accepts who sec SEC_KS_CMD_GO ∧ s.slotBusy k.val = false ∧ s.rngBad = false) ∧
    (∃ (s : State) (who : Initiator) (k : Fin 64) (salt : Fin 65536) (c : Instr), s.accepts who sec SEC_KS_CMD_GO ∧ s.slotBusy k.val = true ∧ (c = Instr.load who k salt ∨ c = Instr.derive who k salt ∨ c = Instr.zeroise who k)) ∧
    (∃ (s : State) (who : Initiator), s.accepts who sec SEC_KS_CMD_GO) ∧
    (∃ (s : State) (e : Fin 8192), s.is (path e.val) PT_KEY_GRACE = true ∧ s.epoch ≠ s.rd (path e.val) PT_GRACE_EPOCH) ∧
    (∃ (s : State) (who : Initiator) (_ : Fin 4), s.accepts who sec SEC_DBG_CTRL_CHALLENGE ∧ s.rngBad = false) ∧
    (∃ (s : State) (who : Initiator) (_ : Fin 4294967296), s.accepts who sec SEC_DBG_RESP_DATA) ∧
    (∃ (s : State) (who : Initiator) (_ : Fin 4), s.accepts who sec SEC_DBG_CTRL_VERIFY ∧ 3 ≤ s.rd sec SEC_DBG_CTRL_FAILS) ∧
    (∃ (s : State) (who : Initiator) (_ : Fin 4), s.accepts who sec SEC_DBG_CTRL_VERIFY ∧ s.rd sec SEC_DBG_CTRL_FAILS < 3 ∧ s.is sec SEC_NONCE_OK = false) ∧
    (∃ (s : State) (who : Initiator) (l : Fin 4), s.accepts who sec SEC_DBG_CTRL_VERIFY ∧ s.rd sec SEC_DBG_CTRL_FAILS < 3 ∧ s.lockBit 4 = false ∧ s.is sec SEC_NONCE_OK = true ∧ s.clock ≤ s.rd sec SEC_NONCE_TIME + 60000000000 ∧ l.val = 1) ∧
    (∃ (s : State), s.is sec SEC_NONCE_OK = true ∧ s.rd sec SEC_NONCE_TIME + 60000000000 ≤ s.clock) :=
  ⟨⟨State.reset, false, false, false, 0, 0, by decide +kernel⟩,
   ⟨st [(sec, SEC_RECOVERY, 1)], [], by decide +kernel⟩,
   ⟨on [], .marionette, 0, by decide +kernel⟩,
   ⟨on [(sec, SEC_LOCKS_CTRL, 32)], .marionette, 0, 0, by decide +kernel⟩,
   ⟨on [], .marionette, 7, by decide +kernel⟩,
   ⟨on [], .marionette, 0, by decide +kernel⟩,
   ⟨on [(sec, SEC_ID_ID_OK, 1)], .marionette, by decide +kernel⟩,
   ⟨on [], .marionette, by decide +kernel⟩,
   ⟨on [], .marionette, 0, 0, by decide +kernel⟩,
   ⟨on [], .marionette, 0, 0, by decide +kernel⟩,
   ⟨on [], .marionette, 0, 0, by decide +kernel⟩,
   ⟨on [(path 0, PT_W0_STATE, 1), (path 0, PT_W0_SEAL_IN, 1)], .marionette, 0, 0, .load .marionette 0 0, by decide +kernel⟩,
   ⟨on [], .marionette, by decide +kernel⟩,
   ⟨st [(path 0, PT_KEY_GRACE, 1), (path 0, PT_GRACE_EPOCH, 1)], 0, by decide +kernel⟩,
   ⟨on [], .marionette, 0, by decide +kernel⟩,
   ⟨on [], .marionette, 0, by decide +kernel⟩,
   ⟨on [(sec, SEC_DBG_CTRL_FAILS, 3)], .marionette, 0, by decide +kernel⟩,
   ⟨on [], .marionette, 0, by decide +kernel⟩,
   ⟨{ on [(sec, SEC_NONCE_OK, 1), (sec, SEC_NONCE_TIME, 18446744073709551615)] with clock := 1000000000000 }, .marionette, 1, by decide +kernel⟩,
   ⟨{ st [(sec, SEC_NONCE_OK, 1)] with clock := 1000000000000 }, by decide +kernel⟩⟩

/-- The hypotheses of each clause of SpdmRequestsAreAnswered are met together. -/
theorem wit_SpdmRequestsAreAnswered :
    (∃ (s : State) (ep : Fin 256), s.moabeuc = true ∧ ((s.spdm.find ep.val).isSome = true ∨ List.length s.spdm < 4)) ∧
    (∃ (s : State) (ep : Fin 256), s.moabeuc = true ∧ (s.spdm.find ep.val).isSome = false ∧ 4 ≤ List.length s.spdm) ∧
    (∃ (s : State) (ep : Fin 256), s.moabeuc = true ∧ 1 ≤ (s.spdmOf ep.val).st) ∧
    (∃ (s : State) (ep : Fin 256), s.moabeuc = true ∧ 2 ≤ (s.spdmOf ep.val).st) ∧
    (∃ (s : State) (_ : Fin 256), s.moabeuc = true) ∧
    (∃ (s : State) (ep : Fin 256), s.moabeuc = true ∧ 3 ≤ (s.spdmOf ep.val).st) ∧
    (∃ (s : State) (ep : Fin 256) (off : Fin 65536) (_ : Fin 65536), s.moabeuc = true ∧ 3 ≤ (s.spdmOf ep.val).st ∧ off.val < s.chain.length) ∧
    (∃ (s : State) (ep : Fin 256) (_ : Nat), s.moabeuc = true ∧ 3 ≤ (s.spdmOf ep.val).st ∧ s.idGood = true) ∧
    (∃ (s : State) (ep : Fin 256) (_ : Fin 256) (_ : Nat), s.moabeuc = true ∧ 3 ≤ (s.spdmOf ep.val).st) ∧
    (∃ (s : State) (ep : Fin 256) (_ : Fin 65536) (_ : Nat), s.moabeuc = true ∧ 3 ≤ (s.spdmOf ep.val).st ∧ s.idGood = true ∧ (s.spdmOf ep.val).sess = 0) ∧
    (∃ (s : State) (ep : Fin 256), s.moabeuc = true ∧ 3 ≤ (s.spdmOf ep.val).st ∧ (s.spdmOf ep.val).sess = 1) ∧
    (∃ (s : State) (ep : Fin 256), s.moabeuc = true ∧ 3 ≤ (s.spdmOf ep.val).st ∧ (s.spdmOf ep.val).sess = 2) ∧
    (∃ (s : State) (ep : Fin 256), s.moabeuc = true ∧ 3 ≤ (s.spdmOf ep.val).st ∧ (s.spdmOf ep.val).sess = 2) ∧
    (∃ (s : State) (ep : Fin 256), s.moabeuc = true ∧ 3 ≤ (s.spdmOf ep.val).st ∧ (s.spdmOf ep.val).sess = 2) ∧
    (∃ (s : State) (ep : Fin 256) (c : Instr), s.moabeuc = true ∧ (s.spdmOf ep.val).st < 3 ∧ (c = Instr.getDigests ep ∨ (∃ k a b, c = Instr.getCertificate ep k a b) ∨ (∃ k d, c = Instr.spdmChallenge ep k d) ∨ (∃ i g d, c = Instr.getMeasurements ep i g d) ∨ (∃ k n d, c = Instr.keyExchange ep k n d) ∨ c = Instr.finish ep ∨ c = Instr.heartbeat ep ∨ c = Instr.keyUpdate ep ∨ c = Instr.endSession ep)) :=
  ⟨⟨st [(mbx, MB_FW_FW_READY, 1)], 0, by decide +kernel⟩,
   ⟨{ st [(mbx, MB_FW_FW_READY, 1)] with spdm := [(1, ⟨3, 0, 0⟩), (2, ⟨3, 0, 0⟩), (3, ⟨3, 0, 0⟩), (4, ⟨3, 0, 0⟩)] }, 0, by decide +kernel⟩,
   ⟨{ st [(mbx, MB_FW_FW_READY, 1)] with spdm := [(0, ⟨3, 0, 0⟩)] }, 0, by decide +kernel⟩,
   ⟨{ st [(mbx, MB_FW_FW_READY, 1)] with spdm := [(0, ⟨3, 0, 0⟩)] }, 0, by decide +kernel⟩,
   ⟨st [(mbx, MB_FW_FW_READY, 1)], 0, by decide +kernel⟩,
   ⟨{ st [(mbx, MB_FW_FW_READY, 1)] with spdm := [(0, ⟨3, 0, 0⟩)] }, 0, by decide +kernel⟩,
   ⟨{ st [(mbx, MB_FW_FW_READY, 1), (sec, SEC_ID_ID_OK, 1), (sec, SEC_MATCH, 1)] with spdm := [(0, ⟨3, 0, 0⟩)], cfg := [7, 0, 1, 0, 1, 0, 0, 0, 65, 0, 0, 0, 0, 0, 0, 0] }, 0, 0, 0, by decide +kernel⟩,
   ⟨{ st [(mbx, MB_FW_FW_READY, 1), (sec, SEC_ID_ID_OK, 1), (sec, SEC_MATCH, 1)] with spdm := [(0, ⟨3, 0, 0⟩)] }, 0, 0, by decide +kernel⟩,
   ⟨{ st [(mbx, MB_FW_FW_READY, 1)] with spdm := [(0, ⟨3, 0, 0⟩)] }, 0, 0, 0, by decide +kernel⟩,
   ⟨{ st [(mbx, MB_FW_FW_READY, 1), (sec, SEC_ID_ID_OK, 1), (sec, SEC_MATCH, 1)] with spdm := [(0, ⟨3, 0, 0⟩)] }, 0, 0, 0, by decide +kernel⟩,
   ⟨{ st [(mbx, MB_FW_FW_READY, 1)] with spdm := [(0, ⟨3, 1, 0⟩)] }, 0, by decide +kernel⟩,
   ⟨{ st [(mbx, MB_FW_FW_READY, 1)] with spdm := [(0, ⟨3, 2, 0⟩)] }, 0, by decide +kernel⟩,
   ⟨{ st [(mbx, MB_FW_FW_READY, 1)] with spdm := [(0, ⟨3, 2, 0⟩)] }, 0, by decide +kernel⟩,
   ⟨{ st [(mbx, MB_FW_FW_READY, 1)] with spdm := [(0, ⟨3, 2, 0⟩)] }, 0, by decide +kernel⟩,
   ⟨st [(mbx, MB_FW_FW_READY, 1)], 0, .getDigests 0, by decide +kernel, by decide +kernel, .inl rfl⟩⟩

/-- The hypotheses of each clause of SelfTestsReportWhatTheyFind are met together. -/
theorem wit_SelfTestsReportWhatTheyFind :
    (∃ (s : State), s.inPhase 1 = true) ∧
    (∃ (s : State), s.inPhase 1 = true ∧ s.is bist BIST_RESET_DUE = false ∧ s.rd aon AON_ENT_STEP ≠ 4 ∧ s.rd bist BIST_START + 5000 ≤ s.clock ∧ s.is bist BIST_IS_RUN = false ∧ s.rd bist BIST_CNT_DEFER < 2 ^ 32 - 1) ∧
    (∃ (s : State), s.inPhase 2 = true) ∧
    (∃ (s : State), s.inPhase 2 = true ∧ s.is bist BIST_RESET_DUE = false ∧ s.rd aon AON_ENT_STEP ≠ 4 ∧ s.mild bist 0 ∧ s.clock ≤ s.rd bist BIST_START + 18000 ∧ s.rd bist BIST_SLICE_STS_SLICE < 5120 ∧ s.rd bist BIST_CNT_FAIL < 2 ^ 32 - 1) ∧
    (∃ (s : State), s.inPhase 3 = true ∧ s.is bist BIST_RESET_DUE = false ∧ s.rd aon AON_ENT_STEP ≠ 4 ∧ s.clock ≤ s.rd bist BIST_START + 18000 ∧ s.is bist BIST_IS_RUN = false ∧ s.rd bist BIST_TESTED < 2 ^ 13 - 1) ∧
    (∃ (s : State) (who : Initiator) (_ : Fin 8192), s.accepts who bist BIST_RUN_GO ∧ s.is bist BIST_SLICE_STS_RUN_BUSY = false) ∧
    (∃ (s : State) (who : Initiator) (_ : Fin 8192), s.accepts who bist BIST_RUN_GO ∧ s.is bist BIST_SLICE_STS_RUN_BUSY = true) ∧
    (∃ (s : State) (_ : Fin 131072) (_ : Fin 131072), s.is glb GLB_LBIST_RUNNING = true ∧ s.mild bist 3) :=
  ⟨⟨st [(bist, BIST_SLICE_STS_RUNNING, 1), (bist, BIST_SLICE_STS_PHASE, 1)], by decide +kernel⟩,
   ⟨{ st [(bist, BIST_SLICE_STS_RUNNING, 1), (bist, BIST_SLICE_STS_PHASE, 1)] with clock := 1000000000000 }, by decide +kernel⟩,
   ⟨st [(bist, BIST_SLICE_STS_RUNNING, 1), (bist, BIST_SLICE_STS_PHASE, 2)], by decide +kernel⟩,
   ⟨{ st [(bist, BIST_SLICE_STS_RUNNING, 1), (bist, BIST_SLICE_STS_PHASE, 2), (bist, BIST_START, 18446744073709551615)] with clock := 1000000000000 }, by decide +kernel⟩,
   ⟨{ st [(bist, BIST_SLICE_STS_RUNNING, 1), (bist, BIST_SLICE_STS_PHASE, 3), (bist, BIST_START, 18446744073709551615)] with clock := 1000000000000 }, by decide +kernel⟩,
   ⟨State.reset, .marionette, 0, by decide +kernel⟩,
   ⟨st [(bist, BIST_SLICE_STS_RUN_BUSY, 1)], .marionette, 0, by decide +kernel⟩,
   ⟨st [(glb, GLB_LBIST_RUNNING, 1)], 0, 0, by decide +kernel⟩⟩

/-- The hypotheses of each clause of MailboxChannelsServeRequests are met together. -/
theorem wit_MailboxChannelsServeRequests :
    (∃ (s : State) (who : Initiator) (c : Fin 16) (_ : Fin 256) (_ : Fin 256) (_ : Fin 256), s.accepts who (mbch c.val) MB_DOORBELL_GO ∧ s.is (mbch c.val) MB_RESULT_BUSY = false ∧ s.is (mbch c.val) MB_RESULT_DONE = false ∧ c.val ≠ 15) ∧
    (∃ (s : State) (who : Initiator) (c : Fin 16) (_ : Fin 256) (_ : Fin 256) (_ : Fin 256), s.accepts who (mbch c.val) MB_DOORBELL_GO ∧ s.is (mbch c.val) MB_RESULT_BUSY = true ∧ s.rd mbx MB_CNT_PROTO < 2 ^ 32 - 1) ∧
    (∃ (s : State) (c : Fin 16), s.moabeuc = true ∧ c.val ≠ 15 ∧ s.is (mbch c.val) MB_RESULT_BUSY = true ∧ s.is (mbch c.val) MB_RESULT_TAKEN = false ∧ s.is (mbch c.val) MBC_USB = false ∧ s.is (mbch c.val) MBC_ABORT = false ∧ mbAllowed (s.rd (mbch c.val) MB_DOORBELL_CMD) c.val = some true) ∧
    (∃ (s : State) (c : Fin 16), s.moabeuc = true ∧ c.val ≠ 15 ∧ s.is (mbch c.val) MB_RESULT_BUSY = true ∧ s.is (mbch c.val) MB_RESULT_TAKEN = false ∧ s.is (mbch c.val) MBC_USB = false ∧ s.is (mbch c.val) MBC_ABORT = false ∧ mbAllowed (s.rd (mbch c.val) MB_DOORBELL_CMD) c.val = some false) ∧
    (∃ (s : State) (c : Fin 16), s.moabeuc = true ∧ c.val ≠ 15 ∧ s.is (mbch c.val) MB_RESULT_BUSY = true ∧ s.is (mbch c.val) MB_RESULT_TAKEN = false ∧ s.is (mbch c.val) MBC_USB = false ∧ s.is (mbch c.val) MBC_ABORT = false ∧ mbAllowed (s.rd (mbch c.val) MB_DOORBELL_CMD) c.val = none) ∧
    (∃ (s : State) (who : Initiator) (c : Fin 16), s.accepts who (mbch c.val) MB_DOORBELL_ABORT ∧ s.is (mbch c.val) MB_RESULT_BUSY = true ∧ s.is (mbch c.val) MB_RESULT_TAKEN = false ∧ s.is (mbch c.val) MBC_USB = false) ∧
    (∃ (s : State) (who : Initiator) (c : Fin 16), s.accepts who (mbch c.val) MB_DOORBELL_ABORT ∧ s.is (mbch c.val) MB_RESULT_BUSY = true ∧ s.is (mbch c.val) MB_RESULT_TAKEN = true) ∧
    (∃ (s : State) (who : Initiator) (c : Fin 16), s.accepts who (mbch c.val) MB_RESULT_DONE) ∧
    (∃ (s : State) (c : Fin 16), c.val ≤ 2 ∧ s.moabeuc = true ∧ s.is (mbch c.val) MB_RESULT_BUSY = true ∧ s.is (mbch c.val) MB_RESULT_TAKEN = true ∧ s.rd (mbch c.val) MB_DOORBELL_CMD = 1 ∧ s.is (mbch c.val) MBC_ABORT = false ∧ s.is (mbch c.val) MBC_USB = false) ∧
    (∃ (s : State) (c : Fin 16), c.val ≤ 2 ∧ s.moabeuc = true ∧ s.is (mbch c.val) MB_RESULT_BUSY = true ∧ s.is (mbch c.val) MB_RESULT_TAKEN = true ∧ s.rd (mbch c.val) MB_DOORBELL_CMD = 2 ∧ s.is (mbch c.val) MBC_ABORT = false ∧ s.is (mbch c.val) MBC_USB = false ∧ s.rd (mbch c.val) MB_DOORBELL_LEN ≠ 0 ∧ s.mbWord c.val 0 % 8 = 0 ∧ s.ps ≤ 1) ∧
    (∃ (s : State) (c : Fin 16) (k : Nat), c.val ≤ 2 ∧ s.moabeuc = true ∧ s.is (mbch c.val) MB_RESULT_BUSY = true ∧ s.is (mbch c.val) MB_RESULT_TAKEN = true ∧ s.rd (mbch c.val) MB_DOORBELL_CMD = 2 ∧ s.is (mbch c.val) MBC_ABORT = false ∧ s.is (mbch c.val) MBC_USB = false ∧ s.rd (mbch c.val) MB_DOORBELL_LEN ≠ 0 ∧ s.mbWord c.val 0 % 8 = 2 ∧ s.ps ≤ 1 ∧ s.entryRefusal 2 = k ∧ k ≠ 0) ∧
    (∃ (s : State) (c : Fin 16), c.val ≤ 2 ∧ s.moabeuc = true ∧ s.is (mbch c.val) MB_RESULT_BUSY = true ∧ s.is (mbch c.val) MB_RESULT_TAKEN = true ∧ s.rd (mbch c.val) MB_DOORBELL_CMD = 2 ∧ s.is (mbch c.val) MBC_ABORT = false ∧ s.is (mbch c.val) MBC_USB = false ∧ s.rd (mbch c.val) MB_DOORBELL_LEN ≠ 0 ∧ s.mbWord c.val 0 % 8 = 2 ∧ s.entryRefusal 2 = 0 ∧ s.is bist BIST_SLICE_STS_RUNNING = false ∧ s.switchEmpty = true) ∧
    (∃ (s : State) (c : Fin 16) (ws : List Nat), c.val ≤ 2 ∧ s.moabeuc = true ∧ s.is (mbch c.val) MB_RESULT_BUSY = true ∧ s.is (mbch c.val) MB_RESULT_TAKEN = true ∧ s.rd (mbch c.val) MB_DOORBELL_CMD = 5 ∧ s.is (mbch c.val) MBC_ABORT = false ∧ s.is (mbch c.val) MBC_USB = false ∧ s.rd (mbch c.val) MB_DOORBELL_LEN ≠ 0 ∧ ws.length ≤ 255) ∧
    (∃ (s : State) (c : Fin 16), c.val ≤ 1 ∧ s.moabeuc = true ∧ s.is (mbch c.val) MB_RESULT_BUSY = true ∧ s.is (mbch c.val) MB_RESULT_TAKEN = true ∧ s.rd (mbch c.val) MB_DOORBELL_CMD = 3 ∧ s.is (mbch c.val) MBC_ABORT = false ∧ s.is (mbch c.val) MBC_USB = false ∧ s.rd (mbch c.val) MB_DOORBELL_LEN ≠ 0 ∧ s.is pathctl PG_CTRL_EXPERT = true) ∧
    (∃ (s : State) (c : Fin 16), c.val ≤ 1 ∧ s.moabeuc = true ∧ s.is (mbch c.val) MB_RESULT_BUSY = true ∧ s.is (mbch c.val) MB_RESULT_TAKEN = true ∧ s.rd (mbch c.val) MB_DOORBELL_CMD = 3 ∧ s.is (mbch c.val) MBC_ABORT = false ∧ s.is (mbch c.val) MBC_USB = false ∧ s.rd (mbch c.val) MB_DOORBELL_LEN ≠ 0 ∧ s.is pathctl PG_CTRL_EXPERT = false ∧ s.is pathctl PG_SHADOW_CTRL_ARMED = true) ∧
    (∃ (s : State) (c : Fin 16), c.val ≤ 1 ∧ s.moabeuc = true ∧ s.is (mbch c.val) MB_RESULT_BUSY = true ∧ s.is (mbch c.val) MB_RESULT_TAKEN = true ∧ s.rd (mbch c.val) MB_DOORBELL_CMD = 3 ∧ s.is (mbch c.val) MBC_ABORT = false ∧ s.is (mbch c.val) MBC_USB = false ∧ s.rd (mbch c.val) MB_DOORBELL_LEN ≠ 0 ∧ s.is pathctl PG_CTRL_EXPERT = false ∧ s.is pathctl PG_SHADOW_CTRL_ARMED = false ∧ s.entries = []) ∧
    (∃ (s : State) (c : Fin 16) (_ : Nat) (slot : Nat), c.val ≤ 1 ∧ s.moabeuc = true ∧ s.is (mbch c.val) MB_RESULT_BUSY = true ∧ s.is (mbch c.val) MB_RESULT_TAKEN = true ∧ s.rd (mbch c.val) MB_DOORBELL_CMD = 4 ∧ s.is (mbch c.val) MBC_ABORT = false ∧ s.is (mbch c.val) MBC_USB = false ∧ 3 ≤ s.rd (mbch c.val) MB_DOORBELL_LEN ∧ s.mbWord c.val 2 / 65536 % 64 = slot ∧ s.slotBusy slot = false) ∧
    (∃ (s : State) (c : Fin 16), (c.val = 4 ∨ c.val = 5) ∧ s.moabeuc = true ∧ s.is (mbch c.val) MB_RESULT_BUSY = true ∧ s.is (mbch c.val) MB_RESULT_TAKEN = true ∧ s.rd (mbch c.val) MB_DOORBELL_CMD = 16 ∧ s.is (mbch c.val) MBC_ABORT = false ∧ s.is (mbch c.val) MBC_USB = false ∧ parseCtrl (s.mbReq c.val) = none) ∧
    (∃ (s : State) (c : Fin 16) (k : Ctrl), (c.val = 4 ∨ c.val = 5) ∧ s.moabeuc = true ∧ s.is (mbch c.val) MB_RESULT_BUSY = true ∧ s.is (mbch c.val) MB_RESULT_TAKEN = true ∧ s.rd (mbch c.val) MB_DOORBELL_CMD = 16 ∧ s.is (mbch c.val) MBC_ABORT = false ∧ s.is (mbch c.val) MBC_USB = false ∧ parseCtrl (s.mbReq c.val) = some k ∧ k.dom ≠ c.val - 4) ∧
    (∃ (s : State) (c : Fin 16) (k : Ctrl), (c.val = 4 ∨ c.val = 5) ∧ s.moabeuc = true ∧ s.is (mbch c.val) MB_RESULT_BUSY = true ∧ s.is (mbch c.val) MB_RESULT_TAKEN = true ∧ s.rd (mbch c.val) MB_DOORBELL_CMD = 16 ∧ s.is (mbch c.val) MBC_ABORT = false ∧ s.is (mbch c.val) MBC_USB = false ∧ parseCtrl (s.mbReq c.val) = some k ∧ k.dom = c.val - 4 ∧ s.hubId k.dom ≠ 0 ∧ k.dest = s.hubId k.dom) ∧
    (∃ (s : State) (e : Fin 24), s.rdBit mbx MB_ENG_RUN e.val = true ∧ (engineCode e.val = none ∨ s.entries = []) ∧ s.rd mbx (ENG_H2.nth e.val) = 0) ∧
    (∃ (s : State) (e : Fin 24), s.rdBit mbx MB_ENG_RUN e.val = true ∧ (engineCode e.val = none ∨ s.entries = []) ∧ s.is mbx (ENG_H2.nth e.val) = true ∧ s.clock + 1 ≤ s.rd mbx (ENG_H2.nth e.val) + 1000000000) ∧
    (∃ (s : State) (e : Fin 24), s.moabeuc = true ∧ s.rdBit mbx MB_ENG_RUN e.val = false ∧ s.is mbx (ENG_DEAD.nth e.val) = false ∧ s.rd mbx MB_CNT_RESTART < 2 ^ 32 - 1) ∧
    (∃ (s : State), s.imageRuns = true ∧ s.is mbx MB_FW_FW_READY = false ∧ s.is aon AON_DBAT = false) :=
  ⟨⟨on [], .host0, 0, 0, 0, 0, by decide +kernel⟩,
   ⟨on [(mbch 0, MB_RESULT_BUSY, 1)], .host0, 0, 0, 0, 0, by decide +kernel⟩,
   ⟨st [(mbx, MB_FW_FW_READY, 1), (mbch 0, MB_RESULT_BUSY, 1), (mbch 0, MB_DOORBELL_CMD, 1)], 0, by decide +kernel⟩,
   ⟨st [(mbx, MB_FW_FW_READY, 1), (mbch 0, MB_RESULT_BUSY, 1), (mbch 0, MB_DOORBELL_CMD, 16)], 0, by decide +kernel⟩,
   ⟨st [(mbx, MB_FW_FW_READY, 1), (mbch 0, MB_RESULT_BUSY, 1)], 0, by decide +kernel⟩,
   ⟨on [(mbch 0, MB_RESULT_BUSY, 1)], .host0, 0, by decide +kernel⟩,
   ⟨on [(mbch 0, MB_RESULT_BUSY, 1), (mbch 0, MB_RESULT_TAKEN, 1)], .host0, 0, by decide +kernel⟩,
   ⟨on [], .host0, 0, by decide +kernel⟩,
   ⟨st [(mbx, MB_FW_FW_READY, 1), (mbch 0, MB_RESULT_BUSY, 1), (mbch 0, MB_RESULT_TAKEN, 1), (mbch 0, MB_DOORBELL_CMD, 1)], 0, by decide +kernel⟩,
   ⟨st [(mbx, MB_FW_FW_READY, 1), (mbch 0, MB_RESULT_BUSY, 1), (mbch 0, MB_RESULT_TAKEN, 1), (mbch 0, MB_DOORBELL_CMD, 2), (mbch 0, MB_DOORBELL_LEN, 1)], 0, by decide +kernel⟩,
   ⟨st [(mbx, MB_FW_FW_READY, 1), (mbch 0, MB_DOORBELL_LEN, 1), (mbch 0, MB_REQ_DATA.nth 0, 2), (mbch 0, MB_RESULT_BUSY, 1), (mbch 0, MB_RESULT_TAKEN, 1), (mbch 0, MB_DOORBELL_CMD, 2)], 0, 1, by decide +kernel⟩,
   ⟨st [(mbx, MB_FW_FW_READY, 1), (mbch 0, MB_DOORBELL_LEN, 1), (mbch 0, MB_REQ_DATA.nth 0, 2), (mbch 0, MB_RESULT_BUSY, 1), (mbch 0, MB_RESULT_TAKEN, 1), (mbch 0, MB_DOORBELL_CMD, 2), (aon, AON_PS_STATUS_STATE, 1)], 0, by decide +kernel⟩,
   ⟨st [(mbx, MB_FW_FW_READY, 1), (mbch 0, MB_RESULT_BUSY, 1), (mbch 0, MB_RESULT_TAKEN, 1), (mbch 0, MB_DOORBELL_CMD, 5), (mbch 0, MB_DOORBELL_LEN, 1)], 0, [], by decide +kernel⟩,
   ⟨st [(mbx, MB_FW_FW_READY, 1), (mbch 0, MB_RESULT_BUSY, 1), (mbch 0, MB_RESULT_TAKEN, 1), (mbch 0, MB_DOORBELL_CMD, 3), (mbch 0, MB_DOORBELL_LEN, 1), (pathctl, PG_CTRL_EXPERT, 1)], 0, by decide +kernel⟩,
   ⟨st [(mbx, MB_FW_FW_READY, 1), (mbch 0, MB_RESULT_BUSY, 1), (mbch 0, MB_RESULT_TAKEN, 1), (mbch 0, MB_DOORBELL_CMD, 3), (mbch 0, MB_DOORBELL_LEN, 1), (pathctl, PG_SHADOW_CTRL_ARMED, 1)], 0, by decide +kernel⟩,
   ⟨st [(mbx, MB_FW_FW_READY, 1), (mbch 0, MB_RESULT_BUSY, 1), (mbch 0, MB_RESULT_TAKEN, 1), (mbch 0, MB_DOORBELL_CMD, 3), (mbch 0, MB_DOORBELL_LEN, 1)], 0, by decide +kernel⟩,
   ⟨st [(mbx, MB_FW_FW_READY, 1), (mbch 0, MB_RESULT_BUSY, 1), (mbch 0, MB_RESULT_TAKEN, 1), (mbch 0, MB_DOORBELL_CMD, 4), (mbch 0, MB_DOORBELL_LEN, 3)], 0, 0, 0, by decide +kernel⟩,
   ⟨st [(mbx, MB_FW_FW_READY, 1), (mbch 4, MB_RESULT_BUSY, 1), (mbch 4, MB_RESULT_TAKEN, 1), (mbch 4, MB_DOORBELL_CMD, 16)], 4, by decide +kernel⟩,
   ⟨st [(mbx, MB_FW_FW_READY, 1), (mbch 5, MB_REQ_DATA.nth 0, 536870912), (mbch 5, MB_REQ_DATA.nth 1, 327682), (mbch 5, MB_REQ_DATA.nth 2, 16973831), (mbch 5, MB_DOORBELL_LEN, 4), (mbch 5, MB_RESULT_BUSY, 1), (mbch 5, MB_RESULT_TAKEN, 1), (mbch 5, MB_DOORBELL_CMD, 16)], 5, ⟨5, 2, 1, 3, false, 0, 0, 7, []⟩, by decide +kernel⟩,
   ⟨st [(mbx, MB_FW_FW_READY, 1), (mbch 4, MB_REQ_DATA.nth 0, 536870912), (mbch 4, MB_REQ_DATA.nth 1, 327682), (mbch 4, MB_REQ_DATA.nth 2, 16973831), (mbch 4, MB_DOORBELL_LEN, 4), (pathctl, PC_DOM_BOUND.nth 0, 1), (pathctl, PC_DOM_HUB_ID.nth 0, 5), (mbch 4, MB_RESULT_BUSY, 1), (mbch 4, MB_RESULT_TAKEN, 1), (mbch 4, MB_DOORBELL_CMD, 16)], 4, ⟨5, 2, 1, 3, false, 0, 0, 7, []⟩, by decide +kernel⟩,
   ⟨st [(mbx, MB_ENG_RUN, 1)], 0, by decide +kernel⟩,
   ⟨{ st [(mbx, MB_ENG_RUN, 1), (mbx, ENG_H2.nth 0, 18446744073709551615)] with clock := 1000000000000 }, 0, by decide +kernel⟩,
   ⟨st [(mbx, MB_FW_FW_READY, 1)], 0, by decide +kernel⟩,
   ⟨on [], by decide +kernel⟩⟩

/-- The hypotheses of each clause of FirmwareUpdatesRewriteTheOtherCopy are met together. -/
theorem wit_FirmwareUpdatesRewriteTheOtherCopy :
    (∃ (s : State) (c : Fin 16), c.val ≤ 2 ∧ s.moabeuc = true ∧ s.is (mbch c.val) MB_RESULT_BUSY = true ∧ s.is (mbch c.val) MB_RESULT_TAKEN = true ∧ s.rd (mbch c.val) MB_DOORBELL_CMD = 32 ∧ s.is (mbch c.val) MBC_ABORT = false ∧ s.is (mbch c.val) MBC_USB = false ∧ s.rd mbx MB_FW_COPY ≤ 1 ∧ s.rd mbx FW_CH = 0 ∧ s.rd (mbch c.val) MB_DOORBELL_LEN ≠ 0 ∧ s.copyOff s.otherCopy < s.copyOff (1 - s.otherCopy)) ∧
    (∃ (s : State) (c : Fin 16) (off : Nat) (bs : List Byte), c.val ≤ 2 ∧ s.moabeuc = true ∧ s.is (mbch c.val) MB_RESULT_BUSY = true ∧ s.is (mbch c.val) MB_RESULT_TAKEN = true ∧ s.rd (mbch c.val) MB_DOORBELL_CMD = 33 ∧ s.is (mbch c.val) MBC_ABORT = false ∧ s.is (mbch c.val) MBC_USB = false ∧ s.rd mbx MB_FW_COPY ≤ 1 ∧ s.rd mbx FW_CH = c.val + 1 ∧ 2 ≤ s.rd (mbch c.val) MB_DOORBELL_LEN ∧ off = s.mbWord c.val 0 ∧ bs = List.flatMap (fun w => leBytes 4 w) (List.drop 1 (s.mbReq c.val)) ∧ off + bs.length ≤ s.rd mbx FW_LEN) ∧
    (∃ (s : State) (c : Fin 16), c.val ≤ 2 ∧ s.moabeuc = true ∧ s.is (mbch c.val) MB_RESULT_BUSY = true ∧ s.is (mbch c.val) MB_RESULT_TAKEN = true ∧ s.rd (mbch c.val) MB_DOORBELL_CMD = 34 ∧ s.is (mbch c.val) MBC_ABORT = false ∧ s.is (mbch c.val) MBC_USB = false ∧ s.rd mbx MB_FW_COPY ≤ 1 ∧ s.rd mbx FW_CH = c.val + 1) ∧
    (∃ (s : State) (c : Fin 16), c.val ≤ 2 ∧ s.moabeuc = true ∧ s.is (mbch c.val) MB_RESULT_BUSY = true ∧ s.is (mbch c.val) MB_RESULT_TAKEN = true ∧ s.rd (mbch c.val) MB_DOORBELL_CMD = 35 ∧ s.is (mbch c.val) MBC_ABORT = false ∧ s.is (mbch c.val) MBC_USB = false ∧ s.rd mbx MB_FW_COPY ≤ 1 ∧ s.rd mbx FW_CH = c.val + 1 ∧ s.is mbx FW_CHECKED = true) ∧
    (∃ (s : State) (c : Fin 16), c.val ≤ 2 ∧ s.moabeuc = true ∧ s.is (mbch c.val) MB_RESULT_BUSY = true ∧ s.is (mbch c.val) MB_RESULT_TAKEN = true ∧ s.rd (mbch c.val) MB_DOORBELL_CMD = 36 ∧ s.is (mbch c.val) MBC_ABORT = false ∧ s.is (mbch c.val) MBC_USB = false ∧ s.rd mbx MB_FW_COPY ≤ 1 ∧ s.rd mbx FW_CH = 0) ∧
    (∃ (s : State) (c : Fin 16) (_ : Bool), c.val ≤ 2 ∧ s.moabeuc = true ∧ s.is (mbch c.val) MB_RESULT_BUSY = true ∧ s.is (mbch c.val) MB_RESULT_TAKEN = true ∧ s.rd (mbch c.val) MB_DOORBELL_CMD = 37 ∧ s.is (mbch c.val) MBC_ABORT = false ∧ s.is (mbch c.val) MBC_USB = false ∧ s.rd mbx MB_FW_COPY ≤ 1 ∧ s.rd mbx FW_CH = 0 ∧ imgNum (s.flashImage s.otherCopy) 12 2 < s.otpSvn) ∧
    (∃ (s : State) (c : Fin 16), c.val ≤ 2 ∧ s.moabeuc = true ∧ s.is (mbch c.val) MB_RESULT_BUSY = true ∧ s.is (mbch c.val) MB_RESULT_TAKEN = true ∧ s.rd (mbch c.val) MB_DOORBELL_CMD = 37 ∧ s.is (mbch c.val) MBC_ABORT = false ∧ s.is (mbch c.val) MBC_USB = false ∧ s.rd mbx MB_FW_COPY ≤ 1 ∧ s.rd mbx FW_CH = 0 ∧ s.otpSvn ≤ imgNum (s.flashImage s.otherCopy) 12 2) ∧
    (∃ (s : State) (c : Fin 16), c.val ≤ 2 ∧ s.moabeuc = true ∧ s.is (mbch c.val) MB_RESULT_BUSY = true ∧ s.is (mbch c.val) MB_RESULT_TAKEN = true ∧ s.rd (mbch c.val) MB_DOORBELL_CMD = 38 ∧ s.is (mbch c.val) MBC_ABORT = false ∧ s.is (mbch c.val) MBC_USB = false ∧ s.rd mbx MB_FW_COPY ≤ 1 ∧ s.rd mbx FW_CH = 0 ∧ s.is aon AON_TRIAL_OPEN = true) ∧
    (∃ (s : State) (c : Fin 16), c.val ≤ 2 ∧ s.moabeuc = true ∧ s.is (mbch c.val) MB_RESULT_BUSY = true ∧ s.is (mbch c.val) MB_RESULT_TAKEN = true ∧ s.rd (mbch c.val) MB_DOORBELL_CMD = 38 ∧ s.is (mbch c.val) MBC_ABORT = false ∧ s.is (mbch c.val) MBC_USB = false ∧ s.rd mbx MB_FW_COPY ≤ 1 ∧ s.rd mbx FW_CH = 0 ∧ s.is aon AON_TRIAL_OPEN = false) ∧
    (∃ (s : State), s.is mbx FW_CH = true ∧ s.rd mbx FW_TIME + 10000000000 ≤ s.clock) :=
  ⟨⟨{ st [(mbx, MB_FW_FW_READY, 1), (mbch 0, MB_RESULT_BUSY, 1), (mbch 0, MB_RESULT_TAKEN, 1), (mbch 0, MB_DOORBELL_CMD, 32), (mbch 0, MB_DOORBELL_LEN, 1)] with flash := [(4, 0), (5, 0), (6, 0x20), (7, 0), (8, 0), (9, 0x10), (10, 0), (11, 0)] }, 0, by decide +kernel⟩,
   ⟨st [(mbx, MB_FW_FW_READY, 1), (mbch 0, MB_DOORBELL_LEN, 3), (mbx, FW_CH, 1), (mbch 0, MB_RESULT_BUSY, 1), (mbch 0, MB_RESULT_TAKEN, 1), (mbch 0, MB_DOORBELL_CMD, 33), (mbx, FW_LEN, 16)], 0, 0, List.replicate 8 (0 : Byte), by decide +kernel⟩,
   ⟨st [(mbx, MB_FW_FW_READY, 1), (mbch 0, MB_RESULT_BUSY, 1), (mbch 0, MB_RESULT_TAKEN, 1), (mbch 0, MB_DOORBELL_CMD, 34), (mbx, FW_CH, 1)], 0, by decide +kernel⟩,
   ⟨st [(mbx, MB_FW_FW_READY, 1), (mbch 0, MB_RESULT_BUSY, 1), (mbch 0, MB_RESULT_TAKEN, 1), (mbch 0, MB_DOORBELL_CMD, 35), (mbx, FW_CH, 1), (mbx, FW_CHECKED, 1)], 0, by decide +kernel⟩,
   ⟨st [(mbx, MB_FW_FW_READY, 1), (mbch 0, MB_RESULT_BUSY, 1), (mbch 0, MB_RESULT_TAKEN, 1), (mbch 0, MB_DOORBELL_CMD, 36)], 0, by decide +kernel⟩,
   ⟨{ st [(mbx, MB_FW_FW_READY, 1), (mbch 0, MB_RESULT_BUSY, 1), (mbch 0, MB_RESULT_TAKEN, 1), (mbch 0, MB_DOORBELL_CMD, 37), (mbx, MB_FW_COPY, 1)] with flash := [(4, 0), (5, 0), (6, 0x10), (7, 0), (8, 0), (9, 0x10), (10, 0), (11, 0), (0x10000C, 0), (0x10000D, 0), (0x100000 + 14, 0)], otp := [(192, 3)] }, 0, false, by decide +kernel⟩,
   ⟨st [(mbx, MB_FW_FW_READY, 1), (mbch 0, MB_RESULT_BUSY, 1), (mbch 0, MB_RESULT_TAKEN, 1), (mbch 0, MB_DOORBELL_CMD, 37)], 0, by decide +kernel⟩,
   ⟨st [(mbx, MB_FW_FW_READY, 1), (mbch 0, MB_RESULT_BUSY, 1), (mbch 0, MB_RESULT_TAKEN, 1), (mbch 0, MB_DOORBELL_CMD, 38), (aon, AON_TRIAL_OPEN, 1)], 0, by decide +kernel⟩,
   ⟨st [(mbx, MB_FW_FW_READY, 1), (mbch 0, MB_RESULT_BUSY, 1), (mbch 0, MB_RESULT_TAKEN, 1), (mbch 0, MB_DOORBELL_CMD, 38)], 0, by decide +kernel⟩,
   ⟨{ st [(mbx, FW_CH, 1)] with clock := 1000000000000 }, by decide +kernel⟩⟩

/-- The hypotheses of each clause of CountersAreClearedByTheirPage are met together. -/
theorem wit_CountersAreClearedByTheirPage :
    (∃ (s : State) (who : Initiator) (n : Fin 6), s.accepts who (linkCnt n.val) LK_CNT_CLR_CLR) ∧
    (∃ (s : State) (who : Initiator), s.accepts who pathctl PC_CNT_CLR_CLR) ∧
    (∃ (s : State) (who : Initiator), s.accepts who sw SW_CNT_CLR_CLR) ∧
    (∃ (s : State) (who : Initiator) (e : Fin 26), s.accepts who (alm e.val) ALM_CNT_CLR_CLR) ∧
    (∃ (s : State) (who : Initiator), s.accepts who pcie PE_CNT_CLR_CLR) ∧
    (∃ (s : State) (who : Initiator) (n : Fin 8), s.accepts who (pca n.val) PCA_CNT_CLR_CLR) ∧
    (∃ (s : State) (who : Initiator), s.accepts who bridge BR_CNT_CLR_CLR) ∧
    (∃ (s : State) (who : Initiator) (n : Fin 4), s.accepts who (disp n.val) DISP_CTRL_CNT_CLR) ∧
    (∃ (s : State) (who : Initiator) (n : Fin 4), s.accepts who (dout n.val) DOUT_CTRL_CNT_CLR) ∧
    (∃ (s : State) (who : Initiator), s.accepts who uhub UH_CNT_CLR_CLR) ∧
    (∃ (s : State) (who : Initiator) (n : Fin 2), s.accepts who (eth n.val) ETH_CNT_CLR_CLR) ∧
    (∃ (s : State) (who : Initiator), s.accepts who memp MEM_CNT_CLR_CLR) ∧
    (∃ (s : State) (who : Initiator) (n : Fin 6), s.accepts who (pd n.val) PD_CNT_CLR_CLR) ∧
    (∃ (s : State) (who : Initiator), s.accepts who aon AON_CNT_CLR_CLR) ∧
    (∃ (s : State) (who : Initiator), s.accepts who bist BIST_CNT_CLR_CLR) ∧
    (∃ (s : State) (who : Initiator), s.accepts who mbx MB_CNT_CLR_CLR) :=
  ⟨⟨on [], .marionette, 0, by decide +kernel⟩,
   ⟨on [], .marionette, by decide +kernel⟩,
   ⟨on [], .marionette, by decide +kernel⟩,
   ⟨on [], .marionette, 0, by decide +kernel⟩,
   ⟨on [], .marionette, by decide +kernel⟩,
   ⟨on [], .marionette, 0, by decide +kernel⟩,
   ⟨on [], .marionette, by decide +kernel⟩,
   ⟨on [], .marionette, 0, by decide +kernel⟩,
   ⟨on [], .marionette, 0, by decide +kernel⟩,
   ⟨on [], .marionette, by decide +kernel⟩,
   ⟨on [], .marionette, 0, by decide +kernel⟩,
   ⟨on [], .marionette, by decide +kernel⟩,
   ⟨on [], .marionette, 0, by decide +kernel⟩,
   ⟨State.reset, .marionette, by decide +kernel⟩,
   ⟨State.reset, .marionette, by decide +kernel⟩,
   ⟨on [], .marionette, by decide +kernel⟩⟩





/-- The hypotheses of each clause of WritesWithoutRightHaveNoEffect are met together. -/
theorem wit_WritesWithoutRightHaveNoEffect :
    (∃ (c : Instr) (s : State) (who : Initiator) (p : Page) (f : Field), writesField c = some (who, p, f) ∧ c.wellFormed = true ∧ s.awake ∧ s.gated p = true) ∧
    (∃ (c : Instr) (s : State) (who : Initiator) (p : Page) (f : Field), writesField c = some (who, p, f) ∧ c.wellFormed = true ∧ s.awake ∧ s.gated p = false ∧ s.is p PG_STATUS_IN_RESET = true ∧ 1024 ≤ f.bit) ∧
    (∃ (c : Instr) (s : State) (who : Initiator) (p : Page) (f : Field), writesField c = some (who, p, f) ∧ c.wellFormed = true ∧ s.awake ∧ s.gated p = false ∧ (s.is p PG_STATUS_IN_RESET = false ∨ f.bit < 1024) ∧ s.refusal p who f ≠ 0) :=
  ⟨⟨.pcCntClr .marionette, State.reset, .marionette, pathctl, PC_CNT_CLR_CLR, by decide +kernel⟩,
   ⟨.pcCntClr .marionette, on [(pathctl, PG_STATUS_IN_RESET, 1)], .marionette, pathctl, PC_CNT_CLR_CLR, by decide +kernel⟩,
   ⟨.pcCntClr .marionette, on [(pathctl, PG_LOCK_ALL_LOCK, 1)], .marionette, pathctl, PC_CNT_CLR_CLR, by decide +kernel⟩⟩

/-- The hypotheses of each clause of SafetyRegistersTakeOnlyTheIslandsWrites are met together. -/
theorem wit_SafetyRegistersTakeOnlyTheIslandsWrites :
    (∃ (s : State) (who : Initiator) (a : Fin 16777216) (_ : Fin 16) (_ : Fin 4294967296), s.awake ∧ who ≠ Initiator.ngunov ∧ who ≠ Initiator.jtag ∧ pageAt (a.val / 4 * 4) = some safe) :=
  ⟨State.reset, .marionette, 0x020084, 0, 0, by decide +kernel⟩

/-! ### Commands that no sender can give -/

/-- Commands with an operand out of its range are not well-formed, part 1. -/
theorem test_illformed_1 :
    [Instr.cellSlot (2 ^ 20) [],
      Instr.cellSlot 0 [.ce 20],
      Instr.cellSlot 0 [.ue 20],
      Instr.cellSlot 0 [.ptr 20],
      Instr.blockSoftReset .marionette (shaper 0),
      Instr.softResetComplete (shaper 0),
      Instr.enable .marionette (shaper 0) false,
      Instr.levelChange .marionette (shaper 0) false,
      Instr.derivationDone (shaper 0) [],
      Instr.derivationDone (lane 0) [(1024, 0)],
      Instr.derivationDone (lane 0) [(0, 2 ^ 32)],
      Instr.intForce .marionette (shaper 0) 0,
      Instr.intEnableWrite .marionette (shaper 0) 0,
      Instr.intAck .marionette (shaper 0) 0,
      Instr.errAck .marionette (shaper 0) 0,
      Instr.graceExpiry (shaper 0),
      Instr.arm .marionette (shaper 0) false 0,
      Instr.cancel .marionette (shaper 0) false,
      Instr.extLock .marionette (shaper 0),
      Instr.allLock .marionette (shaper 0),
      Instr.modeChange .marionette 0 (2 ^ 4),
      Instr.retrain .marionette glb,
      Instr.lnCntClr .marionette glb,
      Instr.trainStageDone 0 (.orient 16 0 false false false),
      Instr.trainStageDone 0 (.orient 0 256 false false false),
      Instr.trainStageDone 0 (.eqLoad 4),
      Instr.trainStageDone 0 (.adapt []),
      Instr.trainStageDone 0 (.adapt [(256, 0, 0), (0, 0, 0), (0, 0, 0), (0, 0, 0)]),
      Instr.trainStageDone 0 (.adapt [(0, 256, 0), (0, 0, 0), (0, 0, 0), (0, 0, 0)]),
      Instr.trainStageDone 0 (.adapt [(0, 0, 256), (0, 0, 0), (0, 0, 0), (0, 0, 0)])].all (fun c => !c.wellFormed) = true := by decide +kernel

/-- Commands with an operand out of its range are not well-formed, part 2. -/
theorem test_illformed_2 :
    [Instr.trainStageDone 0 (.rtt [] 0 false),
      Instr.trainStageDone 0 (.rtt [(2 ^ 66, 0, 0), (0, 0, 0), (0, 0, 0), (0, 0, 0)] 0 false),
      Instr.trainStageDone 0 (.rtt [(0, 2 ^ 66, 0), (0, 0, 0), (0, 0, 0), (0, 0, 0)] 0 false),
      Instr.trainStageDone 0 (.rtt [(0, 0, 0x10000), (0, 0, 0), (0, 0, 0), (0, 0, 0)] 0 false),
      Instr.trainStageDone 0 (.rtt [(0, 0, 0), (0, 0, 0), (0, 0, 0), (0, 0, 0)] 0x10000 false),
      Instr.trainStageFail 0 (2 ^ 4),
      Instr.los (lane 0) 4,
      Instr.los glb 0,
      Instr.lol (lane 0) 4,
      Instr.lol glb 0,
      Instr.losRelease (lane 0) 4,
      Instr.losRelease glb 0,
      Instr.marginStart .marionette (lane 0) 4,
      Instr.marginStart .marionette glb 0,
      Instr.marginDone (lane 0) 0 false (2 ^ 32),
      Instr.marginDone (lane 0) 4 false 0,
      Instr.marginDone glb 0 false 0,
      Instr.eyeRefresh (lane 0) 0 (2 ^ 8) 0 0,
      Instr.eyeRefresh (lane 0) 0 0 (2 ^ 8) 0,
      Instr.eyeRefresh (lane 0) 0 0 0 (2 ^ 2),
      Instr.eyeRefresh (lane 0) 4 0 0 0,
      Instr.eyeRefresh glb 0 0 0 0,
      Instr.sbuServeFrame 0 (2 ^ 4) 0 0 0 0 false,
      Instr.sbuServeFrame 0 0 (2 ^ 4) 0 0 0 false,
      Instr.sbuServeFrame 0 0 0 (2 ^ 48) 0 0 false,
      Instr.sbuServeFrame 0 0 0 0 (2 ^ 32) 0 false,
      Instr.sbuServeFrame 0 0 0 0 0 (2 ^ 66) false,
      Instr.sbuFollowEdge 0 (2 ^ 66) false,
      Instr.codewordRx 0 (2 ^ 24) 0 0 false 0 false false,
      Instr.codewordRx 0 0 (2 ^ 2) 0 false 0 false false].all (fun c => !c.wellFormed) = true := by decide +kernel

/-- Commands with an operand out of its range are not well-formed, part 3. -/
theorem test_illformed_3 :
    [Instr.codewordRx 0 0 0 (2 ^ 4) false 0 false false,
      Instr.codewordRx 0 0 0 0 false (2 ^ 8) false false,
      Instr.packetRx 0 (2 ^ 4) false ⟨0, false, 0, 0, .ctrl ⟨0, 0, 0, 0, false, 0, 0, 0, []⟩⟩ none,
      Instr.packetRx 0 0 false ⟨4, false, 0, 0, .ctrl ⟨0, 0, 0, 0, false, 0, 0, 0, []⟩⟩ none,
      Instr.packetRx 0 0 false ⟨0, false, 257, 0, .ctrl ⟨0, 0, 0, 0, false, 0, 0, 0, []⟩⟩ none,
      Instr.packetRx 0 0 false ⟨0, false, 0, 4096, .ctrl ⟨0, 0, 0, 0, false, 0, 0, 0, []⟩⟩ none,
      Instr.packetRx 0 0 false ⟨0, false, 0, 0, .data 0x10000 0 0 []⟩ none,
      Instr.packetRx 0 0 false ⟨0, false, 0, 0, .data 0 0x10000 0 []⟩ none,
      Instr.packetRx 0 0 false ⟨0, false, 0, 0, .data 0 0 (2 ^ 32) []⟩ none,
      Instr.packetRx 0 0 false ⟨0, false, 0, 0, .ctrl ⟨0x10000, 0, 0, 0, false, 0, 0, 0, []⟩⟩ none,
      Instr.packetRx 0 0 false ⟨0, false, 0, 0, .ctrl ⟨0, 0x10000, 0, 0, false, 0, 0, 0, []⟩⟩ none,
      Instr.packetRx 0 0 false ⟨0, false, 0, 0, .ctrl ⟨0, 0, 256, 0, false, 0, 0, 0, []⟩⟩ none,
      Instr.packetRx 0 0 false ⟨0, false, 0, 0, .ctrl ⟨0, 0, 0, 256, false, 0, 0, 0, []⟩⟩ none,
      Instr.packetRx 0 0 false ⟨0, false, 0, 0, .ctrl ⟨0, 0, 0, 0, false, 2, 0, 0, []⟩⟩ none,
      Instr.packetRx 0 0 false ⟨0, false, 0, 0, .ctrl ⟨0, 0, 0, 0, false, 0, 16, 0, []⟩⟩ none,
      Instr.packetRx 0 0 false ⟨0, false, 0, 0, .ctrl ⟨0, 0, 0, 0, false, 0, 0, 1024, []⟩⟩ none,
      Instr.packetRx 0 0 false ⟨0, false, 0, 0, .ctrl ⟨0, 0, 0, 0, false, 0, 0, 0, [2 ^ 32]⟩⟩ none,
      Instr.packetRx 0 0 false ⟨0, false, 0, 0, .ctrl ⟨0, 0, 0, 0, false, 0, 0, 0, []⟩⟩ (some 4096),
      Instr.ackRx 0 (2 ^ 12),
      Instr.nakRx 0 false (2 ^ 12),
      Instr.creditRx 0 [(0x10000, 0)],
      Instr.creditRx 0 [(0, 2 ^ 32)],
      Instr.pairDropRx 0 (2 ^ 4) 0,
      Instr.pairDropRx 0 0 (2 ^ 1),
      Instr.addReqRx 0 (2 ^ 4) 0,
      Instr.addReqRx 0 0 (2 ^ 1),
      Instr.addReadyRx 0 (2 ^ 4) 0,
      Instr.addReadyRx 0 0 (2 ^ 1),
      Instr.pairSetRx 0 (2 ^ 4) 0 0,
      Instr.pairSetRx 0 0 (2 ^ 4) 0].all (fun c => !c.wellFormed) = true := by decide +kernel

/-- Commands with an operand out of its range are not well-formed, part 4. -/
theorem test_illformed_4 :
    [Instr.pairSetRx 0 0 0 (2 ^ 24),
      Instr.turnPrep 0 (2 ^ 16) 0,
      Instr.turnPrep 0 0 (2 ^ 2),
      Instr.turnOk 0 (2 ^ 16),
      Instr.lpReq 0 (2 ^ 2),
      Instr.lpAck 0 (2 ^ 2),
      Instr.hopEntryWrite 0 ⟨64, 0, false, 0, 0, 0, 0, 0⟩,
      Instr.hopEntryWrite 0 ⟨0, 2048, false, 0, 0, 0, 0, 0⟩,
      Instr.hopEntryWrite 0 ⟨0, 0, false, 64, 0, 0, 0, 0⟩,
      Instr.hopEntryWrite 0 ⟨0, 0, false, 0, 2048, 0, 0, 0⟩,
      Instr.hopEntryWrite 0 ⟨0, 0, false, 0, 0, 8, 0, 0⟩,
      Instr.hopEntryWrite 0 ⟨0, 0, false, 0, 0, 0, 256, 0⟩,
      Instr.pathEntryWrite .marionette 0 0 0 (2 ^ 32),
      Instr.tlpFromLocal 0 ⟨.posted, 0x10000, 0, 0, false, false, false, false, []⟩,
      Instr.tlpFromLocal 0 ⟨.posted, 0, 1024, 0, false, false, false, false, []⟩,
      Instr.tlpFromLocal 0 ⟨.posted, 0, 0, 8192, false, false, false, false, []⟩,
      Instr.tlpFromTunnel 0 0 false ⟨.posted, 0x10000, 0, 0, false, false, false, false, []⟩,
      Instr.completionFromTunnel 0 ⟨.posted, 0x10000, 0, 0, false, false, false, false, []⟩,
      Instr.lockedRequest 0 false ⟨.posted, 0x10000, 0, 0, false, false, false, false, []⟩,
      Instr.smbWrite false [2 ^ 32],
      Instr.streamPacketRx 0 0 (.msa ⟨0x10000, 80, 0, 0, 0, 100, 80, 0, 0, 0, 1000, 8, false, false⟩),
      Instr.streamPacketRx 0 0 (.msa ⟨100, 0x10000, 0, 0, 0, 100, 80, 0, 0, 0, 1000, 8, false, false⟩),
      Instr.streamPacketRx 0 0 (.msa ⟨100, 80, 0x10000, 0, 0, 100, 80, 0, 0, 0, 1000, 8, false, false⟩),
      Instr.streamPacketRx 0 0 (.msa ⟨100, 80, 0, 2, 0, 100, 80, 0, 0, 0, 1000, 8, false, false⟩),
      Instr.streamPacketRx 0 0 (.msa ⟨100, 80, 0, 0, 0x10000, 100, 80, 0, 0, 0, 1000, 8, false, false⟩),
      Instr.streamPacketRx 0 0 (.msa ⟨100, 80, 0, 0, 0, 0x10000, 80, 0, 0, 0, 1000, 8, false, false⟩),
      Instr.streamPacketRx 0 0 (.msa ⟨100, 80, 0, 0, 0, 100, 0x10000, 0, 0, 0, 1000, 8, false, false⟩),
      Instr.streamPacketRx 0 0 (.msa ⟨100, 80, 0, 0, 0, 100, 80, 0x10000, 0, 0, 1000, 8, false, false⟩),
      Instr.streamPacketRx 0 0 (.msa ⟨100, 80, 0, 0, 0, 100, 80, 0, 2, 0, 1000, 8, false, false⟩),
      Instr.streamPacketRx 0 0 (.msa ⟨100, 80, 0, 0, 0, 100, 80, 0, 0, 0x10000, 1000, 8, false, false⟩)].all (fun c => !c.wellFormed) = true := by decide +kernel

/-- Commands with an operand out of its range are not well-formed, part 5. -/
theorem test_illformed_5 :
    [Instr.streamPacketRx 0 0 (.msa ⟨100, 80, 0, 0, 0, 100, 80, 0, 0, 0, 2 ^ 24, 8, false, false⟩),
      Instr.streamPacketRx 0 0 (.msa ⟨100, 80, 0, 0, 0, 100, 80, 0, 0, 0, 1000, 7, false, false⟩),
      Instr.writeRect 0 0 0 0 ⟨0x10000, 0, 0, 0⟩ [],
      Instr.writeRect 0 0 0 0 ⟨0, 0x10000, 0, 0⟩ [],
      Instr.writeRect 0 0 0 0 ⟨0, 0, 0x10000, 0⟩ [],
      Instr.writeRect 0 0 0 0 ⟨0, 0, 0, 0x10000⟩ [],
      Instr.fillRect 0 0 0 0 ⟨0x10000, 0, 0, 0⟩ 0,
      Instr.copyRect 0 0 0 0 0 ⟨0x10000, 0, 0, 0⟩ 0 0,
      Instr.readRect 0 0 0 0 false ⟨0x10000, 0, 0, 0⟩,
      Instr.readbackFrameEnd 0 [[2 ^ 30]],
      Instr.portOwnerChange .marionette (.port 0 false false false false),
      Instr.portOwnerChange .marionette (.port 7 false false false false),
      Instr.portOwnerChange .marionette (.up 2 0 0),
      Instr.portOwnerChange .marionette (.up 0 16 0),
      Instr.portOwnerChange .marionette (.up 0 0 16),
      Instr.setup (.setAddress 128) 0,
      Instr.setup (.setConfig 256) 0,
      Instr.setup (.setInterface 3 0 0) 0,
      Instr.setup (.setInterface 0 256 0) 0,
      Instr.setup (.setInterface 0 0 16) 0,
      Instr.setup (.setRate 16) 0,
      Instr.txTail .marionette 0 0 0 [⟨true, false, false, false, 0x10000, []⟩],
      Instr.rxTail .marionette 0 0 0 [0x10000],
      Instr.dramRequest [⟨8, 0, 0, none⟩] .clean,
      Instr.dramRequest [⟨0, 2 ^ 35, 0, none⟩] .clean,
      Instr.dramRequest [⟨0, 0, 2 ^ 32, none⟩] .clean,
      Instr.sourceCapabilities 0 [2 ^ 32],
      Instr.request 0 [2 ^ 32],
      Instr.request 0 (List.replicate 67 0),
      Instr.accept 0 [2 ^ 32]].all (fun c => !c.wellFormed) = true := by decide +kernel

/-- Commands with an operand out of its range are not well-formed, part 6. -/
theorem test_illformed_6 :
    [Instr.reject 0 [2 ^ 32],
      Instr.wait 0 [2 ^ 32],
      Instr.psRdy 0 [2 ^ 32] false,
      Instr.prSwap 0 [2 ^ 32],
      Instr.drSwap 0 [2 ^ 32],
      Instr.vconnSwap 0 [2 ^ 32],
      Instr.frSwap 0 [2 ^ 32],
      Instr.softResetRx 0 [2 ^ 32],
      Instr.eprKeepalive 0 [2 ^ 32],
      Instr.discoverIdentity 0 0 false [2 ^ 32],
      Instr.discoverModes 0 0 false [2 ^ 32],
      Instr.enterMode 0 false [2 ^ 32],
      Instr.enterUsb 0 [2 ^ 32],
      Instr.yoyoSample [] [0, 0, 0, 0, 0, 0] 0 0,
      Instr.yoyoSample [64, 0, 0, 0, 0, 0] [0, 0, 0, 0, 0, 0] 0 0,
      Instr.yoyoSample [0, 0, 0, 0, 0, 0] [] 0 0,
      Instr.yoyoSample [0, 0, 0, 0, 0, 0] [0x10000, 0, 0, 0, 0, 0] 0 0,
      Instr.spdmChallenge 0 0 (2 ^ 384),
      Instr.getMeasurements 0 0 false (2 ^ 384),
      Instr.keyExchange 0 0 0 (2 ^ 384),
      Instr.keyBind 0 (some (2 ^ 256)),
      Instr.logRead 0 [2 ^ 32],
      Instr.eprMode 0 [2 ^ 32]].all (fun c => !c.wellFormed) = true := by decide +kernel

/-! ### Witnesses for the statements about the whole machine -/

/-- A state in canonical form and a step that answers a next state. -/
theorem wit_EveryStepKeepsTheCanonicalForm : ∃ s t : State, s.Inv ∧ step s = .next t :=
  ⟨{ State.reset with pending := [.pinReset] }, _,
    ⟨by decide +kernel, by decide +kernel, by decide +kernel, by decide +kernel, by decide +kernel, by decide +kernel⟩, rfl⟩

/-- A step that answers a next state, and a command that cannot program the OTP and completes. -/
theorem wit_OtpBitsAreOnlyProgrammed :
    (∃ s t : State, step s = .next t) ∧ (∃ (c : Instr) (s t : State), exec c s = .next t ∧ mayProgramOtp c = false) :=
  ⟨⟨{ State.reset with pending := [.pinReset] }, _, rfl⟩, ⟨.pinReset, State.reset, _, rfl, rfl⟩⟩

/-- A command that may not write the flash. -/
theorem wit_FlashChangesOnlyInFirmwareUpdates : ∃ c : Instr, mayWriteFlash c = false := ⟨.pinReset, rfl⟩

/-! ### Single commands -/

/-- The state after a command, or the state before it where it does not complete. -/
def after (c : Instr) (s : State) : State :=
  match exec c s with
  | .next t => t
  | _ => s

/-- The state after reset is in canonical form. -/
theorem test_reset_inv : State.reset.Inv :=
  ⟨by decide +kernel, by decide +kernel, by decide +kernel, by decide +kernel, by decide +kernel, by decide +kernel⟩

/-- With an empty queue a step advances hub time by 1 ns. -/
theorem test_idle_step :
    (match step State.reset with | .next t => t.time == 1 && t.pending.isEmpty | _ => false) = true := by decide +kernel

/-- No row of the command table gives bits, so no word spells a command. -/
theorem test_no_word_is_a_command (n w : Nat) : State.reset.withFetchWord n w = State.reset := rfl

/-- The check value of CRC-16 with polynomial 0x1021 and start 0xFFFF (R87), over the digits 1 to 9. -/
theorem test_crc16 : crc16 [0x31, 0x32, 0x33, 0x34, 0x35, 0x36, 0x37, 0x38, 0x39] = 0x29B1 := by decide +kernel

/-- The check value of CRC-32 of IEEE 802.3, over the digits 1 to 9. -/
theorem test_crc32 :
    crc32End (crc32Run 0xFFFFFFFF [0x31, 0x32, 0x33, 0x34, 0x35, 0x36, 0x37, 0x38, 0x39]) = 0xCBF43926 := by
  decide +kernel

/-- Acknowledging clears the interrupt bits written 1, and no other (R42, R55). -/
theorem test_int_ack :
    let t := after (.intAck .marionette pcie 1) (on [(pcie, PG_INT 0, 1), (pcie, PG_INT 1, 1)])
    (t.rd pcie (PG_INT 0), t.rd pcie (PG_INT 1)) = (0, 1) := by decide +kernel

/-- A read of a gated page returns 0 and is recorded, with source 0 of GLB (R14). -/
theorem test_gated_read :
    let t := after (.gatedAccess .host0 0x600010 false) State.reset
    (t.rd glb GLB_GATED_ADDR_ADDR, t.rd glb GLB_GATED_ADDR_WRITE, t.rd glb (PG_ERR_STATUS_SRC.nth 0)) = (0x600010, 0, 1) ∧
      t.out = [.readData .host0 0] := by decide +kernel

/-- The chip reset takes its key only (R394). -/
theorem test_chip_reset_key :
    let s := st [(lane 0, LN_CTRL_MODE, 2)]
    (after (.chipSoftwareReset .marionette 0x5A) s).rd (lane 0) LN_CTRL_MODE = 2 ∧
      (after (.chipSoftwareReset .marionette 0xA5) s).rd (lane 0) LN_CTRL_MODE = 0 := by decide +kernel

/-- ARM records the target epoch (R48). -/
theorem test_arm :
    let t := after (.arm .marionette sw false 7) (on [])
    (t.rd sw PG_SHADOW_CTRL_ARMED, t.rd sw PG_SHADOW_CTRL_TARGET) = (1, 7) := by decide +kernel

/-- With ALL_LOCK set, a host's write of ENABLE of the page has no effect (R46). -/
theorem test_all_lock :
    let t := after (.enable .host0 pcie true) (on [(pcie, PG_LOCK_ALL_LOCK, 1)])
    t.rd pcie pcie.enableField = 0 := by decide +kernel

/-- A turnover begins an epoch of 16.384 us: from time 0 the next starts at 2^14 ns (R8). -/
theorem test_turnover_time : (after .turnover { State.reset with time := 1 }).time = 16384 := by decide +kernel

/-- A cell slot lasts 8 ns (R166). -/
theorem test_cell_slot_time : (after (.cellSlot 0 []) { on [] with time := 3 }).time = 8 := by decide +kernel

/-- Writing the value that an unlisted byte reads as removes the entry. -/
theorem test_mem_write_removes : Mem.write 0xFF [(5, 1), (9, 2)] 5 0xFF = [(9, 2)] := by decide +kernel

end Sys2Proof.Tests
end

section
/-! What the resets of the whole hub spare: the registers and memories that an operation leaves alone, for the errors
of a page, its soft reset, and the resets, supplies and clocks of spec/17_power_states_and_reset.md; and the statement
about them. -/

namespace Sys2Proof

/-- An entry of a table of which some keys were kept. -/
theorem Tab.find_keep {α : Type} (t : Tab α) (q : Nat → Bool) (k : Nat) :
    (t.keep q).find k = if q k then t.find k else none := by
  unfold Tab.keep
  induction t with
  | nil => simp
  | cons a t ih =>
    by_cases ha : q a.1 = true
    · rw [List.filter_cons_of_pos (by simpa using ha)]
      by_cases hk : a.1 = k
      · simp [Tab.find, ← hk, ha]
      · simp [Tab.find, hk, ih]
    · rw [List.filter_cons_of_neg (by simpa using ha), ih]
      by_cases hk : a.1 = k
      · simp [← hk, ha]
      · simp [Tab.find, hk]

end Sys2Proof

namespace Sys2Proof.Machine

open Reg

/-! ### What an operation spares -/

/-- `t` holds at the key `k` of the registers what `s` holds, and the same memories. -/
structure State.Spares (k : Nat) (s t : State) : Prop where
  find : Tab.find t.regs k = Tab.find s.regs k
  dram : t.dram = s.dram
  flash : t.flash = s.flash
  otp : t.otp = s.otp
  aonRam : t.aonRam = s.aonRam

theorem State.Spares.refl (k : Nat) (s : State) : s.Spares k s := ⟨rfl, rfl, rfl, rfl, rfl⟩

theorem State.Spares.trans {k : Nat} {r s t : State} (h : r.Spares k s) (g : s.Spares k t) : r.Spares k t :=
  ⟨g.find.trans h.find, g.dram.trans h.dram, g.flash.trans h.flash, g.otp.trans h.otp, g.aonRam.trans h.aonRam⟩

/-- A spared key reads the same. -/
theorem State.Spares.rd {p : Page} {f : Field} {s t : State} (h : s.Spares (key p f) t) : t.rd p f = s.rd p f := by
  unfold State.rd; rw [h.find]

theorem State.Spares.is {p : Page} {f : Field} {s t : State} (h : s.Spares (key p f) t) : t.is p f = s.is p f := by
  unfold State.is; rw [h.rd]

section
variable {k : Nat} {r s : State}

/-- A change of neither the registers nor the memories. -/
theorem State.Spares.same {t : State} (h : r.Spares k s) (h1 : t.regs = s.regs) (h2 : t.dram = s.dram)
    (h3 : t.flash = s.flash) (h4 : t.otp = s.otp) (h5 : t.aonRam = s.aonRam) : r.Spares k t :=
  h.trans ⟨by rw [h1], h2, h3, h4, h5⟩

theorem State.Spares.wr {p : Page} {f : Field} {v : Nat} (h : r.Spares k s) (hk : k ≠ key p f) :
    r.Spares k (s.wr p f v) :=
  h.trans ⟨State.find_wr_ne s v hk, rfl, rfl, rfl, rfl⟩

theorem State.Spares.count {p : Page} {f : Field} (h : r.Spares k s) (hk : k ≠ key p f) : r.Spares k (s.count p f) :=
  h.wr hk

/-- A write of one of the keys `ks`, of which `k` is none. -/
theorem State.Spares.wr_mem {p : Page} {f : Field} {v : Nat} {ks : List Nat} (h : r.Spares k s) (hk : k ∉ ks)
    (hf : key p f ∈ ks := by decide) : r.Spares k (s.wr p f v) :=
  h.wr fun e => hk (e ▸ hf)

theorem State.Spares.ite {a b : State} {c : Prop} [Decidable c] (h : r.Spares k a) (g : r.Spares k b) :
    r.Spares k (if c then a else b) := by
  split <;> assumption

theorem State.Spares.when {b : Bool} {f : State → State} (h : r.Spares k s)
    (hf : ∀ t, r.Spares k t → r.Spares k (f t)) : r.Spares k (s.when b f) :=
  (hf s h).ite h

theorem State.Spares.foldl {α : Type} {l : List α} {g : State → α → State} (h : r.Spares k s)
    (hg : ∀ t, ∀ x ∈ l, r.Spares k t → r.Spares k (g t x)) : r.Spares k (l.foldl g s) := by
  induction l generalizing s with
  | nil => exact h
  | cons a l ih => exact ih (hg s a (by simp) h) fun t x hx => hg t x (by simp [hx])

theorem State.Spares.clearFields {p : Page} {fs : List Field} (h : r.Spares k s) (hk : k ∉ fs.map (key p)) :
    r.Spares k (s.clearFields p fs) :=
  h.foldl fun _ _ hf ht => ht.wr fun e => hk (e ▸ List.mem_map_of_mem hf)

/-- Fields of other pages or classes than those that are reset keep their values. -/
theorem State.Spares.resetWhere {q : Page → Cls → Bool} (h : r.Spares k s)
    (hk : (clsOfKey k).all (fun x => !q x.1 x.2) = true) : r.Spares k (s.resetWhere q) := by
  refine h.trans ⟨?_, rfl, rfl, rfl, rfl⟩
  unfold State.resetWhere
  rw [Tab.find_keep, if_pos]
  cases hc : clsOfKey k with
  | none => rfl
  | some x => simpa [hc] using hk

theorem State.Spares.gated (h : ∀ f ∈ [GLB_ISL_PWR_PWR, GLB_ISL_CLK_CLK_OK, GLB_ISL_RST_IN_RESET],
    r.Spares (key glb f) s) (p : Page) : s.gated p = r.gated p := by
  unfold State.gated State.islandUp State.rdBit
  rw [(h GLB_ISL_PWR_PWR (by simp)).rd, (h GLB_ISL_CLK_CLK_OK (by simp)).rd, (h GLB_ISL_RST_IN_RESET (by simp)).rd]

end

/-! ### Changes of registers alone -/

theorem OnlyKeys.refl (ks : List Nat) (s : State) : OnlyKeys ks s s := ⟨rfl, fun _ _ => rfl⟩

theorem OnlyKeys.wr {ks : List Nat} {r s : State} {p : Page} {f : Field} {v : Nat} (h : OnlyKeys ks r s)
    (hf : key p f ∈ ks := by decide) : OnlyKeys ks r (s.wr p f v) :=
  ⟨congrArg (fun u : State => { u with regs := (s.wr p f v).regs }) h.1, fun k hk =>
    (State.find_wr_ne (k := k) s v fun e => hk (e ▸ hf)).trans (h.2 k hk)⟩

theorem OnlyKeys.ite {ks : List Nat} {r a b : State} {c : Prop} [Decidable c] (h : OnlyKeys ks r a)
    (g : OnlyKeys ks r b) : OnlyKeys ks r (if c then a else b) := by
  split <;> assumption

theorem OnlyKeys.when {ks : List Nat} {r s : State} {b : Bool} {f : State → State} (h : OnlyKeys ks r s)
    (hf : ∀ t, OnlyKeys ks r t → OnlyKeys ks r (f t)) : OnlyKeys ks r (s.when b f) :=
  (hf s h).ite h

theorem OnlyKeys.clearFields {ks : List Nat} {r s : State} {p : Page} {fs : List Field} (h : OnlyKeys ks r s)
    (hf : ∀ f ∈ fs, key p f ∈ ks := by decide) : OnlyKeys ks r (s.clearFields p fs) := by
  unfold State.clearFields
  induction fs generalizing s with
  | nil => exact h
  | cons f fs ih => exact ih (h.wr (hf f (by simp))) fun g hg => hf g (by simp [hg])

/-- A part of the state that is not its registers is the same. -/
theorem OnlyKeys.part {α : Type} {ks : List Nat} {s t : State} (h : OnlyKeys ks s t) (g : State → α)
    (hg : ∀ (u : State) x, g { u with regs := x } = g u := by exact fun _ _ => rfl) : g t = g s := by
  rw [h.1]; exact hg _ _

/-- A change of registers at the keys `ks` spares every other key. -/
theorem State.Spares.only {k : Nat} {ks : List Nat} {r s t : State} (h : r.Spares k s) (g : OnlyKeys ks s t)
    (hk : k ∉ ks) : r.Spares k t :=
  h.trans ⟨g.2 k hk, g.part State.dram, g.part State.flash, g.part State.otp, g.part State.aonRam⟩

/-! ### Interrupts -/

/-- The keys of the pending bits of the MSI-X entries. -/
def pendKey (k : Nat) : Bool := key glb GLB_MSIX_PENDING ≤ k && k < key glb GLB_MSIX_PENDING + 1024

/-- The places in a page of the fields that raising a source sets, but for the SRC bits: the other header registers, the
effective severities, and the time of the grace timer. -/
def errBit (b : Nat) : Bool :=
  (b < 0x400 && !(0x100 ≤ b && b < 0x110)) || (0x10000000 ≤ b && b < 0x10000200) || b == 0x10000000 + 32000

/-- The keys that raising a source of page `p` may set, but for the SRC bits. -/
def errKey (p : Page) (k : Nat) : Bool := (8 * p.base ≤ k && errBit (k - 8 * p.base)) || pendKey k

theorem pendKey_of_errKey {p : Page} {k : Nat} (h : errKey p k = false) : pendKey k = false :=
  (Bool.or_eq_false_iff.1 h).2

theorem errKey_key (p : Page) {f : Field} (h : errBit f.bit = true) : errKey p (key p f) = true := by
  simp [errKey, key, h]

section
variable {k : Nat} {r s : State} {p : Page}

theorem State.Spares.wr_err {f : Field} {v : Nat} (h : r.Spares k s) (hk : errKey p k = false)
    (hf : errBit f.bit = true := by decide) : r.Spares k (s.wr p f v) :=
  h.wr fun e => by rw [e, errKey_key p hf] at hk; cases hk

theorem State.Spares.sendMsix {d e : Nat} (h : r.Spares k s) (hk : pendKey k = false) (hd : d < 2) (he : e < 512) :
    r.Spares k (s.sendMsix d e) := by
  have hp : r.Spares k (s.wr glb (GLB_MSIX_PENDING.nth (512 * d + e)) 1) := h.wr fun eq => by
    simp [pendKey, eq, key, Field.nth, GLB_MSIX_PENDING, Field.intBits] at hk
    omega
  unfold State.sendMsix
  exact State.Spares.ite (h.ite (hp.ite (h.same rfl rfl rfl rfl rfl)))
    (h.ite (State.Spares.ite (h.same rfl rfl rfl rfl rfl) hp))

theorem State.Spares.setInt {i : Nat} (h : r.Spares k s) (hk : pendKey k = false) (hi : k ≠ key p (PG_INT i)) :
    r.Spares k (s.setInt p i) :=
  (h.wr hi).when fun _ ht => ht.ite (ht.sendMsix hk (Nat.mod_lt _ (by decide)) (Nat.mod_lt _ (by decide)))

/-! ### Error sources -/

theorem State.Spares.captureErr {n v : Nat} (h : r.Spares k s) (hk : errKey p k = false) :
    r.Spares k (s.captureErr p n v) :=
  (((((h.wr_err hk).wr_err hk).wr_err hk).wr_err hk).wr_err hk).wr_err hk

theorem State.Spares.graceUpdate (h : r.Spares k s) (hk : errKey p k = false) : r.Spares k (s.graceUpdate p) :=
  (h.ite ((h.wr_err hk).wr_err hk)).ite (h.wr_err hk)

theorem errBit_esc : ∀ n < 16, errBit (PG_ERR_STATUS_ESC.nth n).bit = true := by
  decide

theorem errBit_effSev : ∀ n < 16, errBit (PG_EFF_SEV.nth n).bit = true := by
  decide

variable {reset : State → Page → State} {n : Nat}

/-- Escalation spares what the effects of the page's severities spare. -/
theorem State.Spares.escalateBy (h : r.Spares k s) (hk : errKey p k = false) (hn : n < 16)
    (hs : ∀ (q t : State) (v : Nat), v ≤ capSev p → q.Spares k t → q.Spares k (t.sevEffect reset p n v)) :
    r.Spares k (s.escalateBy reset p n) := by
  have he : r.Spares k (s.wr p (PG_ERR_STATUS_ESC.nth n) 1) := h.wr_err hk (errBit_esc _ hn)
  unfold State.escalateBy
  simp only
  split
  · exact he
  · rename_i hv
    exact (hs _ _ _ (by omega) ((he.wr_err hk (errBit_effSev _ hn)).when fun _ ht => ht.wr_err hk)).graceUpdate hk

/-- Raising a source sets its SRC bit, if it is not set, and spares what the effects of the page's severities spare. -/
theorem State.raiseBy_spares (hk : errKey p k = false) (hn : n < 16)
    (hs : ∀ (q t : State) (v : Nat), v ≤ capSev p → q.Spares k t → q.Spares k (t.sevEffect reset p n v)) :
    (s.is p (PG_ERR_STATUS_SRC.nth n) = true ∧ s.Spares k (s.raiseBy reset p n)) ∨
      (s.wr p (PG_ERR_STATUS_SRC.nth n) 1).Spares k (s.raiseBy reset p n) := by
  unfold State.raiseBy
  simp only
  split
  · rename_i hsrc
    have hc : s.Spares k (s.when (s.captured p n) fun s => s.count p PG_ERR_FIRST_COUNT) :=
      (State.Spares.refl k s).when fun _ ht => ht.wr_err hk
    exact .inl ⟨hsrc, (hc.when fun _ ht => ht.wr_err hk).ite (hc.escalateBy hk hn hs)⟩
  · exact .inr ((hs _ _ _ (Nat.min_le_right _ _) (((State.Spares.refl k _).wr_err hk (errBit_effSev _ hn)).when
      fun _ ht => ht.captureErr hk)).graceUpdate hk)

/-- Raising a source spares what the effects of the page's severities spare, but for its SRC bit. -/
theorem State.Spares.raiseBy (h : r.Spares k s) (hk : errKey p k = false) (hn : n < 16)
    (hsrc : k ≠ key p (PG_ERR_STATUS_SRC.nth n))
    (hs : ∀ (q t : State) (v : Nat), v ≤ capSev p → q.Spares k t → q.Spares k (t.sevEffect reset p n v)) :
    r.Spares k (s.raiseBy reset p n) := by
  rcases State.raiseBy_spares (s := s) hk hn hs with ⟨-, g⟩ | g
  · exact h.trans g
  · exact (h.wr hsrc).trans g

/-- The SRC bits of a page are none of the keys that raising a source sets besides. -/
theorem errKey_src (hp : p.base < 0x2000000) (hn : n < 16) : errKey p (key p (PG_ERR_STATUS_SRC.nth n)) = false := by
  simp [errKey, errBit, pendKey, key, Field.nth, PG_ERR_STATUS_SRC, GLB_MSIX_PENDING, Field.arr, Field.intBits, glb,
    Page.base, PageKind.place] at *
  omega

/-- On a page whose highest level is Notify a source neither contains nor resets (R422). -/
theorem State.Spares.sevEffect_notify {v : Nat} (h : r.Spares k s) (hp : p.kind.info.notifyCap = true)
    (hk : errKey p k = false) (hv : v ≤ capSev p) : r.Spares k (s.sevEffect reset p n v) := by
  have hv : v ≤ 1 := by simpa [capSev, hp] using hv
  unfold State.sevEffect
  rw [if_neg (by omega), if_neg (by omega)]
  exact h.when fun _ hu => hu.setInt (pendKey_of_errKey hk) fun e => by
    rw [e, errKey_key p (by decide)] at hk; cases hk

theorem State.Spares.raise_notify (h : r.Spares k s) (hp : p.kind.info.notifyCap = true) (hk : errKey p k = false)
    (hn : n < 16) (hsrc : k ≠ key p (PG_ERR_STATUS_SRC.nth n)) : r.Spares k (s.raise p n) :=
  h.raiseBy hk hn hsrc fun _ _ _ hv ht => ht.sevEffect_notify hp hk hv

/-- A source that was raised is pending (R51). -/
theorem State.is_raise_notify (s : State) (hp : p.kind.info.notifyCap = true) (hb : p.base < 0x2000000) (hn : n < 16) :
    (s.raise p n).is p (PG_ERR_STATUS_SRC.nth n) = true := by
  have hk := errKey_src hb hn
  rcases State.raiseBy_spares (s := s) (reset := State.softReset) hk hn fun _ _ _ hv ht =>
    ht.sevEffect_notify hp hk hv with ⟨hsrc, g⟩ | g
  · exact g.is.trans hsrc
  · exact g.is.trans (by rw [State.is_wr_self]; rfl)

end

/-! ### Block soft reset -/

/-- The key of a register that neither a block soft reset of a page nor an error that begins one sets: `p` is a page of
no shadowed settings, and its reset leaves alone what its block holds besides. -/
structure SparedByReset (p : Page) (k : Nat) : Prop where
  kind : p.kind ∉ [PageKind.sw, .disp, .almSh, .link]
  err : errKey p k = false
  cls : clsOfKey k ≠ some (p, .block)
  shadow : shFields p = []
  data : ∀ s : State, s.Spares k (s.resetBlockData p)

theorem sparedByReset_bist {k : Nat} (he : errKey bist k = false) (hc : clsOfKey k ≠ some (bist, .block)) :
    SparedByReset bist k :=
  ⟨by decide, he, hc, by decide, fun s => State.Spares.refl k s⟩

/-- The keys of the BIST page that the end of a slice's test or a reset that waits for it sets. -/
def sliceKeys : List Nat :=
  [BIST_SLICE_STS_RUN_BUSY, BIST_SLICE_STS_RUNNING, BIST_SLICE_STS_PHASE, BIST_IS_RUN, BIST_SLICE_STS_SLICE,
    BIST_CNT_ABORT, BIST_RESET_DUE, PG_ERR_STATUS_SRC.nth 2].map (key bist)

section
variable {k : Nat} {r s : State} {p : Page} {n : Nat} {reset : State → Page → State}

theorem State.Spares.resetPage (h : r.Spares k s) (hp : SparedByReset p k) : r.Spares k (s.resetPage p) := by
  obtain ⟨hkind, hk, hcls, hsh, hdata⟩ := hp
  simp only [List.mem_cons, not_or] at hkind
  obtain ⟨-, -, halm, hlink, -⟩ := hkind
  have harm : r.Spares k (s.resetArm p) := by
    unfold State.resetArm
    simp only [hsh, halm, hlink, decide_false, Bool.false_and, State.when_false]
    exact State.Spares.wr_err (h.when fun _ ht => ht) hk
  have hwhere : r.Spares k ((s.resetArm p).resetWhere fun q c => q = p && c = .block) := harm.resetWhere (by
    cases hc : clsOfKey k with
    | none => rfl
    | some x =>
      obtain ⟨q, c⟩ := x
      have hqc : ¬(q = p ∧ c = .block) := fun ⟨hq, hb⟩ => hcls (by rw [hc, hq, hb])
      simpa only [Option.all_some, Bool.not_eq_true', Bool.and_eq_false_iff, decide_eq_false_iff_not,
        Decidable.not_and_iff_or_not] using hqc)
  exact h.ite (((hwhere.trans (hdata _)).wr_err hk).wr_err hk)

/-- The effect of a severity spares what the page's reset spares. -/
theorem State.Spares.sevEffect {v : Nat} (h : r.Spares k s) (hp : SparedByReset p k)
    (hr : ∀ t, r.Spares k t → r.Spares k (reset t p)) : r.Spares k (s.sevEffect reset p n v) := by
  obtain ⟨hkind, hk, -⟩ := hp
  simp only [List.mem_cons, not_or] at hkind
  have hint : r.Spares k (s.when (1 ≤ v) fun s => s.setInt p intErr) := h.when fun _ ht =>
    ht.setInt (pendKey_of_errKey hk) fun e => by rw [e, errKey_key p (by decide)] at hk; cases hk
  have hcont : ∀ t, r.Spares k t → r.Spares k (t.contain p n) := fun t ht => by
    unfold State.contain
    split
    · simp_all
    · simp_all
    · exact ht.wr_err hk
  exact State.Spares.ite (hcont _ hint) ((hr _ hint).ite hint)

theorem State.Spares.sliceAbort (h : r.Spares k s) (hb : SparedByReset bist k) (hk : k ∉ sliceKeys) :
    r.Spares k s.sliceAbort := by
  have hidle : r.Spares k s.sliceIdle := State.Spares.wr_mem
    (State.Spares.clearFields (h.when fun _ ht => ht.wr_mem hk) fun hm =>
      hk (List.Sublist.subset (by decide) hm)) hk
  have hcount : r.Spares k (s.sliceIdle.count bist BIST_CNT_ABORT) := hidle.wr_mem hk
  refine State.Spares.ite (hcount.when fun _ ht => State.Spares.wr_err (ht.wr_err hb.err) hb.err) ?_
  exact hcount.raiseBy hb.err (by decide) (fun e => hk (e ▸ by decide)) fun _ _ _ _ ht =>
    ht.sevEffect hb fun _ hu => hu.resetPage hb

theorem State.Spares.softReset (h : r.Spares k s) (hp : SparedByReset p k) (hb : SparedByReset bist k)
    (hk : k ∉ sliceKeys) : r.Spares k (s.softReset p) :=
  State.Spares.ite (h.wr_mem hk) (h.ite ((h.when fun _ ht => ht.sliceAbort hb hk).resetPage hp))

/-- Raising a source spares what a block soft reset spares, but for its SRC bit. -/
theorem State.Spares.raise (h : r.Spares k s) (hp : SparedByReset p k) (hb : SparedByReset bist k) (hk : k ∉ sliceKeys)
    (hn : n < 16) (hsrc : k ≠ key p (PG_ERR_STATUS_SRC.nth n)) : r.Spares k (s.raise p n) :=
  h.raiseBy hp.err hn hsrc fun _ _ _ _ ht => ht.sevEffect hp fun _ hu =>
    hu.softReset hp hb hk

end

/-! ### Reads after writes -/

/-- A value that fits reads back as it was written. -/
theorem State.rd_wr_fit (s : State) (p : Page) {f : Field} {v : Nat} (h : v < 2 ^ f.len) : (s.wr p f v).rd p f = v := by
  rw [State.rd_wr_self, Nat.mod_eq_of_lt h]

theorem testBit_add_two_pow {v i : Nat} (h : v.testBit i = false) : (v + 2 ^ i).testBit i = true := by
  rw [Nat.add_comm, Nat.testBit_two_pow_add_eq, h]; rfl

theorem testBit_sub_two_pow {v i : Nat} (h : v.testBit i = true) : (v - 2 ^ i).testBit i = false := by
  have hv := Nat.testBit_two_pow_add_eq (v - 2 ^ i) i
  rwa [Nat.add_sub_cancel' (Nat.ge_two_pow_of_testBit h), h, eq_comm, Bool.not_eq_true'] at hv

theorem setBit_testBit (v i : Nat) (b : Bool) : (setBit v i b).testBit i = b := by
  cases b with
  | true =>
    cases h : v.testBit i with
    | true => simp [setBit, h]
    | false => simp [setBit, h, testBit_add_two_pow h]
  | false =>
    cases h : v.testBit i with
    | true => simp [setBit, h, testBit_sub_two_pow h]
    | false => simp [setBit, h]

/-- A bit of a field that was set or cleared. -/
theorem State.rdBit_wrBit_self (s : State) (p : Page) {f : Field} {i : Nat} (b : Bool) (hi : i < f.len) :
    (s.wrBit p f i b).rdBit p f i = b := by
  unfold State.rdBit State.wrBit
  rw [State.rd_wr_self, Nat.testBit_mod_two_pow, setBit_testBit]
  simp [hi]

/-- A field that a reset loses reads as its reset value. -/
theorem State.rd_resetWhere_lost (s : State) {q : Page → Cls → Bool} {p : Page} {f : Field}
    (h : (clsOfKey (key p f)).any (fun x => q x.1 x.2) = true) : (s.resetWhere q).rd p f = f.rst := by
  unfold State.rd State.resetWhere
  rw [Tab.find_keep, if_neg]
  · rfl
  · cases hc : clsOfKey (key p f) with
    | none => simp [hc] at h
    | some x => simpa [hc] using h

/-! ### What the steps of a reset spare -/

/-- The keys that the record of a reset sets. -/
def recordKeys : List Nat := [GLB_RST_CAUSE_VALID, GLB_RST_CAUSE_LAST, GLB_RST_CAUSE_SRC].map (key glb)

/-- The keys of the enables of the supply groups. -/
def driveKeys : List Nat := [AON_LVL_CORE, AON_LVL_IO, AON_LVL_SAFE].map (key aon)

/-- The keys that the end of a power-state entry or exit sets besides. -/
def sequenceKeys : List Nat :=
  [AON_ENT_STEP, AON_ENT_TARGET, AON_ENT_FORCED, AON_ENT_THERM, AON_EXIT_WAIT, AON_EXIT_TRIED, AON_PINS_FLOAT,
    AON_PS_STATUS_STATE].map (key aon)

/-- The keys that powering the islands sets. -/
def powerKeys : List Nat :=
  [GLB_ISL_PWR_PWR, GLB_ISL_CLK_CLK_OK, GLB_ISL_RST_IN_RESET, GLB_LBIST_RUNNING].map (key glb) ++
  [BIST_LB_STS_RAN, BIST_LB_STS_PASS, BIST_LB_STS_RETRIED, BIST_LB_STS_SKIP_DBAT].map (key bist) ++
  [key aon AON_LBIST_DUE]

/-- The keys that loading the OTP control word sets. -/
def lockKeys : List Nat := [SEC_LOCKS_CTRL, SEC_DBG_CTRL_FAILS].map (key sec)

/-- The keys of the AON and memory fields that a pin reset sets besides AON_DRAM_LOST. -/
def pinKeys : List Nat :=
  [AON_PAD_HELD, AON_FANS_LOW, AON_WDT_TIME, AON_LBIST_DUE].map (key aon) ++ [key memp MEM_TRAINED]

/-- Does the field at a key keep its value when every island but AON and SAFE is reset (R396)? -/
def outlivesReset (k : Nat) : Bool := (clsOfKey k).all fun x => !lostByReset false x.2

theorem onlyKeys_recordReset (s : State) (last src : Nat) : OnlyKeys recordKeys s (s.recordReset last src) :=
  (((OnlyKeys.refl _ s).wr).wr).wr

theorem OnlyKeys.drive {ks : List Nat} {r s : State} {g : Nat} {on : Bool} (h : OnlyKeys ks r s)
    (hk : ∀ k ∈ driveKeys, k ∈ ks) : OnlyKeys ks r (s.drive g on) := by
  unfold State.drive
  refine h.when fun _ ht => ?_
  split <;> exact ht.wr (hk _ (by decide))

/-- The end of a sequence, but for the enables it drives. -/
theorem onlyKeys_endSequence (s : State) : OnlyKeys (sequenceKeys ++ driveKeys) s s.endSequence :=
  (((OnlyKeys.wr (OnlyKeys.refl _ s).clearFields).drive (by decide)).drive (by decide)).drive (by decide)

/-- The sequencer restarts from D0 (R395). -/
theorem State.endSequence_ps (s : State) : s.endSequence.ps = 0 := by
  have hd : ∀ (t : State) g on, (t.drive g on).ps = t.ps := fun t _ _ =>
    ((State.Spares.refl _ t).only ((OnlyKeys.refl driveKeys t).drive (by decide)) (by decide)).rd
  unfold State.endSequence
  simp only [hd]
  exact State.rd_wr_fit _ _ (by decide)

theorem onlyKeys_loadLocks (s : State) : OnlyKeys lockKeys s s.loadLocks := ((OnlyKeys.refl _ s).wr).wr

theorem OnlyKeys.lbistStart {r s : State} (h : OnlyKeys powerKeys r s) : OnlyKeys powerKeys r s.lbistStart := by
  have hc := (h.clearFields (p := bist)
    (fs := [BIST_LB_STS_RAN, BIST_LB_STS_PASS, BIST_LB_STS_RETRIED, BIST_LB_STS_SKIP_DBAT])).wr (p := aon)
    (f := AON_LBIST_DUE) (v := 0)
  exact hc.ite (OnlyKeys.ite hc.wr hc.wr)

theorem onlyKeys_powerIslands (s : State) : OnlyKeys powerKeys s s.powerIslands := by
  have hs : OnlyKeys powerKeys s (if 256 ≤ s.rd aon AON_SUPPLY_STS_IN_RANGE then s else s.stopIsland 1) :=
    (OnlyKeys.refl _ s).ite (OnlyKeys.wr (OnlyKeys.wr (OnlyKeys.wr (OnlyKeys.refl _ s))))
  unfold State.powerIslands
  simp only
  exact OnlyKeys.ite hs.wr (OnlyKeys.lbistStart hs.wr)

/-- What the islands other than AON and SAFE lose spares the classes that outlive a reset (R396). -/
theorem State.Spares.wipe {k : Nat} {r s : State} (h : r.Spares k s) (hk : outlivesReset k = true) :
    r.Spares k (s.wipe false) :=
  (h.resetWhere (q := fun _ c => lostByReset false c) hk).same rfl rfl rfl rfl rfl

/-- A reset's cause shows (R398). -/
theorem State.recordReset_shows (s : State) {last src : Nat} (hl : last < 16) (hs : src < 8) :
    (s.recordReset last src).rd glb GLB_RST_CAUSE_LAST = last ∧
      (s.recordReset last src).rd glb GLB_RST_CAUSE_SRC = src := by
  unfold State.recordReset
  exact ⟨(State.rd_wr_ne _ _ (by decide)).trans (State.rd_wr_fit _ _ hl), State.rd_wr_fit _ _ hs⟩

theorem initCode_lt (who : Initiator) : initCode who < 8 := by cases who <;> decide

/-- A counter of a byte counts one more. -/
theorem State.rd_count_byte (s : State) {p : Page} {f : Field} (hf : f.len = 8) (h : s.rd p f < 255) :
    (s.count p f).rd p f = s.rd p f + 1 :=
  State.rd_count_self s p f (by rw [hf]; omega)

/-! ### Pin and chip resets -/

/-- What a pin reset does once it has lost the DRAM contents. -/
theorem State.pinReset_spares (s : State) {k last : Nat} (hk : k ∉ pinKeys ++ lockKeys ++ powerKeys) :
    (((s.recordReset last 0).endSequence.wipe false).wr aon AON_DRAM_LOST 1).Spares k (s.pinReset last) := by
  simp only [List.mem_append, not_or] at hk
  obtain ⟨⟨hp, hl⟩, hi⟩ := hk
  unfold State.pinReset
  simp only
  exact ((((((State.Spares.refl _ _).wr_mem hp).wr_mem hp).wr_mem hp).wr_mem hp).wr_mem hp).only
    (onlyKeys_loadLocks _) hl |>.only (onlyKeys_powerIslands _) hi

/-- A pin reset spares what it neither loses nor sets (R394, R396). -/
theorem State.Spares.pinReset {k last : Nat} {r s : State} (h : r.Spares k s) (ho : outlivesReset k = true)
    (hr : k ∉ recordKeys ++ (sequenceKeys ++ driveKeys) ++ [key aon AON_DRAM_LOST])
    (hk : k ∉ pinKeys ++ lockKeys ++ powerKeys) : r.Spares k (s.pinReset last) := by
  rw [List.mem_append, List.mem_append, not_or, not_or] at hr
  obtain ⟨⟨hr, hs⟩, hd⟩ := hr
  exact ((((h.only (onlyKeys_recordReset _ _ _) hr).only (onlyKeys_endSequence _) hs).wipe ho).wr_mem hd).trans
    (s.pinReset_spares hk)

/-- A pin reset leaves the hub in D0, its cause recorded, the DRAM contents lost and the outputs empty (R394, R395). -/
theorem State.pinReset_shows (s : State) {last : Nat} (hl : last < 16) :
    (s.pinReset last).ps = 0 ∧ (s.pinReset last).rd glb GLB_RST_CAUSE_LAST = last ∧
      (s.pinReset last).rd aon AON_DRAM_LOST = 1 ∧ (s.pinReset last).disps = [] := by
  refine ⟨?_, ?_, ?_, ?_⟩
  · exact (((((State.Spares.refl _ _).wipe (by decide)).wr (by decide)).trans (s.pinReset_spares (by decide))).rd).trans
      (s.recordReset last 0).endSequence_ps
  · exact ((((((State.Spares.refl _ _).only (onlyKeys_endSequence _) (by decide)).wipe (by decide)).wr
      (by decide)).trans (s.pinReset_spares (by decide))).rd).trans (s.recordReset_shows hl (by decide)).1
  · exact ((s.pinReset_spares (by decide)).rd).trans (State.rd_wr_fit _ _ (by decide))
  · unfold State.pinReset
    simp only
    rw [(onlyKeys_powerIslands _).part State.disps]
    rfl

/-- What a chip software reset does once the sequencer has restarted. -/
theorem State.chipReset_restarted (s : State) {k : Nat} (who : Initiator) (ho : outlivesReset k = true)
    (hk : k ∉ key aon AON_WDT_TIME :: powerKeys) :
    ((s.recordReset 3 (initCode who)).count glb GLB_RST_CNT_CHIP).endSequence.Spares k (s.chipReset who) := by
  rw [List.mem_cons, not_or] at hk
  exact (((State.Spares.refl _ _).wipe ho).wr hk.1).only (onlyKeys_powerIslands _) hk.2

/-- A chip software reset spares what it neither loses nor sets, once it is recorded and counted (R394, R396). -/
theorem State.chipReset_spares (s : State) {k : Nat} (who : Initiator) (ho : outlivesReset k = true)
    (hs : k ∉ sequenceKeys ++ driveKeys) (hk : k ∉ key aon AON_WDT_TIME :: powerKeys) :
    ((s.recordReset 3 (initCode who)).count glb GLB_RST_CNT_CHIP).Spares k (s.chipReset who) :=
  ((State.Spares.refl _ _).only (onlyKeys_endSequence _) hs).trans (s.chipReset_restarted who ho hk)

/-- A chip software reset leaves the hub in D0, recorded and counted, and keeps the memories (R394, R395). -/
theorem State.chipReset_shows (s : State) (who : Initiator) (h : s.rd glb GLB_RST_CNT_CHIP < 255) :
    (s.chipReset who).ps = 0 ∧ (s.chipReset who).rd glb GLB_RST_CAUSE_LAST = 3 ∧
      (s.chipReset who).rd glb GLB_RST_CAUSE_SRC = initCode who ∧
      (s.chipReset who).rd glb GLB_RST_CNT_CHIP = s.rd glb GLB_RST_CNT_CHIP + 1 ∧ (s.chipReset who).dram = s.dram ∧
      (s.chipReset who).aonRam = s.aonRam := by
  obtain ⟨hlast, hsrc⟩ := s.recordReset_shows (last := 3) (by decide) (initCode_lt who)
  have hcnt : (s.recordReset 3 (initCode who)).rd glb GLB_RST_CNT_CHIP = s.rd glb GLB_RST_CNT_CHIP :=
    ((State.Spares.refl _ s).only (onlyKeys_recordReset _ _ _) (by decide)).rd
  have hkept := s.chipReset_spares (k := key glb GLB_RST_CNT_CHIP) who (by decide) (by decide) (by decide)
  refine ⟨?_, ?_, ?_, ?_, hkept.dram, hkept.aonRam⟩
  · exact (s.chipReset_restarted who (by decide) (by decide)).rd.trans (State.endSequence_ps _)
  · exact ((s.chipReset_spares who (by decide) (by decide) (by decide)).rd).trans
      (((State.Spares.refl _ _).count (by decide)).rd.trans hlast)
  · exact ((s.chipReset_spares who (by decide) (by decide) (by decide)).rd).trans
      (((State.Spares.refl _ _).count (by decide)).rd.trans hsrc)
  · exact hkept.rd.trans ((State.rd_count_byte _ rfl (hcnt ▸ h)).trans (by rw [hcnt]))

/-! ### MGMT reset -/

/-- The classes that an MGMT reset loses: measurements and what a start of the boot ROM rewrites, and the MBX pages. -/
def lostByMgmtReset (p : Page) (c : Cls) : Bool :=
  c = .meas || c = .boot || ((p.kind = .mbx || p.kind = .mbch) && (c = .ordinary || c = .block))

/-- What an MGMT reset does once it has lost those classes: the test of an MGMT slice is cut short, and MGMT is held in
reset. -/
def State.holdMgmt (s : State) : State :=
  let s := s.when (s.sliceIn fun g => groupIsland g = 2) State.sliceAbort
  let s := { s with events := [], heldReqs := [], hopq := [], spdm := [], cfg := [] }
  ((s.wr glb GLB_MOABEUC_HALTED 0).setRst 2 true).wr aon AON_WDT_TIME s.clock

theorem State.mgmtReset_eq (s : State) (last src : Nat) : s.mgmtReset last src =
    (((s.recordReset last src).count glb GLB_RST_CNT_MGMT).resetWhere lostByMgmtReset).holdMgmt := rfl

/-- The keys that an MGMT reset sets in the end. -/
def mgmtKeys : List Nat := [key glb GLB_MOABEUC_HALTED, key glb GLB_ISL_RST_IN_RESET, key aon AON_WDT_TIME]

theorem State.Spares.holdMgmt {k : Nat} {r s : State} (h : r.Spares k s) (hb : SparedByReset bist k)
    (hs : k ∉ sliceKeys) (hk : k ∉ mgmtKeys) : r.Spares k s.holdMgmt := by
  have ha : r.Spares k (s.when (s.sliceIn fun g => groupIsland g = 2) State.sliceAbort) :=
    h.when fun _ ht => ht.sliceAbort hb hs
  exact State.Spares.wr_mem (State.Spares.wr_mem (State.Spares.wr_mem (ha.same rfl rfl rfl rfl rfl) hk) hk) hk

/-- MGMT is in reset. -/
theorem State.holdMgmt_inReset (s : State) : s.holdMgmt.rdBit glb GLB_ISL_RST_IN_RESET 2 = true := by
  unfold State.holdMgmt State.setRst State.rdBit
  rw [State.rd_wr_ne _ _ (by decide)]
  exact State.rdBit_wrBit_self _ _ _ (by decide)

/-- A field that an MGMT reset neither loses nor sets. -/
def outlivesMgmtReset (k : Nat) : Bool :=
  (clsOfKey k).all (fun x => !lostByMgmtReset x.1 x.2) && !errKey bist k && clsOfKey k != some (bist, .block) &&
    !sliceKeys.contains k && !mgmtKeys.contains k

theorem State.mgmtReset_keeps (s : State) {k last src : Nat} (hk : outlivesMgmtReset k = true) :
    ((s.recordReset last src).count glb GLB_RST_CNT_MGMT).Spares k (s.mgmtReset last src) := by
  simp only [outlivesMgmtReset, Bool.and_eq_true, Bool.not_eq_true', bne_iff_ne, List.contains_eq_mem,
    decide_eq_false_iff_not] at hk
  obtain ⟨⟨⟨⟨hc, he⟩, hb⟩, hs⟩, hm⟩ := hk
  exact ((State.Spares.refl _ _).resetWhere hc).trans
    ((State.Spares.refl _ _).holdMgmt (sparedByReset_bist he hb) hs hm)

/-- An MGMT reset is recorded and counted, stops Moabeuc, holds MGMT in reset and keeps the DRAM (R394, R395). -/
theorem State.mgmtReset_shows (s : State) {last src : Nat} (hl : last < 16) (hsrc : src < 8) :
    (s.mgmtReset last src).rd glb GLB_RST_CAUSE_LAST = last ∧ (s.mgmtReset last src).rd glb GLB_RST_CAUSE_SRC = src ∧
      (s.mgmtReset last src).islandUp 2 = false ∧ (s.mgmtReset last src).moabeuc = false ∧
      (s.mgmtReset last src).dram = s.dram := by
  obtain ⟨hlast, hsrc⟩ := s.recordReset_shows hl hsrc
  have hkept := s.mgmtReset_keeps (k := key glb GLB_RST_CAUSE_LAST) (last := last) (src := src) (by decide)
  refine ⟨?_, ?_, ?_, ?_, hkept.dram⟩
  · exact hkept.rd.trans (((State.Spares.refl _ _).count (by decide)).rd.trans hlast)
  · exact (s.mgmtReset_keeps (by decide)).rd.trans (((State.Spares.refl _ _).count (by decide)).rd.trans hsrc)
  · simp [State.islandUp, State.mgmtReset_eq, State.holdMgmt_inReset]
  · have hfw : (s.mgmtReset last src).rd mbx MB_FW_FW_READY = 0 :=
      ((State.Spares.refl _ _).holdMgmt (sparedByReset_bist (by decide) (by decide)) (by decide) (by decide)).rd.trans
        (State.rd_resetWhere_lost _ (by decide))
    simp [State.moabeuc, State.is, hfw]

/-! ### Straps -/

/-- The keys of the strap register. -/
def strapKeys : List Nat := [GLB_STRAP_ROLE, GLB_STRAP_BOOT, GLB_STRAP_DBAT, GLB_STRAP_STRAP_ERR].map (key glb)

/-- What an error of the GLB page reports is not seen elsewhere. -/
theorem State.Spares.raise_glb {k n : Nat} {r s : State} (h : r.Spares k s) (hk : errKey glb k = false)
    (hn : n < 16) (hs : k ≠ key glb (PG_ERR_STATUS_SRC.nth n)) : r.Spares k (s.raise glb n) :=
  h.raise_notify rfl hk hn hs

/-- The strap register takes what was sampled. -/
def State.latchStraps (s : State) (role : Nat) (b d : Bool) (e : Nat) : State :=
  (((s.wr glb GLB_STRAP_ROLE role).wr glb GLB_STRAP_BOOT (if b then 1 else 0)).wr glb GLB_STRAP_DBAT
    (if d then 1 else 0)).wr glb GLB_STRAP_STRAP_ERR e

theorem State.sampleStraps_eq (s : State) (role : Nat) (b d : Bool) : s.sampleStraps role b d =
    if role = 3 then (s.latchStraps role b d 1).raise glb 1 else s.latchStraps role b d 0 := rfl

theorem onlyKeys_latchStraps (s : State) (role : Nat) (b d : Bool) (e : Nat) :
    OnlyKeys strapKeys s (s.latchStraps role b d e) :=
  ((((OnlyKeys.refl _ s).wr).wr).wr).wr

theorem State.latchStraps_shows (s : State) (role : Fin 4) (b d : Bool) {e : Nat} (he : e < 2) :
    (s.latchStraps role b d e).rd glb GLB_STRAP_ROLE = role ∧
      (s.latchStraps role b d e).rd glb GLB_STRAP_BOOT = (if b then 1 else 0) ∧
      (s.latchStraps role b d e).rd glb GLB_STRAP_STRAP_ERR = e := by
  unfold State.latchStraps
  refine ⟨?_, ?_, State.rd_wr_fit _ _ he⟩
  · rw [State.rd_wr_ne _ _ (by decide), State.rd_wr_ne _ _ (by decide), State.rd_wr_ne _ _ (by decide),
      State.rd_wr_fit _ _ role.isLt]
  · rw [State.rd_wr_ne _ _ (by decide), State.rd_wr_ne _ _ (by decide), State.rd_wr_fit _ _ (by cases b <;> decide)]

theorem State.Spares.sampleStraps {k role : Nat} {b d : Bool} {r s : State} (h : r.Spares k s) (hk : k ∉ strapKeys)
    (he : errKey glb k = false) (hs : k ≠ key glb (PG_ERR_STATUS_SRC.nth 1)) :
    r.Spares k (s.sampleStraps role b d) :=
  State.Spares.ite ((h.only (onlyKeys_latchStraps _ _ _ _ _) hk).raise_glb he (by decide) hs)
    (h.only (onlyKeys_latchStraps _ _ _ _ _) hk)

/-- The straps read as they were sampled, and as an error where they are one (R1). -/
theorem State.sampleStraps_shows (s : State) (role : Fin 4) (b d : Bool) :
    (s.sampleStraps role b d).rd glb GLB_STRAP_ROLE = role ∧
      (s.sampleStraps role b d).rd glb GLB_STRAP_BOOT = (if b then 1 else 0) ∧
      (s.sampleStraps role b d).rd glb GLB_STRAP_STRAP_ERR = if role = 3 then 1 else 0 := by
  rw [State.sampleStraps_eq]
  by_cases h : role = 3
  · rw [if_pos (show role.val = 3 from congrArg Fin.val h), if_pos h]
    obtain ⟨hrole, hboot, herr⟩ := s.latchStraps_shows role b d (e := 1) (by decide)
    exact ⟨((State.Spares.refl _ _).raise_glb (by decide) (by decide) (by decide)).rd.trans hrole,
      ((State.Spares.refl _ _).raise_glb (by decide) (by decide) (by decide)).rd.trans hboot,
      ((State.Spares.refl _ _).raise_glb (by decide) (by decide) (by decide)).rd.trans herr⟩
  · rw [if_neg (fun e : role.val = 3 => h (Fin.ext e)), if_neg h]
    exact s.latchStraps_shows role b d (by decide)

/-! ### Lanes -/

section
variable {k n : Nat} {r s : State}

/-- A field of a lane page has no key outside the page. -/
theorem State.Spares.wr_lane {f : Field} {v : Nat} (h : r.Spares k s) (hn : n < 6)
    (hk : k % 0x10000000 / 0x8000 ≠ 0x100 + n) (hf : f.bit % 0x10000000 < 0x8000) :
    r.Spares k (s.wr (lane n) f v) :=
  h.wr fun e => hk (by
    simp only [e, key, lane, Page.base, PageKind.place]
    omega)

/-- An element of an array of four fields, one a pad, lies in the page. -/
theorem padField_bit {f : Field} {p : Nat} (hp : p < 4) (hf : f.bit % 0x10000000 + 3 * f.stride < 0x8000 := by decide) :
    (f.nth p).bit % 0x10000000 < 0x8000 := by
  have : p * f.stride ≤ 3 * f.stride := Nat.mul_le_mul_right _ (by omega)
  simp only [Field.nth]
  omega

theorem State.Spares.startLanes (h : r.Spares k s) (hn : n < 6) (hk : k % 0x10000000 / 0x8000 ≠ 0x100 + n) :
    r.Spares k (s.startLanes n) := by
  refine State.Spares.wr_lane (State.Spares.foldl ((h.wr_lane hn hk (by decide)).wr_lane hn hk (by decide))
    fun t p hp ht => ?_) hn hk (by decide)
  have hp : p < 4 := List.mem_range.1 hp
  exact State.Spares.wr_lane (State.Spares.wr_lane (State.Spares.wr_lane (State.Spares.wr_lane (State.Spares.wr_lane ht
    hn hk (padField_bit hp)) hn hk (padField_bit hp)) hn hk (padField_bit hp)) hn hk (padField_bit hp)) hn hk
    (padField_bit hp)

/-- Lanes that start to train are in the state from which their mode trains (R60). -/
theorem State.startLanes_state (s : State) (n : Nat) :
    (s.startLanes n).rd (lane n) LN_STATUS_STATE = trainsFrom (s.mode n) := by
  unfold State.startLanes State.setLanes
  simp only [State.rd_wr_self, trainsFrom, Bool.or_eq_true, Bool.and_eq_true, decide_eq_true_eq]
  split
  · rfl
  · split <;> rfl

/-- The lanes of a link that is down start again (R69). -/
theorem State.restartLanes_down (h : s.linkUp n = false) :
    s.restartLanes n = (s.setLanes n (s.restartState n)).startLanes n := by
  simp [State.restartLanes, h]

end

/-! ### Reference clock -/

/-- The reference clock is lost: it is raised, and the islands that run from it show (R17). -/
def State.loseReference (s : State) (m : Nat) : State := (s.raise glb 2).wr glb GLB_REFCLK_LOST m

/-- The lanes of a port that runs from the lost reference start again. -/
def State.restartLost (m : Nat) (s : State) (n : Nat) : State :=
  s.when (m.testBit n && !s.gated (lane n)) fun s => s.restartLanes n

/-- The link of a PCIe port whose island has lost its reference goes down (R17). -/
def State.dropPcieLink (s : State) (l : Nat) : State :=
  s.when (s.is pcie (PE_LINK_STS_DL_ACTIVE.nth l)) fun s =>
    ((s.wr pcie (PE_LINK_STS_DL_ACTIVE.nth l) 0).wr pcie (PE_LINK_STS_LTSSM.nth l) 0).raise pcie 0

theorem execRefclkLoss_eq (m : Nat) (s : State) : execRefclkLoss m s =
    .next (((List.range 6).foldl (State.restartLost m) (s.loseReference m)).when (m.testBit 6) fun s =>
      (List.range 4).foldl State.dropPcieLink s) := rfl

theorem State.Spares.loseReference {k m : Nat} {r s : State} (h : r.Spares k s) (hk : errKey glb k = false)
    (hs : k ≠ key glb (PG_ERR_STATUS_SRC.nth 2)) (hr : k ≠ key glb GLB_REFCLK_LOST) : r.Spares k (s.loseReference m) :=
  (h.raise_glb hk (by decide) hs).wr hr

theorem State.loseReference_shows (s : State) (m : Fin 128) :
    (s.loseReference m).rd glb GLB_REFCLK_LOST = m ∧ (s.loseReference m).is glb (PG_ERR_STATUS_SRC.nth 2) = true :=
  ⟨State.rd_wr_fit _ _ m.isLt, ((State.Spares.refl _ _).wr (by decide)).is.trans
    (s.is_raise_notify rfl (by decide) (by decide))⟩

theorem State.loseReference_gated (s : State) (m : Nat) (p : Page) : (s.loseReference m).gated p = s.gated p :=
  State.Spares.gated (fun f hf => by
    refine (State.Spares.refl _ s).loseReference ?_ ?_ ?_ <;> revert f <;> decide) p

/-- The keys that the totals of the PCIe tables set. -/
def totalsKeys : List Nat :=
  [PCA_REQ_OUT, PCA_STATE_TAG_WAIT].map (key (pca 0)) ++ [PE_REQ_OUT, PE_POOL_FREE].map (key pcie)

/-- A field that an error of the PCIe port neither resets nor sets. -/
def outlivesPcieError (k : Nat) : Bool :=
  !errKey pcie k && clsOfKey k != some (pcie, .block) && !totalsKeys.contains k && !errKey bist k &&
    clsOfKey k != some (bist, .block) && !sliceKeys.contains k && k != key pcie (PG_ERR_STATUS_SRC.nth 0)

theorem State.Spares.pcieTotals {k : Nat} {r s : State} (h : r.Spares k s) (hk : k ∉ totalsKeys) :
    r.Spares k (s.pcieTotals 0) :=
  State.Spares.wr_mem (State.Spares.wr_mem (State.Spares.wr_mem (State.Spares.wr_mem h hk) hk) hk) hk

theorem State.Spares.raise_pcie {k : Nat} {r s : State} (h : r.Spares k s) (hk : outlivesPcieError k = true) :
    r.Spares k (s.raise pcie 0) := by
  simp only [outlivesPcieError, Bool.and_eq_true, Bool.not_eq_true', bne_iff_ne, List.contains_eq_mem,
    decide_eq_false_iff_not] at hk
  obtain ⟨⟨⟨⟨⟨⟨he, hc⟩, ht⟩, hbe⟩, hbc⟩, hs⟩, hsrc⟩ := hk
  exact h.raise ⟨by decide, he, hc, by decide, fun s => (State.Spares.refl k s).pcieTotals ht⟩
    (sparedByReset_bist hbe hbc) hs (by decide) hsrc

theorem State.Spares.dropPcieLink {k l : Nat} {r s : State} (h : r.Spares k s) (hk : outlivesPcieError k = true)
    (hd : k ≠ key pcie (PE_LINK_STS_DL_ACTIVE.nth l)) (ht : k ≠ key pcie (PE_LINK_STS_LTSSM.nth l)) :
    r.Spares k (s.dropPcieLink l) :=
  h.when fun _ hu => ((hu.wr hd).wr ht).raise_pcie hk

/-- Neither an error of the PCIe port nor the training state of one of its links is what shows a link to be up. -/
theorem pcieLinkKeys_outlive : ∀ l < 4, outlivesPcieError (key pcie (PE_LINK_STS_DL_ACTIVE.nth l)) = true ∧
    ∀ i < 4, key pcie (PE_LINK_STS_DL_ACTIVE.nth l) ≠ key pcie (PE_LINK_STS_LTSSM.nth i) := by
  decide

/-- No link of the PCIe port is brought up by the loss of a link, and the link lost is down. -/
theorem State.dropPcieLink_down (s : State) {l j : Nat} (hl : l < 4) (hj : j < 4)
    (h : l = j ∨ s.rd pcie (PE_LINK_STS_DL_ACTIVE.nth l) = 0) :
    (s.dropPcieLink j).rd pcie (PE_LINK_STS_DL_ACTIVE.nth l) = 0 := by
  obtain ⟨hk, hlt⟩ := pcieLinkKeys_outlive l hl
  by_cases e : l = j
  · subst e
    unfold State.dropPcieLink State.when
    split
    · exact (((State.Spares.refl _ _).wr (hlt l hl)).raise_pcie hk).rd.trans
        ((State.rd_wr_self _ _ _ _).trans (Nat.zero_mod _))
    · rename_i hs
      simpa [State.is] using hs
  · refine ((State.Spares.refl _ s).dropPcieLink hk (fun eq => e ?_) (hlt j hj)).rd.trans (h.resolve_left e)
    simp only [key, Field.nth, PE_LINK_STS_DL_ACTIVE, Field.arr] at eq
    omega

theorem State.dropPcieLinks_down (s : State) {l : Nat} {ls : List Nat} (hl : l < 4) (hls : ∀ j ∈ ls, j < 4)
    (h : l ∈ ls ∨ s.rd pcie (PE_LINK_STS_DL_ACTIVE.nth l) = 0) :
    (ls.foldl State.dropPcieLink s).rd pcie (PE_LINK_STS_DL_ACTIVE.nth l) = 0 := by
  induction ls generalizing s with
  | nil => simpa using h
  | cons j ls ih =>
    refine ih _ (fun i hi => hls i (by simp [hi])) ?_
    by_cases hm : l ∈ ls
    · exact .inl hm
    · exact .inr (s.dropPcieLink_down hl (hls j (by simp)) (by simpa [hm] using h))

/-! ### Power-on, pin and straps -/

/-- What a power-on leaves before anything is set: OTP, flash and DRAM bytes as they were, every register at its reset
value (R396). -/
def State.poweredOn (s : State) : State :=
  { s.dropData with regs := [], act := [], safeq := [], closers := [], stickyImg := [], aonRam := [] }

/-- A field that nothing has set reads as its reset value. -/
theorem State.rd_poweredOn (s : State) (p : Page) (f : Field) : s.poweredOn.rd p f = f.rst := rfl

/-- What a power-on sets before the islands are powered. -/
def State.powerOnSets (s : State) (r : Nat) (v low : Bool) : State :=
  let s := (s.wr aon AON_SUPPLY_STS_IN_RANGE r).wr aon AON_VCONN_IN (if v then 1 else 0)
  let s := ((s.wr aon AON_DRAM_LOST 1).wr aon AON_WDT_TIME s.clock).wr glb GLB_RESET_N_LOW (if low then 1 else 0)
  (s.wr aon AON_LBIST_DUE 1).loadLocks

theorem execPowerOnReset_eq (role : Nat) (b d : Bool) (r : Nat) (v low : Bool) (s : State) :
    execPowerOnReset role b d r v low s = .next (if low then (s.poweredOn.powerOnSets r v low).powerIslands
      else (s.poweredOn.powerOnSets r v low).powerIslands.sampleStraps role b d) := rfl

/-- The keys that a power-on sets before the islands are powered. -/
def powerOnKeys : List Nat :=
  [AON_SUPPLY_STS_IN_RANGE, AON_VCONN_IN, AON_DRAM_LOST, AON_WDT_TIME, AON_LBIST_DUE].map (key aon) ++
  [key glb GLB_RESET_N_LOW, key sec SEC_LOCKS_CTRL, key sec SEC_DBG_CTRL_FAILS]

theorem onlyKeys_powerOnSets (s : State) (r : Nat) (v low : Bool) :
    OnlyKeys powerOnKeys s (s.powerOnSets r v low) :=
  OnlyKeys.wr (OnlyKeys.wr (OnlyKeys.wr (OnlyKeys.wr (OnlyKeys.wr (OnlyKeys.wr (OnlyKeys.wr (OnlyKeys.wr
    (OnlyKeys.refl _ s))))))))

theorem State.powerOnSets_shows (s : State) (r : Fin 2048) (v low : Bool) :
    (s.powerOnSets r v low).rd aon AON_SUPPLY_STS_IN_RANGE = r ∧ (s.powerOnSets r v low).rd aon AON_DRAM_LOST = 1 ∧
      (s.powerOnSets r v low).rd glb GLB_RESET_N_LOW = if low then 1 else 0 := by
  unfold State.powerOnSets State.loadLocks
  simp only
  refine ⟨?_, ?_, ?_⟩
  · iterate 7 rw [State.rd_wr_ne _ _ (by decide)]
    exact State.rd_wr_fit _ _ r.isLt
  · iterate 5 rw [State.rd_wr_ne _ _ (by decide)]
    exact State.rd_wr_fit _ _ (by decide)
  · iterate 3 rw [State.rd_wr_ne _ _ (by decide)]
    exact State.rd_wr_fit _ _ (by cases low <;> decide)

/-- The keys of the switches of the ports. -/
def switchKeys : List Nat :=
  (List.range 6).flatMap fun n => [key safe (SP_STATE_SRC_CLOSED.nth n), key safe (SP_STATE_SNK_CLOSED.nth n)]

/-- The switches of the ports are as they were where their keys are spared. -/
theorem State.switches_of_spares {s t : State} (h : ∀ k ∈ switchKeys, s.Spares k t) :
    ∀ n, n < 6 → t.srcOn n = s.srcOn n ∧ t.snkOn n = s.snkOn n := fun n hn =>
  ⟨(h _ (List.mem_flatMap.2 ⟨n, List.mem_range.2 hn, by simp⟩)).is,
    (h _ (List.mem_flatMap.2 ⟨n, List.mem_range.2 hn, by simp⟩)).is⟩

theorem switchKeys_spared : (∀ k ∈ switchKeys, k ∉ powerOnKeys ∧ k ∉ powerKeys) ∧ ∀ k ∈ switchKeys, k ∉ strapKeys := by
  decide

/-- A power-on before the straps are sampled (R392, R396). -/
theorem State.powerOn_shows (s : State) (r : Fin 2048) (v low : Bool) {t : State}
    (ht : t = (s.poweredOn.powerOnSets r v low).powerIslands) :
    t.otp = s.otp ∧ t.flash = s.flash ∧ t.aonRam = [] ∧ t.act = [] ∧ t.ps = 0 ∧
      t.rd aon AON_SUPPLY_STS_IN_RANGE = r ∧ t.rd aon AON_DRAM_LOST = 1 ∧
      (∀ n, n < 6 → t.srcOn n = false ∧ t.snkOn n = false) ∧ t.rd glb GLB_RESET_N_LOW = (if low then 1 else 0) ∧
      t.rd glb GLB_STRAP_ROLE = 0 := by
  subst ht
  have hset := onlyKeys_powerOnSets s.poweredOn r v low
  have hpow := onlyKeys_powerIslands (s.poweredOn.powerOnSets r v low)
  obtain ⟨hrange, hdram, hlow⟩ := s.poweredOn.powerOnSets_shows r v low
  have hrd : ∀ p f, key p f ∉ powerOnKeys → key p f ∉ powerKeys →
      ((s.poweredOn.powerOnSets r v low).powerIslands).rd p f = f.rst := fun p f h1 h2 =>
    (((State.Spares.refl _ _).only hset h1).only hpow h2).rd.trans (s.rd_poweredOn p f)
  refine ⟨(hpow.part State.otp).trans (hset.part State.otp), (hpow.part State.flash).trans (hset.part State.flash),
    (hpow.part State.aonRam).trans (hset.part State.aonRam), (hpow.part State.act).trans (hset.part State.act),
    hrd _ _ (by decide) (by decide), ?_, ?_, fun n hn => ?_, ?_, hrd _ _ (by decide) (by decide)⟩
  · exact ((State.Spares.refl _ _).only hpow (by decide)).rd.trans hrange
  · exact ((State.Spares.refl _ _).only hpow (by decide)).rd.trans hdram
  · exact State.switches_of_spares (s := s.poweredOn) (fun k hk => by
      obtain ⟨h1, h2⟩ := switchKeys_spared.1 k hk
      exact ((State.Spares.refl _ _).only hset h1).only hpow h2) n hn
  · exact ((State.Spares.refl _ _).only hpow (by decide)).rd.trans hlow

/-- POWER_ON_RESET (R1, R29, R392, R396). -/
theorem powerOnReset_gives (s : State) (role : Fin 4) (b d : Bool) (r : Fin 2048) (v low : Bool) (hrole : role ≠ 3) :
    Gives (.powerOnReset role b d r v low) s fun t => t.otp = s.otp ∧ t.flash = s.flash ∧ t.aonRam = [] ∧ t.act = [] ∧
      t.ps = 0 ∧ t.rd aon AON_SUPPLY_STS_IN_RANGE = r.val ∧ t.rd aon AON_DRAM_LOST = 1 ∧
      (∀ n, n < 6 → t.srcOn n = false ∧ t.snkOn n = false) ∧
      t.rd glb GLB_RESET_N_LOW = (if low then 1 else 0) ∧ t.rd glb GLB_STRAP_ROLE = if low then 0 else role.val := by
  obtain ⟨u, hu⟩ : ∃ u, u = (s.poweredOn.powerOnSets r v low).powerIslands := ⟨_, rfl⟩
  have hshow := s.powerOn_shows r v low hu
  have hexec := execPowerOnReset_eq role b d r v low s
  rw [← hu] at hexec
  refine ⟨_, hexec, ?_⟩
  cases low with
  | true => exact hshow
  | false =>
    obtain ⟨hotp, hflash, hram, hact, hps, hrange, hdram, hsw, hlow, -⟩ := hshow
    have hstrap := onlyKeys_latchStraps u role b d 0
    have hsame : ∀ {p f}, key p f ∉ strapKeys → (u.latchStraps role b d 0).rd p f = u.rd p f := fun hk =>
      ((State.Spares.refl _ u).only hstrap hk).rd
    rw [if_neg (by decide), State.sampleStraps_eq, if_neg (fun e : role.val = 3 => hrole (Fin.ext e))]
    refine ⟨(hstrap.part State.otp).trans hotp, (hstrap.part State.flash).trans hflash,
      (hstrap.part State.aonRam).trans hram, (hstrap.part State.act).trans hact, (hsame (by decide)).trans hps,
      (hsame (by decide)).trans hrange, (hsame (by decide)).trans hdram, fun n hn => ?_, (hsame (by decide)).trans hlow,
      (State.latchStraps_shows _ role b d (by decide)).1⟩
    obtain ⟨h1, h2⟩ := State.switches_of_spares (fun k hk =>
      (State.Spares.refl _ _).only hstrap (switchKeys_spared.2 k hk)) n hn
    exact ⟨h1.trans (hsw n hn).1, h2.trans (hsw n hn).2⟩

theorem switchKeys_outlive : ∀ k ∈ switchKeys, outlivesReset k = true ∧
    k ∉ recordKeys ++ (sequenceKeys ++ driveKeys) ++ [key aon AON_DRAM_LOST] ∧ k ∉ pinKeys ++ lockKeys ++ powerKeys ∧
    k ≠ key glb GLB_RESET_N_LOW ∧ k ≠ key glb GLB_RST_CNT_PIN := by
  decide

/-- PIN_RESET (R394, R395). -/
theorem pinReset_gives (s : State) (h : s.rd glb GLB_RST_CNT_PIN < 255) :
    Gives .pinReset s fun t => t.ps = 0 ∧ t.rd glb GLB_RESET_N_LOW = 1 ∧
      t.rd glb GLB_RST_CNT_PIN = s.rd glb GLB_RST_CNT_PIN + 1 ∧ t.rd glb GLB_RST_CAUSE_LAST = 1 ∧
      t.rd aon AON_DRAM_LOST = 1 ∧ t.otp = s.otp ∧ t.flash = s.flash ∧ t.aonRam = s.aonRam ∧ t.disps = [] ∧
      ∀ n, n < 6 → t.srcOn n = s.srcOn n ∧ t.snkOn n = s.snkOn n := by
  obtain ⟨hps, hlast, hdram, hdisps⟩ := (s.count glb GLB_RST_CNT_PIN).pinReset_shows (last := 1) (by decide)
  have hkept : ∀ {k}, outlivesReset k = true →
      k ∉ recordKeys ++ (sequenceKeys ++ driveKeys) ++ [key aon AON_DRAM_LOST] →
      k ∉ pinKeys ++ lockKeys ++ powerKeys → k ≠ key glb GLB_RESET_N_LOW → (s.count glb GLB_RST_CNT_PIN).Spares k
        (((s.count glb GLB_RST_CNT_PIN).pinReset 1).wr glb GLB_RESET_N_LOW 1) := fun ho hr hk hl =>
    ((State.Spares.refl _ _).pinReset ho hr hk).wr hl
  have hcnt := hkept (k := key glb GLB_RST_CNT_PIN) (by decide) (by decide) (by decide) (by decide)
  refine ⟨((s.count glb GLB_RST_CNT_PIN).pinReset 1).wr glb GLB_RESET_N_LOW 1, rfl,
    (State.rd_wr_ne _ _ (by decide)).trans hps, State.rd_wr_fit _ _ (by decide), ?_,
    (State.rd_wr_ne _ _ (by decide)).trans hlast, (State.rd_wr_ne _ _ (by decide)).trans hdram, hcnt.otp, hcnt.flash,
    hcnt.aonRam, (State.wr_disps _ _ _ _).trans hdisps, State.switches_of_spares fun k hk => ?_⟩
  · exact hcnt.rd.trans (State.rd_count_byte _ rfl h)
  · obtain ⟨ho, hr, hp, hl, hc⟩ := switchKeys_outlive k hk
    exact ((State.Spares.refl _ _).count hc).trans (hkept ho hr hp hl)

/-- RESET_N_RELEASE (R1). -/
theorem resetNRelease_gives (s : State) (role : Fin 4) (b d : Bool) (h : s.is glb GLB_RESET_N_LOW = true) :
    Gives (.resetNRelease role b d) s fun t => t.rd glb GLB_RESET_N_LOW = 0 ∧ t.rd glb GLB_STRAP_ROLE = role.val ∧
      t.rd glb GLB_STRAP_BOOT = (if b then 1 else 0) ∧ t.rd glb GLB_STRAP_STRAP_ERR = if role = 3 then 1 else 0 := by
  refine ⟨(s.wr glb GLB_RESET_N_LOW 0).sampleStraps role b d, ?_, ?_, State.sampleStraps_shows _ role b d⟩
  · change execResetNRelease role b d s = _
    simp [execResetNRelease, h]
  · exact ((State.Spares.refl _ _).sampleStraps (by decide) (by decide) (by decide)).rd.trans
      (State.rd_wr_fit _ _ (by decide))

/-! ### Software resets and the watchdog -/

/-- CHIP_SOFTWARE_RESET (R394). -/
theorem chipSoftwareReset_gives (s : State) (who : Initiator) (k : Fin 256) (ha : s.accepts who glb GLB_SRST_CHIP) :
    (k ≠ 0xA5 → exec (.chipSoftwareReset who k) s = .next s) ∧
    (k = 0xA5 → s.rd glb GLB_RST_CNT_CHIP < 255 → Gives (.chipSoftwareReset who k) s fun t => t.ps = 0 ∧
      t.rd glb GLB_RST_CAUSE_LAST = 3 ∧ t.rd glb GLB_RST_CAUSE_SRC = initCode who ∧
      t.rd glb GLB_RST_CNT_CHIP = s.rd glb GLB_RST_CNT_CHIP + 1 ∧ t.dram = s.dram ∧ t.aonRam = s.aonRam) := by
  have hexec : exec (.chipSoftwareReset who k) s = .next (s.when (k.val = 0xA5) fun s => s.chipReset who) :=
    congrArg Host.Outcome.next (State.access_accepts (fun s => s.when (k.val = 0xA5) fun s => s.chipReset who) ha)
  refine ⟨fun hk => ?_, ?_⟩
  · have hv : k.val ≠ 0xA5 := fun e => hk (Fin.ext e)
    rw [hexec, decide_eq_false hv, State.when_false]
  · rintro rfl h
    exact ⟨_, hexec, s.chipReset_shows who h⟩

/-- MGMT_RESET (R394). -/
theorem mgmtReset_gives (s : State) (who : Initiator) (k : Fin 256) (ha : s.accepts who glb GLB_SRST_MGMT) :
    (k ≠ 0xA5 → exec (.mgmtReset who k) s = .next s) ∧
    (k = 0xA5 → s.rd glb GLB_RST_CNT_MGMT < 255 → Gives (.mgmtReset who k) s fun t =>
      t.rd glb GLB_RST_CAUSE_LAST = 4 ∧ t.rd glb GLB_RST_CAUSE_SRC = initCode who ∧ t.islandUp 2 = false ∧
      t.rd glb GLB_RST_CNT_MGMT = s.rd glb GLB_RST_CNT_MGMT + 1 ∧ t.moabeuc = false ∧ t.dram = s.dram) := by
  have hexec : exec (.mgmtReset who k) s = .next (s.when (k.val = 0xA5) fun s => s.mgmtReset 4 (initCode who)) :=
    congrArg Host.Outcome.next
      (State.access_accepts (fun s => s.when (k.val = 0xA5) fun s => s.mgmtReset 4 (initCode who)) ha)
  refine ⟨fun hk => ?_, ?_⟩
  · have hv : k.val ≠ 0xA5 := fun e => hk (Fin.ext e)
    rw [hexec, decide_eq_false hv, State.when_false]
  · rintro rfl h
    obtain ⟨hlast, hsrc, hisl, hmoab, hdram⟩ := s.mgmtReset_shows (last := 4) (by decide) (initCode_lt who)
    have hcnt : (s.recordReset 4 (initCode who)).rd glb GLB_RST_CNT_MGMT = s.rd glb GLB_RST_CNT_MGMT :=
      ((State.Spares.refl _ s).only (onlyKeys_recordReset _ _ _) (by decide)).rd
    exact ⟨_, hexec, hlast, hsrc, hisl, (s.mgmtReset_keeps (by decide)).rd.trans
      ((State.rd_count_byte _ rfl (hcnt ▸ h)).trans (by rw [hcnt])), hmoab, hdram⟩

/-- AON_WDT_EXPIRY (R394, R400). -/
theorem aonWdtExpiry_gives (s : State) (hen : s.is aon AON_WDT_EN = true) (hg : s.gated mbx = false)
    (hdue : s.rd aon AON_WDT_TIME + orOne (s.rd aon AON_WDT_TIMEOUT) * 1000000 ≤ s.clock) :
    Gives .aonWdtExpiry s fun t => t.rd glb GLB_RST_CAUSE_LAST = 5 ∧ t.rd glb GLB_RST_CAUSE_SRC = 0 ∧
      t.islandUp 2 = false ∧ t.moabeuc = false ∧ t.is aon (PG_ERR_STATUS_SRC.nth 6) = true := by
  obtain ⟨hlast, hsrc, hisl, hmoab, -⟩ := (s.raise aon 6).mgmtReset_shows (last := 5) (src := 0) (by decide) (by decide)
  refine ⟨(s.raise aon 6).mgmtReset 5 0, ?_, hlast, hsrc, hisl, hmoab, ?_⟩
  · change execAonWdtExpiry s = _
    simp [execAonWdtExpiry, hen, hg, hdue]
  · exact ((((State.Spares.refl _ _).only (onlyKeys_recordReset _ _ _) (by decide)).count (by decide)).trans
      (State.mgmtReset_keeps _ (by decide))).is.trans (s.is_raise_notify rfl (by decide) (by decide))

/-- WATCHDOG_KICK (R399). -/
theorem watchdogKick_gives (s : State) (who : Initiator) (k : Fin 4294967296)
    (ha : s.accepts who aon AON_WDT_KICK_KEY) :
    (k.val ≠ 0x5A5A → exec (.watchdogKick who k) s = .next s) ∧
    (k.val = 0x5A5A → Gives (.watchdogKick who k) s fun t => t.rd aon AON_WDT_TIME = s.clock % 2 ^ 64 ∧
      OnlyKeys [key aon AON_WDT_TIME] s t) := by
  have hexec : exec (.watchdogKick who k) s = .next (s.when (k.val = 0x5A5A) fun s => s.wr aon AON_WDT_TIME s.clock) :=
    congrArg Host.Outcome.next
      (State.access_accepts (fun s => s.when (k.val = 0x5A5A) fun s => s.wr aon AON_WDT_TIME s.clock) ha)
  refine ⟨fun hk => ?_, fun hk => ⟨s.wr aon AON_WDT_TIME s.clock, ?_, State.rd_wr_self _ _ _ _, (OnlyKeys.refl _ s).wr⟩⟩
  · rw [hexec, decide_eq_false hk, State.when_false]
  · rw [hexec, decide_eq_true hk, State.when_true]

/-! ### Supplies and the reference clock -/

/-- A fold whose steps change nothing. -/
theorem foldl_stay {α β : Type} {g : α → β → α} {a : α} {l : List β} (h : ∀ x ∈ l, g a x = a) : l.foldl g a = a := by
  induction l with
  | nil => rfl
  | cons x l ih => rw [List.foldl_cons, h x (by simp), ih fun y hy => h y (by simp [hy])]

/-- A fold of which one step alone changes anything. -/
theorem foldl_single {α β : Type} {g : α → β → α} {a : α} {l : List β} {n : β} (hl : l.Nodup) (hn : n ∈ l)
    (h : ∀ t j, j ≠ n → g t j = t) : l.foldl g a = g a n := by
  induction l with
  | nil => simp at hn
  | cons x l ih =>
    obtain ⟨hx, hl⟩ := List.nodup_cons.1 hl
    rw [List.foldl_cons]
    by_cases e : x = n
    · subst e
      exact foldl_stay fun y hy => h _ y fun e => hx (e ▸ hy)
    · rw [h a x e]
      exact ih hl ((List.mem_cons.1 hn).resolve_left (Ne.symm e))

/-- SUPPLY_LOSS of VCONN_IN (R393). -/
theorem supplyLoss_vconn_gives (s : State) :
    Gives (.supplyLoss 11) s fun t => t.rd aon AON_VCONN_IN = 0 ∧ OnlyKeys [key aon AON_VCONN_IN] s t :=
  ⟨s.wr aon AON_VCONN_IN 0, rfl, State.rd_wr_fit _ _ (by decide), (OnlyKeys.refl _ s).wr⟩

/-- SUPPLY_LOSS of a main supply in D0 to D2 (R393, R394). -/
theorem supplyLoss_main_gives (s : State) (k : Fin 12) (hk : k.val ≤ 7) (hps : s.ps ≤ 2) :
    Gives (.supplyLoss k) s fun t => t.rdBit aon AON_SUPPLY_STS_IN_RANGE k = false ∧ t.ps = 0 ∧
      t.rd glb GLB_RST_CAUSE_LAST = 2 ∧ t.rd aon AON_DRAM_LOST = 1 := by
  let u := s.wrBit aon AON_SUPPLY_STS_IN_RANGE k false
  have hu : u.ps = s.ps := State.rd_wr_ne s _ (by decide)
  obtain ⟨hps0, hlast, hdram, -⟩ := ((u.raise aon 2).count glb GLB_RST_CNT_BROWN).pinReset_shows (last := 2) (by decide)
  refine ⟨((u.raise aon 2).count glb GLB_RST_CNT_BROWN).pinReset 2, ?_, ?_, hps0, hlast, hdram⟩
  · change execSupplyLoss k s = _
    unfold execSupplyLoss State.supplyLoss
    simp only
    rw [if_neg (by omega), if_pos]
    simp [hk, show (s.wrBit aon AON_SUPPLY_STS_IN_RANGE k false).ps ≤ 2 from hu ▸ hps]
  · have hkept : u.Spares (key aon AON_SUPPLY_STS_IN_RANGE)
        (((u.raise aon 2).count glb GLB_RST_CNT_BROWN).pinReset 2) :=
      (((State.Spares.refl _ _).raise_notify rfl (by decide) (by decide) (by decide)).count (by decide)).pinReset
        (by decide) (by decide) (by decide)
    unfold State.rdBit
    rw [hkept.rd]
    exact State.rdBit_wrBit_self s aon false (by show k.val < 11; omega)

/-- REFCLK_LOSS where no port that runs from the reference is powered (R17). -/
theorem refclkLoss_gives (s : State) (m : Fin 128)
    (hg : ∀ n, n < 6 → m.val.testBit n = true → s.gated (lane n) = true) :
    Gives (.refclkLoss m) s fun t => t.rd glb GLB_REFCLK_LOST = m.val ∧ t.is glb (PG_ERR_STATUS_SRC.nth 2) = true ∧
      (m.val.testBit 6 = true → ∀ l, l < 4 → t.rd pcie (PE_LINK_STS_DL_ACTIVE.nth l) = 0) := by
  obtain ⟨hlost, hsrc⟩ := s.loseReference_shows m
  have hlanes : (List.range 6).foldl (State.restartLost m) (s.loseReference m) = s.loseReference m := by
    refine foldl_stay fun n hn => ?_
    unfold State.restartLost
    rw [State.loseReference_gated]
    cases hb : m.val.testBit n with
    | false => rfl
    | true => rw [hg n (List.mem_range.1 hn) hb]; rfl
  have hspares : ∀ {k}, outlivesPcieError k = true → (∀ l < 4, k ≠ key pcie (PE_LINK_STS_DL_ACTIVE.nth l)) →
      (∀ l < 4, k ≠ key pcie (PE_LINK_STS_LTSSM.nth l)) → (s.loseReference m).Spares k
        ((s.loseReference m).when (m.val.testBit 6) fun s => (List.range 4).foldl State.dropPcieLink s) :=
    fun hk hd ht => (State.Spares.refl _ _).when fun _ hu => hu.foldl fun _ l hl hv =>
      hv.dropPcieLink hk (hd l (List.mem_range.1 hl)) (ht l (List.mem_range.1 hl))
  refine ⟨_, (execRefclkLoss_eq m s).trans (by rw [hlanes]),
    (hspares (by decide) (by decide) (by decide)).rd.trans hlost,
    (hspares (by decide) (by decide) (by decide)).is.trans hsrc, fun h6 l hl => ?_⟩
  rw [h6, State.when_true]
  exact State.dropPcieLinks_down _ hl (fun j hj => List.mem_range.1 hj) (.inl (List.mem_range.2 hl))

/-- What decides the training of a port's lanes is none of what the loss of the reference sets. -/
theorem laneKeys_spared : ∀ n : Fin 6, ∀ f ∈ [LN_STATUS_STATE, LN_STD_UP, LN_CTRL_MODE],
    errKey glb (key (lane n) f) = false ∧ key (lane n) f ≠ key glb (PG_ERR_STATUS_SRC.nth 2) ∧
      key (lane n) f ≠ key glb GLB_REFCLK_LOST := by
  decide

/-- REFCLK_LOSS of the island of one port, whose link is down: its lanes train again (R17). -/
theorem refclkLoss_port_gives (s : State) (m : Fin 128) (n : Fin 6) (hm : m.val = 2 ^ n.val)
    (hg : s.gated (lane n) = false) (hdown : s.linkUp n = false) :
    Gives (.refclkLoss m) s fun t => t.rd glb GLB_REFCLK_LOST = m.val ∧
      t.rd (lane n) LN_STATUS_STATE = trainsFrom (s.mode n) := by
  have hkept : ∀ f ∈ [LN_STATUS_STATE, LN_STD_UP, LN_CTRL_MODE], (s.loseReference m).rd (lane n) f = s.rd (lane n) f :=
    fun f hf => by
      obtain ⟨h1, h2, h3⟩ := laneKeys_spared n f hf
      exact ((State.Spares.refl _ s).loseReference h1 h2 h3).rd
  have hup : (s.loseReference m).linkUp n = false := by
    unfold State.linkUp State.is at hdown ⊢
    rw [hkept LN_STATUS_STATE (by simp), hkept LN_STD_UP (by simp)]
    exact hdown
  have hstart : (List.range 6).foldl (State.restartLost m) (s.loseReference m) =
      (s.loseReference m).restartLanes n := by
    rw [foldl_single (n := n.val) List.nodup_range (List.mem_range.2 n.isLt) fun t j hj => ?_]
    · unfold State.restartLost
      rw [State.loseReference_gated, hg, hm, Nat.testBit_two_pow_self]
      rfl
    · unfold State.restartLost
      rw [hm, Nat.testBit_two_pow_of_ne (Ne.symm hj)]
      rfl
  have h6 : m.val.testBit 6 = false := by rw [hm, Nat.testBit_two_pow_of_ne (by omega)]
  have hpage : key glb GLB_REFCLK_LOST % 0x10000000 / 0x8000 ≠ 0x100 + n := by
    have h0 : key glb GLB_REFCLK_LOST % 0x10000000 / 0x8000 = 0 := by decide
    omega
  refine ⟨_, execRefclkLoss_eq m s, ?_⟩
  rw [h6, State.when_false, hstart, State.restartLanes_down hup]
  constructor
  · exact (((State.Spares.refl _ _).wr_lane n.isLt hpage (by decide)).startLanes n.isLt hpage).rd.trans
      (s.loseReference_shows m).1
  · rw [State.startLanes_state]
    congr 1
    exact (State.rd_wr_bit _ _ (by decide)).trans (hkept LN_CTRL_MODE (by simp))

/-- REFCLK_RESTORE (R17). -/
theorem refclkRestore_gives (s : State) :
    Gives .refclkRestore s fun t => t.rd glb GLB_REFCLK_LOST = 0 ∧ OnlyKeys [key glb GLB_REFCLK_LOST] s t :=
  ⟨s.wr glb GLB_REFCLK_LOST 0, rfl, State.rd_wr_fit _ _ (by decide), (OnlyKeys.refl _ s).wr⟩

/-- BOARD_INPUT_CHANGE while the islands are powered (R390, R391). -/
theorem boardInputChange_gives (s : State) (p : Bool) (r : Fin 2048) (h : 3 < s.rd glb GLB_ISL_PWR_PWR) :
    Gives (.boardInputChange p r) s fun t => t.rd aon AON_SUPPLY_STS_IN_RANGE = r.val ∧
      (p = true → t.rd glb GLB_SUPPLY_OK = 1) ∧
      OnlyKeys [key aon AON_SUPPLY_STS_IN_RANGE, key aon AON_SUPPLY_STS_BRD, key glb GLB_SUPPLY_OK] s t := by
  let u := (s.when (s.is aon AON_SUPPLY_BRD_USE) fun s => s.wr aon AON_SUPPLY_STS_BRD (if p then 1 else 0)).wr aon
    AON_SUPPLY_STS_IN_RANGE r
  have honly : OnlyKeys [key aon AON_SUPPLY_STS_IN_RANGE, key aon AON_SUPPLY_STS_BRD, key glb GLB_SUPPLY_OK] s
      (u.when p fun s => s.wr glb GLB_SUPPLY_OK 1) :=
    OnlyKeys.when (OnlyKeys.wr (OnlyKeys.when (OnlyKeys.refl _ s) fun _ ht => ht.wr)) fun _ ht => ht.wr
  have hpwr : (u.when p fun s => s.wr glb GLB_SUPPLY_OK 1).rd glb GLB_ISL_PWR_PWR = s.rd glb GLB_ISL_PWR_PWR :=
    ((State.Spares.refl _ s).only honly (by decide)).rd
  refine ⟨u.when p fun s => s.wr glb GLB_SUPPLY_OK 1, ?_, ?_, ?_, honly⟩
  · change execBoardInputChange p r s = _
    unfold execBoardInputChange
    simp only
    rw [show (u.when p fun s => s.wr glb GLB_SUPPLY_OK 1).rd glb GLB_ISL_PWR_PWR = _ from hpwr,
      decide_eq_false (p := s.rd glb GLB_ISL_PWR_PWR ≤ 3) (by omega), Bool.and_false, Bool.false_and, State.when_false]
  · exact ((State.Spares.refl _ u).when fun _ ht => ht.wr (by decide)).rd.trans (State.rd_wr_fit _ _ r.isLt)
  · rintro rfl
    exact State.rd_wr_fit _ _ (by decide)

end Sys2Proof.Machine

/-- Settles O44, a lemma for each command: every reset is a chain of writes and of losses of whole classes of registers,
and each field the statement names is read past the steps that spare it. The edges of supply events and resets are the
model's choice (log 93, log 96). -/
theorem wideResetsKeepWhatTheySay : Obligations.WideResetsKeepWhatTheySay := by
  open Sys2Proof.Machine in
  exact ⟨powerOnReset_gives, pinReset_gives, resetNRelease_gives, chipSoftwareReset_gives, mgmtReset_gives,
    aonWdtExpiry_gives, watchdogKick_gives, supplyLoss_vconn_gives, supplyLoss_main_gives,
    fun s m => ⟨fun hg _ => refclkLoss_gives s m hg, refclkLoss_port_gives s m⟩, refclkRestore_gives,
    boardInputChange_gives⟩

end

section
/-! What every command keeps, over all of them at once: it answers a next state, which follows the present one as
State.Leads says; with the idle tick and the state after reset; and the statements about them. -/

namespace Sys2Proof.Machine

open Reg

/-! ### Every command answers -/

/-- The outcome of a command is a next state: neither a fault nor a refusal. -/
def Answers (x : Res) : Prop := ∃ t, x = .next t

theorem Answers.next (s : State) : Answers (.next s) := ⟨s, rfl⟩

theorem Answers.ite {a b : Res} {c : Prop} [Decidable c] (h : Answers a) (g : Answers b) :
    Answers (if c then a else b) := by
  split <;> assumption

/-- The one next state or the other, as of a command that does nothing where its premise does not hold. -/
theorem Answers.unless {a : State} {b : State} {c : Prop} [Decidable c] : Answers (if c then .next a else .next b) :=
  .ite (.next _) (.next _)

theorem State.onRequest_answers (s : State) (cop : Nat) (act : State → Nat → Ctrl → State) :
    Answers (s.onRequest cop act) := by
  unfold State.onRequest
  split <;> exact .next _

/-- No command faults and none is refused: every branch of every meaning ends in a next state. -/
theorem exec_answers (c : Instr) (s : State) : Answers (exec c s) := by
  cases c with
  | identify | regRead | regWrite | portEvent | relay | pathDown | isoShort | isoOk =>
    exact State.onRequest_answers _ _ _
  | setHubId | pathSetup | pathRelease | turnArm | turnCancel => exact .ite (State.onRequest_answers _ _ _) (.next _)
  | retrain | lnCntClr | marginStart | nakRx | addReadyRx | turnPrep | creditTimer | creditRefresh | lpNak | pairSetRx
  | usbPortConnect | turnWiden | followEdgeSend | pcieWake => exact .unless
  | addReqRx | pathEntryWrite | joinFail | lpWakeDetect | marginDone | turnPadLock => exact .ite (.next _) .unless
  | lpReq | power | setPortFeature => exact .ite (.next _) (.ite (.next _) .unless)
  | pairDropRx => exact .ite (.next _) (.ite (.next _) (.ite (.next _) .unless))
  | sbuServeFrame => exact .ite (.next _) (.ite (.next _) (.ite (.next _) .unless))
  | codewordRx => exact .ite .unless .unless
  | padRecheckDone => exact .ite (.next _) (.ite .unless .unless)
  | packetRx => exact .ite (.next _) (.ite .unless (.ite (.next _) (.ite (.next _) (.ite (.next _) .unless))))
  | registerWrite who x => cases x <;> exact .next _
  | usb4ConfigAccess d x => cases x <;> exact .next _
  | portOwnerChange who x => cases x <;> exact .unless
  | retentionRamAccess who a => cases a <;> exact .next _
  | gatedAccess | smbReadDone | smbDiscard | cplTimeout | ctrlTimeout | ctrlBadReq | ctrlResponseRx | ctrlPacketRx =>
    dsimp only [exec, execGatedAccess, execSmbReadDone, execSmbDiscard, execCplTimeout, execCtrlTimeout, execCtrlBadReq,
      execCtrlResponseRx, execCtrlPacketRx]
    split <;> exact .next _
  | frameTimeout | captureDrain =>
    dsimp only [exec, execFrameTimeout, execCaptureDrain]
    split
    · exact .next _
    · exact .unless
  | _ => exact .next _

/-! ### What every command keeps -/

/-- Every command's next state follows the state that it acts on: the case of each is the lemma about its meaning. The
commands of mayWriteFlash alone may change the flash, those of mayProgramOtp alone the OTP. -/
theorem exec_leads (s : State) : ∀ c, s.LeadsR (!mayWriteFlash c) (!mayProgramOtp c) (exec c s)
  | .powerOnReset .. => State.leads_execPowerOnReset (.refl ..) _ _ _ _ _ _
  | .pinReset => State.leads_execPinReset (.refl ..)
  | .resetNRelease .. => State.leads_execResetNRelease (.refl ..) _ _ _
  | .supplyLoss .. => State.leads_execSupplyLoss (.refl ..) _
  | .chipSoftwareReset .. => State.leads_execChipSoftwareReset (.refl ..) _ _
  | .mgmtReset .. => State.leads_execMgmtReset (.refl ..) _ _
  | .aonWdtExpiry => State.leads_execAonWdtExpiry (.refl ..)
  | .watchdogKick .. => State.leads_execWatchdogKick (.refl ..) _ _
  | .gatedAccess .. => State.leads_execGatedAccess (.refl ..) _ _ _
  | .refclkLoss .. => State.leads_execRefclkLoss (.refl ..) _
  | .turnover => State.leads_execTurnover (.refl ..)
  | .cellSlot .. => State.leads_execCellSlot (.refl ..) _ _
  | .calendarSlot => State.leads_execCalendarSlot (.refl ..)
  | .registerWrite .. => State.leads_execRegisterWrite (.refl ..) _ _
  | .popRead .. => State.leads_execPopRead (.refl ..) _ _
  | .blockSoftReset .. => State.leads_execBlockSoftReset (.refl ..) _ _
  | .softResetComplete .. => State.leads_execSoftResetComplete (.refl ..) _
  | .enable .. => State.leads_execEnable (.refl ..) _ _ _
  | .levelChange .. => State.leads_execLevelChange (.refl ..) _ _ _
  | .derivationDone .. => State.leads_execDerivationDone (.refl ..) _ _
  | .intForce .. => State.leads_execIntForce (.refl ..) _ _ _
  | .intEnableWrite .. => State.leads_execIntEnableWrite (.refl ..) _ _ _
  | .intAck .. => State.leads_execIntAck (.refl ..) _ _ _
  | .errAck .. => State.leads_execErrAck (.refl ..) _ _ _
  | .graceExpiry .. => State.leads_execGraceExpiry (.refl ..) _
  | .arm .. => State.leads_execArm (.refl ..) _ _ _ _
  | .cancel .. => State.leads_execCancel (.refl ..) _ _ _
  | .extLock .. => State.leads_execExtLock (.refl ..) _ _
  | .allLock .. => State.leads_execAllLock (.refl ..) _ _
  | .remoteAccess .. => State.leads_execRemoteAccess (.refl ..) _ _ _ _ _
  | .modeChange .. => State.leads_execModeChange (.refl ..) _ _ _
  | .retrain .. => State.leads_execRetrain (.refl ..) _ _
  | .lnCntClr .. => State.leads_execLnCntClr (.refl ..) _ _
  | .trainStageDone .. => State.leads_execTrainStageDone (.refl ..) _ _
  | .trainStageFail .. => State.leads_execTrainStageFail (.refl ..) _ _
  | .retryWaitExpiry .. => State.leads_execRetryWaitExpiry (.refl ..) _
  | .los .. => State.leads_execLos (.refl ..) _ _
  | .lol .. => State.leads_execLol (.refl ..) _ _
  | .codewordFramingLost .. => State.leads_execCodewordFramingLost (.refl ..) _ _
  | .losRelease .. => State.leads_execLosRelease (.refl ..) _ _
  | .farEndRetrain .. => State.leads_execFarEndRetrain (.refl ..) _
  | .padRecheckDone .. => State.leads_execPadRecheckDone (.refl ..) _ _ _
  | .marginStart .. => State.leads_execMarginStart (.refl ..) _ _ _
  | .marginDone .. => State.leads_execMarginDone (.refl ..) _ _ _ _
  | .eyeRefresh .. => State.leads_execEyeRefresh (.refl ..) _ _ _ _ _
  | .sbuServeFrame .. => State.leads_execSbuServeFrame (.refl ..) _ _ _ _ _ _ _
  | .sbuFollowEdge .. => State.leads_execSbuFollowEdge (.refl ..) _ _ _
  | .followEdgeSend .. => State.leads_execFollowEdgeSend (.refl ..) _
  | .tsyncStepReq .. => State.leads_execTsyncStepReq (.refl ..) _ _
  | .codewordRx .. => State.leads_execCodewordRx (.refl ..) _ _ _ _ _ _ _ _
  | .packetRx .. => State.leads_execPacketRx (.refl ..) _ _ _ _ _
  | .ackRx .. => State.leads_execAckRx (.refl ..) _ _
  | .nakRx .. => State.leads_execNakRx (.refl ..) _ _ _
  | .creditRx .. => State.leads_execCreditRx (.refl ..) _ _
  | .pairDropRx .. => State.leads_execPairDropRx (.refl ..) _ _ _
  | .addReqRx .. => State.leads_execAddReqRx (.refl ..) _ _ _
  | .addReadyRx .. => State.leads_execAddReadyRx (.refl ..) _ _ _
  | .pairSetRx .. => State.leads_execPairSetRx (.refl ..) _ _ _ _
  | .turnPrep .. => State.leads_execTurnPrep (.refl ..) _ _ _
  | .turnOk .. => State.leads_execTurnOk (.refl ..) _ _
  | .turnNak .. => State.leads_execTurnNak (.refl ..) _
  | .joinFail .. => State.leads_execJoinFail (.refl ..) _
  | .lpReq .. => State.leads_execLpReq (.refl ..) _ _
  | .lpAck .. => State.leads_execLpAck (.refl ..) _ _
  | .lpNak .. => State.leads_execLpNak (.refl ..) _
  | .txPacketBoundary .. => State.leads_execTxPacketBoundary (.refl ..) _
  | .ackDue .. => State.leads_execAckDue (.refl ..) _
  | .nakRepeat .. => State.leads_execNakRepeat (.refl ..) _
  | .replayTimeout .. => State.leads_execReplayTimeout (.refl ..) _
  | .creditTimer .. => State.leads_execCreditTimer (.refl ..) _
  | .creditRefresh .. => State.leads_execCreditRefresh (.refl ..) _
  | .turnPadLock .. => State.leads_execTurnPadLock (.refl ..) _ _
  | .turnWiden .. => State.leads_execTurnWiden (.refl ..) _
  | .lpIdleExpiry .. => State.leads_execLpIdleExpiry (.refl ..) _
  | .linkWake .. => State.leads_execLinkWake (.refl ..) _
  | .lpWakeDetect .. => State.leads_execLpWakeDetect (.refl ..) _
  | .lpExitDone .. => State.leads_execLpExitDone (.refl ..) _
  | .lkCntClr .. => State.leads_execLkCntClr (.refl ..) _ _
  | .usb4ConfigAccess .. => State.leads_execUsb4ConfigAccess (.refl ..) _ _
  | .hopEntryWrite .. => State.leads_execHopEntryWrite (.refl ..) _ _
  | .pathEntryWrite .. => State.leads_execPathEntryWrite (.refl ..) _ _ _ _ _
  | .ctrlPacketRx => State.leads_execCtrlPacketRx (.refl ..)
  | .identify => State.leads_execIdentify (.refl ..)
  | .setHubId => State.leads_execSetHubId (.refl ..)
  | .regRead => State.leads_execRegRead (.refl ..)
  | .regWrite => State.leads_execRegWrite (.refl ..)
  | .portEvent => State.leads_execPortEvent (.refl ..)
  | .relay => State.leads_execRelay (.refl ..)
  | .pathSetup => State.leads_execPathSetup (.refl ..)
  | .pathRelease => State.leads_execPathRelease (.refl ..)
  | .pathDown => State.leads_execPathDown (.refl ..)
  | .turnArm => State.leads_execTurnArm (.refl ..)
  | .turnCancel => State.leads_execTurnCancel (.refl ..)
  | .isoShort => State.leads_execIsoShort (.refl ..)
  | .isoOk => State.leads_execIsoOk (.refl ..)
  | .ctrlBadReq => State.leads_execCtrlBadReq (.refl ..)
  | .ctrlResponseRx => State.leads_execCtrlResponseRx (.refl ..)
  | .ctrlTimeout .. => State.leads_execCtrlTimeout (.refl ..) _ _
  | .addHoldExpiry .. => State.leads_execAddHoldExpiry (.refl ..) _
  | .delEntryFree .. => State.leads_execDelEntryFree (.refl ..) _
  | .upPortDownTimeout .. => State.leads_execUpPortDownTimeout (.refl ..) _
  | .pcCntClr .. => State.leads_execPcCntClr (.refl ..) _
  | .frameTimeout .. => State.leads_execFrameTimeout (.refl ..) _ _ _
  | .swOutRestart .. => State.leads_execSwOutRestart (.refl ..) _ _
  | .captureDrain => State.leads_execCaptureDrain (.refl ..)
  | .swCapRd .. => State.leads_execSwCapRd (.refl ..) _ _
  | .swCntClr .. => State.leads_execSwCntClr (.refl ..) _
  | .shaperEligible .. => State.leads_execShaperEligible (.refl ..) _
  | .almCntClr .. => State.leads_execAlmCntClr (.refl ..) _ _
  | .portRst .. => State.leads_execPortRst (.refl ..) _
  | .peLinkReset .. => State.leads_execPeLinkReset (.refl ..) _ _
  | .peCntClr .. => State.leads_execPeCntClr (.refl ..) _
  | .pcaCntClr .. => State.leads_execPcaCntClr (.refl ..) _ _
  | .brCntClr .. => State.leads_execBrCntClr (.refl ..) _
  | .tlpFromLocal .. => State.leads_execTlpFromLocal (.refl ..) _ _
  | .tlpFromTunnel .. => State.leads_execTlpFromTunnel (.refl ..) _ _ _ _
  | .npIssue .. => State.leads_execNpIssue (.refl ..) _
  | .completionFromTunnel .. => State.leads_execCompletionFromTunnel (.refl ..) _ _
  | .cplTimeout .. => State.leads_execCplTimeout (.refl ..) _ _ _
  | .lockedRequest .. => State.leads_execLockedRequest (.refl ..) _ _ _
  | .unlock .. => State.leads_execUnlock (.refl ..) _
  | .lockTimeout .. => State.leads_execLockTimeout (.refl ..) _
  | .pcaRelease .. => State.leads_execPcaRelease (.refl ..) _ _
  | .pcaModeWrite .. => State.leads_execPcaModeWrite (.refl ..) _ _ _ _ _ _
  | .sidebandUpdateSend .. => State.leads_execSidebandUpdateSend (.refl ..) _ _
  | .sidebandUpdateRx .. => State.leads_execSidebandUpdateRx (.refl ..) _ _ _
  | .sidebandPulseEnd .. => State.leads_execSidebandPulseEnd (.refl ..) _
  | .hostWarmReset .. => State.leads_execHostWarmReset (.refl ..) _
  | .setAddr .. => State.leads_execSetAddr (.refl ..) _ _
  | .smbWrite .. => State.leads_execSmbWrite (.refl ..) _ _
  | .readStart .. => State.leads_execReadStart (.refl ..) _ _
  | .smbReadDone => State.leads_execSmbReadDone (.refl ..)
  | .readData .. => State.leads_execReadData (.refl ..) _
  | .smbStatus => State.leads_execSmbStatus (.refl ..)
  | .select .. => State.leads_execSelect (.refl ..) _ _
  | .smbProto => State.leads_execSmbProto (.refl ..)
  | .alertResponse => State.leads_execAlertResponse (.refl ..)
  | .smbDiscard => State.leads_execSmbDiscard (.refl ..)
  | .brRselWrite .. => State.leads_execBrRselWrite (.refl ..) _ _
  | .prefetchExpiry => State.leads_execPrefetchExpiry (.refl ..)
  | .vblankStart .. => State.leads_execVblankStart (.refl ..) _
  | .lineStart .. => State.leads_execLineStart (.refl ..) _ _
  | .streamPacketRx .. => State.leads_execStreamPacketRx (.refl ..) _ _ _
  | .streamTimeout .. => State.leads_execStreamTimeout (.refl ..) _
  | .holdReq .. => State.leads_execHoldReq (.refl ..) _ _ _
  | .resumeReq .. => State.leads_execResumeReq (.refl ..) _ _
  | .dispCntClr .. => State.leads_execDispCntClr (.refl ..) _ _
  | .writeRect .. => State.leads_execWriteRect (.refl ..) _ _ _ _ _ _
  | .fillRect .. => State.leads_execFillRect (.refl ..) _ _ _ _ _ _
  | .copyRect .. => State.leads_execCopyRect (.refl ..) _ _ _ _ _ _ _ _
  | .commit .. => State.leads_execCommit (.refl ..) _ _ _ _
  | .fence .. => State.leads_execFence (.refl ..) _ _ _
  | .readRect .. => State.leads_execReadRect (.refl ..) _ _ _ _ _ _
  | .badOp .. => State.leads_execBadOp (.refl ..) _ _ _ _
  | .copyForwardDone .. => State.leads_execCopyForwardDone (.refl ..) _ _
  | .auxRequest .. => State.leads_execAuxRequest (.refl ..) _ _ _ _
  | .auxReply .. => State.leads_execAuxReply (.refl ..) _ _
  | .auxTimeout .. => State.leads_execAuxTimeout (.refl ..) _
  | .plug .. => State.leads_execPlug (.refl ..) _ _
  | .unplug .. => State.leads_execUnplug (.refl ..) _
  | .irqHpd .. => State.leads_execIrqHpd (.refl ..) _ _
  | .dpTrainDone .. => State.leads_execDpTrainDone (.refl ..) _ _ _
  | .readbackFrameEnd .. => State.leads_execReadbackFrameEnd (.refl ..) _ _
  | .rbLoss .. => State.leads_execRbLoss (.refl ..) _
  | .doutRestart .. => State.leads_execDoutRestart (.refl ..) _ _
  | .doutRetrain .. => State.leads_execDoutRetrain (.refl ..) _ _
  | .doutCntClr .. => State.leads_execDoutCntClr (.refl ..) _ _
  | .overcurrent .. => State.leads_execOvercurrent (.refl ..) _
  | .portOwnerChange .. => State.leads_execPortOwnerChange (.refl ..) _ _
  | .usbOutPacket .. => State.leads_execUsbOutPacket (.refl ..) _ _ _
  | .usbInToken .. => State.leads_execUsbInToken (.refl ..) _ _
  | .microframeStart => State.leads_execMicroframeStart (.refl ..)
  | .fbRefresh .. => State.leads_execFbRefresh (.refl ..) _
  | .mclkLoss => State.leads_execMclkLoss (.refl ..)
  | .wakeReq .. => State.leads_execWakeReq (.refl ..) _
  | .remoteWakeSignal => State.leads_execRemoteWakeSignal (.refl ..)
  | .hostResume .. => State.leads_execHostResume (.refl ..) _ _
  | .usbBusReset .. => State.leads_execUsbBusReset (.refl ..) _ _
  | .statusStage => State.leads_execStatusStage (.refl ..)
  | .setup .. => State.leads_execSetup (.refl ..) _ _
  | .uhCntClr .. => State.leads_execUhCntClr (.refl ..) _
  | .ethFrameRx .. => State.leads_execEthFrameRx (.refl ..) _ _ _ _
  | .pauseRx .. => State.leads_execPauseRx (.refl ..) _ _
  | .ethTunnelFrame .. => State.leads_execEthTunnelFrame (.refl ..) _ _ _ _ _
  | .ethStatusUpdate .. => State.leads_execEthStatusUpdate (.refl ..) _ _ _ _ _
  | .linkStateTimer .. => State.leads_execLinkStateTimer (.refl ..) _ _
  | .txTail .. => State.leads_execTxTail (.refl ..) _ _ _ _ _
  | .rxTail .. => State.leads_execRxTail (.refl ..) _ _ _ _ _
  | .tsCompletionTimeout .. => State.leads_execTsCompletionTimeout (.refl ..) _ _ _
  | .ethDmaError .. => State.leads_execEthDmaError (.refl ..) _ _
  | .ethBindChange .. => State.leads_execEthBindChange (.refl ..) _ _ _ _
  | .irqModExpiry .. => State.leads_execIrqModExpiry (.refl ..) _ _
  | .ethCntClr .. => State.leads_execEthCntClr (.refl ..) _ _
  | .dramTraining .. => State.leads_execDramTraining (.refl ..) _ _
  | .dqsCheck => State.leads_execDqsCheck (.refl ..)
  | .dramRequest .. => State.leads_execDramRequest (.refl ..) _ _
  | .srEntry => State.leads_execSrEntry (.refl ..)
  | .pdEntry => State.leads_execPdEntry (.refl ..)
  | .srExit => State.leads_execSrExit (.refl ..)
  | .memCntClr .. => State.leads_execMemCntClr (.refl ..) _
  | .ccAttach .. => State.leads_execCcAttach (.refl ..) _ _ _
  | .detach .. => State.leads_execDetach (.refl ..) _ _
  | .ccOv .. => State.leads_execCcOv (.refl ..) _
  | .sourceCapabilities .. => State.leads_execSourceCapabilities (.refl ..) _ _
  | .request .. => State.leads_execRequest (.refl ..) _ _
  | .accept .. => State.leads_execAccept (.refl ..) _ _
  | .reject .. => State.leads_execReject (.refl ..) _ _
  | .wait .. => State.leads_execWait (.refl ..) _ _
  | .waitRetry .. => State.leads_execWaitRetry (.refl ..) _
  | .psRdy .. => State.leads_execPsRdy (.refl ..) _ _ _
  | .prSwap .. => State.leads_execPrSwap (.refl ..) _ _
  | .drSwap .. => State.leads_execDrSwap (.refl ..) _ _
  | .vconnSwap .. => State.leads_execVconnSwap (.refl ..) _ _
  | .frSwap .. => State.leads_execFrSwap (.refl ..) _ _
  | .frsSignal .. => State.leads_execFrsSignal (.refl ..) _ _
  | .supplyFailGpio => State.leads_execSupplyFailGpio (.refl ..)
  | .hardResetRx .. => State.leads_execHardResetRx (.refl ..) _
  | .softResetRx .. => State.leads_execSoftResetRx (.refl ..) _ _
  | .eprKeepalive .. => State.leads_execEprKeepalive (.refl ..) _ _
  | .discoverIdentity .. => State.leads_execDiscoverIdentity (.refl ..) _ _ _ _
  | .discoverModes .. => State.leads_execDiscoverModes (.refl ..) _ _ _ _
  | .enterMode .. => State.leads_execEnterMode (.refl ..) _ _ _
  | .enterUsb .. => State.leads_execEnterUsb (.refl ..) _ _
  | .authenticationMsg .. => State.leads_execAuthenticationMsg (.refl ..) _ _
  | .hardReset .. => State.leads_execHardReset (.refl ..) _ _
  | .softReset .. => State.leads_execSoftReset (.refl ..) _ _
  | .errRecovery .. => State.leads_execErrRecovery (.refl ..) _ _
  | .swapPr .. => State.leads_execSwapPr (.refl ..) _ _
  | .swapDr .. => State.leads_execSwapDr (.refl ..) _ _
  | .swapVconn .. => State.leads_execSwapVconn (.refl ..) _ _
  | .eprEnter .. => State.leads_execEprEnter (.refl ..) _ _
  | .eprExit .. => State.leads_execEprExit (.refl ..) _ _
  | .pdSequenceStart .. => State.leads_execPdSequenceStart (.refl ..) _
  | .sinktxExpiry .. => State.leads_execSinktxExpiry (.refl ..) _
  | .eprKaTimer .. => State.leads_execEprKaTimer (.refl ..) _
  | .eprKaLost .. => State.leads_execEprKaLost (.refl ..) _
  | .ppsReqTimer .. => State.leads_execPpsReqTimer (.refl ..) _
  | .ppsTimeout .. => State.leads_execPpsTimeout (.refl ..) _
  | .senderResponseTimeout .. => State.leads_execSenderResponseTimeout (.refl ..) _
  | .srcRecover .. => State.leads_execSrcRecover (.refl ..) _
  | .errorRecoveryDone .. => State.leads_execErrorRecoveryDone (.refl ..) _
  | .drSwapWait .. => State.leads_execDrSwapWait (.refl ..) _
  | .pdTxSend .. => State.leads_execPdTxSend (.refl ..) _ _
  | .pdCntClr .. => State.leads_execPdCntClr (.refl ..) _ _
  | .dbatStart .. => State.leads_execDbatStart (.refl ..) _ _
  | .ovTrip .. => State.leads_execOvTrip (.refl ..) _ _ _
  | .ocTrip .. => State.leads_execOcTrip (.refl ..) _ _ _
  | .rcTrip .. => State.leads_execRcTrip (.refl ..) _ _ _
  | .vconnOc .. => State.leads_execVconnOc (.refl ..) _
  | .thermWarn .. => State.leads_execThermWarn (.refl ..) _
  | .thermTrip .. => State.leads_execThermTrip (.refl ..) _
  | .thermRelease .. => State.leads_execThermRelease (.refl ..) _
  | .dischFail .. => State.leads_execDischFail (.refl ..) _ _
  | .transTimeout .. => State.leads_execTransTimeout (.refl ..) _ _ _
  | .dischargeComplete .. => State.leads_execDischargeComplete (.refl ..) _ _
  | .pathClose .. => State.leads_execPathClose (.refl ..) _ _
  | .closeWaitTimeout .. => State.leads_execCloseWaitTimeout (.refl ..) _
  | .setContract .. => State.leads_execSetContract (.refl ..) _ _ _ _ _ _ _
  | .closePath .. => State.leads_execClosePath (.refl ..) _ _ _ _
  | .openPath .. => State.leads_execOpenPath (.refl ..) _ _ _ _
  | .discharge .. => State.leads_execDischarge (.refl ..) _ _ _
  | .vconnReq .. => State.leads_execVconnReq (.refl ..) _ _ _ _
  | .frsArm .. => State.leads_execFrsArm (.refl ..) _ _ _ _
  | .clearTrip .. => State.leads_execClearTrip (.refl ..) _ _ _
  | .setLimit .. => State.leads_execSetLimit (.refl ..) _ _ _ _ _
  | .safeReset .. => State.leads_execSafeReset (.refl ..) _ _
  | .patch .. => State.leads_execPatch (.refl ..) _ _ _ _ _
  | .lockstepMismatch => State.leads_execLockstepMismatch (.refl ..)
  | .safeClockFault => State.leads_execSafeClockFault (.refl ..)
  | .safeWatchdog => State.leads_execSafeWatchdog (.refl ..)
  | .safeSramUe => State.leads_execSafeSramUe (.refl ..)
  | .safeSupplyLow => State.leads_execSafeSupplyLow (.refl ..)
  | .safetyResetComplete => State.leads_execSafetyResetComplete (.refl ..)
  | .enterD2 .. => State.leads_execEnterD2 (.refl ..) _
  | .enterYoyo .. => State.leads_execEnterYoyo (.refl ..) _
  | .enterOff .. => State.leads_execEnterOff (.refl ..) _
  | .drainTimeout => State.leads_execDrainTimeout (.refl ..)
  | .d1Entry .. => State.leads_execD1Entry (.refl ..) _ _
  | .d1Exit .. => State.leads_execD1Exit (.refl ..) _ _
  | .yoyoSample .. => State.leads_execYoyoSample (.refl ..) _ _ _ _
  | .forcedOff => State.leads_execForcedOff (.refl ..)
  | .pwrBtnWake => State.leads_execPwrBtnWake (.refl ..)
  | .dbatWake .. => State.leads_execDbatWake (.refl ..) _
  | .gpioEdgeWake .. => State.leads_execGpioEdgeWake (.refl ..) _ _
  | .alarmExpiry => State.leads_execAlarmExpiry (.refl ..)
  | .groupInRange => State.leads_execGroupInRange (.refl ..)
  | .exitTimeout => State.leads_execExitTimeout (.refl ..)
  | .exitRetry => State.leads_execExitRetry (.refl ..)
  | .padRelease .. => State.leads_execPadRelease (.refl ..) _
  | .retentionRamAccess .. => State.leads_execRetentionRamAccess (.refl ..) _ _ _ _ _
  | .aonCntClr .. => State.leads_execAonCntClr (.refl ..) _
  | .bootRomStart .. => State.leads_execBootRomStart (.refl ..) _ _ _ _ _
  | .recoveryImageRx .. => State.leads_execRecoveryImageRx (.refl ..) _ _
  | .otpProgram .. => State.leads_execOtpProgram (.refl ..) _ _ _
  | .measExtend .. => State.leads_execMeasExtend (.refl ..) _ _
  | .sign .. => State.leads_execSign (.refl ..) _
  | .load .. => State.leads_execLoad (.refl ..) _ _ _
  | .derive .. => State.leads_execDerive (.refl ..) _ _ _
  | .zeroise .. => State.leads_execZeroise (.refl ..) _ _
  | .zeroiseAll .. => State.leads_execZeroiseAll (.refl ..) _
  | .challenge .. => State.leads_execChallenge (.refl ..) _ _
  | .dbgRespPush .. => State.leads_execDbgRespPush (.refl ..) _ _
  | .verify .. => State.leads_execVerify (.refl ..) _ _
  | .nonceExpiry => State.leads_execNonceExpiry (.refl ..)
  | .keyGraceEnd .. => State.leads_execKeyGraceEnd (.refl ..) _
  | .getVersion .. => State.leads_execGetVersion (.refl ..) _
  | .getCapabilities .. => State.leads_execGetCapabilities (.refl ..) _
  | .negotiateAlgorithms .. => State.leads_execNegotiateAlgorithms (.refl ..) _ _
  | .getDigests .. => State.leads_execGetDigests (.refl ..) _
  | .getCertificate .. => State.leads_execGetCertificate (.refl ..) _ _ _ _
  | .spdmChallenge .. => State.leads_execSpdmChallenge (.refl ..) _ _ _
  | .getMeasurements .. => State.leads_execGetMeasurements (.refl ..) _ _ _ _
  | .keyExchange .. => State.leads_execKeyExchange (.refl ..) _ _ _ _
  | .finish .. => State.leads_execFinish (.refl ..) _
  | .heartbeat .. => State.leads_execHeartbeat (.refl ..) _
  | .keyUpdate .. => State.leads_execKeyUpdate (.refl ..) _
  | .endSession .. => State.leads_execEndSession (.refl ..) _
  | .spdmUnsupported .. => State.leads_execSpdmUnsupported (.refl ..) _
  | .sliceCopyDone => State.leads_execSliceCopyDone (.refl ..)
  | .sliceCopyTimeout => State.leads_execSliceCopyTimeout (.refl ..)
  | .sliceMarchDone .. => State.leads_execSliceMarchDone (.refl ..) _
  | .sliceRestoreDone => State.leads_execSliceRestoreDone (.refl ..)
  | .bistRunGo .. => State.leads_execBistRunGo (.refl ..) _ _
  | .logicBistDone .. => State.leads_execLogicBistDone (.refl ..) _ _
  | .bistCntClr .. => State.leads_execBistCntClr (.refl ..) _
  | .fwReady => State.leads_execFwReady (.refl ..)
  | .engineHalt .. => State.leads_execEngineHalt (.refl ..) _
  | .engineRestart .. => State.leads_execEngineRestart (.refl ..) _
  | .go .. => State.leads_execGo (.refl ..) _ _ _ _ _
  | .requestTaken .. => State.leads_execRequestTaken (.refl ..) _
  | .abort .. => State.leads_execAbort (.refl ..) _ _
  | .done .. => State.leads_execDone (.refl ..) _ _
  | .getInfo .. => State.leads_execGetInfo (.refl ..) _
  | .power .. => State.leads_execPower (.refl ..) _
  | .dpGrant .. => State.leads_execDpGrant (.refl ..) _
  | .keyBind .. => State.leads_execKeyBind (.refl ..) _ _
  | .logRead .. => State.leads_execLogRead (.refl ..) _ _
  | .ctrlSend .. => State.leads_execCtrlSend (.refl ..) _
  | .fwBegin .. => State.leads_execFwBegin (.refl ..) _ _
  | .fwData .. => State.leads_execFwData (.refl ..) _ _
  | .fwEnd .. => State.leads_execFwEnd (.refl ..) _
  | .fwActivate .. => State.leads_execFwActivate (.refl ..) _ _
  | .fwCommit .. => State.leads_execFwCommit (.refl ..) _
  | .fwRollback .. => State.leads_execFwRollback (.refl ..) _ _
  | .svnCommit .. => State.leads_execSvnCommit (.refl ..) _
  | .fwUpdateTimeout => State.leads_execFwUpdateTimeout (.refl ..)
  | .mbCntClr .. => State.leads_execMbCntClr (.refl ..) _
  | .stdLinkTrained .. => State.leads_execStdLinkTrained (.refl ..) _ _
  | .stdLinkDown .. => State.leads_execStdLinkDown (.refl ..) _
  | .pcieLinkUp .. => State.leads_execPcieLinkUp (.refl ..) _ _ _
  | .pcieLinkDown .. => State.leads_execPcieLinkDown (.refl ..) _
  | .pePerstNDeassert => State.leads_execPePerstNDeassert (.refl ..)
  | .pcieWake .. => State.leads_execPcieWake (.refl ..) _ _
  | .usbPortConnect .. => State.leads_execUsbPortConnect (.refl ..) _ _ _
  | .downstreamWake .. => State.leads_execDownstreamWake (.refl ..) _ _
  | .usbSuspend .. => State.leads_execUsbSuspend (.refl ..) _ _
  | .setPortFeature .. => State.leads_execSetPortFeature (.refl ..) _ _ _ _
  | .mclkReturn => State.leads_execMclkReturn (.refl ..)
  | .sampleFrame .. => State.leads_execSampleFrame (.refl ..) _
  | .pauseQuantaExpiry .. => State.leads_execPauseQuantaExpiry (.refl ..) _
  | .padReadd .. => State.leads_execPadReadd (.refl ..) _ _
  | .refclkRestore => State.leads_execRefclkRestore (.refl ..)
  | .safeSupplyReturn => State.leads_execSafeSupplyReturn (.refl ..)
  | .boardInputChange .. => State.leads_execBoardInputChange (.refl ..) _ _
  | .rpChange .. => State.leads_execRpChange (.refl ..) _ _
  | .eprMode .. => State.leads_execEprMode (.refl ..) _ _
  | .srcTransition .. => State.leads_execSrcTransition (.refl ..) _
  | .psRdyTimeout .. => State.leads_execPsRdyTimeout (.refl ..) _
  | .sourceCapabilitiesRepeat .. => State.leads_execSourceCapabilitiesRepeat (.refl ..) _
  | .noResponseTimeout .. => State.leads_execNoResponseTimeout (.refl ..) _
  | .goodcrcMissing .. => State.leads_execGoodcrcMissing (.refl ..) _
  | .rngHealthFail => State.leads_execRngHealthFail (.refl ..)

/-- What a command answers, and what that state keeps. -/
theorem exec_next_leads (c : Instr) (s : State) : ∃ t, exec c s = .next t ∧
    s.Leads (!mayWriteFlash c) (!mayProgramOtp c) t := by
  obtain ⟨t, ht⟩ := exec_answers c s
  exact ⟨t, ht, exec_leads s c t ht⟩

/-- The canonical form does not speak of the queue. -/
theorem State.Inv.withPending {s : State} (h : s.Inv) (q : List Instr) : { s with pending := q }.Inv :=
  ⟨h.regs, h.act, h.dram, h.flash, h.otp, h.aonRam⟩

/-- A step keeps the canonical form: of an empty queue it is a tick, else the command in front. -/
theorem step_keeps_inv {s t : State} (h : s.Inv) (hs : step s = .next t) : t.Inv := by
  unfold step at hs
  split at hs
  · cases hs
    exact (State.leads_tick (.refl false false s)).inv h
  · exact (exec_leads _ _ t hs).inv (h.withPending _)

/-! ### The idle tick and the state after reset -/

/-- With no reset of Moabeuc due nothing follows a tick. -/
theorem State.fwResetDue_none {s : State} (h : s.rd mbx FW_RESET = 0) : s.fwResetDue = s := by
  simp [State.fwResetDue, State.is, h]

theorem State.reset_inv : State.reset.Inv := ⟨rfl, rfl, rfl, rfl, rfl, rfl⟩

/-- No register is listed after reset, so each reads its reset value. -/
theorem State.rd_reset (p : Page) (f : Field) : State.reset.rd p f = f.rst := rfl

theorem State.rdA_reset (p : Page) (f : Field) : State.reset.rdA p f = f.rst := rfl

end Sys2Proof.Machine

/-- Settles O53: whatever a step runs, a tick or a command, its next state follows the state before it, and what follows
keeps the canonical form. Which bytes an unlisted address reads is the model's choice (log 4). -/
theorem everyStepKeepsTheCanonicalForm : Obligations.EveryStepKeepsTheCanonicalForm :=
  fun _ _ h hs => Sys2Proof.Machine.step_keeps_inv h hs

/-- Settles O56, by what every command answers and keeps. That no command faults, the queue and clock, the count of free
values and the list of messages are the model's choices (log 5, log 6, log 9, log 11). -/
theorem everyCommandAnswers : Obligations.EveryCommandAnswers := by
  intro c s
  obtain ⟨t, ht, hl⟩ := Sys2Proof.Machine.exec_next_leads c s
  exact ⟨t, ht, hl.pending, hl.out, hl.clock, hl.fresh⟩

/-- Settles O2: with an empty queue the step is a tick, after which nothing is due. That it is one is the model's choice
(log 2). -/
theorem idleStepAdvancesHubTime : Obligations.IdleStepAdvancesHubTime := by
  open Sys2Proof.Machine in
  intro s hq hf
  have hstep : step s = .next s.tick := by
    unfold step
    rw [hq]
  rw [hstep]
  exact congrArg Host.Outcome.next (State.fwResetDue_none (s := { s with time := s.time + 1, clock := s.clock + 1 }) hf)

/-- Settles O52: after reset nothing is listed, and the reset values of the GLB and AON fields say which islands run and
that the hub is in D0. The values that the spec does not give are those of log 3. -/
theorem resetLeavesTheStatedValues : Obligations.ResetLeavesTheStatedValues := by
  open Sys2Proof.Machine in
  exact ⟨State.reset_inv, rfl, rfl, rfl, ⟨rfl, rfl, by decide⟩, rfl,
    fun p f => ⟨State.rd_reset p f, State.rdA_reset p f⟩⟩

end

section
/-! What the hub reports changes: the record of an access to a gated island and of a refused write, on any page; the
commands that are a write of one register field; and the statements about accesses that have no effect. -/

namespace Sys2Proof.Machine

open Reg

/-! ### Where the pages lie -/

theorem headerOf_of_hasHeader {p : Page} (h : p.hasHeader = true) : headerOf p = p := by
  obtain ⟨k, i⟩ := p
  cases k with
  | path | shaper => simp [Page.hasHeader, PageKind.hasHeader] at h
  | _ => rfl

theorem base_lt_of_hasHeader {p : Page} (h : p.hasHeader = true) : p.base < 0x1000000 := by
  obtain ⟨k, i⟩ := p
  have hi : i < k.count := of_decide_eq_true (Bool.and_eq_true_iff.1 h).2
  cases k <;> simp only [PageKind.count, Page.base, PageKind.place] at hi ⊢ <;> omega

/-- The GLB page is the first of the register space. -/
theorem base_ge_of_ne_glb {p : Page} (h : p.hasHeader = true) (hp : p ≠ glb) : 0x1000 ≤ p.base := by
  obtain ⟨k, i⟩ := p
  have hi : i < k.count := of_decide_eq_true (Bool.and_eq_true_iff.1 h).2
  cases k with
  | glb => exact absurd (congrArg (Page.mk .glb) (Nat.lt_one_iff.1 hi)) hp
  | _ => simp only [Page.base, PageKind.place]; omega

/-- The only page of the safety island. -/
theorem eq_safe_of_hasHeader {p : Page} (h : p.hasHeader = true) (hk : p.kind = .safe) : p = safe := by
  obtain ⟨k, i⟩ := p
  subst hk
  have hi : i < 1 := of_decide_eq_true (Bool.and_eq_true_iff.1 h).2
  exact congrArg (Page.mk .safe) (Nat.lt_one_iff.1 hi)

theorem pendKey_key {p : Page} {f : Field} (h : p.hasHeader = true) (hf : f.bit < 0x8000) :
    pendKey (key p f) = false := by
  have := base_lt_of_hasHeader h
  simp [pendKey, key, GLB_MSIX_PENDING, Field.intBits, glb, Page.base, PageKind.place] at *
  omega

/-! ### What a report of the hub may change -/

/-- From `s` to `t` nothing differs but registers at the keys `ks` and what an interrupt changes: the pending bits of
MSI-X entries, the messages sent and the buffers of the embedded USB device. -/
structure State.Reports (ks : List Nat) (s t : State) : Prop where
  rest : t = { s with regs := t.regs, out := t.out, usb := t.usb }
  find : ∀ k, k ∉ ks → pendKey k = false → Tab.find t.regs k = Tab.find s.regs k

theorem State.Reports.refl (ks : List Nat) (s : State) : s.Reports ks s := ⟨rfl, fun _ _ _ => rfl⟩

theorem State.Reports.trans {ks : List Nat} {r s t : State} (h : r.Reports ks s) (g : s.Reports ks t) :
    r.Reports ks t := by
  refine ⟨?_, fun k hk hp => (g.find k hk hp).trans (h.find k hk hp)⟩
  have e := g.rest
  rw [h.rest] at e
  exact e

/-- A part of the state that is neither registers, messages nor USB buffers is the same. -/
theorem State.Reports.part {α : Type} {ks : List Nat} {s t : State} (h : s.Reports ks t) (g : State → α)
    (hg : ∀ (u : State) x y z, g { u with regs := x, out := y, usb := z } = g u := by exact fun _ _ _ _ => rfl) :
    g t = g s := by
  rw [h.rest]; exact hg _ _ _ _

theorem State.Reports.rd {ks : List Nat} {s t : State} {p : Page} {f : Field} (h : s.Reports ks t)
    (hk : key p f ∉ ks) (hp : pendKey (key p f) = false) : t.rd p f = s.rd p f := by
  unfold State.rd; rw [h.find _ hk hp]

theorem State.Reports.mono {ks ls : List Nat} {s t : State} (h : s.Reports ks t) (hs : ks ⊆ ls) : s.Reports ls t :=
  ⟨h.rest, fun k hk => h.find k fun hm => hk (hs hm)⟩

section
variable {ks : List Nat} {r s : State} {p : Page} {n : Nat}

/-- A write of a field whose key is one of those, or a pending bit. -/
theorem State.Reports.wr {f : Field} {v : Nat} (h : r.Reports ks s) (hf : key p f ∈ ks ∨ pendKey (key p f) = true) :
    r.Reports ks (s.wr p f v) :=
  h.trans ⟨rfl, fun k hk hp => State.find_wr_ne s v fun e => by
    subst e
    rcases hf with hf | hf
    · exact hk hf
    · rw [hp] at hf; cases hf⟩

theorem State.Reports.ite {a b : State} {c : Prop} [Decidable c] (h : r.Reports ks a) (g : r.Reports ks b) :
    r.Reports ks (if c then a else b) := by
  split <;> assumption

theorem State.Reports.when {b : Bool} {f : State → State} (h : r.Reports ks s)
    (hf : ∀ t, r.Reports ks t → r.Reports ks (f t)) : r.Reports ks (s.when b f) :=
  (hf s h).ite h

theorem State.Reports.sendMsix {d e : Nat} (h : r.Reports ks s) (hd : d < 2) (he : e < 512) :
    r.Reports ks (s.sendMsix d e) := by
  have hp : r.Reports ks (s.wr glb (GLB_MSIX_PENDING.nth (512 * d + e)) 1) := h.wr <| .inr <| by
    simp [pendKey, key, Field.nth, GLB_MSIX_PENDING, Field.intBits]
    omega
  have hs : ∀ t, t = { s with regs := t.regs, out := t.out, usb := t.usb } → t.regs = s.regs → r.Reports ks t :=
    fun t ht hr => h.trans ⟨ht, fun _ _ _ => by rw [hr]⟩
  unfold State.sendMsix
  exact State.Reports.ite (h.ite (hp.ite (hs _ rfl rfl))) (h.ite (State.Reports.ite (hs _ rfl rfl) hp))

theorem State.Reports.request (h : r.Reports ks s) : r.Reports ks (s.request p) :=
  h.ite (h.sendMsix (Nat.mod_lt _ (by decide)) (Nat.mod_lt _ (by decide)))

/-- An interrupt bit becomes set, and its request goes out (R55). -/
theorem State.Reports.setInt {i : Nat} (h : r.Reports ks s) (hi : key p (PG_INT i) ∈ ks) :
    r.Reports ks (s.setInt p i) :=
  (h.wr (.inl hi)).when fun _ ht => ht.request

/-- The registers of a page that raising its source `n` may set, where Notify is the highest level that acts. -/
def raiseKeys (p : Page) (n : Nat) : List Nat :=
  [PG_ERR_STATUS_SRC.nth n, PG_ERR_STATUS_ESC.nth n, PG_EFF_SEV.nth n, PG_INT intErr, PG_ERR_FIRST_VALID,
    PG_ERR_FIRST_MERGED, PG_ERR_FIRST_EFF_SEV, PG_ERR_FIRST_SOURCE, PG_ERR_FIRST_COUNT, PG_ERR_FIRST_EPOCH_LO,
    PG_ERR_GRACE_REMAIN, PG_GRACE_TIME].map (key p)

/-- A write of a register of the list. -/
theorem State.Reports.wr_raise {f : Field} {v : Nat} (h : r.Reports (raiseKeys p n) s)
    (hf : key p f ∈ raiseKeys p n := by simp [raiseKeys]) : r.Reports (raiseKeys p n) (s.wr p f v) :=
  h.wr (.inl hf)

theorem State.Reports.graceUpdate (h : r.Reports (raiseKeys p n) s) : r.Reports (raiseKeys p n) (s.graceUpdate p) :=
  (h.ite (State.Reports.wr_raise h.wr_raise)).ite h.wr_raise

/-- On a page whose highest level is Notify a source neither contains nor resets (R422). -/
theorem State.Reports.sevEffect {reset : State → Page → State} {v : Nat} (h : r.Reports (raiseKeys p n) s)
    (hp : p.kind.info.notifyCap = true) (hv : v ≤ capSev p) : r.Reports (raiseKeys p n) (s.sevEffect reset p n v) := by
  have hv : v ≤ 1 := by simpa [capSev, hp] using hv
  unfold State.sevEffect
  rw [if_neg (by omega), if_neg (by omega)]
  exact h.when fun _ ht => ht.setInt (by simp [raiseKeys])

theorem State.Reports.escalateBy {reset : State → Page → State} (h : r.Reports (raiseKeys p n) s)
    (hp : p.kind.info.notifyCap = true) : r.Reports (raiseKeys p n) (s.escalateBy reset p n) := by
  unfold State.escalateBy
  simp only
  split
  · exact h.wr_raise
  · rename_i hv
    exact ((State.Reports.when (State.Reports.wr_raise h.wr_raise) fun _ ht => ht.wr_raise).sevEffect hp
      (by omega)).graceUpdate

/-- Raising a source of a page whose highest level is Notify changes nothing else (R51 to R54, R422). -/
theorem State.Reports.raise (h : r.Reports (raiseKeys p n) s) (hp : p.kind.info.notifyCap = true) :
    r.Reports (raiseKeys p n) (s.raise p n) := by
  unfold State.raise State.raiseBy
  simp only
  split
  · have hc : r.Reports (raiseKeys p n) (s.when (s.captured p n) fun s => s.count p PG_ERR_FIRST_COUNT) :=
      h.when fun _ ht => ht.wr_raise
    exact (hc.when fun _ ht => ht.wr_raise).ite (hc.escalateBy hp)
  · refine (State.Reports.sevEffect (State.Reports.when (State.Reports.wr_raise h.wr_raise) fun _ ht => ?_) hp
      (Nat.min_le_right _ _)).graceUpdate
    exact State.Reports.wr_raise (State.Reports.wr_raise (State.Reports.wr_raise (State.Reports.wr_raise
      (State.Reports.wr_raise ht.wr_raise))))

end

/-! ### An access to a gated island -/

/-- The registers that the record of an access to a gated island sets. -/
def gatedKeys : List Nat := [GLB_GATED_ADDR_WRITE, GLB_GATED_ADDR_ADDR, GLB_GATED_CNT].map (key glb) ++ raiseKeys glb 0

/-- The address and direction of an access to a gated island are stored, and it is counted. -/
def State.noteGated (s : State) (a : Nat) (w : Bool) : State :=
  ((s.wr glb GLB_GATED_ADDR_WRITE (if w then 1 else 0)).wr glb GLB_GATED_ADDR_ADDR a).count glb GLB_GATED_CNT

theorem State.gatedAccess_eq (s : State) (a : Nat) (w : Bool) : s.gatedAccess a w = (s.noteGated a w).raise glb 0 := rfl

theorem State.gatedAccess_reports (s : State) (a : Nat) (w : Bool) : s.Reports gatedKeys (s.gatedAccess a w) := by
  have hnote : s.Reports gatedKeys (s.noteGated a w) :=
    (((State.Reports.refl _ s).wr (.inl (by decide))).wr (.inl (by decide))).wr (.inl (by decide))
  rw [State.gatedAccess_eq]
  exact hnote.trans (((State.Reports.refl _ _).raise rfl).mono (List.subset_append_right _ _))

/-- The record's registers lie in the GLB page, or where no access reaches. -/
theorem gatedKeys_place : ∀ k ∈ gatedKeys, k < 0x8000 ∨ 0x10000000 ≤ k := by decide

/-- What the record of an access to a gated island shows, and what it leaves alone (R14). -/
structure State.RecordsGated (s : State) (a : Nat) (w : Bool) (t : State) : Prop where
  addr : t.rd glb GLB_GATED_ADDR_ADDR = a
  write : t.rd glb GLB_GATED_ADDR_WRITE = if w then 1 else 0
  src : t.is glb (PG_ERR_STATUS_SRC.nth 0) = true
  rest : (t.act, t.dram, t.flash, t.otp, t.aonRam) = (s.act, s.dram, s.flash, s.otp, s.aonRam)
  regs : ∀ q f, q.hasHeader = true → q ≠ glb → f.bit < 0x8000 → t.rd q f = s.rd q f

theorem State.gatedAccess_records (s : State) {a : Nat} (w : Bool) (ha : a < 2 ^ 25) :
    s.RecordsGated a w (s.gatedAccess a w) := by
  have hr := s.gatedAccess_reports a w
  have hraise : (s.noteGated a w).Reports (raiseKeys glb 0) (s.gatedAccess a w) := by
    rw [State.gatedAccess_eq]
    exact (State.Reports.refl _ _).raise rfl
  refine ⟨?_, ?_, State.is_raise_notify _ rfl (by decide) (by decide), ?_,
    fun q f hq hne hf => hr.rd ?_ (pendKey_key hq hf)⟩
  · exact (hraise.rd (by decide) (by decide)).trans ((State.rd_wr_bit _ _ (by decide)).trans (State.rd_wr_fit _ _ ha))
  · exact (hraise.rd (by decide) (by decide)).trans ((State.rd_wr_bit _ _ (by decide)).trans
      ((State.rd_wr_bit _ _ (by decide)).trans (State.rd_wr_fit _ _ (by cases w <;> decide))))
  · exact hr.part fun t => (t.act, t.dram, t.flash, t.otp, t.aonRam)
  · intro hm
    have := gatedKeys_place _ hm
    have := base_lt_of_hasHeader hq
    have := base_ge_of_ne_glb hq hne
    simp only [key] at *
    omega

/-! ### A refused write -/

/-- Cause and initiator of a dropped write are recorded. -/
def State.noteDrop (s : State) (p : Page) (who : Initiator) (why : Nat) : State :=
  (s.wr p PG_STATUS_DROP_WHY why).wr p PG_STATUS_DROP_SRC (initCode who)

/-- What a write to an SX page records besides (R43, R367). -/
def State.noteDenied (s : State) (who : Initiator) (addr : Nat) : State :=
  (((s.wr safe SF_WD_ADDR_ADDR addr).wr safe SF_WD_ADDR_SRC (initCode who)).count safe SF_WD_CNT).raise safe 0

theorem State.drop_eq (s : State) (p : Page) (who : Initiator) (why addr : Nat) : s.drop p who why addr =
    ((s.noteDrop p who why).setInt p intWrDrop).when (why = 4) fun s => s.noteDenied who addr := rfl

/-- The fields in which a dropped write shows. -/
def dropFields : List Field := [PG_STATUS_DROP_WHY, PG_STATUS_DROP_SRC, PG_INT intWrDrop]

/-- The record of a denied write leaves alone where a dropped write shows. -/
theorem State.noteDenied_rd (s : State) (who : Initiator) (addr : Nat) {f : Field} (hf : f ∈ dropFields) :
    (s.noteDenied who addr).rd safe f = s.rd safe f := by
  have hk : key safe f ∉ raiseKeys safe 0 ∧ pendKey (key safe f) = false ∧ f.bit ≠ SF_WD_CNT.bit ∧
      f.bit ≠ SF_WD_ADDR_SRC.bit ∧ f.bit ≠ SF_WD_ADDR_ADDR.bit := by
    revert f; decide
  obtain ⟨hr, hp, hcnt, hsrc, haddr⟩ := hk
  exact (((State.Reports.refl _ _).raise rfl).rd hr hp).trans ((State.rd_wr_bit _ _ hcnt).trans
    ((State.rd_wr_bit _ _ hsrc).trans (State.rd_wr_bit _ _ haddr)))

/-- A dropped write shows: its cause, its initiator and the interrupt bit (R50). Only on the safety island's page is the
cause 4. -/
theorem State.drop_shows (s : State) {p : Page} (who : Initiator) {why : Nat} (addr : Nat) (hp : p.hasHeader = true)
    (hw : why < 16) (h4 : why = 4 → p = safe) :
    (s.drop p who why addr).rd p PG_STATUS_DROP_WHY = why ∧
      (s.drop p who why addr).rd p PG_STATUS_DROP_SRC = initCode who ∧
      (s.drop p who why addr).is p (PG_INT intWrDrop) = true := by
  have hden : ∀ f ∈ dropFields,
      (s.drop p who why addr).rd p f = ((s.noteDrop p who why).setInt p intWrDrop).rd p f := by
    intro f hf
    rw [State.drop_eq]
    by_cases e : why = 4
    · rw [decide_eq_true e, State.when_true, h4 e]
      exact State.noteDenied_rd _ who addr hf
    · rw [decide_eq_false e, State.when_false]
  have hset : ∀ f ∈ dropFields, ((s.noteDrop p who why).setInt p intWrDrop).rd p f =
      ((s.noteDrop p who why).wr p (PG_INT intWrDrop) 1).rd p f := fun f hf =>
    ((State.Reports.refl [] _).when fun _ ht => ht.request).rd List.not_mem_nil
      (pendKey_key hp (by revert f; decide))
  have hrd : ∀ f ∈ dropFields, (s.drop p who why addr).rd p f =
      ((s.noteDrop p who why).wr p (PG_INT intWrDrop) 1).rd p f := fun f hf => (hden f hf).trans (hset f hf)
  refine ⟨?_, ?_, ?_⟩
  · exact (hrd _ (by decide)).trans ((State.rd_wr_bit _ _ (by decide)).trans ((State.rd_wr_bit _ _ (by decide)).trans
      (State.rd_wr_fit _ _ hw)))
  · exact (hrd _ (by decide)).trans ((State.rd_wr_bit _ _ (by decide)).trans (State.rd_wr_fit _ _ (initCode_lt who)))
  · unfold State.is
    rw [hrd _ (by decide), State.rd_wr_fit _ _ (by decide)]
    rfl

/-- Where no interrupt of dropped writes is enabled and the cause is not 4, the record is all that a drop is. -/
theorem State.drop_onlyKeys {s : State} {p : Page} {who : Initiator} {why : Nat} (addr : Nat) (h4 : why ≠ 4)
    (he : s.is p (PG_INT_ENABLE_EN.nth intWrDrop) = false) :
    OnlyKeys [key p PG_STATUS_DROP_WHY, key p PG_STATUS_DROP_SRC, key p (PG_INT intWrDrop)] s
      (s.drop p who why addr) := by
  have hen : (s.noteDrop p who why).is p (PG_INT_ENABLE_EN.nth intWrDrop) = false := by
    unfold State.is State.noteDrop at *
    rwa [State.rd_wr_bit _ _ (by decide), State.rd_wr_bit _ _ (by decide)]
  have hint : (s.noteDrop p who why).setInt p intWrDrop = (s.noteDrop p who why).wr p (PG_INT intWrDrop) 1 := by
    simp [State.setInt, hen]
  rw [State.drop_eq, decide_eq_false h4, State.when_false, hint]
  exact (((OnlyKeys.refl _ s).wr (by simp)).wr (by simp)).wr (by simp)

/-- The causes of R50, of which 4 is that of the safety island's page. -/
theorem State.refusal_cases (s : State) (p : Page) (who : Initiator) (f : Field) :
    s.refusal p who f < 4 ∨ p.kind = .safe ∧ s.refusal p who f = 4 := by
  unfold State.refusal
  simp only
  split
  · rename_i h
    exact .inr ⟨by simpa using (Bool.and_eq_true_iff.1 h).1, rfl⟩
  · left
    split
    · decide
    · split
      · decide
      · split <;> decide

/-! ### The commands that are a write of one field -/

/-- Command `c` is a write of field `f` of page `p` by `who`: an access, whatever it then does, to a register of a page
that carries the header. -/
structure IsWrite (c : Instr) (who : Initiator) (p : Page) (f : Field) : Prop where
  run : ∀ s, ∃ act, exec c s = .next (s.access who p f act)
  page : p.hasHeader = true
  place : f.bit < 0x8000

/-- A write of a page that exists and carries the header; on any other page the command does nothing. -/
theorem IsWrite.onPage {c : Instr} {who : Initiator} {p : Page} {f : Field} {act : State → State → State}
    (h : p.hasHeader = true) (hf : f.bit < 0x8000)
    (he : ∀ s, exec c s = s.onPage p fun t => t.access who p f (act t)) : IsWrite c who p f :=
  ⟨fun s => ⟨act s, by rw [he]; unfold State.onPage; rw [show (_ && _) = true from h]; rfl⟩, h, hf⟩

theorem isLane_hasHeader {p : Page} (h : isLane p = true) : p.hasHeader = true := by
  obtain ⟨k, i⟩ := p
  cases k <;> simp_all [isLane, PageKind.pads, Page.hasHeader, PageKind.hasHeader]

theorem isLanePage_of_isLane {p : Page} (h : isLane p = true) : isLanePage p = true := by
  obtain ⟨k, i⟩ := p
  cases k <;> simp_all [isLane, PageKind.pads, isLanePage]

/-- A page of a kind with a header is one of those that exist. -/
theorem hasHeader_of_lt {k : PageKind} {n : Nat} (h : k.hasHeader = true) (hn : n < k.count) :
    (⟨k, n⟩ : Page).hasHeader = true := by
  simp [Page.hasHeader, h, hn]

theorem writesField_isWrite {c : Instr} {who : Initiator} {p : Page} {f : Field} (hw : c.wellFormed = true)
    (h : writesField c = some (who, p, f)) : IsWrite c who p f := by
  cases c with
  | chipSoftwareReset | mgmtReset | watchdogKick | pcCntClr | swOutRestart | swCapRd | swCntClr | portRst | peCntClr
  | brRselWrite | brCntClr | wakeReq | uhCntClr | memCntClr | enterD2 | enterYoyo | enterOff | padRelease | aonCntClr
  | otpProgram | measExtend | sign | load | derive | zeroise | zeroiseAll | challenge | dbgRespPush | verify | bistRunGo
  | bistCntClr | mbCntClr =>
    cases h
    exact ⟨fun _ => ⟨_, rfl⟩, by decide, by decide⟩
  | modeChange _ n | tsyncStepReq _ n | lkCntClr _ n | almCntClr _ n | pcaCntClr _ n | pcaRelease _ n | holdReq _ n
  | resumeReq _ n | dispCntClr _ n | doutRestart _ n | doutRetrain _ n | doutCntClr _ n | ethBindChange _ n
  | ethCntClr _ n | hardReset _ n | softReset _ n | errRecovery _ n | swapPr _ n | swapDr _ n | swapVconn _ n
  | eprEnter _ n | eprExit _ n | pdTxSend _ n | pdCntClr _ n | go _ n | abort _ n | done _ n =>
    cases h
    exact ⟨fun _ => ⟨_, rfl⟩, hasHeader_of_lt rfl n.isLt, by decide⟩
  | peLinkReset _ l =>
    cases h
    exact ⟨fun _ => ⟨_, rfl⟩, by decide, by simp [Field.nth, PE_LINK_CFG_RESET, Field.arr]; omega⟩
  | txTail _ n q | rxTail _ n q =>
    cases h
    exact ⟨fun _ => ⟨_, rfl⟩, hasHeader_of_lt rfl n.isLt,
      by simp [Field.nth, ETH_Q_TX_PTR_TAIL, ETH_Q_RX_PTR_TAIL, Field.arr]; omega⟩
  | blockSoftReset | levelChange | intForce | intEnableWrite | intAck | errAck | extLock | allLock =>
    cases h
    exact .onPage hw (by decide) fun _ => rfl
  | enable =>
    cases h
    exact .onPage hw (show (PG_CTRL_ENABLE 0).bit < 0x8000 by decide) fun _ => rfl
  | cancel _ _ pair =>
    cases pair with
    | true => cases h
    | false =>
      cases h
      exact .onPage hw (by decide) fun _ => rfl
  | retrain _ q | lnCntClr _ q =>
    cases h
    exact ⟨fun s => ⟨_, if_neg (by simp [isLanePage_of_isLane hw])⟩, isLane_hasHeader hw, by decide⟩
  | _ => cases h

section
variable {c : Instr} {s : State} {who : Initiator} {p : Page} {f : Field}

/-- A write of a gated page is recorded and does nothing else (R14). -/
theorem IsWrite.gated_records (h : IsWrite c who p f) (ha : s.awake) (hg : s.gated p = true) :
    Gives c s (s.RecordsGated (p.base + f.bit / 32 * 4) true) := by
  obtain ⟨act, hact⟩ := h.run s
  have hb := base_lt_of_hasHeader h.page
  have hf := h.place
  exact ⟨_, by rw [hact, State.access_gated who f act ha hg], s.gatedAccess_records true (by omega)⟩

/-- A write of a block register during the page's soft reset does nothing (R41). -/
theorem IsWrite.inReset_stays (h : IsWrite c who p f) (ha : s.awake) (hg : s.gated p = false)
    (hr : s.is p PG_STATUS_IN_RESET = true) (hb : 0x400 ≤ f.bit) : exec c s = .next s := by
  obtain ⟨act, hact⟩ := h.run s
  rw [hact, State.access_inReset who act ha hg (by rwa [headerOf_of_hasHeader h.page]) (by simp [blockBit, hb])]

/-- A refused write is dropped, with its cause (R50). -/
theorem IsWrite.refused_drops (h : IsWrite c who p f) (ha : s.awake) (hg : s.gated p = false)
    (hr : s.is p PG_STATUS_IN_RESET = false ∨ f.bit < 0x400) (hf : s.refusal p who f ≠ 0) :
    exec c s = .next (s.drop p who (s.refusal p who f) (p.base + f.bit / 32 * 4)) := by
  obtain ⟨act, hact⟩ := h.run s
  have hhdr : p.kind.hasHeader = true := (Bool.and_eq_true_iff.1 h.page).1
  have hr : s.is (headerOf p) PG_STATUS_IN_RESET = false ∨ blockBit p f.bit = false := by
    rw [headerOf_of_hasHeader h.page]
    exact hr.imp_right fun hb => by simp [blockBit, hhdr, hb]
  rw [hact, State.access_refused act ha hg hr hf, headerOf_of_hasHeader h.page]

end

/-! ### GATED_ACCESS -/

/-- The source of gated accesses reads 1 once it was raised, where its register fits in its bit. -/
theorem State.gatedAccess_src {s : State} (a : Nat) (w : Bool) (h : s.rd glb (PG_ERR_STATUS_SRC.nth 0) < 2) :
    (s.gatedAccess a w).rd glb (PG_ERR_STATUS_SRC.nth 0) = 1 := by
  have hnote : (s.noteGated a w).rd glb (PG_ERR_STATUS_SRC.nth 0) = s.rd glb (PG_ERR_STATUS_SRC.nth 0) :=
    (State.rd_wr_bit _ _ (by decide)).trans ((State.rd_wr_bit _ _ (by decide)).trans (State.rd_wr_bit _ _ (by decide)))
  have hk : errKey glb (key glb (PG_ERR_STATUS_SRC.nth 0)) = false := by decide
  rcases State.raiseBy_spares (s := s.noteGated a w) (reset := State.softReset) (n := 0) hk (by decide)
    fun _ _ _ hv ht => ht.sevEffect_notify rfl hk hv with ⟨hsrc, g⟩ | g
  · have hne : s.rd glb (PG_ERR_STATUS_SRC.nth 0) ≠ 0 := hnote ▸ bne_iff_ne.1 hsrc
    have hsame : (s.gatedAccess a w).rd glb (PG_ERR_STATUS_SRC.nth 0) = _ := g.rd.trans hnote
    omega
  · exact g.rd.trans (State.rd_wr_fit _ _ (by decide))

/-- GATED_ACCESS (R14, R16) in D0 or D1, as O7 says it, where the source's register fits in its bit. -/
theorem gatedAccess_gives {s : State} (who : Initiator) {a : Fin 33554432} (w : Bool) {p : Page}
    (hp : pageAt a = some p) (hg : s.gated p = true) (ha : s.awake) (h : s.rd glb (PG_ERR_STATUS_SRC.nth 0) < 2) :
    Gives (.gatedAccess who a w) s fun t => t.rd glb (PG_ERR_STATUS_SRC.nth 0) = 1 ∧ s.RecordsGated a w t ∧
      (w = false → ∃ l, t.out = l ++ [.readData who 0]) := by
  have hexec : exec (.gatedAccess who a w) s =
      .next ((s.gatedAccess a w).when (!w) fun s => s.send (.readData who 0)) := by
    change execGatedAccess who a w s = _
    simp only [execGatedAccess, hp, hg, State.when_true, State.hostWake_awake _ who ha]
  have hrec := s.gatedAccess_records w a.isLt
  have hsrc := State.gatedAccess_src a w h
  refine ⟨_, hexec, ?_⟩
  clear hexec
  generalize s.gatedAccess a w = u at hrec hsrc ⊢
  cases w with
  | true => exact ⟨hsrc, hrec, nofun⟩
  | false =>
    obtain ⟨haddr, hwrite, hpend, hrest, hregs⟩ := hrec
    exact ⟨hsrc, ⟨haddr, hwrite, hpend, hrest, hregs⟩, fun _ => ⟨_, rfl⟩⟩

/-! ### A source whose register holds more than its bit -/

/-- The state after reset, but that the register of GATED_ACCESS's source bit holds 2, which no write leaves there. -/
def overfullSource : State := { State.reset with regs := [(key glb (PG_ERR_STATUS_SRC.nth 0), 2)] }

/-- The source is pending already and stays as it is. -/
theorem overfullSource_gatedAccess :
    exec (.gatedAccess .marionette 0x30000 true) overfullSource = .next (overfullSource.gatedAccess 0x30000 true) ∧
      (overfullSource.gatedAccess 0x30000 true).rd glb (PG_ERR_STATUS_SRC.nth 0) = 2 :=
  ⟨rfl, by decide⟩

end Sys2Proof.Machine

/-- Settles O57: the command is an access of its field, and what an access does that is gated, in reset or refused is
said once for all of them. The code of an initiator in DROP_SRC, for the Ngunov island and JTAG, is the model's choice
(log 55, log 12), as is the one cause that is recorded (log 14). -/
theorem writesWithoutRightHaveNoEffect : Obligations.WritesWithoutRightHaveNoEffect := by
  open Sys2Proof.Machine in
  intro c s who p f hc hw ha
  have h := writesField_isWrite hw hc
  refine ⟨fun hg => ?_, h.inReset_stays ha, fun hg hr hf => ?_⟩
  · obtain ⟨t, ht, haddr, hwrite, hsrc, hrest, hregs⟩ := h.gated_records ha hg
    exact ⟨t, ht, haddr, hwrite, hsrc, hrest, hregs⟩
  · have hcause := s.refusal_cases p who f
    have h4 : s.refusal p who f = 4 → p = safe := fun e =>
      eq_safe_of_hasHeader h.page (hcause.resolve_left (by omega)).1
    obtain ⟨hwhy, hsrc, hint⟩ := s.drop_shows who (p.base + f.bit / 32 * 4) h.page (by omega) h4
    exact ⟨_, h.refused_drops ha hg hr hf, hwhy, hsrc, hint, fun hp he =>
      State.drop_onlyKeys _ (fun e => hp (h4 e)) he⟩

/-- Refutes O7: the statement is of every state, also of one whose register for the source of GATED_ACCESS holds 2, more
than its one bit. The source is then pending before the access and stays as it is, so that it does not read 1. Where the
register fits in its bit, as every write leaves it, the statement holds: gatedAccess_gives. -/
theorem not_gatedAccessesAreRecorded : ¬ Obligations.GatedAccessesAreRecorded := by
  open Sys2Proof.Machine in
  intro h
  obtain ⟨t, ht, -, -, hsrc, -⟩ := h overfullSource .marionette 0x30000 true sec (by decide) (by decide) (by decide)
  obtain ⟨hexec, hrd⟩ := overfullSource_gatedAccess
  rw [hexec] at ht
  cases ht
  rw [hrd] at hsrc
  exact absurd hsrc (by decide)

end
